-- ==== Sys2Proof/Word.lean ====
section
/-! DEFINITION. The words of the register space (R9) and the bytes of memory, frames and records. -/

namespace Sys2Proof

/-- A register word. -/
abbrev Word := BitVec 32

/-- A byte of memory, of a frame or of a record. -/
abbrev Byte := BitVec 8

end Sys2Proof
end

