-- ==== Sys2Proof/Syntax.lean ====
section
/-! DEFINITION. The commands the block takes: one constructor of `Instr` per row of spec/opcode_table.json, with the
row's operands. A register write names its master; an event from outside carries what the event brings (a level, a
measured sample, the content of a frame, the result of a transfer). -/

namespace Sys2Proof

/-- The fabric masters (R27), and the option loader, which writes the shadows as master 0x0F (R218). -/
inductive Master
  | keeper
  | acore (n : Fin 4)
  | barrowApp
  | barrowKeep
  | vfetch
  | eth (n : Fin 2)
  | hspi
  | debug
  | loader
  deriving DecidableEq, Repr

/-- The resources a directive names (R102). -/
inductive Resource
  | mode
  | page
  | motor (k : Fin 6)
  | loop (i : Fin 32)
  | hv (c : Fin 3)
  | fuser
  | beam (b : Fin 4)
  | profile (p : Fin 8)
  | fabric
  | throttle
  | shutdown
  | fault (f : BitVec 8)
  | tillRelease
  | time
  | firmware
  | options
  | diag (o : Fin 16)
  deriving DecidableEq, Repr

/-- One access on the fabric as the first-error capture describes it (R163, R164): KIND 0 read, 1 write, 2 fetch,
3 atomic; SIZE is log2 of the bytes. -/
structure Access where
  master : Master
  addr   : BitVec 40
  kind   : BitVec 2
  size   : BitVec 3
  deriving DecidableEq, Repr

/-- A request that arrives at the reservation wheel (R401); `parityBad` says that its command or address channel fails its parity
check (R28, R412). -/
structure WheelReq where
  master : Master
  addr   : BitVec 40
  kind   : BitVec 2
  parityBad : Bool
  deriving DecidableEq, Repr

/-- A coherence request that arrives at an L2 bank (R389): a writeback, an I/O-coherent write of bytes into a line, a
core's ownership request with the store that caused it, or a core's read request. `line` is the address divided by 64. -/
inductive CohReq
  | writeback (c : Fin 4) (line : Nat)
  | ioWrite (m : Master) (line : Nat) (ofs : Nat) (data : List Byte)
  | own (c : Fin 4) (line : Nat) (ofs : Nat) (data : List Byte)
  | read (c : Fin 4) (line : Nat)
  deriving DecidableEq, Repr

/-- A measure of a CMD pin (R296): the 12-bit code of its voltage (4095 at 3.3 V), a duty as the high part of a period, or a
frequency in Hz. -/
inductive PinSample
  | analogue (code : BitVec 12)
  | duty (high period : Nat)
  | freq (hz : Nat)
  deriving DecidableEq, Repr

/-- A BD edge (R262, R264): the input (BD0 or BD1) and the polarity it has, and the CK_BEAM cycles since the edge accepted before. -/
structure BdEdge where
  bd1     : Bool
  falling : Bool
  cycles  : BitVec 24
  deriving DecidableEq, Repr

/-- A piece of FW_STAGE DATA (R134): the counter whose frame it is and how many bytes of it are programmed within t_cmd (R97). -/
structure PieceDone where
  counter : Fin 8
  done    : Nat
  deriving DecidableEq, Repr

/-- What a resolver interface measures (R292, R293): the amplitude per mille of nominal and the tracking error in 0.1°. -/
structure ResSample where
  amp : Nat
  err : Nat
  deriving DecidableEq, Repr

/-- The inputs that a channel samples every 100 µs besides its shunts (R293, R296): its CMD pin and its resolver. -/
structure MotInputs where
  pin : Option PinSample
  res : ResSample
  deriving DecidableEq, Repr

/-- What an H-die status frame carries besides the H-die state the model holds (R22, R149, R341, R510): the ENV_LIMIT
bits, the level conditions of faults 0x80 to 0x8F (bit j: fault 0x80 + j) and the ADC channels refreshed (channel, value,
valid), and the H-die's dissipation estimate in mW (R341). -/
structure StatusBody where
  limit   : BitVec 21
  present : BitVec 16
  adc     : List (Fin 36 × Word × Bool)
  estimate : Nat
  deriving DecidableEq, Repr

/-- The W1C failure registers of PWRSEQ (R199). -/
inductive PsFailReg
  | lo | hi | ext
  deriving DecidableEq, Repr

/-- The commands: one constructor per row of spec/opcode_table.json. -/
inductive Instr
  /-- RING (R90). The owner writes RING to a counter's doorbell, which posts the request, latches STAMP and updates LAST_TAG. -/
  | ring (m : Master) (n : Fin 8) (v : Word)
  /-- ABANDON (R90). The owner writes ABANDON to withdraw a request that has not yet been taken, returning the counter to IDLE with no effect. -/
  | abandon (m : Master) (n : Fin 8) (v : Word)
  /-- ACK (R90). The owner writes ACK to acknowledge a reply, returning the counter from DONE to IDLE. -/
  | ack (m : Master) (n : Fin 8) (v : Word)
  /-- CNT_TAKE (R89). The Keeper writes TAKE, moving a posted counter to TAKEN, and Sinov checks the frame. -/
  | cntTake (m : Master) (n : Fin 8)
  /-- CNT_DONE (R90). The Keeper writes DONE, moving a counter from TAKEN to DONE once its reply is written. -/
  | cntDone (m : Master) (n : Fin 8)
  /-- CNT_FERR_READ (R6). A read of CNT_FERR returns the FRAME_ERR count and clears it. -/
  | cntFerrRead (m : Master) (n : Fin 8)
  /-- COUNTER_STALE (R98). A counter that has stayed POSTED for 10 ms sets STALE and raises CNT_STALE. -/
  | counterStale (n : Fin 8)
  /-- CNT_BAD_FRAMES (R111). The eighth consecutive FRAME_ERR reply on one counter raises CNT_BAD_FRAMES. -/
  | cntBadFrames (n : Fin 8)
  /-- CONFLICT_WINDOW_CLOSE (R101). A resource's conflict window closes, and its highest-ranked directive executes. -/
  | conflictWindowClose (r : Resource)
  /-- GET_INFO (R115). Sinov returns part, revision, version, device, option and boot information. -/
  | getInfo (n : Fin 8)
  /-- GET_MODE (R115). Sinov returns the mode, its sub-state and any outstanding admission or page. -/
  | getMode (n : Fin 8)
  /-- SEAL (R41). SEAL moves the device from SERVICE to READY once its seal record commits. -/
  | sealPlan (n : Fin 8)
  /-- UNSEAL (R42). UNSEAL verifies any required token and moves READY to SERVICE, writing a record of the attempt. -/
  | unsealPlan (n : Fin 8)
  /-- SLEEP (R43). SLEEP arms the wake sources and leads the device into DORMANT. -/
  | sleep (n : Fin 8)
  /-- RESET (R118). The RESET command requests a SYSTEM or WARM reset with RST_CAUSE 0x07. -/
  | reset (n : Fin 8)
  /-- GET_RESET_CAUSE (R230). Sinov returns RST_CAUSE, RST_KIND, RST_TIME and RST_COUNT. -/
  | getResetCause (n : Fin 8)
  /-- ADMIT_PAGE (R53). Sinov evaluates a page descriptor against the seven admission checks and issues a handle or refuses it. -/
  | admitPage (n : Fin 8)
  /-- START_PAGE (R60). Sinov re-evaluates A5 and A7 for an admitted page, then arms the docket and enters PRINTING. -/
  | startPage (n : Fin 8)
  /-- SPOIL_PAGE (R69). The host spoils the page in flight from the next facet boundary. -/
  | spoilPage (n : Fin 8)
  /-- GET_DOCKET (R121). Sinov returns the docket of the most recent page, with its commit state. -/
  | getDocket (n : Fin 8)
  /-- SET_FACET_PROFILE (R247). Sinov checks a facet profile's segments and loads them into PIXRAMP. -/
  | setFacetProfile (n : Fin 8)
  /-- SET_MOTOR (R308). Sinov checks a motor channel's configuration and writes it to the MOTORk bank. -/
  | setMotor (n : Fin 8)
  /-- MOTOR_STOP (R306). Sinov begins a channel's stop in the mode requested or configured. -/
  | motorStop (n : Fin 8)
  /-- SET_LOOP (R321). Sinov configures a general-purpose loop and commits the schedule. -/
  | setLoop (n : Fin 8)
  /-- SET_HV (R324). Sinov converts an HV set-point to feedback units and configures that channel's loop. -/
  | setHv (n : Fin 8)
  /-- SET_FUSER (R334). Sinov configures the heater loops, their enables and the duty request. -/
  | setFuser (n : Fin 8)
  /-- SET_LASER (R277). Sinov configures a beam's enable, APC loop, ceiling request, delay and initial drive. -/
  | setLaser (n : Fin 8)
  /-- SET_FABRIC (R125). Sinov writes the VIDEO and ENGINE slot allotment of the wheel. -/
  | setFabric (n : Fin 8)
  /-- GET_STEELYARD (R352). Sinov returns node temperatures, limits, sensor readings, clamp and disagreement bits, and the evaluation count. -/
  | getSteelyard (n : Fin 8)
  /-- SET_THROTTLE (R352). Sinov sets a throttle target's request, hysteresis and dwell, and replies with the effective value. -/
  | setThrottle (n : Fin 8)
  /-- GET_RAILS (R199). Sinov returns the domain and rail states and the VIN and VAUX readings. -/
  | getRails (n : Fin 8)
  /-- SET_SHUTDOWN_TABLE (R128). Sinov replaces the whole shut-down table in one step. -/
  | setShutdownTable (n : Fin 8)
  /-- GET_FAULTS (R164). Sinov returns the raised and unacknowledged bitmaps and the first-error capture. -/
  | getFaults (n : Fin 8)
  /-- ACK_FAULT (R129). Sinov marks a fault acknowledged. -/
  | ackFault (n : Fin 8)
  /-- CLEAR_FAULT (R129). Sinov clears a fault whose condition is absent, stops its grace timer, and records the clear where the class requires. -/
  | clearFault (n : Fin 8)
  /-- SET_FAULT_CLASS (R130). Sinov changes a fault's class, action and grace until the next non-BLOCK reset. -/
  | setFaultClass (n : Fin 8)
  /-- TILL_READ (R368). Sinov returns half of a Till record with its commit state. -/
  | tillRead (n : Fin 8)
  /-- TILL_APPEND (R367). Sinov commits a host record into the Till. -/
  | tillAppend (n : Fin 8)
  /-- TILL_STATUS (R377). Sinov returns the ledger pointers, free count, reservation, flags and head chain value. -/
  | tillStatus (n : Fin 8)
  /-- TILL_RELEASE (R131). Sinov frees records up to UPTO_SEQ by committing a release record. -/
  | tillRelease (n : Fin 8)
  /-- TIME_GET (R132). Sinov returns a torn-free snapshot of RTC time and DEVTIME. -/
  | timeGet (n : Fin 8)
  /-- TIME_SET (R132). Sinov applies new RTC seconds and then commits a time-change record. -/
  | timeSet (n : Fin 8)
  /-- TIME_LOST_CLEAR (R132). Sinov clears TIME_LOST when TIME_VALID is set and records the clear. -/
  | timeLostClear (n : Fin 8)
  /-- MEASURE_GET (R379). Sinov returns the requested measurement registers. -/
  | measureGet (n : Fin 8)
  /-- QUOTE (R380). Sinov returns a signed quote over the device state, ledger head and selected measurements. -/
  | quote (n : Fin 8)
  /-- FW_STAGE_BEGIN (R135). FW_STAGE BEGIN erases the staging slot of an image, continuing a partial erase where one applies. -/
  | fwStageBegin (n : Fin 8) (erased : Nat)
  /-- FW_STAGE_DATA (R134). FW_STAGE DATA programs image bytes at the next offset of the staging slot. -/
  | fwStageData (n : PieceDone)
  /-- FW_VERIFY (R136). Sinov digests the staged image and marks the slot verified when it matches the expected digest. -/
  | fwVerify (n : Fin 8)
  /-- FW_COMMIT (R137). Sinov records a verified image and selects its slot for the next cold reset. -/
  | fwCommit (n : Fin 8)
  /-- OPTION_WRITE_OPEN (R138). OPTION_WRITE OPEN clears the option buffer and its record of loaded bytes. -/
  | optionWriteOpen (n : Fin 8)
  /-- OPTION_WRITE_LOAD (R138). OPTION_WRITE LOAD stores bytes into the option buffer. -/
  | optionWriteLoad (n : Fin 8)
  /-- OPTION_WRITE_COMMIT (R138). OPTION_WRITE COMMIT checks the buffer, records it, and writes copy B and then copy A. -/
  | optionWriteCommit (n : Fin 8) (copies : Nat)
  /-- DIAG_OUTPUT (R140). Sinov starts, changes or stops a diagnostic engine output in SERVICE. -/
  | diagOutput (n : Fin 8)
  /-- DIAG_READ (R510). Sinov returns the ADC value of a measured channel. -/
  | diagRead (n : Fin 8)
  /-- ADMISSION_LAPSE (R59). An admission lapses 1,000 ms after its reply and frees its reserved records. -/
  | admissionLapse
  /-- DIAG_OUTPUT_STOP (R140). A diagnostic output stops when its DWELL or the 10 s limit expires. -/
  | diagOutputStop (out : Fin 16)
  /-- RESET_CMD_ASSERT (R118). The reset of a RESET command asserts 100 µs after the counter reaches DONE. -/
  | resetCmdAssert
  /-- SLEEP_POWER_DOWN (R194). The power-down of SLEEP begins 100 µs after DONE, switching domains off in table order into DORMANT. -/
  | sleepPowerDown
  /-- DK_ARM (R61). Setting DK_CTRL.ARM starts the tally counters, latches DK_T_START and enters PRINTING. -/
  | dkArm (m : Master)
  /-- DK_SPOIL (R69). Setting DK_CTRL.SPOIL latches a host spoil from the next facet boundary. -/
  | dkSpoil (m : Master)
  /-- DK_CLOSE (R67). Setting DK_CTRL.CLOSE closes the docket and computes DK_BLANKED. -/
  | dkClose (m : Master)
  /-- DK_RELEASE (R65). Setting DK_CTRL.RELEASE returns a closed docket to IDLE and resets the counters. -/
  | dkRelease (m : Master)
  /-- FACET_END (R266). A facet ends when the most-delayed beam's last pixel ends, and the tally counters count its lines. -/
  | facetEnd
  /-- TOP_OF_FORM (R301). The media channel reaches compare 0, which raises top of form and sets the docket's zero. -/
  | topOfForm
  /-- CLOSE_POINT (R301). The media channel reaches compare 1, which is the close point of the page. -/
  | closePoint
  /-- SAFE_STOP_COMPLETE (R165). The safe stop completes when every channel has stayed below 60 rpm for 10 ms. -/
  | safeStopComplete
  /-- SAFE_STOP_TIMEOUT (R72). A safe stop not complete 2 s after the spoil closes the docket with TIMEOUT_CLOSED. -/
  | safeStopTimeout
  /-- CONTROL_FRAME (R21). The H-die receives an engine-link control frame and acts on it when its CRC and sequence are good. -/
  | controlFrame (crcOk : Bool) (seq : BitVec 16)
  /-- STATUS_FRAME (R21). The D-die receives an H-die status frame and acts on it when its CRC and sequence are good. -/
  | statusFrame (crcOk : Bool) (seq : BitVec 16) (body : StatusBody)
  /-- SAFE_EXIT (R151). A SAFE_EXIT frame takes the H-die out of its safe state after 1,000 valid control frames. -/
  | safeExit
  /-- HDIE_LINK_RESTORED (R151). The H-die completes a count of 1,000 consecutive valid control frames. -/
  | hdieLinkRestored
  /-- HDIE_LINK_TIMEOUT (R150). The H-die link timer expires with no valid control frame, and the H-die latches its safe state. -/
  | hdieLinkTimeout
  /-- ENGLINK_LOSS (R152). The D-die has received no valid status frame for 20 µs, or a status frame reports SAFE without ENG_HOLD, and raises ENGLINK_LOSS. -/
  | englinkLoss
  /-- ENGLINK_RECOVERED (R152). 1,000 consecutive valid status frames end the ENGLINK_LOSS condition. -/
  | englinkRecovered
  /-- HDIE_SELF_RESET (R146). The H-die resets on its own, its envelope values become zero, and HDIE_RESET is raised. -/
  | hdieSelfReset
  /-- FWD_CLOCK_LOW (R241). The forwarded clock falls below 700 MHz, and the H-die enters its safe state. -/
  | fwdClockLow
  /-- ENG_REL (R214). The Keeper writes ENG_REL, which clears ENG_HOLD. -/
  | engRel (m : Master)
  /-- LD_CURRENT_TRIP (R147). A laser's measured current exceeds 1.05 times its envelope, and the laser is switched off and latched off. -/
  | ldCurrentTrip (b : Fin 4)
  /-- LD_ONTIME_TRIP (R271). A beam's lit time reaches ENV_LD_ON within a BD period, and all lasers are forced off. -/
  | ldOntimeTrip (b : Fin 4)
  /-- HTR_DUTY_HOLD (R327). A heater's conducting time reaches its duty envelope in the sliding window, and the heater is held off. -/
  | htrDutyHold (h : Fin 2)
  /-- HTR_STUCK_TRIP (R147). Heater current persists for 10 ms while the heater is commanded off, and both heater enables are cut. -/
  | htrStuckTrip (h : Fin 2)
  /-- TSF_TRIP (R329). The TSF pin stays beyond its limits for the 1 ms filter, and both heaters are switched off. -/
  | tsfTrip (mv : BitVec 12)
  /-- PHASE_CURRENT_TRIP (R147). A phase current exceeds 1.25 times its envelope, and the channel goes to TRIPPED with all gates off. -/
  | phaseCurrentTrip (k : Fin 6)
  /-- HV_OVERVOLT_TRIP (R147). HV feedback stays above 1.10 times its envelope for 100 µs, and that channel is switched off. -/
  | hvOvervoltTrip (c : Fin 3)
  /-- OVERSPEED_TRIP (R309). A channel's speed stays above 1.05 times its envelope for 5 ms, and the channel brakes under SHORT_BRAKE. -/
  | overspeedTrip (k : Fin 6)
  /-- GRACE_EXPIRE (R154). A fault's grace timer expires, and its escalation action begins. -/
  | graceExpire (f : BitVec 8)
  /-- FH_ACK (R164). A Keeper write of FH_CMD with OP ACK acknowledges a fault. -/
  | fhAck (m : Master) (f : BitVec 8)
  /-- FH_CLEAR (R164). A Keeper write of FH_CMD with OP CLEAR clears a fault whose level source is absent. -/
  | fhClear (m : Master) (f : BitVec 8)
  /-- FH_RAISE (R164). A Keeper write of FH_CMD with OP RAISE raises a fault with an ID from 0xE0 to 0xFF. -/
  | fhRaise (m : Master) (f : BitVec 8)
  /-- FE_CLEAR (R163). A Keeper write of FE_CLEAR clears the first-error capture and FE_OVERFLOW. -/
  | feClear (m : Master)
  /-- PARITY_SCAN (R223). The hardware checks the parity of every critical register once per millisecond. -/
  | parityScan (bad : Option (BitVec 8 × BitVec 16))
  /-- VIN_START (R171). VIN rising through the start threshold begins the pre-regulator soft-start. -/
  | vinStart
  /-- SOFT_START_DONE (R171). The pre-regulator completes its soft-start 2.0 ms after the start comparator trips. -/
  | softStartDone
  /-- VAUX_GOOD (R171). VAUX is good after it has stayed above 4.75 V for 50 µs. -/
  | vauxGood
  /-- AO_POR_RELEASE (R171). The AO domain's POWER_ON reset is released 100 µs after VAUX and VDD_AO are good. -/
  | aoPorRelease
  /-- BROWN_OUT (R202). VIN falls through the brown-out threshold, which asserts a SYSTEM reset and switches everything off at once. -/
  | brownOut
  /-- PFW (R186). VIN falls through V_PFW, which cuts the engine outputs, drives nPFW low, latches the shut-down table and starts the hold-up commit. -/
  | pfw
  /-- VIN_HIGH_CROSS (R170). VIN crosses the high threshold, which sets or clears the VIN_HIGH condition. -/
  | vinHighCross (above : Bool)
  /-- VREGEN_RISE (R304). VIN rises through VREGEN, and every channel backs off to non-negative I_cmd. -/
  | vregenRise
  /-- VREGEN_FALL (R304). VIN falls below VREGEN − 0.5 V, and braking resumes. -/
  | vregenFall
  /-- VAUX_LOW_CROSS (R170). VAUX crosses 4.60 V, which sets or clears the VAUX_LOW condition. -/
  | vauxLowCross (below : Bool)
  /-- AO_SWITCH_TO_VBKP (R170). VAUX falls through 3.0 V, and the VDD_AO feed moves to VBKP. -/
  | aoSwitchToVbkp
  /-- AO_SWITCH_TO_VAUX (R375). VAUX rises through 3.2 V, and the VDD_AO feed returns to VAUX, applying any loss mark to the RTC. -/
  | aoSwitchToVaux
  /-- VBKP_LOW_CROSS (R170). VBKP crosses 2.0 V, which sets or clears the VBKP_LOW condition. -/
  | vbkpLowCross (below : Bool)
  /-- VIN_MONITOR_SAMPLE (R173). The VIN monitor samples VIN and VAUX every 100 µs. -/
  | vinMonitorSample (vin vaux : BitVec 16)
  /-- VIN_AVG_UPDATE (R173). PS_VIN_AVG is updated every 1 ms with the mean of the last 100 samples. -/
  | vinAvgUpdate
  /-- DOMAIN_SWITCH_CLOSE (R176). The sequencer closes an eligible domain's switch, in ascending number, one every 2 µs. -/
  | domainSwitchClose (d : Fin 50)
  /-- DOMAIN_GOOD (R176). A domain's power-good monitor asserts, and the domain is good. -/
  | domainGood (d : Fin 50)
  /-- DOMAIN_GOOD_TIMEOUT (R200). A domain is not good within 20 µs of its switch closing and has failed. -/
  | domainGoodTimeout (d : Fin 50)
  /-- DOMAIN_PG_DROP (R200). A domain's power-good drops while it is on, and the domain has failed. -/
  | domainPgDrop (d : Fin 50)
  /-- DOMAIN_SWITCH_OFF (R177). A domain is switched off after its dependants, once its pending accesses and flushes have completed. -/
  | domainSwitchOff (d : Fin 50)
  /-- SEQPG_RISE (R180). A rail's SEQPG input rises and starts its settle time. -/
  | seqpgRise (r : Fin 12)
  /-- RAIL_SETTLED (R180). A rail's SEQPG has stayed high for its SETTLE time, and the rail is good. -/
  | railSettled (r : Fin 12)
  /-- RAIL_TIMEOUT (R180). A rail's SEQPG does not rise within its TIMEOUT, and the rail has failed. -/
  | railTimeout (r : Fin 12)
  /-- SEQPG_DROP (R200). A rail's SEQPG falls while it is on, and the rail has failed. -/
  | seqpgDrop (r : Fin 12)
  /-- PS_REQ_WRITE (R177). The Keeper writes PS_REQ, which requests domains on or off. -/
  | psReqWrite (m : Master) (hi : Bool) (v : Word)
  /-- PS_FAIL_CLEAR (R199). A write of 1 to a PS_FAIL or PS_EXT_FAIL bit allows that domain or rail to be powered again. -/
  | psFailClear (m : Master) (which : PsFailReg) (v : Word)
  /-- TPFW_EXPIRE (R189). tPFW after detection, the timed shut-down begins. -/
  | tpfwExpire
  /-- SHUTDOWN_ENTRY_DUE (R189). A shut-down table entry's delay expires, and its target is switched off. -/
  | shutdownEntryDue (target : Byte)
  /-- TREC_EXPIRE (R187). t_rec = 8 ms elapses after PFW or ESC_OFF. -/
  | trecExpire
  /-- VIN_RESTORED (R191). VIN has stayed above V_PFW + 1.0 V for 10 ms, and a new power-up starts with a SYSTEM or POWER_ON reset. -/
  | vinRestored
  /-- SEQ_HALT (R201). RETRY reaches 8, and the sequencer switches everything except AO and BKP off and enters HALTED. -/
  | seqHalt
  /-- NRST_PULSE (R212). A low pulse on nRST of 10 µs or more causes a SYSTEM reset. -/
  | nrstPulse (ns : Nat)
  /-- RESET_OFF_TIME_END (R211). The SYSTEM reset's 1 ms off time ends, and the boot phase starts. -/
  | resetOffTimeEnd
  /-- KEEPER_WATCHDOG_EXPIRE (R215). The Keeper watchdog expires and causes a WARM reset with code 0x04. -/
  | keeperWatchdogExpire
  /-- RST_KWDG_KICK (R215). A write to RST_KWDG_KICK restarts the Keeper watchdog with the key, or makes it expire with any other value. -/
  | rstKwdgKick (m : Master) (v : Word)
  /-- APP_WATCHDOG_EXPIRE (R215). The application watchdog expires and causes a cluster reset with code 0x05. -/
  | appWatchdogExpire
  /-- RST_AWDG_KICK (R215). A write of the key to RST_AWDG_KICK restarts the application watchdog. -/
  | rstAwdgKick (m : Master) (v : Word)
  /-- RST_REQ (R230). A keyed Keeper write to RST_REQ requests a SYSTEM or WARM reset. -/
  | rstReq (m : Master) (v : Word)
  /-- DEBUG_RESET (R207). A debug reset over JTAG causes a SYSTEM reset with code 0x0B. -/
  | debugReset
  /-- RST_BLK_REQ (R226). A keyed Keeper write to RST_BLK_REQ fences a block and starts its drain. -/
  | rstBlkReq (m : Master) (v : Word) (outs : List Access)
  /-- BLOCK_DRAIN_DONE (R226). All outstanding transfers of a block under IDLE_HANDSHAKE complete, and the block reset is held. -/
  | blockDrainDone (b : Fin 24)
  /-- BLOCK_DRAIN_TIMEOUT (R226). WAIT expires during a drain, the outstanding transfers complete with errors, and IDLE_TIMEOUT is raised. -/
  | blockDrainTimeout (b : Fin 24) (outs : List Access)
  /-- BLOCK_RESET_RELEASE (R226). The block reset hold ends, registers take their reset values, and held requests proceed. -/
  | blockResetRelease (b : Fin 24)
  /-- LOADER_ENTRY_READY (R218). The MRAM interface reports ready, and the loader reads, classifies and applies the option copies. -/
  | loaderEntryReady (optrec readErrA readErrB verifyOk : Bool)
  /-- LOADER_ENTRY_TIMEOUT (R218). The MRAM interface does not report ready within 2 ms, and the ROM safe record is applied. -/
  | loaderEntryTimeout (verifyOk : Bool)
  /-- LOADER_REPAIR_DONE (R220). The loader's repair write completes and is read back and compared. -/
  | loaderRepairDone (same verifyOk : Bool)
  /-- LOADER_ENV_XFER_ACK (R145). The H-die answers the envelope transfer, which is read back and locked. -/
  | loaderEnvXferAck
  /-- LOADER_ENV_XFER_TIMEOUT (R218). The H-die does not answer within 100 µs, the envelope stays zero, and HDIE_RESET is raised. -/
  | loaderEnvXferTimeout
  /-- LOAD_FAILS_LIMIT (R221). LOAD_FAILS reaches 3, and the next load applies the ROM safe record. -/
  | loadFailsLimit (verifyOk : Bool)
  /-- KEEPER_RELEASE (R214). The Keeper is released at the boot ROM on CK_BYP, and the boot ROM fills SRAM and measures the Keeper image. -/
  | keeperRelease
  /-- BOOT_SOCPLL_WAIT_END (R244). The boot ROM's wait of up to 1 ms for SOCPLL lock ends, and SOCPLL is resumed or the Keeper stays on CK_BYP. -/
  | bootSocpllWaitEnd
  /-- SINOV_POWER_UP (R38). Sinov commits any staged docket and the power-up record, then sets the mode by the power-up rule. -/
  | sinovPowerUp
  /-- CORE_RELEASE (R230). A write of RST_REL CORE bits releases application cores from reset. -/
  | coreRelease (m : Master) (v : Word)
  /-- HOLD_REL (R229). A write of HOLD_REL releases the held GPD pins to their retained configuration. -/
  | holdRel (m : Master)
  /-- KSRAM_DOUBLE_BIT (R224). A double-bit error on a Keeper SRAM read causes a SYSTEM reset with code 0x08. -/
  | ksramDoubleBit (ofs : BitVec 18)
  /-- KSRAM_SINGLE_BIT (R224). A single-bit error on a Keeper SRAM read is corrected and written back, and KSRAM_CORRECTED is raised. -/
  | ksramSingleBit (ofs : BitVec 18)
  /-- PLL_UNLOCK (R240). A PLL is declared unlocked, its consumers switch to their fallback, and its fault is raised. -/
  | pllUnlock (p : Fin 4)
  /-- PLL_LOCK (R239). A PLL is declared locked after 256 good reference cycles. -/
  | pllLock (p : Fin 4)
  /-- CKREF_LOSS (R242). No CK_REF edge arrives in 500 ns, and CKREF_LOSS is declared. -/
  | ckrefLoss
  /-- CKREF_RETURN (R242). 1,024 consecutive good CK_REF edges declare CK_REF present again. -/
  | ckrefReturn
  /-- CLK_RESUME (R243). A Keeper write of a CLK_RESUME bit returns that PLL's consumers to it while it is locked. -/
  | clkResume (m : Master) (v : Word)
  /-- PIXRAMP_RESUME (R243). A write of PR_CTRL.RESUME returns CK_PIX consumers to PIXPLL while it is locked. -/
  | pixrampResume (m : Master)
  /-- CPU_DIV_WRITE (R236). A write to CPU_DIV changes CK_CPU at the next common edge. -/
  | cpuDivWrite (m : Master) (v : Word)
  /-- AO32_STOP (R376). CK_AO32 is declared stopped after 100 µs without an edge, which latches TIME_LOST and clears TIME_VALID. -/
  | ao32Stop
  /-- RAMP_SEGMENT_END (R246). A ramp segment's duration expires, and the next segment or the final hold begins. -/
  | rampSegmentEnd
  /-- PR_CTRL_WRITE (R251). A write to PR_CTRL enables or disables the ramp and selects its profile. -/
  | prCtrlWrite (m : Master) (v : Word)
  /-- BD_EDGE_ACCEPT (R264). A BD edge inside a pulse or gate is accepted, which switches BD_BEAM off, samples the APC monitors and starts a facet in RUN. -/
  | bdEdgeAccept (edge : BdEdge) (mons : List (BitVec 12))
  /-- BD_EDGE_EXTRA (R264). A BD edge outside a gate, or a later edge in one gate, is ignored and sets BD_EXTRA. -/
  | bdEdgeExtra
  /-- BD_CHECK_TIMEOUT (R262). The check sensor's edge does not arrive within 0.5 µs of an accepted edge, and the check fails. -/
  | bdCheckTimeout
  /-- BD_GATE_CLOSE (R265). A BD gate closes with no accepted edge, which sets BD_MISS and raises BD_MISSING. -/
  | bdGateClose
  /-- ACQ_PULSE_START (R263). An acquisition pulse of BD_BEAM starts during ACQUIRE. -/
  | acqPulseStart
  /-- LINE_DUE_CHECK (R260). T_BDG after a facet's edge, the beam unit checks that all the facet's lines are present and starts emitting pixels. -/
  | lineDueCheck
  /-- LDIL_FALL (R272). The laser interlock input falls, which forces every laser drive to 0 mA and spoils a page. -/
  | ldilFall
  /-- DIAG_LASER_PULSE (R273). A diagnostic laser is lit for 10.0 µs every 1.000 ms. -/
  | diagLaserPulse (b : Fin 4)
  /-- BEAM_EN_WRITE (R276). A write of BM_CTRL.EN starts the beam unit from ARM, or puts the lasers off and SYNC to IDLE. -/
  | beamEnWrite (m : Master) (v : Word)
  /-- VIDEO_EN_WRITE (R275). A write of VF_CTRL.EN enables fetch from ARM, or stops it and empties the FIFO. -/
  | videoEnWrite (m : Master) (v : Word)
  /-- VIDEO_BURST_DONE (R259). A video fetch burst completes into the line FIFO. -/
  | videoBurstDone
  /-- VIDEO_BURST_ERROR (R261). A fetch burst receives an error response, and its line is marked bad. -/
  | videoBurstError
  /-- MOT_START (R290). MOT_CMD START runs a channel from OFF, aligning it first where required. -/
  | motStart (m : Master) (k : Fin 6)
  /-- MOT_STOP (R303). MOT_CMD STOP stops a channel in the given mode. -/
  | motStop (m : Master) (k : Fin 6) (mode : BitVec 2)
  /-- SPEED_REG_TICK (R294). Every 100 µs, the speed regulator adjusts I_cmd by ISTEP towards the set-point within the rate limits. -/
  | speedRegTick (k : Fin 6) (rpm : BitVec 16) (delta : Word) (inputs : MotInputs)
  /-- ALIGN_DONE (R290). After 200 ms of alignment, the channel takes electrical zero into MOT_OFFSET. -/
  | alignDone (k : Fin 6)
  /-- LEARN_DONE (R290). The second Z edge of encoder learning ends it, and CPR is checked and stored. -/
  | learnDone (k : Fin 6) (cpr : Nat)
  /-- Z_EDGE_MISPLACED (R292). A Z edge lies more than 4 counts from its expected position, which is a position-sensor condition. -/
  | zEdgeMisplaced (k : Fin 6)
  /-- ENCODER_AB_ERROR (R292). A and B change in the same sample, which is a position-sensor condition. -/
  | encoderAbError (k : Fin 6)
  /-- RESOLVER_OUT_OF_RANGE (R292). A resolver's amplitude or tracking error leaves its limits, which is a position-sensor condition. -/
  | resolverOutOfRange (k : Fin 6)
  /-- STALL_DETECTED (R292). I_cmd has sat at I_CLIM for 200 ms below 60 rpm, which is a position-sensor condition. -/
  | stallDetected (k : Fin 6)
  /-- BOOTSTRAP_LOW (R283). A leg's bootstrap supply falls below 7.5 V, and its high side is held off while CBOOT recharges. -/
  | bootstrapLow (k : Fin 6) (leg : Fin 3)
  /-- HIGH_SIDE_MAX_ON (R283). A high side that has been on for 100 µs is turned off for a bootstrap refresh. -/
  | highSideMaxOn (k : Fin 6) (leg : Fin 3)
  /-- BOOTSTRAP_REFRESH_END (R283). The 1 µs low-side refresh of a leg ends. -/
  | bootstrapRefreshEnd (k : Fin 6) (leg : Fin 3)
  /-- BRAKE_ENTRY (R303). A stopping channel falls below 60 rpm and enters BRAKE. -/
  | brakeEntry (k : Fin 6)
  /-- BRAKE_TO_OFF (R303). A channel that has been 100 ms below 60 rpm in BRAKE enters OFF. -/
  | brakeToOff (k : Fin 6)
  /-- AT_SPEED_LOSS (R295). AT_SPEED clears after 1 ms outside the speed band. -/
  | atSpeedLoss (k : Fin 6)
  /-- CMD_PIN_STUCK (R296). A CMD pin that stays at one level for 2 ms gives command 0 and clears CMD_VALID. -/
  | cmdPinStuck (k : Fin 6)
  /-- MEDIA_JAM_DETECT (R302). The media channel has run below 80 % of its set-point for 5 ms within a page, which is the MEDIA_JAM condition. -/
  | mediaJamDetect (k : Fin 6)
  /-- HDIE_VIN_SAMPLE (R305). Every 10 µs, the H-die samples VIN and switches DUMP by its thresholds. -/
  | hdieVinSample (mv : Nat)
  /-- LOOP_SLOT_SAMPLE (R318). In its slot, a loop samples its input and applies the hysteretic law. -/
  | loopSlotSample (n : Fin 32)
  /-- LE_COMMIT_GO (R315). A write of LE_COMMIT.GO computes a new loop schedule from the pending enables and periods. -/
  | leCommitGo (m : Master)
  /-- SCHEDULE_APPLY (R315). The committed schedule takes effect at the next frame boundary. -/
  | scheduleApply
  /-- LOOP_DWELL_EXPIRE (R319). A loop's dwell expires, so its output may change again. -/
  | loopDwellExpire (n : Fin 32)
  /-- HEATER_PERIOD_START (R325). A heater's 10 ms PWM period starts, and the heater conducts if its loop is on. -/
  | heaterPeriodStart (h : Fin 2)
  /-- HEATER_CONDUCTION_END (R325). A heater's DUTY_EFF conduction time within its period ends. -/
  | heaterConductionEnd (h : Fin 2) (mean : BitVec 16)
  /-- SY_EVALUATION (R339). Every 1 ms, the Steelyard updates every node, writes snapshots and computes throttle ceilings. -/
  | syEvaluation (meas : List Nat)
  /-- THROTTLE_DWELL_EXPIRE (R350). A throttle target's dwell after its last reduction expires. -/
  | throttleDwellExpire (t : Fin 12)
  /-- SENSOR_DISAGREE_SET (R346). 100 consecutive evaluations out of tolerance set DISAGREE for a checking sensor. -/
  | sensorDisagreeSet (t : Fin 8)
  /-- SENSOR_DISAGREE_CLEAR (R346). 100 consecutive evaluations within tolerance clear DISAGREE. -/
  | sensorDisagreeClear (t : Fin 8)
  /-- TS_SAMPLE (R344). TS0–TS7 are read every 1 ms, and invalid readings raise TS_OPEN. -/
  | tsSample (readings : List (Nat × Nat))
  /-- SY_ENABLE (R342). A write of SY_CTRL.EN checks stability and starts the model from its starting values. -/
  | syEnable (m : Master) (v : Word)
  /-- FORECAST_GO (R354). A write of SY_FC_CMD.GO requests a forecast run from the state after the next evaluation. -/
  | forecastGo (m : Master)
  /-- FORECAST_DONE (R354). The forecast completes all its steps and records each node's peak. -/
  | forecastDone
  /-- HDIE_HOT_CROSS (R347). The H-die junction sensor crosses 125 °C upward or 120 °C downward, which sets or clears HDIE_HOT. -/
  | hdieHotCross (above : Bool)
  /-- TL_COMMIT_OP (R361). TL_CMD COMMIT starts the engine writing a staged record. -/
  | tlCommitOp (m : Master) (rsvOk : Bool)
  /-- TL_COMMIT_DONE (R361). A record write ends committed or torn, and HEAD_SEQ advances on success. -/
  | tlCommitDone (ok : Bool)
  /-- TILL_STOPPED (R366). Four consecutive torn records stop the commit engine and set STOPPED. -/
  | tillStopped
  /-- TL_RELEASE_OP (R368). TL_CMD RELEASE starts the commit of a release record up to TL_UPTO. -/
  | tlReleaseOp (m : Master) (rsvOk : Bool)
  /-- TL_RELEASE_DONE (R368). A release record commits, OLDEST_SEQ advances and TL_BASE is updated. -/
  | tlReleaseDone
  /-- TL_SCAN_OP (R369). TL_CMD SCAN starts a scan of every ledger slot. -/
  | tlScanOp (m : Master)
  /-- TL_SCAN_DONE (R369). The scan completes and sets the head, oldest and base pointers. -/
  | tlScanDone
  /-- CHAIN_BREAK_FOUND (R364). The chain walk finds a mismatch and raises TILL_CHAIN_BREAK. -/
  | chainBreakFound
  /-- CHAIN_WALK_DONE (R364). The background chain walk reaches HEAD_SEQ and sets WALK_DONE. -/
  | chainWalkDone
  /-- PAIR_LO_READ (R9). A read of NAME_LO copies NAME_HI into that master's holding register. -/
  | pairLoRead (m : Master) (addr : BitVec 40)
  /-- TIME_SNAP_GO (R371). A Keeper write of TIME_SNAP.GO copies the seconds, sub-seconds and DEVTIME in one cycle. -/
  | timeSnapGo (m : Master)
  /-- TIME_APPLY_GO (R372). A Keeper write of TIME_APPLY.GO sets APPLY_PENDING. -/
  | timeApplyGo (m : Master)
  /-- TIME_APPLY_EDGE (R372). At the next CK_AO32 edge, the staged seconds are applied, TIME_VALID is set and APPLY_DT is latched. -/
  | timeApplyEdge
  /-- TIME_LOST_CLR_GO (R378). A write of TIME_LOST_CLR.GO clears TIME_LOST. -/
  | timeLostClrGo (m : Master)
  /-- RTC_SECOND (R370). TIME_SUB wraps from 0x7FFF to 0, and the seconds increase by 1. -/
  | rtcSecond
  /-- RTC_ALARM_FIRE (R373). The seconds reach RTC_ALARM while the alarm is enabled, which sets ALARM_HIT and wakes DORMANT. -/
  | rtcAlarmFire
  /-- VRET_CROSS (R374). VBKP falls below VRET while VDD_AO is on VBKP, which latches TIME_LOST and the loss mark. -/
  | vretCross
  /-- BKP_POWER_ON (R375). The BKP domain powers on with the RTC cleared, TIME_VALID 0 and TIME_LOST 1. -/
  | bkpPowerOn
  /-- SHA_START (R381). CR_SHA_CTRL START begins a SHA-256 message. -/
  | shaStart (m : Master) (v : Word)
  /-- SHA_DATA (R381). A write of CR_SHA_DATA feeds a word to the SHA engine. -/
  | shaData (m : Master) (v : Word)
  /-- SHA_FINAL (R381). CR_SHA_CTRL FINAL pads and completes the message. -/
  | shaFinal (m : Master) (v : Word)
  /-- SHA_DONE (R381). The SHA engine finishes and holds the digest. -/
  | shaDone
  /-- SIGN (R381). CR_SIGN_CTRL OP 1 signs the hash with the device key. -/
  | sign (m : Master)
  /-- VERIFY (R381). CR_SIGN_CTRL OP 2 verifies a signature against CR_VKEY. -/
  | verify (m : Master)
  /-- SIGN_DONE (R381). The signing engine completes a sign or verify. -/
  | signDone
  /-- MEXT_GO (R379). CR_MEXT_CMD GO loads or extends a measurement register. -/
  | mextGo (m : Master) (v : Word)
  /-- CBO_CLEAN (R391). cbo.clean writes a line back to memory. -/
  | cboClean (h : Fin 4) (addr : BitVec 40)
  /-- CBO_FLUSH (R391). cbo.flush writes a line back to memory and invalidates it. -/
  | cboFlush (h : Fin 4) (addr : BitVec 40)
  /-- CBO_INVAL (R391). cbo.inval discards a line without writing it back. -/
  | cboInval (h : Fin 4) (addr : BitVec 40)
  /-- L2_CLEAN_ALL (R407). L2_MAINT CLEAN_ALL cleans the whole L2 and the L1 copies. -/
  | l2CleanAll (m : Master)
  /-- L2_FLUSH_ALL (R407). L2_MAINT FLUSH_ALL flushes the whole L2 and the L1 copies. -/
  | l2FlushAll (m : Master)
  /-- L2_INVAL_ALL (R407). L2_MAINT INVAL_ALL invalidates the whole L2 and the L1 copies. -/
  | l2InvalAll (m : Master)
  /-- L2_MAINT_DONE (R407). An L2 maintenance operation completes and clears BUSY. -/
  | l2MaintDone
  /-- L2_CNT_CLR (R407). A write of L2_CNT_CLR clears the L2 counters. -/
  | l2CntClr (m : Master) (v : Word)
  /-- COHERENCE_TURN (R389). Every 8 CK_L2 cycles, a bank serves coherence requests in writeback, I/O and pointer order. -/
  | coherenceTurn (bank : Fin 4) (reqs : List CohReq)
  /-- WHEEL_SLOT (R403). At each slot, the wheel grants one request by class and ageing. -/
  | wheelSlot (reqs : List WheelReq)
  /-- ALLOTMENT_APPLY (R404). A new FAB_ALLOT takes effect at the start of the next revolution. -/
  | allotmentApply
  /-- FAB_CNT_CLR (R406). A write of FAB_CNT_CLR clears the fabric counters and FAB_VWAIT_MAX. -/
  | fabCntClr (m : Master) (v : Word)
  /-- DR_CNT_CLR (R408). A write of DR_CNT_CLR clears the DRAM counters. -/
  | drCntClr (m : Master) (v : Word)
  /-- DRAM_REFRESH (R397). The DRAM controller refreshes every bank at its interval. -/
  | dramRefresh
  /-- DRAM_TRAIN_DONE (R397). DRAM training ends, setting READY, or TRAIN_FAIL with DRAM_INIT_FAIL. -/
  | dramTrainDone (ok : Bool)
  /-- LIC_LEVEL_CHANGE (R420). A source level changes, and each context's best source and line are re-evaluated. -/
  | licLevelChange
  /-- CTX_ENTER (R421). A write to CTX_ENTER pushes a source that may pre-empt onto the context stack. -/
  | ctxEnter (m : Master) (app : Bool) (c : Fin 8) (id : BitVec 10)
  /-- CTX_EXIT (R421). A write of CTX_EXIT.GO pops the top of the context stack. -/
  | ctxExit (m : Master) (app : Bool) (c : Fin 8) (v : Word)
  /-- LIC_SWI_SET (R425). A write to LIC_SWI sets software interrupt bits. -/
  | licSwiSet (m : Master) (app : Bool) (v : Word)
  /-- LIC_SWI_CLEAR (R425). A write to LIC_SWI_CLR clears software interrupt bits. -/
  | licSwiClear (m : Master) (app : Bool) (v : Word)
  /-- MTIMECMP_WRITE (R424). A write of a timer compare word takes effect at once for mip.MTIP. -/
  | mtimecmpWrite (m : Master) (app : Bool) (h : Fin 4) (hi : Bool) (v : Word)
  /-- MTIMER_FIRE (R424). DEVTIME reaches a hart's MTIMECMP, and mip.MTIP rises. -/
  | mtimerFire (app : Bool) (h : Fin 4)
  /-- BARROW_START (R427). A write of CTRL.START checks a channel's arguments and enters RUN or ERROR. -/
  | barrowStart (m : Master) (app : Bool) (ch : Fin 16) (v : Word)
  /-- BARROW_STOP (R429). A write of CTRL.STOP stops a running channel once its outstanding requests complete. -/
  | barrowStop (m : Master) (app : Bool) (ch : Fin 16) (v : Word)
  /-- BW_STOPALL (R429). A write of BW_STOPALL stops every running channel of the controller. -/
  | bwStopall (m : Master) (app : Bool) (v : Word)
  /-- BARROW_REQUEST_DONE (R429). A channel request completes, which updates REMAIN and the compare result. -/
  | barrowRequestDone (app : Bool) (ch : Fin 16)
  /-- BARROW_ERROR_RESPONSE (R433). A channel request receives an error response, and the channel drains and ends in ERROR. -/
  | barrowErrorResponse (app : Bool) (ch : Fin 16) (onWrite : Bool)
  /-- OUT_VAL_WRITE (R446). A write of OUT_VAL sets the bank's output latches. -/
  | outValWrite (m : Master) (b : Fin 4) (v : Word)
  /-- OUT_SET (R447). A write of OUT_SET sets the selected latch bits. -/
  | outSet (m : Master) (b : Fin 4) (v : Word)
  /-- OUT_CLR (R447). A write of OUT_CLR clears the selected latch bits. -/
  | outClr (m : Master) (b : Fin 4) (v : Word)
  /-- OUT_TGL (R447). A write of OUT_TGL toggles the selected latch bits. -/
  | outTgl (m : Master) (b : Fin 4) (v : Word)
  /-- LOCK_KEY_WRITE (R449). A write to LOCK_KEY begins or completes a bank lock sequence. -/
  | lockKeyWrite (m : Master) (b : Fin 4) (v : Word)
  /-- LOCK_MASK_WRITE (R449). A write to LOCK_MASK names the pins of a lock sequence. -/
  | lockMaskWrite (m : Master) (b : Fin 4) (v : Word)
  /-- GPIO_PIN_CHANGE (R448). A pin's input level changes, which sets EVT by the pin's interrupt mode. -/
  | gpioPinChange (b : Fin 4) (pin : Fin 32) (level : Bool)
  /-- WAKE_PIN (R439). A high level on WAKE that persists for 100 µs wakes the device from DORMANT. -/
  | wakePin
  /-- SPI_CTRL_WRITE (R465). A write of SPI_CTRL enables or disables a port, empties its FIFOs and resets ALIVE, or releases CSHOLD. -/
  | spiCtrlWrite (m : Master) (i : Fin 4) (v : Word)
  /-- SPI_TX_WRITE (R463). A word written to SPI_TX is queued for shifting in RAW mode. -/
  | spiTxWrite (m : Master) (i : Fin 4) (v : Word)
  /-- SPI_RX_READ (R463). A read of SPI_RX pops one received word. -/
  | spiRxRead (m : Master) (i : Fin 4)
  /-- SPI_GO (R464). A write of SPI_GO sends one safe frame. -/
  | spiGo (m : Master) (i : Fin 4) (v : Word)
  /-- SPI_RAW_DONE (R463). The TX FIFO empties and the chip-select rises at the end of a RAW transfer. -/
  | spiRawDone (i : Fin 4) (rx : List Word)
  /-- SPI_SAFE_FRAME_DONE (R464). A safe frame exchange ends at the chip-select rise, and the received frame is checked. -/
  | spiSafeFrameDone (i : Fin 4) (rx : List Byte) (bits : Nat)
  /-- HSPI_WRITE_REQ (R467). A host WRITE_REQ writes request bytes into its counter from OFFSET. -/
  | hspiWriteReq (cs : Fin 2) (alive : Option (BitVec 4)) (ofs : Byte) (data : List Byte)
  /-- HSPI_READ_RPL (R468). A host READ_RPL returns reply bytes from OFFSET. -/
  | hspiReadRpl (cs : Fin 2) (alive : Option (BitVec 4)) (ofs : Byte) (count : Nat)
  /-- HSPI_DOORBELL (R470). A host DOORBELL passes a doorbell byte to its counter unless BROKEN is set. -/
  | hspiDoorbell (cs : Fin 2) (alive : Option (BitVec 4)) (v : Byte)
  /-- HSPI_REG_READ (R467). A RAW REG_READ reads an HSPI bank register as master 0x0D. -/
  | hspiRegRead (ofs : BitVec 16)
  /-- HSPI_REG_WRITE (R467). A RAW REG_WRITE writes an HSPI bank register as master 0x0D. -/
  | hspiRegWrite (ofs : BitVec 16) (v : Word)
  /-- HSPI_NOP (R468). A host safe frame with OP NOP only exchanges status. -/
  | hspiNop (cs : Fin 2) (alive : BitVec 4)
  /-- HSPI_BAD_FRAME (R470). A bad safe frame is ignored, sets BROKEN, increments HS_BADCNT and raises HSPI_BAD_FRAME. -/
  | hspiBadFrame (cs : Fin 2)
  /-- HSPI_CLASH (R484). Both HSPI chip-selects are low at once, so the frames are bad and CLASH is set. -/
  | hspiClash
  /-- HS_CFG_APPLY (R471). A write to HS_CFG takes effect once no chip-select is low, and ALIVE resets. -/
  | hsCfgApply
  /-- HSPI_WAKE (R112). HSPI chip-select activity in DORMANT wakes the device without posting the transaction. -/
  | hspiWake
  /-- ETH_CTRL_WRITE (R477). A write of ETH_CTRL enables or disables a ring and resets its HEAD. -/
  | ethCtrlWrite (m : Master) (i : Fin 2) (v : Word)
  /-- ETH_TX_FRAME (R474). The MAC transmits an owned descriptor's frame and writes the descriptor back. -/
  | ethTxFrame (i : Fin 2)
  /-- ETH_RX_FRAME (R474). The MAC receives a frame, filters and checks it, timestamps it and writes a descriptor. -/
  | ethRxFrame (i : Fin 2) (frame : List Byte) (fcsOk : Bool)
  /-- ETH_BUS_ERROR (R485). A descriptor or buffer access gets an error response, which stops the ring. -/
  | ethBusError (i : Fin 2) (rx : Bool)
  /-- PTP_SET (R476). PTP_CMD SET loads the PTP clock. -/
  | ptpSet (m : Master) (i : Fin 2)
  /-- PTP_STEP (R476). PTP_CMD STEP adds a signed offset to the PTP clock. -/
  | ptpStep (m : Master) (i : Fin 2)
  /-- PPS_RISE (R476). ETHn_PPS rises at a second boundary of the PTP clock. -/
  | ppsRise (i : Fin 2)
  /-- PPS_FALL (R476). ETHn_PPS falls after PPS_WIDTH ms. -/
  | ppsFall (i : Fin 2)
  /-- TSCAP_EDGE (R476). A rising edge on ETHn_TSCAP latches the PTP time and sets TS_CAP. -/
  | tscapEdge (i : Fin 2)
  /-- MDIO_FRAME (R472). A write of ETH_MDIO issues an MDIO frame. -/
  | mdioFrame (m : Master) (i : Fin 2) (v : Word)
  /-- MDIO_DONE (R472). An MDIO frame completes and clears BUSY. -/
  | mdioDone (i : Fin 2) (data : BitVec 16)
  /-- XS_ERASE_64K (R482). XS_CMD ERASE_64K erases a flash sector. -/
  | xsErase64k (m : Master)
  /-- XS_PROGRAM (R482). XS_CMD PROGRAM programs bytes from XS_BUF within one page. -/
  | xsProgram (m : Master)
  /-- XS_OP_DONE (R482). A flash erase or program completes, setting DONE or ERR. -/
  | xsOpDone (ok : Bool)
  /-- XS_READ_SUSPEND (R483). A window read during an erase or program suspends it, or is held until it ends. -/
  | xsReadSuspend
  /-- TRC_CLR (R511). A write of TRC_CLR empties the trace ring and zeroes TRC_WPTR. -/
  | trcClr (m : Master) (v : Word)
  /-- DMI_ACCESS_REGISTER (R511). The debug module runs an Access Register abstract command on a hart. -/
  | dmiAccessRegister (m : Master) (cmd : Word)
  /-- DMI_ACCESS_MEMORY (R511). The debug module runs an Access Memory abstract command for a hart. -/
  | dmiAccessMemory (m : Master) (cmd : Word)
  /-- REGISTER_WRITE (R3). A write to a register that has no row of its own is applied by field type, seal and access rules. -/
  | registerWrite (m : Master) (addr : BitVec 40) (size : BitVec 3) (v : Word)
  /-- LDIL_RISE (R272). The laser interlock input returns high, ending the hardware hold of every laser drive at 0 mA and setting BM_STATUS.INTLK. -/
  | ldilRise
  /-- BD_GATE_OPEN (R263). In LOCKED and RUN, the gate opens at the expected edge minus PRE and BD_BEAM is lit until an edge is accepted. -/
  | bdGateOpen
  /-- ACQ_PULSE_END (R263). An ACQUIRE pulse ends ACQ after its start with no accepted edge, so BD_BEAM goes off and edges are no longer accepted until the next pulse. -/
  | acqPulseEnd
  /-- CK_AO32_RESTART (R376). The 32.768 kHz crystal restarts after a stop, AO32_OK returns, the AO32_STOP condition ends, and the RTC count resumes from its kept value. -/
  | ckAo32Restart
  /-- VDD_AO_INVALID (R162). VDD_AO becomes invalid when VAUX is absent and VBKP can no longer hold it, losing AO retention and leaving nFAULT high-impedance until a later POWER_ON. -/
  | vddAoInvalid
  /-- CK_PWM_CYCLE (R287). In each CK_PWM cycle every leg takes its current and switches its high or low side by the hysteretic band, dead time and MINT. -/
  | ckPwmCycle (k : Fin 6) (shunts : List Int)
  /-- HV_ENVELOPE_INHIBIT (R147). An HV channel's feedback crosses its envelope, so the H-die inhibits or frees the flyback drive and sets or clears HV_STATUS.INHIB. -/
  | hvEnvelopeInhibit (c : Fin 3) (on : Bool)
  deriving DecidableEq, Repr

end Sys2Proof
end

