-- ==== Sys2Proof/Decode.lean ====
section
/-! DEFINITION. The decoder of the table's words. No row of spec/opcode_table.json gives a bit field, so no word spells
a command; a command comes to the block through its queue with its operands. -/

namespace Sys2Proof

/-- The command that a word spells by the table's bits: none, as no row of the table gives any. -/
def decodeTableWord (_nbits _w : Nat) : Option Instr := none

end Sys2Proof
end

