-- ==== Sys2Proof/Config.lean ====
section
/-! DEFINITION. What one device fixes (identification, device key, die revisions, thermal table) and the free values:
constants with no body, of which nothing can be proved. State.freeCtr counts the free values a run has taken. -/

namespace Sys2Proof.Config

/-- DEVICE_ID (SYS_DEVID, R507; GET_INFO). DESIGN CHOICE (log 5): a constant of the device. -/
opaque deviceId : BitVec 64

/-- D-die and H-die revisions (SYS_REV, R507). DESIGN CHOICE (log 5). -/
opaque dieRev : BitVec 16

/-- SYS_GRADE: true for -C (R507). DESIGN CHOICE (log 5). -/
opaque gradeC : Bool

/-- The device key, a private P-256 scalar held in MRAM that never leaves the device (R380). DESIGN CHOICE (log 5). -/
opaque deviceKey : Nat

/-- The thermal table of the Keeper image (R338) as writes to the STEELYARD bank: (offset, value), from the digest of
the image. Its format inside the image is not given. DESIGN CHOICE (log 15). -/
opaque thermalTable : BitVec 256 → List (Nat × BitVec 32)

/-- A free bit: the i-th open yes/no question of a run (logs 8, 9, 10). -/
opaque freeBit : Nat → Bool

/-- A free byte (logs 8, 13, 14). -/
opaque freeByte : Nat → BitVec 8

/-- A free word (logs 8, 12). -/
opaque freeWord : Nat → BitVec 32

/-- A free 64-bit value (log 8). -/
opaque freeDbl : Nat → BitVec 64

/-- Where the 1 ms period of a diagnosis of DUMP lies in DEVTIME (R305, log 26). -/
opaque dumpPhase : Nat

end Sys2Proof.Config
end

