-- ==== Sys2Proof/Machine/OptRecord.lean ====
section
/-! DEFINITION. The option record (R216, R217), the ROM safe record (R184, R193, R222, R225), and the table of fault IDs
with their default classes (R160). Nothing here depends on the state. -/

namespace Sys2Proof.Machine

/-! ## Byte order (R10) -/

/-- The k-th byte of a value, little-endian. -/
def byteOf {w : Nat} (v : BitVec w) (k : Nat) : Byte := (v >>> (8 * k)).setWidth 8

/-- The first `n` bytes of a value, little-endian. -/
def toLe {w : Nat} (v : BitVec w) : Nat → List Byte
  | 0 => []
  | n + 1 => toLe v n ++ [byteOf v n]

/-- The little-endian number of a byte list. -/
def natLe : List Byte → Nat
  | [] => 0
  | b :: bs => b.toNat + 256 * natLe bs

/-- The big-endian number of a byte list. -/
def natBe (bs : List Byte) : Nat := natLe bs.reverse

/-- `n` bytes from offset `ofs`, absent bytes read as 0. -/
def slice (bs : List Byte) (ofs n : Nat) : List Byte :=
  let t := (bs.drop ofs).take n
  t ++ List.replicate (n - t.length) 0

/-- A little-endian field of `n` bytes at offset `ofs`. -/
def fieldLe (bs : List Byte) (ofs n : Nat) : Nat := natLe (slice bs ofs n)

/-! ## Fault table (R160) -/

/-- A row of the fault table: kind (true: level), column P, class, action, grace in µs (0: none), and the block that
ESC_BLOCK resets (R225 number), where the table names one. -/
structure FaultRow where
  level : Bool
  spoil : Bool
  cls   : BitVec 2
  act   : BitVec 2
  grace : Nat
  block : Option Nat
  deriving DecidableEq, Repr

/-- The row of a fault ID, none for an ID the hub never raises (R160). `motor` is the channel that names the block of
a MOTORk source (0 where no instance is named). -/
def faultRow (id motor : Nat) : Option FaultRow :=
  let mk := fun l s c a g b => some (FaultRow.mk l s c a g b)
  match id with
  | 0x00 => mk false true 0 0 0 none
  | 0x01 => mk true false 1 0 10000 none
  | 0x02 => mk true true 2 0 0 none
  | 0x03 | 0x04 => mk false true 1 2 100000 none
  | 0x05 => mk true false 0 0 0 none
  | 0x06 => mk false false 0 0 0 none
  | 0x20 => mk false false 1 0 1000000 none
  | 0x21 => mk false false 2 0 0 none
  | 0x22 => mk true false 2 0 0 none
  | 0x23 | 0x24 | 0x25 => mk false false 0 0 0 none
  | 0x40 | 0x41 => mk true false 1 2 10000 none
  | 0x42 => mk true false 1 2 1000 none
  | 0x43 => mk true true 1 0 100000 (some 5)
  | 0x44 => mk true true 1 2 10000 none
  | 0x45 => mk true false 0 0 0 none
  | 0x60 => mk false false 0 0 0 none
  | 0x61 => mk false false 1 2 1000 none
  | 0x62 => mk true false 1 2 100000 (some 18)
  | 0x80 | 0x81 | 0x82 | 0x83 => mk true true 2 0 0 (some 4)
  | 0x84 => mk false true 2 0 0 (some 4)
  | 0x85 | 0x86 | 0x87 => mk true true 2 0 0 (some 15)
  | 0x88 => mk false true 2 0 0 (some 6)
  | 0x89 => mk false true 2 0 0 (some 7)
  | 0x8A => mk false true 2 0 0 (some 8)
  | 0x8B => mk false true 2 0 0 (some 9)
  | 0x8C => mk false true 2 0 0 (some 10)
  | 0x8D => mk false true 2 0 0 (some 11)
  | 0x8E => mk true true 2 0 0 (some 14)
  | 0x8F => mk true true 2 0 0 (some (6 + motor))
  | 0x90 => mk false true 1 0 10000 (some 4)
  | 0x91 => mk false true 1 0 10000 (some 3)
  | 0x92 => mk true true 1 0 10000 none
  | 0x93 => mk true true 2 0 0 (some (6 + motor))
  | 0x94 => mk false true 2 0 0 none
  | 0x95 => mk false false 0 0 0 none
  | 0xA0 => mk true true 2 0 0 none
  | 0xA1 => mk true true 1 0 1000000 none
  | 0xA2 => mk true false 1 0 100000 none
  | 0xA3 => mk true true 2 0 0 none
  | 0xA4 => mk false false 0 0 0 none
  | 0xC0 => mk true true 1 2 100000 none
  | 0xC1 => mk false false 0 0 0 none
  | 0xC2 => mk true false 0 0 0 none
  | 0xC3 | 0xC4 => mk false false 0 0 0 none
  | 0xE0 => mk false false 0 0 0 none
  | 0xE1 => mk false false 1 0 1000000 none
  | 0xE2 | 0xE3 => mk true false 0 0 0 none
  | 0xE4 => mk false false 1 2 10000 none
  | _ => none

/-- FH_CFG word of a class, an action and a grace time (R164). -/
def fhCfgWord (cls act : BitVec 2) (grace : Nat) : Word :=
  cls.setWidth 32 ||| (act.setWidth 32 <<< 2) ||| (BitVec.ofNat 32 (grace % 2 ^ 20) <<< 4)

/-- The default FH_CFG word of a fault (R160): 0 for an ID that does not exist. -/
def faultDefault (id : Nat) : Word :=
  match faultRow id 0 with
  | some r => fhCfgWord r.cls r.act r.grace
  | none => 0

/-! ## Reading an option record (R216) -/

/-- RANK of counter n. -/
def optRank (rec : List Byte) (n : Nat) : Nat := fieldLe rec (0x008 + n) 1 % 8
/-- SEQ. -/
def optSeq (rec : List Byte) : Word := BitVec.ofNat 32 (fieldLe rec 0x004 4)
/-- FLAGS.AUTO_READY. -/
def optAutoReady (rec : List Byte) : Bool := (fieldLe rec 0x013 1).testBit 0
/-- FLAGS.TOKEN_REQ. -/
def optTokenReq (rec : List Byte) : Bool := (fieldLe rec 0x013 1).testBit 1
/-- FLAGS.WARM_RAILS. -/
def optWarmRails (rec : List Byte) : Bool := (fieldLe rec 0x013 1).testBit 2
/-- BOOT_DEFAULT. -/
def optBootDefault (rec : List Byte) : Nat := fieldLe rec 0x016 1
/-- DOMAIN_EN, bit d-1 for domain d. -/
def optDomainEn (rec : List Byte) : BitVec 50 := BitVec.ofNat 50 (fieldLe rec 0x018 8)
/-- KEEPER_REF, byte k in bits 8k+7:8k. -/
def optKeeperRef (rec : List Byte) : BitVec 256 := BitVec.ofNat 256 (fieldLe rec 0x020 32)
/-- UNSEAL_KEY, x and y. -/
def optUnsealKey (rec : List Byte) : Nat × Nat := (natBe (slice rec 0x040 32), natBe (slice rec 0x060 32))
/-- The i-th envelope value. -/
def optEnv (rec : List Byte) (i : Nat) : Nat := fieldLe rec (0x080 + 2 * i) 2
/-- VREGEN, 0.1 V. -/
def optVregen (rec : List Byte) : Nat := fieldLe rec 0x0AE 2
/-- The block table byte of block b (R225). -/
def optBlock (rec : List Byte) (b : Nat) : Byte := BitVec.ofNat 8 (fieldLe rec (0x0B0 + b) 1)
/-- GPD_HOLD. -/
def optGpdHold (rec : List Byte) : BitVec 24 := BitVec.ofNat 24 (fieldLe rec 0x0C8 3)
/-- KWDG. -/
def optKwdg (rec : List Byte) : Nat := fieldLe rec 0x0CB 1
/-- Fabric wheel limits as FAB_LIMITS. -/
def optFabLimits (rec : List Byte) : Word := BitVec.ofNat 32 (fieldLe rec 0x0CC 4)
/-- EXT_CFGn, bits 23:0. -/
def optExtCfg (rec : List Byte) (n : Nat) : Word := BitVec.ofNat 32 (fieldLe rec (0x0D0 + 4 * n) 3)
/-- PS_SHDNn word. -/
def optShdn (rec : List Byte) (n : Nat) : Word := BitVec.ofNat 32 (fieldLe rec (0x100 + 4 * n) 4)
/-- The i-th fault override word. -/
def optOverride (rec : List Byte) (i : Nat) : Word := BitVec.ofNat 32 (fieldLe rec (0x17C + 4 * i) 4)

/-! ## The ROM safe record -/

/-- The default shut-down table (R193): (target, delay in 0.1 ms). -/
def defaultShutdown : List (Nat × Nat) :=
  ([5, 6, 7, 8, 9, 10, 11, 12, 19, 20, 21, 22, 23, 24, 26, 30, 31, 32, 33, 34, 35, 36, 37, 38, 39, 40, 41, 42, 43,
    49, 50, 0x84, 0x87, 0x88, 0x89, 0x8A, 0x8B, 0x8C].map (·, 0))
  ++ ([15, 16, 25, 28, 29].map (·, 10)) ++ [(0x86, 11), (0x85, 12)]
  ++ ([13, 17, 18, 27, 45, 46, 47].map (·, 20)) ++ ([4, 44, 48].map (·, 30))
  ++ [(3, 32), (14, 34), (0x83, 36), (0x82, 38), (0x81, 40)]

/-- A shut-down table as its 124 bytes; missing entries are empty (target 0). -/
def shutdownBytes (t : List (Nat × Nat)) : List Byte :=
  slice (t.flatMap fun e => [BitVec.ofNat 8 e.1, BitVec.ofNat 8 e.2]) 0 124

/-- The block defaults of R225: WAIT code for IDLE_HANDSHAKE, bit 7 for ISOLATE. -/
def blockDefaults : List Byte :=
  [6, 4, 4, 0x80, 0x80, 0x80, 0x80, 0x80, 0x80, 0x80, 0x80, 0x80, 0x80, 0x80, 0x80, 0x80, 0x80, 0x80, 7, 8, 8, 6, 6, 10]

/-- PARENT, EN and ENG of SEQEN0-5 (R179): bits 9:0 of PS_EXT_CFG. -/
def railFixed : List Nat := [0x300, 0x381, 0x382, 0x183, 0x382, 0x385]

/-- The EXT_CFG bytes of the ROM safe record (R184): TIMEOUT code 3 and SETTLE code 10 for every rail, the board rails
not enabled. -/
def romExtCfg : List Byte :=
  ((railFixed ++ List.replicate 6 0).map fun f => toLe (BitVec.ofNat 32 (f + 0x3000 + 0xA0000)) 4).flatten

/-- The ROM safe record (R222), its CRC word 0 (R509). MAGIC, BOOT_DEFAULT and VREGEN are not given there:
DESIGN CHOICE (log 3). -/
def romRecord : List Byte :=
  [0x01, 0x03, 0x47, 0x44, 0, 0, 0, 0] ++ [3, 3, 3, 3, 5, 1, 7, 0] ++ [10, 0, 1, 0] ++ [0, 0, 0, 0]
  ++ toLe (0x0000_0800_0000_200F : BitVec 64) 8 ++ List.replicate 32 0 ++ List.replicate 64 0
  ++ List.replicate 46 0 ++ [0, 0] ++ blockDefaults ++ [0, 0, 0] ++ [10] ++ [0, 0, 4, 4] ++ romExtCfg
  ++ shutdownBytes defaultShutdown ++ ((List.replicate 32 [0xFF, 0, 0, 0]).flatten) ++ [0, 0, 0, 0]

end Sys2Proof.Machine
end

