-- ==== Sys2Proof/Machine/State.lean ====
section
/-! DEFINITION. The state of the device as plain data, bank by bank and unit by unit, the outcomes' reason types, and
the state after reset. A register is a field under its own name; reserved bits have no field (R8). -/

namespace Sys2Proof.Machine

/-- Memory bytes that differ from what a never-written address reads as, addresses strictly rising (log 7). -/
abbrev Mem := List Host.Cell

/-- Reasons for a stop of the model. There is none: every command of the table has an effect, and what the spec calls
a fault or an error response is an effect on the state. -/
inductive Fault
  deriving DecidableEq, Repr

/-- Why a command has no meaning. -/
inductive Refusal
  /-- Raised by an arm of `exec` whose command has no meaning yet; safe, as nothing can be proved through it. -/
  | notModelled (mnemonic : String)
  deriving DecidableEq, Repr

/-! ## Mailbox counters (03) -/

/-- STATE of a counter (R82, R90). -/
inductive CntStage
  | idle | posted | taken | done
  deriving DecidableEq, Repr

/-- Where Sinov stands with a taken frame (R95-R103): not taken, joined to a conflict window, ready to execute
(with the WAITED flag of R88), or executing (its reply waits for a Till record, a forecast or a transfer). -/
inductive FrameStage
  | none
  | inWindow
  | ready (waited : Bool)
  | running (waited : Bool)
  deriving DecidableEq, Repr

/-- What Sinov stores for the replay match (R99): the tag, the match CRC and the reply bytes. -/
structure StoredReply where
  tag   : Byte
  crc   : Word
  reply : List Byte
  deriving DecidableEq, Repr

/-- One mailbox counter: its registers (R81, R82) and Sinov's own bookkeeping for it (R89, R99, R111). -/
structure Counter where
  req       : Vector Byte 256
  rpl       : Vector Byte 256
  stage     : CntStage
  ringLost  : Bool
  rst       : Bool
  stale     : Bool
  lastTag   : Byte
  rank      : Fin 8
  doneIe    : Bool
  stamp     : BitVec 64
  ferr      : BitVec 16
  frame     : FrameStage
  badRun    : Nat
  badDue    : Bool
  stored    : Option StoredReply
  deriving DecidableEq, Repr

/-- An open conflict window (R101): its resource, the DEVTIME at which it ends and the counters that joined it. -/
structure Window where
  res     : Resource
  endsAt  : BitVec 64
  members : List (Fin 8)
  deriving DecidableEq, Repr

/-! ## Docket (02) -/

/-- DK_STATUS.STATE (R65). -/
inductive DkState
  | idle | armed | spoiled | closed
  deriving DecidableEq, Repr

/-- The tally counters of the DOCKET bank (R65-R67). `dueHost` is a host spoil that waits for the next facet boundary,
`facetOpen` a facet that has begun and not ended, `tof` that top of form has been reached, `fresh` that the spoil has latched in
this very cycle (R71). -/
structure Docket where
  arm        : Bool
  spoil      : Bool
  close      : Bool
  st         : DkState
  planned    : Word
  beams      : BitVec 3
  mediaCh    : BitVec 3
  written    : Word
  blanked    : Word
  firstSpoil : Word
  mediaPos   : Word
  outcome    : BitVec 3
  spoilFault : Byte
  flags      : Byte
  faultValid : Bool
  facets     : Word
  tStart     : BitVec 64
  tFirst     : BitVec 64
  tEnd       : BitVec 64
  facetOpen  : Bool
  tof        : Bool
  fresh      : Bool
  deriving DecidableEq, Repr

/-! ## Envelope, H-die and engine link (05) -/

/-- The envelope values in ENVGUARD units (R147, R149). -/
structure EnvVals where
  ldI     : Vector Word 4
  ldOn    : Word
  htrDuty : Vector Word 2
  tsf     : Word
  mI      : Vector Word 6
  mRpm    : Vector Word 6
  hvFb    : Vector Word 3
  deriving DecidableEq, Repr

/-- The ENVGUARD bank: the shadow and the status words (R149). -/
structure EnvGuard where
  shadow : EnvVals
  loaded : Bool
  locked : Bool
  safe   : Bool
  trip   : Word
  limit  : Word
  deriving DecidableEq, Repr

/-- The H-die's own state: its envelope copy and lock (R145, R146), its safe state, the consecutive valid control
frames it has seen (R151), the sequence number it expects (R21), the outputs its trips hold off (R147; `mFast` overspeed), whether ENG_HOLD has
been asserted since it entered its safe state (`underHold`, R152) and the level conditions its status frames report (R152, R160). -/
structure HDie where
  powered  : Bool
  env      : EnvVals
  lock     : Bool
  loaded   : Bool
  safe     : Bool
  underHold : Bool
  validRun : Nat
  rxSeq    : BitVec 16
  ldOff    : BitVec 4
  ldOnOff  : Bool
  htrOff   : BitVec 2
  mOff     : BitVec 6
  mFast    : BitVec 6
  hvOff    : BitVec 3
  dump     : Bool
  hot      : Bool
  pfwCut   : Bool
  tempMdeg : BitVec 16
  deriving DecidableEq, Repr

/-- The D-die's end of the engine link (R21, R22, R152). `estimate` is the H-die's dissipation estimate in mW as the last
status frame carried it (R22), `estSum` and `estN` the sum and the number of those carried since the last evaluation of the
model, which takes their mean (R341). -/
structure EngLink where
  estimate : Nat
  estSum   : Nat
  estN     : Nat
  rxSeq    : BitVec 16
  txSeq    : BitVec 16
  validRun : Nat
  lost     : Bool
  deriving DecidableEq, Repr

/-! ## Fault hub (05) -/

/-- The fault hub (R153-R164). `present` holds the level sources whose condition holds, `timerCfg` the FH_CFG word
with which a fault was raised (R158), `expired` the faults whose grace timer expired at DEVTIME `expiredAt` (R167), `speedCh`
and `posCh` the channels that raised OVERSPEED and POS_SENSOR (R160), `optImm` the faults whose option-record class is IMMEDIATE, `raisedAt` the
DEVTIME at which a RAISED bit was set (R362, FAULT_CLEAR record). -/
structure FaultHub where
  raised    : BitVec 256
  raisedAt  : Vector (BitVec 64) 256
  unack     : BitVec 256
  timing    : BitVec 256
  present   : BitVec 256
  cfg       : Vector Word 256
  timerCfg  : Vector Word 256
  expired   : BitVec 256
  expiredAt : BitVec 64
  speedCh   : Fin 6
  posCh     : Fin 6
  optImm    : BitVec 256
  tableDone : Bool
  escAction : BitVec 2
  escValid  : Bool
  escId     : Byte
  escTime   : BitVec 64
  feValid   : Bool
  feAddr    : BitVec 40
  feMaster  : Byte
  feKind    : BitVec 2
  feSize    : BitVec 3
  feTime    : BitVec 64
  feSource  : Byte
  feOver    : Word
  deriving DecidableEq, Repr

/-! ## Supply, domains and rails (06) -/

/-- The VIN front end: the levels last sampled, the comparators of R170 and the pre-regulator (R171). -/
structure Supply where
  vin       : Nat
  vaux      : Nat
  history   : List Nat
  softStart : Bool
  softDone  : Bool
  vauxGood  : Bool
  vauxLow   : Bool
  vinHigh   : Bool
  vinRegen  : Bool
  vbkpLow   : Bool
  aoOnVbkp  : Bool
  aoValid   : Bool
  aoPor     : Bool
  deriving DecidableEq, Repr

/-- PS_STATUS.PHASE (R199). -/
inductive PsPhase
  | off | boot | runUp | run | pfw | shutdown | halted | dormant
  deriving DecidableEq, Repr

/-- State of an external rail; GET_RAILS and PS_EXT_STATE show `ramping` and `settling` both as 1 (R180, R199). -/
inductive RailState
  | off | ramping | settling | good | failed
  deriving DecidableEq, Repr

/-- Why a shut-off is under way (R186, R194, R198). -/
inductive OffCause
  | none | pfw | sleep | escOff
  deriving DecidableEq, Repr

/-- The power sequencer (R175-R206). Domain d is bit d-1. `closing` are switches closed and not yet good, `order` the
targets in order of power-up (domains 1-50, rails 0x81-0x8C), `seqpg` the levels of the SEQPG inputs (R180, R182), `nPFW` that
the pin is driven low, `docketEnds` that the record which ends a deferral is a page's docket (R75, R187, R190), `wakeEn` the
wake sources of SLEEP (R43, R118). -/
structure PwrSeq where
  phase    : PsPhase
  pfwSeen  : Bool
  retry    : Byte
  on       : BitVec 50
  closing  : BitVec 50
  fail     : BitVec 50
  req      : BitVec 50
  rails    : Vector RailState 12
  seqpg    : BitVec 12
  railFail : BitVec 12
  extCfg   : Vector Word 12
  order    : List Nat
  vin      : BitVec 16
  vinAvg   : BitVec 16
  vaux     : BitVec 16
  pfwCfg   : Word
  holdDecl : Word
  pfwTime  : BitVec 64
  shdn     : Vector Word 31
  table    : Vector Word 31
  offCause : OffCause
  tpfwDone : Bool
  deferEnd : Bool
  deferred : List Nat
  docketEnds : Bool
  offDelay : Bool
  runPhase : Bool
  failedIn : Bool
  nPFW     : Bool
  wakeEn   : BitVec 3
  deriving DecidableEq, Repr

/-! ## Reset controller and option loader (07) -/

/-- A block's stage in a BLOCK reset (R226). -/
inductive BlkStage
  | none | draining | held
  deriving DecidableEq, Repr

/-- Steps of the release order (R214) that the model tells apart. -/
inductive RelStep
  | off | boot | loader | loaderFail | rom | sinov | running
  deriving DecidableEq, Repr

/-- A register write held while its block is in a BLOCK reset with IDLE_HANDSHAKE (R226). -/
structure HeldWrite where
  blk    : Fin 24
  master : Master
  bank   : Nat
  off    : Nat
  value  : Word
  deriving DecidableEq, Repr

/-- The reset controller (R207-R215, R225-R230); `fresh` says that a reset has asserted in this very cycle (R209), `holdRel` is
RST_REL.HOLD_REL (R229), `held` are the writes that wait for a block's release. -/
structure RstCtl where
  cause       : Byte
  kind        : BitVec 2
  count       : Word
  time        : BitVec 48
  engHold     : Bool
  blk         : Vector BlkStage 24
  lastBlk     : BitVec 5
  blkTimeout  : Bool
  optState    : BitVec 2
  applied     : BitVec 2
  validA      : Bool
  validB      : Bool
  optrec      : Bool
  repaired    : Bool
  loadFails   : BitVec 4
  seqA        : Word
  seqB        : Word
  parLoc      : Word
  dedAddr     : Word
  kwdgCfg     : Word
  kwdgRun     : Bool
  awdgPeriod  : BitVec 4
  awdgEn      : Bool
  cores       : BitVec 4
  holdRelOpen : Bool
  holdRel     : Bool
  fresh       : Bool
  step        : RelStep
  held        : List HeldWrite
  deriving DecidableEq, Repr

/-- The loader's flow (R218): waiting in ENTRY, repairing one copy from the other, or sending the envelope. -/
inductive LoaderState
  | idle | entry | repair (toB : Bool) | envXfer | done | fail
  deriving DecidableEq, Repr

/-- The option loader: its state, the record it applies (512 bytes) and the outcome faults it raises at DONE. -/
structure Loader where
  st       : LoaderState
  outcome  : Option Byte
  byLimit  : Bool
  deriving DecidableEq, Repr

/-! ## Clocks and the pixel ramp (08) -/

/-- CLKGEN (R234-R245): PLL bits in the order CPUPLL, SOCPLL, DRAMPLL, PIXPLL; `cpuDivEff` is the divider in effect,
`pfwHold` that a PFW keeps CK_CPU and CK_L2 on CK_BYP until the next reset (R243). -/
structure ClkGen where
  lock      : BitVec 4
  refOk     : Bool
  ao32Ok    : Bool
  fb        : BitVec 4
  events    : BitVec 5
  cpuDiv    : BitVec 4
  cpuDivEff : BitVec 4
  pfwHold   : Bool
  deriving DecidableEq, Repr

/-- PIXRAMP (R246-R251); LOCK and ON_FB are CLKGEN's PIXPLL bits. `started` says that a retrigger has come since EN was set, `pos` how
many CK_REF cycles the segment has run, `delta` is the offset δ in 2^-24 of nominal (R246). -/
structure PixRamp where
  en       : Bool
  profile  : Fin 8
  profEff  : Fin 8
  seg      : BitVec 6
  started  : Bool
  pos      : Nat
  delta    : Int
  holding  : Bool
  frozen   : Bool
  nom      : Word
  nfrac    : Word
  segs     : Vector Word 8
  retrig   : Word
  seg24    : Vector (Vector (BitVec 24) 64) 8
  deriving DecidableEq, Repr

/-! ## Video fetch and beam unit (09) -/

/-- A line slot of the fetch FIFO (R258-R261): the line's number, the bytes read so far, and whether a burst failed. -/
structure LineSlot where
  line  : Nat
  bytes : List Byte
  full  : Bool
  bad   : Bool
  deriving DecidableEq, Repr

/-- VIDEO (R275): registers and the FIFO of line slots, oldest first; the last slot may be in fetch. `granted` counts the bursts that
the wheel has granted and that are not yet done (R258). -/
structure Video where
  en        : Bool
  beams     : BitVec 3
  bpp       : Bool
  base      : BitVec 40
  stride    : Word
  lineBytes : Word
  lines     : Word
  fetched   : BitVec 16
  consumed  : BitVec 16
  evUnder   : Bool
  evFetch   : Bool
  errLine   : Word
  running   : Bool
  granted   : Nat
  fifo      : List LineSlot
  deriving DecidableEq, Repr

/-- BM_STATUS.SYNC (R263). -/
inductive Sync
  | idle | acquire | locked | run
  deriving DecidableEq, Repr

/-- One beam: its registers (R276), `lit` while a gate, a pulse or a diagnostic run lights it, and the diagnostic run of
R273 (`diagLevel` in 0.1 mA, `diagDrive` the drive of its last pulse). -/
structure LaserBeam where
  delay     : BitVec 16
  en        : Bool
  step      : Byte
  ceilReq   : BitVec 11
  drive     : BitVec 11
  mon       : BitVec 12
  monNew    : Bool
  lit       : Bool
  diagLevel : Option (BitVec 11)
  diagDrive : BitVec 11
  deriving DecidableEq, Repr

/-- BEAM (R276) and the line synchronisation of R262-R266: `gate` open, `lockCount` gated edges accepted in ACQUIRE,
`edgeSeen` that this gate has its edge, `pulse` an ACQUIRE pulse alight, `heldOff` lasers held off by a spoil, `cutSync`,
`cutGate` and `cutDue` what a spoil found (SYNC, a gate without its edge, lines due), for what falls in its cycle (R279), `pulses`
the unlit and lit CK_PIX cycles of each pixel of the lines being emitted, beam by beam (R267). -/
structure BeamUnit where
  en        : Bool
  beams     : BitVec 3
  bpp       : Bool
  inv       : Bool
  bdBeam    : Fin 4
  diag      : Bool
  sync      : Sync
  intlk     : Bool
  linePix   : BitVec 16
  bdSrc     : Bool
  bdEdge    : Bool
  bdChk     : Bool
  bdPer     : BitVec 24
  bdGate    : Word
  bdMeas    : BitVec 24
  facets    : BitVec 16
  pwm       : Word
  evMiss    : Bool
  evExtra   : Bool
  evIntlk   : Bool
  evUnder   : Bool
  ld        : Vector LaserBeam 4
  firstEdge : Bool
  lockCount : Nat
  gate      : Bool
  edgeSeen  : Bool
  pulse     : Bool
  linesDue  : Bool
  heldOff   : Bool
  cutSync   : Sync
  cutGate   : Bool
  cutDue    : Bool
  pulses    : List (List (Nat × Nat))
  deriving DecidableEq, Repr

/-! ## Motors (10) -/

/-- MOT_STATUS.STATE (R307). -/
inductive MotState
  | off | align | learn | run | decel | brake | tripped | coast
  deriving DecidableEq, Repr

/-- One leg of a bridge (R282-R287): the sides driven, the bootstrap hold, CK_PWM cycles (5 ns) since the last switch
and the dead time still to run before a side may turn on; in BRAKE `cutLow` says that the current holds the low side off
(R303). -/
structure Leg where
  hi     : Bool
  lo     : Bool
  wantHi : Bool
  bsLow  : Bool
  cutLow : Bool
  since  : Nat
  dead   : Nat
  deriving DecidableEq, Repr

/-- One motor channel: the MOTORk bank (R307) and what the channel remembers of its alignment (R290), its last speed
measurement (R294), its stop (R303), its media run (R301, R302) and a diagnostic run (R141). `encPos` is the encoder's count,
modulo CPR once that is known (R291), `offset` the position of electrical zero, `learnAt` when learning began, `pinNum` /
`pinDen` the last measure of the CMD pin as a share of full scale (R296), `reached` that the channel has been AT_SPEED since
ARM, `slow` that it has run below 80 % of its set-point for 5 ms (R302). -/
structure Motor where
  en        : Bool
  src       : BitVec 2
  stopMode  : Bool
  dumpEn    : Bool
  page      : Bool
  pos       : BitVec 2
  pp        : BitVec 5
  state     : MotState
  atSpeed   : Bool
  cmdValid  : Bool
  events    : BitVec 6
  speedReq  : BitVec 16
  accel     : BitVec 24
  decel     : BitVec 24
  ilimReq   : BitVec 16
  curcfg    : Word
  istep     : BitVec 16
  sband     : BitVec 16
  speed     : BitVec 16
  icmd      : Int
  cur       : Vector Int 3
  count     : Word
  encPos    : Int
  cpr       : BitVec 17
  cprValid  : Bool
  offset    : Int
  learnAt   : BitVec 64
  pinNum    : Nat
  pinDen    : Nat
  cmp0      : Word
  cmp1      : Word
  cmpEn     : BitVec 2
  auto0     : Bool
  scale     : Word
  legs      : Vector Leg 3
  posErr    : Bool
  reached   : Bool
  slow      : Bool
  alignOnly : Bool
  diagSet   : Option Nat
  deriving DecidableEq, Repr

/-- The resolver bank RDC (R293); bit n of `bad` says that resolver n's amplitude or tracking is out of its range (R292). -/
structure Rdc where
  en    : BitVec 2
  valid : BitVec 2
  bad   : BitVec 2
  angle : Vector (BitVec 16) 2
  amp   : Vector (BitVec 10) 2
  deriving DecidableEq, Repr

/-! ## Loop engine, HV, fuser (11) -/

/-- One loop (R315-R322, R332): the registers, the pending enable and period, the committed ones and the law's state, with the
time in DEVTIME of the output's last change (R319). -/
structure Loop where
  en       : Bool
  plog     : BitVec 4
  insel    : Byte
  outsel   : BitVec 7
  inv      : Bool
  setp     : Word
  band     : Word
  dwell    : BitVec 27
  value    : Word
  out      : Bool
  zone     : BitVec 2
  dwellRun : Bool
  changed  : Option (BitVec 64)
  stale    : Bool
  phase    : BitVec 10
  comEn    : Bool
  comPlog  : BitVec 4
  actEn    : Bool
  actPlog  : BitVec 4
  deriving DecidableEq, Repr

/-- LOOPENG (R332): the engine, its committed schedule waiting for the frame boundary (`applyDue`). -/
structure LoopEng where
  en       : Bool
  util     : BitVec 11
  reject   : Bool
  applyDue : Bool
  loops    : Vector Loop 32
  deriving DecidableEq, Repr

/-- HV (R333): `diagLimit` is the feedback limit of a diagnostic run (R331). -/
structure Hv where
  en        : BitVec 3
  inhib     : BitVec 3
  trip      : BitVec 3
  fb        : Vector (BitVec 12) 3
  diagLimit : Vector (Option Nat) 3
  deriving DecidableEq, Repr

/-- One heater (R325-R328): whether it conducts, the duty-envelope hold, the duty in effect in this period, its last mean
current, the conducting time (µs) of the last ten periods, newest first, and a diagnostic duty (R331). -/
structure Heater where
  on       : Bool
  held     : Bool
  dutyNow  : Nat
  ilast    : BitVec 16
  history  : List Nat
  diagDuty : Option Nat
  deriving DecidableEq, Repr

/-- FUSER (R333). -/
structure Fuser where
  en      : BitVec 2
  dutyReq : BitVec 10
  htr     : Vector Heater 2
  tsfOk   : Bool
  tsf     : BitVec 12
  deriving DecidableEq, Repr

/-- The cut of R165 and R335 that outlasts its cause: outputs of heaters, HV channels and lasers stay off until Sinov
applies the configuration again, once every fault of `faults` (what caused a safe stop) is cleared. `ldNew` are the lasers that wait
for a new SET_LASER after a block reset (R280, R337). -/
structure OutHold where
  faults : BitVec 256
  htr : BitVec 2
  hv  : BitVec 3
  ld  : BitVec 4
  ldNew : BitVec 4
  deriving DecidableEq, Repr

/-! ## Steelyard (12) -/

/-- One thermal node: SY_CAP, SY_NCFG, SY_LIM and its temperature in 2^-16 °C (R339). -/
structure Node where
  cap  : Word
  ncfg : Word
  lim  : BitVec 16
  temp : Int
  deriving DecidableEq, Repr

/-- A temperature input TSs (R344-R346): reading in 0.01 °C, validity, DISAGREE and the run counts of R346. -/
structure TsIn where
  cfg      : Word
  par      : Word
  temp     : Int
  valid    : Bool
  disagree : Bool
  outRun   : Nat
  inRun    : Nat
  deriving DecidableEq, Repr

/-- One throttle target (R348-R352): registers, H_t, T_low (2^-16 °C), the dwell and the REQ that Sinov keeps. -/
structure Throttle where
  cfg      : Word
  ret      : Word
  treq     : BitVec 16
  ceil     : BitVec 16
  tLow     : Int
  dwellRun : Bool
  held     : Bool
  reqPm    : Nat
  deriving DecidableEq, Repr

/-- The forecast engine (R354): `armed` is a GO that waits for the next evaluation, `live` the copied start state. -/
structure Forecast where
  armed : Bool
  busy  : Bool
  done  : Bool
  step  : BitVec 16
  steps : Vector (BitVec 16) 4
  pwr   : Vector (Vector Word 13) 4
  peak  : Vector Int 16
  peakAt : Vector Nat 16
  start : Vector Int 16
  deriving DecidableEq, Repr

/-- STEELYARD (R356); `pHist` holds the per-source powers of the last 1,000 evaluations, newest first. -/
structure Steelyard where
  run      : Bool
  unstable : Bool
  failNode : BitVec 4
  snapUsed : Bool
  count    : Word
  nodes    : Vector Node 16
  couple   : Vector Word 32
  psrc     : Vector Word 13
  pnow     : Vector Word 13
  pavg     : Vector Word 13
  pHist    : List (List Nat)
  ts       : Vector TsIn 8
  thr      : Vector Throttle 12
  fc       : Forecast
  deriving DecidableEq, Repr

/-- The AO snapshot of the node temperatures (R343): present or not per node, with the RTC second of its writing. -/
structure SySnap where
  temps : Vector (Option Int) 16
  sec   : BitVec 48
  deriving DecidableEq, Repr

/-! ## Till, time, crypto (13) -/

/-- The command the Till engine is working on (R361, R368, R369). -/
inductive TillOp
  | none
  | commit (rec : List Byte)
  | release (rec : List Byte) (upto : BitVec 64)
  | scan
  deriving DecidableEq, Repr

/-- TILL (R377): pointers, staging registers and engine; `tornRun` counts the torn records in a row (R366),
`walkAt` is the SEQ at which the chain walk goes on after a break, 0 before any (R364). -/
structure Till where
  busy       : Bool
  scanned    : Bool
  lastOk     : Bool
  lastTorn   : Bool
  stopped    : Bool
  walkDone   : Bool
  chainBreak : Bool
  head       : BitVec 64
  oldest     : BitVec 64
  next       : BitVec 64
  free       : BitVec 16
  rsv        : BitVec 2
  torn       : Word
  typ        : BitVec 16
  subtype    : BitVec 16
  len        : Byte
  counter    : Byte
  mode       : BitVec 4
  hostWord   : Word
  upto       : BitVec 64
  chain      : BitVec 256
  base       : BitVec 256
  body       : Vector Word 40
  op         : TillOp
  tornRun    : Nat
  walkAt     : Nat
  deriving DecidableEq, Repr

/-- RTC bank (R370-R378); seconds, sub-seconds, TIME_VALID, TIME_LOST and the loss mark lie in BKP. `lostDue` is a
TIME_LOST record still to be written (R375, R376), with the DEVTIME it carries; `alarmDone` that the armed alarm has
fired (R373). -/
structure Rtc where
  sec      : BitVec 48
  sub      : BitVec 15
  valid    : Bool
  lost     : Bool
  lossMark : Bool
  pending  : Bool
  alarmHit : Bool
  snapSec  : BitVec 48
  snapSub  : BitVec 15
  snapDt   : BitVec 64
  setSec   : BitVec 48
  alarm    : BitVec 48
  alarmEn  : Bool
  applyDt  : BitVec 64
  lostDue  : Bool
  lostDt   : BitVec 64
  alarmDone : Bool
  deriving DecidableEq, Repr

/-- CRYPTO (R379-R381): `msg` is the message fed to the SHA engine, digests have byte k in bits 8k+7:8k. -/
structure Crypto where
  shaCtrl   : Word
  shaBusy   : Bool
  shaFinal  : Bool
  msg       : List Byte
  digest    : BitVec 256
  signOp    : BitVec 2
  signBusy  : Bool
  signValid : Bool
  hash      : BitVec 256
  r         : BitVec 256
  sg        : BitVec 256
  mextD     : BitVec 256
  meas      : Vector (BitVec 256) 8
  loaded    : BitVec 8
  vkey      : Vector Word 16
  deriving DecidableEq, Repr

/-- ADC bank (R510). -/
structure Adc where
  val   : Vector Word 36
  valid : BitVec 36
  sweep : Word
  deriving DecidableEq, Repr

/-! ## Cluster, caches, wheel, memory controllers (14) -/

/-- MESI state of a line in an L1 (R387, R389). -/
inductive Mesi
  | m | e | s
  deriving DecidableEq, Repr

/-- A line held in an L1 data cache: line number (address / 64), state and its 64 bytes. -/
structure L1Line where
  line  : Nat
  state : Mesi
  data  : List Byte
  deriving DecidableEq, Repr

/-- A line held in the L2 with its directory entry: owner (E or M in an L1) and sharers. -/
structure L2Line where
  line    : Nat
  dirty   : Bool
  data    : List Byte
  owner   : Option (Fin 4)
  sharers : BitVec 4
  deriving DecidableEq, Repr

/-- A hart of the cluster as the debug module and the atomics see it (R386, R395, R511). -/
structure Hart where
  x       : Vector (BitVec 64) 32
  f       : Vector (BitVec 64) 32
  pc      : BitVec 64
  priv    : BitVec 2
  csrs    : List (Nat × BitVec 64)
  halted  : Bool
  resv    : Option Nat
  deriving DecidableEq, Repr

/-- The cluster: harts, L1 data caches, L1 instruction lines held, and the L2 with its directory and counters. `turnQ`
holds the coherence requests not yet served, each with the number of turns it has waited. -/
structure Cluster where
  harts  : Vector Hart 4
  l1d    : Vector (List L1Line) 4
  l1i    : Vector (List Nat) 4
  l2     : List L2Line
  ptr    : Vector (Fin 4) 4
  busy   : Bool
  op     : BitVec 2
  hit    : Vector Word 4
  miss   : Vector Word 4
  wb     : Vector Word 4
  turnQ  : List (Nat × CohReq)
  deriving DecidableEq, Repr

/-- A request waiting at the wheel (R401-R403): `since` is the number of slots it has waited. -/
structure Waiting where
  req   : WheelReq
  since : Nat
  deriving DecidableEq, Repr

/-- FABRIC (R402-R406): the written and the effective allotment, the map, the waiting requests in order of arrival,
the last master served per class, and the counters. -/
structure Fabric where
  allotV   : BitVec 7
  allotE   : BitVec 7
  effV     : BitVec 7
  effE     : BitVec 7
  pending  : Bool
  limits   : Word
  age      : Byte
  pos      : Fin 64
  waiting  : List Waiting
  last     : Vector Byte 5
  grants   : Vector Word 5
  reclaim  : Word
  idle     : Word
  vwaitMax : BitVec 16
  deriving DecidableEq, Repr

/-- DRAMC (R408). -/
structure Dramc where
  ready     : Bool
  selfRef   : Bool
  derate    : Bool
  trainFail : Bool
  temp      : BitVec 3
  rd        : Word
  wr        : Word
  refr      : Word
  deriving DecidableEq, Repr

/-! ## Interrupt controllers and Barrow (15) -/

/-- One context of a controller (R419-R421): stack entries are (source, PRIO at entry), top first. -/
structure LicCtx where
  en        : BitVec 320
  thresh    : Byte
  stack     : List (Nat × Byte)
  enterMiss : Bool
  exitMiss  : Bool
  full      : Bool
  best      : Option (Nat × Byte)
  line      : Bool
  deriving DecidableEq, Repr

/-- A LIC bank (R425): LIC_KEEP uses context 0, sources below 160 and timer 0 only. -/
structure Lic where
  prisplit : BitVec 3
  swi      : Word
  prio     : Vector Byte 320
  level    : BitVec 320
  ctx      : Vector LicCtx 8
  mtimecmp : Vector (BitVec 64) 4
  msip     : BitVec 4
  mtip     : BitVec 4
  deriving DecidableEq, Repr

/-- STATUS.STATE of a Barrow channel (R432). -/
inductive BwState
  | idle | run | done | stopped | error
  deriving DecidableEq, Repr

/-- One Barrow channel (R426-R432): `stopDue` is a STOP that waits for the request outstanding. -/
structure BwChan where
  src     : BitVec 40
  dst     : BitVec 40
  count   : BitVec 31
  mode    : BitVec 2
  ie      : Bool
  fill    : Word
  state   : BwState
  code    : BitVec 4
  ended   : Bool
  lost    : Bool
  mism    : Bool
  misOfs  : BitVec 31
  misOk   : Bool
  remain  : BitVec 31
  stopDue : Bool
  deriving DecidableEq, Repr

/-- A Barrow controller; BARROW_KEEP uses channels 0-7. -/
structure Barrow where
  ch : Vector BwChan 16
  deriving DecidableEq, Repr

/-! ## GPIO and pin multiplexer (16) -/

/-- One GPIO bank (R446-R455): `pad` holds the levels that the board drives at the pins, `held` the pins under hold
(GPIOD only). -/
structure Gpio where
  pad        : Word
  out        : Word
  irqCfg     : Vector Word 4
  evt        : Word
  lockMask   : Word
  lockStat   : Word
  lockStep   : BitVec 2
  lockMaster : BitVec 4
  abort      : Bool
  held       : Word
  deriving DecidableEq, Repr

/-! ## SPI, HSPI, Ethernet, xSPI (17) -/

/-- One SPIM port (R462-R465): `alive` is the value the next frame sends, `lastAlive` the last accepted one. -/
structure Spim where
  ctrl      : Word
  clk       : Byte
  busy      : Bool
  events    : BitVec 5
  irqen     : BitVec 5
  tx        : List Word
  rx        : List Word
  sftx      : Vector Word 16
  sfrx      : Vector Word 16
  alive     : BitVec 4
  lastAlive : Option (BitVec 4)
  sendBad   : Bool
  sendSkip  : Bool
  sent      : List Byte
  deriving DecidableEq, Repr

/-- One HSPI chip-select (R466-R470): the reply the next device frame carries and the frame or bytes last shifted out. -/
structure HspiCs where
  alive     : BitVec 4
  lastAlive : Option (BitVec 4)
  sendBad   : Bool
  sendSkip  : Bool
  broken    : Bool
  refused   : Bool
  readOfs   : Option Byte
  echoOfs   : Byte
  badCnt    : Word
  miso      : List Byte
  deriving DecidableEq, Repr

/-- HSPI (R471). -/
structure Hspi where
  mode0   : Bool
  len     : BitVec 7
  cfgDue  : Option Word
  active  : BitVec 2
  events  : BitVec 3
  irqen   : BitVec 3
  cs      : Vector HspiCs 2
  deriving DecidableEq, Repr

/-- One MAC (R472-R477): `pauseEnd` the DEVTIME until which a received PAUSE frame holds
transmission (R472), `sent` the last frame put on the line. -/
structure Eth where
  ctrl     : Word
  txRun    : Bool
  rxRun    : Bool
  ptpValid : Bool
  events   : BitVec 5
  irqen    : BitVec 5
  addr     : Vector (BitVec 48) 4
  addrEn   : BitVec 4
  txBase   : BitVec 40
  txSize   : Word
  txTail   : Word
  txHead   : Word
  rxBase   : BitVec 40
  rxSize   : Word
  rxTail   : Word
  rxHead   : Word
  busErr   : Word
  mdio     : Word
  mdioBusy : Bool
  fcsErr   : Word
  rxDrop   : Word
  txAbort  : Word
  ptpSec   : BitVec 48
  ptpNs    : Nat
  ptpFrac  : BitVec 32
  setSec   : BitVec 48
  setNs    : Word
  adj      : Word
  ppsWidth : BitVec 10
  pps      : Bool
  capSec   : BitVec 48
  capNs    : BitVec 30
  pauseEnd : BitVec 64
  sent     : List Byte
  deriving DecidableEq, Repr

/-- XSPI (R478-R483): `op` is the running operation: 1 erase, 2 program, at `opAddr`, with the bytes to program. -/
structure Xspi where
  busy    : Bool
  susp    : Bool
  octal   : Bool
  noSusp  : Bool
  addr    : BitVec 28
  len     : BitVec 9
  events  : BitVec 3
  irqen   : BitVec 3
  kslot   : BitVec 4
  aslot   : BitVec 4
  dflt    : Bool
  buf     : Vector Word 64
  op      : BitVec 2
  opAddr  : Nat
  opData  : List Byte
  deriving DecidableEq, Repr

/-! ## SYSCTL and DEBUG (19) -/

/-- SYSCTL (R507). -/
structure SysCtl where
  mode    : BitVec 2
  minset  : Bool
  sinov   : Word
  scratch : Vector Word 256
  deriving DecidableEq, Repr

/-- DEBUG (R511): the DMI registers and the trace ring. `haltReq`, `resumeAck` and `haveReset` are the debug module's own
bits for each hart (log 6). -/
structure Debug where
  dmi        : Vector Word 128
  haltReq    : BitVec 4
  resumeAck  : BitVec 4
  haveReset  : BitVec 4
  trcCtrl    : BitVec 2
  trcFull    : Bool
  trcWptr    : Nat
  filtMaster : Word
  filtAddr   : BitVec 40
  filtMask   : BitVec 40
  buf        : Vector Word 1536
  deriving DecidableEq, Repr

/-! ## Sinov (02, 04) -/

/-- A SET_MOTOR configuration (R308); `stopped` by a MOTOR_STOP since (R306), `startDue` that the channel is to start once
it stands still (log 33). -/
structure MotorCfg where
  stopped  : Bool
  startDue : Bool
  src      : BitVec 2
  facets   : Nat
  stopMode : Bool
  speed    : Nat
  accel    : Nat
  decel    : Nat
  iLimit   : Nat
  iPeak    : Nat
  dump     : Bool
  page     : Bool
  pos      : BitVec 2
  pp       : Nat
  deriving DecidableEq, Repr

/-- A SET_LOOP configuration (R334). -/
structure LoopCfg where
  en     : Bool
  plog   : BitVec 4
  setp   : Word
  band   : Word
  dwell  : Nat
  insel  : Byte
  outsel : BitVec 7
  inv    : Bool
  deriving DecidableEq, Repr

/-- A SET_HV configuration, set-point and band in feedback mV (R324, R334). -/
structure HvCfg where
  en    : Bool
  plog  : BitVec 4
  setp  : Nat
  band  : Nat
  dwell : Nat
  deriving DecidableEq, Repr

/-- A SET_FUSER configuration (R334). -/
structure FuserCfg where
  en    : BitVec 2
  plog  : BitVec 4
  set0  : Nat
  set1  : Nat
  band  : Nat
  dwell : Nat
  duty  : Nat
  deriving DecidableEq, Repr

/-- A SET_LASER configuration (R277). -/
structure LaserCfg where
  en    : Bool
  plog  : BitVec 4
  power : Nat
  iCeil : Nat
  delay : Nat
  deriving DecidableEq, Repr

/-- A page admission or the page in flight (R57-R61): handle, holding counter, the 48 descriptor bytes and the seven
entries of the R57 reply. While the forecast runs, a report that is not empty says that it has lapsed meanwhile (R59). -/
structure Admission where
  handle  : BitVec 16
  counter : Fin 8
  desc    : List Byte
  report  : List Byte
  deriving DecidableEq, Repr

/-- What Sinov does when a record it asked for commits (R39, R73, R122, R129-R138). -/
inductive Cont
  | none
  | reply (n : Fin 8) (payload : List Byte)
  | replySeq (n : Fin 8)
  | toMode (m : BitVec 2) (n : Fin 8)
  | readyAtPowerUp
  | unseal (n : Fin 8) (ok : Bool)
  | sleepAfter (n : Fin 8) (wake : BitVec 3) (alarm : BitVec 48)
  | docket
  | powerUp
  | fwSelect (n : Fin 8) (image : Bool)
  | optionCopies (n : Fin 8) (record : List Byte)
  | failed (n : Fin 8)
  | powerFail
  deriving DecidableEq, Repr

/-- A record Sinov wants committed: TYPE, SUBTYPE, COUNTER, HOST_WORD, body, use of the reserved pair (R367). -/
structure Want where
  typ      : BitVec 16
  subtype  : BitVec 16
  counter  : Byte
  hostWord : Word
  body     : List Byte
  rsvOk    : Bool
  release  : Option (BitVec 64)
  cont     : Cont
  deriving DecidableEq, Repr

/-- Staging of one firmware image (R134-R136). -/
structure FwStage where
  active   : Bool
  length   : Nat
  erased   : Nat
  next     : Nat
  verified : Option (BitVec 256)
  deriving DecidableEq, Repr

/-- Work of a command that its committed record leaves to be done (R142, R143), with the sequence number to be replied:
the selection of the staged slot (R137), or the copies of a checked option record (R138). -/
inductive AfterCommit
  | slot (n : Fin 8) (app : Bool) (seq : List Byte)
  | copies (n : Fin 8) (record : List Byte) (seq : List Byte)
  deriving DecidableEq, Repr

/-- The firmware's own state in Keeper SRAM. `served` are the counters in the order in which their last
frame without a window was taken (R103), `closedAt` when the window closed that a counter's frame has won (R104), `after`
what a committed record leaves to be done. `timeWait` is the counter whose TIME_SET waits for its apply edge (R132).
`wants` are the records it wants committed, in order; `inEngine` says that the
Till engine works on the first of them. -/
structure Sinov where
  admission  : Option Admission
  page       : Option Admission
  admitWait  : Option Admission
  spoilBy    : Byte
  nextHandle : BitVec 16
  wants      : List Want
  inEngine   : Bool
  timeWait   : Option (Fin 8)
  served     : List (Fin 8)
  closedAt   : Vector (BitVec 64) 8
  after      : Option AfterCommit
  motor      : Vector (Option MotorCfg) 6
  loop       : Vector (Option LoopCfg) 32
  hv         : Vector (Option HvCfg) 3
  fuser      : Option FuserCfg
  laser      : Vector (Option LaserCfg) 4
  profile    : Vector (Option (List (BitVec 24))) 8
  stage      : Vector FwStage 2
  optBuf     : Vector Byte 512
  optLoaded  : BitVec 512
  optOpen    : Bool
  omitted    : Bool
  resetReq   : Option (BitVec 2)
  sleepReq   : Option (BitVec 3)
  diag       : Vector (Option Nat) 16
  digest     : BitVec 256
  deriving DecidableEq, Repr

/-- The staged docket (R73) and the last docket (R68, GET_DOCKET), in AO retention. `counter` is the counter that
spoiled the page (R68), `holder` that of START_PAGE, whose HOST_WORD the record carries (R86). -/
structure DocketStore where
  body     : List Byte
  due      : Bool
  seq      : BitVec 64
  state    : BitVec 2
  handle   : BitVec 16
  pageId   : Word
  counter  : Byte
  holder   : Byte
  hostWord : Word
  digest   : BitVec 256
  deriving DecidableEq, Repr

/-- One copy held by a master for the second half of a 64-bit pair (R9, R371): master, address of the word, value. -/
structure Holding where
  master : Master
  addr   : Nat
  value  : Word
  deriving DecidableEq, Repr

/-! ## The whole block -/

/-- Everything the spec gives the device, and the queue of waiting commands. `freeCtr` is the model's own field: the
index of the next free value (log 8). -/
structure State where
  counters  : Vector Counter 8
  cntWindow : BitVec 7
  windows   : List Window
  docket    : Docket
  dkStore   : DocketStore
  sinov     : Sinov
  envg      : EnvGuard
  hdie      : HDie
  link      : EngLink
  hub       : FaultHub
  supply    : Supply
  ps        : PwrSeq
  rst       : RstCtl
  loader    : Loader
  optshd    : Vector Byte 512
  clk       : ClkGen
  pix       : PixRamp
  video     : Video
  beam      : BeamUnit
  motors    : Vector Motor 6
  rdc       : Rdc
  loops     : LoopEng
  hv        : Hv
  fuser     : Fuser
  outHold   : OutHold
  vregen    : Word
  sy        : Steelyard
  sySnap    : SySnap
  thrCopy   : Vector (BitVec 16) 12
  adc       : Adc
  till      : Till
  rtc       : Rtc
  devtime   : BitVec 64
  crypto    : Crypto
  cluster   : Cluster
  fabric    : Fabric
  dramc     : Dramc
  licApp    : Lic
  licKeep   : Lic
  bwApp     : Barrow
  bwKeep    : Barrow
  gpio      : Vector Gpio 4
  pincfg    : Vector (BitVec 13) 120
  spim      : Vector Spim 4
  hspi      : Hspi
  eth       : Vector Eth 2
  xspi      : Xspi
  sys       : SysCtl
  dbg       : Debug
  hold      : List Holding
  mem       : Mem
  tickPhase : BitVec 2
  ao32Acc   : Nat
  freeCtr   : Nat
  pending   : List Instr
  deriving DecidableEq, Repr

/-! ## Reset -/

/-- A counter after POWER_ON (R81): REQ and RPL words are x there (log 2), the rank is the ROM safe one (log 3). -/
def Counter.reset (rank : Fin 8) : Counter where
  req := Vector.replicate 256 0
  rpl := Vector.replicate 256 0
  stage := .idle
  ringLost := false
  rst := true
  stale := false
  lastTag := 0
  rank := rank
  doneIe := false
  stamp := 0
  ferr := 0
  frame := .none
  badRun := 0
  badDue := false
  stored := none

/-- The DOCKET bank after POWER_ON (R65). -/
def Docket.reset : Docket where
  arm := false
  spoil := false
  close := false
  st := .idle
  planned := 0
  beams := 1
  mediaCh := 0
  written := 0
  blanked := 0
  firstSpoil := 0xFFFF_FFFF
  mediaPos := 0
  outcome := 0
  spoilFault := 0
  flags := 0
  faultValid := false
  facets := 0
  tStart := 0
  tFirst := 0
  tEnd := 0
  facetOpen := false
  tof := false
  fresh := false

/-- A zero envelope (R34, R146). -/
def EnvVals.zero : EnvVals where
  ldI := Vector.replicate 4 0
  ldOn := 0
  htrDuty := Vector.replicate 2 0
  tsf := 0
  mI := Vector.replicate 6 0
  mRpm := Vector.replicate 6 0
  hvFb := Vector.replicate 3 0

/-- The H-die after its own reset (R146, R150): zero envelope, unlocked, in the safe state, every output off. -/
def HDie.reset : HDie where
  powered := false
  env := EnvVals.zero
  lock := false
  loaded := false
  safe := true
  underHold := true
  validRun := 0
  rxSeq := 0
  ldOff := 0
  ldOnOff := false
  htrOff := 0
  mOff := 0
  mFast := 0
  hvOff := 0
  dump := false
  hot := false
  pfwCut := false
  tempMdeg := 0

/-- The fault hub after POWER_ON (R159, R161, R164): classes of R160 (log 3), nFAULT low until the class table. -/
def FaultHub.reset : FaultHub where
  raised := 0
  raisedAt := Vector.replicate 256 0
  unack := 0
  timing := 0
  present := 0
  cfg := Vector.ofFn fun i => faultDefault i.val
  timerCfg := Vector.replicate 256 0
  expired := 0
  expiredAt := 0
  speedCh := 0
  posCh := 0
  optImm := 0
  tableDone := false
  escAction := 0
  escValid := false
  escId := 0
  escTime := 0
  feValid := false
  feAddr := 0
  feMaster := 0xFF
  feKind := 0
  feSize := 0
  feTime := 0
  feSource := 0
  feOver := 0

/-- The supply before VIN rises. -/
def Supply.reset : Supply where
  vin := 0
  vaux := 0
  history := []
  softStart := false
  softDone := false
  vauxGood := false
  vauxLow := false
  vinHigh := false
  vinRegen := false
  vbkpLow := false
  aoOnVbkp := false
  aoValid := false
  aoPor := false

/-- PWRSEQ after POWER_ON (R199), OPT values of the ROM safe record (log 3). -/
def PwrSeq.reset : PwrSeq where
  phase := .boot
  pfwSeen := false
  retry := 0
  on := 3
  closing := 0
  fail := 0
  req := optDomainEn romRecord
  rails := Vector.replicate 12 .off
  seqpg := 0
  railFail := 0
  extCfg := Vector.ofFn fun i => optExtCfg romRecord i.val
  order := []
  vin := 0
  vinAvg := 0
  vaux := 0
  pfwCfg := 0x0000_0100
  holdDecl := 0
  pfwTime := 0
  shdn := Vector.ofFn fun i => optShdn romRecord i.val
  table := Vector.replicate 31 0
  offCause := .none
  tpfwDone := false
  deferEnd := false
  deferred := []
  docketEnds := false
  offDelay := false
  runPhase := false
  failedIn := false
  nPFW := false
  wakeEn := 0

/-- RSTCTL after POWER_ON (R230), with the loader not yet run (log 3). -/
def RstCtl.reset : RstCtl where
  cause := 1
  kind := 0
  count := 0
  time := 0
  engHold := true
  blk := Vector.replicate 24 .none
  lastBlk := 0
  blkTimeout := false
  optState := 0
  applied := 2
  validA := false
  validB := false
  optrec := false
  repaired := false
  loadFails := 0
  seqA := 0
  seqB := 0
  parLoc := 0
  dedAddr := 0
  kwdgCfg := 10
  kwdgRun := false
  awdgPeriod := 0
  awdgEn := false
  cores := 0
  holdRelOpen := false
  holdRel := false
  fresh := false
  step := .off
  held := []

/-- CLKGEN after POWER_ON (R245). -/
def ClkGen.reset : ClkGen where
  lock := 0
  refOk := false
  ao32Ok := false
  fb := 0xF
  events := 0
  cpuDiv := 4
  cpuDivEff := 4
  pfwHold := false

/-- PIXRAMP after reset (R250); PR_SEG is x there (log 2). -/
def PixRamp.reset : PixRamp where
  en := false
  profile := 0
  profEff := 0
  seg := 0
  started := false
  pos := 0
  delta := 0
  holding := false
  frozen := false
  nom := 0x0001_0250
  nfrac := 0
  segs := Vector.replicate 8 0
  retrig := 0
  seg24 := Vector.replicate 8 (Vector.replicate 64 0)

/-- VIDEO after reset (R275). -/
def Video.reset : Video where
  en := false
  beams := 1
  bpp := false
  base := 0
  stride := 0
  lineBytes := 0
  lines := 0
  fetched := 0
  consumed := 0
  evUnder := false
  evFetch := false
  errLine := 0xFFFF_FFFF
  running := false
  granted := 0
  fifo := []

/-- One beam after reset (R276). -/
def LaserBeam.reset : LaserBeam where
  delay := 0
  en := false
  step := 2
  ceilReq := 0
  drive := 0
  mon := 0
  monNew := false
  lit := false
  diagLevel := none
  diagDrive := 0

/-- BEAM after reset (R276). -/
def BeamUnit.reset : BeamUnit where
  en := false
  beams := 1
  bpp := false
  inv := false
  bdBeam := 0
  diag := false
  sync := .idle
  intlk := false
  linePix := 0
  bdSrc := false
  bdEdge := false
  bdChk := false
  bdPer := 0
  bdGate := 0x00C8_1414
  bdMeas := 0
  facets := 0
  pwm := 0x0010_0B06
  evMiss := false
  evExtra := false
  evIntlk := false
  evUnder := false
  ld := Vector.replicate 4 LaserBeam.reset
  firstEdge := false
  lockCount := 0
  gate := false
  edgeSeen := false
  pulse := false
  linesDue := false
  heldOff := false
  cutSync := .idle
  cutGate := false
  cutDue := false
  pulses := []

/-- A leg with both sides off. -/
def Leg.reset : Leg where
  hi := false
  lo := false
  wantHi := false
  bsLow := false
  cutLow := false
  since := 0
  dead := 0

/-- MOTORk after reset (R307). -/
def Motor.reset : Motor where
  en := false
  src := 0
  stopMode := false
  dumpEn := false
  page := false
  pos := 0
  pp := 1
  state := .off
  atSpeed := false
  cmdValid := false
  events := 0
  speedReq := 0
  accel := 0
  decel := 0
  ilimReq := 0
  curcfg := 0x1400_0A00
  istep := 0
  sband := 1
  speed := 0
  icmd := 0
  cur := Vector.replicate 3 0
  count := 0
  encPos := 0
  cpr := 0
  cprValid := false
  offset := 0
  learnAt := 0
  pinNum := 0
  pinDen := 1
  cmp0 := 0
  cmp1 := 0
  cmpEn := 0
  auto0 := false
  scale := 0
  legs := Vector.replicate 3 Leg.reset
  posErr := false
  reached := false
  slow := false
  alignOnly := false
  diagSet := none

/-- RDC after reset (R293). -/
def Rdc.reset : Rdc where
  en := 0
  valid := 0
  bad := 0
  angle := Vector.replicate 2 0
  amp := Vector.replicate 2 0

/-- A loop after reset (R332), with its fixed input selector. -/
def Loop.reset (insel : Byte) : Loop where
  en := false
  plog := 0
  insel := insel
  outsel := 0
  inv := false
  setp := 0
  band := 0
  dwell := 0
  value := 0
  out := false
  zone := 0
  dwellRun := false
  changed := none
  stale := false
  phase := 0
  comEn := false
  comPlog := 0
  actEn := false
  actPlog := 0

/-- The fixed INSEL values of loops 0-8 (R332); 0 for the others. -/
def fixedInsel (n : Nat) : Byte :=
  match n with
  | 0 => 18
  | 1 => 19
  | 2 => 27
  | 3 => 28
  | 4 => 29
  | 5 => 32
  | 6 => 33
  | 7 => 34
  | 8 => 35
  | _ => 0

/-- LOOPENG after reset (R332). -/
def LoopEng.reset : LoopEng where
  en := false
  util := 0
  reject := false
  applyDue := false
  loops := Vector.ofFn fun i => Loop.reset (fixedInsel i.val)

/-- HV after reset (R333). -/
def Hv.reset : Hv where
  en := 0
  inhib := 0
  trip := 0
  fb := Vector.replicate 3 0
  diagLimit := Vector.replicate 3 none

/-- A heater after reset. -/
def Heater.reset : Heater where
  on := false
  held := false
  dutyNow := 0
  ilast := 0
  history := []
  diagDuty := none

/-- FUSER after reset (R333). -/
def Fuser.reset : Fuser where
  en := 0
  dutyReq := 0
  htr := Vector.replicate 2 Heater.reset
  tsfOk := false
  tsf := 0

/-- No output held. -/
def OutHold.none : OutHold where
  faults := 0
  htr := 0
  hv := 0
  ld := 0
  ldNew := 0

/-- A thermal node after reset (R356). -/
def Node.reset : Node where
  cap := 0
  ncfg := 0
  lim := 0x7FFF
  temp := 0

/-- A TS input after reset (R356). -/
def TsIn.reset : TsIn where
  cfg := 0
  par := 0
  temp := 0
  valid := false
  disagree := false
  outRun := 0
  inRun := 0

/-- A throttle target after reset, H_t at its full scale (R348, R356). -/
def Throttle.reset (full : BitVec 16) : Throttle where
  cfg := 0
  ret := 0
  treq := 0
  ceil := full
  tLow := 0
  dwellRun := false
  held := false
  reqPm := 1000

/-- The forecast engine after reset (R356). -/
def Forecast.reset : Forecast where
  armed := false
  busy := false
  done := false
  step := 0
  steps := Vector.replicate 4 0
  pwr := Vector.replicate 4 (Vector.replicate 13 0)
  peak := Vector.replicate 16 0
  peakAt := Vector.replicate 16 0
  start := Vector.replicate 16 0

/-- Full scale F_t of throttle target t under an envelope (R348). -/
def throttleFull (e : EnvVals) (t : Nat) : BitVec 16 :=
  if t < 2 then 1000
  else if t < 8 then (e.mI[t - 2]?.getD 0).setWidth 16
  else (e.ldI[t - 8]?.getD 0).setWidth 16

/-- STEELYARD after reset under an envelope (R356). -/
def Steelyard.reset (e : EnvVals) : Steelyard where
  run := false
  unstable := false
  failNode := 0
  snapUsed := false
  count := 0
  nodes := Vector.replicate 16 Node.reset
  couple := Vector.replicate 32 0
  psrc := Vector.replicate 13 0
  pnow := Vector.replicate 13 0
  pavg := Vector.replicate 13 0
  pHist := []
  ts := Vector.replicate 8 TsIn.reset
  thr := Vector.ofFn fun t => Throttle.reset (throttleFull e t.val)
  fc := Forecast.reset

/-- TILL after POWER_ON (R377); TL_BODY is x there (log 2). -/
def Till.reset : Till where
  busy := false
  scanned := false
  lastOk := false
  lastTorn := false
  stopped := false
  walkDone := false
  chainBreak := false
  head := 0
  oldest := 0
  next := 0
  free := 0
  rsv := 0
  torn := 0
  typ := 0
  subtype := 0
  len := 0
  counter := 0xFF
  mode := 0
  hostWord := 0
  upto := 0
  chain := 0
  base := 0
  body := Vector.replicate 40 0
  op := .none
  tornRun := 0
  walkAt := 0

/-- RTC at the power-on of the BKP domain (R375, R378). -/
def Rtc.reset : Rtc where
  sec := 0
  sub := 0
  valid := false
  lost := true
  lossMark := false
  pending := false
  alarmHit := false
  snapSec := 0
  snapSub := 0
  snapDt := 0
  setSec := 0
  alarm := 0
  alarmEn := false
  applyDt := 0
  lostDue := true
  lostDt := 0
  alarmDone := false

/-- CRYPTO after reset (R381). -/
def Crypto.reset : Crypto where
  shaCtrl := 0
  shaBusy := false
  shaFinal := false
  msg := []
  digest := 0
  signOp := 0
  signBusy := false
  signValid := false
  hash := 0
  r := 0
  sg := 0
  mextD := 0
  meas := Vector.replicate 8 0
  loaded := 0
  vkey := Vector.replicate 16 0

/-- ADC after reset (R510). -/
def Adc.reset : Adc where
  val := Vector.replicate 36 0
  valid := 0
  sweep := 0

/-- A hart after reset: no register has a stated reset value (log 2). -/
def Hart.reset : Hart where
  x := Vector.replicate 32 0
  f := Vector.replicate 32 0
  pc := 0
  priv := 3
  csrs := []
  halted := false
  resv := none

/-- The cluster and L2DIR after reset (R407). -/
def Cluster.reset : Cluster where
  harts := Vector.replicate 4 Hart.reset
  l1d := Vector.replicate 4 []
  l1i := Vector.replicate 4 []
  l2 := []
  ptr := Vector.replicate 4 0
  busy := false
  op := 0
  hit := Vector.replicate 4 0
  miss := Vector.replicate 4 0
  wb := Vector.replicate 4 0
  turnQ := []

/-- FABRIC after reset (R406) under the limits given: VIDEO_MAX and ENGINE_MIN slots (R404). `last` lets each class's
rotation start at its first master (log 2). -/
def Fabric.reset (limits : Word) : Fabric where
  allotV := (limits >>> 8).setWidth 7
  allotE := (limits >>> 16).setWidth 7
  effV := (limits >>> 8).setWidth 7
  effE := (limits >>> 16).setWidth 7
  pending := false
  limits := limits
  age := 8
  pos := 0
  waiting := []
  last := Vector.replicate 5 3
  grants := Vector.replicate 5 0
  reclaim := 0
  idle := 0
  vwaitMax := 0

/-- DRAMC after reset (R408). -/
def Dramc.reset : Dramc where
  ready := false
  selfRef := false
  derate := false
  trainFail := false
  temp := 0
  rd := 0
  wr := 0
  refr := 0

/-- A context after reset (R425). -/
def LicCtx.reset : LicCtx where
  en := 0
  thresh := 0
  stack := []
  enterMiss := false
  exitMiss := false
  full := false
  best := none
  line := false

/-- A LIC bank after reset (R425). -/
def Lic.reset : Lic where
  prisplit := 0
  swi := 0
  prio := Vector.replicate 320 0
  level := 0
  ctx := Vector.replicate 8 LicCtx.reset
  mtimecmp := Vector.replicate 4 (-1)
  msip := 0
  mtip := 0

/-- A Barrow channel after reset (R432). -/
def BwChan.reset : BwChan where
  src := 0
  dst := 0
  count := 0
  mode := 0
  ie := false
  fill := 0
  state := .idle
  code := 0
  ended := false
  lost := false
  mism := false
  misOfs := 0
  misOk := false
  remain := 0
  stopDue := false

/-- A Barrow controller after reset. -/
def Barrow.reset : Barrow where
  ch := Vector.replicate 16 BwChan.reset

/-- A GPIO bank after reset (R228, R453): every pin pulled up (log 4). -/
def Gpio.reset : Gpio where
  pad := 0xFFFF_FFFF
  out := 0
  irqCfg := Vector.replicate 4 0
  evt := 0
  lockMask := 0
  lockStat := 0
  lockStep := 0
  lockMaster := 0
  abort := false
  held := 0

/-- A SPIM port after reset (R465). -/
def Spim.reset : Spim where
  ctrl := 0x0000_1F00
  clk := 1
  busy := false
  events := 0
  irqen := 0
  tx := []
  rx := []
  sftx := Vector.replicate 16 0
  sfrx := Vector.replicate 16 0
  alive := 0
  lastAlive := none
  sendBad := false
  sendSkip := false
  sent := []

/-- An HSPI chip-select after reset (R460, R470). -/
def HspiCs.reset : HspiCs where
  alive := 0
  lastAlive := none
  sendBad := false
  sendSkip := false
  broken := false
  refused := false
  readOfs := none
  echoOfs := 0
  badCnt := 0
  miso := []

/-- HSPI after reset (R471). -/
def Hspi.reset : Hspi where
  mode0 := false
  len := 32
  cfgDue := none
  active := 0
  events := 0
  irqen := 0
  cs := Vector.replicate 2 HspiCs.reset

/-- A MAC after reset (R477). -/
def Eth.reset : Eth where
  ctrl := 0
  txRun := false
  rxRun := false
  ptpValid := false
  events := 0
  irqen := 0
  addr := Vector.replicate 4 0
  addrEn := 0
  txBase := 0
  txSize := 0
  txTail := 0
  txHead := 0
  rxBase := 0
  rxSize := 0
  rxTail := 0
  rxHead := 0
  busErr := 0
  mdio := 0
  mdioBusy := false
  fcsErr := 0
  rxDrop := 0
  txAbort := 0
  ptpSec := 0
  ptpNs := 0
  ptpFrac := 0
  setSec := 0
  setNs := 0
  adj := 0
  ppsWidth := 100
  pps := false
  capSec := 0
  capNs := 0
  pauseEnd := 0
  sent := []

/-- XSPI after reset (R483); XS_BUF is x there (log 2). -/
def Xspi.reset : Xspi where
  busy := false
  susp := false
  octal := false
  noSusp := false
  addr := 0
  len := 0
  events := 0
  irqen := 0
  kslot := 0xF
  aslot := 0xF
  dflt := false
  buf := Vector.replicate 64 0
  op := 0
  opAddr := 0
  opData := []

/-- SYSCTL after POWER_ON (R507); SYS_SCRATCH is x there (log 2). -/
def SysCtl.reset : SysCtl where
  mode := 0
  minset := false
  sinov := 0
  scratch := Vector.replicate 256 0

/-- DEBUG after reset (R511); TRC_BUF is x there (log 2), the DMI registers are those of log 6. -/
def Debug.reset : Debug where
  dmi := Vector.replicate 128 0
  haltReq := 0
  resumeAck := 0
  haveReset := 0xF
  trcCtrl := 0
  trcFull := false
  trcWptr := 0
  filtMaster := 0
  filtAddr := 0
  filtMask := 0
  buf := Vector.replicate 1536 0

/-- No staging in progress. -/
def FwStage.reset : FwStage where
  active := false
  length := 0
  erased := 0
  next := 0
  verified := none

/-- Sinov's state after a reset that clears Keeper SRAM (R208). The first handle is a DESIGN CHOICE (log 21). -/
def Sinov.reset : Sinov where
  admission := none
  page := none
  admitWait := none
  spoilBy := 0xFF
  nextHandle := 1
  wants := []
  inEngine := false
  timeWait := none
  served := []
  closedAt := Vector.replicate 8 0
  after := none
  motor := Vector.replicate 6 none
  loop := Vector.replicate 32 none
  hv := Vector.replicate 3 none
  fuser := none
  laser := Vector.replicate 4 none
  profile := Vector.replicate 8 none
  stage := Vector.replicate 2 FwStage.reset
  optBuf := Vector.replicate 512 0
  optLoaded := 0
  optOpen := false
  omitted := false
  resetReq := none
  sleepReq := none
  diag := Vector.replicate 16 none
  digest := 0

/-- No docket since POWER_ON. -/
def DocketStore.reset : DocketStore where
  body := []
  due := false
  seq := 0
  state := 0
  handle := 0
  pageId := 0
  counter := 0xFF
  holder := 0xFF
  hostWord := 0
  digest := 0

/-- The device after a POWER_ON reset, before VIN rises: every register at the value its table gives, those with no
stated value at the ones of logs 2, 3 and 4, no byte of memory written, no command waiting. -/
def State.reset : State where
  counters := Vector.ofFn fun i => Counter.reset (Fin.ofNat 8 (optRank romRecord i.val))
  cntWindow := 10
  windows := []
  docket := Docket.reset
  dkStore := DocketStore.reset
  sinov := Sinov.reset
  envg := { shadow := EnvVals.zero, loaded := false, locked := false, safe := false, trip := 0, limit := 0 }
  hdie := HDie.reset
  link := { estimate := 0, estSum := 0, estN := 0, rxSeq := 0, txSeq := 0, validRun := 0, lost := false }
  hub := FaultHub.reset
  supply := Supply.reset
  ps := PwrSeq.reset
  rst := RstCtl.reset
  loader := { st := .idle, outcome := none, byLimit := false }
  optshd := Vector.ofFn fun i => romRecord.getD i.val 0
  clk := ClkGen.reset
  pix := PixRamp.reset
  video := Video.reset
  beam := BeamUnit.reset
  motors := Vector.replicate 6 Motor.reset
  rdc := Rdc.reset
  loops := LoopEng.reset
  hv := Hv.reset
  fuser := Fuser.reset
  outHold := OutHold.none
  vregen := 0
  sy := Steelyard.reset EnvVals.zero
  sySnap := { temps := Vector.replicate 16 none, sec := 0 }
  thrCopy := Vector.ofFn fun t => throttleFull EnvVals.zero t.val
  adc := Adc.reset
  till := Till.reset
  rtc := Rtc.reset
  devtime := 0
  crypto := Crypto.reset
  cluster := Cluster.reset
  fabric := Fabric.reset (optFabLimits romRecord)
  dramc := Dramc.reset
  licApp := Lic.reset
  licKeep := Lic.reset
  bwApp := Barrow.reset
  bwKeep := Barrow.reset
  gpio := Vector.replicate 4 Gpio.reset
  pincfg := Vector.replicate 120 0x0100
  spim := Vector.replicate 4 Spim.reset
  hspi := Hspi.reset
  eth := Vector.replicate 2 Eth.reset
  xspi := Xspi.reset
  sys := SysCtl.reset
  dbg := Debug.reset
  hold := []
  mem := []
  tickPhase := 0
  ao32Acc := 0
  freeCtr := 0
  pending := []

end Sys2Proof.Machine
end

