-- ==== Sys2Proof/Machine/Words.lean ====
section
/-! DEFINITION. The operations that every other file uses: bit fields, vectors, free values, memory, domains, modes. -/

namespace Sys2Proof.Machine

/-! ## Vectors and bits -/

/-- Entry i of a vector under f. -/
def vmod {α : Type} {n : Nat} (v : Vector α n) (i : Fin n) (f : α → α) : Vector α n := v.set i (f v[i])

/-- Offset `off` lies in `n` words from `base`. -/
def within (off base n : Nat) : Bool := decide (base ≤ off) && decide (off < base + 4 * n)

/-- Bit i of a bit vector set to b. -/
def setBit {w : Nat} (v : BitVec w) (i : Nat) (b : Bool) : BitVec w :=
  if b then v ||| BitVec.twoPow w i else v &&& ~~~BitVec.twoPow w i

/-- A Bool as bit i of a register word. -/
def bitAt (b : Bool) (i : Nat) : Word := if b then BitVec.twoPow 32 i else 0

/-- A field placed at bit position i of a register word (R10). -/
def fieldAt {w : Nat} (v : BitVec w) (i : Nat) : Word := v.setWidth 32 <<< i

/-- Bits h down to l of a word, as a value of width w. -/
def bits {n : Nat} (v : BitVec n) (l w : Nat) : BitVec w := (v >>> l).setWidth w

/-- A word as one of the 32 bits. -/
def bit {n : Nat} (v : BitVec n) (i : Nat) : Bool := v.getLsbD i

/-- The low and the high word of a 64-bit register pair (R9). -/
def lo64 (v : BitVec 64) : Word := v.setWidth 32
/-- See `lo64`. -/
def hi64 (v : BitVec 64) : Word := (v >>> 32).setWidth 32
/-- The pair with its low word replaced. -/
def setLo64 (v : BitVec 64) (w : Word) : BitVec 64 := hi64 v ++ w
/-- The pair with its high word replaced. -/
def setHi64 (v : BitVec 64) (w : Word) : BitVec 64 := w ++ lo64 v

/-- A count that stops at the largest value of its width. -/
def satInc {w : Nat} (v : BitVec w) : BitVec w := if v = BitVec.allOnes w then v else v + 1

/-- The master ID (R27, R218). -/
def masterId : Master → Byte
  | .keeper => 0x00
  | .acore n => BitVec.ofNat 8 (1 + n.val)
  | .barrowApp => 0x08
  | .barrowKeep => 0x09
  | .vfetch => 0x0A
  | .eth n => BitVec.ofNat 8 (0x0B + n.val)
  | .hspi => 0x0D
  | .debug => 0x0E
  | .loader => 0x0F

/-- The block that issues a master's requests (R225), where it can be reset alone. -/
def masterBlock : Master → Option (Fin 24)
  | .acore _ => some 0
  | .barrowApp => some 1
  | .barrowKeep => some 2
  | .vfetch => some 3
  | .eth n => some (Fin.ofNat 24 (19 + n.val))
  | .hspi => some 22
  | _ => none

/-- The fabric accepts a master's requests: its block is in no BLOCK reset (R226 step 1). -/
def masterOpen (s : State) (m : Master) : Bool :=
  match masterBlock m with
  | some b => decide (s.rst.blk[b] = .none)
  | none => true

/-! ## Free values (log 8) -/

/-- The next free bit, and the state that has taken it. -/
def takeBit (s : State) : Bool × State :=
  (Config.freeBit s.freeCtr, { s with freeCtr := s.freeCtr + 1 })

/-! ## Memory (R27, R393, R400) -/

/-- The regions of the address space (R393). -/
inductive Region
  | bootRom | ksram | ssram | regs | dram | xspi | mram | hole
  deriving DecidableEq, Repr

/-- The region of an address: Keeper SRAM 256 KiB (RST_DED_ADDR, R230), shared SRAM 8 MiB (R398), DRAM 2 GiB (R397),
the xSPI window 256 MiB (R478), MRAM 8 MiB. -/
def regionOf (a : Nat) : Region :=
  if a < 0x1000_0000 then .bootRom
  else if a < 0x1004_0000 then .ksram
  else if a < 0x2000_0000 then .hole
  else if a < 0x2080_0000 then .ssram
  else if a < 0x4000_0000 then .hole
  else if a < 0x8000_0000 then .regs
  else if a < 0x1_0000_0000 then .dram
  else if a < 0x1_1000_0000 then .xspi
  else if a < 0x2_0000_0000 then .hole
  else if a < 0x2_0080_0000 then .mram
  else .hole

/-- What an address that no entry lists reads as: erased flash 0xFF, everything else 0. DESIGN CHOICE (log 7). -/
def unlisted (a : Nat) : Byte := if 0x1_0000_0000 ≤ a ∧ a < 0x1_1000_0000 then 0xFF else 0

/-- One byte of memory. -/
def Mem.read : Mem → Nat → Byte
  | [], a => unlisted a
  | (k, b) :: m, a => if k = a then b else Mem.read m a

/-- One byte written, the canonical form kept: no entry equal to what its address reads as unlisted. -/
def Mem.write : Mem → Nat → Byte → Mem
  | [], a, b => if b = unlisted a then [] else [(a, b)]
  | (k, c) :: m, a, b =>
    if a < k then (if b = unlisted a then (k, c) :: m else (a, b) :: (k, c) :: m)
    else if a = k then (if b = unlisted a then m else (a, b) :: m)
    else (k, c) :: Mem.write m a b

/-- The canonical form: addresses strictly rising, no entry equal to the unlisted value. -/
def Mem.wf : Mem → Bool
  | [] => true
  | (k, b) :: m =>
    (b != unlisted k) && (match m with | [] => true | (k', _) :: _ => decide (k < k')) && Mem.wf m

/-- Consecutive bytes written from an address. -/
def Mem.writeAll : Mem → Nat → List Byte → Mem
  | m, _, [] => m
  | m, a, b :: bs => Mem.writeAll (Mem.write m a b) (a + 1) bs

/-- `n` consecutive bytes read from an address. -/
def Mem.readAll (m : Mem) (a : Nat) : Nat → List Byte
  | 0 => []
  | n + 1 => Mem.read m a :: Mem.readAll m (a + 1) n

/-- Bytes [a, a + n) become free values where an entry lists them: contents a reset or an interrupted operation leaves
undefined (R208, R487; logs 7, 13). -/
def Mem.scramble (m : Mem) (lo hi ctr : Nat) : Mem :=
  m.filterMap fun c =>
    if lo ≤ c.1 ∧ c.1 < hi then
      (if Config.freeByte (ctr + c.1) = unlisted c.1 then none else some (c.1, Config.freeByte (ctr + c.1)))
    else some c

/-- Every byte of [lo, hi) returns to the unlisted value. -/
def Mem.clearRange (m : Mem) (lo hi : Nat) : Mem := m.filter fun c => !(decide (lo ≤ c.1) && decide (c.1 < hi))

/-- A read of memory by the state. -/
def memByte (s : State) (a : Nat) : Byte := s.mem.read a
/-- Bytes written by the state. -/
def memPut (s : State) (a : Nat) (bs : List Byte) : State := { s with mem := s.mem.writeAll a bs }

/-! ## Domains, time, mode -/

/-- Domain d (1-50) is on (R175, R199). -/
def domOn (s : State) (d : Nat) : Bool := s.ps.on.getLsbD (d - 1)

/-- RTC seconds as a reset or a record notes them: 0 while TIME_VALID is clear (R230). -/
def rtcNow (s : State) : BitVec 48 := if s.rtc.valid then s.rtc.sec else 0

/-- The option record in force, byte by byte (R509). -/
def optRec (s : State) : List Byte := s.optshd.toList

/-- A page is in flight: DOCKET is ARMED or SPOILED (R65). -/
def pageInFlight (s : State) : Bool := decide (s.docket.st = .armed) || decide (s.docket.st = .spoiled)

/-- The Keeper runs Sinov (R214, steps 5 to 8); it goes down with domain 3, 4 or 14 (R204). -/
def sinovRuns (s : State) : Bool := decide (s.rst.step = .running) && domOn s 3 && domOn s 4 && domOn s 14

/-- CK_REF and CK_BYP run: from step 1 of the release on, not in DORMANT (R214, R234). -/
def clocksRun (s : State) : Bool := s.supply.aoPor && decide (s.ps.phase ≠ .dormant)

/-- The channel's resolver is out of its range (R292). -/
def resolverBad (s : State) (m : Motor) : Bool :=
  m.en && ((decide (m.pos = 1) && s.rdc.bad.getLsbD 0) || (decide (m.pos = 2) && s.rdc.bad.getLsbD 1))

/-- The condition of a level source is present: the hub's note of it, or for 0x40-0x43 that the PLL is unlocked or a consumer of it
still on its fallback (R243), for 0x92 that a channel of the page runs too slow (R302), for 0x93 that a resolver is out of its
range (R292; its other conditions are momentary). -/
def faultPresent (s : State) (f : Nat) : Bool :=
  if 0x40 ≤ f ∧ f ≤ 0x43 then !s.clk.lock.getLsbD (f - 0x40) || s.clk.fb.getLsbD (f - 0x40)
  else if f = 0x92 then pageInFlight s && s.motors.toList.any (·.slow)
  else if f = 0x93 then s.motors.toList.any (resolverBad s)
  else s.hub.present.getLsbD f

/-- The H-die drives no engine output: it is in its safe state (R150), or holds no envelope since its own reset (R146). -/
def hdieOff (s : State) : Bool := s.hdie.safe || !s.hdie.loaded

/-- The minimal service set is offered (R32, R34, SYS_MODE.MINSET). -/
def minimalSet (s : State) : Bool := s.sys.minset

end Sys2Proof.Machine
end

