-- ==== Sys2Proof/Machine/Lines.lean ====
section
/-! DEFINITION. Cache lines and where the latest copy of a byte is (R387, R388, R391), and the bytes that a Barrow channel
moves (R426, R429). -/

namespace Sys2Proof.Machine

/-- A 64-byte line lies in cacheable, coherent memory (R393). -/
def cacheable (line : Nat) : Bool :=
  match regionOf (64 * line) with
  | .dram | .ssram => true
  | _ => false

/-- A 64-byte line that the cluster's caches may hold: coherent memory, and the read-only xSPI window (R393). -/
def cachedRegion (line : Nat) : Bool :=
  match regionOf (64 * line) with
  | .dram | .ssram | .xspi => true
  | _ => false

/-- DRAM answers accesses (R240, R397): trained, and DRAMPLL's consumers on their clock. -/
def dramUp (s : State) : Bool := s.dramc.ready && !s.dramc.selfRef

/-- The memory behind an address answers: DRAM as above, shared SRAM with domain 50 on, the window with domain 44. -/
def memUp (s : State) (a : Nat) : Bool :=
  match regionOf a with
  | .dram => dramUp s
  | .ssram => domOn s 50
  | .xspi => domOn s 44
  | .mram => domOn s 17
  | .ksram => domOn s 4
  | .bootRom => domOn s 3
  | _ => false

/-- The L1 line of core c. -/
def l1Find (s : State) (c : Fin 4) (line : Nat) : Option L1Line := s.cluster.l1d[c].find? fun l => l.line = line

/-- The L2 line. -/
def l2Find (s : State) (line : Nat) : Option L2Line := s.cluster.l2.find? fun l => l.line = line

/-- The dirty L1 copy of a line, if a core holds one (M). -/
def l1Dirty (s : State) (line : Nat) : Option (List Byte) :=
  ([0, 1, 2, 3] : List (Fin 4)).findSome? fun c => match l1Find s c line with
    | some l => if l.state = .m then some l.data else none
    | none => none

/-- The bytes that memory holds of a line. -/
def lineMem (s : State) (line : Nat) : List Byte := s.mem.readAll (64 * line) 64

/-- The latest copy of a line (R388): a dirty L1 copy, else the L2's, else memory. -/
def lineData (s : State) (line : Nat) : List Byte :=
  match l1Dirty s line with
  | some d => d
  | none => match l2Find s line with
    | some l => l.data
    | none => lineMem s line

/-- The line is newer in a cache than in memory. -/
def lineDirty (s : State) (line : Nat) : Bool :=
  (l1Dirty s line).isSome || (match l2Find s line with | some l => l.dirty | none => false)

/-- Every cached copy of a line is dropped. Reservations on it are lost (R390). -/
def dropLine (line : Nat) (s : State) : State :=
  { s with cluster := { s.cluster with
      l1d := s.cluster.l1d.map fun ls => ls.filter fun l => l.line ≠ line
      l1i := s.cluster.l1i.map fun ls => ls.filter fun l => l ≠ line
      l2 := s.cluster.l2.filter fun l => l.line ≠ line
      harts := s.cluster.harts.map fun h => if h.resv = some line then { h with resv := none } else h } }

/-- The latest copy of a dirty line goes to memory, all 64 bytes (R387, R413). -/
def writeBack (line : Nat) (s : State) : State :=
  if lineDirty s line then memPut s (64 * line) (lineData s line) else s

/-- The copies of a line are clean from now on. -/
def markClean (line : Nat) (s : State) : State :=
  { s with cluster := { s.cluster with
      l1d := s.cluster.l1d.map fun ls => ls.map fun l =>
        if l.line = line ∧ l.state = .m then { l with state := .e } else l
      l2 := s.cluster.l2.map fun l => if l.line = line then { l with dirty := false, data := lineData s line } else l } }

/-- A counter of the L2 bank that holds a line. -/
def bankOf (line : Nat) : Fin 4 := Fin.ofNat 4 (line % 4)

/-- The line is written back and counted in L2_WB of its bank. -/
def countWb (line : Nat) (s : State) : State :=
  if lineDirty s line then
    { s with cluster := { s.cluster with wb := vmod s.cluster.wb (bankOf line) (· + 1) } }
  else s

/-- A byte as an I/O-coherent master reads it (R388). -/
def ioByte (s : State) (a : Nat) : Byte :=
  if cacheable (a / 64) then (lineData s (a / 64)).getD (a % 64) 0 else memByte s a

/-- `n` bytes read by an I/O-coherent master. -/
def ioRead (s : State) (a n : Nat) : List Byte := (List.range n).map fun i => ioByte s (a + i)

/-- An I/O-coherent write within one line (R388): every cached copy is invalidated and the bytes merge into memory. -/
def ioWriteLine (a : Nat) (bs : List Byte) (s : State) : State :=
  memPut (dropLine (a / 64) (writeBack (a / 64) s)) a bs

/-- An I/O-coherent write of any length, line by line. -/
def ioWriteFuel : Nat → Nat → List Byte → State → State
  | 0, _, _, s => s
  | fuel + 1, a, bs, s =>
    if bs.isEmpty then s
    else
      let n := 64 - a % 64
      ioWriteFuel fuel (a + n) (bs.drop n) (ioWriteLine a (bs.take n) s)

/-- See `ioWriteFuel`. -/
def ioWrite (a : Nat) (bs : List Byte) (s : State) : State := ioWriteFuel (bs.length + 1) a bs s

/-! ## Bytes of a Barrow transfer (R388, R426) -/

/-- A byte as a controller reads it: BARROW_APP is I/O-coherent, BARROW_KEEP reads memory as it stands. -/
def bwByte (app : Bool) (s : State) (a : Nat) : Byte := if app then ioByte s a else memByte s a

/-- Bytes written by a controller; memory that does not answer takes none (R240). -/
def bwPut (app : Bool) (a : Nat) (bs : List Byte) (s : State) : State :=
  if memUp s a then (if app then ioWrite a bs s else memPut s a bs) else s

/-- The byte that a COPY or FILL puts at offset i of its destination. -/
def bwNew (app : Bool) (c : BwChan) (s : State) (i : Nat) : Byte :=
  if c.mode = 1 then byteOf c.fill ((c.dst.toNat + i) % 4) else bwByte app s (c.src.toNat + i)

/-- How many bytes a channel has counted done. -/
def bwDone (c : BwChan) : Nat := c.count.toNat - c.remain.toNat

/-- A COPY or FILL that ends early leaves up to 1,024 bytes beyond the counted ones old or new (R429): free choices
(log 14). -/
def bwSpill (app : Bool) (c : BwChan) (s : State) : State :=
  if c.mode = 2 then s
  else
    let n := min 1024 c.remain.toNat
    let bs := (List.range n).map fun i =>
      if Config.freeBit (s.freeCtr + i) then bwNew app c s (bwDone c + i) else bwByte app s (c.dst.toNat + bwDone c + i)
    { bwPut app (c.dst.toNat + bwDone c) bs s with freeCtr := s.freeCtr + n }

/-- Every running channel of a controller spills. -/
def bwSpillAll (app : Bool) (b : Barrow) (s : State) : State :=
  b.ch.toList.foldl (fun s c => if c.state = .run then bwSpill app c s else s) s

end Sys2Proof.Machine
end

