-- ==== Sys2Proof/Machine/Ops.lean ====
section
/-! DEFINITION. The named operations over pages, outputs, faults and resets that the meanings share. Each is a function
from state to state; none stops the model. -/

namespace Sys2Proof.Machine

/-! ## Docket and spoil (R66-R72) -/

/-- Channel index of a 3-bit channel field, 0 for codes above 5. -/
def chanIdx (c : BitVec 3) : Fin 6 := if h : c.toNat < 6 then ⟨c.toNat, h⟩ else 0

/-- DK_MEDIA_POS while the page runs: (position - compare 0) × scale in µm, once top of form is reached (R301). -/
def mediaPos (s : State) : Word :=
  let m := s.motors[chanIdx s.docket.mediaCh]
  if s.docket.tof then
    BitVec.ofInt 32 (((m.count - m.cmp0).toInt * (m.scale.toNat : Int)) / 65536)
  else s.docket.mediaPos

/-- The spoil outcomes (R65, DK_CAUSE.OUTCOME). -/
inductive Outcome5
  | host | fault | power | jammed
  deriving DecidableEq, Repr

/-- Codes of the outcomes. -/
def Outcome5.code : Outcome5 → BitVec 3
  | .host => 1
  | .fault => 2
  | .power => 3
  | .jammed => 4

/-- Every laser unlit, SYNC idle and no edge gated (R279). -/
def blankBeams (s : State) : State :=
  let x := s.beam
  let idle := decide (x.sync = .idle)
  { s with beam := { x with
      sync := .idle, gate := false, pulse := false, heldOff := true, linesDue := false, pulses := []
      cutSync := if idle then x.cutSync else x.sync
      cutGate := if idle then x.cutGate else x.gate && !x.edgeSeen
      cutDue := if idle then x.cutDue else x.linesDue
      ld := x.ld.map fun l => { l with lit := false } } }

/-- The rank of a spoil's cause among those of one cycle, the strongest first (R71). -/
def spoilCauseRank (outcome : BitVec 3) (f : Byte) : Nat :=
  match outcome.toNat with
  | 3 => 0
  | 2 => 1 + f.toNat
  | 4 => 0x200
  | _ => 0x300

/-- A cause of spoil latches (R66, R71): the first one fixes the outcome and the flags of its row, a later one sets
LATER_CAUSE and changes nothing else, as does a host spoil that still waits for its facet boundary. Of causes in one cycle the
strongest is recorded. What the fault that spoiled the page does later (its action, the end of its grace time) is no later
cause (log 45). -/
def latchSpoil (o : Outcome5) (f : Option Byte) (flags : Byte) (s : State) : State :=
  let d := s.docket
  match d.st with
  | .armed =>
    blankBeams { s with
      docket := { d with
        st := .spoiled
        fresh := true
        outcome := o.code
        spoilFault := f.getD 0
        faultValid := f.isSome
        flags := d.flags ||| flags ||| (if d.spoil && o != .host then 1 else 0)
        firstSpoil := if d.written = d.planned then 0xFFFF_FFFF else d.written
        facetOpen := false }
      video := { s.video with running := false } }
  | .spoiled =>
    if f.isSome ∧ d.faultValid = true ∧ f = some d.spoilFault then s
    else if d.fresh then
      if spoilCauseRank o.code (f.getD 0) < spoilCauseRank d.outcome d.spoilFault then
        { s with docket := { d with
            outcome := o.code, spoilFault := f.getD 0, faultValid := f.isSome, flags := (d.flags &&& 1) ||| flags } }
      else s
    else { s with docket := { d with flags := d.flags ||| 1 } }
  | _ => s

/-- The body of a docket record (R68), from the tally counters and what Sinov keeps of the page. `rstCode` is the
RST_CAUSE code that closed the page, 0 if none. SPOIL_COUNTER is 0xFF for a page that a RESET command ended: R68 asks for
the counter that spoiled and does not say whether a reset counts (DESIGN CHOICE, log 47). -/
def docketBody (s : State) (rstCode : Byte) : List Byte :=
  let d := s.docket
  toLe s.dkStore.pageId 4 ++ toLe s.dkStore.handle 2 ++ [d.outcome.setWidth 8, d.flags]
    ++ toLe d.planned 4 ++ toLe d.written 4 ++ toLe d.blanked 4 ++ toLe d.firstSpoil 4
    ++ toLe d.mediaPos 4 ++ toLe d.facets 4 ++ toLe d.tStart 8 ++ toLe d.tFirst 8 ++ toLe d.tEnd 8
    ++ [d.spoilFault, if d.faultValid then 0x80 else 0] ++ [if d.outcome = 1 then s.dkStore.counter else 0xFF, rstCode] ++ [0, 0, 0, 0]
    ++ toLe s.dkStore.digest 32

/-- The docket closes (R67): DK_BLANKED, DK_MEDIA_POS and DK_T_END latch, the W1S bits clear. Nothing happens unless
it is open. -/
def closeDocket (s : State) : State :=
  if pageInFlight s then
    { s with
      docket := { s.docket with
        st := .closed
        arm := false
        spoil := false
        close := false
        blanked := s.docket.planned - s.docket.written
        mediaPos := mediaPos s
        tEnd := s.devtime
        facetOpen := false }
      dkStore := { s.dkStore with state := 2 } }
  else s

/-- A closed docket is staged as its record body, to be committed (R73, R68). -/
def stageDocket (rstCode : Byte) (s : State) : State :=
  if s.docket.st = .closed ∧ s.dkStore.due = false ∧ s.dkStore.state = 2 then
    { s with dkStore := { s.dkStore with body := docketBody s rstCode, due := true } }
  else s

/-! ## Outputs -/

/-- The dead time of a channel in CK_PWM cycles (MOT_CURCFG.DEAD, R282, R307). -/
def deadTime (m : Motor) : Nat := ((bits m.curcfg 16 8 : Byte)).toNat

/-- A leg with both sides off: a side that was on leaves its dead time to run (R282). -/
def legOff (dead : Nat) (l : Leg) : Leg :=
  { l with hi := false, lo := false, wantHi := false, cutLow := false, dead := if l.hi || l.lo then dead else l.dead }

/-- Every gate of a channel off (R284). -/
def gatesOff (m : Motor) : Motor := { m with legs := m.legs.map (legOff (deadTime m)), icmd := 0 }

/-- A channel that drives its motor (R307). -/
def motRunning (m : Motor) : Bool :=
  match m.state with
  | .align | .learn | .run | .decel => true
  | _ => false

/-- A channel coasts with every gate off (R284, R312). -/
def coast (m : Motor) : Motor :=
  match m.state with
  | .off | .tripped => gatesOff m
  | _ => gatesOff { m with state := .coast, diagSet := none }

/-- A leg in BRAKE (R303): its low side turns on, after the dead time where its high side was on (R282). -/
def legBrake (dead : Nat) (l : Leg) : Leg :=
  { l with hi := false, wantHi := false, bsLow := false, cutLow := false, dead := if l.hi then dead else l.dead }

/-- SHORT_BRAKE (R303). -/
def shortBrake (m : Motor) : Motor :=
  { m with state := .brake, icmd := 0, legs := m.legs.map (legBrake (deadTime m)) }

/-- A channel begins a stop (R303): MODE 2 controlled deceleration, MODE 1 short brake, MODE 0 as configured. Where its gates are
held off it coasts (R284, R312). -/
def beginStop (blocked : Bool) (mode : BitVec 2) (m : Motor) : Motor :=
  let decel := if mode = 2 then true else if mode = 1 then false else m.stopMode
  if motRunning m then
    if blocked then coast m
    else if decel then { m with state := .decel }
    else shortBrake m
  else m

/-- Every gate of channel k is held off from outside it: the H-die safe state, a reset, VAUX_LOW, PFW (R284), a phase trip (R147),
POS_SENSOR (R310), ESC_OFF (R312), a BLOCK reset of the channel (R313), its domain off. -/
def gatesBlocked (s : State) (k : Fin 6) : Bool :=
  hdieOff s || s.rst.engHold || s.hub.raised.getLsbD 0x02 || s.hdie.pfwCut || s.hdie.mOff.getLsbD k.val || s.motors[k].posErr
    || decide (s.ps.offCause = .escOff) || decide (s.rst.blk[6 + k.val] ≠ .none) || !domOn s (35 + k.val)

/-- Every running channel begins its stop in its STOP_MODE. -/
def stopMotors (s : State) : State :=
  { s with motors := Vector.ofFn fun k => beginStop (gatesBlocked s k) 0 s.motors[k] }

/-- Some enabled channel has its DUMP flag and VREGEN is 10.0 V or more (R305). -/
def dumpEnabled (s : State) : Bool :=
  (s.motors.toList.any fun m => m.en && m.dumpEn) && decide (100 ≤ s.vregen.toNat)

/-- DUMP goes off where no channel enables it any more (R305). -/
def dumpFollow (s : State) : State :=
  if dumpEnabled s then s else { s with hdie := { s.hdie with dump := false } }

/-- DUMP is forced off (R305, R284). -/
def dumpBlocked (s : State) : Bool :=
  hdieOff s || s.rst.engHold || s.hub.raised.getLsbD 0x02 || s.hdie.pfwCut || !s.hdie.powered
    || decide (s.ps.offCause = .escOff)

/-- The brake FET is driven (R305): by the law, or in a diagnosis at LEVEL per mille of a 1 ms period, whose place in time the
spec leaves open (log 26). -/
def dumpOn (s : State) : Bool :=
  match s.sinov.diag[15] with
  | some level => !dumpBlocked s && decide ((s.devtime.toNat + Config.dumpPhase) % 100000 < level * 100)
  | none => s.hdie.dump

/-- Lasers unlit, heaters and HV drives off, DUMP off, diagnostic runs of them ended; the outputs stay held until Sinov
applies the configuration again (R165, R335). -/
def drivesOff (s : State) : State :=
  { s with
    beam := { s.beam with ld := s.beam.ld.map fun l => { l with lit := false, diagLevel := none } }
    fuser := { s.fuser with htr := s.fuser.htr.map fun h => { h with on := false, diagDuty := none } }
    hv := { s.hv with diagLimit := Vector.replicate 3 none }
    outHold := { s.outHold with htr := 3, hv := 7, ld := 0xF } }

/-- All engine outputs cut at once (R150, R186, ESC_OFF): motors coast, DUMP off (R284, R312). -/
def cutOutputs (s : State) : State :=
  let s := drivesOff s
  { s with
    motors := s.motors.map coast
    hdie := { s.hdie with dump := false }
    sinov := { s.sinov with diag := Vector.replicate 16 none } }

/-- Fault f has caused a safe stop (R165). -/
def stopCause (f : Byte) (s : State) : State :=
  { s with outHold := { s.outHold with faults := setBit s.outHold.faults f.toNat true } }

/-- The safe stop (R165): beams blanked, lasers, HV and heaters off, every running channel in its STOP_MODE. -/
def safeStop (s : State) : State :=
  let s := stopMotors (drivesOff (blankBeams s))
  { s with
    sinov := { s.sinov with diag := Vector.replicate 16 none } }

/-- An admission ends and frees its reserved records, with which TILL_FULL may no longer be present (R367); one still under evaluation is marked to end with its reply
(R59). -/
def lapseAdmission (s : State) : State :=
  let wait := s.sinov.admitWait.map fun a => { a with report := [1] }
  match s.sinov.admission with
  | some _ =>
    let full := s.hub.present.getLsbD 0xE2 && decide (s.till.free = 0)
    { s with
      sinov := { s.sinov with admission := none, admitWait := wait }
      till := { s.till with rsv := 0 }
      hub := { s.hub with present := setBit s.hub.present 0xE2 full } }
  | none => { s with sinov := { s.sinov with admitWait := wait } }

/-- The H-die enters its safe state (R150): outputs cut, ENV_STATUS.SAFE follows with the next status frame. -/
def enterSafe (s : State) : State :=
  let s := cutOutputs s
  { s with hdie := { s.hdie with safe := true, validRun := 0, underHold := s.hdie.underHold || s.rst.engHold } }

/-! ## Reset of single blocks and units (R208, R226) -/

/-- PINCFG of a GPIO pin at reset (R441), HOLD from GPD_HOLD for a GPD pin. -/
def pincfgReset (hold : BitVec 24) (p : Nat) : BitVec 13 :=
  if 96 ≤ p ∧ hold.getLsbD (p - 96) then 0x1100 else 0x0100

/-- The registers of block b return to their reset values, OPT fields from OPTSHD (R226, step 4; numbers of R225). -/
def resetBlockRegs (b : Nat) (s : State) : State :=
  match b with
  | 0 =>
    { s with
      cluster := { Cluster.reset with hit := s.cluster.hit, miss := s.cluster.miss, wb := s.cluster.wb }
      licApp := Lic.reset
      rst := { s.rst with cores := 0, awdgEn := false }
      dbg := { s.dbg with haveReset := 0xF }
      crypto := { s.crypto with meas := s.crypto.meas.set 1 0, loaded := setBit s.crypto.loaded 1 false } }
  | 1 => { s with bwApp := { ch := s.bwApp.ch.map fun c =>
      { BwChan.reset with state := c.state, code := c.code, ended := c.ended, mism := c.mism, misOfs := c.misOfs,
                          misOk := c.misOk, remain := c.remain } } }
  | 2 => { s with bwKeep := { ch := s.bwKeep.ch.map fun c =>
      { BwChan.reset with state := c.state, code := c.code, ended := c.ended, mism := c.mism, misOfs := c.misOfs,
                          misOk := c.misOk, remain := c.remain } } }
  | 3 => { s with video := Video.reset
                  beam := { s.beam with ld := s.beam.ld.map fun l => { l with drive := 0 } } }
  | 4 => { s with beam := { BeamUnit.reset with intlk := s.beam.intlk } }
  | 5 => { s with pix := PixRamp.reset, clk := { s.clk with fb := setBit s.clk.fb 3 true } }
  | 6 => dumpFollow { s with motors := s.motors.set 0 Motor.reset }
  | 7 => dumpFollow { s with motors := s.motors.set 1 Motor.reset }
  | 8 => dumpFollow { s with motors := s.motors.set 2 Motor.reset }
  | 9 => dumpFollow { s with motors := s.motors.set 3 Motor.reset }
  | 10 => dumpFollow { s with motors := s.motors.set 4 Motor.reset }
  | 11 => dumpFollow { s with motors := s.motors.set 5 Motor.reset }
  | 12 => { s with rdc := Rdc.reset }
  | 13 => { s with loops := LoopEng.reset }
  | 14 => { s with hv := Hv.reset }
  | 15 => { s with fuser := Fuser.reset }
  | 16 => { s with adc := Adc.reset }
  | 17 => { s with sy := { Steelyard.reset s.envg.shadow with
                           thr := Vector.ofFn fun t => { Throttle.reset s.thrCopy[t] with reqPm := s.sy.thr[t].reqPm } }
                   hub := { s.hub with present := setBit (setBit s.hub.present 0xA0 false) 0xA1 false } }
  | 18 => { s with dramc := Dramc.reset, mem := s.mem.scramble 0x8000_0000 0x1_0000_0000 s.freeCtr
                   freeCtr := s.freeCtr + 0x1_0000_0000 }
  | 19 => { s with eth := s.eth.set 0 Eth.reset }
  | 20 => { s with eth := s.eth.set 1 Eth.reset }
  | 21 => { s with spim := Vector.replicate 4 Spim.reset }
  | 22 => { s with hspi := Hspi.reset }
  | 23 => { s with xspi := { Xspi.reset with kslot := s.xspi.kslot, aslot := s.xspi.aslot, dflt := s.xspi.dflt
                                             octal := s.xspi.octal, noSusp := s.xspi.noSusp } }
  | _ => s

/-- The domain whose loss makes a BLOCK request for block b complete at once (R227, R175). -/
def blockDomain (b : Nat) : Nat :=
  match b with
  | 0 => 13
  | 1 | 2 => 19
  | 3 => 20
  | 4 => 21
  | 5 => 26
  | 6 => 35
  | 7 => 36
  | 8 => 37
  | 9 => 38
  | 10 => 39
  | 11 => 40
  | 12 => 41
  | 13 => 30
  | 14 => 42
  | 15 => 43
  | 16 => 30
  | 17 => 30
  | 18 => 15
  | 19 => 28
  | 20 => 29
  | _ => 44

/-- Blocks whose BLOCK reset spoils a page (R69). -/
def spoilBlock (b : Nat) : Bool := (decide (3 ≤ b) && decide (b ≤ 11)) || (decide (13 ≤ b) && decide (b ≤ 16))

/-- An engine block's outputs go off at the fence (R226 step 1, R280, R313, R337). -/
def fenceOutputs (b : Nat) (s : State) : State :=
  match b with
  | 4 => blankBeams s
  | 3 => blankBeams s
  | 6 => { s with motors := vmod s.motors 0 coast }
  | 7 => { s with motors := vmod s.motors 1 coast }
  | 8 => { s with motors := vmod s.motors 2 coast }
  | 9 => { s with motors := vmod s.motors 3 coast }
  | 10 => { s with motors := vmod s.motors 4 coast }
  | 11 => { s with motors := vmod s.motors 5 coast }
  | 13 => { s with loops := { s.loops with loops := s.loops.loops.map fun l => { l with out := false } }
                   fuser := { s.fuser with htr := s.fuser.htr.map fun h => { h with on := false } }
                   outHold := { s.outHold with htr := 3, hv := 7 } }
  | 14 => { s with hv := { s.hv with diagLimit := Vector.replicate 3 none }, outHold := { s.outHold with hv := 7 } }
  | 15 => { s with fuser := { s.fuser with htr := s.fuser.htr.map fun h => { h with on := false, diagDuty := none } }
                   outHold := { s.outHold with htr := 3 } }
  | _ => s

/-- A Barrow channel stops at the fence of its controller (R429): STOPPED with CODE RESET. -/
def bwFence (c : BwChan) : BwChan :=
  match c.state with
  | .run => { c with state := .stopped, code := 6, ended := true, stopDue := false }
  | _ => c

/-- An earlier reset has not yet released the Keeper (R209, R214): from its assertion, the wait for VIN after it (R191) included, or for
good where the loader has stopped in FAIL (R221). -/
def releasing (s : State) : Bool :=
  match s.rst.step with
  | .boot | .loader | .loaderFail | .rom => true
  | .off => decide (s.ps.phase = .boot) || (decide (s.ps.phase = .shutdown) && decide (s.ps.offCause = .none))
  | _ => false

/-- The sequencer has shut the device off (R198) or halted (R201). -/
def shutOff (s : State) : Bool := decide (s.ps.phase = .off) || decide (s.ps.phase = .halted)

/-- A cause of kind `kind` (0 POWER_ON, 1 SYSTEM, 2 WARM) may assert: it is discarded where it is weaker than an earlier reset that has
not yet released the Keeper (R209), and in OFF and HALTED, which only nRST and the supply end (R155, R198, R201). -/
def assertable (kind : Nat) (s : State) : Bool :=
  !shutOff s && (!releasing s || decide (kind ≤ s.rst.kind.toNat))

/-- The fence of a BLOCK reset (R226, step 1): the block is in reset, its outputs off, its page spoiled (R69). A
request for a block already in reset merges with it, one for a block whose domain is off does nothing (R227). -/
def blockFence (b : Fin 24) (f : Option Byte) (s : State) : State :=
  if s.rst.blk[b] ≠ .none ∨ domOn s (blockDomain b.val) = false then s
  else
    let s := { s with rst := { s.rst with blk := s.rst.blk.set b .draining, lastBlk := BitVec.ofNat 5 b.val
                                          blkTimeout := false } }
    let s := fenceOutputs b.val s
    let s := if b.val = 1 then bwSpillAll true s.bwApp { s with bwApp := { ch := s.bwApp.ch.map bwFence } }
      else if b.val = 2 then bwSpillAll false s.bwKeep { s with bwKeep := { ch := s.bwKeep.ch.map bwFence } } else s
    if spoilBlock b.val ∧ pageInFlight s then safeStop (latchSpoil .fault f 0 s) else s

/-- ISOLATE mode: bit 7 of the block's table byte (R225). -/
def blockIsolates (s : State) (b : Fin 24) : Bool := (optBlock (optRec s) b.val).getLsbD 7

/-- Step 3 of a BLOCK reset begins: the block is held in reset. -/
def blockHold (b : Fin 24) (s : State) : State := { s with rst := { s.rst with blk := s.rst.blk.set b .held } }

/-- A BLOCK reset begins (R226): the fence, and in ISOLATE mode the drain with it. While a reset has not released the Keeper, a BLOCK
cause is weaker and discarded (R209). -/
def blockStart (b : Fin 24) (f : Option Byte) (s : State) : State :=
  if s.rst.blk[b] ≠ .none ∨ domOn s (blockDomain b.val) = false ∨ releasing s = true then s
  else
    let s := blockFence b f s
    if blockIsolates s b then blockHold b s else s

/-! ## The power graph (R175, R179-R184) -/

/-- Parents of domain d: domain numbers, and 0x81-0x8C for rails (R175). AO needs no entry: it is always on. -/
def domParents (d : Nat) : List Nat :=
  if 5 ≤ d ∧ d ≤ 8 then [13, 24, 0x84]
  else if 9 ≤ d ∧ d ≤ 12 then [13, 0x84]
  else if 24 ≤ d ∧ d ≤ 27 then [0x82]
  else if 31 ≤ d ∧ d ≤ 43 then [30]
  else match d with
    | 3 => [0x83]
    | 4 => [3]
    | 13 => [14, 27]
    | 14 => [0x83]
    | 15 => [13, 25]
    | 16 => [15, 0x86]
    | 17 => [14, 0x82]
    | 18 => [14]
    | 19 => [13]
    | 20 => [13, 15]
    | 21 => [20, 26]
    | 22 | 23 => [21]
    | 28 | 29 => [14, 0x81]
    | 30 => [14]
    | 44 | 45 | 46 | 47 => [14, 0x81]
    | 48 => [0x81]
    | 49 => [14]
    | 50 => [13]
    | _ => []

/-- Domains on the H-die, which also need VAUX. -/
def onHdie (d : Nat) : Bool := d = 22 || d = 23 || (decide (31 ≤ d) && decide (d ≤ 43))

/-- Domains whose failure spoils a page in flight (R160, R175). -/
def engineDomain (d : Nat) : Bool :=
  d = 3 || d = 4 || (decide (13 ≤ d) && decide (d ≤ 18)) || (decide (20 ≤ d) && decide (d ≤ 23))
    || (decide (25 ≤ d) && decide (d ≤ 27)) || (decide (30 ≤ d) && decide (d ≤ 43))

/-- PARENT, EN and ENG of rail r (R199). -/
def railParent (s : State) (r : Fin 12) : Nat := (s.ps.extCfg[r] &&& 0xFF).toNat
/-- EN; the ROM safe record requests SEQEN0-SEQEN2 only (R184). -/
def railEn (s : State) (r : Fin 12) : Bool :=
  s.ps.extCfg[r].getLsbD 8 && (decide (r.val < 3) || decide (s.rst.applied ≠ 2))
/-- ENG. -/
def railEng (s : State) (r : Fin 12) : Bool := s.ps.extCfg[r].getLsbD 9

/-- A parent is on and good: AO always, a domain that is on, a rail that is good. -/
def targetGood (s : State) (t : Nat) : Bool :=
  if t = 0 then true
  else if t ≤ 50 then domOn s t
  else match s.ps.rails[t - 0x81]? with
    | some r => decide (r = .good)
    | none => false

/-- The sequencer powers up: in BOOT after the off time, in RUN-UP and RUN (R183, R199, R211). -/
def sequencing (s : State) : Bool :=
  (decide (s.ps.phase = .boot) || decide (s.ps.phase = .runUp) || decide (s.ps.phase = .run)) && !s.ps.offDelay
    && decide (s.ps.offCause = .none)

/-- Rail r may rise: enabled, off and not failed, its parent good, its phase begun (R180, R183). -/
def railRises (s : State) (r : Fin 12) : Bool :=
  sequencing s && railEn s r && (decide (r.val < 3) || s.ps.runPhase) && decide (s.ps.rails[r] = .off)
    && !s.ps.railFail.getLsbD r.val && targetGood s (railParent s r)

/-- SEQEN rises for every rail that may (R180); where SEQPG is high already, the settle time begins (R182). -/
def railsUp (s : State) : State :=
  let up := fun (r : Fin 12) =>
    if railRises s r then (if s.ps.seqpg.getLsbD r.val then .settling else .ramping) else s.ps.rails[r]
  { s with ps := { s.ps with rails := Vector.ofFn up } }

/-! ## Device resets (R207-R213) -/

/-- Conditions of the level sources that a reset of the device leaves as they are: supply, reference, RTC crystal,
TIME_LOST, TILL_FULL, the H-die's own and the link's; the others lie in logic that the reset clears. -/
def keptPresent : BitVec 256 :=
  [0x01, 0x02, 0x05, 0x22, 0x44, 0x45, 0x80, 0x81, 0x82, 0x83, 0x85, 0x86, 0x87, 0x8E, 0x8F, 0xA3, 0xC0, 0xE2,
    0xE3].foldl (fun v i => v ||| BitVec.twoPow 256 i) 0

/-- Step 1 of any reset other than a BLOCK reset (R213): ENG_HOLD asserts, a page in flight is spoiled and closed and its docket
staged; RESET_CLOSED is set but for a brown-out, which acts as PFW (R69). -/
def preAssert (o : Outcome5) (f : Option Byte) (code : Byte) (s : State) : State :=
  let s := enterSafe { s with rst := { s.rst with engHold := true } }
  let flag : Byte := match o with
    | .power => 0
    | _ => 0x04
  if pageInFlight s then stageDocket code (closeDocket (latchSpoil o f flag s)) else stageDocket code s

/-- RST_CAUSE, RST_COUNT and RST_TIME are written in the cycle in which a reset asserts (R213); RST_KIND only by a
reset of the Keeper (R230). Of causes that assert in one cycle only one writes (R209). -/
def noteCause (code : Byte) (kind : Option (BitVec 2)) (s : State) : State :=
  { s with rst := { s.rst with cause := code, kind := kind.getD s.rst.kind
                               count := if s.rst.fresh then s.rst.count else satInc s.rst.count
                               time := rtcNow s, fresh := true } }

/-- FH_CFG returns to the option record's values (R159): defaults, overrides (of two for one fault the later one, log 23),
and the limits of R148, R157 and R218. -/
def fhCfgOf (rec : List Byte) (id : Nat) : Word :=
  let ov := (List.range 32).reverse.find? fun i => fieldLe rec (0x17C + 4 * i) 1 = id
  let w := match ov with
    | some i => if id = 0xFF then faultDefault id else
        let w := optOverride rec i
        let g := (w >>> 12).toNat
        let c := if (bits w 8 2 : BitVec 2) = 3 then bits (faultDefault id) 0 2 else bits w 8 2
        fhCfgWord c (bits w 10 2) (if c = 1 ∧ (g = 0 ∨ 1000000 < g) then ((faultDefault id) >>> 4).toNat else g)
    | none => faultDefault id
  let w := if 0x80 ≤ id ∧ id ≤ 0x8F then (w &&& ~~~3) ||| 2 else w
  match faultRow id 0 with
  | some r => if bits w 2 2 = 1 ∧ r.block.isNone then w &&& ~~~(0xC : Word) else w
  | none => 0

/-- The fault classes of the applied record, and which of them it makes IMMEDIATE (R130, R158, R159). -/
def reloadFhCfg (s : State) : State :=
  let rec_ := optRec s
  let cfg : Vector Word 256 := Vector.ofFn fun i => fhCfgOf rec_ i.val
  { s with hub := { s.hub with
      cfg := cfg
      optImm := (List.range 256).foldl (fun v i => if bits (fhCfgOf rec_ i) 0 2 = 2 then v ||| BitVec.twoPow 256 i
        else v) 0 } }

/-- The logic of every domain except AO, BKP and GPD returns to its reset values (R208, R211). -/
def resetLogic (s : State) : State :=
  { s with
    counters := s.counters.map fun c => Counter.reset c.rank
    windows := []
    sinov := Sinov.reset
    envg := { s.envg with safe := false }
    clk := { ClkGen.reset with refOk := s.clk.refOk, ao32Ok := s.clk.ao32Ok }
    pix := PixRamp.reset
    video := Video.reset
    beam := { BeamUnit.reset with intlk := s.beam.intlk }
    motors := Vector.replicate 6 Motor.reset
    rdc := Rdc.reset
    loops := LoopEng.reset
    hv := { Hv.reset with trip := s.hv.trip }
    fuser := Fuser.reset
    outHold := OutHold.none
    sy := Steelyard.reset s.envg.shadow
    thrCopy := Vector.ofFn fun t => throttleFull s.envg.shadow t.val
    adc := Adc.reset
    till := { Till.reset with
      head := s.till.head, oldest := s.till.oldest, next := s.till.next, free := s.till.free
      rsv := if s.dkStore.due then s.till.rsv else 0
      torn := s.till.torn, chain := s.till.chain, base := s.till.base, stopped := s.till.stopped
      tornRun := s.till.tornRun, chainBreak := s.till.chainBreak }
    crypto := Crypto.reset
    cluster := Cluster.reset
    fabric := Fabric.reset s.fabric.limits
    dramc := Dramc.reset
    licApp := Lic.reset
    licKeep := Lic.reset
    bwApp := Barrow.reset
    bwKeep := Barrow.reset
    gpio := Vector.ofFn fun i => if i.val = 3 then s.gpio[i] else Gpio.reset
    pincfg := Vector.ofFn fun p => if 96 ≤ p.val then s.pincfg[p] else 0x0100
    spim := Vector.replicate 4 Spim.reset
    hspi := Hspi.reset
    eth := Vector.replicate 2 Eth.reset
    xspi := Xspi.reset
    sys := { s.sys with mode := 0, minset := false, sinov := 0 }
    dbg := Debug.reset
    hold := []
    rst := { s.rst with cores := 0, kwdgRun := false, awdgEn := false, holdRel := false
                        blk := Vector.replicate 24 .none, held := [] }
    hub := { s.hub with present := s.hub.present &&& keptPresent } }

/-- `n` bytes from an address become free values. -/
def undefBytes (lo n : Nat) (s : State) : State :=
  { s with mem := s.mem.writeAll lo ((List.range n).map fun i => Config.freeByte (s.freeCtr + i)), freeCtr := s.freeCtr + n }

/-- A flash operation cut off leaves its sector or page undefined (R487, log 13). -/
def flashInterrupt (s : State) : State :=
  if s.xspi.busy then
    if s.xspi.op = 1 then undefBytes (0x1_0000_0000 + s.xspi.opAddr) 65536 s
    else undefBytes (0x1_0000_0000 + s.xspi.opAddr / 256 * 256) 256 s
  else s

/-- The slot of NEXT_SEQ is left torn by a reset (R361, R382): no commit word, and of its other bytes some old and some new
(log 13). -/
def tearSlot (rec : List Byte) (s : State) : State :=
  let a := 0x2_0020_0000 + 256 * ((s.till.next.toNat - 1) % 24576)
  let mix := (List.range 252).map fun i => if Config.freeBit (s.freeCtr + i) then rec.getD i 0 else memByte s (a + i)
  memPut { s with freeCtr := s.freeCtr + 252 } a (mix ++ [0, 0, 0, 0])

/-- A record in the engine is left torn by a reset (R46, R382). -/
def tearCommit (s : State) : State :=
  match s.till.op with
  | .commit rec => tearSlot rec s
  | .release rec _ => tearSlot rec s
  | _ => s

/-- MRAM address of copy A (false) or B (true) of the option record (R218). -/
def copyAddr (b : Bool) : Nat := if b then 0x2_0000_0400 else 0x2_0000_0000

/-- A reset during a loader REPAIR leaves each byte of the copy being written old or new (R231, log 13). -/
def tearRepair (s : State) : State :=
  match s.loader.st with
  | .repair toB =>
    let bs := (List.range 512).map fun i =>
      if Config.freeBit (s.freeCtr + i) then memByte s (copyAddr (!toB) + i) else memByte s (copyAddr toB + i)
    { s with mem := s.mem.writeAll (copyAddr toB) bs, freeCtr := s.freeCtr + 512 }
  | _ => s

/-- A reset while the copies of an option record are being written (R138, R142) leaves each byte of either copy old or new. -/
def tearOption (s : State) : State :=
  match s.sinov.after with
  | some (.copies _ rec _) =>
    let mix := fun (b : Bool) (at_ : Nat) => (List.range 512).map fun i =>
      if Config.freeBit (s.freeCtr + at_ + i) then rec.getD i 0 else memByte s (copyAddr b + i)
    { s with mem := (s.mem.writeAll (copyAddr true) (mix true 0)).writeAll (copyAddr false) (mix false 512)
             freeCtr := s.freeCtr + 1024 }
  | _ => s

/-- What a reset interrupts: a flash operation, a Till record, the writing of an option record. -/
def tearWrites (s : State) : State := tearOption (tearRepair (tearCommit (flashInterrupt s)))

/-- Keeper SRAM cleared, DRAM and shared SRAM undefined (R208): their written bytes become free values. -/
def loseMemories (s : State) : State :=
  { s with
    mem := ((s.mem.clearRange 0x1000_0000 0x1004_0000).scramble 0x8000_0000 0x1_0000_0000 s.freeCtr).scramble
      0x2000_0000 0x2080_0000 s.freeCtr
    freeCtr := s.freeCtr + 0x1_0000_0000 }

/-- GPD pins with HOLD = 1 keep pad state, PINCFG, OUT, IRQ_CFG and lock through a WARM reset; the others are pulled up
and unlocked (R228, R450, R451). -/
def warmGpd (s : State) : State :=
  let hold : Word := (List.range 24).foldl (fun v j =>
    if (s.pincfg[96 + j]?.getD 0).getLsbD 12 then v ||| BitVec.twoPow 32 j else v) 0
  let g := s.gpio[3]
  let keepCfg : Vector Word 4 := Vector.ofFn fun n =>
    (List.range 8).foldl (fun w j => if hold.getLsbD (8 * n.val + j) then w ||| (g.irqCfg[n] &&& (0xF <<< (4 * j)))
      else w) 0
  { s with
    gpio := s.gpio.set 3 { g with out := g.out &&& hold, irqCfg := keepCfg, evt := 0, lockMask := 0
                                  lockStat := g.lockStat &&& hold, lockStep := 0, lockMaster := 0
                                  abort := g.abort || (g.lockStep != 0), held := hold }
    pincfg := Vector.ofFn fun p =>
      if 96 ≤ p.val then (if hold.getLsbD (p.val - 96) then s.pincfg[p] else 0x0100) else s.pincfg[p]
    rst := { s.rst with holdRelOpen := true } }

/-- Every rail and domain except AO and BKP goes off, as in a SYSTEM reset (R211). -/
def allOff (s : State) : State :=
  { s with ps := { s.ps with on := 3, closing := 0, rails := Vector.replicate 12 .off, order := [], runPhase := false
                             offCause := .none, tpfwDone := false, deferEnd := false, deferred := [], docketEnds := false } }

/-- A SYSTEM reset asserts (R208, R211): rails and domains off for the off time, AO retention and BKP kept. The H-die
is reset with it, so that the loader can send the envelope (R145; log 18). nPFW is released (R228). After a PFW the power-up waits
for VIN (R188, R191). A loader that has stopped in FAIL stays there but for nRST (R221). -/
def systemReset (o : Outcome5) (f : Option Byte) (code : Byte) (s : State) : State :=
  let pfw := s.ps.pfwSeen
  let stuck := decide (s.rst.step = .loaderFail) && decide (code ≠ 0x03)
  let s := noteCause code (some 1) (preAssert o f code s)
  let s := loseMemories (tearWrites s)
  let s := allOff (resetLogic s)
  { s with
    hdie := { HDie.reset with powered := s.hdie.powered, hot := s.hdie.hot }
    envg := { s.envg with loaded := false, locked := false, trip := 0, limit := 0 }
    link := { estimate := 0, estSum := 0, estN := 0, rxSeq := 0, txSeq := 0, validRun := 0, lost := s.link.lost }
    gpio := s.gpio.set 3 { Gpio.reset with pad := s.gpio[3].pad }
    devtime := 0
    hub := { s.hub with present := setBit s.hub.present 0x22 false }
    till := { s.till with stopped := false, tornRun := 0, chainBreak := false }
    ps := { s.ps with phase := if pfw then .shutdown else .boot, fail := 0, railFail := 0, offDelay := !pfw
                      failedIn := false, nPFW := false }
    loader := { s.loader with st := .idle, outcome := none }
    rst := { s.rst with step := if stuck then .loaderFail else .off, engHold := true } }

/-- Rails and domains at a WARM reset (R185, R201, R211): with WARM_RAILS all except AO, BKP, GPD and SEQEN0 go off, for the off
time; after DOMAIN_FAIL or EXT_RAIL_FAIL the failure bits clear, so that what failed and its dependants power up again. -/
def warmRails (railFault : Bool) (s : State) : State :=
  if railFault then
    { s with ps := { s.ps with fail := 0, railFail := 0, retry := satInc s.ps.retry, phase := .runUp, runPhase := true
                               failedIn := false
                               rails := s.ps.rails.map fun r => if r = .failed then .off else r } }
  else
    { s with ps := { s.ps with
        on := (3 : BitVec 50) ||| (s.ps.on &&& BitVec.twoPow 50 47), closing := 0
        rails := Vector.ofFn fun r => if r.val = 0 then s.ps.rails[r] else .off
        order := s.ps.order.filter fun t => t = 48 ∨ t = 0x81
        phase := .boot, runPhase := false, failedIn := false, offDelay := true } }

/-- The sequencer powers up or has powered up: no shut-off is under way or done. -/
def powered (s : State) : Bool :=
  (decide (s.ps.phase = .boot) || decide (s.ps.phase = .runUp) || decide (s.ps.phase = .run)) && decide (s.ps.offCause = .none)

/-- A WARM reset asserts (R208, R211, R214): the logic of every domain except AO, BKP and GPD is reset, the option
values and the envelope stay, fault classes return to the record's values (R159). Rails and domains are left alone while a shut-down
runs, which nothing cancels (R188), and in DORMANT. nPFW stays low until the reset of R191 (log 56). -/
def warmReset (o : Outcome5) (f : Option Byte) (code : Byte) (s : State) : State :=
  let railFault := decide (f = some 0x03) || decide (f = some 0x04)
  let cycle := powered s && (railFault || optWarmRails (optRec s))
  let s := noteCause code (some 2) (preAssert o f code s)
  let s := loseMemories (tearWrites s)
  let s := reloadFhCfg (warmGpd (resetLogic s))
  let s := if cycle then railsUp (warmRails railFault s) else s
  { s with rst := { s.rst with step := if cycle && !railFault then .off else .rom } }

/-- The cause of a reset of kind 1 (SYSTEM) or 2 (WARM) asserts (R209): a weaker one is discarded, one of the same kind in the same
cycle only leaves the lower code, any other performs its reset from the beginning (DEDUCED, log 57). -/
def assertReset (kind : Nat) (o : Outcome5) (f : Option Byte) (code : Byte) (s : State) : State :=
  if assertable kind s then
    if s.rst.fresh && releasing s && decide (s.rst.kind.toNat = kind) then
      if code.toNat < s.rst.cause.toNat then { s with rst := { s.rst with cause := code } } else s
    else if kind = 1 then systemReset o f code s else warmReset o f code s
  else s

/-- A cluster reset (R207, R208, R214): the BLOCK reset of block CLUSTER that also writes RST_CAUSE; discarded while a stronger reset
has not released the Keeper (R209). -/
def clusterReset (s : State) : State := if releasing s then s else blockStart 0 none (noteCause 0x05 none s)

/-- POWER_ON: everything returns to its reset value except BKP, MRAM, flash and the supply (R208). -/
def powerOnReset (s : State) : State :=
  let s := tearWrites s
  { State.reset with
    rtc := { Rtc.reset with sec := s.rtc.sec, sub := s.rtc.sub, valid := s.rtc.valid, lost := s.rtc.lost
                            lossMark := s.rtc.lossMark, alarmHit := s.rtc.alarmHit, pending := false
                            lostDue := s.rtc.lostDue, lostDt := s.rtc.lostDt }
    rst := { RstCtl.reset with time := rtcNow s }
    supply := s.supply
    hdie := { HDie.reset with powered := s.hdie.powered, hot := s.hdie.hot }
    beam := { BeamUnit.reset with intlk := s.beam.intlk }
    ps := { PwrSeq.reset with seqpg := s.ps.seqpg }
    mem := ((s.mem.clearRange 0x1000_0000 0x1004_0000).scramble 0x8000_0000 0x1_0000_0000 s.freeCtr).scramble
      0x2000_0000 0x2080_0000 s.freeCtr
    freeCtr := s.freeCtr + 0x1_0000_0000
    tickPhase := s.tickPhase
    ao32Acc := s.ao32Acc
    pending := s.pending }

/-! ## The fault hub (R153-R169) -/

/-- The motor channel whose block a MOTORk source names (R160): the one that raised the fault. -/
def faultMotor (s : State) (f : Nat) : Nat :=
  if f = 0x8F then s.hub.speedCh.val else if f = 0x93 then s.hub.posCh.val else 0

/-- A record that the engine is to write, appended to what Sinov wants committed. -/
def wantRecord (w : Want) (s : State) : State := { s with sinov := { s.sinov with wants := s.sinov.wants ++ [w] } }

/-- A record of Sinov's own, by no command (R360). -/
def ownRecord (typ : BitVec 16) (body : List Byte) (rsvOk : Bool) (cont : Cont) : Want :=
  { typ := typ, subtype := 0, counter := 0xFF, hostWord := 0, body := body, rsvOk := rsvOk, release := none
    cont := cont }

/-- The record of the staged docket (R68, R73): it may use the reserved pair (R367). -/
def docketWant (s : State) : Want :=
  { typ := 0x0010, subtype := 0, counter := s.dkStore.holder, hostWord := s.dkStore.hostWord, body := s.dkStore.body
    rsvOk := true, release := none, cont := .docket }

/-- A page's docket has closed: its record is staged, and Sinov, where it runs, commits it (R68, R73). -/
def commitDocket (s : State) : State :=
  if s.docket.st = .closed ∧ s.dkStore.due = false ∧ s.dkStore.state = 2 then
    let s := stageDocket 0 s
    if sinovRuns s then wantRecord (docketWant s) s else s
  else s

/-- Sinov takes notice of an ESC_SPOIL or ESC_BLOCK (R362, ESCALATION record). -/
def escRecord (f : Byte) (act : BitVec 2) (s : State) : State :=
  if sinovRuns s ∧ 0 < s.till.free.toNat - s.till.rsv.toNat then
    wantRecord (ownRecord 0x0021 [f, act.setWidth 8] false .none) s
  else s

/-- FE_SOURCE codes (R164). -/
inductive ErrSource
  | firewall | misaligned | parity | target
  deriving DecidableEq, Repr

/-- Their numbers. -/
def ErrSource.code : ErrSource → Byte
  | .firewall => 1
  | .misaligned => 2
  | .parity => 3
  | .target => 4

/-- What an error response leaves in the capture (R163): the first since FE_CLEAR is captured, each later one counted. -/
def captureError (a : Access) (src : ErrSource) (s : State) : State :=
  let h := s.hub
  { s with hub :=
      if h.feValid then { h with feOver := satInc h.feOver }
      else { h with feValid := true, feAddr := a.addr, feMaster := masterId a.master, feKind := a.kind, feSize := a.size
                    feTime := s.devtime, feSource := src.code } }

/-- An access among others, by rising master ID. -/
def insertAccess (a : Access) : List Access → List Access
  | [] => [a]
  | b :: r => if (masterId b.master).toNat < (masterId a.master).toNat then b :: insertAccess a r else a :: b :: r

/-- RAISED and UNACK of fault f set (R153); a fault not yet RAISED is raised with its FH_CFG word of this moment (R158). -/
def raiseBits (f : Byte) (s : State) : State :=
  let was := s.hub.raised.getLsbD f.toNat
  { s with hub := { s.hub with
      raised := setBit s.hub.raised f.toNat true
      raisedAt := if was then s.hub.raisedAt else s.hub.raisedAt.setIfInBounds f.toNat s.devtime
      timerCfg := if was then s.hub.timerCfg else s.hub.timerCfg.setIfInBounds f.toNat (s.hub.cfg[f.toNat]?.getD 0)
      unack := setBit s.hub.unack f.toNat true } }

/-- The class with which a raise of fault f acts (R153): none where it does not exist or is RAISED already (R154). -/
def raiseClass (f : Byte) (s : State) : Option (BitVec 2) :=
  if (faultRow f.toNat 0).isNone ∨ s.hub.raised.getLsbD f.toNat = true then none
  else some (bits (s.hub.cfg[f.toNat]?.getD 0) 0 2)

/-- What a raise of class `c` starts beside an action: a grace timer (R154), and the end of an admission (R59). -/
def raiseTimer (f : Byte) (c : Option (BitVec 2)) (s : State) : State :=
  match c with
  | none => s
  | some c =>
    match c.toNat with
    | 0 => s
    | 1 => lapseAdmission { s with hub := { s.hub with timing := setBit s.hub.timing f.toNat true } }
    | _ => lapseAdmission s

/-- The requests of block b that wait at the wheel: transfers outstanding from it (R226). -/
def blockOuts (b : Fin 24) (s : State) : List Access :=
  s.fabric.waiting.filterMap fun w =>
    if masterBlock w.req.master = some b then
      some { master := w.req.master, addr := w.req.addr, kind := w.req.kind, size := 6 } else none

/-- They leave the wheel. -/
def dropOuts (b : Fin 24) (s : State) : State :=
  { s with fabric := { s.fabric with waiting := s.fabric.waiting.filter fun w => !decide (masterBlock w.req.master = some b) } }

/-- The transfers outstanding at a block that ESC_BLOCK isolates end with error responses (R226), FE_SOURCE 4. An action of FAB_ERROR
itself is not begun within that of another fault (log 45). -/
def endOuts (b : Fin 24) (s : State) : State :=
  match blockOuts b s with
  | [] => s
  | o :: r =>
    let s := ((o :: r).foldr insertAccess []).foldl (fun s a => captureError a .target s) (dropOuts b s)
    raiseTimer 0x60 (raiseClass 0x60 s) (raiseBits 0x60 s)

/-- The spoil of an action, unless the page has latched its spoil in this very cycle (R71). -/
def actSpoil (fresh : Bool) (f : Byte) (s : State) : State := if fresh then latchSpoil .fault (some f) 0 s else s

/-- An escalation action begins (R155). A page in flight is spoiled by each of them (R156). -/
def escalateBy (fresh : Bool) (f : Byte) (act : BitVec 2) (s : State) : State :=
  let s := { s with hub := { s.hub with escAction := act, escValid := true, escId := f, escTime := s.devtime } }
  match act.toNat with
  | 0 => escRecord f act (lapseAdmission (stopCause f (safeStop (actSpoil fresh f s))))
  | 1 =>
    match (faultRow f.toNat (faultMotor s f.toNat)).bind (·.block) with
    | some b =>
      let i := Fin.ofNat 24 b
      let free := s.rst.blk[i] = .none
      let s := blockStart i (some f) (if pageInFlight s then stopCause f (safeStop (actSpoil fresh f s)) else s)
      escRecord f act (if free ∧ s.rst.blk[i] = .held then endOuts i s else s)
    | none => escRecord f act (stopCause f (safeStop (actSpoil fresh f s)))
  | 2 => assertReset 2 .fault (some f) (if f = 0xC0 then 0x0C else 0x06) s
  | _ =>
    let s := commitDocket (closeDocket (cutOutputs (actSpoil fresh f s)))
    if shutOff s then s
    else { s with ps := { s.ps with offCause := .escOff, deferEnd := false, docketEnds := s.dkStore.due } }

/-- `escalateBy` for the action of a fault that acts alone. -/
def escalate (f : Byte) (act : BitVec 2) (s : State) : State := escalateBy true f act s

/-- Whether a raise of fault f spoils a page at once (R70): column P; for DOMAIN_FAIL and EXT_RAIL_FAIL only where the
failure serves the engine path (R160), which `eng` says. -/
def spoilsAtOnce (f : Byte) (eng : Bool) : Bool :=
  match faultRow f.toNat 0 with
  | some r => r.spoil && (if f = 0x03 ∨ f = 0x04 then eng else true)
  | none => false

/-- The page takes the spoil of a column P source (R69, R70): MEDIA_JAM ends it JAMMED, link loss sets POS_STALE and
closes the docket, every other cause leads to the safe stop. -/
def spoilByFault (f : Byte) (s : State) : State :=
  if pageInFlight s then
    if f = 0x92 then stopCause f (safeStop (latchSpoil .jammed (some f) 0 s))
    else if f = 0xC0 then commitDocket (closeDocket (latchSpoil .fault (some f) 0x02 s))
    else if f = 0x00 then latchSpoil .power (some f) 0 s
    else stopCause f (safeStop (latchSpoil .fault (some f) 0 s))
  else s

/-- The action that a raise of fault f begins at once, if any: that of class IMMEDIATE (R153). -/
def raiseAction (f : Byte) (s : State) : Option (BitVec 2) :=
  match raiseClass f s with
  | some c => if 2 ≤ c.toNat then some (bits (s.hub.cfg[f.toNat]?.getD 0) 2 2) else none
  | none => none

/-- A source asserts (R153): RAISED and UNACK set, a column P source spoils the page (R70), and a fault not yet RAISED
starts its grace timer or its action. -/
def raiseWith (eng : Bool) (f : Byte) (s : State) : State :=
  match faultRow f.toNat 0 with
  | none => s
  | some _ =>
    let c := raiseClass f s
    let a := raiseAction f s
    let s := raiseBits f s
    let s := raiseTimer f c (if spoilsAtOnce f eng then spoilByFault f s else s)
    match a with
    | some a => escalate f a s
    | none => s

/-- `raiseWith` for a source that serves the engine path or is not a power failure. -/
def raiseFault (f : Byte) (s : State) : State := raiseWith true f s

/-- The order in which causes that latch in one cycle rank (R71): power, faults by ID, jams. -/
def spoilRank (f : Byte) : Nat := if f = 0x00 then 0 else if f = 0x92 then 0x200 else 1 + f.toNat

/-- Of the faults raised in one cycle, the one whose spoil the page takes (R71). -/
def spoilFirst (fs : List Byte) : Option Byte :=
  (fs.filter fun f => spoilsAtOnce f true).foldl (fun a f =>
    match a with
    | some g => if spoilRank f < spoilRank g then some f else some g
    | none => some f) none

/-- Of the actions that begin in one cycle only the strongest is taken (R156): ESC_OFF, ESC_WARM, every ESC_BLOCK, or
ESC_SPOIL, of which the lowest ID is recorded and every fault counts as a cause of the safe stop (R165). -/
def takeActions (fresh : Bool) (acts : List (Byte × BitVec 2)) (s : State) : State :=
  match acts.find? (fun x => x.2 = 3) with
  | some x => escalateBy fresh x.1 3 s
  | none =>
    match acts.find? (fun x => x.2 = 2) with
    | some x => escalateBy fresh x.1 2 s
    | none =>
      if acts.any (fun x => x.2 = 1) then
        (acts.reverse.filter fun x => x.2 = 1).foldl (fun s x => escalateBy fresh x.1 1 s) s
      else
        match acts with
        | [] => s
        | x :: r => escalateBy fresh x.1 x.2 (r.foldl (fun s y => stopCause y.1 s) s)

/-- Several sources assert in one cycle (R71, R153, R156): each is RAISED, the page takes one spoil, the strongest action
is taken. `fs` names each fault once, in rising order. -/
def raiseAll (fs : List Byte) (s : State) : State :=
  let acts := fs.filterMap fun f => (raiseAction f s).map fun a => (f, a)
  let armed := decide (s.docket.st = .armed)
  let s := fs.foldl (fun s f => raiseTimer f (raiseClass f s) (raiseBits f s)) s
  let s := match spoilFirst fs with
    | some f =>
      let flight := pageInFlight s
      let s := spoilByFault f s
      if flight then (fs.filter fun g => spoilsAtOnce g true).foldl (fun s g => stopCause g s) s else s
    | none => s
  takeActions (!(armed && decide (s.docket.st ≠ .armed))) acts s

/-- The conditions of several level sources change in one cycle. -/
def setConds (cs : List (Byte × Bool)) (s : State) : State :=
  let up := cs.filterMap fun c => if c.2 && !s.hub.present.getLsbD c.1.toNat then some c.1 else none
  raiseAll up { s with hub := { s.hub with
    present := cs.foldl (fun p c => setBit p c.1.toNat c.2) s.hub.present } }

/-- The condition of a level source changes (R153): it raises the fault when it comes up. -/
def setCond (f : Byte) (b : Bool) (s : State) : State :=
  if b then
    if s.hub.present.getLsbD f.toNat then s
    else raiseFault f { s with hub := { s.hub with present := setBit s.hub.present f.toNat true } }
  else { s with hub := { s.hub with present := setBit s.hub.present f.toNat false } }

/-- The ENV_TRIP bits of a fault (R149). -/
def tripMask (f : Nat) : Word :=
  if 0x80 ≤ f ∧ f ≤ 0x83 then BitVec.twoPow 32 (f - 0x80)
  else if f = 0x84 then 0x10
  else if f = 0x85 then 0x20
  else if f = 0x86 then 0x40
  else if f = 0x87 then 0x80
  else if 0x88 ≤ f ∧ f ≤ 0x8D then BitVec.twoPow 32 (f - 0x88 + 8)
  else if f = 0x8E then 0x1C000
  else if f = 0x8F then 0x7E0000
  else 0

/-- Some heater trip but f is RAISED (R147): both heaters stay off with it. -/
def otherHeaterTrip (f : Nat) (s : State) : Bool :=
  [0x85, 0x86, 0x87].any fun g => decide (g ≠ f) && s.hub.raised.getLsbD g

/-- The H-die latches of a trip end with its fault (R147, R149). -/
def clearTrip (f : Nat) (s : State) : State :=
  let h := s.hdie
  let h := if 0x80 ≤ f ∧ f ≤ 0x83 then { h with ldOff := setBit h.ldOff (f - 0x80) false }
    else if f = 0x84 then { h with ldOnOff := false }
    else if f = 0x85 ∨ f = 0x86 ∨ f = 0x87 then { h with htrOff := if otherHeaterTrip f s then h.htrOff else 0 }
    else if 0x88 ≤ f ∧ f ≤ 0x8D then { h with mOff := setBit h.mOff (f - 0x88) false }
    else if f = 0x8E then { h with hvOff := 0 }
    else if f = 0x8F then { h with mFast := 0 }
    else h
  { s with hdie := h, envg := { s.envg with trip := s.envg.trip &&& ~~~(tripMask f) }
           hv := if f = 0x8E then { s.hv with trip := 0 } else s.hv
           motors := if f = 0x93 then s.motors.map fun m => { m with posErr := false } else s.motors }

/-- The grace timer of fault f has expired in this very cycle: the expiry wins over a clear (R167; log 45). -/
def expiryWins (f : Nat) (s : State) : Bool := s.hub.expired.getLsbD f && decide (s.hub.expiredAt = s.devtime)

/-- FH_CMD.ACK (R129, R164). -/
def hubAck (f : Byte) (s : State) : State := { s with hub := { s.hub with unack := setBit s.hub.unack f.toNat false } }

/-- FH_CMD.CLEAR (R129, R164): ignored while the condition of a level source is present, or in the cycle in which the grace
timer expires (R167); otherwise RAISED clears and the grace timer stops. UNACK is ACK's alone. -/
def hubClear (f : Byte) (s : State) : State :=
  if faultPresent s f.toNat || expiryWins f.toNat s then s
  else clearTrip f.toNat { s with hub := { s.hub with raised := setBit s.hub.raised f.toNat false
                                                      timing := setBit s.hub.timing f.toNat false } }

/-- The hub asks for nFAULT low (R161): a fault is RAISED, or the class table has not been applied since POWER_ON, or the
loader has stopped in FAIL (R221). -/
def nfaultDriven (s : State) : Bool :=
  !s.hub.tableDone || (s.hub.raised != 0) || decide (s.rst.step = .loaderFail)

/-- nFAULT is driven low. While VDD_AO is absent the pin is high-impedance (R162). -/
def nfaultLow (s : State) : Bool := s.supply.aoValid && nfaultDriven s

/-! ## Error responses (R163) -/

/-- An error response on the fabric (R163): captured or counted, and FAB_ERROR is raised each time. -/
def errorResponse (a : Access) (src : ErrSource) (s : State) : State := raiseFault 0x60 (captureError a src s)

/-- FE_CLEAR (R163, R164). -/
def clearCapture (s : State) : State :=
  { s with hub := { s.hub with feValid := false, feAddr := 0, feMaster := 0xFF, feKind := 0, feSize := 0, feTime := 0
                               feSource := 0, feOver := 0 } }

/-- The address of a register (R504). -/
def regAddr (bank off : Nat) : BitVec 40 := BitVec.ofNat 40 (0x4000_0000 + bank * 0x1_0000 + off)

/-- A register write that is refused by the firewall or by its target. -/
def refuseWrite (m : Master) (bank off : Nat) (src : ErrSource) (s : State) : State :=
  errorResponse { master := m, addr := regAddr bank off, kind := 1, size := 2 } src s

/-- A register read that is refused. -/
def refuseRead (m : Master) (bank off : Nat) (src : ErrSource) (s : State) : State :=
  errorResponse { master := m, addr := regAddr bank off, kind := 0, size := 2 } src s

/-- Error responses to a list of outstanding transfers, FE_SOURCE 4 (R226). They fall in one cycle, so the one of the
lowest master ID is captured and the others are counted (R163). -/
def refuseAll (outs : List Access) (s : State) : State :=
  (outs.foldr insertAccess []).foldl (fun s a => errorResponse a .target s) s

end Sys2Proof.Machine
end

