-- ==== Sys2Proof/Machine/Cache.lean ====
section
/-! DEFINITION. The cluster's caches and directory (R387-R392, R396, R407): where the latest copy of a line is, the
cache-block operations, the turns of a bank and the whole-L2 maintenance. Replacement is not given: no line is evicted
unasked (log 20). -/

namespace Sys2Proof.Machine

/-- cbo.clean (R391). -/
def cboClean (addr : BitVec 40) (s : State) : State :=
  let line := addr.toNat / 64
  markClean line (writeBack line (countWb line s))

/-- cbo.flush (R391). -/
def cboFlush (addr : BitVec 40) (s : State) : State :=
  let line := addr.toNat / 64
  dropLine line (writeBack line (countWb line s))

/-- cbo.inval (R391): dirty data is discarded. -/
def cboInval (addr : BitVec 40) (s : State) : State := dropLine (addr.toNat / 64) s

/-- An access by hart h to an address that is no cacheable memory within its reach ends with an error response. -/
def cboAccess (h : Fin 4) (addr : BitVec 40) (f : State → State) (s : State) : State :=
  if cachedRegion (addr.toNat / 64) then
    (if memUp s addr.toNat then f s
     else errorResponse { master := .acore h, addr := addr, kind := 1, size := 6 } .target s)
  else errorResponse { master := .acore h, addr := addr, kind := 1, size := 6 } .firewall s

/-! ## Whole-L2 maintenance (R407) -/

/-- Every line that a cache holds. -/
def cachedLines (s : State) : List Nat :=
  s.cluster.l2.map (·.line) ++ s.cluster.l1d.toList.flatMap fun ls => ls.map (·.line)

/-- L2_CNT_CLR (R407). -/
def l2CntClr (v : Word) (s : State) : State :=
  if v.getLsbD 0 then
    { s with cluster := { s.cluster with hit := Vector.replicate 4 0, miss := Vector.replicate 4 0
                                         wb := Vector.replicate 4 0 } }
  else s

/-- L2_MAINT: starts an operation, ignored while BUSY (R407). -/
def l2Maint (op : BitVec 2) (s : State) : State :=
  if s.cluster.busy ∨ op = 0 then s else { s with cluster := { s.cluster with busy := true, op := op } }

/-- A dirty line that the L2 keeps, because its memory takes no access now (R240, R414). -/
def stuckLine (s : State) (line : Nat) : Bool := lineDirty s line && !memUp s (64 * line)

/-- The running maintenance operation takes its effect on every line and ends. -/
def l2Done (s : State) : State :=
  if s.cluster.busy then
    let lines := cachedLines s
    let s := match s.cluster.op.toNat with
      | 1 => lines.foldl (fun s l => if stuckLine s l then s else markClean l (writeBack l (countWb l s))) s
      | 2 => lines.foldl (fun s l => if stuckLine s l then s else dropLine l (writeBack l (countWb l s))) s
      | _ => lines.foldl (fun s l => dropLine l s) s
    { s with cluster := { s.cluster with busy := false, op := 0 } }
  else s

/-! ## The turns of a bank (R389, R390) -/

/-- The line a request is for. -/
def reqLine : CohReq → Nat
  | .writeback _ l => l
  | .ioWrite _ l _ _ => l
  | .own _ l _ _ => l
  | .read _ l => l

/-- Rank of a request among those of one turn: writebacks, I/O-coherent writes, then cores from the pointer upward. -/
def reqRank (ptr : Fin 4) : CohReq → Nat
  | .writeback _ _ => 0
  | .ioWrite _ _ _ _ => 1
  | .own c _ _ _ => 2 + (c.val + 4 - ptr.val) % 4
  | .read c _ => 2 + (c.val + 4 - ptr.val) % 4

/-- The better of two requests for one line: the older turn first, then the rank. -/
def reqBefore (ptr : Fin 4) (a b : Nat × CohReq) : Bool :=
  decide (b.1 < a.1) || (decide (a.1 = b.1) && decide (reqRank ptr a.2 < reqRank ptr b.2))

/-- The L2 holds a line, filled from memory where it missed; HIT and MISS count. -/
def l2Fill (line : Nat) (s : State) : State :=
  match l2Find s line with
  | some _ => { s with cluster := { s.cluster with hit := vmod s.cluster.hit (bankOf line) (· + 1) } }
  | none => { s with cluster := { s.cluster with
      miss := vmod s.cluster.miss (bankOf line) (· + 1)
      l2 := { line := line, dirty := false, data := lineMem s line, owner := none, sharers := 0 } :: s.cluster.l2 } }

/-- The dirty L1 copy of a line, if any, enters the L2; every L1 copy of it goes. -/
def recallLine (line : Nat) (s : State) : State :=
  let d := lineData s line
  let dirty := (l1Dirty s line).isSome
  { s with cluster := { s.cluster with
      l1d := s.cluster.l1d.map fun ls => ls.filter fun l => l.line ≠ line
      l1i := s.cluster.l1i.map fun ls => ls.filter fun l => l ≠ line
      l2 := s.cluster.l2.map fun l => if l.line = line then
        { l with data := d, dirty := l.dirty || dirty, owner := none, sharers := 0 } else l
      harts := s.cluster.harts.map fun h => if h.resv = some line then { h with resv := none } else h } }

/-- Bytes of a line with some replaced from an offset. -/
def patchLine (d : List Byte) (ofs : Nat) (bs : List Byte) : List Byte :=
  ((d.take ofs) ++ bs ++ d.drop (ofs + bs.length)).take 64

/-- A core's L1 takes a line. -/
def l1Put (c : Fin 4) (l : L1Line) (s : State) : State :=
  { s with cluster := { s.cluster with l1d := vmod s.cluster.l1d c fun ls => l :: ls.filter fun x => x.line ≠ l.line } }

/-- The directory entry of a line changes. -/
def l2Dir (line : Nat) (owner : Option (Fin 4)) (sharers : BitVec 4) (s : State) : State :=
  { s with cluster := { s.cluster with l2 := s.cluster.l2.map fun l =>
      if l.line = line then { l with owner := owner, sharers := sharers } else l } }

/-- Why a fill of a line ends with an error response (R394, R397, R414): no core reaches it that way, or its memory does
not answer. -/
def fillRefused (write : Bool) (line : Nat) (s : State) : Option ErrSource :=
  if !(if write then cacheable line else cachedRegion line) then some .firewall
  else if (l2Find s line).isNone && !memUp s (64 * line) then some .target
  else none

/-- A core's line access that ends with an error response. -/
def lineError (c : Fin 4) (line : Nat) (kind : BitVec 2) (e : ErrSource) (s : State) : State :=
  errorResponse { master := .acore c, addr := BitVec.ofNat 40 (64 * line), kind := kind, size := 6 } e s

/-- One request takes its effect (R388-R390). -/
def serveReq (r : CohReq) (s : State) : State :=
  match r with
  | .writeback c line =>
    match l1Find s c line with
    | some l =>
      if l.state = .m then
        let s := { s with cluster := { s.cluster with
          l1d := vmod s.cluster.l1d c fun ls => ls.filter fun x => x.line ≠ line
          l2 := s.cluster.l2.map fun x => if x.line = line then
            { x with data := l.data, dirty := true, owner := none, sharers := 0 } else x } }
        s
      else s
    | none => s
  | .ioWrite m line ofs data =>
    if memUp s (64 * line) then ioWriteLine (64 * line + ofs) (data.take (64 - ofs)) s
    else errorResponse { master := m, addr := BitVec.ofNat 40 (64 * line), kind := 1, size := 6 } .target s
  | .own c line ofs data =>
    match fillRefused true line s with
    | some e => lineError c line 1 e s
    | none =>
      let s := recallLine line (l2Fill line s)
      let d := lineData s line
      let s := l1Put c { line := line, state := if data.isEmpty then .e else .m, data := patchLine d ofs data } s
      let s := l2Dir line (some c) 0 s
      { s with cluster := { s.cluster with ptr := s.cluster.ptr.set (bankOf line) (c + 1) } }
  | .read c line =>
    match fillRefused false line s with
    | some e => lineError c line 0 e s
    | none =>
      let s := l2Fill line s
      let others := ([0, 1, 2, 3] : List (Fin 4)).any fun o => decide (o ≠ c) && (l1Find s o line).isSome
      let d := lineData s line
      let dirty := (l1Dirty s line).isSome
      let s := { s with cluster := { s.cluster with
        l1d := s.cluster.l1d.map fun ls => ls.map fun l => if l.line = line then { l with state := .s } else l
        l2 := s.cluster.l2.map fun l => if l.line = line then
          { l with data := d, dirty := l.dirty || dirty } else l } }
      let s := l1Put c { line := line, state := if others then .s else .e, data := d } s
      let sh : BitVec 4 := (List.range 4).foldl (fun v i =>
        if (l1Find s (Fin.ofNat 4 i) line).isSome then v ||| BitVec.twoPow 4 i else v) 0
      let s := l2Dir line (if others then none else some c) (if others then sh else 0) s
      { s with cluster := { s.cluster with ptr := s.cluster.ptr.set (bankOf line) (c + 1) } }

/-- The first request of a line among those that wait. -/
def bestOf (ptr : Fin 4) (q : List (Nat × CohReq)) (line : Nat) : Option (Nat × CohReq) :=
  (q.filter fun r => reqLine r.2 = line).foldl (fun acc r => match acc with
    | none => some r
    | some b => if reqBefore ptr r b then some r else acc) none

/-- One turn of a bank (R389): at most one request per line, for up to four lines, oldest requests first. -/
def coherenceTurn (bank : Fin 4) (reqs : List CohReq) (s : State) : State :=
  let mine := fun (r : CohReq) => decide (bankOf (reqLine r) = bank)
  let q := s.cluster.turnQ ++ (reqs.filter mine).map fun r => (0, r)
  let lines := (((q.filter fun r => mine r.2).map fun r => reqLine r.2).eraseDups).take 4
  let served := lines.filterMap fun l => bestOf s.cluster.ptr[bank] q l
  let rest := served.foldl (fun q r => q.erase r) q
  let s := served.foldl (fun s r => serveReq r.2 s) s
  { s with cluster := { s.cluster with
      turnQ := rest.map fun r => if mine r.2 then (r.1 + 1, r.2) else r } }

/-! ## Power switches (R392) -/

/-- Before a core's switch opens, its dirty lines go to the L2 and its lines leave the directory. -/
def drainCore (c : Fin 4) (s : State) : State :=
  let lines := s.cluster.l1d[c]
  { s with cluster := { s.cluster with
      l2 := s.cluster.l2.map fun x => match lines.find? fun l => l.line = x.line with
        | some l => { x with data := if l.state = .m then l.data else x.data, dirty := x.dirty || decide (l.state = .m)
                             owner := if x.owner = some c then none else x.owner
                             sharers := setBit x.sharers c.val false }
        | none => x
      l1d := s.cluster.l1d.set c []
      l1i := s.cluster.l1i.set c [] } }

/-- Before an L2 bank's switch opens, its dirty lines go to memory; where that takes no access they are lost. -/
def drainBank (b : Fin 4) (s : State) : State :=
  ((cachedLines s).filter fun l => bankOf l = b).foldl (fun s l =>
    dropLine l (if stuckLine s l then s else writeBack l (countWb l s))) s

/-! ## Meanings -/

/-- CBO_CLEAN (R391). -/
def execCboClean (h : Fin 4) (addr : BitVec 40) (s : State) : Host.Outcome State Fault Refusal :=
  .next (cboAccess h addr (cboClean addr) s)

/-- CBO_FLUSH (R391). -/
def execCboFlush (h : Fin 4) (addr : BitVec 40) (s : State) : Host.Outcome State Fault Refusal :=
  .next (cboAccess h addr (cboFlush addr) s)

/-- CBO_INVAL (R391). -/
def execCboInval (h : Fin 4) (addr : BitVec 40) (s : State) : Host.Outcome State Fault Refusal :=
  .next (cboAccess h addr (cboInval addr) s)

/-- L2_MAINT_DONE (R407). -/
def execL2MaintDone (s : State) : Host.Outcome State Fault Refusal := .next (l2Done s)

/-- COHERENCE_TURN (R389). -/
def execCoherenceTurn (bank : Fin 4) (reqs : List CohReq) (s : State) : Host.Outcome State Fault Refusal :=
  .next (coherenceTurn bank reqs s)

end Sys2Proof.Machine
end

