-- ==== Sys2Proof/Machine/Clocks.lean ====
section
/-! DEFINITION. PLLs, references and fallbacks (R234-R245) and the pixel ramp (R246-R254). -/

namespace Sys2Proof.Machine

/-! ## Loss, lock, resume -/

/-- The fault of a PLL (R240). -/
def pllFault (p : Fin 4) : Byte := BitVec.ofNat 8 (0x40 + p.val)

/-- What the loss of a PLL does beyond the switch to the fallback: lasers off with CK_BEAM or CK_PIX (R241, R252), PTP
time invalid (R486), DRAM in self-refresh (R240), the ramp frozen (R252). -/
def pllLost (p : Fin 4) (s : State) : State :=
  let dark : State := { s with beam := { s.beam with ld := s.beam.ld.map fun l => { l with lit := false }, pulses := [] } }
  match p.val with
  | 0 => s
  | 1 => { dark with eth := s.eth.map fun e => { e with ptpValid := false } }
  | 2 => { s with dramc := { s.dramc with selfRef := s.dramc.ready } }
  | _ => { dark with pix := { s.pix with frozen := true } }

/-- A PLL is declared unlocked (R239, R240). A PLL that was not locked is not declared again. -/
def pllUnlockOp (p : Fin 4) (s : State) : State :=
  if s.clk.lock.getLsbD p.val then
    let s := pllLost p { s with clk := { s.clk with
      lock := setBit s.clk.lock p.val false
      fb := setBit s.clk.fb p.val true
      events := setBit s.clk.events p.val true } }
    raiseFault (pllFault p) s
  else s

/-- The consumers of PLL p return to it (R243): only while it is locked, CPUPLL's not after a PFW. -/
def resumePll (p : Fin 4) (s : State) : State :=
  if s.clk.lock.getLsbD p.val && s.clk.fb.getLsbD p.val && !(decide (p = 0) && s.clk.pfwHold) then
    let s := { s with clk := { s.clk with fb := setBit s.clk.fb p.val false } }
    let s := match p.val with
      | 0 => { s with clk := { s.clk with cpuDivEff := s.clk.cpuDiv } }
      | 2 => { s with dramc := { s.dramc with selfRef := false } }
      | 3 => { s with pix := { s.pix with frozen := false } }
      | _ => s
    s
  else s

/-- Sinov resumes SOCPLL, CPUPLL and DRAMPLL as soon as they lock (R243). -/
def sinovPlls (s : State) : State := if sinovRuns s then resumePll 2 (resumePll 0 (resumePll 1 s)) else s

/-- Sinov resumes PIXPLL only in READY with no page in flight (R243). R252's "fault cleared" cannot come before, as 0x43 stays present
until the resume (DEDUCED, log 32). -/
def sinovPix (s : State) : State :=
  if sinovRuns s ∧ s.sys.mode = 2 ∧ pageInFlight s = false then resumePll 3 s else s

/-- A PLL locks (R239); it needs CK_REF (R242). Its consumers stay on their fallback until the resume, which Sinov gives (R243). -/
def pllLockOp (p : Fin 4) (s : State) : State :=
  if s.clk.refOk then
    let s := { s with clk := { s.clk with lock := setBit s.clk.lock p.val true } }
    if p = 3 then sinovPix s else sinovPlls s
  else s

/-- CLK_RESUME (R243, R245). -/
def clkResumeOp (v : Word) (s : State) : State :=
  let s := if v.getLsbD 0 then resumePll 0 s else s
  let s := if v.getLsbD 1 then resumePll 1 s else s
  if v.getLsbD 2 then resumePll 2 s else s

/-- CKREF_LOSS is declared (R242): PIXPLL's consumers use CK_BYP and their lasers go off, and the other three PLLs are unlocked under
R240, all in one cycle. -/
def refLost (s : State) : State :=
  let was := ([0, 1, 2] : List (Fin 4)).filter fun p => s.clk.lock.getLsbD p.val
  let s := { s with
    clk := { s.clk with refOk := false, lock := s.clk.lock &&& 8, fb := s.clk.fb ||| 8
                        events := setBit s.clk.events 4 true }
    hub := { s.hub with present := setBit s.hub.present 0x44 true } }
  let s := was.foldl (fun s p => pllLost p { s with clk := { s.clk with
    fb := setBit s.clk.fb p.val true, events := setBit s.clk.events p.val true } }) (pllLost 3 s)
  raiseAll (was.map pllFault ++ [0x44]) s

/-- CK_REF is present again (R242). -/
def refBack (s : State) : State := setCond 0x44 false { s with clk := { s.clk with refOk := true } }

/-- CPU_DIV (R236, R245): 1 is ignored; on the fallback the value waits for the return. -/
def cpuDivOp (v : Word) (s : State) : State :=
  let d : BitVec 4 := v.setWidth 4
  if d = 1 then s
  else { s with clk := { s.clk with cpuDiv := d, cpuDivEff := if s.clk.fb.getLsbD 0 then s.clk.cpuDivEff else d } }

/-- CLK_EVENTS W1C. -/
def clkEvClear (v : Word) (s : State) : State :=
  { s with clk := { s.clk with events := s.clk.events &&& ~~~(v.setWidth 5) } }

/-! ## The pixel ramp -/

/-- DUR of a segment word in CK_REF cycles, and its DELTA in units of 20 ppm (R247). -/
def segDur (w : BitVec 24) : Nat := (bits w 0 12 : BitVec 12).toNat
/-- See `segDur`. -/
def segDelta (w : BitVec 24) : Int := (bits w 12 12 : BitVec 12).toInt

/-- Segment k of a profile. -/
def segWord (x : PixRamp) (p : Fin 8) (k : Nat) : BitVec 24 := (x.seg24[p][k]?).getD 0

/-- δ after `c` of its cycles in segment k of profile p, in 2^-24 of nominal (R246, R247): segment 0 holds its value, a later one moves
in a straight line from the value of the one before. The last digit is rounded down (DESIGN CHOICE, log 32). -/
def segOffset (x : PixRamp) (p : Fin 8) (k c : Nat) : Int :=
  let w := segWord x p k
  let d := segDelta w
  let n := segDur w
  if k = 0 ∨ n ≤ c then d * 20 * 16777216 / 1000000
  else
    let a := segDelta (segWord x p (k - 1))
    ((a * (n : Int) + (d - a) * (c : Int)) * 20 * 16777216) / ((n : Int) * 1000000)

/-- One CK_REF cycle of a running ramp (R246): δ moves on within the segment. -/
def rampCycle (x : PixRamp) : PixRamp :=
  if x.en && x.started && !x.frozen && !x.holding then
    { x with pos := x.pos + 1, delta := segOffset x x.profEff x.seg.toNat (x.pos + 1) }
  else x

/-- A retrigger (R246, R251): segment 0 of the profile written last; none while EN is 0 or PIXPLL is unlocked (R253). -/
def rampRetrigger (s : State) : State :=
  if s.pix.en && !s.pix.frozen && s.clk.lock.getLsbD 3 then
    { s with pix := { s.pix with seg := 0, started := true, pos := 0, holding := false, profEff := s.pix.profile
                                 retrig := s.pix.retrig + 1, delta := segOffset s.pix s.pix.profile 0 0 } }
  else s

/-- The running segment ends (R246): δ is at its value; the next one begins, after the last the offset holds. -/
def rampNext (s : State) : State :=
  let x := s.pix
  if x.en && x.started && !x.frozen && !x.holding then
    let x := { x with delta := segOffset x x.profEff x.seg.toNat 4096 }
    if x.seg.toNat + 1 < (x.segs[x.profEff] &&& 0x7F).toNat then { s with pix := { x with seg := x.seg + 1, pos := 0 } }
    else { s with pix := { x with holding := true } }
  else s

/-- PR_CTRL.EN (R250): 0 stops the ramp and holds δ = 0; set, the ramp waits at δ = 0 for its first retrigger (log 32). -/
def rampEn (en : Bool) (x : PixRamp) : PixRamp :=
  if en then (if x.en then x else { x with en := true, retrig := 0 })
  else { x with en := false, started := false, seg := 0, pos := 0, holding := false, delta := 0 }

/-- PR_CTRL (R250, R251): EN, PROFILE, which the next retrigger takes, and RESUME for PIXPLL's consumers. -/
def prCtrlOp (v : Word) (s : State) : State :=
  let s := { s with pix := { rampEn (v.getLsbD 0) s.pix with profile := Fin.ofNat 8 (v >>> 4).toNat } }
  if v.getLsbD 8 then resumePll 3 s else s

/-- The profile that a running ramp protects: the one named in PROFILE (R251). -/
def profFrozen (s : State) (p : Fin 8) : Bool := s.pix.en && decide (p = s.pix.profile)

/-- PR_NOM, ignored while EN. -/
def prNom (v : Word) (s : State) : State :=
  if s.pix.en then s else { s with pix := { s.pix with nom := v &&& 0x00FF_03FF } }

/-- PR_NFRAC, ignored while EN. -/
def prNfrac (v : Word) (s : State) : State :=
  if s.pix.en then s else { s with pix := { s.pix with nfrac := v &&& 0x000F_FFFF } }

/-- PR_SEGSp. -/
def prSegs (p : Fin 8) (v : Word) (s : State) : State :=
  if profFrozen s p then s else { s with pix := { s.pix with segs := s.pix.segs.set p (v &&& 0x7F) } }

/-- PR_SEG word k of profile p. -/
def prSeg (p : Fin 8) (k : Fin 64) (v : BitVec 24) (s : State) : State :=
  if profFrozen s p then s else { s with pix := { s.pix with seg24 := vmod s.pix.seg24 p fun l => l.set k v } }

/-- PXDIV of PR_NOM, 0 meaning 256. -/
def pxdiv (s : State) : Nat := let d := (s.pix.nom >>> 16).toNat % 256; if d = 0 then 256 else d

/-! ## Meanings -/

/-- PLL_UNLOCK (R240). -/
def execPllUnlock (p : Fin 4) (s : State) : Host.Outcome State Fault Refusal := .next (pllUnlockOp p s)

/-- PLL_LOCK (R239). -/
def execPllLock (p : Fin 4) (s : State) : Host.Outcome State Fault Refusal := .next (pllLockOp p s)

/-- CKREF_LOSS (R242). -/
def execCkrefLoss (s : State) : Host.Outcome State Fault Refusal := .next (refLost s)

/-- CKREF_RETURN (R242). -/
def execCkrefReturn (s : State) : Host.Outcome State Fault Refusal := .next (refBack s)

/-- RAMP_SEGMENT_END (R246). -/
def execRampSegmentEnd (s : State) : Host.Outcome State Fault Refusal := .next (rampNext s)

end Sys2Proof.Machine
end

