-- ==== Sys2Proof/Machine/Beam.lean ====
section
/-! DEFINITION. Video fetch (R256-R261, R275) and the beam unit (R262-R274, R276-R281). -/

namespace Sys2Proof.Machine

/-! ## Video fetch -/

/-- Lines in the FIFO that are complete and good (VF_STATUS.LEVEL). -/
def fifoLevel (s : State) : Nat := (s.video.fifo.filter fun l => l.full && !l.bad).length

/-- The line in fetch: the open slot, or the next unfetched line where a slot is free (R259). -/
def fetchSlot (v : Video) : Option LineSlot :=
  match v.fifo.getLast? with
  | some l =>
    if !l.full then some l
    else if v.fifo.length < 32 ∧ v.fetched.toNat < v.lines.toNat then
      some { line := v.fetched.toNat, bytes := [], full := false, bad := false }
    else none
  | none =>
    if v.fetched.toNat < v.lines.toNat then some { line := v.fetched.toNat, bytes := [], full := false, bad := false }
    else none

/-- The address of the next burst of a slot (R256, R258). -/
def burstAddr (v : Video) (l : LineSlot) : Nat := v.base.toNat + l.line * v.stride.toNat + l.bytes.length

/-- A slot after a burst: complete when VF_LINEBYTES are there. -/
def slotPut (v : Video) (l : LineSlot) (bs : List Byte) (bad : Bool) : Video :=
  let l' := { l with bytes := l.bytes ++ bs, bad := l.bad || bad
                     full := decide (v.lineBytes.toNat ≤ l.bytes.length + bs.length) }
  let old := match v.fifo.getLast? with
    | some x => if x.full then v.fifo else v.fifo.dropLast
    | none => v.fifo
  { v with fifo := old ++ [l'], fetched := if l'.full then v.fetched + 1 else v.fetched }

/-- A burst gets an error response (R261): captured, its line bad, the first one latched. -/
def burstFail (l : LineSlot) (s : State) : State :=
  let v := s.video
  let v' := { slotPut v l (List.replicate 64 0) true with
    evFetch := true, errLine := if v.errLine = 0xFFFF_FFFF then BitVec.ofNat 32 l.line else v.errLine }
  errorResponse { master := .vfetch, addr := BitVec.ofNat 40 (burstAddr v l), kind := 0, size := 6 }
    (if regionOf (burstAddr v l) = .dram then .target else .firewall) { s with video := v' }

/-- The fetch engine runs (R259). -/
def fetching (s : State) : Bool := s.video.en && s.video.running && domOn s 20

/-- A burst that the wheel has granted to the engine is used up (R258). -/
def useGrant (s : State) : State := { s with video := { s.video with granted := s.video.granted - 1 } }

/-- A burst may be done: the engine runs, and the wheel has granted it a VIDEO slot (R258). -/
def burstReady (s : State) : Bool := fetching s && decide (0 < s.video.granted)

/-- One burst of 64 bytes (R258), as memory stands (R388). -/
def burst (s : State) : State :=
  if burstReady s then
    let s := useGrant s
    match fetchSlot s.video with
    | some l =>
      let a := burstAddr s.video l
      if regionOf a = .dram ∧ dramUp s then { s with video := slotPut s.video l (s.mem.readAll a 64) false }
      else burstFail l s
    | none => s
  else s

/-- A burst that gets an error response (R261). -/
def burstError (s : State) : State :=
  if burstReady s then
    let s := useGrant s
    match fetchSlot s.video with
    | some l => burstFail l s
    | none => s
  else s

/-- VF_CTRL (R275): EN always, the other fields only while EN is 0; EN 0 stops the fetch and empties the FIFO. -/
def vfCtrl (v : Word) (s : State) : State :=
  let x := s.video
  let x := if x.en then x else { x with beams := bits v 4 3, bpp := v.getLsbD 8 }
  let x := { x with en := v.getLsbD 0 }
  { s with video := if x.en then x else { x with running := false, granted := 0, fifo := [] } }

/-- A VIDEO field other than EN. -/
def vfField (f : Video → Video) (s : State) : State := if s.video.en then s else { s with video := f s.video }

/-- VF_EVENTS W1C. -/
def vfEvClear (v : Word) (s : State) : State :=
  { s with video := { s.video with evUnder := s.video.evUnder && !v.getLsbD 0
                                   evFetch := s.video.evFetch && !v.getLsbD 1 } }

/-- ARM starts the fetch at line 0 (R259). -/
def videoArm (s : State) : State :=
  if s.video.en then
    { s with video := { s.video with running := true, granted := 0, fifo := [], fetched := 0, consumed := 0
                                     errLine := 0xFFFF_FFFF } }
  else s

/-! ## Lasers -/

/-- CEIL_b (R269). -/
def ceilOf (s : State) (b : Fin 4) : BitVec 11 :=
  let c := min s.beam.ld[b].ceilReq.toNat (min s.thrCopy[8 + b.val].toNat s.hdie.env.ldI[b].toNat)
  BitVec.ofNat 11 c

/-- The drive current of beam b while lit: never above CEIL_b, also where the ceiling has fallen since it was stored (R269). -/
def driveNow (s : State) (b : Fin 4) : Nat := min s.beam.ld[b].drive.toNat (ceilOf s b).toNat

/-- The driver domain of a beam. -/
def laserDomain (b : Fin 4) : Nat := if b.val < 2 then 22 else 23

/-- Nothing holds beam b off (R146, R147, R150, R165, R241, R252, R272, R279, R280, R281). -/
def canLight (s : State) (b : Fin 4) : Bool :=
  s.beam.intlk && !s.clk.fb.getLsbD 1 && !hdieOff s && decide (ceilOf s b ≠ 0) && !s.outHold.ldNew.getLsbD b.val && !s.hdie.ldOff.getLsbD b.val && !s.hdie.ldOnOff
    && !s.rst.engHold && domOn s 21 && domOn s (laserDomain b)

/-- Beam b may be lit in a page: as `canLight`, enabled, not held, CK_PIX on PIXPLL. -/
def pageLight (s : State) (b : Fin 4) : Bool :=
  canLight s b && s.beam.en && s.beam.ld[b].en && !s.beam.heldOff && !s.outHold.ld.getLsbD b.val
    && !s.clk.fb.getLsbD 3

/-- One beam's `lit`. -/
def setLit (b : Fin 4) (v : Bool) (s : State) : State :=
  { s with beam := { s.beam with ld := vmod s.beam.ld b fun l => { l with lit := v } } }

/-- BM_CTRL (R276): while EN is 1 only EN is written; EN 0 puts lasers off and SYNC to IDLE. -/
def bmCtrl (v : Word) (s : State) : State :=
  let x := s.beam
  let x := if x.en then x
    else { x with beams := bits v 4 3, bpp := v.getLsbD 8, inv := v.getLsbD 9, bdBeam := Fin.ofNat 4 (v >>> 12).toNat
                  diag := v.getLsbD 16 }
  let x := { x with en := v.getLsbD 0 }
  { s with beam := if x.en then x else
      { x with sync := .idle, gate := false, pulse := false, linesDue := false, pulses := []
               ld := x.ld.map fun l => { l with lit := false } } }

/-- A BEAM field that EN freezes. -/
def bmField (f : BeamUnit → BeamUnit) (s : State) : State := if s.beam.en then s else { s with beam := f s.beam }

/-- BM_LD_CFGb. -/
def bmLdCfg (b : Fin 4) (v : Word) (s : State) : State :=
  bmField (fun x => { x with ld := vmod x.ld b fun l =>
    { l with en := v.getLsbD 0, step := bits v 8 8, lit := l.lit && v.getLsbD 0 } }) s

/-- BM_LD_CEILREQb, written at any time (R276). -/
def bmCeilReq (b : Fin 4) (v : BitVec 11) (s : State) : State :=
  { s with beam := { s.beam with ld := vmod s.beam.ld b fun l => { l with ceilReq := v } } }

/-- BM_LD_DRIVEb: never above CEIL_b. -/
def bmDrive (b : Fin 4) (v : BitVec 11) (s : State) : State :=
  let c := ceilOf s b
  bmField (fun x => { x with ld := vmod x.ld b fun l => { l with drive := if c < v then c else v } }) s

/-- BM_DELAYb: a value above 12,799 is ignored (R268). -/
def bmDelay (b : Fin 4) (v : BitVec 16) (s : State) : State :=
  if 12799 < v.toNat then s else bmField (fun x => { x with ld := vmod x.ld b fun l => { l with delay := v } }) s

/-- BM_EVENTS W1C. -/
def bmEvClear (v : Word) (s : State) : State :=
  { s with beam := { s.beam with evMiss := s.beam.evMiss && !v.getLsbD 0, evExtra := s.beam.evExtra && !v.getLsbD 1
                                 evIntlk := s.beam.evIntlk && !v.getLsbD 2
                                 evUnder := s.beam.evUnder && !v.getLsbD 3 } }

/-! ## Line synchronisation -/

/-- LDIL is open in a page (R272): the spoil latches, BD_MISSING is raised, INTLK_OPEN is set. -/
def interlockOpen (s : State) : State := raiseFault 0x90 { s with beam := { s.beam with evIntlk := true } }

/-- ARM with EN 1 (R263, R272): SYNC goes to ACQUIRE; an open interlock spoils. -/
def beamArm (s : State) : State :=
  if s.beam.en then
    let s := { s with beam := { s.beam with sync := .acquire, firstEdge := false, lockCount := 0, gate := false
                                            edgeSeen := false, pulse := false, linesDue := false, heldOff := false
                                            facets := 0, pulses := [] } }
    if s.beam.intlk then s else interlockOpen s
  else s

/-- BD_MISSING (R265): it spoils a page in flight (R70, R160). -/
def bdMiss (s : State) : State := raiseFault 0x90 { s with beam := { s.beam with evMiss := true } }

/-- SYNC as it stood before a spoil of this very cycle, so that what falls together with it still counts (R279). -/
def syncNow (s : State) : Sync :=
  if s.beam.sync = .idle ∧ s.docket.fresh = true then s.beam.cutSync else s.beam.sync

/-- A gate opens (R263): in ACQUIRE only after the first accepted edge. -/
def gateOpen (s : State) : State :=
  let ok := match s.beam.sync with
    | .acquire => s.beam.firstEdge
    | .locked | .run => true
    | .idle => false
  if ok && !s.beam.gate then
    setLit s.beam.bdBeam (pageLight s s.beam.bdBeam) { s with beam := { s.beam with gate := true, edgeSeen := false } }
  else s

/-- A gate closes (R265): with no accepted edge BD_MISSING in LOCKED and RUN, a new search in ACQUIRE (log 31). -/
def gateClose (s : State) : State :=
  if s.beam.gate then
    let seen := s.beam.edgeSeen
    let t := setLit s.beam.bdBeam false { s with beam := { s.beam with gate := false, edgeSeen := false } }
    if seen then t
    else match s.beam.sync with
      | .locked | .run => bdMiss t
      | .acquire => { t with beam := { t.beam with firstEdge := false, lockCount := 0 } }
      | .idle => t
  else if s.docket.fresh && s.beam.cutGate then
    match s.beam.cutSync with
    | .locked | .run => bdMiss { s with beam := { s.beam with cutGate := false } }
    | _ => s
  else s

/-- An ACQUIRE pulse (R263). -/
def pulseStart (s : State) : State :=
  if s.beam.sync = .acquire ∧ s.beam.firstEdge = false then
    setLit s.beam.bdBeam (pageLight s s.beam.bdBeam) { s with beam := { s.beam with pulse := true } }
  else s

/-- Its end with no accepted edge: the monitor of BD_BEAM has been sampled in it (R270). What it measured the row does not say: a
free value (log 8). -/
def pulseEnd (s : State) : State :=
  if s.beam.pulse then
    let b := s.beam.bdBeam
    let mon : BitVec 12 := (Config.freeWord s.freeCtr).setWidth 12
    setLit b false { s with
      beam := { s.beam with
        pulse := false
        ld := vmod s.beam.ld b fun l => if l.en then { l with mon := mon, monNew := true } else l }
      freeCtr := s.freeCtr + 1 }
  else s

/-- The APC monitor samples of an accepted edge (R264, R270): one of every enabled beam (log 31). -/
def takeMons (mons : List (BitVec 12)) (x : BeamUnit) : BeamUnit :=
  { x with ld := Vector.ofFn fun b =>
      if x.ld[b].en then { x.ld[b] with mon := mons.getD b.val 0, monNew := true } else x.ld[b] }

/-- What an accepted edge does to the synchronisation (R263): the first edge ends the search, four gated ones lock. -/
def edgeSync (x : BeamUnit) : BeamUnit :=
  match x.sync with
  | .acquire =>
    if x.firstEdge then
      if 3 ≤ x.lockCount then { x with sync := .locked, lockCount := 4 } else { x with lockCount := x.lockCount + 1 }
    else { x with firstEdge := true, lockCount := 0 }
  | _ => x

/-- A facet starts (R257, R263, R66). -/
def facetStart (s : State) : State :=
  { s with
    beam := { s.beam with facets := s.beam.facets + 1, linesDue := true }
    docket := { s.docket with facetOpen := true, tFirst := if s.docket.tFirst = 0 then s.devtime else s.docket.tFirst } }

/-- An edge of the input that SRC selects, of the polarity that EDGE selects (R262); one of the check input is none. -/
def edgeSelected (e : BdEdge) (s : State) : Bool := (e.bd1 == s.beam.bdSrc) && (e.falling == s.beam.bdEdge)

/-- An edge is accepted inside a pulse or a gate (R262, R264). -/
def edgeAccept (e : BdEdge) (mons : List (BitVec 12)) (s : State) : State :=
  if edgeSelected e s = true ∧ s.beam.sync ≠ .idle ∧ (s.beam.pulse ∨ (s.beam.gate ∧ s.beam.edgeSeen = false)) then
    let run := decide (s.beam.sync = .run)
    let x := takeMons mons s.beam
    let x := { x with pulse := false, edgeSeen := x.gate, bdMeas := if x.firstEdge then e.cycles else x.bdMeas }
    let s := rampRetrigger (setLit x.bdBeam false { s with beam := edgeSync x })
    if run && pageInFlight s && !s.docket.facetOpen then facetStart s else s
  else s

/-- An edge of the selected input and polarity (R262) that is not accepted (R264). -/
def edgeExtra (s : State) : State :=
  if s.beam.sync = .idle then s else { s with beam := { s.beam with evExtra := true } }

/-- The check sensor fails (R262, R265). -/
def checkFail (s : State) : State :=
  if s.beam.bdChk ∧ (syncNow s = .locked ∨ syncNow s = .run) then bdMiss s else s

/-! ## Pixels (R256, R267) -/

/-- Pixel code k of a line. -/
def pixelCode (bpp2 : Bool) (line : List Byte) (k : Nat) : Nat :=
  if bpp2 then (line.getD (k / 4) 0).toNat / 4 ^ (k % 4) % 4 else (line.getD (k / 8) 0).toNat / 2 ^ (k % 8) % 2

/-- Lit CK_PIX cycles of a code. -/
def codeWidth (bpp2 : Bool) (pwm : Word) (px c : Nat) : Nat :=
  if c = 0 then 0
  else if bpp2 then (px * ((pwm >>> (8 * (c - 1))).toNat % 32) + 8) / 16
  else px

/-- The unlit and the lit cycles of a pixel: JUST 0 start, 1 centre, 2 end. -/
def pixelPulse (bpp2 inv : Bool) (pwm : Word) (px : Nat) (line : List Byte) (k : Nat) : Nat × Nat :=
  let c := pixelCode bpp2 line k
  let c := if inv then (if bpp2 then 3 - c else 1 - c) else c
  let w := codeWidth bpp2 pwm px c
  let lead := match (bits pwm 24 2 : BitVec 2).toNat with
    | 1 => (px - w) / 2
    | 2 => px - w
    | _ => 0
  (lead, w)

/-- The pulses of a whole line. -/
def linePulses (s : State) (line : List Byte) : List (Nat × Nat) :=
  (List.range s.beam.linePix.toNat).map fun k => pixelPulse s.beam.bpp s.beam.inv s.beam.pwm (pxdiv s) line k

/-- The lines that the facet now begun carries (R257), where all are complete and good. -/
def facetLines (s : State) : Option (List (List Byte)) :=
  let n := s.beam.beams.toNat
  let f := s.beam.facets.toNat - 1
  let ls := (List.range n).map fun b =>
    s.video.fifo.find? fun l => decide (l.line = f * n + b) && l.full && !l.bad
  if ls.all (·.isSome) then some (ls.filterMap fun l => l.map (·.bytes)) else none

/-- VFIFO_UNDERRUN (R260). -/
def underrun (s : State) : State :=
  raiseFault 0x91 (blankBeams { s with beam := { s.beam with evUnder := true, linesDue := false }
                                       video := { s.video with evUnder := true } })

/-- T_BDG after a facet's edge (R260): the facet's lines are emitted, or the page is spoiled. -/
def lineDue (s : State) : State :=
  if s.beam.linesDue then
    match facetLines s with
    | some ls => { s with beam := { s.beam with linesDue := false, pulses := ls.map (linePulses s) } }
    | none => underrun s
  else if s.docket.fresh && s.beam.cutDue then
    let s := { s with beam := { s.beam with cutDue := false } }
    match facetLines s with
    | some _ => s
    | none => underrun s
  else s

/-- A facet ends for the beam unit and the FIFO (R259, R263, R266): its slots are freed, the last facet ends RUN. -/
def facetRelease (s : State) : State :=
  let n := s.beam.beams.toNat
  { s with
    video := { s.video with fifo := s.video.fifo.filter fun l => decide (s.beam.facets.toNat * n ≤ l.line)
                            consumed := s.video.consumed + BitVec.ofNat 16 n }
    beam := { s.beam with pulses := []
                          sync := if s.docket.planned.toNat ≤ s.beam.facets.toNat * n then .idle else s.beam.sync } }

/-! ## Interlock and diagnosis -/

/-- LDIL falls (R272): every drive is held at 0 mA; in a page the spoil latches. -/
def ldilLow (s : State) : State :=
  let busy := decide (syncNow s ≠ .idle)
  let s := { s with beam := { s.beam with intlk := false, ld := s.beam.ld.map fun l => { l with lit := false } } }
  if busy && pageInFlight s then interlockOpen s else s

/-- LDIL rises (R272). -/
def ldilHigh (s : State) : State := { s with beam := { s.beam with intlk := true } }

/-- A diagnostic pulse (R273): 10 µs at the diagnostic drive, which CEIL_b bounds (R269), the beam dark again at its end; the drive
of the APC loop holds its value (R270). -/
def diagPulse (b : Fin 4) (s : State) : State :=
  match s.beam.ld[b].diagLevel with
  | some d =>
    if s.beam.diag ∧ s.beam.sync = .idle ∧ canLight s b = true then
      { s with beam := { s.beam with ld := vmod s.beam.ld b fun l =>
        { l with diagDrive := if ceilOf s b < d then ceilOf s b else d, lit := false } } }
    else s
  | none => s

/-! ## Meanings -/

/-- BD_EDGE_ACCEPT (R264). -/
def execBdEdgeAccept (edge : BdEdge) (mons : List (BitVec 12)) (s : State) : Host.Outcome State Fault Refusal :=
  .next (edgeAccept edge mons s)

/-- BD_EDGE_EXTRA (R264). -/
def execBdEdgeExtra (s : State) : Host.Outcome State Fault Refusal := .next (edgeExtra s)

/-- BD_CHECK_TIMEOUT (R262). -/
def execBdCheckTimeout (s : State) : Host.Outcome State Fault Refusal := .next (checkFail s)

/-- BD_GATE_OPEN (R263). -/
def execBdGateOpen (s : State) : Host.Outcome State Fault Refusal := .next (gateOpen s)

/-- BD_GATE_CLOSE (R265). -/
def execBdGateClose (s : State) : Host.Outcome State Fault Refusal := .next (gateClose s)

/-- ACQ_PULSE_START (R263). -/
def execAcqPulseStart (s : State) : Host.Outcome State Fault Refusal := .next (pulseStart s)

/-- ACQ_PULSE_END (R263). -/
def execAcqPulseEnd (s : State) : Host.Outcome State Fault Refusal := .next (pulseEnd s)

/-- LINE_DUE_CHECK (R260). -/
def execLineDueCheck (s : State) : Host.Outcome State Fault Refusal := .next (lineDue s)

/-- LDIL_FALL (R272). -/
def execLdilFall (s : State) : Host.Outcome State Fault Refusal := .next (ldilLow s)

/-- LDIL_RISE (R272). -/
def execLdilRise (s : State) : Host.Outcome State Fault Refusal := .next (ldilHigh s)

/-- DIAG_LASER_PULSE (R273). -/
def execDiagLaserPulse (b : Fin 4) (s : State) : Host.Outcome State Fault Refusal := .next (diagPulse b s)

/-- VIDEO_BURST_DONE (R258). -/
def execVideoBurstDone (s : State) : Host.Outcome State Fault Refusal := .next (burst s)

/-- VIDEO_BURST_ERROR (R261). -/
def execVideoBurstError (s : State) : Host.Outcome State Fault Refusal := .next (burstError s)

end Sys2Proof.Machine
end

