-- ==== Sys2Proof/Machine/Gpio.lean ====
section
/-! DEFINITION. General-purpose pins (R440-R457): what a pin carries, output latches, edge events, locks and holds. -/

namespace Sys2Proof.Machine

/-- PINCFG of pin j of bank b. -/
def pinCfg (s : State) (b : Fin 4) (j : Nat) : BitVec 13 := s.pincfg[32 * b.val + j]?.getD 0

/-- The pins that a bank has. -/
def bankMask (b : Fin 4) : Word := if b = 3 then 0x00FF_FFFF else 0xFFFF_FFFF

/-- LOOP_OUTn (R321): a loop whose OUTSEL names it is on. A disabled loop's output is off (R317). -/
def loopOutPin (s : State) (n : Nat) : Bool := s.loops.loops.toList.any fun l => l.out && decide (l.outsel.toNat = n + 1)

/-- What drives pin j of bank b and with which level (R441-R444); none for an input. A level that the spec gives only
as a waveform (SCK and MOSI in a transfer, CLKOUT32) is a free value (log 26). -/
def pinDrive (s : State) (b : Fin 4) (j : Nat) : Option Bool :=
  let cfg := pinCfg s b j
  match (bits cfg 0 4 : BitVec 4).toNat with
  | 0 => if cfg.getLsbD 4 then some (s.gpio[b].out.getLsbD j) else none
  | 1 =>
    if b = 0 ∧ j < 24 ∧ domOn s 44 then
      let p := s.spim[Fin.ofNat 4 (j / 6)]
      match j % 6 with
      | 0 => some (if p.busy then Config.freeBit s.freeCtr else p.ctrl.getLsbD 2)
      | 1 => some (Config.freeBit s.freeCtr)
      | 2 => none
      | k => some (!(p.busy && decide ((bits p.ctrl 16 2 : BitVec 2).toNat = k - 3)))
    else none
  | 2 => if b = 1 ∧ j < 16 ∧ domOn s 30 then some (loopOutPin s j) else none
  | 3 =>
    if b = 1 ∧ j = 16 ∧ domOn s 28 then some s.eth[0].pps
    else if b = 1 ∧ j = 17 ∧ domOn s 29 then some s.eth[1].pps
    else none
  | 4 => if (b = 3 ∧ j = 0) ∨ (b = 1 ∧ j = 31) then some (Config.freeBit s.freeCtr) else none
  | _ => none

/-- IN_VAL bit j of a bank (R444, R445): an output reads its own pad, ANA reads 0. -/
def pinVal (s : State) (b : Fin 4) (j : Nat) : Bool :=
  if (pinCfg s b j).getLsbD 7 then false
  else match pinDrive s b j with
    | some v => v
    | none => s.gpio[b].pad.getLsbD j

/-- A word of one bit per pin. -/
def pinWord (f : Nat → Bool) : Word :=
  (List.range 32).foldl (fun v j => if f j then v ||| BitVec.twoPow 32 j else v) 0

/-- IN_VAL. -/
def inVal (s : State) (b : Fin 4) : Word := pinWord (pinVal s b) &&& bankMask b

/-- The IRQ_CFG field of pin j. -/
def irqMode (s : State) (b : Fin 4) (j : Nat) : Nat :=
  ((bits (s.gpio[b].irqCfg[Fin.ofNat 4 (j / 8)]) (4 * (j % 8)) 3 : BitVec 3)).toNat

/-- The level of a pin's LIC_APP source (R444, R448). -/
def pinSource (s : State) (b : Fin 4) (j : Nat) : Bool :=
  if (pinCfg s b j).getLsbD 7 then false
  else match irqMode s b j with
    | 1 => pinVal s b j
    | 2 => !pinVal s b j
    | 3 | 4 | 5 => s.gpio[b].evt.getLsbD j
    | _ => false

/-- EVT bits that the edges from one state to the next set in bank b (R448). -/
def edgeEvents (s0 s : State) (b : Fin 4) : Word :=
  pinWord (fun j =>
    let was := pinVal s0 b j
    let now := pinVal s b j
    match irqMode s b j with
    | 3 => !was && now
    | 4 => was && !now
    | 5 => was != now
    | _ => false) &&& bankMask b

/-- A change of one bank's pins with the events it causes. -/
def withEdges (b : Fin 4) (f : State → State) (s : State) : State :=
  let t := f s
  { t with gpio := vmod t.gpio b fun g => { g with evt := g.evt ||| edgeEvents s t b } }

/-- Held pins keep what the hold keeps (R451). -/
def unheld (s : State) (b : Fin 4) : Word := bankMask b &&& ~~~s.gpio[b].held

/-- The output latches of a bank become v, held ones excepted (R446, R451). -/
def setLatch (b : Fin 4) (v : Word) (s : State) : State :=
  withEdges b (fun s => { s with gpio := vmod s.gpio b fun g =>
    { g with out := (v &&& unheld s b) ||| (g.out &&& ~~~(unheld s b)) } }) s

/-- OUT_VAL, OUT_SET, OUT_CLR, OUT_TGL (R446). -/
def outVal (b : Fin 4) (v : Word) (s : State) : State := setLatch b v s
/-- See `outVal`. -/
def outSetBits (b : Fin 4) (v : Word) (s : State) : State := setLatch b (s.gpio[b].out ||| v) s
/-- See `outVal`. -/
def outClrBits (b : Fin 4) (v : Word) (s : State) : State := setLatch b (s.gpio[b].out &&& ~~~v) s
/-- See `outVal`. -/
def outTglBits (b : Fin 4) (v : Word) (s : State) : State := setLatch b (s.gpio[b].out ^^^ v) s

/-- IRQ_CFGn: the fields of locked and held pins stay (R449, R451). -/
def irqCfgWrite (b : Fin 4) (n : Fin 4) (v : Word) (s : State) : State :=
  let frozen := s.gpio[b].lockStat ||| ~~~(unheld s b)
  let mask : Word := (List.range 8).foldl (fun m j =>
    if frozen.getLsbD (8 * n.val + j) then m else m ||| ((7 : Word) <<< (4 * j))) 0
  { s with gpio := vmod s.gpio b fun g =>
      { g with irqCfg := vmod g.irqCfg n fun w => (v &&& mask) ||| (w &&& ~~~mask) } }

/-- EVT W1C. -/
def evtClear (b : Fin 4) (v : Word) (s : State) : State :=
  { s with gpio := vmod s.gpio b fun g => { g with evt := g.evt &&& ~~~v } }

/-- PINCFGp: locked and held pins stay; HOLD exists in GPD only (R441, R449, R451). -/
def pincfgWrite (p : Nat) (v : Word) (s : State) : State :=
  let b : Fin 4 := Fin.ofNat 4 (p / 32)
  let j := p % 32
  if s.gpio[b].lockStat.getLsbD j ∨ (unheld s b).getLsbD j = false then s
  else
    let w : BitVec 13 := v.setWidth 13
    let w := if b = 3 then w else setBit w 12 false
    withEdges b (fun s => { s with pincfg := s.pincfg.setIfInBounds p w }) s

/-- An abandoned lock sequence (R455). -/
def lockAbandon (g : Gpio) : Gpio := { g with lockStep := 0, abort := true }

/-- A write of LOCK_KEY (R449, R455). -/
def lockKey (m : Master) (b : Fin 4) (v : Word) (s : State) : State :=
  { s with gpio := vmod s.gpio b fun g =>
      if v = 0x5A5A then
        { g with lockStep := 1, lockMaster := (masterId m).setWidth 4, abort := g.abort || (g.lockStep != 0) }
      else if g.lockStep = 0 then g
      else if v = 0xA5A5 ∧ g.lockStep = 2 ∧ g.lockMaster = (masterId m).setWidth 4 then
        { g with lockStep := 0, lockStat := g.lockStat ||| g.lockMask }
      else lockAbandon g }

/-- A write of LOCK_MASK (R449, R455): the mask is stored, the sequence advances or is abandoned. -/
def lockMask (m : Master) (b : Fin 4) (v : Word) (s : State) : State :=
  { s with gpio := vmod s.gpio b fun g =>
      let g := { g with lockMask := v &&& bankMask b }
      if g.lockStep = 0 then g
      else if g.lockStep = 1 ∧ g.lockMaster = (masterId m).setWidth 4 then { g with lockStep := 2 }
      else lockAbandon g }

/-- The level the board drives at a pin changes. -/
def padChange (b : Fin 4) (pin : Fin 32) (level : Bool) (s : State) : State :=
  if domOn s (45 + b.val) then
    withEdges b (fun s => { s with gpio := vmod s.gpio b fun g => { g with pad := setBit g.pad pin.val level } }) s
  else { s with gpio := vmod s.gpio b fun g => { g with pad := setBit g.pad pin.val level } }

/-- The power-down of a GPIO bank's domain clears its registers and locks (R450). -/
def gpioOff (b : Fin 4) (s : State) : State :=
  { s with gpio := s.gpio.set b { Gpio.reset with pad := s.gpio[b].pad }
           pincfg := Vector.ofFn fun p => if p.val / 32 = b.val then 0x0100 else s.pincfg[p] }

/-! ## Meanings -/

/-- GPIO_PIN_CHANGE (R448). -/
def execGpioPinChange (b : Fin 4) (pin : Fin 32) (level : Bool) (s : State) : Host.Outcome State Fault Refusal :=
  .next (padChange b pin level s)

end Sys2Proof.Machine
end

