-- ==== Sys2Proof/Machine/Loops.lean ====
section
/-! DEFINITION. The hysteretic loop engine (R315-R322, R332), high voltage (R323, R330, R331) and the fuser heaters
(R325-R331). -/

namespace Sys2Proof.Machine

/-- One loop changed. -/
def loopMod (n : Fin 32) (f : Loop → Loop) (s : State) : State :=
  { s with loops := { s.loops with loops := vmod s.loops.loops n f } }

/-- A loop whose LOOP_OUT may reach a pin changed, with the pin's edges (R448). -/
def loopModPin (n : Fin 32) (f : Loop → Loop) (s : State) : State := withEdges 1 (loopMod n f) s

/-! ## The schedule -/

/-- Slots of a loop in a frame of 1,024. -/
def loopSlots (plog : BitVec 4) : Nat := 1024 / 2 ^ plog.toNat

/-- Σ 1024 / P_i over the loops that EN names. -/
def loopUtil (ls : Vector Loop 32) : Nat := (ls.toList.map fun l => if l.en then loopSlots l.plog else 0).sum

/-- An offset is free for period 2^g beside the loops already placed: (PLOG, offset) pairs. -/
def offsetFree (placed : List (Nat × Nat)) (g o : Nat) : Bool :=
  placed.all fun p => o % 2 ^ min g p.1 != p.2 % 2 ^ min g p.1

/-- Placement of the enabled loops (R315): ascending PLOG, then number, each at its lowest free offset. -/
def placeLoops (ls : Vector Loop 32) : List (Nat × Nat × Nat) :=
  let order := (List.range 11).flatMap fun g =>
    (List.range 32).filter fun n => ls[Fin.ofNat 32 n].en && decide (ls[Fin.ofNat 32 n].plog.toNat = g)
  order.foldl (fun acc n =>
    let g := ls[Fin.ofNat 32 n].plog.toNat
    let o := ((List.range (2 ^ g)).find? fun o => offsetFree (acc.map fun p => (p.2.1, p.2.2)) g o).getD 0
    acc ++ [(n, g, o)]) []

/-- LE_COMMIT.GO (R315, R316). -/
def leCommit (s : State) : State :=
  let u := loopUtil s.loops.loops
  if 1024 < u then { s with loops := { s.loops with reject := true } }
  else
    let pl := placeLoops s.loops.loops
    { s with loops := { s.loops with
        util := BitVec.ofNat 11 u
        applyDue := true
        loops := Vector.ofFn fun n =>
          let l := s.loops.loops[n]
          { l with comEn := l.en, comPlog := l.plog
                   phase := match pl.find? fun p => p.1 = n.val with
                     | some p => BitVec.ofNat 10 p.2.2
                     | none => l.phase } } }

/-- LE_STATUS.PENDING. -/
def lePending (s : State) : Bool :=
  s.loops.loops.toList.any fun l => l.en != l.comEn || decide (l.plog ≠ l.comPlog)

/-- A loop goes to its output off with no dwell running. -/
def loopFresh (l : Loop) : Loop := { l with out := false, dwellRun := false, changed := none, zone := 0 }

/-- Heater h stops conducting (R325): what it conducted of the period is open (log 8). -/
def heaterStop (h : Fin 2) (s : State) : State :=
  let x := s.fuser.htr[h]
  if x.on then
    let used := (Config.freeWord s.freeCtr).toNat % (x.dutyNow * 10 + 1)
    let x := { x with on := false, history := used :: x.history.drop 1 }
    { s with fuser := { s.fuser with htr := s.fuser.htr.set h x }, freeCtr := s.freeCtr + 1 }
  else s

/-- A heater whose loop is off, and which no diagnosis drives, conducts no longer (R325). -/
def heaterFollow (h : Fin 2) (s : State) : State :=
  if s.loops.loops[h.val].out || s.fuser.htr[h].diagDuty.isSome then s else heaterStop h s

/-- The committed schedule takes effect at the frame boundary (R315, R317). -/
def schedApply (s : State) : State :=
  if s.loops.applyDue then
    let s' := withEdges 1 (fun s => { s with loops := { s.loops with
      applyDue := false
      loops := s.loops.loops.map fun l =>
        let l' := { l with actEn := l.comEn, actPlog := l.comPlog }
        if l.actEn = l.comEn then l' else loopFresh l' } }) s
    heaterFollow 0 (heaterFollow 1 s')
  else s

/-! ## The law -/

/-- e < −BAND: 1, e > +BAND: 2, else 0 (R318). -/
def zoneOf (value : Word) (l : Loop) : BitVec 2 :=
  let e := value.toInt - l.setp.toInt
  if e < -(l.band.toNat : Int) then 1 else if (l.band.toNat : Int) < e then 2 else 0

/-- The output R318 calls for. -/
def lawWants (general : Bool) (z : BitVec 2) (l : Loop) : Bool :=
  if z = 0 then l.out else (decide (z = 1)) != (general && l.inv)

/-- The output changes at time t, and its dwell begins (R319). -/
def loopSwitch (t : BitVec 64) (b : Bool) (l : Loop) : Loop :=
  { l with out := b, dwellRun := l.dwell != 0, changed := some t }

/-- LP_DWELL becomes d at time t (R319): it counts from the loop's last change. -/
def loopDwell (t : BitVec 64) (d : BitVec 27) (l : Loop) : Loop :=
  { l with dwell := d, dwellRun := match l.changed with
      | some c => decide ((t - c).toNat < d.toNat * 100)
      | none => false }

/-- One sample of an on/off loop at time t (R318, R319, R322). -/
def onOffSample (t : BitVec 64) (general valid : Bool) (value : Word) (l : Loop) : Loop :=
  if valid then
    let z := zoneOf value l
    let want := lawWants general z l
    let l := { l with value := value, zone := z, stale := false }
    if want ≠ l.out ∧ l.dwellRun = false then loopSwitch t want l else l
  else if l.out then loopSwitch t false { l with stale := true }
  else { l with stale := true }

/-- One sample of an APC loop (R270, R318): a drive step on a new monitor sample, while the page runs. -/
def apcSample (b : Fin 4) (valid : Bool) (s : State) : State :=
  let n : Fin 32 := Fin.ofNat 32 (5 + b.val)
  let x := s.beam.ld[b]
  if !valid then loopMod n (fun l => { l with stale := true }) s
  else if x.monNew && decide (s.beam.sync ≠ .idle) then
    let v : Word := x.mon.setWidth 32
    let z := zoneOf v s.loops.loops[n]
    let ceil := (ceilOf s b).toNat
    let now := driveNow s b
    let d := if z = 1 then min (now + x.step.toNat) ceil
      else if z = 2 then now - x.step.toNat else now
    { loopMod n (fun l => { l with value := v, zone := z, stale := false }) s with
      beam := { s.beam with ld := s.beam.ld.set b { x with drive := BitVec.ofNat 11 d, monNew := false } } }
  else loopMod n (fun l => { l with stale := false }) s

/-- The sample of loop n in its slot (R318). -/
def loopSample (n : Fin 32) (s : State) : State :=
  let l := s.loops.loops[n]
  if s.loops.en && l.actEn && domOn s 30 then
    let ch := l.insel.toNat % 36
    let valid := s.adc.valid.getLsbD ch
    let value := s.adc.val[ch]?.getD 0
    if 5 ≤ n.val ∧ n.val ≤ 8 then apcSample (Fin.ofNat 4 (n.val - 5)) valid s
    else
      let s := loopModPin n (onOffSample s.devtime (decide (9 ≤ n.val)) valid value) s
      if n.val = 0 then heaterFollow 0 s else if n.val = 1 then heaterFollow 1 s else s
  else s

/-- A loop's dwell elapses (R319). -/
def dwellEnd (n : Fin 32) (s : State) : State := loopMod n (fun l => { l with dwellRun := false }) s

/-- LE_CTRL (R332): EN 0 stops every loop, on/off outputs off, APC drives held. -/
def leCtrl (v : Word) (s : State) : State :=
  if v.getLsbD 0 then { s with loops := { s.loops with en := true } }
  else
    let s' := withEdges 1 (fun s => { s with loops := { s.loops with en := false, loops := s.loops.loops.map loopFresh } }) s
    heaterFollow 0 (heaterFollow 1 s')

/-- LP_CFGn (R332): PLOG above 10 ignored; INSEL, OUTSEL and INV of the fixed loops are read-only. -/
def lpCfg (n : Fin 32) (v : Word) (s : State) : State :=
  loopModPin n (fun l =>
    let p : BitVec 4 := bits v 4 4
    let l := { l with en := v.getLsbD 0, plog := if 10 < p.toNat then l.plog else p }
    if 9 ≤ n.val then { l with insel := bits v 8 8, outsel := bits v 16 7, inv := v.getLsbD 23 } else l) s

/-! ## High voltage -/

/-- The modes in which loops 0-4 drive their outputs (R330). -/
def engineMode (s : State) : Bool := decide (s.sys.mode = 2) || decide (s.sys.mode = 3)

/-- What cuts every fixed output (R335, R146). -/
def engineCut (s : State) : Bool := hdieOff s || s.rst.engHold || s.hdie.pfwCut

/-- HVGATEc switches (R323, R330, R331, R335). -/
def hvDrive (s : State) (c : Fin 3) : Bool :=
  domOn s 42 && !engineCut s && decide (s.hdie.env.hvFb[c] ≠ 0) && !s.hv.inhib.getLsbD c.val && !s.hdie.hvOff.getLsbD c.val
    && (match s.hv.diagLimit[c] with
      | some lim => decide (s.hv.fb[c].toNat ≤ lim)
      | none => s.loops.loops[2 + c.val].out && s.hv.en.getLsbD c.val && engineMode s && !s.outHold.hv.getLsbD c.val)

/-! ## Heaters -/

/-- DUTY_EFF (R326). -/
def dutyEff (s : State) (h : Fin 2) : Nat := min s.fuser.dutyReq.toNat s.thrCopy[h.val].toNat

/-- Heater h may conduct (R325, R327, R330, R331, R335). -/
def heaterMay (s : State) (h : Fin 2) : Bool :=
  domOn s 43 && !engineCut s && !s.hdie.htrOff.getLsbD h.val
    && (s.fuser.htr[h].diagDuty.isSome
      || (s.loops.loops[h.val].out && s.fuser.en.getLsbD h.val && engineMode s && !s.outHold.htr.getLsbD h.val))

/-- A heater's period starts (R325, R327): the duty in effect is taken; the envelope's hold ends when the last nine
periods leave room. -/
def heaterStart (h : Fin 2) (s : State) : State :=
  let x := s.fuser.htr[h]
  let hist := x.history.take 9
  let held := decide (s.hdie.env.htrDuty[h].toNat * 100 ≤ hist.sum)
  let duty := match x.diagDuty with
    | some d => d
    | none => dutyEff s h
  let on := heaterMay s h && !held && decide (0 < duty)
  let x := { x with held := held, dutyNow := duty, on := on, history := (if on then duty * 10 else 0) :: hist }
  { s with fuser := { s.fuser with htr := s.fuser.htr.set h x } }

/-- A conduction ends at its duty (R325, R328). -/
def heaterEnd (h : Fin 2) (mean : BitVec 16) (s : State) : State :=
  let x := s.fuser.htr[h]
  if x.on then { s with fuser := { s.fuser with htr := s.fuser.htr.set h { x with on := false, ilast := mean } } } else s

/-- FU_DUTY_REQ: above 1,000 stored as 1,000. -/
def fuDutyReq (v : Word) (s : State) : State :=
  let d : BitVec 10 := bits v 0 10
  { s with fuser := { s.fuser with dutyReq := if 1000 < d.toNat then 1000 else d } }

/-- FU_CTRL: a heater whose EN clears stops conducting. -/
def fuCtrl (v : Word) (s : State) : State :=
  let s := { s with fuser := { s.fuser with en := v.setWidth 2 } }
  let s := if v.getLsbD 0 then s else if s.fuser.htr[0].diagDuty.isSome then s else heaterStop 0 s
  if v.getLsbD 1 then s else if s.fuser.htr[1].diagDuty.isSome then s else heaterStop 1 s

/-! ## Meanings -/

/-- LOOP_SLOT_SAMPLE (R318). -/
def execLoopSlotSample (n : Fin 32) (s : State) : Host.Outcome State Fault Refusal := .next (loopSample n s)

/-- SCHEDULE_APPLY (R315). -/
def execScheduleApply (s : State) : Host.Outcome State Fault Refusal := .next (schedApply s)

/-- LOOP_DWELL_EXPIRE (R319). -/
def execLoopDwellExpire (n : Fin 32) (s : State) : Host.Outcome State Fault Refusal := .next (dwellEnd n s)

/-- HEATER_PERIOD_START (R325). -/
def execHeaterPeriodStart (h : Fin 2) (s : State) : Host.Outcome State Fault Refusal := .next (heaterStart h s)

/-- HEATER_CONDUCTION_END (R325). -/
def execHeaterConductionEnd (h : Fin 2) (mean : BitVec 16) (s : State) : Host.Outcome State Fault Refusal :=
  .next (heaterEnd h mean s)

end Sys2Proof.Machine
end

