-- ==== Sys2Proof/Machine/Motor.lean ====
section
/-! DEFINITION. The motor channels (R282-R314): start and stop, alignment, the speed regulator, the phase-current law, DUMP,
and the resolvers (R293). -/

namespace Sys2Proof.Machine

/-- One channel changed. -/
def motMod (k : Fin 6) (f : Motor → Motor) (s : State) : State := { s with motors := vmod s.motors k f }

/-- I_CLIM (R288). -/
def iClim (s : State) (k : Fin 6) : Nat :=
  min s.motors[k].ilimReq.toNat (min s.thrCopy[2 + k.val].toNat s.hdie.env.mI[k].toNat)

/-- The back-off holds (R304): VIN is above VREGEN, or VREGEN is 0, with which the comparator is always tripped. -/
def backoffOn (s : State) : Bool := s.supply.vinRegen || decide (s.vregen = 0)

/-- States with every gate off, from which START runs a channel (R284, R290; log 33). -/
def motStill (m : Motor) : Bool :=
  match m.state with
  | .off | .coast | .tripped => true
  | _ => false

/-- The channel may leave OFF (R307): enabled, its dead time set, its gates free, no overspeed latched (R147). -/
def motMayStart (s : State) (k : Fin 6) : Bool :=
  s.motors[k].en && decide (10 ≤ deadTime s.motors[k]) && !gatesBlocked s k && !s.hdie.mFast.getLsbD k.val

/-- The channel leaves OFF (R290, R307): it aligns first where it has not since a reset or a trip. -/
def motStartOp (k : Fin 6) (s : State) : State :=
  let m := s.motors[k]
  if motMayStart s k ∧ motStill m = true then
    if m.cprValid then motMod k (fun m => { m with state := .run }) s
    else motMod k (fun m => { m with state := .align, icmd := (iClim s k / 2 : Nat) }) s
  else s

/-- Sinov's note that channel k still has to start. -/
def setStartDue (k : Fin 6) (b : Bool) (s : State) : State :=
  { s with sinov := { s.sinov with motor := vmod s.sinov.motor k fun o => o.map fun c => { c with startDue := b } } }

/-- MOT_CMD.STOP (R303, R306). -/
def motStopOp (k : Fin 6) (mode : BitVec 2) (s : State) : State := motMod k (beginStop (gatesBlocked s k) mode) s

/-- MOT_CMD (R307): START, STOP, MODE. -/
def motCmd (k : Fin 6) (v : Word) (s : State) : State :=
  let s := if v.getLsbD 0 then motStartOp k s else s
  if v.getLsbD 1 then motStopOp k (bits v 2 2) s else s

/-- EN 0 turns every gate off at once (R307). -/
def motOff (m : Motor) : Motor := gatesOff { m with en := false, state := .off, diagSet := none }

/-- SRC of a channel; the pin command of another form ends with it (R296; log 33). -/
def motSrc (v : BitVec 2) (m : Motor) : Motor :=
  if m.src = v then m else { m with src := v, pinNum := 0, pinDen := 1, cmdValid := false }

/-- MOT_CTRL (R307): EN at any time, the other fields only in OFF. -/
def motCtrl (k : Fin 6) (v : Word) (s : State) : State :=
  dumpFollow (motMod k (fun m =>
    let m := if m.state = .off then
        motSrc (bits v 4 2) { m with
          stopMode := v.getLsbD 8, dumpEn := v.getLsbD 9, page := v.getLsbD 10, pos := bits v 12 2, pp := bits v 16 5 }
      else m
    if v.getLsbD 0 then { m with en := true } else motOff m) s)

/-- MOT_CURCFG (R307): only in OFF, BAND 0 stored as 1. -/
def motCurcfg (k : Fin 6) (v : Word) (s : State) : State :=
  motMod k (fun m => if m.state = .off then
    { m with curcfg := (if bits v 8 8 = (0 : Byte) then v ||| 0x100 else v) &&& 0xFFFF_FF03 } else m) s

/-! ## Position (R289-R292) -/

/-- Alignment is complete (R290): the channel runs, or stops again where Sinov only aligned it. -/
def aligned (blocked : Bool) (m : Motor) : Motor :=
  let m := { m with cprValid := true }
  if m.alignOnly then beginStop blocked 0 { m with state := .run, alignOnly := false } else { m with state := .run }

/-- The resolver that POS selects: 2 is resolver 1 (R289). -/
def rdcOf (m : Motor) : Fin 2 := if m.pos = 1 then 0 else 1

/-- The rotor's position as MOT_OFFSET takes it (R290, R291): the encoder's count, or the resolver's angle. -/
def motPosition (s : State) (m : Motor) : Int := if m.pos = 0 then m.encPos else s.rdc.angle[rdcOf m].toNat

/-- The 200 ms of alignment end (R290): the position is electrical zero; an encoder then learns its CPR. -/
def alignEnd (k : Fin 6) (s : State) : State :=
  motMod k (fun m =>
    if m.state = .align then
      let m := { m with offset := motPosition s m }
      if m.pos = 0 then { m with state := .learn, learnAt := s.devtime }
      else aligned (gatesBlocked s k) { m with cpr := 0x1_0000 }
    else m) s

/-- POS_SENSOR (R292, R310): the channel coasts and must align again. -/
def posFault (k : Fin 6) (s : State) : State :=
  let s := motMod k (fun m => coast { m with events := m.events ||| 4, posErr := true, cprValid := false }) s
  raiseFault 0x93 { s with hub := { s.hub with posCh := k } }

/-- Two Z edges have passed (R290): the count between them is CPR, or POS_SENSOR is raised. -/
def learnEnd (k : Fin 6) (cpr : Nat) (s : State) : State :=
  let m := s.motors[k]
  if m.state = .learn then
    if 64 ≤ cpr ∧ cpr ≤ 65536 ∧ m.pp ≠ 0 ∧ cpr % m.pp.toNat = 0 then
      motMod k (fun m => aligned (gatesBlocked s k) { m with
        cpr := BitVec.ofNat 17 cpr, encPos := m.encPos % (cpr : Int), offset := m.offset % (cpr : Int) }) s
    else posFault k s
  else s

/-- The channel's encoder is in use. -/
def encoderOn (s : State) (k : Fin 6) : Bool := s.motors[k].en && decide (s.motors[k].pos = 0)

/-- A resolver's amplitude or tracking is in its range or not (R292, R293). -/
def rdcMark (n : Fin 2) (good : Bool) (s : State) : State :=
  { s with rdc := { s.rdc with
      valid := setBit s.rdc.valid n.val (good && s.rdc.en.getLsbD n.val), bad := setBit s.rdc.bad n.val (!good) } }

/-- A resolver's amplitude or tracking leaves its range (R292): an enabled channel that uses it raises POS_SENSOR, once while the
condition lasts. -/
def resolverFault (k : Fin 6) (s : State) : State :=
  let m := s.motors[k]
  if m.pos = 1 ∨ m.pos = 2 then
    let told := resolverBad s m && m.posErr
    let s := rdcMark (rdcOf m) false s
    if m.en && !told then posFault k s else s
  else s

/-! ## Speed (R294-R297) -/

/-- A measure of the CMD pin in the form that SRC names (R296), as a share of full scale. The 12-bit code 4095 is taken as 3.3 V
(log 33). -/
def pinTake (p : Option PinSample) (m : Motor) : Motor :=
  match p with
  | some (.analogue c) => if m.src = 1 then { m with pinNum := c.toNat, pinDen := 4095, cmdValid := true } else m
  | some (.duty h t) => if m.src = 2 then { m with pinNum := min h t, pinDen := t, cmdValid := true } else m
  | some (.freq f) =>
    if m.src = 3 then
      if f < 10 then { m with pinNum := 0, pinDen := 1, cmdValid := false }
      else { m with pinNum := min f 20000, pinDen := 20000, cmdValid := true }
    else m
  | none => m

/-- MOT_CMDIN (R307), rounded down. -/
def pinPermille (m : Motor) : Nat := 1000 * m.pinNum / m.pinDen

/-- The command (R296), the pin's rounded down to an rpm. -/
def motCommand (s : State) (k : Fin 6) : Nat :=
  let m := s.motors[k]
  if m.src = 0 then m.speedReq.toNat else s.hdie.env.mRpm[k].toNat * m.pinNum / m.pinDen

/-- ω_set (R296, R303): 0 in a controlled deceleration, the diagnostic speed in a diagnostic run. -/
def omegaSet (s : State) (k : Fin 6) : Nat :=
  let m := s.motors[k]
  if m.state = .decel then 0
  else min (m.diagSet.getD (motCommand s k)) s.hdie.env.mRpm[k].toNat

/-- I_cmd after one step of the regulator (R294) at speed ω, from the speed before it. -/
def regulate (m : Motor) (set w : Nat) (lim : Nat) (backoff : Bool) : Int :=
  let step : Int := m.istep.toNat
  let e : Int := (set : Int) - w
  let i := if e.natAbs ≤ m.sband.toNat then m.icmd
    else
      let d : Int := if 0 < e then 1 else -1
      let rate : Int := d * ((w : Int) - m.speed.toNat) * 10000
      let bound : Int := if 0 < e then m.accel.toNat else m.decel.toNat
      if bound < rate then m.icmd - d * step else m.icmd + d * step
  let i := max (-(lim : Int)) (min (lim : Int) i)
  if backoff then max 0 i else i

/-- Compare 0 arms at the first AT_SPEED after ARM (R301): at the position then plus the distance in MOT_CMP0 (log 33). A
diagnostic run arms no compare (R141). -/
def autoArm (m : Motor) : Motor :=
  if m.auto0 && m.atSpeed && m.diagSet.isNone then
    { m with cmp0 := m.count + m.cmp0, cmpEn := m.cmpEn ||| 1, auto0 := false }
  else m

/-- The encoder's count moves by d, modulo CPR once that is known (R291). -/
def encMove (d : Word) (m : Motor) : Int :=
  if m.cpr = 0 then m.encPos + d.toInt else (m.encPos + d.toInt) % (m.cpr.toNat : Int)

/-- What a resolver interface measures (R292, R293): angle, amplitude, range. The amplitude has 10 bits; what they show above
1023 per mille the spec leaves open: a free value (log 33). -/
def rdcTake (n : Fin 2) (d : Word) (r : ResSample) (s : State) : State :=
  let high := decide (1023 < r.amp)
  let amp : BitVec 10 := if high then (Config.freeWord s.freeCtr).setWidth 10 else BitVec.ofNat 10 r.amp
  { s with
    rdc := { s.rdc with angle := vmod s.rdc.angle n (· + d.setWidth 16), amp := s.rdc.amp.set n amp }
    freeCtr := if high then s.freeCtr + 1 else s.freeCtr }

/-- A resolver's sample is within R292. -/
def resGood (r : ResSample) : Bool := decide (200 ≤ r.amp) && decide (r.amp ≤ 1500) && decide (r.err ≤ 100)

/-- One 100 µs measurement of a channel (R291, R293, R296): position, pin command, resolver. -/
def regMeasure (k : Fin 6) (delta : Word) (pin : Option PinSample) (res : ResSample) (s : State) : State :=
  let s := motMod k (fun m => pinTake pin { m with count := m.count + delta, encPos := encMove delta m }) s
  let m := s.motors[k]
  if m.pos = 1 ∨ m.pos = 2 then
    let s := rdcTake (rdcOf m) delta res s
    if resGood res then rdcMark (rdcOf m) true s else resolverFault k s
  else s

/-- One step of the regulator (R294, R295) at the measured speed. AT_SPEED is judged while the regulator runs (log 33). -/
def regStep (k : Fin 6) (rpm : BitVec 16) (s : State) : State :=
  let set := omegaSet s k
  let lim := iClim s k
  let low := decide (rpm.toNat * 100 < set * 80)
  motMod k (fun m =>
    match m.state with
    | .run | .decel =>
      let i := regulate m set rpm.toNat lim (backoffOn s)
      let near := decide (((set : Int) - rpm.toNat).natAbs ≤ m.sband.toNat)
      let at_ := m.atSpeed || near
      autoArm { m with icmd := i, speed := rpm, atSpeed := at_, reached := m.reached || at_
                       slow := m.slow && low && decide (m.state = .run) }
    | _ => { m with speed := rpm, slow := false }) s

/-- The position passes c on its way (R301, R314). -/
def passed (old new c : Word) : Bool :=
  let d := (new - old).toInt
  let e := (c - old).toInt
  (decide (0 ≤ e) && decide (e ≤ d)) || (decide (d ≤ e) && decide (e ≤ 0))

/-- 1 ms outside the band clears AT_SPEED (R295). -/
def speedLost (k : Fin 6) (s : State) : State := motMod k (fun m => { m with atSpeed := false }) s

/-- A command pin stuck in form 2 or 3 (R296). -/
def pinStuck (k : Fin 6) (s : State) : State :=
  motMod k (fun m => if m.src = 2 ∨ m.src = 3 then { m with pinNum := 0, pinDen := 1, cmdValid := false } else m) s

/-- CONTROLLED_DECEL below 60 rpm enters BRAKE (R303). -/
def toBrake (k : Fin 6) (s : State) : State :=
  motMod k (fun m => if m.state = .decel then (if gatesBlocked s k then coast m else shortBrake m) else m) s

/-- BRAKE ends in OFF after 100 ms below 60 rpm (R303). -/
def brakeEnd (k : Fin 6) (s : State) : State :=
  motMod k (fun m => if m.state = .brake then gatesOff { m with state := .off } else m) s

/-- The back-off holds I_cmd at 0 or above on every channel (R304). -/
def backoffAll (s : State) : State := { s with motors := s.motors.map fun m => { m with icmd := max 0 m.icmd } }

/-- MEDIA_JAM (R302): within a page, on its media channel in RUN, after its first AT_SPEED and below 80 % of its set-point; it is
raised when the condition comes up. -/
def mediaJam (k : Fin 6) (s : State) : State :=
  let m := s.motors[k]
  if pageInFlight s ∧ chanIdx s.docket.mediaCh = k ∧ m.state = .run ∧ m.reached = true
      ∧ m.speed.toNat * 100 < omegaSet s k * 80 ∧ m.slow = false then
    raiseFault 0x92 (motMod k (fun m => { m with events := m.events ||| 8, slow := true }) s)
  else s

/-! ## Gates and phase currents (R282-R287) -/

/-- A leg refreshes its bootstrap (R283): its high side goes off, and after the dead time its low side on. -/
def legRefresh (k : Fin 6) (x : Fin 3) (s : State) : State :=
  if motRunning s.motors[k] ∧ gatesBlocked s k = false then
    motMod k (fun m => { m with legs := vmod m.legs x fun l =>
      { l with bsLow := true, hi := false, dead := if l.hi then deadTime m else l.dead } }) s
  else s

/-- The 1 µs of a refresh ends: the leg waits its dead time and follows the law again. -/
def legRefreshEnd (k : Fin 6) (x : Fin 3) (s : State) : State :=
  motMod k (fun m => { m with legs := vmod m.legs x fun l =>
    if l.bsLow then { l with bsLow := false, lo := false, dead := deadTime m } else l }) s

/-- sin of an angle in 2^-16 of a revolution, in units of 2^-30, to within 10^-6 (odd Taylor terms to x^11). -/
def sinQuarter (a : Nat) : Int :=
  let x : Int := (a : Int) * 6746518852 / 65536
  let q : Int := 1073741824
  let x2 := x * x / q
  let t := fun (c : Int) (d : Int) => q - x2 * c / q / d
  let e := t q 110
  let e := t e 72
  let e := t e 42
  let e := t e 20
  let e := t e 6
  x * e / q

/-- See `sinQuarter`. -/
def sinRev (a : Nat) : Int :=
  let a := a % 65536
  if a ≤ 16384 then sinQuarter a
  else if a ≤ 32768 then sinQuarter (32768 - a)
  else if a ≤ 49152 then -sinQuarter (a - 32768)
  else -sinQuarter (65536 - a)

/-- θe in 2^-16 of an electrical revolution (R290, R291). In LEARN the vector turns by one revolution in 100 ms, from the zero at
which alignment left it. -/
def thetaE (s : State) (k : Fin 6) : Nat :=
  let m := s.motors[k]
  match m.state with
  | .align => 0
  | .learn => (s.devtime - m.learnAt).toNat * 65536 / 10_000_000 % 65536
  | _ =>
    let turn : Int := if m.pos = 0 then m.cpr.toNat else 65536
    if turn = 0 then 0
    else ((motPosition s m - m.offset) % turn * m.pp.toNat * 65536 / turn % 65536).toNat

/-- The reference of leg x (R287), mA. -/
def legRef (s : State) (k : Fin 6) (x : Nat) : Int :=
  s.motors[k].icmd * sinRev (thetaE s k + (if x = 0 then 0 else if x = 1 then 43691 else 21845)) / 1073741824

/-- The current of each leg in this cycle (R286): own shunt, or minus the sum of the other two, or none. -/
def legCurrent (m : Motor) (sh : List Int) (x : Fin 3) : Option Int :=
  let i := fun (y : Nat) => sh.getD y 0
  let a : Fin 3 := x + 1
  let b : Fin 3 := x + 2
  if m.legs[x].lo then some (i x.val)
  else if m.legs[a].lo && m.legs[b].lo then some (-(i a.val + i b.val))
  else none

/-- The side a leg wants (R287); within 1 mA of a threshold the comparison is a free value (log 33). -/
def legWant (m : Motor) (l : Leg) (cur : Option Int) (r : Int) (free : Bool) : Bool :=
  match cur with
  | none => l.wantHi
  | some c =>
    let band : Int := ((bits m.curcfg 8 8 : Byte)).toNat * 10
    let low := r - band - c
    let high := c - (r + band)
    if 1 ≤ low then true
    else if 1 ≤ high then false
    else if 0 ≤ low then free || l.wantHi
    else if 0 ≤ high then free && l.wantHi
    else l.wantHi

/-- One CK_PWM cycle of a leg that follows the law: MINT between switches, DEAD between its sides (R282, R287). -/
def legCycle (m : Motor) (l : Leg) (want : Bool) : Leg :=
  if l.bsLow then
    if 0 < l.dead then { l with since := l.since + 1, dead := l.dead - 1, hi := false, lo := false }
    else { l with since := l.since + 1, hi := false, lo := true }
  else
    let mint := ((bits m.curcfg 24 8 : Byte)).toNat
    let l := { l with since := l.since + 1 }
    let l := if want ≠ l.wantHi ∧ mint ≤ l.since then
        { l with wantHi := want, since := 0, hi := false, lo := false, dead := deadTime m }
      else l
    if 0 < l.dead then { l with dead := l.dead - 1, hi := false, lo := false }
    else { l with hi := l.wantHi, lo := !l.wantHi }

/-- One CK_PWM cycle of a leg in BRAKE (R303): the low side is on but while the leg's current exceeds I_CLIM. With no current
known it keeps its state (R286); MINT and the dead time hold here too (R282, R287). -/
def brakeLeg (m : Motor) (lim : Int) (l : Leg) (cur : Option Int) : Leg :=
  let l := { l with since := l.since + 1 }
  let cut := match cur with
    | some c => decide (lim < (c.natAbs : Int))
    | none => l.cutLow
  let l := if cut ≠ l.cutLow ∧ ((bits m.curcfg 24 8 : Byte)).toNat ≤ l.since then { l with cutLow := cut, since := 0 } else l
  if 0 < l.dead then { l with dead := l.dead - 1, hi := false, lo := false }
  else { l with hi := false, lo := !l.cutLow }

/-- One CK_PWM cycle of a channel whose gates are off. -/
def restCycle (m : Motor) : Motor :=
  let m := gatesOff m
  { m with legs := m.legs.map fun l => { l with dead := l.dead - 1 } }

/-- One CK_PWM cycle of a channel (R284, R286, R287, R303). A controlled deceleration coasts in the back-off (R304). -/
def pwmCycle (k : Fin 6) (sh : List Int) (s : State) : State :=
  let m := s.motors[k]
  if gatesBlocked s k ∨ (m.state = .decel ∧ backoffOn s = true) then motMod k restCycle s
  else if motRunning m then
    let cur := fun (x : Fin 3) => legCurrent m sh x
    let lim := iClim s k
    let refs := fun (x : Fin 3) => legRef s k x.val
    let s := motMod k (fun m =>
      { m with
        icmd := max (-(lim : Int)) (min (lim : Int) m.icmd)
        cur := Vector.ofFn fun x => (cur x).getD m.cur[x]
        legs := Vector.ofFn fun x =>
          legCycle m m.legs[x] (legWant m m.legs[x] (cur x) (refs x) (Config.freeBit (s.freeCtr + x.val))) }) s
    { s with freeCtr := s.freeCtr + 3 }
  else if m.state = .brake then
    let lim : Int := iClim s k
    motMod k (fun m =>
      { m with
        cur := Vector.ofFn fun x => (legCurrent m sh x).getD m.cur[x]
        legs := Vector.ofFn fun x => brakeLeg m lim m.legs[x] (legCurrent m sh x) }) s
  else motMod k restCycle s

/-! ## DUMP (R305) -/

/-- One H-die VIN sample. A diagnostic duty of DUMP runs by itself (R305). -/
def vinSample (mv : Nat) (s : State) : State :=
  if s.sinov.diag[15].isSome then s
  else
    let v := s.vregen.toNat * 100
    let d := if dumpBlocked s || !dumpEnabled s then false
      else if v ≤ mv + 1500 then true
      else if mv + 2500 ≤ v then false
      else s.hdie.dump
    { s with hdie := { s.hdie with dump := d } }

/-! ## Meanings -/

/-- ALIGN_DONE (R290). -/
def execAlignDone (k : Fin 6) (s : State) : Host.Outcome State Fault Refusal := .next (alignEnd k s)

/-- LEARN_DONE (R290). -/
def execLearnDone (k : Fin 6) (cpr : Nat) (s : State) : Host.Outcome State Fault Refusal := .next (learnEnd k cpr s)

/-- Z_EDGE_MISPLACED (R292): only once CPR has been learned. -/
def execZEdgeMisplaced (k : Fin 6) (s : State) : Host.Outcome State Fault Refusal :=
  .next (if encoderOn s k ∧ s.motors[k].cprValid = true then posFault k s else s)

/-- ENCODER_AB_ERROR (R292). -/
def execEncoderAbError (k : Fin 6) (s : State) : Host.Outcome State Fault Refusal :=
  .next (if encoderOn s k then posFault k s else s)

/-- RESOLVER_OUT_OF_RANGE (R292). -/
def execResolverOutOfRange (k : Fin 6) (s : State) : Host.Outcome State Fault Refusal := .next (resolverFault k s)

/-- |I_cmd| stands at I_CLIM with the speed below 60 rpm (R292). -/
def stalled (s : State) (k : Fin 6) : Bool :=
  motRunning s.motors[k] && decide (s.motors[k].icmd.natAbs = iClim s k) && decide (s.motors[k].speed.toNat < 60)

/-- STALL_DETECTED (R292). -/
def execStallDetected (k : Fin 6) (s : State) : Host.Outcome State Fault Refusal :=
  .next (if stalled s k then posFault k s else s)

/-- BOOTSTRAP_LOW (R283). -/
def execBootstrapLow (k : Fin 6) (leg : Fin 3) (s : State) : Host.Outcome State Fault Refusal :=
  .next (legRefresh k leg s)

/-- HIGH_SIDE_MAX_ON (R283): a high side that is on. -/
def execHighSideMaxOn (k : Fin 6) (leg : Fin 3) (s : State) : Host.Outcome State Fault Refusal :=
  .next (if s.motors[k].legs[leg].hi then legRefresh k leg s else s)

/-- BOOTSTRAP_REFRESH_END (R283). -/
def execBootstrapRefreshEnd (k : Fin 6) (leg : Fin 3) (s : State) : Host.Outcome State Fault Refusal :=
  .next (legRefreshEnd k leg s)

/-- BRAKE_ENTRY (R303). -/
def execBrakeEntry (k : Fin 6) (s : State) : Host.Outcome State Fault Refusal := .next (toBrake k s)

/-- AT_SPEED_LOSS (R295). -/
def execAtSpeedLoss (k : Fin 6) (s : State) : Host.Outcome State Fault Refusal := .next (speedLost k s)

/-- CMD_PIN_STUCK (R296). -/
def execCmdPinStuck (k : Fin 6) (s : State) : Host.Outcome State Fault Refusal := .next (pinStuck k s)

/-- MEDIA_JAM_DETECT (R302). -/
def execMediaJamDetect (k : Fin 6) (s : State) : Host.Outcome State Fault Refusal := .next (mediaJam k s)

/-- HDIE_VIN_SAMPLE (R305). -/
def execHdieVinSample (mv : Nat) (s : State) : Host.Outcome State Fault Refusal := .next (vinSample mv s)

/-- CK_PWM_CYCLE (R287). -/
def execCkPwmCycle (k : Fin 6) (shunts : List Int) (s : State) : Host.Outcome State Fault Refusal :=
  .next (pwmCycle k shunts s)

end Sys2Proof.Machine
end

