-- ==== Sys2Proof/Machine/Link.lean ====
section
/-! DEFINITION. The engine link and the H-die's guards (05, R145-R152, R165), the grace timers (R154) and the critical
registers' parity (R223). -/

namespace Sys2Proof.Machine

/-! ## Engine-link frames (R21, R22, R151, R152) -/

/-- A frame is acted on (R21): its CRC is good and its sequence number the one expected. -/
def frameGood (crcOk : Bool) (seq expected : BitVec 16) : Bool := crcOk && decide (seq = expected)

/-- The sequence number expected next: that after the frame's, or after the expected one where the frame cannot be read
(log 35). -/
def nextSeq (crcOk : Bool) (seq expected : BitVec 16) : BitVec 16 := if crcOk then seq + 1 else expected + 1

/-- One more of the 1,000 consecutive frames of R151 and R152. -/
def countRun (n : Nat) : Nat := min 1000 (n + 1)

/-- A control frame reaches the H-die. -/
def controlOp (crcOk : Bool) (seq : BitVec 16) (s : State) : State :=
  let h := { s.hdie with rxSeq := nextSeq crcOk seq s.hdie.rxSeq }
  if frameGood crcOk seq s.hdie.rxSeq then { s with hdie := { h with validRun := countRun h.validRun } }
  else raiseFault 0xC1 { s with hdie := { h with validRun := 0 } }

/-- ENGLINK_LOSS (R152): the condition comes up. -/
def linkLoss (s : State) : State :=
  setCond 0xC0 true { s with link := { s.link with validRun := 0, lost := true } }

/-- The level conditions of faults 0x80-0x8F that a status frame reports (R160); they change in one cycle (R156). -/
def statusConds (present : BitVec 16) (s : State) : State :=
  setConds (((List.range 16).filter fun j => ((faultRow (0x80 + j) 0).map (·.level)).getD false).map fun j =>
    (BitVec.ofNat 8 (0x80 + j), present.getLsbD j)) s

/-- The ADC values that a status frame carries (R510), with FU_TSF and the HV feedback that mirror them (R333). -/
def statusAdc (vals : List (Fin 36 × Word × Bool)) (s : State) : State :=
  vals.foldl (fun s v =>
    let s : State := { s with adc := { s.adc with val := s.adc.val.set v.1 v.2.1
                                                  valid := setBit s.adc.valid v.1.val v.2.2 } }
    if v.1.val = 26 then
      let mv : BitVec 12 := v.2.1.setWidth 12
      { s with fuser := { s.fuser with
          tsf := mv, tsfOk := v.2.2 && decide (s.hdie.env.tsf.toNat ≤ mv.toNat) && decide (mv.toNat ≤ 3200) } }
    else if 27 ≤ v.1.val ∧ v.1.val ≤ 29 then
      { s with hv := { s.hv with fb := vmod s.hv.fb (Fin.ofNat 3 (v.1.val - 27)) fun _ => v.2.1.setWidth 12 } }
    else s) s

/-- A status frame reaches the D-die (R21, R22, R149, R152): the first report of the safe state without ENG_HOLD is the
loss of the link. -/
def statusOp (crcOk : Bool) (seq : BitVec 16) (body : StatusBody) (s : State) : State :=
  let l := { s.link with rxSeq := nextSeq crcOk seq s.link.rxSeq }
  if frameGood crcOk seq s.link.rxSeq then
    let lost := s.hdie.safe && !s.envg.safe && !s.rst.engHold && !s.hdie.underHold
    let s := { s with link := { l with validRun := countRun l.validRun, estimate := body.estimate
                                       estSum := l.estSum + body.estimate, estN := l.estN + 1 }
                      envg := { s.envg with loaded := s.hdie.loaded, locked := s.hdie.lock, safe := s.hdie.safe
                                            limit := body.limit.setWidth 32 }
                      adc := { s.adc with sweep := s.adc.sweep + (if body.adc.isEmpty then 0 else 1) } }
    let s := statusAdc body.adc (statusConds body.present s)
    if lost then linkLoss s else s
  else raiseFault 0xC1 { s with link := { l with validRun := 0 } }

/-- ENGLINK_LOSS's condition ends after 1,000 consecutive valid status frames (R152). -/
def linkRecovered (s : State) : State :=
  setCond 0xC0 false { s with link := { s.link with validRun := 1000, lost := false } }

/-- The H-die has received 1,000 consecutive valid control frames (R151). -/
def linkRestored (s : State) : State := { s with hdie := { s.hdie with validRun := 1000 } }

/-- A SAFE_EXIT frame (R151): obeyed after 1,000 valid control frames, with no ENG_HOLD (R150) and the forwarded clock
up (R241). Every output is still off. -/
def safeExitOp (s : State) : State :=
  if s.hdie.safe ∧ 1000 ≤ s.hdie.validRun ∧ s.rst.engHold = false ∧ s.clk.fb.getLsbD 1 = false then
    { s with hdie := { s.hdie with safe := false, underHold := false } }
  else s

/-- The H-die resets on its own (R146, R147): zero envelope, unlocked, in the safe state; HDIE_RESET is raised. -/
def hdieReset (s : State) : State :=
  let s := enterSafe s
  raiseFault 0x94 { s with
    hdie := { HDie.reset with
      powered := s.hdie.powered, hot := s.hdie.hot, tempMdeg := s.hdie.tempMdeg, underHold := s.rst.engHold }
    envg := { s.envg with loaded := false, locked := false } }

/-! ## Trips (R147, R309, R327, R329) -/

/-- ENV_TRIP shows a trip until its fault is cleared (R149). -/
def markTrip (i : Nat) (s : State) : State := { s with envg := { s.envg with trip := setBit s.envg.trip i true } }

/-- Beams that go dark. -/
def darkBeams (mask : BitVec 4) (s : State) : State :=
  let ld : Vector LaserBeam 4 := Vector.ofFn fun b =>
    if mask.getLsbD b.val then { s.beam.ld[b] with lit := false, diagLevel := none } else s.beam.ld[b]
  { s with beam := { s.beam with ld := ld } }

/-- Laser b's current is above 1.05 times its envelope. -/
def ldTrip (b : Fin 4) (s : State) : State :=
  let m : BitVec 4 := BitVec.twoPow 4 b.val
  let s := markTrip b.val (darkBeams m { s with
    hdie := { s.hdie with ldOff := s.hdie.ldOff ||| m }
    outHold := { s.outHold with ld := s.outHold.ld ||| m } })
  setCond (BitVec.ofNat 8 (0x80 + b.val)) true s

/-- A beam's lit time reaches ENV_LD_ON (R147, R271). -/
def onTimeTrip (s : State) : State :=
  raiseFault 0x84 (markTrip 4 (darkBeams 0xF { s with
    hdie := { s.hdie with ldOnOff := true }
    outHold := { s.outHold with ld := 0xF } }))

/-- Heater h is held off for the rest of its window (R147, R327): the conducting time counted is the envelope's. -/
def dutyHold (h : Fin 2) (s : State) : State :=
  let x := s.fuser.htr[h]
  let rest := x.history.drop 1
  let head := min (x.history.headD 0) (s.hdie.env.htrDuty[h].toNat * 100 - rest.sum)
  { s with fuser := { s.fuser with
      htr := s.fuser.htr.set h { x with on := false, held := true, history := head :: rest } } }

/-- Both heaters are switched off and latched off. -/
def heatersOff (s : State) : State :=
  { s with
    hdie := { s.hdie with htrOff := 3 }
    outHold := { s.outHold with htr := 3 }
    fuser := { s.fuser with htr := s.fuser.htr.map fun x => { x with on := false, diagDuty := none } } }

/-- Heater h draws current while commanded off. -/
def stuckTrip (h : Fin 2) (s : State) : State :=
  setCond (BitVec.ofNat 8 (0x85 + h.val)) true (markTrip (5 + h.val) (heatersOff s))

/-- The TSF pin reads `mv` for 1 ms (R329): below ENV_TSF or above 3,200 mV it trips. -/
def tsfOp (mv : BitVec 12) (s : State) : State :=
  let bad := decide (mv.toNat < s.hdie.env.tsf.toNat) || decide (3200 < mv.toNat)
  let s := { s with fuser := { s.fuser with tsf := mv, tsfOk := !bad } }
  if bad then setCond 0x87 true (markTrip 7 (heatersOff s)) else s

/-- Some leg of the channel conducts through its own shunt, from which alone the phase trip is judged (R286). -/
def shuntSeen (m : Motor) : Bool := m.legs.toList.any (·.lo)

/-- A phase current trips channel k (R309): TRIPPED, every gate off; it aligns at its next start (R290). -/
def phaseTrip (k : Fin 6) (s : State) : State :=
  if shuntSeen s.motors[k] then
    let s := motMod k (fun m => gatesOff { m with
      state := .tripped, diagSet := none, cprValid := false, events := m.events ||| 1 }) s
    raiseFault (BitVec.ofNat 8 (0x88 + k.val))
      (markTrip (8 + k.val) { s with hdie := { s.hdie with mOff := setBit s.hdie.mOff k.val true } })
  else s

/-- HV channel c's feedback is above 1.10 times its envelope. -/
def hvTrip (c : Fin 3) (s : State) : State :=
  setCond 0x8E true (markTrip (14 + c.val) { s with
    hdie := { s.hdie with hvOff := setBit s.hdie.hvOff c.val true }
    hv := { s.hv with trip := setBit s.hv.trip c.val true, diagLimit := s.hv.diagLimit.set c none }
    outHold := { s.outHold with hv := setBit s.outHold.hv c.val true } })

/-- Channel k is too fast (R309): BRAKE under SHORT_BRAKE, whatever its STOP_MODE and its state; where its gates are held off
(R284, R312) or EN is 0 (R307) it coasts. The trip latches the channel off (R147). -/
def speedTrip (k : Fin 6) (s : State) : State :=
  let off := gatesBlocked s k || !s.motors[k].en
  let s := motMod k (fun m =>
    let m := { m with diagSet := none, events := m.events ||| 2 }
    if off then coast m else shortBrake m) s
  setCond 0x8F true (markTrip (17 + k.val) { s with
    hdie := { s.hdie with mFast := setBit s.hdie.mFast k.val true }
    hub := { s.hub with speedCh := k } })

/-- The HV envelope inhibits or frees a flyback drive (R147). -/
def hvInhibit (c : Fin 3) (on : Bool) (s : State) : State :=
  { s with hv := { s.hv with inhib := setBit s.hv.inhib c.val on } }

/-! ## Grace timers, safe stop, parity -/

/-- A grace timer expires (R154): its action begins, as the timer was started with it (R158). -/
def graceEnd (f : Byte) (s : State) : State :=
  if s.hub.timing.getLsbD f.toNat then
    let old : BitVec 256 := if s.hub.expiredAt = s.devtime then s.hub.expired else 0
    escalate f (bits (s.hub.timerCfg[f.toNat]?.getD 0) 2 2)
      { s with hub := { s.hub with
          timing := setBit s.hub.timing f.toNat false
          expired := setBit old f.toNat true
          expiredAt := s.devtime } }
  else s

/-- The safe stop is complete (R165): a spoiled page's docket closes and is committed (R69). -/
def safeStopEnd (s : State) : State :=
  if s.docket.st = .spoiled then commitDocket (closeDocket s) else s

/-- The safe stop is not complete 2 s after the spoil (R72): TIMEOUT_CLOSED. -/
def safeStopLate (s : State) : State :=
  if s.docket.st = .spoiled then
    commitDocket (closeDocket { s with docket := { s.docket with flags := s.docket.flags ||| 8 } })
  else s

/-- The critical registers (R223): every field of type OPT, OPTSHD, FH_CFG, PS_REQ and PS_SHDN, and the fabric allotment once sealed. -/
def criticalReg (s : State) (bank ofs : Nat) : Bool :=
  decide (ofs % 4 = 0) &&
  match bank with
  | 0x01 => decide (ofs = 0x18) || decide (ofs = 0x1C) || within ofs 0x30 12 || decide (ofs = 0x6C) || decide (ofs = 0x70)
      || within ofs 0x100 31
  | 0x02 => decide (ofs = 0x40)
  | 0x03 => within ofs 0 128
  | 0x06 => within ofs 0x400 256
  | 0x07 => within ofs 0 23
  | 0x08 => decide (ofs = 0x200C) || (decide (ofs < 0x2000) && decide (ofs % 0x400 = 0x208))
  | 0x0D => decide (ofs = 0x04) || ((decide (ofs = 0x00) || decide (ofs = 0x08)) && decide (s.sys.mode ≠ 1))
  | _ => false

/-- The loader has started and not ended (R218). -/
def inLoader (s : State) : Bool :=
  match s.loader.st with
  | .entry | .repair _ | .envXfer => decide (s.rst.step = .loader)
  | _ => false

/-- A VERIFY failure (R218, R221): a SYSTEM reset with code 0x0A, or the stop in FAIL. -/
def loaderFail (s : State) : State :=
  let s := { s with rst := { s.rst with loadFails := satInc s.rst.loadFails }, loader := { s.loader with st := .fail } }
  if s.loader.byLimit then { s with rst := { s.rst with step := .loaderFail } }
  else assertReset 1 .fault none 0x0A s

/-- The parity of every critical register is checked (R223): a mismatch in one is latched and causes a SYSTEM reset, 0x09; inside the
loader it is a VERIFY failure. The operand is what the scan of this millisecond, or a read since the last one, has found (log 24). -/
def parityOp (bad : Option (BitVec 8 × BitVec 16)) (s : State) : State :=
  match bad with
  | some (bank, ofs) =>
    if criticalReg s bank.toNat ofs.toNat = false then s
    else if inLoader s then loaderFail s
    else if assertable 1 s then
      assertReset 1 .fault none 0x09 { s with rst := { s.rst with parLoc := 0x8000_0000 ||| fieldAt ofs 8 ||| fieldAt bank 0 } }
    else s
  | none => s

/-! ## Meanings -/

/-- CONTROL_FRAME (R21). -/
def execControlFrame (crcOk : Bool) (seq : BitVec 16) (s : State) : Host.Outcome State Fault Refusal :=
  .next (controlOp crcOk seq s)

/-- STATUS_FRAME (R21). -/
def execStatusFrame (crcOk : Bool) (seq : BitVec 16) (body : StatusBody) (s : State) :
    Host.Outcome State Fault Refusal := .next (statusOp crcOk seq body s)

/-- HDIE_LINK_RESTORED (R151). -/
def execHdieLinkRestored (s : State) : Host.Outcome State Fault Refusal := .next (linkRestored s)

/-- HDIE_LINK_TIMEOUT (R150). -/
def execHdieLinkTimeout (s : State) : Host.Outcome State Fault Refusal := .next (enterSafe s)

/-- ENGLINK_LOSS (R152). -/
def execEnglinkLoss (s : State) : Host.Outcome State Fault Refusal := .next (linkLoss s)

/-- ENGLINK_RECOVERED (R152). -/
def execEnglinkRecovered (s : State) : Host.Outcome State Fault Refusal := .next (linkRecovered s)

/-- HDIE_SELF_RESET (R146). -/
def execHdieSelfReset (s : State) : Host.Outcome State Fault Refusal := .next (hdieReset s)

/-- FWD_CLOCK_LOW (R241). -/
def execFwdClockLow (s : State) : Host.Outcome State Fault Refusal := .next (enterSafe s)

/-- LD_CURRENT_TRIP (R147). -/
def execLdCurrentTrip (b : Fin 4) (s : State) : Host.Outcome State Fault Refusal := .next (ldTrip b s)

/-- LD_ONTIME_TRIP (R271): whichever beam's time is up, all lasers go off. -/
def execLdOntimeTrip (_b : Fin 4) (s : State) : Host.Outcome State Fault Refusal := .next (onTimeTrip s)

/-- HTR_DUTY_HOLD (R327). -/
def execHtrDutyHold (h : Fin 2) (s : State) : Host.Outcome State Fault Refusal := .next (dutyHold h s)

/-- HTR_STUCK_TRIP (R147). -/
def execHtrStuckTrip (h : Fin 2) (s : State) : Host.Outcome State Fault Refusal := .next (stuckTrip h s)

/-- TSF_TRIP (R329). -/
def execTsfTrip (mv : BitVec 12) (s : State) : Host.Outcome State Fault Refusal := .next (tsfOp mv s)

/-- PHASE_CURRENT_TRIP (R147). -/
def execPhaseCurrentTrip (k : Fin 6) (s : State) : Host.Outcome State Fault Refusal := .next (phaseTrip k s)

/-- HV_OVERVOLT_TRIP (R147). -/
def execHvOvervoltTrip (c : Fin 3) (s : State) : Host.Outcome State Fault Refusal := .next (hvTrip c s)

/-- OVERSPEED_TRIP (R309). -/
def execOverspeedTrip (k : Fin 6) (s : State) : Host.Outcome State Fault Refusal := .next (speedTrip k s)

/-- HV_ENVELOPE_INHIBIT (R147). -/
def execHvEnvelopeInhibit (c : Fin 3) (on : Bool) (s : State) : Host.Outcome State Fault Refusal :=
  .next (hvInhibit c on s)

/-- GRACE_EXPIRE (R154). -/
def execGraceExpire (f : BitVec 8) (s : State) : Host.Outcome State Fault Refusal := .next (graceEnd f s)

/-- SAFE_STOP_COMPLETE (R165). -/
def execSafeStopComplete (s : State) : Host.Outcome State Fault Refusal := .next (safeStopEnd s)

/-- SAFE_STOP_TIMEOUT (R72). -/
def execSafeStopTimeout (s : State) : Host.Outcome State Fault Refusal := .next (safeStopLate s)

/-- PARITY_SCAN (R223). -/
def execParityScan (bad : Option (BitVec 8 × BitVec 16)) (s : State) : Host.Outcome State Fault Refusal :=
  .next (parityOp bad s)

end Sys2Proof.Machine
end

