-- ==== Sys2Proof/Machine/Steelyard.lean ====
section
/-! DEFINITION. The Steelyard (R338-R359): sensors, the node network, throttle ceilings, disagreement, the forecast. Node
temperatures are integers in 2^-16 °C. Where the spec gives no rounding of a step or of a sensor reading, the choice
between the two neighbours is a free value (log 9). -/

namespace Sys2Proof.Machine

/-! ## Fixed-point helpers -/

/-- ln of num/den in units of 2^-48, by range reduction and the odd series of the inverse hyperbolic tangent. -/
def lnFix (num den : Nat) : Int :=
  let q : Nat := 2 ^ 48
  let k : Int := (Nat.log2 num : Int) - Nat.log2 den
  let m : Int := if 0 ≤ k then (num * q : Int) / (den * 2 ^ k.toNat) else (num * q * 2 ^ (-k).toNat : Int) / den
  let y : Int := (m - q) * q / (m + q)
  let y2 : Int := y * y / q
  let s : Int := ((List.range 24).reverse.map fun i => (2 * i + 1 : Nat)).foldl (fun (acc : Int) (d : Nat) =>
    (q : Int) / (d : Int) + acc * y2 / q) 0
  2 * y * s / q + k * 195103586505167

/-- A reading in 0.01 °C as a node temperature. -/
def toNode (r : Int) : Int := (r * 131072 + 100) / 200

/-- A node temperature in 0.01 °C, to the nearest (SY_TEMPn). -/
def toCenti (t : Int) : Int := (t * 200 + 65536) / 131072

/-- Saturation at −327.68 °C and +327.67 °C (R339). -/
def satTemp (t : Int) : Int := max (-21474836) (min 21474181 t)

/-- The quotient of integers, rounded down or up as `up` says unless exact. -/
def divOpen (n d : Int) (up : Bool) : Int := if n % d = 0 then n / d else if up then n / d + 1 else n / d

/-! ## The table's fields (R356) -/

/-- A node in use. -/
def nodeUsed (n : Node) : Bool := n.cap != 0
/-- A FIX node. -/
def nodeFix (n : Node) : Bool := n.ncfg.getLsbD 0
/-- SY_NCFGn.TS. -/
def nodeTs (n : Node) : Fin 8 := Fin.ofNat 8 (n.ncfg >>> 1).toNat
/-- A node that has a limit and is in use. -/
def nodeLimited (n : Node) : Bool := nodeUsed n && decide (n.lim ≠ 0x7FFF)
/-- T_n > LIM_n (R347, R359). -/
def nodeOver (n : Node) : Bool :=
  nodeLimited n && (decide (n.lim.toInt * 65536 < n.temp * 100) || decide (21474181 ≤ n.temp))

/-- Coupling j as nodes and conductance; none where unused (R359). -/
def couple (y : Steelyard) (j : Fin 32) : Option (Fin 16 × Fin 16 × Nat) :=
  let w := y.couple[j]
  let a : Fin 16 := Fin.ofNat 16 w.toNat
  let b : Fin 16 := Fin.ofNat 16 (w >>> 4).toNat
  let g := (w >>> 16).toNat
  if g = 0 || !nodeUsed y.nodes[a] || !nodeUsed y.nodes[b] then none else some (a, b, g)

/-- The couplings in use. -/
def couples (y : Steelyard) : List (Fin 16 × Fin 16 × Nat) := (List.finRange 32).filterMap (couple y)

/-- Σ G over a node's couplings. -/
def sumG (y : Steelyard) (n : Fin 16) : Nat :=
  ((couples y).map fun c => if c.1 = n ∨ c.2.1 = n then c.2.2 else 0).sum

/-- The lowest node that fails the stability check of R342. -/
def unstableNode (y : Steelyard) : Option (Fin 16) :=
  (List.finRange 16).find? fun n =>
    nodeUsed y.nodes[n] && !nodeFix y.nodes[n] && decide (500 * y.nodes[n].cap.toNat < sumG y n)

/-! ## Sensors (R344-R346) -/

/-- TYPE of sensor t. -/
def tsType (t : TsIn) : Nat := (t.cfg &&& 3).toNat

/-- A reading of TYPE 1 in 0.01 °C below the true value by less than one unit, where the equation gives one (R344). -/
def ntcReading (t : TsIn) (uv : Nat) : Option Int :=
  let r25 := (t.par &&& 0xFFFF).toNat * 10
  let beta := (t.par >>> 16).toNat
  if uv < 50000 ∨ 3200000 < uv ∨ r25 = 0 ∨ beta = 0 then none
  else
    let l := lnFix (10000 * uv) ((3300000 - uv) * r25)
    let q : Int := 2 ^ 48
    let inv := q * 100 * beta + 29815 * l
    if inv ≤ 0 then none else some (29815 * (q * 100 * (beta : Int)) / inv - 27315)

/-- A reading of TYPE 2 (R344): the two forward voltages in µV; kT/q ln 10 at ideality 1.008 is 200.00850 µV/K (log 41). -/
def diodeReading (a b : Nat) : Option Int :=
  if a < 200000 ∨ 900000 < a ∨ b < 200000 ∨ 900000 < b then none
  else some (((b : Int) - a) * 10000000 / 20000850 - 27315)

/-- What sensor t reads. -/
def tsReading (t : TsIn) (v : Nat × Nat) : Option Int :=
  match tsType t with
  | 1 => ntcReading t v.1
  | 2 => diodeReading v.1 v.2
  | _ => none

/-- TS0-TS7 are read (R344, R345): values, validity, TS_OPEN; the loops read the same values (ADC channels 18-25). -/
def tsRead (readings : List (Nat × Nat)) (s : State) : State :=
  let new : Vector TsIn 8 := Vector.ofFn fun i =>
    let t := s.sy.ts[i]
    match tsReading t (readings.getD i.val (0, 0)) with
    | some r => { t with temp := r + (if Config.freeBit (s.freeCtr + i.val) then 1 else 0), valid := true }
    | none => { t with valid := false }
  let s := { s with
    sy := { s.sy with ts := new }
    adc := { s.adc with
      val := Vector.ofFn fun c => if h : 18 ≤ c.val ∧ c.val < 26 then
        (let t := new[c.val - 18]; if t.valid then BitVec.ofInt 32 t.temp else s.adc.val[c]) else s.adc.val[c]
      valid := (List.range 8).foldl (fun v i => setBit v (18 + i) (new[Fin.ofNat 8 i].valid)) s.adc.valid }
    freeCtr := s.freeCtr + 8 }
  setCond 0xA2 (new.toList.any fun t => decide (tsType t ≠ 0) && !t.valid) s

/-- A checking sensor's node (R346): CHECK set, and it feeds no FIX node. -/
def checks (y : Steelyard) (t : Fin 8) : Option (Fin 16) :=
  let c := y.ts[t].cfg
  if c.getLsbD 2 && !(y.nodes.toList.any fun n => nodeUsed n && nodeFix n && decide (nodeTs n = t)) then
    some (Fin.ofNat 16 (c >>> 4).toNat)
  else none

/-- The run counts of R346 after an evaluation. -/
def checkCounts (y : Steelyard) : Vector TsIn 8 :=
  Vector.ofFn fun i =>
    let t := y.ts[i]
    match checks y i with
    | some n =>
      if t.valid && nodeUsed y.nodes[n] then
        let e := (t.temp * 65536 - y.nodes[n].temp * 100).natAbs
        let tol := ((t.cfg >>> 8) &&& 0xFF).toNat * 10 * 65536
        if tol < e then { t with outRun := t.outRun + 1, inRun := 0 } else { t with inRun := t.inRun + 1, outRun := 0 }
      else t
    | none => t

/-- SY_DISAGREE follows the DISAGREE bits (R346). -/
def disagreeCond (s : State) : State := setCond 0xA1 (s.sy.run && s.sy.ts.toList.any (·.disagree)) s

/-- 100 consecutive evaluations out of tolerance (R346). -/
def disagreeSet (t : Fin 8) (s : State) : State :=
  if s.sy.run ∧ 100 ≤ s.sy.ts[t].outRun then
    disagreeCond { s with sy := { s.sy with ts := vmod s.sy.ts t fun x => { x with disagree := true } } }
  else s

/-- 100 consecutive evaluations within tolerance (R346). -/
def disagreeClear (t : Fin 8) (s : State) : State :=
  if s.sy.run ∧ 100 ≤ s.sy.ts[t].inRun then
    disagreeCond { s with sy := { s.sy with ts := vmod s.sy.ts t fun x => { x with disagree := false } } }
  else s

/-! ## Powers (R341) -/

/-- PARAM of source i. -/
def srcParam (y : Steelyard) (i : Nat) : Nat := ((y.psrc[i]?.getD 0) >>> 16).toNat

/-- The power domain of source i is on. -/
def srcOn (s : State) (i : Nat) : Bool :=
  if i < 2 then domOn s 43
  else if i < 8 then domOn s (35 + (i - 2))
  else if i < 10 then domOn s 22
  else if i < 12 then domOn s 23
  else s.hdie.powered

/-- The mean of the H-die's estimates since the last evaluation (R341); the last one where none has come. -/
def estimateMean (l : EngLink) : Nat := if l.estN = 0 then l.estimate else l.estSum / l.estN

/-- SY_PNOWi in mW from what was measured over the millisecond: mean heater current in mA, mean Σ I² in mA², lit µs; source 12
is the H-die's own estimate (R22, R341). -/
def srcPower (s : State) (i : Nat) (m : Nat) : Nat :=
  if !srcOn s i then 0
  else if i < 2 then s.ps.vin.toNat * m / 1000
  else if i < 8 then srcParam s.sy i * m / 1000000
  else if i < 12 then srcParam s.sy i * driveNow s (Fin.ofNat 4 (i - 8)) * m / 10000000
  else estimateMean s.link

/-- The power routed to a node from a list of source powers. -/
def nodePower (y : Steelyard) (p : List Nat) (n : Fin 16) : Nat :=
  ((List.range 13).map fun i =>
    let w := y.psrc[i]?.getD 0
    if w.getLsbD 7 && decide (Fin.ofNat 16 w.toNat = n) then p.getD i 0 else 0).sum

/-! ## One step of the network (R339) -/

/-- The numerator of a node's step, in mW × 2^16. -/
def flow (y : Steelyard) (temps : Vector Int 16) (p : List Nat) (n : Fin 16) : Int :=
  (nodePower y p n : Int) * 65536 + ((couples y).map fun c =>
    if c.1 = n ∧ c.2.1 ≠ n then (c.2.2 : Int) * (temps[c.2.1] - temps[n])
    else if c.2.1 = n ∧ c.1 ≠ n then (c.2.2 : Int) * (temps[c.1] - temps[n])
    else 0).sum

/-- A node's temperature after one step; `ctr` indexes the free rounding. -/
def stepNode (y : Steelyard) (temps : Vector Int 16) (p : List Nat) (ctr : Nat) (n : Fin 16) : Int :=
  let x := y.nodes[n]
  if nodeUsed x && !nodeFix x then
    satTemp (temps[n] + divOpen (flow y temps p n) ((x.cap.toNat : Int) * 1000) (Config.freeBit (ctr + n.val)))
  else temps[n]

/-- All nodes after one step. -/
def stepAll (y : Steelyard) (temps : Vector Int 16) (p : List Nat) (ctr : Nat) : Vector Int 16 :=
  Vector.ofFn fun n => stepNode y temps p ctr n

/-! ## Throttling (R348-R352) -/

/-- C_t (R348). -/
def thrC (s : State) (t : Nat) : Nat :=
  if t < 2 then s.fuser.dutyReq.toNat
  else if t < 8 then s.motors[Fin.ofNat 6 (t - 2)].ilimReq.toNat
  else s.beam.ld[Fin.ofNat 4 (t - 8)].ceilReq.toNat

/-- F_t (R348). -/
def thrF (s : State) (t : Nat) : Nat := (throttleFull s.envg.shadow t).toNat

/-- SY_TREQt from C_t and the REQ that Sinov keeps (R352). -/
def refreshTreq (t : Fin 12) (s : State) : State :=
  { s with sy := { s.sy with thr := vmod s.sy.thr t fun x =>
    { x with treq := BitVec.ofNat 16 (thrC s t.val * x.reqPm / 1000) } } }

/-- Governing node of a target. -/
def thrNode (x : Throttle) : Fin 16 := Fin.ofNat 16 x.cfg.toNat

/-- G_t (R349) for the governing temperature T, F_t and the target's number. -/
def governor (t : Nat) (x : Throttle) (f : Nat) (temp : Int) : Nat :=
  let thr : Int := (BitVec.setWidth 16 (x.cfg >>> 16)).toInt
  let span : Int := ((x.cfg >>> 4) &&& 0xFFF).toNat
  let c := temp * 100
  if t < 2 then
    if c ≤ thr * 65536 then f
    else if (thr + span) * 65536 ≤ c then 0
    else ((f : Int) * ((thr + span) * 65536 - c) / (span * 65536)).toNat
  else
    let past := fun (i : Int) => if (thr + i * span) * 65536 < c then 1 else 0
    f * (4 - (past 0 + past 1 + past 2)) / 4

/-- A stepped target is held (R351): from the OK of ADMIT_PAGE until the lapse or the docket's commit. -/
def thrHeld (s : State) : Bool := s.sinov.admission.isSome || s.sinov.page.isSome

/-- What R350 does with target t; the Bool says that it reduced. -/
def thrMove (held : Bool) (t : Nat) (f : Nat) (temp : Int) (x : Throttle) : Throttle × Bool :=
  let g := governor t x f temp
  let down := decide (g < x.ceil.toNat)
  let hyst : Int := (x.ret &&& 0xFFFF).toNat
  let up := decide (x.ceil.toNat < g) && !x.dwellRun && decide (temp * 100 ≤ x.tLow * 100 - hyst * 65536)
  if 2 ≤ t ∧ held then ({ x with held := down || up }, false)
  else
    let x := { x with held := false }
    if down then ({ x with ceil := BitVec.ofNat 16 g, tLow := temp, dwellRun := decide (x.ret >>> 16 ≠ 0) }, true)
    else if up then ({ x with ceil := BitVec.ofNat 16 g }, false)
    else (x, false)

/-- Target t at an evaluation (R350, R351, R359). -/
def thrEval (t : Fin 12) (s : State) : State :=
  let x := s.sy.thr[t]
  let n := s.sy.nodes[thrNode x]
  if nodeUsed n then
    let r := thrMove (thrHeld s) t.val (thrF s t.val) n.temp x
    let s := { s with sy := { s.sy with thr := s.sy.thr.set t r.1 } }
    if r.2 then
      let s := if t.val < 2 ∧ pageInFlight s then
        { s with docket := { s.docket with flags := s.docket.flags ||| 0x10 } } else s
      raiseFault 0xA4 s
    else s
  else s

/-- The ceilings reach the output blocks (R350, R357). -/
def thrPublish (s : State) : State :=
  { s with thrCopy := Vector.ofFn fun t => if s.sy.thr[t].treq < s.sy.thr[t].ceil then s.sy.thr[t].treq
    else s.sy.thr[t].ceil }

/-! ## The evaluation -/

/-- An armed forecast starts from the state after the evaluation (R354). -/
def forecastStart (s : State) : State :=
  if s.sy.fc.armed then
    let temps : Vector Int 16 := s.sy.nodes.map (·.temp)
    { s with sy := { s.sy with fc := { s.sy.fc with
        armed := false, busy := true, done := false, step := 0, start := temps, peak := temps
        peakAt := Vector.replicate 16 0 } } }
  else s

/-- SY_EVALUATION (R339-R341, R343, R346, R347, R350). -/
def evaluate (meas : List Nat) (s : State) : State :=
  if s.sy.run && domOn s 30 then
    let p := (List.range 13).map fun i => srcPower s i (meas.getD i 0)
    let y := s.sy
    let temps := stepAll y (y.nodes.map (·.temp)) p s.freeCtr
    let hist := (p :: y.pHist).take 1000
    let nodes : Vector Node 16 := Vector.ofFn fun n =>
      let x := y.nodes[n]
      if nodeUsed x && nodeFix x then
        (let r := y.ts[nodeTs x]; if r.valid then { x with temp := satTemp (toNode r.temp) } else x)
      else { x with temp := temps[n] }
    let y := { y with
      nodes := nodes
      count := y.count + 1
      pnow := Vector.ofFn fun i => BitVec.ofNat 32 (p.getD i.val 0)
      pHist := hist
      pavg := Vector.ofFn fun i => BitVec.ofNat 32 ((hist.map fun (q : List Nat) => q.getD i.val 0).sum / hist.length) }
    let y := { y with ts := checkCounts y }
    let s := { s with
      sy := y
      sySnap := { temps := Vector.ofFn fun n => if nodeUsed y.nodes[n] then some y.nodes[n].temp else none
                  sec := s.rtc.sec }
      link := { s.link with estSum := 0, estN := 0 }
      freeCtr := s.freeCtr + 16 }
    let s := (List.finRange 12).foldl (fun s t => thrEval t s) s
    let s := forecastStart (thrPublish s)
    setCond 0xA0 (s.sy.nodes.toList.any nodeOver) s
  else s

/-- A throttle dwell elapses (R350). -/
def thrDwellEnd (t : Fin 12) (s : State) : State :=
  { s with sy := { s.sy with thr := vmod s.sy.thr t fun x => { x with dwellRun := false } } }

/-! ## Enabling (R342, R343, R357) -/

/-- A node's start from a sensor: its limit, or 25.00 °C, where the sensor is invalid. -/
def startFrom (x : Node) (r : TsIn) (ofs : Int) : Int :=
  if r.valid then satTemp (toNode (r.temp + ofs))
  else if x.lim ≠ 0x7FFF then toNode x.lim.toInt else toNode 2500

/-- The starting value of node n, and whether the snapshot gave it (R343). -/
def startNode (s : State) (n : Fin 16) : Int × Bool :=
  let y := s.sy
  let x := y.nodes[n]
  if !nodeUsed x then (x.temp, false)
  else if nodeFix x then (startFrom x y.ts[nodeTs x] 0, false)
  else match (List.finRange 8).find? fun t => decide (checks y t = some n) with
    | some t => (startFrom x y.ts[t] 0, false)
    | none =>
      let fresh := decide (s.sySnap.sec ≤ s.rtc.sec) && decide (s.rtc.sec.toNat ≤ s.sySnap.sec.toNat + 60)
      match s.sySnap.temps[n] with
      | some t => if fresh then (t, true)
        else (startFrom x y.ts[nodeTs x] (BitVec.setWidth 16 (x.ncfg >>> 16)).toInt, false)
      | none => (startFrom x y.ts[nodeTs x] (BitVec.setWidth 16 (x.ncfg >>> 16)).toInt, false)

/-- The model stops (R357): ceilings keep their values, the model's conditions are absent. -/
def modelStop (s : State) : State :=
  setCond 0xA1 false (setCond 0xA0 false { s with sy := { s.sy with run := false } })

/-- SY_CTRL.EN (R342, R343, R357). -/
def syCtrl (v : Word) (s : State) : State :=
  if v.getLsbD 0 = false then modelStop s
  else if s.sy.run then s
  else match unstableNode s.sy with
    | some n => { s with sy := { s.sy with unstable := true, failNode := BitVec.ofNat 4 n.val } }
    | none =>
      let starts : Vector (Int × Bool) 16 := Vector.ofFn fun n => startNode s n
      let nodes : Vector Node 16 := Vector.ofFn fun n => { s.sy.nodes[n] with temp := starts[n].1 }
      { s with sy := { s.sy with
          run := true, unstable := false, nodes := nodes
          snapUsed := s.sy.snapUsed || starts.toList.any (·.2)
          ts := s.sy.ts.map fun t => { t with disagree := false, outRun := 0, inRun := 0 }
          thr := Vector.ofFn fun t =>
            let x := s.sy.thr[t]
            { x with ceil := s.thrCopy[t], tLow := nodes[thrNode x].temp, dwellRun := decide (x.ret >>> 16 ≠ 0)
                     held := false } } }

/-- A STEELYARD field that a running model freezes (R356). -/
def syField (f : Steelyard → Steelyard) (s : State) : State := if s.sy.run then s else { s with sy := f s.sy }

/-! ## Forecast (R353, R354) -/

/-- Steps of the four segments together. -/
def fcTotal (f : Forecast) : Nat := (f.steps.toList.map (·.toNat)).sum

/-- SY_FC_CMD.GO (R354): ignored while BUSY; a horizon beyond 65,535 steps is not run. -/
def fcGo (s : State) : State :=
  if s.sy.fc.busy ∨ 65535 < fcTotal s.sy.fc then s
  else { s with sy := { s.sy with fc := { s.sy.fc with armed := true, done := false } } }

/-- The segment of step k. -/
def fcSegment (f : Forecast) (k : Nat) : Fin 4 :=
  let a := f.steps[0].toNat
  let b := a + f.steps[1].toNat
  let c := b + f.steps[2].toNat
  if k < a then 0 else if k < b then 1 else if k < c then 2 else 3

/-- The run: temperatures, peaks and their steps after k steps from the copied state. -/
def fcRun (y : Steelyard) (ctr : Nat) : Nat → Vector Int 16 × Vector Int 16 × Vector Nat 16
  | 0 => (y.fc.start, y.fc.start, Vector.replicate 16 0)
  | k + 1 =>
    let r := fcRun y ctr k
    let p := (y.fc.pwr[fcSegment y.fc k]).toList.map (·.toNat)
    let t := stepAll y r.1 p (ctr + 16 * k)
    (t, Vector.ofFn fun n => max r.2.1[n] t[n],
     Vector.ofFn fun n => if r.2.1[n] < t[n] then min (k + 1) 65535 else r.2.2[n])

/-- The forecast completes (R354). -/
def fcDone (s : State) : State :=
  if s.sy.fc.busy then
    let n := fcTotal s.sy.fc
    let r := fcRun s.sy s.freeCtr n
    { s with
      sy := { s.sy with fc := { s.sy.fc with busy := false, done := true, step := BitVec.ofNat 16 n
                                             peak := r.2.1, peakAt := r.2.2 } }
      freeCtr := s.freeCtr + 16 * n }
  else s

/-- HDIE_HOT (R347). -/
def hdieHot (above : Bool) (s : State) : State := setCond 0xA3 above { s with hdie := { s.hdie with hot := above } }

/-! ## The bank and the thermal table -/

/-- A node's registers (R356). -/
def writeNode (n : Fin 16) (off : Nat) (v : Word) (s : State) : State :=
  match off with
  | 0x0 => syField (fun y => { y with nodes := vmod y.nodes n fun x => { x with cap := v } }) s
  | 0x4 => syField (fun y => { y with nodes := vmod y.nodes n fun x => { x with ncfg := v &&& 0xFFFF_000F } }) s
  | 0x8 => syField (fun y => { y with nodes := vmod y.nodes n fun x => { x with lim := v.setWidth 16 } }) s
  | _ => s

/-- A forecast register, ignored while the forecast is BUSY (R356). -/
def fcField (f : Forecast → Forecast) (s : State) : State :=
  if s.sy.fc.busy then s else { s with sy := { s.sy with fc := f s.sy.fc } }

/-- A throttle target's registers that a running model takes (R127, R350, R356). -/
def thrField (t : Fin 12) (f : Throttle → Throttle) (s : State) : State :=
  { s with sy := { s.sy with thr := vmod s.sy.thr t f } }

/-- STEELYARD (R356). -/
def writeSteelyard (off : Nat) (v : Word) (s : State) : State :=
  match off with
  | 0x00 => syCtrl v s
  | 0x0C => if bit v 0 then fcGo s else s
  | _ =>
    if within off 0x14 4 then
      fcField (fun f => { f with steps := f.steps.setIfInBounds ((off - 0x14) / 4) (v.setWidth 16) }) s
    else if within off 0x100 64 then writeNode (Fin.ofNat 16 ((off - 0x100) / 16)) (off % 16) v s
    else if within off 0x200 32 then
      syField (fun y => { y with couple := y.couple.setIfInBounds ((off - 0x200) / 4) (v &&& 0xFFFF_00FF) }) s
    else if within off 0x280 13 then
      syField (fun y => { y with psrc := y.psrc.setIfInBounds ((off - 0x280) / 4) (v &&& 0xFFFF_008F) }) s
    else if within off 0x400 64 then
      let k := off % 0x40 / 4
      fcField (fun f => { f with pwr := vmod f.pwr (Fin.ofNat 4 ((off - 0x400) / 0x40)) (·.setIfInBounds k v) }) s
    else if within off 0x600 8 then
      syField (fun y => { y with ts := vmod y.ts (Fin.ofNat 8 ((off - 0x600) / 4)) fun t => { t with cfg := v &&& 0xFFF7 } }) s
    else if within off 0x620 8 then
      syField (fun y => { y with ts := vmod y.ts (Fin.ofNat 8 ((off - 0x620) / 4)) fun t => { t with par := v } }) s
    else if within off 0x700 12 then
      syField (fun y => { y with thr := vmod y.thr (Fin.ofNat 12 ((off - 0x700) / 4)) fun x => { x with cfg := v } }) s
    else if within off 0x740 12 then thrField (Fin.ofNat 12 ((off - 0x740) / 4)) (fun x => { x with ret := v }) s
    else if within off 0x780 12 then
      thrField (Fin.ofNat 12 ((off - 0x780) / 4)) (fun x => { x with treq := v.setWidth 16 }) s
    else s

/-- Sinov writes the thermal table into the bank and sets EN (R338), where the bank answers and no model runs: once the
mode is set at power-up, and again when the block or its domain comes back (R357; log 15). -/
def thermalTable (s : State) : State :=
  if sinovRuns s = true ∧ s.sys.mode ≠ 0 ∧ s.sys.minset = false ∧ domOn s 30 = true ∧ s.rst.blk[17] = .none
      ∧ s.sy.run = false then
    writeSteelyard 0 1 ((Config.thermalTable s.sinov.digest).foldl (fun s w => writeSteelyard w.1 w.2 s) s)
  else s

/-! ## Meanings -/

/-- SY_EVALUATION (R339). -/
def execSyEvaluation (meas : List Nat) (s : State) : Host.Outcome State Fault Refusal := .next (evaluate meas s)

/-- THROTTLE_DWELL_EXPIRE (R350). -/
def execThrottleDwellExpire (t : Fin 12) (s : State) : Host.Outcome State Fault Refusal := .next (thrDwellEnd t s)

/-- SENSOR_DISAGREE_SET (R346). -/
def execSensorDisagreeSet (t : Fin 8) (s : State) : Host.Outcome State Fault Refusal := .next (disagreeSet t s)

/-- SENSOR_DISAGREE_CLEAR (R346). -/
def execSensorDisagreeClear (t : Fin 8) (s : State) : Host.Outcome State Fault Refusal := .next (disagreeClear t s)

/-- TS_SAMPLE (R344). -/
def execTsSample (readings : List (Nat × Nat)) (s : State) : Host.Outcome State Fault Refusal := .next (tsRead readings s)

/-- HDIE_HOT_CROSS (R347). -/
def execHdieHotCross (above : Bool) (s : State) : Host.Outcome State Fault Refusal := .next (hdieHot above s)

end Sys2Proof.Machine
end

