-- ==== Sys2Proof/Machine/Tally.lean ====
section
/-! DEFINITION. The tally counters of the DOCKET bank (R65-R67): ARM, SPOIL, CLOSE, RELEASE, the end of a facet, top of form
and the close point (R301). -/

namespace Sys2Proof.Machine

/-! ## The page's descriptor (04, page group) -/

/-- A little-endian field of the descriptor of the page in flight; 0 where there is none. -/
def pageField (s : State) (ofs n : Nat) : Nat :=
  match s.sinov.page with
  | some a => fieldLe a.desc ofs n
  | none => 0

/-- ⌈µm / scale⌉ counts of the media channel (R301). -/
def umCounts (s : State) (um : Nat) : Nat :=
  let sc := s.motors[chanIdx s.docket.mediaCh].scale.toNat
  (um * 65536 + sc - 1) / sc

/-- Sinov arms compare 1 at the position now plus `um` and TAIL (R301). -/
def armClose (um : Nat) (s : State) : State :=
  if sinovRuns s then
    motMod (chanIdx s.docket.mediaCh) (fun m =>
      { m with cmp1 := m.count + BitVec.ofNat 32 (umCounts s (um + pageField s 40 4)), cmpEn := m.cmpEn ||| 2 }) s
  else s

/-- Media travel of the lines that are not written, µm (R69: a host spoil lets the page run through TAIL; log 37). -/
def restTravel (s : State) : Nat :=
  let res := pageField s 4 2
  if res = 0 then 0 else (s.docket.planned.toNat - s.docket.written.toNat) * 25400 / res

/-! ## DK_CTRL -/

/-- ARM (R61, R65): the counters start, PRINTING begins, the video fetch and the beam unit start (R259, R263). An admission
that is not the page's own lapses with the move to PRINTING (R59). -/
def dkArmOp (s : State) : State :=
  match s.docket.st with
  | .idle =>
    let s := if s.sys.mode = 2 then lapseAdmission s else s
    let s := { s with
      docket := { s.docket with st := .armed, arm := true, tStart := s.devtime }
      dkStore := { s.dkStore with state := 3, due := false, body := [], counter := 0xFF }
      sys := { s.sys with mode := if s.sys.mode = 2 then 3 else s.sys.mode } }
    beamArm (videoArm s)
  | _ => s

/-- A host spoil latches (R69); past top of form, compare 1 is armed for the travel left. In TAIL it is armed already
(R301). -/
def hostSpoil (s : State) : State :=
  let was := decide (s.docket.st = .armed) && decide (s.docket.written.toNat < s.docket.planned.toNat)
  let s := latchSpoil .host none 0 s
  if was && s.docket.tof then armClose (restTravel s) s else s

/-- SPOIL (R65, R69): from the next facet boundary, which is now where no facet is open. -/
def dkSpoilOp (s : State) : State :=
  if pageInFlight s then
    let s := { s with docket := { s.docket with spoil := true } }
    if s.docket.st = .armed ∧ s.docket.facetOpen = true then s else hostSpoil s
  else s

/-- CLOSE (R67): the docket closes, and Sinov commits its record (R73). -/
def dkCloseOp (s : State) : State := commitDocket (closeDocket s)

/-- RELEASE (R65): acts only in CLOSED. DK_PLANNED and DK_CFG keep their values. -/
def dkReleaseOp (s : State) : State :=
  match s.docket.st with
  | .closed => { s with docket := { Docket.reset with
      planned := s.docket.planned, beams := s.docket.beams, mediaCh := s.docket.mediaCh } }
  | _ => s

/-- A write of DK_CTRL. -/
def dkCtrl (v : Word) (s : State) : State :=
  let s := if bit v 0 then dkArmOp s else s
  let s := if bit v 1 then dkSpoilOp s else s
  let s := if bit v 2 then dkCloseOp s else s
  if bit v 3 then dkReleaseOp s else s

/-- DK_PLANNED, written in IDLE only. -/
def dkPlanned (v : Word) (s : State) : State :=
  match s.docket.st with
  | .idle => { s with docket := { s.docket with planned := v } }
  | _ => s

/-- DK_CFG, written in IDLE only; BEAMS outside 1-4 keeps its value. -/
def dkCfg (v : Word) (s : State) : State :=
  match s.docket.st with
  | .idle =>
    let b : BitVec 3 := bits v 0 3
    { s with docket := { s.docket with beams := if 1 ≤ b.toNat ∧ b.toNat ≤ 4 then b else s.docket.beams
                                       mediaCh := bits v 4 3 } }
  | _ => s

/-! ## Facets, top of form, close point -/

/-- A facet ends with no spoil latched (R66): its lines are written; a waiting host spoil latches at this boundary; after the
last facet compare 1 is armed. -/
def facetEndOp (s : State) : State :=
  if s.docket.st = .armed ∧ s.docket.facetOpen = true then
    let d := s.docket
    let s := facetRelease { s with docket := { d with
      written := d.written + d.beams.setWidth 32, facets := d.facets + 1, facetOpen := false } }
    if s.docket.spoil then hostSpoil s
    else if s.docket.planned.toNat ≤ s.docket.written.toNat then armClose 0 s else s
  else s

/-- Top of form in the page (R263, R301): the docket's zero; a page already spoiled by the host has its compare 1 armed. While
SYNC is ACQUIRE it raises BD_MISSING, which spoils the page with every line blanked (R265). -/
def formStart (s : State) : State :=
  let early := decide (s.beam.sync = .acquire)
  let s := { s with
    docket := { s.docket with tof := true }
    beam := { s.beam with sync := if s.beam.sync = .locked then .run else s.beam.sync } }
  let s := if s.docket.st = .spoiled ∧ s.docket.outcome = 1 then armClose (restTravel s) s else s
  if early then bdMiss s else s

/-- Channel k reaches compare 0 (R301, R307): on the media channel of the page in flight, top of form. A diagnostic run raises
no such event (R141). -/
def compare0 (k : Fin 6) (s : State) : State :=
  if s.motors[k].cmpEn.getLsbD 0 ∧ s.motors[k].diagSet = none then
    let s := motMod k (fun m => { m with events := m.events ||| 0x10, cmpEn := setBit m.cmpEn 0 false }) s
    if pageInFlight s ∧ chanIdx s.docket.mediaCh = k then formStart s else s
  else s

/-- The media channel reaches compare 0 (R301). -/
def topOfForm (s : State) : State := compare0 (chanIdx s.docket.mediaCh) s

/-- The page's channels stop with their STOP_MODE at the close point (R298). -/
def stopPageMotors (s : State) : State :=
  let set := pageField s 32 1
  { s with motors := Vector.ofFn fun k =>
      if set.testBit k.val ∧ s.motors[k].page = true then beginStop (gatesBlocked s k) 0 s.motors[k] else s.motors[k] }

/-- The close point of the page (R301), at which Sinov clears PR_CTRL.EN (R251) and sets CLOSE. -/
def pageCloses (s : State) : State :=
  if sinovRuns s then
    let s := stopPageMotors { s with pix := rampEn false s.pix }
    dkCloseOp { s with docket := { s.docket with close := true } }
  else s

/-- Channel k reaches compare 1 (R301, R307): on the media channel of the page in flight, the close point. -/
def compare1 (k : Fin 6) (s : State) : State :=
  if s.motors[k].cmpEn.getLsbD 1 then
    let s := motMod k (fun m => { m with events := m.events ||| 0x20, cmpEn := setBit m.cmpEn 1 false }) s
    if pageInFlight s ∧ chanIdx s.docket.mediaCh = k then pageCloses s else s
  else s

/-- The media channel reaches compare 1 (R301). -/
def closePointOp (s : State) : State := compare1 (chanIdx s.docket.mediaCh) s

/-- The compares that channel k passes as its position moves on from `old` (R314). A compare that arms in this measurement is
judged with the next. -/
def comparesPassed (k : Fin 6) (old : Word) (s : State) : State :=
  let m := s.motors[k]
  let s := if passed old m.count m.cmp0 then compare0 k s else s
  if passed old m.count m.cmp1 then compare1 k s else s

/-- One 100 µs tick of a channel (R291-R296, R314): measurement, compares, regulation. -/
def regTick (k : Fin 6) (rpm : BitVec 16) (delta : Word) (inputs : MotInputs) (s : State) : State :=
  let old := s.motors[k].count
  regStep k rpm (comparesPassed k old (regMeasure k delta inputs.pin inputs.res s))

/-! ## Meanings -/

/-- FACET_END (R266). -/
def execFacetEnd (s : State) : Host.Outcome State Fault Refusal := .next (facetEndOp s)

/-- SPEED_REG_TICK (R294). -/
def execSpeedRegTick (k : Fin 6) (rpm : BitVec 16) (delta : Word) (inputs : MotInputs) (s : State) :
    Host.Outcome State Fault Refusal := .next (regTick k rpm delta inputs s)

/-- TOP_OF_FORM (R301). -/
def execTopOfForm (s : State) : Host.Outcome State Fault Refusal := .next (topOfForm s)

/-- CLOSE_POINT (R301). -/
def execClosePoint (s : State) : Host.Outcome State Fault Refusal := .next (closePointOp s)

end Sys2Proof.Machine
end

