-- ==== Sys2Proof/Machine/Apply.lean ====
section
/-! DEFINITION. How Sinov applies the stored configuration to the engine (R122, R165, R277, R298, R308, R334), diagnostic
outputs, and the moves between modes (R37). -/

namespace Sys2Proof.Machine

/-! ## Motors (R285, R294, R298, R308) -/

/-- The highest gain whose range is at least 1.3 × ENV_M_I (R285). -/
def gainCode (env : Nat) : Nat :=
  if 13 * env ≤ 25000 then 3 else if 13 * env ≤ 50000 then 2 else if 13 * env ≤ 100000 then 1 else 0

/-- The MOT_CTRL word of a configuration. -/
def motCtrlWord (c : MotorCfg) : Word :=
  1 ||| fieldAt c.src 4 ||| bitAt c.stopMode 8 ||| bitAt c.dump 9 ||| bitAt c.page 10 ||| fieldAt c.pos 12
    ||| BitVec.ofNat 32 (c.pp % 32 * 65536)

/-- The registers of channel k take a configuration (R308). -/
def motorWrite (k : Fin 6) (c : MotorCfg) (s : State) : State :=
  let s := motCtrl k (motCtrlWord c) s
  let gain := gainCode s.envg.shadow.mI[k].toNat
  let s := motCurcfg k ((s.motors[k].curcfg &&& 0xFF00) ||| BitVec.ofNat 32 gain ||| 0x6428_0000) s
  let s := motMod k (fun m => { m with
    speedReq := if m.src = 0 then BitVec.ofNat 16 c.speed else m.speedReq
    accel := BitVec.ofNat 24 c.accel, decel := BitVec.ofNat 24 c.decel, ilimReq := BitVec.ofNat 16 c.iLimit }) s
  motMod k (fun m => { m with
    istep := BitVec.ofNat 16 (iClim s k / 64), sband := BitVec.ofNat 16 (max 1 (omegaSet s k / 1024)) }) s

/-- Channel k starts as its configuration says (R298, R308): a page channel only aligns. One that does not stand still yet
starts when it does. -/
def motorRun (k : Fin 6) (c : MotorCfg) (s : State) : State :=
  let m := s.motors[k]
  if c.stopped ∨ (c.page = true ∧ m.cprValid = true) then setStartDue k false s
  else if motRunning m then setStartDue k false s
  else if motStill m then
    let s := motStartOp k (setStartDue k false s)
    motMod k (fun m => { m with alignOnly := c.page && decide (m.state = .align) }) s
  else setStartDue k true s

/-! ## Loops, HV, fuser, lasers (R277, R334) -/

/-- A loop's registers (R334). A new set-point changes no output by itself (R320); where the configuration is applied again after
a trip or a safe stop (`fresh`), the output is off and no dwell runs (R335). -/
def loopWrite (n : Fin 32) (fresh en : Bool) (plog : BitVec 4) (setp band : Word) (dwell : Nat) (f : Loop → Loop) (s : State) :
    State :=
  loopModPin n (fun l =>
    let l := loopDwell s.devtime (BitVec.ofNat 27 dwell) (f { l with en := en, plog := plog, setp := setp, band := band })
    if fresh then loopFresh l else l) s

/-- LE_COMMIT.GO by Sinov, which runs the engine (R334; log 34). -/
def loopsGo (s : State) : State := leCommit { s with loops := { s.loops with en := true } }

/-- No fault that caused a safe stop is RAISED (R165). -/
def stopCleared (s : State) : Bool := decide (s.outHold.faults &&& s.hub.raised = 0)

/-- SET_LOOP's writes. -/
def applyLoop (fresh : Bool) (n : Fin 32) (c : LoopCfg) (s : State) : State :=
  loopWrite n fresh c.en c.plog c.setp c.band c.dwell
    (fun l => { l with insel := c.insel, outsel := c.outsel, inv := c.inv }) s

/-- SET_HV's writes. -/
def applyHv (c : Fin 3) (h : HvCfg) (s : State) : State :=
  let s := loopWrite (Fin.ofNat 32 (2 + c.val)) (s.outHold.hv.getLsbD c.val) h.en h.plog (BitVec.ofNat 32 h.setp)
    (BitVec.ofNat 32 h.band) h.dwell id s
  let s := { s with hv := { s.hv with en := setBit s.hv.en c.val h.en } }
  if stopCleared s then { s with outHold := { s.outHold with hv := setBit s.outHold.hv c.val false } } else s

/-- SET_FUSER's writes. -/
def applyFuser (f : FuserCfg) (s : State) : State :=
  let w := fun (h : Nat) (sp : Nat) (s : State) =>
    loopWrite (Fin.ofNat 32 h) (s.outHold.htr.getLsbD h) (f.en.getLsbD h) f.plog (BitVec.ofNat 32 sp)
      (BitVec.ofNat 32 f.band) (f.dwell * 1000) id s
  let s := heaterFollow 0 (heaterFollow 1 (w 1 f.set1 (w 0 f.set0 s)))
  let s := fuDutyReq (BitVec.ofNat 32 f.duty) (fuCtrl (f.en.setWidth 32) s)
  if stopCleared s then { s with outHold := { s.outHold with htr := 0 } } else s

/-- SET_LASER's writes (R277). -/
def applyLaser (b : Fin 4) (c : LaserCfg) (s : State) : State :=
  let was := s.beam.ld[b].en
  let setp := c.power / 10
  let s := bmLdCfg b (bitAt c.en 0 ||| fieldAt s.beam.ld[b].step 8) s
  let s := loopWrite (Fin.ofNat 32 (5 + b.val)) false c.en c.plog (BitVec.ofNat 32 setp) (BitVec.ofNat 32 (setp / 32)) 0 id s
  let s := bmDelay b (BitVec.ofNat 16 c.delay) (bmCeilReq b (BitVec.ofNat 11 c.iCeil) s)
  let s := if c.en && !was then bmDrive b (ceilOf s b >>> 1) s else s
  if stopCleared s then { s with outHold := { s.outHold with ld := setBit s.outHold.ld b.val false } } else s

/-- SET_FACET_PROFILE's writes (R251). -/
def applyProfile (p : Fin 8) (segs : List (BitVec 24)) (s : State) : State :=
  let s := (segs.zipIdx).foldl (fun s x => prSeg p (Fin.ofNat 64 x.2) x.1 s) s
  prSegs p (BitVec.ofNat 32 segs.length) s

/-- SY_TREQ of every target from the configured values (R352). -/
def refreshAll (s : State) : State := (List.finRange 12).foldl (fun s t => refreshTreq t s) s

/-- One configuration, if Sinov holds it. -/
def withCfg {α : Type} (o : Option α) (f : α → State → State) (s : State) : State :=
  match o with
  | some c => f c s
  | none => s

/-- RDC_CTRL.EN: each resolver that a configuration selects (R293). -/
def rdcFollow (s : State) : State :=
  let on := fun (v : BitVec 2) => s.sinov.motor.toList.any fun o => match o with | some c => c.pos = v | none => false
  { s with rdc := { s.rdc with en := (if on 1 then 1 else 0) ||| (if on 2 then 2 else 0) } }

/-- A channel's configuration: its registers, its resolver, and its start. -/
def applyMotor (k : Fin 6) (c : MotorCfg) (s : State) : State :=
  let s := rdcFollow (motorWrite k c s)
  if stopCleared s then motorRun k c s else s

/-- The whole stored configuration is applied (R122); after a safe stop `fresh` starts each general loop with its output off, and the
hold of a fixed loop's output says the same of it (R335). -/
def applyAll (fresh : Bool) (s : State) : State :=
  let s := (List.finRange 8).foldl (fun s p => withCfg s.sinov.profile[p] (applyProfile p) s) s
  let s := (List.finRange 32).foldl (fun s n => withCfg s.sinov.loop[n] (applyLoop fresh n) s) s
  let s := (List.finRange 3).foldl (fun s c => withCfg s.sinov.hv[c] (applyHv c) s) s
  let s := withCfg s.sinov.fuser applyFuser s
  let s := (List.finRange 4).foldl (fun s b => withCfg s.sinov.laser[b] (applyLaser b) s) s
  let s := (List.finRange 6).foldl (fun s k => withCfg s.sinov.motor[k] (applyMotor k) s) s
  refreshAll (loopsGo s)

/-- In READY with no page, once every fault that caused a safe stop is cleared, Sinov applies the configuration again
(R165). -/
def reapply (s : State) : State :=
  if s.sys.mode = 2 ∧ sinovRuns s = true ∧ s.outHold.faults ≠ 0 ∧ stopCleared s = true then
    applyAll true { s with outHold := { s.outHold with faults := 0 } }
  else s

/-! ## Diagnostic outputs (R140, R141, R273, R331) -/

/-- A diagnostic output ends. -/
def diagEnd (o : Fin 16) (s : State) : State :=
  let n := o.val
  let s := { s with sinov := { s.sinov with diag := s.sinov.diag.set o none } }
  if n < 6 then motMod (Fin.ofNat 6 n) (fun m => if m.diagSet.isSome then beginStop (gatesBlocked s (Fin.ofNat 6 n)) 0 { m with diagSet := none } else m) s
  else if n < 10 then
    let s := { s with beam := { s.beam with ld := vmod s.beam.ld (Fin.ofNat 4 (n - 6)) fun l =>
      if l.diagLevel.isSome then { l with diagLevel := none, lit := false } else l } }
    if s.beam.ld.toList.any fun l => l.diagLevel.isSome then s else { s with beam := { s.beam with diag := false } }
  else if n < 13 then { s with hv := { s.hv with diagLimit := s.hv.diagLimit.set (Fin.ofNat 3 (n - 10)) none } }
  else if n < 15 then
    let h : Fin 2 := Fin.ofNat 2 (n - 13)
    heaterFollow h { s with fuser := { s.fuser with htr := vmod s.fuser.htr h fun x => { x with diagDuty := none } } }
  else { s with hdie := { s.hdie with dump := false } }

/-! ## Modes (R37) -/

/-- What any change of mode ends: an admission (R59), the option buffer (R139). -/
def modeChange (s : State) : State :=
  let s := lapseAdmission s
  { s with sinov := { s.sinov with optBuf := Vector.replicate 512 0, optLoaded := 0, optOpen := false } }

/-- READY is entered (R122): the stored configuration takes effect. -/
def enterReady (s : State) : State :=
  applyAll (decide (s.outHold.faults ≠ 0)) (sinovPix <| modeChange { s with sys := { s.sys with mode := 2 }, outHold := { s.outHold with faults :=
    s.outHold.faults &&& s.hub.raised } })

/-- SERVICE is entered (R35, R36): the channels stop, and loops drive no output. -/
def enterService (s : State) : State :=
  let s := modeChange (stopMotors { s with sys := { s.sys with mode := 1 } })
  heaterStop 0 (heaterStop 1 s)

/-- DORMANT is entered (R35, R39): SYS_MODE has no code for it and reads 0, and no engine output runs (log 54). -/
def enterDormant (s : State) : State :=
  let s := modeChange (stopMotors { s with sys := { s.sys with mode := 0 } })
  heaterStop 0 (heaterStop 1 s)

/-! ## Meanings -/

/-- SAFE_EXIT (R151): Sinov sends it once ENGLINK_LOSS and HDIE_RESET are cleared; the H-die leaves its safe state, and
Sinov applies the configuration again. -/
def safeExitApply (s : State) : State :=
  let was := s.hdie.safe
  let s := if s.hub.raised.getLsbD 0xC0 || s.hub.raised.getLsbD 0x94 then s else safeExitOp s
  if was && !s.hdie.safe && decide (s.sys.mode = 2) && sinovRuns s then
    applyAll true { s with outHold := { s.outHold with faults := s.outHold.faults &&& s.hub.raised } }
  else s

/-- SAFE_EXIT (R151). -/
def execSafeExit (s : State) : Host.Outcome State Fault Refusal := .next (safeExitApply s)

/-- The page being printed runs channel k (R298). -/
def pageRuns (s : State) (k : Fin 6) : Bool :=
  decide (s.docket.st = .armed) && (pageField s 32 1).testBit k.val && s.motors[k].page

/-- A channel stands still after its brake (R303), and starts where Sinov waits to start it: for its configuration in READY, or
for the page that names it (R298). -/
def brakeRest (k : Fin 6) (s : State) : State :=
  let s := brakeEnd k s
  match s.sinov.motor[k] with
  | some c =>
    if c.startDue ∧ s.motors[k].state = .off then
      if s.sys.mode = 2 then applyMotor k c s
      else if pageRuns s k then motStartOp k (setStartDue k false s)
      else s
    else s
  | none => s

/-- BRAKE_TO_OFF (R303). -/
def execBrakeToOff (k : Fin 6) (s : State) : Host.Outcome State Fault Refusal := .next (brakeRest k s)

/-- DIAG_OUTPUT_STOP (R140). -/
def execDiagOutputStop (out : Fin 16) (s : State) : Host.Outcome State Fault Refusal := .next (diagEnd out s)

/-- ADMISSION_LAPSE (R59). -/
def execAdmissionLapse (s : State) : Host.Outcome State Fault Refusal := .next (lapseAdmission s)

end Sys2Proof.Machine
end

