-- ==== Sys2Proof/Machine/Crypt.lean ====
section
/-! DEFINITION. The check and digest functions the spec names: CRC-32C (R87), CRC-16-CCITT (R459), SHA-256 (R381, FIPS
180-4), ECDSA P-256 (R380, R381, FIPS 186-5) with the nonce of RFC 6979. Their constants come from those standards
(PRESUMED, log 19). -/

namespace Sys2Proof.Machine

/-! ## CRCs -/

/-- One bit of a reflected CRC-32C (polynomial 0x1EDC6F41, reflected 0x82F63B78). -/
def crc32cBit (c : Word) : Word := if c.getLsbD 0 then (c >>> 1) ^^^ 0x82F6_3B78 else c >>> 1

/-- One byte of CRC-32C. -/
def crc32cByte (c : Word) (b : Byte) : Word :=
  let c := c ^^^ b.setWidth 32
  crc32cBit (crc32cBit (crc32cBit (crc32cBit (crc32cBit (crc32cBit (crc32cBit (crc32cBit c)))))))

/-- CRC-32C of a byte string (R87). -/
def crc32c (bs : List Byte) : Word := bs.foldl crc32cByte 0xFFFF_FFFF ^^^ 0xFFFF_FFFF

/-- One bit of CRC-16-CCITT, most significant first. -/
def crc16Bit (c : BitVec 16) : BitVec 16 := if c.getLsbD 15 then (c <<< 1) ^^^ 0x1021 else c <<< 1

/-- One byte of CRC-16-CCITT. -/
def crc16Byte (c : BitVec 16) (b : Byte) : BitVec 16 :=
  let c := c ^^^ (b.setWidth 16 <<< 8)
  crc16Bit (crc16Bit (crc16Bit (crc16Bit (crc16Bit (crc16Bit (crc16Bit (crc16Bit c)))))))

/-- CRC-16-CCITT of a byte string (R459). -/
def crc16 (bs : List Byte) : BitVec 16 := bs.foldl crc16Byte 0xFFFF

/-! ## SHA-256 -/

/-- The 64 round constants, the first in the highest bits. -/
def shaTable : Nat :=
  0x428a2f9871374491b5c0fbcfe9b5dba53956c25b59f111f1923f82a4ab1c5ed5d807aa9812835b01243185be550c7dc372be5d7480deb1fe9bdc06a7c19bf174e49b69c1efbe47860fc19dc6240ca1cc2de92c6f4a7484aa5cb0a9dc76f988da983e5152a831c66db00327c8bf597fc7c6e00bf3d5a7914706ca635114292967 * 2 ^ 1024 +
    0x27b70a852e1b21384d2c6dfc53380d13650a7354766a0abb81c2c92e92722c85a2bfe8a1a81a664bc24b8b70c76c51a3d192e819d6990624f40e3585106aa07019a4c1161e376c082748774c34b0bcb5391c0cb34ed8aa4a5b9cca4f682e6ff3748f82ee78a5636f84c878148cc7020890befffaa4506cebbef9a3f7c67178f2

/-- The initial chaining value, its first word in the highest bits. -/
def shaStart : Nat := 0x6a09e667bb67ae853c6ef372a54ff53a510e527f9b05688c1f83d9ab5be0cd19

/-- Word i of the n that a number holds, the first in the highest bits. -/
def shaWord (v n i : Nat) : Word := BitVec.ofNat 32 (v / 2 ^ (32 * (n - 1 - i)))

/-- The n words of a number, the first in the highest bits. -/
def wordList (v n : Nat) : List Word := (List.range n).map (shaWord v n)

/-- The exclusive or of rotations of a word. -/
def mixRot (rs : List Nat) (x : Word) : Word := rs.foldl (fun acc r => acc ^^^ x.rotateRight r) 0

/-- Bit by bit, y where x is set and z where it is clear. -/
def pick (x y z : Word) : Word := z ^^^ (x &&& (y ^^^ z))

/-- Bit by bit, what at least two of three words agree on. -/
def most (x y z : Word) : Word := (x &&& (y ||| z)) ||| (y &&& z)

/-- Round i on the eight working words, with schedule word w. -/
def shaStep (i : Nat) (w : Word) : List Word → List Word
  | [a, b, c, d, e, f, g, h] =>
    let t := pick e f g + mixRot [6, 11, 25] e + shaWord shaTable 64 i + w + h
    [most a b c + mixRot [2, 13, 22] a + t, a, b, c, d + t, e, f, g]
  | v => v

/-- The schedule moves on by one word: the window holds the last sixteen, oldest first. -/
def shaNext (win : List Word) : List Word :=
  let old := win.getD 1 0
  let late := win.getD 14 0
  win.tail ++ [(mixRot [7, 18] old ^^^ old >>> 3) + (mixRot [17, 19] late ^^^ late >>> 10) + win.headD 0 + win.getD 9 0]

/-- The last n rounds of a block's 64. -/
def shaRounds : Nat → List Word → List Word → List Word
  | 0, _, v => v
  | n + 1, win, v => shaRounds n (shaNext win) (shaStep (63 - n) (win.headD 0) v)

/-- The chaining value after one 64-byte block. -/
def shaBlock (v : List Word) (blk : List Byte) : List Word :=
  List.zipWith (· + ·) v (shaRounds 64 (wordList (natBe blk) 16) v)

/-- n blocks in turn. -/
def shaBlocks : Nat → List Word → List Byte → List Word
  | 0, v, _ => v
  | n + 1, v, bs => shaBlocks n (shaBlock v (bs.take 64)) (bs.drop 64)

/-- The big-endian bytes of a number, `n` of them. -/
def bytesBe (n v : Nat) : List Byte := (List.range n).map fun i => BitVec.ofNat 8 (v / 256 ^ (n - 1 - i))

/-- A message with its padding: a one bit, zeros, and the length in bits in the last eight bytes. -/
def shaPad (msg : List Byte) : List Byte :=
  let zeros := 63 - (msg.length + 8) % 64
  msg ++ 0x80 :: List.replicate zeros 0 ++ bytesBe 8 (8 * msg.length)

/-- SHA-256 of a byte string, as its 32 bytes. -/
def sha256 (msg : List Byte) : List Byte :=
  let p := shaPad msg
  (shaBlocks (p.length / 64) (wordList shaStart 8) p).flatMap fun w => bytesBe 4 w.toNat

/-- A digest as the registers hold it: byte k in bits 8k+7:8k (R377). -/
def digestOf (bs : List Byte) : BitVec 256 := BitVec.ofNat 256 (natLe bs)

/-- The 32 bytes of a digest held that way. -/
def digestBytes (d : BitVec 256) : List Byte := toLe d 32

/-- HMAC-SHA-256. -/
def hmac (key msg : List Byte) : List Byte :=
  let k := if key.length > 64 then sha256 key else key
  let k := k ++ List.replicate (64 - k.length) 0
  sha256 (k.map (· ^^^ 0x5C) ++ sha256 (k.map (· ^^^ 0x36) ++ msg))

/-! ## P-256 -/

/-- The field prime. -/
def p256P : Nat := 0xffffffff00000001000000000000000000000000ffffffffffffffffffffffff
/-- The group order. -/
def p256N : Nat := 0xffffffff00000000ffffffffffffffffbce6faada7179e84f3b9cac2fc632551
/-- The curve constant b. -/
def p256B : Nat := 0x5ac635d8aa3a93e7b3ebbd55769886bc651d06b0cc53b0f63bce3c3e27d2604b
/-- The base point. -/
def p256G : Nat × Nat :=
  (0x6b17d1f2e12c4247f8bce6e563a440f277037d812deb33a0f4a13945d898c296,
   0x4fe342e2fe1a7f9b8ee7eb4a7c0f9e162bce33576b315ececbb6406837bf51f5)

/-- a to the power e modulo m, over `fuel` bits of e, least significant first. -/
def powMod (m : Nat) : Nat → Nat → Nat → Nat → Nat
  | 0, _, _, acc => acc
  | fuel + 1, a, e, acc => powMod m fuel (a * a % m) (e / 2) (if e % 2 = 1 then acc * a % m else acc)

/-- The inverse modulo a prime. -/
def invMod (m a : Nat) : Nat := powMod m 256 (a % m) (m - 2) 1

/-- Difference modulo the field prime. -/
def subP (a b : Nat) : Nat := (a + (p256P - b % p256P)) % p256P

/-- A point of the curve; none is the point at infinity. -/
abbrev Point := Option (Nat × Nat)

/-- The sum of two points with slope l. -/
def chord (l x1 y1 x2 : Nat) : Point :=
  let x3 := subP (subP (l * l) x1) x2
  some (x3, subP (l * subP x1 x3) y1)

/-- Point addition. -/
def padd : Point → Point → Point
  | none, q => q
  | p, none => p
  | some (x1, y1), some (x2, y2) =>
    if x1 = x2 then
      if (y1 + y2) % p256P = 0 then none
      else chord ((3 * x1 * x1 + (p256P - 3)) % p256P * invMod p256P (2 * y1) % p256P) x1 y1 x2
    else chord (subP y2 y1 * invMod p256P (subP x2 x1) % p256P) x1 y1 x2

/-- k times a point, over `fuel` bits of k, least significant first. -/
def pmul : Nat → Nat → Point → Point → Point
  | 0, _, _, acc => acc
  | fuel + 1, k, p, acc => pmul fuel (k / 2) (padd p p) (if k % 2 = 1 then padd acc p else acc)

/-- A public key is a point of the curve other than infinity. -/
def onCurve (q : Nat × Nat) : Bool :=
  decide (q.1 < p256P) && decide (q.2 < p256P) &&
    decide (q.2 * q.2 % p256P = (q.1 * q.1 * q.1 + (p256P - 3) * q.1 + p256B) % p256P)

/-- ECDSA verification of (r, s) over a hash, both as numbers. -/
def ecdsaVerify (q : Nat × Nat) (hash r s : Nat) : Bool :=
  onCurve q && decide (0 < r) && decide (r < p256N) && decide (0 < s) && decide (s < p256N) &&
    (let w := invMod p256N s
     match padd (pmul 256 (hash * w % p256N) (some p256G) none) (pmul 256 (r * w % p256N) (some q) none) with
     | some (x, _) => decide (x % p256N = r)
     | none => false)

/-- The candidates of RFC 6979: the first k for which a signature exists. -/
def rfcTry (d h : Nat) : Nat → List Byte → List Byte → Nat × Nat
  | 0, _, _ => (0, 0)
  | fuel + 1, key, v =>
    let v := hmac key v
    let k := natBe v
    let sig : Option (Nat × Nat) :=
      if 0 < k ∧ k < p256N then
        match pmul 256 k (some p256G) none with
        | some (x, _) =>
          let r := x % p256N
          let s := invMod p256N k * ((h + r * d) % p256N) % p256N
          if r = 0 ∨ s = 0 then none else some (r, s)
        | none => none
      else none
    match sig with
    | some rs => rs
    | none =>
      let key := hmac key (v ++ [0])
      rfcTry d h fuel key (hmac key v)

/-- ECDSA signature of a hash with private key d, the nonce of RFC 6979 with SHA-256. -/
def ecdsaSign (d hash : Nat) : Nat × Nat :=
  let hd := bytesBe 32 d ++ bytesBe 32 (hash % p256N)
  let v0 : List Byte := List.replicate 32 1
  let k0 : List Byte := List.replicate 32 0
  let k1 := hmac k0 (v0 ++ [0] ++ hd)
  let v1 := hmac k1 v0
  let k2 := hmac k1 (v1 ++ [1] ++ hd)
  rfcTry d (hash % p256N) 256 k2 (hmac k2 v1)

end Sys2Proof.Machine
end

