-- ==== Sys2Proof/Machine/Ledger.lean ====
section
/-! DEFINITION. The Till's records, chain, commit engine and recovery (13, R360-R369, R382, R385). -/

namespace Sys2Proof.Machine

/-- The commit word (R360). -/
def commitWord : Word := 0xC044_17ED

/-- Slots of the ring (R365). -/
def tillSlots : Nat := 24576

/-- The address of the slot of SEQ s (R365). -/
def slotAddr (seq : Nat) : Nat := 0x2_0020_0000 + 256 * ((seq - 1) % tillSlots)

/-- The 256 bytes of a slot. -/
def slotBytes (s : State) (seq : Nat) : List Byte := s.mem.readAll (slotAddr seq) 256

/-- A record is committed (R361): its commit word is in place. -/
def committed (rec : List Byte) : Bool := decide (fieldLe rec 252 4 = commitWord.toNat)

/-- ANCHOR (R363). -/
def anchor : List Byte :=
  sha256 ([0x44, 0x47, 0x54, 0x49, 0x4C, 0x4C, 0x30, 0x31] ++ toLe Config.deviceId 8)

/-- Records free (R365); 0 once the engine has stopped (R366). -/
def tillFree (t : Till) : Nat :=
  if t.stopped then 0 else tillSlots - (t.next.toNat - t.oldest.toNat)

/-- Records free for a record that may not use the reserved pair (R367). -/
def tillFreeCmd (s : State) : Nat := s.till.free.toNat - s.till.rsv.toNat

/-- TL_FREE and the condition of TILL_FULL follow the pointers once these are valid (R365, R367, R369). -/
def tillSync (s : State) : State :=
  if s.till.scanned then
    let s := { s with till := { s.till with free := BitVec.ofNat 16 (tillFree s.till) } }
    setCond 0xE2 (decide (tillFreeCmd s = 0)) s
  else s

/-- The mode as GET_MODE codes it, 0 before the mode is set (R360). -/
def modeCode (s : State) : BitVec 4 := if sinovRuns s then s.sys.mode.setWidth 4 else 0

/-- Bytes 0-207 of a record (R360). -/
def recordHead (s : State) (typ subtype : BitVec 16) (counter : Byte) (mode : BitVec 4) (hostWord : Word)
    (body : List Byte) : List Byte :=
  toLe s.till.next 8 ++ toLe s.rtc.sec 6
    ++ [(if s.rtc.valid then 1 else 0) ||| (if s.rtc.lost then 2 else 0), mode.setWidth 8]
    ++ toLe s.devtime 8 ++ toLe typ 2 ++ toLe subtype 2 ++ toLe (BitVec.ofNat 16 body.length) 2 ++ [counter, 0]
    ++ toLe hostWord 4 ++ List.replicate 12 0 ++ slice body 0 160

/-- CHAIN_p (R363): the chain value of the last committed record, ANCHOR before the first. -/
def chainPrev (s : State) : List Byte := if s.till.head = 0 then anchor else digestBytes s.till.chain

/-- The 256 bytes of a record with its chain value and commit word. -/
def fullRecord (prev hd : List Byte) : List Byte :=
  hd ++ sha256 (prev ++ hd) ++ List.replicate 12 0 ++ toLe commitWord 4

/-- The engine accepts a write (R361, R365-R367): idle, fewer than four torn records in a row, and a record free. -/
def engineFree (rsvOk : Bool) (s : State) : Bool :=
  !s.till.busy && !s.till.stopped && decide (s.till.tornRun < 4) && s.till.scanned &&
    decide (1 ≤ s.till.free.toNat) && (rsvOk || decide (1 ≤ tillFreeCmd s))

/-- A commit of the staged record starts (R361). -/
def tillStart (rsvOk : Bool) (s : State) : State :=
  if engineFree rsvOk s then
    let t := s.till
    let body := ((t.body.toList.flatMap fun w => toLe w 4).take (min t.len.toNat 160))
    let hd := recordHead s t.typ t.subtype t.counter t.mode t.hostWord body
    { s with till := { t with busy := true, lastOk := false, lastTorn := false, op := .commit (fullRecord (chainPrev s) hd) } }
  else s

/-- BASE of a release up to `upto` (R362): the chain value of the last committed record at or below it. -/
def releaseBase (s : State) (upto : Nat) : List Byte :=
  let n := upto + 1 - s.till.oldest.toNat
  match (List.range n).findSome? fun i =>
      let r := slotBytes s (upto - i)
      if committed r then some (slice r 208 32) else none with
  | some c => c
  | none => digestBytes s.till.base

/-- A release record's body (R362). -/
def releaseBody (s : State) (upto : BitVec 64) : List Byte :=
  toLe upto 8 ++ releaseBase s upto.toNat ++ toLe (BitVec.ofNat 32 (upto.toNat + 1 - s.till.oldest.toNat)) 4

/-- The engine accepts a release (R365, R368): as any record, or when FREE is 0; TL_UPTO names a record in use. -/
def releaseFree (rsvOk : Bool) (upto : BitVec 64) (s : State) : Bool :=
  !s.till.busy && !s.till.stopped && decide (s.till.tornRun < 4) && s.till.scanned &&
    decide (s.till.oldest.toNat ≤ upto.toNat) && decide (upto.toNat < s.till.next.toNat) &&
    (decide (s.till.free = 0) || rsvOk || decide (1 ≤ tillFreeCmd s))

/-- A release record starts (R368). -/
def tillRelease (rsvOk : Bool) (s : State) : State :=
  let t := s.till
  if releaseFree rsvOk t.upto s then
    let hd := recordHead s 0x0050 0 t.counter t.mode t.hostWord (releaseBody s t.upto)
    { s with till := { t with busy := true, lastOk := false, lastTorn := false
                              op := .release (fullRecord (chainPrev s) hd) t.upto } }
  else s

/-- A record is committed in the slot of NEXT_SEQ (R361): HEAD_SEQ, NEXT_SEQ and the chain advance. -/
def recordDone (rec : List Byte) (s : State) : State :=
  let s := memPut s (slotAddr s.till.next.toNat) rec
  { s with till := { s.till with
      busy := false, op := .none, lastOk := true, lastTorn := false, tornRun := 0
      head := s.till.next, next := s.till.next + 1, chain := digestOf (slice rec 208 32) } }

/-- A torn record takes NEXT_SEQ (R361, R365); where it stood in the slot of OLDEST_SEQ, that record is gone (R368). -/
def countTorn (s : State) : State :=
  let full := decide (tillSlots ≤ s.till.next.toNat - s.till.oldest.toNat)
  raiseFault 0xE0 { s with till := { s.till with
      next := s.till.next + 1, torn := s.till.torn + 1, oldest := if full then s.till.oldest + 1 else s.till.oldest } }

/-- A write ends torn (R361, R366): the slot has no commit word, and what its other bytes read as is open (log 13). -/
def recordTorn (s : State) : State :=
  let bs := (List.range 252).map fun i => Config.freeByte (s.freeCtr + i)
  let s := memPut { s with freeCtr := s.freeCtr + 252 } (slotAddr s.till.next.toNat) (bs ++ [0, 0, 0, 0])
  tillSync (countTorn { s with till := { s.till with
    busy := false, op := .none, lastOk := false, lastTorn := true, tornRun := s.till.tornRun + 1 } })

/-- A release takes effect (R368): OLDEST_SEQ and TL_BASE. -/
def releaseEffect (upto : BitVec 64) (base : List Byte) (s : State) : State :=
  { s with till := { s.till with oldest := upto + 1, base := digestOf base } }

/-- What ended: nothing, a commit or a release. -/
def engineDone (ok : Bool) (s : State) : State :=
  match s.till.op with
  | .commit rec => if ok then tillSync (recordDone rec s) else recordTorn s
  | .release rec upto =>
    if ok then tillSync (releaseEffect upto (slice rec 56 32) (recordDone rec s)) else recordTorn s
  | _ => s

/-! ## Recovery (R369, R385) -/

/-- The slot of NEXT_SEQ is classified (R369). -/
def classifyNext (s : State) : State :=
  let seq := s.till.next
  let r := slotBytes s seq.toNat
  if committed r then
    if fieldLe r 0 8 = seq.toNat then
      let s := { s with till := { s.till with head := seq, next := seq + 1, chain := digestOf (slice r 208 32) } }
      if fieldLe r 24 2 = 0x50 then releaseEffect (BitVec.ofNat 64 (fieldLe r 48 8)) (slice r 56 32) s else s
    else s
  else if (r.take 252).all (· == 0) then s
  else countTorn s

/-- What a scan has found: the highest committed SEQ, the newest release, and the records whose SEQ is not its slot's. -/
structure Scan where
  head : Nat
  rel  : Nat
  bad  : Nat
  deriving DecidableEq, Repr

/-- One slot of a scan. -/
def scanSlot (s : State) (a : Scan) (i : Nat) : Scan :=
  let r := s.mem.readAll (0x2_0020_0000 + 256 * i) 256
  if committed r then
    let q := fieldLe r 0 8
    if 1 ≤ q ∧ (q - 1) % tillSlots = i then
      { a with head := max a.head q, rel := if fieldLe r 24 2 = 0x50 then max a.rel q else a.rel }
    else { a with bad := a.bad + 1 }
  else a

/-- Every slot in turn. -/
def scanAll (s : State) : Scan := (List.range tillSlots).foldl (scanSlot s) ⟨0, 0, 0⟩

/-- A scan starts (R369). -/
def scanStart (s : State) : State :=
  if s.till.busy then s else { s with till := { s.till with busy := true, op := .scan } }

/-- A scan ends (R369, R385). -/
def scanEnd (s : State) : State :=
  if s.till.op = .scan then
    let a := scanAll s
    let rel := slotBytes s a.rel
    let hd := slotBytes s a.head
    let s := { s with till := { s.till with
      busy := false, op := .none, scanned := true, head := BitVec.ofNat 64 a.head, next := BitVec.ofNat 64 (a.head + 1)
      oldest := if a.rel = 0 then 1 else BitVec.ofNat 64 (fieldLe rel 48 8 + 1)
      base := if a.rel = 0 then digestOf anchor else digestOf (slice rel 56 32)
      chain := if a.head = 0 then s.till.chain else digestOf (slice hd 208 32)
      torn := s.till.torn + BitVec.ofNat 32 a.bad
      chainBreak := s.till.chainBreak || decide (a.bad ≠ 0) } }
    tillSync (classifyNext (if a.bad = 0 then s else raiseFault 0xE0 s))
  else s

/-- The pointers kept in AO retention are established again (R369). -/
def pointersKept (s : State) : State :=
  tillSync (classifyNext { s with till := { s.till with scanned := true } })

/-! ## The chain walk (R364, R368) -/

/-- Where the walk starts: BASE or ANCHOR where they belong to OLDEST_SEQ, else no value. -/
def walkStart (s : State) : Option (List Byte) :=
  let rel := (scanAll s).rel
  if rel = 0 then (if s.till.oldest = 1 then some anchor else none)
  else if fieldLe (slotBytes s rel) 48 8 + 1 = s.till.oldest.toNat then some (slice (slotBytes s rel) 56 32)
  else none

/-- One record of the walk: the chain value so far, and whether a mismatch has been found. -/
def walkStep (s : State) (a : Option (List Byte) × Bool) (seq : Nat) : Option (List Byte) × Bool :=
  let r := slotBytes s seq
  if committed r then
    let ok := decide (fieldLe r 0 8 = seq) &&
      (match a.1 with | some c => decide (sha256 (c ++ r.take 208) = slice r 208 32) | none => true)
    (some (slice r 208 32), a.2 || !ok)
  else a

/-- The first record from `seq` on, of n, whose chain value or SEQ is wrong. -/
def walkBreak (s : State) : Nat → Nat → Option (List Byte) → Option Nat
  | 0, _, _ => none
  | n + 1, seq, c =>
    let r := walkStep s (c, false) seq
    if r.2 then some seq else walkBreak s n (seq + 1) r.1

/-- The chain value that the record of SEQ q stores. -/
def chainAt (s : State) (q : Nat) : List Byte := slice (slotBytes s q) 208 32

/-- The next mismatch of the walk (R364): from OLDEST_SEQ, or on from the stored value of the last break. -/
def nextBreak (s : State) : Option Nat :=
  if s.till.walkAt = 0 then
    walkBreak s (s.till.head.toNat + 1 - s.till.oldest.toNat) s.till.oldest.toNat (walkStart s)
  else walkBreak s (s.till.head.toNat + 1 - s.till.walkAt) s.till.walkAt (some (chainAt s (s.till.walkAt - 1)))

/-- The walk of the chain runs (R364): after a cold reset, until it is done. -/
def walking (s : State) : Bool := s.till.scanned && !s.till.walkDone && decide (s.rst.kind ≠ 2)

/-- The walk meets a mismatch (R364), which it reports once. -/
def chainBreakOp (s : State) : State :=
  if walking s then
    match nextBreak s with
    | some q => raiseFault 0xE1 { s with till := { s.till with chainBreak := true, walkAt := q + 1 } }
    | none => s
  else s

/-- The walk ends (R364), once no mismatch is left. -/
def walkDoneOp (s : State) : State :=
  if walking s && (nextBreak s).isNone then { s with till := { s.till with walkDone := true } } else s

/-! ## TL registers (R377) -/

/-- TL_RSV: 0 or 2; other values are stored as 2. -/
def tlRsv (v : Word) (s : State) : State :=
  tillSync { s with till := { s.till with rsv := if (bits v 0 2 : BitVec 2) = 0 then 0 else 2 } }

/-- TL_META2: values of LEN above 160 are stored as 160. -/
def tlMeta2 (v : Word) (s : State) : State :=
  { s with till := { s.till with len := if 160 < (bits v 0 8 : Byte).toNat then 160 else bits v 0 8
                                 counter := bits v 8 8, mode := bits v 16 4 } }

/-! ## Meanings -/

/-- CHAIN_BREAK_FOUND (R364). -/
def execChainBreakFound (s : State) : Host.Outcome State Fault Refusal := .next (chainBreakOp s)

/-- CHAIN_WALK_DONE (R364). -/
def execChainWalkDone (s : State) : Host.Outcome State Fault Refusal := .next (walkDoneOp s)

end Sys2Proof.Machine
end

