-- ==== Sys2Proof/Machine/Crypto.lean ====
section
/-! DEFINITION. The CRYPTO bank: the SHA engine, the signing engine and the measurement registers (R379, R381). -/

namespace Sys2Proof.Machine

/-- Message bytes without the invalid ones of the last data word: bits 17:16 give its valid bytes, 0 meaning 4. -/
def trimMsg (v : Word) (msg : List Byte) : List Byte :=
  let n := (bits v 16 2 : BitVec 2).toNat
  if n = 0 then msg else msg.take (msg.length - (4 - n))

/-- CR_SHA_CTRL: START begins a message, FINAL pads and completes it; ignored while BUSY. -/
def shaCtrlOp (v : Word) (s : State) : State :=
  let c := s.crypto
  if c.shaBusy then s
  else
    let c := { c with shaCtrl := v &&& 0x0003_0003 }
    let c := if bit v 0 then { c with msg := [], shaFinal := false } else c
    let c := if bit v 1 then { c with msg := trimMsg v c.msg, shaFinal := true, shaBusy := true } else c
    { s with crypto := c }

/-- CR_SHA_DATA: a word, its byte in bits 7:0 first; ignored while BUSY. -/
def shaDataOp (v : Word) (s : State) : State :=
  if s.crypto.shaBusy then s else { s with crypto := { s.crypto with msg := s.crypto.msg ++ toLe v 4 } }

/-- The SHA engine finishes and holds the digest. -/
def shaEnd (s : State) : State :=
  if s.crypto.shaFinal then
    { s with crypto := { s.crypto with shaBusy := false, shaFinal := false, digest := digestOf (sha256 s.crypto.msg) } }
  else s

/-- CR_SIGN_CTRL: OP 1 signs, OP 2 verifies; ignored while BUSY. -/
def signCtrl (v : Word) (s : State) : State :=
  if s.crypto.signBusy then s
  else
    let op : BitVec 2 := bits v 0 2
    { s with crypto := { s.crypto with signOp := op, signBusy := decide (op = 1) || decide (op = 2) } }

/-- A digest register as a number, its first byte most significant. -/
def digestNum (d : BitVec 256) : Nat := natBe (digestBytes d)

/-- The key in CR_VKEY: x, then y. -/
def vkeyPoint (c : Crypto) : Nat × Nat :=
  let bs := c.vkey.toList.flatMap fun w => toLe w 4
  (natBe (slice bs 0 32), natBe (slice bs 32 32))

/-- The signing engine finishes. -/
def signEnd (s : State) : State :=
  let c := s.crypto
  if c.signBusy then
    if c.signOp = 1 then
      let rs := ecdsaSign Config.deviceKey (digestNum c.hash)
      { s with crypto := { c with signBusy := false, r := digestOf (bytesBe 32 rs.1), sg := digestOf (bytesBe 32 rs.2) } }
    else
      { s with crypto := { c with
          signBusy := false
          signValid := ecdsaVerify (vkeyPoint c) (digestNum c.hash) (digestNum c.r) (digestNum c.sg) } }
  else s

/-- MEASn takes a digest as it stands while its LOADED bit is 0, and is extended by it afterwards (R379). -/
def measExtend (n : Fin 8) (d : BitVec 256) (s : State) : State :=
  let c := s.crypto
  let v := if c.loaded.getLsbD n.val then digestOf (sha256 (digestBytes c.meas[n] ++ digestBytes d)) else d
  { s with crypto := { c with meas := c.meas.set n v, loaded := setBit c.loaded n.val true } }

/-- CR_MEXT_CMD. -/
def mextCmd (v : Word) (s : State) : State :=
  if bit v 8 then measExtend (Fin.ofNat 8 (bits v 0 3 : BitVec 3).toNat) s.crypto.mextD s else s

/-! ## Meanings -/

/-- SHA_DONE (R381). -/
def execShaDone (s : State) : Host.Outcome State Fault Refusal := .next (shaEnd s)

/-- SIGN_DONE (R381). -/
def execSignDone (s : State) : Host.Outcome State Fault Refusal := .next (signEnd s)

end Sys2Proof.Machine
end

