-- ==== Sys2Proof/Machine/Barrow.lean ====
section
/-! DEFINITION. The Barrow DMA channels (R426-R436): start checks, requests, endings. A request completes as one
(log 27). -/

namespace Sys2Proof.Machine

/-- The controller named by `app`. -/
def bwGet (app : Bool) (s : State) : Barrow := if app then s.bwApp else s.bwKeep
/-- See `bwGet`. -/
def bwSet (app : Bool) (b : Barrow) (s : State) : State := if app then { s with bwApp := b } else { s with bwKeep := b }

/-- One channel changed. -/
def chanMod (app : Bool) (ch : Fin 16) (f : BwChan → BwChan) (s : State) : State :=
  let b := bwGet app s
  bwSet app { ch := vmod b.ch ch f } s

/-- A range lies wholly within one region that a controller reaches for the access (R27). -/
def bwReach (app write : Bool) (a n : Nat) : Bool :=
  let r := regionOf a
  decide (r = regionOf (a + n - 1)) && (match r with
    | .dram | .ssram => true
    | .ksram => !app
    | .xspi => !write
    | _ => false)

/-- The start checks of R427 in their order: the CODE of the first failure. -/
def startCode (app : Bool) (c : BwChan) : Option (BitVec 4) :=
  let n := c.count.toNat
  let src := bwReach app false c.src.toNat n
  if c.count = 0 ∨ c.mode = 3 then some 1
  else if (c.mode ≠ 1 ∧ src = false) ∨ bwReach app (c.mode != 2) c.dst.toNat n = false then some 3
  else if c.mode = 0 ∧ c.src < c.dst ∧ c.dst.toNat < c.src.toNat + n then some 2
  else none

/-- A channel leaves RUN, or never enters it. -/
def chanEnd (st : BwState) (code : BitVec 4) (c : BwChan) : BwChan :=
  { c with state := st, code := code, ended := true, stopDue := false }

/-- START on a channel not in RUN (R427). -/
def chanStart (app : Bool) (c : BwChan) : BwChan :=
  match startCode app c with
  | some code => { chanEnd .error code c with remain := c.count }
  | none => { c with state := .run, code := 0, ended := false, mism := false, misOfs := 0, misOk := false
                     remain := c.count, stopDue := false }

/-- A write of CTRL (R427, R428): IE always, MODE outside RUN; STOP wins over START. -/
def ctrlWrite (app : Bool) (v : Word) (c : BwChan) : BwChan :=
  let c := { c with ie := v.getLsbD 8 }
  if c.state = .run then
    if v.getLsbD 1 then { c with stopDue := true }
    else if v.getLsbD 0 then { c with lost := true } else c
  else
    let c := { c with mode := bits v 4 2 }
    if v.getLsbD 0 && !v.getLsbD 1 then chanStart app c else c

/-- CTRL of a channel. -/
def bwCtrl (app : Bool) (ch : Fin 16) (v : Word) (s : State) : State := chanMod app ch (ctrlWrite app v) s

/-- BW_STOPALL (R429). -/
def bwStopAllOp (app : Bool) (v : Word) (s : State) : State :=
  if v.getLsbD 0 then
    bwSet app { ch := (bwGet app s).ch.map fun c => if c.state = .run then { c with stopDue := true } else c } s
  else s

/-- The master of a controller. -/
def bwMaster (app : Bool) : Master := if app then .barrowApp else .barrowKeep

/-- Bytes of the next request: at most 64, crossing no 64-byte boundary of its own address (R426). -/
def chunkLen (c : BwChan) : Nat :=
  let d := 64 - (c.dst.toNat + bwDone c) % 64
  let r := 64 - (c.src.toNat + bwDone c) % 64
  min c.remain.toNat (if c.mode = 2 then min d r else d)

/-- An error response ends a channel (R429, R433): captured, CODE BUS_READ or BUS_WRITE, the bytes in flight free. -/
def chanFail (app : Bool) (ch : Fin 16) (onWrite : Bool) (s : State) : State :=
  let c := (bwGet app s).ch[ch]
  let w := if c.mode = 1 then true else if c.mode = 2 then false else onWrite
  let a := (if w ∨ (c.mode = 2 ∧ memUp s (c.src.toNat + bwDone c)) then c.dst.toNat else c.src.toNat) + bwDone c
  let s := bwSpill app c s
  let s := chanMod app ch (chanEnd .error (if w then 5 else 4)) s
  errorResponse { master := bwMaster app, addr := BitVec.ofNat 40 a, kind := if w then 1 else 0, size := 6 } .target s

/-- The first offset below n at which two functions differ. -/
def firstDiff (f g : Nat → Byte) (n : Nat) : Option Nat := (List.range n).find? fun i => f i != g i

/-- A request of a running channel completes (R426, R429). -/
def chanRequest (app : Bool) (ch : Fin 16) (s : State) : State :=
  let c := (bwGet app s).ch[ch]
  if c.state ≠ .run then s
  else
    let ofs := bwDone c
    let n := chunkLen c
    if c.mode ≠ 1 ∧ memUp s (c.src.toNat + ofs) = false then chanFail app ch false s
    else if memUp s (c.dst.toNat + ofs) = false then chanFail app ch (c.mode != 2) s
    else if c.mode = 2 then
      match firstDiff (fun i => bwByte app s (c.src.toNat + ofs + i)) (fun i => bwByte app s (c.dst.toNat + ofs + i)) n with
      | some i =>
        chanMod app ch (fun c =>
          let c := { c with remain := c.remain - BitVec.ofNat 31 i, mism := true, misOk := true
                            misOfs := BitVec.ofNat 31 (ofs + i) }
          if c.stopDue then chanEnd .stopped 0 c else chanEnd .done 0 c) s
      | none =>
        chanMod app ch (fun c =>
          let c := { c with remain := c.remain - BitVec.ofNat 31 n }
          if c.stopDue then chanEnd .stopped 0 c else if c.remain = 0 then chanEnd .done 0 c else c) s
    else
      let s := bwPut app (c.dst.toNat + ofs) ((List.range n).map fun i => bwNew app c s (ofs + i)) s
      let s := chanMod app ch (fun c => { c with remain := c.remain - BitVec.ofNat 31 n }) s
      let c := (bwGet app s).ch[ch]
      if c.stopDue then chanMod app ch (chanEnd .stopped 0) (bwSpill app c s)
      else if c.remain = 0 then chanMod app ch (chanEnd .done 0) s
      else s

/-- Registers of a channel that a running transfer freezes (R428). -/
def chanReg (app : Bool) (ch : Fin 16) (f : BwChan → BwChan) (s : State) : State :=
  chanMod app ch (fun c => if c.state = .run then c else f c) s

/-- STATUS.END and STATUS.LOST W1C. -/
def chanClear (app : Bool) (ch : Fin 16) (v : Word) (s : State) : State :=
  chanMod app ch (fun c => { c with ended := c.ended && !v.getLsbD 8, lost := c.lost && !v.getLsbD 9 }) s

/-- Domain 19 goes off (R435): every running channel stops, the state is lost. -/
def barrowOff (s : State) : State :=
  { bwSpillAll true s.bwApp (bwSpillAll false s.bwKeep s) with bwApp := Barrow.reset, bwKeep := Barrow.reset }

/-! ## Meanings -/

/-- BARROW_REQUEST_DONE (R429). -/
def execBarrowRequestDone (app : Bool) (ch : Fin 16) (s : State) : Host.Outcome State Fault Refusal :=
  .next (chanRequest app ch s)

/-- BARROW_ERROR_RESPONSE (R433). -/
def execBarrowErrorResponse (app : Bool) (ch : Fin 16) (onWrite : Bool) (s : State) :
    Host.Outcome State Fault Refusal :=
  .next (if (bwGet app s).ch[ch].state = .run then chanFail app ch onWrite s else s)

end Sys2Proof.Machine
end

