-- ==== Sys2Proof/Machine/Clock32.lean ====
section
/-! DEFINITION. The real-time clock (13, R370-R378): reading, setting, the alarm, and the loss of time. -/

namespace Sys2Proof.Machine

/-- TIME_LOST as it stands is the condition of fault 0xE3 (R375). -/
def lostSync (s : State) : State := setCond 0xE3 s.rtc.lost s

/-- TIME_SNAP (R371). -/
def timeSnap (v : Word) (s : State) : State :=
  if bit v 0 then
    { s with rtc := { s.rtc with snapSec := s.rtc.sec, snapSub := s.rtc.sub, snapDt := s.devtime } }
  else s

/-- TIME_APPLY (R372). -/
def timeApply (v : Word) (s : State) : State :=
  if bit v 0 ∧ s.rtc.pending = false then { s with rtc := { s.rtc with pending := true } } else s

/-- The CK_AO32 edge of an apply (R372); there is none while the crystal stands (R376). -/
def applyEdge (s : State) : State :=
  if s.rtc.pending && s.clk.ao32Ok then
    { s with rtc := { s.rtc with sec := s.rtc.setSec, sub := 0, valid := true, applyDt := s.devtime, pending := false } }
  else s

/-- TIME_SET_LO or TIME_SET_HI, ignored while an apply is pending (R372). -/
def timeSet (hi : Bool) (v : Word) (s : State) : State :=
  if s.rtc.pending then s
  else
    let w := s.rtc.setSec.setWidth 64
    { s with rtc := { s.rtc with setSec := (if hi then setHi64 w (v &&& 0xFFFF) else setLo64 w v).setWidth 48 } }

/-- RTC_ALARM_LO or RTC_ALARM_HI; the alarm is armed anew. -/
def alarmSet (hi : Bool) (v : Word) (s : State) : State :=
  let w := s.rtc.alarm.setWidth 64
  { s with rtc := { s.rtc with alarm := (if hi then setHi64 w (v &&& 0xFFFF) else setLo64 w v).setWidth 48
                               alarmDone := false } }

/-- ALARM_CTRL. -/
def alarmCtrl (v : Word) (s : State) : State :=
  { s with rtc := { s.rtc with alarmEn := bit v 0, alarmDone := s.rtc.alarmDone && s.rtc.alarmEn } }

/-- TIME_STATUS: ALARM_HIT is W1C (R378). -/
def timeStatusClear (v : Word) (s : State) : State :=
  if bit v 3 then { s with rtc := { s.rtc with alarmHit := false } } else s

/-- TIME_LOST_CLR (R378). -/
def timeLostClr (v : Word) (s : State) : State :=
  if bit v 0 then lostSync { s with rtc := { s.rtc with lost := false } } else s

/-- The edge that rolls the seconds over (R370); where an apply is pending, it is the apply's edge and the roll-over is
discarded (R372). -/
def secondOp (s : State) : State :=
  if s.clk.ao32Ok = false then s
  else if s.rtc.pending then applyEdge s
  else { s with rtc := { s.rtc with sec := s.rtc.sec + 1, sub := 0 } }

/-- Wake source i in DORMANT, where SLEEP enabled it (R43, R118): a SYSTEM reset with code 0x0D. -/
def dormantWake (i : Nat) (s : State) : State :=
  if s.ps.phase = .dormant ∧ s.ps.wakeEn.getLsbD i = true then assertReset 1 .host none 0x0D s else s

/-- The alarm fires (R373): at the first edge at which the seconds have reached it. -/
def alarmFire (s : State) : State :=
  if s.rtc.alarmEn ∧ s.rtc.alarm.toNat ≤ s.rtc.sec.toNat ∧ s.rtc.alarmDone = false then
    dormantWake 0 { s with rtc := { s.rtc with alarmHit := true, alarmDone := true } }
  else s

/-- VBKP falls below VRET while it feeds VDD_AO (R374). -/
def vretLoss (s : State) : State :=
  if s.supply.aoOnVbkp then lostSync { s with rtc := { s.rtc with lost := true, lossMark := true } } else s

/-- The RTC starts from 0 without a valid time and a TIME_LOST record is due (R375). -/
def timeRestart (s : State) : State :=
  lostSync { s with rtc := { s.rtc with sec := 0, sub := 0, valid := false, lost := true, lossMark := false
                                        lostDue := true, lostDt := s.devtime } }

/-- VDD_AO returns to VAUX (R375): a loss mark applies. -/
def lossApply (s : State) : State := if s.rtc.lossMark then timeRestart s else s

/-- CK_AO32 is declared stopped (R376). -/
def ao32StopOp (s : State) : State :=
  let s := setCond 0x45 true { s with clk := { s.clk with ao32Ok := false } }
  lostSync { s with rtc := { s.rtc with lost := true, valid := false, lostDue := true, lostDt := s.devtime } }

/-- The crystal restarts (R376). -/
def ao32Restart (s : State) : State := setCond 0x45 false { s with clk := { s.clk with ao32Ok := true } }

/-! ## Meanings -/

/-- RTC_ALARM_FIRE (R373, R43). -/
def execRtcAlarmFire (s : State) : Host.Outcome State Fault Refusal := .next (alarmFire s)

/-- VRET_CROSS (R374). -/
def execVretCross (s : State) : Host.Outcome State Fault Refusal := .next (vretLoss s)

/-- BKP_POWER_ON (R375). -/
def execBkpPowerOn (s : State) : Host.Outcome State Fault Refusal := .next (timeRestart s)

/-- CK_AO32_RESTART (R376). -/
def execCkAo32Restart (s : State) : Host.Outcome State Fault Refusal := .next (ao32Restart s)

end Sys2Proof.Machine
end

