-- ==== Sys2Proof/Machine/Fabric.lean ====
section
/-! DEFINITION. The reservation wheel (R401-R406), the DRAM controller (R397, R408) and the trace of granted requests
(R511). -/

namespace Sys2Proof.Machine

/-! ## Classes and the map -/

/-- The class of a master (R401): 0 VIDEO, 1 ENGINE, 2 CPU, 3 ETH, 4 DMA; none for a master that reaches no memory
behind the wheel (R27). -/
def wheelClass : Master → Option (Fin 5)
  | .vfetch => some 0
  | .keeper | .barrowKeep => some 1
  | .acore _ => some 2
  | .eth _ => some 3
  | .barrowApp | .debug => some 4
  | .hspi | .loader => none

/-- A class's requesters in their rotation: the L2 bank for the cores (R401), else the master. -/
def classMember (r : WheelReq) : Nat :=
  match r.master with
  | .acore _ => r.addr.toNat / 64 % 4
  | .barrowKeep => 1
  | .eth n => n.val
  | .debug => 1
  | _ => 0

/-- How many requesters a class rotates over. -/
def classSize (c : Fin 5) : Nat := if c = 0 then 1 else if c = 2 then 4 else 2

/-- The first position at or after `p` whose entry is 0, wrapping at 64. -/
def freeFrom (m : List Nat) (p : Nat) : Nat :=
  (((List.range 64).map fun i => (p + i) % 64).find? fun q => m.getD q 0 = 0).getD p

/-- The map of R402: 1 VIDEO, 2 ENGINE, 0 best effort, for N_VIDEO and N_ENGINE slots. -/
def wheelMap (v e : Nat) : List Nat :=
  let m := (List.range v).foldl (fun m i => m.set (64 * i / v) 1) (List.replicate 64 0)
  (List.range e).foldl (fun m j => m.set (freeFrom m ((64 * j / e + 1) % 64)) 2) m

/-- The map in effect. -/
def mapNow (s : State) : List Nat := wheelMap s.fabric.effV.toNat s.fabric.effE.toNat

/-- FAB_MAPn. -/
def fabMapWord (s : State) (n : Nat) : Word :=
  BitVec.ofNat 32 (((List.range 16).map fun i => (mapNow s).getD (16 * n + i) 0 * 4 ^ i).sum)

/-! ## Trace (R511) -/

/-- A granted request passes the filters. -/
def traceMatch (s : State) (r : WheelReq) : Bool :=
  domOn s 49 && s.dbg.trcCtrl.getLsbD 0 && !(s.dbg.trcCtrl.getLsbD 1 && s.dbg.trcFull)
    && s.dbg.filtMaster.getLsbD (masterId r.master).toNat
    && decide ((r.addr ^^^ s.dbg.filtAddr) &&& s.dbg.filtMask = 0)

/-- The two words of a trace entry. -/
def traceEntry (s : State) (r : WheelReq) : Word × Word :=
  (r.addr.setWidth 32,
   (r.addr >>> 32).setWidth 32 ||| fieldAt (masterId r.master) 8 ||| fieldAt r.kind 12
     ||| fieldAt (s.devtime.setWidth 18) 14)

/-- TRC_CAPTURE. -/
def traceCapture (r : WheelReq) (s : State) : State :=
  if traceMatch s r then
    let d := s.dbg
    let e := traceEntry s r
    { s with dbg := { d with
        buf := (d.buf.setIfInBounds (2 * d.trcWptr) e.1).setIfInBounds (2 * d.trcWptr + 1) e.2
        trcWptr := if 767 ≤ d.trcWptr then 0 else d.trcWptr + 1
        trcFull := d.trcFull || decide (767 ≤ d.trcWptr) } }
  else s

/-- TRC_CLR (R511). -/
def traceClear (v : Word) (s : State) : State :=
  if v.getLsbD 0 then { s with dbg := { s.dbg with trcWptr := 0, trcFull := false } } else s

/-! ## The wheel -/

/-- The class of a waiting request. -/
def waitClass (w : Waiting) : Option (Fin 5) := wheelClass w.req.master

/-- The rotation distance of a request from its class's last served requester. -/
def rotDist (s : State) (c : Fin 5) (w : Waiting) : Nat :=
  (classMember w.req + 2 * classSize c - 1 - s.fabric.last[c].toNat % classSize c) % classSize c

/-- The request of a class to serve (R401): the first requester in rotation, its oldest request. -/
def classPick (s : State) (c : Fin 5) (q : List Waiting) : Option Waiting :=
  (q.filter fun w => waitClass w = some c).foldl (fun acc w => match acc with
    | none => some w
    | some b => if rotDist s c w < rotDist s c b then some w else acc) none

/-- The request that has waited longest; the first to arrive among equals. -/
def oldestPick (q : List Waiting) : Option Waiting :=
  q.foldl (fun acc w => match acc with
    | none => some w
    | some b => if b.since < w.since then some w else acc) none

/-- A best-effort slot (R403): ageing, then CPU, ETH, DMA. The fetch engine issues only in VIDEO slots (R258), so that none of its
requests is there to take it (DEDUCED, log 25). -/
def bestEffort (s : State) (q : List Waiting) : Option Waiting :=
  let q := q.filter fun w => waitClass w ≠ some 0
  let normal := (classPick s 2 q).or ((classPick s 3 q).or (classPick s 4 q))
  match oldestPick q with
  | some w => if s.fabric.age ≠ 0 ∧ 64 * s.fabric.age.toNat ≤ w.since then some w else normal
  | none => normal

/-- The grant of a slot of class code k (R403): 1 VIDEO, 2 ENGINE, else best effort. -/
def slotPick (s : State) (k : Nat) (q : List Waiting) : Option Waiting :=
  if k = 1 then (classPick s 0 q).or ((classPick s 1 q).or (bestEffort s q))
  else if k = 2 then (classPick s 1 q).or (bestEffort s q)
  else bestEffort s q

/-- A granted burst of the fetch engine is on its way (R258); how it ends is VIDEO_BURST_DONE's or VIDEO_BURST_ERROR's to say. -/
def grantBurst (r : WheelReq) (s : State) : State :=
  if r.master = .vfetch then { s with video := { s.video with granted := s.video.granted + 1 } } else s

/-- A granted request reaches its memory: DRAM counts it (R408); memory that does not answer gives an error response
with FE_SOURCE 4 (R397, R505). -/
def serveGrant (r : WheelReq) (s : State) : State :=
  if memUp s r.addr.toNat then
    if regionOf r.addr.toNat = .dram then
      { s with dramc := { s.dramc with
          rd := if r.kind = 1 then s.dramc.rd else s.dramc.rd + 1
          wr := if r.kind = 1 ∨ r.kind = 3 then s.dramc.wr + 1 else s.dramc.wr } }
    else s
  else if r.master = .vfetch then s
  else errorResponse { master := r.master, addr := r.addr, kind := r.kind, size := 6 } .target s

/-- A request with a parity error on its command or address channel ends there (R412): FE_SOURCE 3, and FAB_PARITY is raised. -/
def parityEnd (r : WheelReq) (s : State) : State :=
  raiseFault 0x61 (errorResponse { master := r.master, addr := r.addr, kind := r.kind, size := 6 } .parity s)

/-- The wheel's own registers after a slot of class code k is granted to w. -/
def countGrant (k : Nat) (w : Waiting) (f : Fabric) : Fabric :=
  let c := (waitClass w).getD 0
  { f with
    grants := vmod f.grants c (· + 1)
    last := f.last.set c (BitVec.ofNat 8 (classMember w.req))
    reclaim := if (k = 1 ∧ c ≠ 0) ∨ (k = 2 ∧ c ≠ 1) then f.reclaim + 1 else f.reclaim
    vwaitMax := if c = 0 ∧ f.vwaitMax.toNat < w.since then BitVec.ofNat 16 (min w.since 65535) else f.vwaitMax }

/-- Requests that the wheel never sees: a master or an address outside its reach (R27), refused by the firewall. -/
def reachesWheel (r : WheelReq) : Bool :=
  (wheelClass r.master).isSome && cacheable (r.addr.toNat / 64)
    && (if r.master = .vfetch then decide (regionOf r.addr.toNat = .dram) && decide (r.kind = 0) else true)

/-- One slot: the arrivals join the queue, the slot is granted or stays idle, and the wheel moves on. Requests of a block in a BLOCK
reset are not accepted (R226); those with a parity error end (R412). -/
def wheelSlot (reqs : List WheelReq) (s : State) : State :=
  let reqs := reqs.filter fun r => masterOpen s r.master
  let s := (reqs.filter (·.parityBad)).foldl (fun s r => parityEnd r s) s
  let reqs := reqs.filter fun r => !r.parityBad
  let s := (reqs.filter fun r => !reachesWheel r).foldl (fun s r =>
    errorResponse { master := r.master, addr := r.addr, kind := r.kind, size := 6 } .firewall s) s
  let q := s.fabric.waiting ++ (reqs.filter reachesWheel).map fun r => { req := r, since := 0 }
  let k := (mapNow s).getD s.fabric.pos.val 0
  let pick := slotPick s k q
  let rest := match pick with
    | some w => q.erase w
    | none => q
  let f := match pick with
    | some w => countGrant k w s.fabric
    | none => { s.fabric with idle := s.fabric.idle + 1 }
  let s := { s with fabric := { f with waiting := rest.map fun w => { w with since := w.since + 1 }
                                       pos := s.fabric.pos + 1 } }
  match pick with
  | some w => grantBurst w.req (serveGrant w.req (traceCapture w.req s))
  | none => s

/-- A write of an allotment (R404): ignored outside the limits, pending until the next revolution otherwise. -/
def setAllot (v e : BitVec 7) (s : State) : State :=
  let lim := fun (i : Nat) => (s.fabric.limits >>> (8 * i)).toNat % 256
  if e = 0 ∨ 64 < v.toNat + e.toNat ∨ v.toNat < lim 0 ∨ lim 1 < v.toNat ∨ e.toNat < lim 2 ∨ lim 3 < e.toNat then s
  else { s with fabric := { s.fabric with allotV := v, allotE := e, pending := true } }

/-- The written allotment takes effect (R404): at the start of a revolution. -/
def applyAllot (s : State) : State :=
  if s.fabric.pending ∧ s.fabric.pos = 0 then
    { s with fabric := { s.fabric with effV := s.fabric.allotV, effE := s.fabric.allotE, pending := false } }
  else s

/-- FAB_CNT_CLR (R406). -/
def fabCntClr (v : Word) (s : State) : State :=
  if v.getLsbD 0 then
    { s with fabric := { s.fabric with grants := Vector.replicate 5 0, reclaim := 0, idle := 0, vwaitMax := 0 } }
  else s

/-- DR_CNT_CLR (R408). -/
def drCntClr (v : Word) (s : State) : State :=
  if v.getLsbD 0 then { s with dramc := { s.dramc with rd := 0, wr := 0, refr := 0 } } else s

/-- A refresh (R397, R408). The refresh-rate code that the DRAM reports is a free value (log 25). -/
def dramRefresh (s : State) : State :=
  if dramUp s then
    let t : BitVec 3 := (Config.freeWord s.freeCtr).setWidth 3
    { s with dramc := { s.dramc with refr := s.dramc.refr + 1, temp := t, derate := decide (4 ≤ t.toNat) }
             freeCtr := s.freeCtr + 1 }
  else s

/-- Training ends (R397): READY, or TRAIN_FAIL and DRAM_INIT_FAIL. -/
def dramTrained (ok : Bool) (s : State) : State :=
  if domOn s 15 then
    setCond 0x62 (!ok) { s with dramc := { s.dramc with ready := ok, trainFail := !ok } }
  else s

/-! ## Meanings -/

/-- WHEEL_SLOT (R403). -/
def execWheelSlot (reqs : List WheelReq) (s : State) : Host.Outcome State Fault Refusal := .next (wheelSlot reqs s)

/-- ALLOTMENT_APPLY (R404). -/
def execAllotmentApply (s : State) : Host.Outcome State Fault Refusal := .next (applyAllot s)

/-- DRAM_REFRESH (R397). -/
def execDramRefresh (s : State) : Host.Outcome State Fault Refusal := .next (dramRefresh s)

/-- DRAM_TRAIN_DONE (R397). -/
def execDramTrainDone (ok : Bool) (s : State) : Host.Outcome State Fault Refusal := .next (dramTrained ok s)

end Sys2Proof.Machine
end

