-- ==== Sys2Proof/Machine/Power.lean ====
section
/-! DEFINITION. Supply, domains, rails and the timed shut-down (06, R170-R206). -/

namespace Sys2Proof.Machine

/-! ## Switching off -/

/-- What a domain holds is lost when its switch opens: registers return to reset values at its next power-up (R392, R435,
R450; log 36). -/
def domainLost (d : Nat) (s : State) : State :=
  if 5 ≤ d ∧ d ≤ 8 then
    let c : Fin 4 := Fin.ofNat 4 (d - 5)
    { s with cluster := { s.cluster with harts := s.cluster.harts.set c Hart.reset, l1d := s.cluster.l1d.set c []
                                         l1i := s.cluster.l1i.set c [] } }
  else if 9 ≤ d ∧ d ≤ 12 then
    { s with cluster := { s.cluster with l2 := s.cluster.l2.filter fun l => bankOf l.line ≠ Fin.ofNat 4 (d - 9) } }
  else if 31 ≤ d ∧ d ≤ 34 then s
  else if 35 ≤ d ∧ d ≤ 40 then resetBlockRegs (d - 29) s
  else if 45 ≤ d ∧ d ≤ 48 then
    let b : Fin 4 := Fin.ofNat 4 (d - 45)
    { s with gpio := s.gpio.set b { Gpio.reset with pad := s.gpio[b].pad }
             pincfg := Vector.ofFn fun p => if p.val / 32 = b.val then 0x0100 else s.pincfg[p] }
  else match d with
    | 4 => { s with mem := s.mem.scramble 0x1000_0000 0x1004_0000 s.freeCtr, freeCtr := s.freeCtr + 0x2000_0000 }
    | 13 => { s with fabric := Fabric.reset s.fabric.limits }
    | 14 => { s with counters := s.counters.map fun c => Counter.reset c.rank, windows := [] }
    | 15 => resetBlockRegs 18 s
    | 16 => { s with dramc := { s.dramc with ready := false } }
    | 18 => { s with crypto := Crypto.reset }
    | 19 => { s with bwApp := Barrow.reset, bwKeep := Barrow.reset }
    | 20 => resetBlockRegs 3 s
    | 21 => resetBlockRegs 4 s
    | 22 => { s with beam := { s.beam with ld := (s.beam.ld.set 0 { s.beam.ld[0] with lit := false }).set 1
                                             { s.beam.ld[1] with lit := false } } }
    | 23 => { s with beam := { s.beam with ld := (s.beam.ld.set 2 { s.beam.ld[2] with lit := false }).set 3
                                             { s.beam.ld[3] with lit := false } } }
    | 24 => { s with clk := { s.clk with lock := setBit s.clk.lock 0 false, fb := setBit s.clk.fb 0 true } }
    | 25 => { s with clk := { s.clk with lock := setBit s.clk.lock 2 false, fb := setBit s.clk.fb 2 true }
                     dramc := { s.dramc with selfRef := s.dramc.ready } }
    | 26 => resetBlockRegs 5 { s with clk := { s.clk with lock := setBit s.clk.lock 3 false } }
    | 27 => { s with clk := { s.clk with lock := setBit s.clk.lock 1 false, fb := setBit s.clk.fb 1 true }
                     eth := s.eth.map fun e => { e with ptpValid := false } }
    | 28 => resetBlockRegs 19 s
    | 29 => resetBlockRegs 20 s
    | 30 => resetBlockRegs 13 (resetBlockRegs 16 (resetBlockRegs 17 s))
    | 41 => resetBlockRegs 12 s
    | 42 => resetBlockRegs 14 s
    | 43 => resetBlockRegs 15 s
    | 44 => resetBlockRegs 21 (resetBlockRegs 22 (resetBlockRegs 23 (flashInterrupt s)))
    | 49 => { s with dbg := Debug.reset }
    | 50 => { s with mem := s.mem.scramble 0x2000_0000 0x2080_0000 s.freeCtr, freeCtr := s.freeCtr + 0x3000_0000 }
    | _ => s

/-- A target is up: a domain on or closing, a rail not off. -/
def targetUp (s : State) (t : Nat) : Bool :=
  if t ≤ 50 then domOn s t || s.ps.closing.getLsbD (t - 1)
  else match s.ps.rails[t - 0x81]? with
    | some r => decide (r ≠ .off) && decide (r ≠ .failed)
    | none => false

/-- The parents of a target. -/
def targetParents (s : State) (t : Nat) : List Nat :=
  if t ≤ 50 then domParents t else [railParent s (Fin.ofNat 12 (t - 0x81))]

/-- Every domain and rail. -/
def allTargets : List Nat := ((List.range 51).drop 3) ++ (List.range 12).map (· + 0x81)

/-- The targets that depend on those of `ts`, and these, after `fuel` rounds (R177). -/
def dependants (s : State) : Nat → List Nat → List Nat
  | 0, ts => ts
  | fuel + 1, ts =>
    dependants s fuel (ts ++ allTargets.filter fun t =>
      targetUp s t && !ts.contains t && (targetParents s t).any fun p => ts.contains p)

/-- One target off: its switch opens, or its SEQEN falls. -/
def dropTarget (t : Nat) (s : State) : State :=
  let s := { s with ps := { s.ps with order := s.ps.order.filter fun u => u ≠ t } }
  if t ≤ 50 then
    let was := domOn s t
    let s := { s with ps := { s.ps with on := setBit s.ps.on (t - 1) false, closing := setBit s.ps.closing (t - 1) false } }
    if was then domainLost t s else s
  else { s with ps := { s.ps with rails := s.ps.rails.setIfInBounds (t - 0x81) .off } }

/-- Dirty lines leave a core or an L2 bank, and channels stop, before the switch opens (R392, R435); after a PFW and in a
reset they do not. -/
def flushTarget (t : Nat) (s : State) : State :=
  if s.ps.offCause = .pfw then s
  else if 5 ≤ t ∧ t ≤ 8 ∧ domOn s t = true then drainCore (Fin.ofNat 4 (t - 5)) s
  else if 9 ≤ t ∧ t ≤ 12 ∧ domOn s t = true then drainBank (Fin.ofNat 4 (t - 9)) s
  else if t = 19 ∧ domOn s 19 = true then barrowOff s
  else s

/-- A target goes off after its dependants, in reverse order of power-up (R177). -/
def offTarget (t : Nat) (s : State) : State :=
  let ts := dependants s 12 [t]
  let ts := (s.ps.order.filter ts.contains).reverse ++ ts.filter fun u => !s.ps.order.contains u
  ts.foldl (fun s u => dropTarget u (flushTarget u s)) s

/-! ## Power-up -/

/-- Domain d may close (R175, R177, R183): requested or needed by the boot phase, its parents good, its phase begun; an H-die domain
also needs VAUX and the engine link, through which it is switched. -/
def domCloses (s : State) (d : Nat) : Bool :=
  let boot := d = 3 || d = 4 || d = 14 || d = 17
  sequencing s && decide (3 ≤ d) && decide (d ≤ 50) && !domOn s d && !s.ps.closing.getLsbD (d - 1)
    && !s.ps.fail.getLsbD (d - 1) && (domParents d).all (targetGood s)
    && (!onHdie d || (s.supply.vauxGood && !s.link.lost))
    && (if s.ps.runPhase then s.ps.req.getLsbD (d - 1) else boot)

/-- The lowest domain that may close does (R176). R176 orders the domains that become eligible in one cycle; that the lowest also
goes first among those of different cycles is a DESIGN CHOICE (log 36). -/
def switchClose (d : Nat) (s : State) : State :=
  if (allTargets.filter fun t => decide (t ≤ 50)).find? (domCloses s) = some d then
    { s with ps := { s.ps with closing := setBit s.ps.closing (d - 1) true } }
  else s

/-- The boot phase is complete (R183). -/
def bootGood (s : State) : Bool := ([0x81, 0x82, 0x83, 3, 4, 14, 17] : List Nat).all (targetGood s)

/-- The run phase begins (R183, R185). -/
def startRun (s : State) : State :=
  railsUp { s with ps := { s.ps with phase := .runUp, runPhase := true } }

/-- Everything that the applied record requests is up (R183, R199). -/
def runGood (s : State) : Bool :=
  ((List.range 51).drop 3).all (fun d => !s.ps.req.getLsbD (d - 1) || domOn s d)
    && (List.finRange 12).all fun r => !railEn s r || decide (s.ps.rails[r] = .good)

/-- What follows when a target becomes good: rails rise, a phase ends. After the boot phase the loader starts, or in a WARM
reset with WARM_RAILS the run phase (R183, R185, R214); a complete power-up without a failure sets RETRY to 0 (R201). -/
def becameGood (s : State) : State :=
  let s := railsUp s
  if s.ps.phase = .boot ∧ s.rst.step = .boot ∧ bootGood s = true then
    if s.rst.kind = 2 then startRun { s with rst := { s.rst with step := .rom } }
    else { s with rst := { s.rst with step := .loader }, loader := { s.loader with st := .entry } }
  else if s.ps.phase = .runUp ∧ s.ps.runPhase = true ∧ runGood s = true then
    { s with ps := { s.ps with phase := .run, retry := if s.ps.failedIn then s.ps.retry else 0 } }
  else s

/-- A domain's power-good asserts (R176). -/
def domGood (d : Nat) (s : State) : State :=
  if s.ps.closing.getLsbD (d - 1) then
    becameGood { s with ps := { s.ps with
      on := setBit s.ps.on (d - 1) true, closing := setBit s.ps.closing (d - 1) false, order := s.ps.order ++ [d] } }
  else s

/-- One rail's state. -/
def setRail (r : Fin 12) (x : RailState) (s : State) : State :=
  { s with ps := { s.ps with rails := s.ps.rails.set r x } }

/-- The level of a SEQPG input. -/
def setSeqpg (r : Fin 12) (b : Bool) (s : State) : State := { s with ps := { s.ps with seqpg := setBit s.ps.seqpg r.val b } }

/-- SEQPG rises (R180): the settle time of a rail that ramps begins; of one that is off the level waits for its SEQEN (R182). -/
def seqpgUp (r : Fin 12) (s : State) : State :=
  let s := setSeqpg r true s
  if s.ps.rails[r] = .ramping then setRail r .settling s else s

/-- SEQPG has stayed high for SETTLE (R180). -/
def railUp (r : Fin 12) (s : State) : State :=
  if s.ps.rails[r] = .settling then
    let s := setRail r .good s
    becameGood { s with ps := { s.ps with order := s.ps.order ++ [0x81 + r.val] } }
  else s

/-! ## Failures (R200-R204) -/

/-- A domain fails (R200): it and its dependants go off, DOMAIN_FAIL is raised; it spoils a page on the engine path. -/
def domFail (d : Nat) (s : State) : State :=
  let s := offTarget d s
  raiseWith (engineDomain d) 0x03 { s with ps := { s.ps with fail := setBit s.ps.fail (d - 1) true, failedIn := true } }

/-- A rail fails (R200). -/
def railFails (r : Fin 12) (s : State) : State :=
  let eng := railEng s r
  let s := setRail r .failed (offTarget (0x81 + r.val) s)
  raiseWith eng 0x04 { s with ps := { s.ps with railFail := setBit s.ps.railFail r.val true, failedIn := true } }

/-- No PFW, SLEEP or ESC_OFF is in progress (R200, R203). -/
def quiet (s : State) : Bool := decide (s.ps.offCause = .none)

/-- A closing domain is not good in time (R176, R200). -/
def domLate (d : Nat) (s : State) : State := if s.ps.closing.getLsbD (d - 1) ∧ quiet s = true then domFail d s else s

/-- A domain's power-good drops while it is on (R200). -/
def domDrop (d : Nat) (s : State) : State := if 3 ≤ d ∧ domOn s d = true ∧ quiet s = true then domFail d s else s

/-- A rail's SEQPG does not rise in time (R180, R200). -/
def railLate (r : Fin 12) (s : State) : State := if s.ps.rails[r] = .ramping ∧ quiet s = true then railFails r s else s

/-- A rail's SEQPG falls (R180, R200): a rail that was good fails, one in its settle time waits for SEQPG again. -/
def seqpgDown (r : Fin 12) (s : State) : State :=
  let s := setSeqpg r false s
  match s.ps.rails[r] with
  | .good => if quiet s then railFails r s else s
  | .settling => setRail r .ramping s
  | _ => s

/-- A domain that is no longer requested goes off (R177, R183). -/
def domUnwanted (d : Nat) (s : State) : State :=
  if 3 ≤ d ∧ domOn s d = true ∧ s.ps.req.getLsbD (d - 1) = false ∧ s.ps.runPhase = true then offTarget d s else s

/-- Bits 1, 2, 3, 4, 14 and 44 of PS_REQ read 1 (R177). -/
def reqFixed : BitVec 50 := 0x0800_0000_200F

/-- PS_REQ_LO or PS_REQ_HI (R177). -/
def psReq (hi : Bool) (v : Word) (s : State) : State :=
  let w := s.ps.req.setWidth 64
  let w := if hi then setHi64 w v else setLo64 w v
  { s with ps := { s.ps with req := w.setWidth 50 ||| reqFixed } }

/-- PS_FAIL_LO, PS_FAIL_HI or PS_EXT_FAIL, W1C (R199): the target may be powered again. -/
def psFailClr (which : PsFailReg) (v : Word) (s : State) : State :=
  match which with
  | .lo => { s with ps := { s.ps with fail := s.ps.fail &&& ~~~(v.setWidth 50) } }
  | .hi => { s with ps := { s.ps with fail := s.ps.fail &&& ~~~(v.setWidth 50 <<< 32) } }
  | .ext =>
    let rails : Vector RailState 12 := Vector.ofFn fun r =>
      if v.getLsbD r.val ∧ s.ps.rails[r] = .failed then .off else s.ps.rails[r]
    railsUp { s with ps := { s.ps with railFail := s.ps.railFail &&& ~~~(v.setWidth 12), rails := rails } }

/-! ## The supply (R170-R174) -/

/-- The boot phase starts (R183, R211): SEQEN0 rises. Where the loader has stopped in FAIL it stays stopped (R221). -/
def bootStart (s : State) : State :=
  railsUp { s with
    ps := { s.ps with phase := .boot, offDelay := false, offCause := .none, pfwSeen := false, failedIn := false
                      runPhase := false, nPFW := false, docketEnds := false }
    rst := { s.rst with step := if s.rst.step = .loaderFail then .loaderFail else .boot } }

/-- VIN rises through the start threshold (R171). -/
def startSupply (s : State) : State := { s with supply := { s.supply with softStart := true, softDone := false } }

/-- The soft-start completes (R171). -/
def softDone (s : State) : State :=
  if s.supply.softStart then { s with supply := { s.supply with softDone := true } } else s

/-- VAUX is good (R171): the H-die has its supply. The pre-regulator has run since its soft-start, so that a VAUX which dipped is good
again without a new one. -/
def vauxUp (s : State) : State :=
  if s.supply.softDone then
    setCond 0x02 false { s with supply := { s.supply with vauxGood := true, vauxLow := false }
                                hdie := { s.hdie with powered := true } }
  else s

/-- The POWER_ON reset of the AO domain is released (R171, R207), where VDD_AO was not valid before. -/
def aoRelease (s : State) : State :=
  if s.supply.vauxGood ∧ s.supply.aoValid = false then
    let s := powerOnReset s
    bootStart { s with supply := { s.supply with aoValid := true, aoPor := true }
                       clk := { s.clk with ao32Ok := true } }
  else s

/-- A brown-out (R202): a SYSTEM reset at once; power-up waits for VIN (R191). HALTED stays, which only nRST and POWER_ON end (R201). -/
def brownOutOp (s : State) : State :=
  let halted := s.ps.phase = .halted
  let s := systemReset .power none 0x02 s
  { s with ps := { s.ps with phase := if halted then .halted else .shutdown, offDelay := false, offCause := .none }
           supply := { s.supply with softStart := false, softDone := false } }

/-- VIN is or is not above the high threshold (R170). -/
def vinHighOp (above : Bool) (s : State) : State :=
  setCond 0x01 above { s with supply := { s.supply with vinHigh := above } }

/-- VIN rises through VREGEN (R304): the back-off begins, and each is reported once. With VREGEN 0 the comparator stands tripped
and no back-off begins. -/
def regenUp (s : State) : State :=
  let was := backoffOn s
  let s := backoffAll { s with supply := { s.supply with vinRegen := true } }
  if was then s else raiseFault 0x06 s

/-- VIN falls below VREGEN less its hysteresis (R304). -/
def regenDown (s : State) : State := { s with supply := { s.supply with vinRegen := false } }

/-- VAUX crosses 4.60 V (R170, R284): below it VAUX is not good until it has been above 4.75 V again (R171), every gate is off and DUMP
too (R305). -/
def vauxLowOp (below : Bool) (s : State) : State :=
  let s := { s with supply := { s.supply with vauxLow := below } }
  setCond 0x02 below (if below then { s with
    supply := { s.supply with vauxGood := false }
    motors := s.motors.map gatesOff
    hdie := { s.hdie with dump := false } } else s)

/-- VAUX falls through 3.0 V (R170): VBKP feeds VDD_AO. -/
def toVbkp (s : State) : State :=
  { s with supply := { s.supply with aoOnVbkp := true, vauxGood := false } }

/-- VAUX rises through 3.2 V (R170, R375). -/
def toVaux (s : State) : State := lossApply { s with supply := { s.supply with aoOnVbkp := false } }

/-- VBKP crosses 2.0 V (R170). -/
def vbkpOp (below : Bool) (s : State) : State :=
  setCond 0x05 below { s with supply := { s.supply with vbkpLow := below } }

/-- VIN and VAUX are sampled (R173). -/
def monitor (vin vaux : BitVec 16) (s : State) : State :=
  { s with ps := { s.ps with vin := vin, vaux := vaux }
           supply := { s.supply with vin := vin.toNat, vaux := vaux.toNat
                                     history := (vin.toNat :: s.supply.history).take 100 } }

/-- PS_VIN_AVG takes the mean of the last 100 samples (R173); of as many as there are before that, rounded down (DESIGN CHOICE,
log 44). -/
def average (s : State) : State :=
  let h := s.supply.history
  if h.isEmpty then s else { s with ps := { s.ps with vinAvg := BitVec.ofNat 16 (h.sum / h.length) } }

/-- VDD_AO becomes invalid on VBKP (R162, R174): AO retention is lost. -/
def aoLost (s : State) : State :=
  if s.supply.aoOnVbkp then
    let s := powerOnReset s
    { s with supply := { s.supply with aoValid := false, aoPor := false } }
  else s

/-! ## PFW and the timed shut-down (R186-R194, R198) -/

/-- Targets whose switching off is deferred (R190). -/
def deferredSet : List Nat := [3, 4, 13, 14, 17, 18, 27, 0x81, 0x82, 0x83]

/-- Only AO and BKP remain. -/
def allDown (s : State) : Bool := decide (s.ps.on &&& ~~~3 = 0) && s.ps.rails.toList.all fun r => r = .off || r = .failed

/-- After the last target of SLEEP is off, the device is in DORMANT (R194), in which CK_REF stops (R234). -/
def sleepCheck (s : State) : State :=
  if s.ps.offCause = .sleep ∧ allDown s = true then
    { s with ps := { s.ps with phase := .dormant, offCause := .none, runPhase := false, order := [] }
             rst := { s.rst with step := .off }
             clk := { s.clk with refOk := false } }
  else s

/-- A record that Sinov commits before any other not yet in the engine (R187, R366). -/
def wantFirst (w : Want) (s : State) : State :=
  match s.sinov.wants with
  | h :: t => if s.sinov.inEngine then { s with sinov := { s.sinov with wants := h :: w :: t } }
              else { s with sinov := { s.sinov with wants := w :: h :: t } }
  | [] => { s with sinov := { s.sinov with wants := [w] } }

/-- The POWER_FAIL record (R187, R362). -/
def powerFailWant (s : State) : Want :=
  ownRecord 0x0011 (toLe s.ps.pfwTime 8 ++ toLe s.ps.vinAvg 2 ++ [s.sys.mode.setWidth 8]) true .powerFail

/-- What PFW does at once (R186): outputs cut, nPFW low, CK_CPU on CK_BYP, table and time latched; a SLEEP yields to it (R206). After
ESC_OFF, and in OFF and HALTED, the phase stands (R198, R201, R205). -/
def pfwCut (s : State) : State :=
  let s := cutOutputs s
  { s with
    hdie := { s.hdie with pfwCut := true }
    clk := { s.clk with fb := setBit s.clk.fb 0 true, pfwHold := true }
    ps := { s.ps with nPFW := true, pfwSeen := true, pfwTime := s.devtime, table := s.ps.shdn
                      phase := if s.ps.offCause = .escOff ∨ shutOff s = true then s.ps.phase else .pfw
                      offCause := if s.ps.offCause = .escOff ∨ shutOff s = true then s.ps.offCause else .pfw
                      tpfwDone := false, deferEnd := false, deferred := []
                      docketEnds := s.ps.docketEnds && decide (s.ps.offCause = .escOff) }
    sinov := { s.sinov with sleepReq := none } }

/-- PFW (R186, R187, R192): a page is spoiled and its docket closed at once; else a POWER_FAIL record is due, unless ESC_OFF already
waits for a docket (R205). In DORMANT nothing is left to be switched off. PFW is acted on once until a power-up begins (R188). -/
def pfwOp (s : State) : State :=
  if s.ps.pfwSeen then s
  else
    let page := pageInFlight s
    let dormant := s.ps.phase = .dormant
    let s := raiseFault 0x00 (pfwCut s)
    if dormant then { s with ps := { s.ps with phase := .shutdown, tpfwDone := true } }
    else if page then
      let s := stageDocket 0 (closeDocket s)
      let s := { s with ps := { s.ps with docketEnds := true } }
      if sinovRuns s then wantFirst (docketWant s) s else s
    else if sinovRuns s ∧ 1 ≤ s.till.free.toNat ∧ s.ps.docketEnds = false then wantFirst (powerFailWant s) s
    else s

/-- tPFW after detection the timed shut-down begins (R189). -/
def tpfwOp (s : State) : State :=
  if s.ps.offCause = .pfw ∧ s.ps.phase = .pfw then
    { s with ps := { s.ps with tpfwDone := true, phase := .shutdown } }
  else s

/-- The delay that the latched table gives a target, in 0.1 ms (R193): the shortest of its entries, 0 where it has none (R189). -/
def tableDelay (s : State) (t : Nat) : Nat :=
  let ds := s.ps.table.toList.flatMap fun w =>
    [(bits w 0 8, bits w 8 8), (bits w 16 8, bits w 24 8)].filterMap fun (e : Byte × Byte) =>
      if e.1.toNat = t then some e.2.toNat else none
  match ds with
  | [] => 0
  | d :: r => r.foldl min d

/-- Every target with a shorter delay is off already, or waits for the end of the deferral (R189, R190). -/
def entryTurn (s : State) (t : Nat) : Bool :=
  allTargets.all fun u =>
    !targetUp s u || s.ps.deferred.contains u || decide (tableDelay s t ≤ tableDelay s u)

/-- A table entry's delay is over (R189, R190, R194). Entries come in the order of their delays; one whose turn has not come is no
event. -/
def entryDue (t : Nat) (s : State) : State :=
  if (s.ps.offCause = .pfw ∧ s.ps.tpfwDone = true) ∨ (s.ps.offCause = .sleep ∧ s.ps.phase = .shutdown) then
    if t < 3 ∨ allTargets.contains t = false ∨ entryTurn s t = false then s
    else if s.ps.offCause = .pfw ∧ s.ps.deferEnd = false ∧ deferredSet.contains t = true then
      { s with ps := { s.ps with deferred := s.ps.deferred ++ [t] } }
    else sleepCheck (offTarget t s)
  else s

/-- The total shut-off of ESC_OFF (R198): everything except AO and BKP goes off, the sequencer enters OFF. -/
def totalOff (s : State) : State :=
  let s := (allTargets.filter (targetUp s)).foldl (fun s t => dropTarget t s) s
  { s with ps := { s.ps with phase := .off, offCause := .none, deferEnd := true, deferred := [], order := []
                             runPhase := false }
           rst := { s.rst with step := .off } }

/-- The record of R187 or R75 has committed, or t_rec has elapsed: the deferral ends (R190, R198). -/
def deferralEnd (s : State) : State :=
  match s.ps.offCause with
  | .pfw =>
    let ts := s.ps.deferred
    ts.foldl (fun s t => offTarget t s) { s with ps := { s.ps with deferEnd := true, deferred := [] } }
  | .escOff => totalOff s
  | _ => s

/-- VIN has stayed above V_PFW + 1.0 V for 10 ms (R191): the device starts again, with VDD_AO kept by a SYSTEM reset, or
by completing that of a brown-out. -/
def vinBack (s : State) : State :=
  if s.ps.phase = .shutdown ∧ allDown s = true ∧ s.supply.aoValid = true then
    if s.ps.offCause = .pfw then bootStart (systemReset .power none 0x02 s) else bootStart s
  else s

/-- RETRY has reached 8 (R201): everything except AO and BKP goes off. -/
def haltOp (s : State) : State :=
  if 8 ≤ s.ps.retry.toNat then
    let s := totalOff s
    { s with ps := { s.ps with phase := .halted } }
  else s

/-- SLEEP's power-down begins (R118, R194), unless PFW or ESC_OFF has come first (R198, R206). -/
def sleepStart (s : State) : State :=
  match s.sinov.sleepReq with
  | some w =>
    let t := { s with sinov := { s.sinov with sleepReq := none } }
    if s.ps.offCause ≠ .none ∨ shutOff s = true then t
    else { t with ps := { s.ps with wakeEn := w, phase := .shutdown, offCause := .sleep, table := s.ps.shdn } }
  | none => s

/-! ## Meanings -/

/-- VIN_START (R171). -/
def execVinStart (s : State) : Host.Outcome State Fault Refusal := .next (startSupply s)

/-- SOFT_START_DONE (R171). -/
def execSoftStartDone (s : State) : Host.Outcome State Fault Refusal := .next (softDone s)

/-- VAUX_GOOD (R171). -/
def execVauxGood (s : State) : Host.Outcome State Fault Refusal := .next (vauxUp s)

/-- AO_POR_RELEASE (R171). -/
def execAoPorRelease (s : State) : Host.Outcome State Fault Refusal := .next (aoRelease s)

/-- BROWN_OUT (R202). -/
def execBrownOut (s : State) : Host.Outcome State Fault Refusal := .next (brownOutOp s)

/-- PFW (R186). -/
def execPfw (s : State) : Host.Outcome State Fault Refusal := .next (pfwOp s)

/-- VIN_HIGH_CROSS (R170). -/
def execVinHighCross (above : Bool) (s : State) : Host.Outcome State Fault Refusal := .next (vinHighOp above s)

/-- VREGEN_RISE (R304). -/
def execVregenRise (s : State) : Host.Outcome State Fault Refusal := .next (regenUp s)

/-- VREGEN_FALL (R304). -/
def execVregenFall (s : State) : Host.Outcome State Fault Refusal := .next (regenDown s)

/-- VAUX_LOW_CROSS (R170). -/
def execVauxLowCross (below : Bool) (s : State) : Host.Outcome State Fault Refusal := .next (vauxLowOp below s)

/-- AO_SWITCH_TO_VBKP (R170). -/
def execAoSwitchToVbkp (s : State) : Host.Outcome State Fault Refusal := .next (toVbkp s)

/-- AO_SWITCH_TO_VAUX (R375). -/
def execAoSwitchToVaux (s : State) : Host.Outcome State Fault Refusal := .next (toVaux s)

/-- VBKP_LOW_CROSS (R170). -/
def execVbkpLowCross (below : Bool) (s : State) : Host.Outcome State Fault Refusal := .next (vbkpOp below s)

/-- VDD_AO_INVALID (R162). -/
def execVddAoInvalid (s : State) : Host.Outcome State Fault Refusal := .next (aoLost s)

/-- VIN_MONITOR_SAMPLE (R173). -/
def execVinMonitorSample (vin vaux : BitVec 16) (s : State) : Host.Outcome State Fault Refusal :=
  .next (monitor vin vaux s)

/-- VIN_AVG_UPDATE (R173). -/
def execVinAvgUpdate (s : State) : Host.Outcome State Fault Refusal := .next (average s)

/-- DOMAIN_SWITCH_CLOSE (R176). -/
def execDomainSwitchClose (d : Fin 50) (s : State) : Host.Outcome State Fault Refusal := .next (switchClose (d.val + 1) s)

/-- A domain becomes good; with domain 30 the Steelyard bank takes its table again (R338). -/
def domainGood (d : Nat) (s : State) : State := if d = 30 then thermalTable (domGood d s) else domGood d s

/-- DOMAIN_GOOD (R176). -/
def execDomainGood (d : Fin 50) (s : State) : Host.Outcome State Fault Refusal := .next (domainGood (d.val + 1) s)

/-- DOMAIN_GOOD_TIMEOUT (R200). -/
def execDomainGoodTimeout (d : Fin 50) (s : State) : Host.Outcome State Fault Refusal := .next (domLate (d.val + 1) s)

/-- DOMAIN_PG_DROP (R200). -/
def execDomainPgDrop (d : Fin 50) (s : State) : Host.Outcome State Fault Refusal := .next (domDrop (d.val + 1) s)

/-- DOMAIN_SWITCH_OFF (R177). -/
def execDomainSwitchOff (d : Fin 50) (s : State) : Host.Outcome State Fault Refusal := .next (domUnwanted (d.val + 1) s)

/-- SEQPG_RISE (R180). -/
def execSeqpgRise (r : Fin 12) (s : State) : Host.Outcome State Fault Refusal := .next (seqpgUp r s)

/-- RAIL_SETTLED (R180). -/
def execRailSettled (r : Fin 12) (s : State) : Host.Outcome State Fault Refusal := .next (railUp r s)

/-- RAIL_TIMEOUT (R180). -/
def execRailTimeout (r : Fin 12) (s : State) : Host.Outcome State Fault Refusal := .next (railLate r s)

/-- SEQPG_DROP (R200). -/
def execSeqpgDrop (r : Fin 12) (s : State) : Host.Outcome State Fault Refusal := .next (seqpgDown r s)

/-- TPFW_EXPIRE (R189). -/
def execTpfwExpire (s : State) : Host.Outcome State Fault Refusal := .next (tpfwOp s)

/-- SHUTDOWN_ENTRY_DUE (R189). -/
def execShutdownEntryDue (target : Byte) (s : State) : Host.Outcome State Fault Refusal := .next (entryDue target.toNat s)

/-- TREC_EXPIRE (R187). -/
def execTrecExpire (s : State) : Host.Outcome State Fault Refusal := .next (deferralEnd s)

/-- VIN_RESTORED (R191). -/
def execVinRestored (s : State) : Host.Outcome State Fault Refusal := .next (vinBack s)

/-- SEQ_HALT (R201). -/
def execSeqHalt (s : State) : Host.Outcome State Fault Refusal := .next (haltOp s)

/-- SLEEP_POWER_DOWN (R194). -/
def execSleepPowerDown (s : State) : Host.Outcome State Fault Refusal := .next (sleepStart s)

end Sys2Proof.Machine
end

