-- ==== Sys2Proof/Machine/Reset.lean ====
section
/-! DEFINITION. Reset sources, watchdogs, block resets and the release of cores (07, R207-R233). The loader has a file of
its own. -/

namespace Sys2Proof.Machine

/-! ## Sources (R207) -/

/-- The AO domain answers: VDD_AO is valid and its POWER_ON reset released. -/
def aoUp (s : State) : Bool := s.supply.aoValid && s.supply.aoPor

/-- A SYSTEM reset from a source (R207, R209). -/
def systemCause (o : Outcome5) (code : Byte) (s : State) : State := if aoUp s then assertReset 1 o none code s else s

/-- nRST (R212): it also ends OFF and HALTED (R198, R201), and restarts a loader that has stopped (R221). -/
def nrstReset (s : State) : State :=
  if shutOff s then systemReset .host none 0x03 s else assertReset 1 .host none 0x03 s

/-- A low pulse on nRST of `ns` nanoseconds (R212): under 1 µs ignored, from 10 µs a SYSTEM reset, between the two a free
choice of a whole reset or none (log 10). -/
def nrst (ns : Nat) (s : State) : State :=
  if ns < 1000 ∨ aoUp s = false then s
  else if 10000 ≤ ns then nrstReset s
  else
    let p := takeBit s
    if p.1 then nrstReset p.2 else p.2

/-- The off time of a SYSTEM reset, or of a WARM reset with WARM_RAILS, ends (R211): the boot phase starts. -/
def offTimeEnd (s : State) : State :=
  if s.ps.phase = .boot ∧ s.ps.offDelay = true then bootStart s else s

/-- The Keeper watchdog expires (R215). -/
def kwdgExpire (s : State) : State :=
  if s.rst.kwdgRun then assertReset 2 .fault none 0x04 s else s

/-- RST_KWDG_KICK: a value other than the key makes the watchdog expire at once (R215). -/
def kwdgKick (v : Word) (s : State) : State := if v = 0x6B64 then s else kwdgExpire s

/-- The application watchdog expires (R215): a cluster reset. -/
def awdgExpire (s : State) : State :=
  if s.rst.awdgEn then
    let free := s.rst.blk[(0 : Fin 24)] = .none
    let s := clusterReset s
    if free ∧ s.rst.blk[(0 : Fin 24)] = .held then refuseAll (blockOuts 0 s) (dropOuts 0 s) else s
  else s

/-- RST_AWDG_CFG (R230): PERIOD codes 0-10 while EN is 0; EN is not cleared by a write. -/
def awdgCfg (v : Word) (s : State) : State :=
  if s.rst.awdgEn then s
  else { s with rst := { s.rst with
    awdgPeriod := if 10 < (bits v 0 4 : BitVec 4).toNat then s.rst.awdgPeriod else bits v 0 4
    awdgEn := bit v 8 } }

/-- RST_REQ (R230). -/
def rstReqOp (v : Word) (s : State) : State :=
  if (bits v 16 16 : BitVec 16) = 0x5253 then
    match (bits v 0 2 : BitVec 2).toNat with
    | 1 => systemCause .host 0x07 s
    | 2 => assertReset 2 .host none 0x07 s
    | _ => s
  else s

/-- The reset of a RESET command asserts (R118). -/
def resetCmd (s : State) : State :=
  match s.sinov.resetReq with
  | some k =>
    let s := { s with sinov := { s.sinov with resetReq := none } }
    if k = 2 then assertReset 2 .host none 0x07 s else systemCause .host 0x07 s
  | none => s

/-- A double-bit error in Keeper SRAM (R224). -/
def doubleBit (ofs : BitVec 18) (s : State) : State :=
  if aoUp s && assertable 1 s then
    assertReset 1 .fault none 0x08 { s with rst := { s.rst with dedAddr := 0x8000_0000 ||| fieldAt ofs 0 } }
  else s

/-! ## Block resets (R225-R227) -/

/-- RST_BLK_REQ (R226, R230): in ISOLATE mode the outstanding transfers end with error responses at once. -/
def blkReq (v : Word) (outs : List Access) (s : State) : State :=
  let b := (bits v 0 5 : BitVec 5).toNat
  if (bits v 16 16 : BitVec 16) = 0x424B ∧ b < 24 then
    let i : Fin 24 := Fin.ofNat 24 b
    if s.rst.blk[i] = .none ∧ domOn s (blockDomain b) = true ∧ releasing s = false then
      let s := blockStart i none s
      if blockIsolates s i then refuseAll (outs ++ blockOuts i s) (dropOuts i s) else s
    else s
  else s

/-- The drain of an IDLE_HANDSHAKE reset is complete: none of the block's requests waits any more. -/
def drainDone (b : Fin 24) (s : State) : State :=
  if s.rst.blk[b] = .draining ∧ blockOuts b s = [] then blockHold b s else s

/-- WAIT has elapsed: what is outstanding ends with error responses, IDLE_TIMEOUT. -/
def drainTimeout (b : Fin 24) (outs : List Access) (s : State) : State :=
  if s.rst.blk[b] = .draining then
    let s := refuseAll (outs ++ blockOuts b s) (blockHold b (dropOuts b s))
    raiseFault 0x23 { s with rst := { s.rst with blkTimeout := true } }
  else s

/-- After a reset of VIDEO, BEAM or LOOPENG the lasers wait for a new SET_LASER (R280, R337). -/
def lasersWait (b : Nat) (s : State) : State :=
  if b = 3 ∨ b = 4 then
    { s with sinov := { s.sinov with laser := Vector.replicate 4 none }, outHold := { s.outHold with ld := 0xF, ldNew := 0xF } }
  else if b = 13 then
    { s with sinov := { s.sinov with laser := Vector.replicate 4 none }, outHold := { s.outHold with ldNew := 0xF } }
  else s

/-- The block leaves its reset with its registers at their reset values. -/
def blockFree (b : Fin 24) (s : State) : State :=
  let s := lasersWait b.val (resetBlockRegs b.val s)
  let s := { s with rst := { s.rst with blk := s.rst.blk.set b .none } }
  if b = 17 then thermalTable s else s

/-! ## Release (R214, R229) -/

/-- GPD pins leave the hold (R229), once per WARM reset. -/
def holdRelease (s : State) : State :=
  let s := { s with rst := { s.rst with holdRel := true } }
  if s.rst.holdRelOpen then
    { s with gpio := s.gpio.set 3 { s.gpio[3] with held := 0 }, rst := { s.rst with holdRelOpen := false } }
  else s

/-- RST_REL: ENG_REL, CORE, HOLD_REL (W1S). In the minimal service set neither the engine nor a core is released, and no core before
DRAM is ready (R214, steps 7 and 8). -/
def rstRel (v : Word) (s : State) : State :=
  let s := if bit v 0 ∧ s.sys.minset = false then { s with rst := { s.rst with engHold := false } } else s
  let s := if s.sys.minset = false ∧ s.dramc.ready = true then
      { s with rst := { s.rst with cores := s.rst.cores ||| bits v 1 4 } } else s
  if bit v 8 then holdRelease s else s

/-- What drives the dedicated digital outputs that R228 lists last: nothing but a 50 kΩ pull-up while a reset has not released the
Keeper, nothing at all in DORMANT and after a shut-off, else the unit that owns them. -/
inductive PinDrive
  | unpowered | pulledUp | driven
  deriving DecidableEq, Repr

/-- See `PinDrive`. -/
def dedicatedPins (s : State) : PinDrive :=
  if s.ps.phase = .dormant ∨ shutOff s = true then .unpowered else if releasing s then .pulledUp else .driven

/-- Masters that may set the bits of a RST_REL write (R230). -/
def rstRelAllowed (m : Master) (v : Word) : Bool :=
  match m with
  | .keeper => true
  | .acore n => !bit v 0 && !bit v 1 && (decide (n.val = 0) || decide ((bits v 2 3 : BitVec 3) = 0))
  | _ => false

/-- Up to 1 ms after the Keeper's release, SOCPLL has locked (R244): the boot ROM resumes it. -/
def socpllWait (s : State) : State := if s.clk.lock.getLsbD 1 then resumePll 1 s else s

/-! ## Meanings -/

/-- NRST_PULSE (R212). -/
def execNrstPulse (ns : Nat) (s : State) : Host.Outcome State Fault Refusal := .next (nrst ns s)

/-- RESET_OFF_TIME_END (R211). -/
def execResetOffTimeEnd (s : State) : Host.Outcome State Fault Refusal := .next (offTimeEnd s)

/-- KEEPER_WATCHDOG_EXPIRE (R215). -/
def execKeeperWatchdogExpire (s : State) : Host.Outcome State Fault Refusal := .next (kwdgExpire s)

/-- APP_WATCHDOG_EXPIRE (R215). -/
def execAppWatchdogExpire (s : State) : Host.Outcome State Fault Refusal := .next (awdgExpire s)

/-- DEBUG_RESET (R207): JTAG works while domain 49 is on (R175). -/
def execDebugReset (s : State) : Host.Outcome State Fault Refusal :=
  .next (if domOn s 49 then systemCause .host 0x0B s else s)

/-- RESET_CMD_ASSERT (R118). -/
def execResetCmdAssert (s : State) : Host.Outcome State Fault Refusal := .next (resetCmd s)

/-- BLOCK_DRAIN_DONE (R226). -/
def execBlockDrainDone (b : Fin 24) (s : State) : Host.Outcome State Fault Refusal := .next (drainDone b s)

/-- BLOCK_DRAIN_TIMEOUT (R226). -/
def execBlockDrainTimeout (b : Fin 24) (outs : List Access) (s : State) : Host.Outcome State Fault Refusal :=
  .next (drainTimeout b outs s)

/-- BOOT_SOCPLL_WAIT_END (R244). -/
def execBootSocpllWaitEnd (s : State) : Host.Outcome State Fault Refusal := .next (socpllWait s)

/-- KSRAM_DOUBLE_BIT (R224). -/
def execKsramDoubleBit (ofs : BitVec 18) (s : State) : Host.Outcome State Fault Refusal := .next (doubleBit ofs s)

/-- KSRAM_SINGLE_BIT (R224): the word is corrected in place. -/
def execKsramSingleBit (_ofs : BitVec 18) (s : State) : Host.Outcome State Fault Refusal := .next (raiseFault 0x24 s)

/-- WAKE_PIN (R439, R43). -/
def execWakePin (s : State) : Host.Outcome State Fault Refusal := .next (dormantWake 1 s)

/-- HSPI_WAKE (R112, R484, R43). -/
def execHspiWake (s : State) : Host.Outcome State Fault Refusal := .next (dormantWake 2 s)

end Sys2Proof.Machine
end

