-- ==== Sys2Proof/Machine/Xspi.lean ====
section
/-! DEFINITION. The xSPI flash controller (R478-R483, R487): erase and program commands, suspension, completion. -/

namespace Sys2Proof.Machine

/-- Base of the xSPI window. -/
def flashBase : Nat := 0x1_0000_0000

/-- The first flash offset free for the application (R479, R482). -/
def flashFree : Nat := 0x281_0000

/-- The lowest flash offset that a command touches. -/
def xsTouch (op : BitVec 2) (x : Xspi) : Nat := if op = 1 then x.addr.toNat / 65536 * 65536 else x.addr.toNat / 256 * 256

/-- The bytes that XS_BUF gives a program command. -/
def xsBytes (x : Xspi) : List Byte := (x.buf.toList.flatMap fun w => toLe w 4).take x.len.toNat

/-- A command starts (R482); codes 0 and 3 start nothing. -/
def xsStart (op : BitVec 2) (x : Xspi) : Xspi :=
  if op = 1 then { x with busy := true, op := 1, opAddr := x.addr.toNat / 65536 * 65536, opData := [] }
  else if op = 2 then { x with busy := true, op := 2, opAddr := x.addr.toNat, opData := xsBytes x }
  else x

/-- XS_CMD (R482): ignored while BUSY; an ACORE is refused below 0x281_0000. -/
def xsCmd (m : Master) (op : BitVec 2) (s : State) : State :=
  let x := s.xspi
  let core : Bool := match m with | .acore _ => true | _ => false
  if (op = 1 ∨ op = 2) ∧ core = true ∧ xsTouch op x < flashFree then
    refuseWrite m 0x2E 0x0004 .target { s with xspi := { x with events := x.events ||| 4 } }
  else if x.busy then s
  else { s with xspi := xsStart op x }

/-- Programming clears bits and wraps within its page (log 30). -/
def flashProgram (ofs : Nat) (bs : List Byte) (s : State) : State :=
  let page := ofs / 256 * 256
  (bs.zipIdx).foldl (fun s b =>
    let a := flashBase + page + (ofs % 256 + b.2) % 256
    memPut s a [memByte s a &&& b.1]) s

/-- A 64 KiB sector reads 0xFF. -/
def flashErase (ofs : Nat) (s : State) : State :=
  let lo := flashBase + ofs / 65536 * 65536
  { s with mem := s.mem.clearRange lo (lo + 65536) }

/-- The running command ends (R482): done, or failed with its sector or page undefined. -/
def xsEnd (ok : Bool) (s : State) : State :=
  if s.xspi.busy then
    let s := if ok then
        (if s.xspi.op = 1 then flashErase s.xspi.opAddr s else flashProgram s.xspi.opAddr s.xspi.opData s)
      else flashInterrupt s
    { s with xspi := { s.xspi with busy := false, susp := false, op := 0, opData := []
                                   events := s.xspi.events ||| (if ok then 1 else 2) } }
  else s

/-- A window read during an operation (R483): suspended where the flash can, else held. -/
def xsSuspend (s : State) : State :=
  if s.xspi.busy && !s.xspi.noSusp then { s with xspi := { s.xspi with susp := true } } else s

/-! ## Meanings -/

/-- XS_OP_DONE (R482). -/
def execXsOpDone (ok : Bool) (s : State) : Host.Outcome State Fault Refusal := .next (xsEnd ok s)

/-- XS_READ_SUSPEND (R483). -/
def execXsReadSuspend (s : State) : Host.Outcome State Fault Refusal := .next (xsSuspend s)

end Sys2Proof.Machine
end

