-- ==== Sys2Proof/Machine/Loader.lean ====
section
/-! DEFINITION. The option loader (07, R216-R222) and the boot ROM's steps 4 and 5 of the release (R214, R480, R481). -/

namespace Sys2Proof.Machine

/-! ## The record as APPLY loads it (R218) -/

/-- Bytes replaced from an offset. -/
def putAt (bs : List Byte) (ofs : Nat) (p : List Byte) : List Byte := bs.take ofs ++ p ++ bs.drop (ofs + p.length)

/-- A little-endian field of `n` bytes kept where `ok` holds of it, else replaced. -/
def fixField (ofs n : Nat) (ok : Nat → Bool) (sub : Nat) (bs : List Byte) : List Byte :=
  let v := fieldLe bs ofs n
  if ok v then bs else putAt bs ofs (toLe (BitVec.ofNat (8 * n) sub) n)

/-- The largest value of the i-th envelope field (R147, R148, R285). -/
def envMax (i : Nat) : Nat :=
  if i < 4 then 1200
  else if i = 5 ∨ i = 6 then 1000
  else if 8 ≤ i ∧ i ≤ 13 then 15000
  else if i = 7 then 4095
  else if i = 14 then 48000
  else if 20 ≤ i then 2500
  else 65535

/-- What replaces a larger value: the bound itself for ENV_M_I and ENV_M_RPM0 (R148, R285), else the ROM safe 0. -/
def envSub (i : Nat) : Nat := if 8 ≤ i ∧ i ≤ 14 then envMax i else 0

/-- The envelope fields within their ranges. -/
def fixEnvelope (bs : List Byte) : List Byte :=
  (List.range 23).foldl (fun bs i =>
    fixField (0x080 + 2 * i) 2 (fun v => decide (v ≤ envMax i)) (envSub i) bs) bs

/-- A block table byte (R225): WAIT codes 0-10, bits 6:4 reserved. -/
def fixBlock (bs : List Byte) (b : Nat) : List Byte :=
  let v := fieldLe bs (0x0B0 + b) 1
  let d := (blockDefaults.getD b 0).toNat
  let wait := if 10 < v % 16 then d % 16 else v % 16
  putAt bs (0x0B0 + b) [BitVec.ofNat 8 (v / 128 * 128 + wait)]

/-- PARENT of a board rail (R181): AO, a domain, or a rail of lower index. -/
def parentOk (n p : Nat) : Bool := decide (p ≤ 50) || (decide (0x81 ≤ p) && decide (p < 0x81 + n))

/-- EXT_CFG of rail n (R179, R181, R199): the fixed fields of SEQEN0-5, TIMEOUT codes 0-5. -/
def extCfgOf (bs : List Byte) (n : Nat) : Nat :=
  let v := fieldLe bs (0x0D0 + 4 * n) 3
  let settle := v / 65536
  let t := v / 4096 % 8
  let timeout := if 5 < t then 3 else t
  let p := v % 256
  let low := if n < 6 then railFixed.getD n 0
    else if parentOk n p then v % 1024
    else (v / 512 % 2) * 512
  low + 4096 * timeout + 65536 * settle

/-- The rails' words, byte 3 reserved. -/
def fixRails (bs : List Byte) : List Byte :=
  (List.range 12).foldl (fun bs n => putAt bs (0x0D0 + 4 * n) (toLe (BitVec.ofNat 32 (extCfgOf bs n)) 4)) bs

/-- A shut-down target (R199): 0 for an empty entry, a domain or a rail. -/
def targetOk (t : Nat) : Bool := decide (t ≤ 50) || (decide (0x81 ≤ t) && decide (t ≤ 0x8C))

/-- The shut-down table; a table with a target out of range is replaced whole (R199, log 23). -/
def fixShutdown (bs : List Byte) : List Byte :=
  if (List.range 62).all fun i => targetOk (fieldLe bs (0x100 + 2 * i) 1) then bs
  else putAt bs 0x100 (shutdownBytes defaultShutdown)

/-- The fabric wheel limits (R404). -/
def fixWheel (bs : List Byte) : List Byte :=
  let f := fun i => fieldLe bs (0x0CC + i) 1
  if 1 ≤ f 2 ∧ f 0 ≤ f 1 ∧ f 2 ≤ f 3 ∧ f 1 + f 3 ≤ 64 then bs else putAt bs 0x0CC [0, 0, 4, 4]

/-- The record that APPLY loads: out-of-range codes take the ROM safe value of their field, reserved bits have no storage
(R218, R509). -/
def applied (bs : List Byte) : List Byte :=
  let bs := fixField 0x010 1 (fun v => decide (1 ≤ v) && decide (v ≤ 100)) 10 bs
  let bs := fixField 0x011 1 (fun v => decide (v ≤ 85)) 0 bs
  let bs := fixField 0x012 1 (fun v => decide (1 ≤ v) && decide (v ≤ 40)) 1 bs
  let bs := fixField 0x016 1 (fun v => decide (v ≤ 1)) 0 bs
  let bs := putAt bs 0x017 [0]
  let bs := putAt bs 0x018 (toLe (BitVec.ofNat 64 (fieldLe bs 0x018 8 % 2 ^ 50)) 8)
  let bs := fixEnvelope bs
  let bs := fixField 0x0AE 2 (fun v => decide (100 ≤ v) && decide (v ≤ 600)) 0 bs
  let bs := (List.range 24).foldl fixBlock bs
  let bs := fixField 0x0CB 1 (fun v => decide (6 ≤ v) && decide (v ≤ 10)) 10 bs
  fixShutdown (fixRails (fixWheel bs))

/-- The envelope of a record (R216). -/
def envOf (bs : List Byte) : EnvVals :=
  let e := fun i => BitVec.ofNat 32 (optEnv bs i)
  { ldI := Vector.ofFn fun i => e i.val
    ldOn := e 4
    htrDuty := Vector.ofFn fun i => e (5 + i.val)
    tsf := e 7
    mI := Vector.ofFn fun i => e (8 + i.val)
    mRpm := Vector.ofFn fun i => e (14 + i.val)
    hvFb := Vector.ofFn fun i => e (20 + i.val) }

/-- OPTSHD, every OPT field, FH_CFG and PS_SHDN take a record's values (R218). -/
def loadRecord (bs : List Byte) (s : State) : State :=
  let env := envOf bs
  let s : State := { s with
    optshd := Vector.ofFn fun i => bs.getD i.val 0
    counters := Vector.ofFn fun i => { s.counters[i] with rank := Fin.ofNat 8 (optRank bs i.val) }
    cntWindow := BitVec.ofNat 7 (fieldLe bs 0x010 1)
    envg := { s.envg with shadow := env }
    vregen := BitVec.ofNat 32 (optVregen bs)
    sy := Steelyard.reset env
    thrCopy := Vector.ofFn fun t => throttleFull env t.val
    fabric := Fabric.reset (optFabLimits bs)
    pincfg := Vector.ofFn fun p => if 96 ≤ p.val then pincfgReset (optGpdHold bs) p.val else s.pincfg[p]
    ps := { s.ps with
      req := optDomainEn bs ||| reqFixed
      extCfg := Vector.ofFn fun n => optExtCfg bs n.val
      pfwCfg := BitVec.ofNat 32 (fieldLe bs 0x011 1 + 256 * fieldLe bs 0x012 1)
      holdDecl := BitVec.ofNat 32 (fieldLe bs 0x014 2)
      shdn := Vector.ofFn fun n => optShdn bs n.val }
    rst := { s.rst with kwdgCfg := BitVec.ofNat 32 (optKwdg bs) } }
  let s := reloadFhCfg s
  { s with hub := { s.hub with tableDone := true } }

/-! ## The loader's flow (R218-R221) -/

/-- APPLY and VERIFY (R218): a record is loaded with its outcome. -/
def applyRecord (bs : List Byte) (copy : BitVec 2) (st : BitVec 2) (outcome : Option Byte) (verifyOk : Bool)
    (s : State) : State :=
  let s := loadRecord bs s
  let s := { s with rst := { s.rst with optState := st, applied := copy }
                    loader := { s.loader with st := .envXfer, outcome := outcome } }
  if verifyOk then s else loaderFail s

/-- APPLY of the ROM safe record (R222, R509). -/
def applyRom (st : BitVec 2) (outcome : Option Byte) (verifyOk : Bool) (s : State) : State :=
  applyRecord romRecord 2 st outcome verifyOk s

/-- The 512 bytes of a copy. -/
def copyBytes (s : State) (b : Bool) : List Byte := s.mem.readAll (copyAddr b) 512

/-- A copy is valid (R217). -/
def copyValid (bs : List Byte) (readErr : Bool) : Bool :=
  !readErr && decide (fieldLe bs 0 4 = 0x44470301) && decide (fieldLe bs 0x1FC 4 = (crc32c (bs.take 0x1FC)).toNat)

/-- The loader waits in ENTRY and may read the copies (R221). -/
def inEntry (s : State) : Bool := decide (s.loader.st = .entry) && decide (s.rst.loadFails.toNat < 3)

/-- READ_A, READ_B and CLASSIFY (R218-R220): the repair begins, or a record is applied. -/
def entryReady (optrec readErrA readErrB verifyOk : Bool) (s : State) : State :=
  if inEntry s then
    let a := copyBytes s false
    let b := copyBytes s true
    let va := copyValid a readErrA
    let vb := copyValid b readErrB
    let s := { s with rst := { s.rst with
      validA := va, validB := vb, optrec := optrec, repaired := false
      seqA := if va then optSeq a else 0, seqB := if vb then optSeq b else 0 }
                      loader := { s.loader with byLimit := false } }
    let repair := fun toB => { s with loader := { s.loader with st := .repair toB } }
    if va && vb then
      if a = b then applyRecord (applied a) 0 0 none verifyOk s
      else if optrec ∧ optSeq a ≠ optSeq b then repair (decide ((optSeq b).toNat < (optSeq a).toNat))
      else applyRom 2 (some 0x21) verifyOk s
    else if va then
      if optrec then repair true else applyRecord (applied a) 0 1 (some 0x20) verifyOk s
    else if vb then
      if optrec then repair false else applyRecord (applied b) 1 1 (some 0x20) verifyOk s
    else applyRom 3 (some 0x22) verifyOk s
  else s

/-- The copy written over is read back (R218, R220): equal to the chosen one, or holding other bytes (log 13). -/
def repairDone (same verifyOk : Bool) (s : State) : State :=
  match s.loader.st with
  | .repair toB =>
    let src := copyBytes s (!toB)
    let s := { s with rst := { s.rst with repaired := true } }
    if same then
      applyRecord (applied src) (if toB then 0 else 1) 1 (some 0x20) verifyOk
        { s with mem := s.mem.writeAll (copyAddr toB) src }
    else
      let bs := (List.range 512).map fun i => Config.freeByte (s.freeCtr + i)
      applyRom 2 (some 0x21) verifyOk
        { s with mem := s.mem.writeAll (copyAddr toB) bs, freeCtr := s.freeCtr + 512 }
  | _ => s

/-- 2 ms in ENTRY without ready (R218). -/
def entryTimeout (verifyOk : Bool) (s : State) : State :=
  if inEntry s then
    applyRom 3 (some 0x22) verifyOk { s with
      rst := { s.rst with validA := false, validB := false, repaired := false, seqA := 0, seqB := 0 }
      loader := { s.loader with byLimit := false } }
  else s

/-- LOAD_FAILS has reached 3 (R221). -/
def loadLimit (verifyOk : Bool) (s : State) : State :=
  if s.loader.st = .entry ∧ 3 ≤ s.rst.loadFails.toNat then
    applyRom 3 none verifyOk { s with
      rst := { s.rst with validA := false, validB := false, repaired := false, seqA := 0, seqB := 0 }
      loader := { s.loader with byLimit := true } }
  else s

/-- DONE (R218): outcome faults, LOAD_FAILS, and the run phase. -/
def loaderDone (s : State) : State :=
  let s := match s.loader.outcome with
    | some f => if f = 0x22 then setCond 0x22 true s else raiseFault f s
    | none => s
  startRun { s with rst := { s.rst with step := .rom, loadFails := if s.loader.byLimit then s.rst.loadFails else 0 }
                    loader := { s.loader with st := .done } }

/-- The H-die answers the envelope transfer and locks (R145). -/
def envAck (s : State) : State :=
  if s.loader.st = .envXfer then
    loaderDone { s with
      hdie := { s.hdie with env := if s.hdie.lock then s.hdie.env else s.envg.shadow, lock := true, loaded := true }
      envg := { s.envg with loaded := true, locked := true } }
  else s

/-- The H-die does not answer (R218). -/
def envTimeout (s : State) : State := if s.loader.st = .envXfer then loaderDone (raiseFault 0x94 s) else s

/-! ## The boot ROM (R214, R480, R481) -/

/-- A select record (R480): KSLOT and ASLOT, where the record is valid. -/
def selectRecord (s : State) (i : Nat) : Option (Nat × Nat) :=
  let r := s.mem.readAll (flashBase + 16 * i) 16
  if r.take 4 = [0x44, 0x47, 0x53, 0x4C] ∧ fieldLe r 12 4 = (crc32c (r.take 12)).toNat then
    some (fieldLe r 8 1, fieldLe r 9 1)
  else none

/-- The record at the highest address that is valid, of 4,096. -/
def selected (s : State) : Option (Nat × Nat) := (List.range 4096).reverse.findSome? (selectRecord s)

/-- Flash offset and size of an image's slots (R479). -/
def slotOfs (app : Bool) (n : Nat) : Nat := if app then 0x81_0000 + 0x100_0000 * n else 0x1_0000 + 0x40_0000 * n
/-- See `slotOfs`. -/
def slotSize (app : Bool) : Nat := if app then 0x100_0000 else 0x40_0000

/-- The magic of an image's header (R481). -/
def imageMagic (app : Bool) : List Byte := if app then [0x44, 0x47, 0x41, 0x49] else [0x44, 0x47, 0x4B, 0x49]

/-- LENGTH of the image in a slot, where its header is good (R481). -/
def imageLen (s : State) (app : Bool) (n : Nat) : Option Nat :=
  let h := s.mem.readAll (flashBase + slotOfs app n) 16
  let len := fieldLe h 4 4
  if n < 2 ∧ h.take 4 = imageMagic app ∧ len ≤ slotSize app then some len else none

/-- SHA-256 of an image (R481). -/
def imageDigest (s : State) (app : Bool) (n len : Nat) : BitVec 256 :=
  digestOf (sha256 (s.mem.readAll (flashBase + slotOfs app n) len))

/-- The slot that boots: the one selected, else the other (R481). -/
def bootSlot (s : State) (app : Bool) (n : Nat) : Option (Nat × Nat) :=
  match imageLen s app n with
  | some l => some (n, l)
  | none => match imageLen s app (1 - n) with
    | some l => some (1 - n, l)
    | none => none

/-- A digest that no image was measured for is absent: MEAS0 stays as it is. -/
def measure0 (s : State) (k : Option (Nat × Nat)) : State :=
  match k with
  | some (n, l) =>
    let d := imageDigest s false n l
    let s := measExtend 0 d { s with sinov := { s.sinov with digest := d } }
    if optAutoReady (optRec s) ∧ d ≠ optKeeperRef (optRec s) then raiseFault 0x25 s else s
  | none => s

/-- Steps 4 and 5 of the release (R214): Keeper SRAM filled, the watchdog started, the slots chosen (R480, R481), the
images' measurements taken (R379). What the SFDP reports is free (log 13). A WARM reset reads the select record again, so that it boots
a newly selected slot too: R137 speaks of the next cold reset only (DESIGN CHOICE, log 40). -/
def keeperFree (s : State) : State :=
  if s.rst.step = .rom ∧ domOn s 3 = true ∧ domOn s 4 = true ∧ domOn s 14 = true then
    let dflt := (selected s).isNone
    let d := optBootDefault (optRec s)
    let sel := (selected s).getD (d, d)
    let k := bootSlot s false sel.1
    let b0 := takeBit { s with mem := s.mem.clearRange 0x1000_0000 0x1004_0000 }
    let b1 := takeBit b0.2
    let s := b1.2
    let s := { s with
      rst := { s.rst with kwdgRun := true, step := .sinov }
      xspi := { s.xspi with
        dflt := dflt, octal := b0.1, noSusp := b1.1
        kslot := match k with | some (n, _) => BitVec.ofNat 4 n | none => 0xF
        aslot := BitVec.ofNat 4 (if sel.2 < 2 then sel.2 else d) } }
    measExtend 2 (digestOf (sha256 (optRec s))) (measure0 s k)
  else s

/-! ## Meanings -/

/-- LOADER_ENTRY_READY (R218). -/
def execLoaderEntryReady (optrec readErrA readErrB verifyOk : Bool) (s : State) : Host.Outcome State Fault Refusal :=
  .next (entryReady optrec readErrA readErrB verifyOk s)

/-- LOADER_ENTRY_TIMEOUT (R218). -/
def execLoaderEntryTimeout (verifyOk : Bool) (s : State) : Host.Outcome State Fault Refusal :=
  .next (entryTimeout verifyOk s)

/-- LOADER_REPAIR_DONE (R220). -/
def execLoaderRepairDone (same verifyOk : Bool) (s : State) : Host.Outcome State Fault Refusal :=
  .next (repairDone same verifyOk s)

/-- LOADER_ENV_XFER_ACK (R145). -/
def execLoaderEnvXferAck (s : State) : Host.Outcome State Fault Refusal := .next (envAck s)

/-- LOADER_ENV_XFER_TIMEOUT (R218). -/
def execLoaderEnvXferTimeout (s : State) : Host.Outcome State Fault Refusal := .next (envTimeout s)

/-- LOAD_FAILS_LIMIT (R221). -/
def execLoadFailsLimit (verifyOk : Bool) (s : State) : Host.Outcome State Fault Refusal := .next (loadLimit verifyOk s)

/-- KEEPER_RELEASE (R214). -/
def execKeeperRelease (s : State) : Host.Outcome State Fault Refusal := .next (keeperFree s)

end Sys2Proof.Machine
end

