-- ==== Sys2Proof/Machine/Mailbox.lean ====
section
/-! DEFINITION. The mailbox counters (03): doorbells, taking and answering a frame, the replay store, the conflict
windows. -/

namespace Sys2Proof.Machine

/-- One counter changed. -/
def cntMod (n : Fin 8) (f : Counter → Counter) (s : State) : State := { s with counters := vmod s.counters n f }

/-! ## Status codes (R106) -/

/-- The status of a reply. -/
inductive Status
  | ok | busy | conflict | refusedDeadline | badMode | badArg | frameErr | envelope | notPermitted | partly | unknownCmd
  | tillFull | timeInvalid | faultPending
  deriving DecidableEq, Repr

/-- Its code. -/
def Status.code : Status → BitVec 16
  | .ok => 0x0000
  | .busy => 0x0001
  | .conflict => 0x0002
  | .refusedDeadline => 0x0003
  | .badMode => 0x0005
  | .badArg => 0x0006
  | .frameErr => 0x0007
  | .envelope => 0x0008
  | .notPermitted => 0x0009
  | .partly => 0x000A
  | .unknownCmd => 0x000B
  | .tillFull => 0x000C
  | .timeInvalid => 0x000D
  | .faultPending => 0x000E

/-! ## The request frame (R85, R87, R89) -/

/-- The request bytes of a counter. -/
def reqBytes (c : Counter) : List Byte := c.req.toList
/-- CMD. -/
def reqCmd (c : Counter) : Nat := fieldLe (reqBytes c) 0 2
/-- TAG. -/
def reqTag (c : Counter) : Byte := c.req[2]
/-- FLAGS. -/
def reqFlags (c : Counter) : Byte := c.req[3]
/-- LEN. -/
def reqLen (c : Counter) : Nat := fieldLe (reqBytes c) 4 2
/-- HINT. -/
def reqHint (c : Counter) : Nat := c.req[6].toNat / 16
/-- HOST_WORD. -/
def reqHost (c : Counter) : Word := BitVec.ofNat 32 (fieldLe (reqBytes c) 8 4)
/-- The payload of LEN bytes. -/
def reqPayload (c : Counter) : List Byte := ((reqBytes c).drop 16).take (reqLen c)

/-- The CRC of a frame (R87): header bytes 0-11, four zero bytes, the payload. -/
def frameCrc (hd payload : List Byte) : Word := crc32c (hd.take 12 ++ [0, 0, 0, 0] ++ payload)

/-- The checks of R89, in its order; the first that fails does not matter, as each gives FRAME_ERR. -/
def frameOk (n : Fin 8) (c : Counter) : Bool :=
  decide (reqLen c ≤ 240) && decide (c.req[7] = 0) && decide (reqFlags c &&& 0xF8 = 0)
    && decide (c.req[6].toNat % 16 = n.val)
    && decide (fieldLe (reqBytes c) 12 4 = (frameCrc (reqBytes c) (reqPayload c)).toNat)

/-- The match CRC (R99): that of the request with RETRY as 0. -/
def matchCrc (c : Counter) : Word :=
  let hd := (reqBytes c).take 12
  frameCrc (hd.take 3 ++ [reqFlags c &&& 0xFE] ++ hd.drop 4) (reqPayload c)

/-! ## The reply (R86, R88) -/

/-- A reply frame from the request's header. -/
def replyFrame (c : Counter) (waited replay : Bool) (status progress : BitVec 16) (payload : List Byte) : List Byte :=
  let fl : Byte := 0x80 ||| (reqFlags c &&& 1) ||| (if replay then 2 else 0) ||| (if waited then 4 else 0)
  let hd := (reqBytes c).take 3 ++ [fl] ++ toLe (BitVec.ofNat 16 payload.length) 2 ++ [c.req[6], 0]
    ++ toLe status 2 ++ toLe progress 2
  hd ++ toLe (frameCrc hd payload) 4 ++ payload

/-- A stored reply as it is sent again (R99): REPLAY set, RETRY of the new request, its CRC anew. -/
def replayFrame (c : Counter) (r : List Byte) : List Byte :=
  let fl : Byte := (r.getD 3 0 &&& 0xFE) ||| (reqFlags c &&& 1) ||| 2
  let hd := r.take 3 ++ [fl] ++ (r.drop 4).take 8
  hd ++ toLe (frameCrc hd (r.drop 16)) 4 ++ r.drop 16

/-- The RPL words take a reply's bytes while the counter is TAKEN (R84). The bytes beyond the reply's end keep what an
earlier reply left there: the spec says nothing of them (DESIGN CHOICE, log 49). -/
def putReply (bs : List Byte) (c : Counter) : Counter :=
  if c.stage = .taken then { c with rpl := Vector.ofFn fun i => (bs[i.val]?).getD c.rpl[i] } else c

/-- The frame waited for a conflict window. -/
def frameWaited (c : Counter) : Bool :=
  match c.frame with
  | .inWindow => true
  | .ready w => w
  | .running w => w
  | .none => false

/-- A frame is answered (R86, R99): the reply is written and stored for the replay match. -/
def answerWith (n : Fin 8) (st : Status) (progress : BitVec 16) (payload : List Byte) (s : State) : State :=
  cntMod n (fun c =>
    let r := replyFrame c (frameWaited c) false st.code progress payload
    { putReply r c with frame := .none, stored := some { tag := reqTag c, crc := matchCrc c, reply := r } }) s

/-- An answer without payload and progress. -/
def answer (n : Fin 8) (st : Status) (s : State) : State := answerWith n st 0 [] s

/-- OK with a payload. -/
def answerOk (n : Fin 8) (payload : List Byte) (s : State) : State := answerWith n .ok 0 payload s

/-- FRAME_ERR (R89, R111): counted, not stored; the eighth in a row is due to raise CNT_BAD_FRAMES. R111 speaks of eight
only; in a longer run the model takes every eighth for another raise (DESIGN CHOICE, log 49). -/
def answerFrameErr (n : Fin 8) (s : State) : State :=
  cntMod n (fun c =>
    { putReply (replyFrame c false false Status.frameErr.code 0 []) c with
      frame := .none, ferr := satInc c.ferr, badRun := c.badRun + 1, badDue := c.badDue || decide ((c.badRun + 1) % 8 = 0) })
    s

/-! ## The commands that exist (R115) -/

/-- A command's row of R115: minimal service set, SERVICE, READY, PRINTING. -/
structure CmdRow where
  min : Bool
  svc : Bool
  rdy : Bool
  prt : Bool
  deriving DecidableEq, Repr

/-- The row of a command code, none where Sinov does not define it. -/
def cmdRow (code : Nat) : Option CmdRow :=
  let all := some (CmdRow.mk false true true true)
  let sr := some (CmdRow.mk false true true false)
  let svc := some (CmdRow.mk false true false false)
  let rdy := some (CmdRow.mk false false true false)
  match code with
  | 0x0100 | 0x0106 | 0x0600 => some (CmdRow.mk true true true true)
  | 0x0101 | 0x0105 | 0x0203 | 0x0400 | 0x0500 | 0x0601 | 0x0602 | 0x0700 | 0x0702 | 0x0800 | 0x0801 | 0x0802
  | 0x0900 | 0x0901 | 0x0B01 => all
  | 0x0102 | 0x0307 | 0x0603 | 0x0A01 | 0x0A02 | 0x0A03 | 0x0B00 => svc
  | 0x0103 | 0x0200 | 0x0201 => rdy
  | 0x0104 | 0x0300 | 0x0301 | 0x0302 | 0x0303 | 0x0304 | 0x0305 | 0x0306 | 0x0401 | 0x0501 | 0x0701 | 0x0703 => sr
  | 0x0202 => some (CmdRow.mk false false false true)
  | 0x0A00 => some (CmdRow.mk true true false false)
  | _ => none

/-- A number below n as a Fin, if it is one. -/
def finOf (n v : Nat) : Option (Fin n) := if h : v < n then some ⟨v, h⟩ else none

/-- The resource that a directive names (R102); none for other commands and for a number that names no resource. Of a
payload too short to hold the number, the absent byte counts as 0, so that the frame joins the window of resource 0
(DESIGN CHOICE, log 49). -/
def resourceOf (code : Nat) (p : List Byte) : Option Resource :=
  let b := fieldLe p 0 1
  match code with
  | 0x0102 | 0x0103 | 0x0104 | 0x0105 => some .mode
  | 0x0200 | 0x0201 | 0x0202 => some .page
  | 0x0300 => (finOf 8 b).map .profile
  | 0x0301 | 0x0302 => (finOf 6 b).map .motor
  | 0x0303 => (finOf 32 b).map .loop
  | 0x0304 => (finOf 3 b).map .hv
  | 0x0305 => some .fuser
  | 0x0306 => (finOf 4 b).map .beam
  | 0x0307 => some .fabric
  | 0x0401 => some .throttle
  | 0x0501 => some .shutdown
  | 0x0601 | 0x0602 | 0x0603 => some (.fault (BitVec.ofNat 8 b))
  | 0x0703 => some .tillRelease
  | 0x0801 | 0x0802 => some .time
  | 0x0A00 | 0x0A01 | 0x0A02 => some .firmware
  | 0x0A03 => some .options
  | 0x0B00 => (finOf 16 b).map .diag
  | _ => none

/-! ## Doorbells (R90-R93) -/

/-- CNT_STALE's condition (R98): some counter is STALE. -/
def staleSync (s : State) : State := setCond 0xC2 (s.counters.toList.any fun c => c.stale) s

/-- RING. -/
def ringOp (n : Fin 8) (s : State) : State :=
  let c := s.counters[n]
  match c.stage with
  | .idle | .done => cntMod n (fun c => { c with stage := .posted, stamp := s.devtime, lastTag := reqTag c }) s
  | _ => cntMod n (fun c => { c with ringLost := true }) s

/-- ABANDON. -/
def abandonOp (n : Fin 8) (s : State) : State :=
  staleSync (cntMod n (fun c => if c.stage = .posted then { c with stage := .idle, stale := false } else c) s)

/-- ACK. -/
def ackOp (n : Fin 8) (s : State) : State := cntMod n (fun c => if c.stage = .done then { c with stage := .idle } else c) s

/-- CNT_DOORBELL (R92): RING and ABANDON together do nothing, RING wins over ACK. -/
def doorbell (n : Fin 8) (v : Word) (s : State) : State :=
  if bit v 0 ∧ bit v 1 then s
  else if bit v 0 then ringOp n s
  else
    let s := if bit v 1 then abandonOp n s else s
    if bit v 2 then ackOp n s else s

/-! ## Service (R95-R99, R101) -/

/-- A counter POSTED for 2 ms or more (R95). -/
def overdue (s : State) (c : Counter) : Bool :=
  decide (c.stage = .posted) && decide (200000 ≤ s.devtime.toNat - c.stamp.toNat)

/-- Counter a is served before b (R95), both POSTED. -/
def servedBefore (s : State) (a b : Fin 8) : Bool :=
  let x := s.counters[a]
  let y := s.counters[b]
  if overdue s x ∧ (overdue s y = false ∨ x.stamp.toNat < y.stamp.toNat) then true
  else if overdue s y ∧ (overdue s x = false ∨ y.stamp.toNat < x.stamp.toNat) then false
  else
    decide (y.rank.val < x.rank.val)
      || (decide (x.rank = y.rank) && (decide (reqHint y < reqHint x)
        || (decide (reqHint x = reqHint y) && decide (a.val ≤ b.val))))

/-- Sinov's next frame is counter n's (R95). -/
def servedNext (s : State) (n : Fin 8) : Bool :=
  decide (s.counters[n].stage = .posted)
    && (List.finRange 8).all fun m => decide (s.counters[m].stage ≠ .posted) || servedBefore s n m

/-- Between a torn record and the record that follows it Sinov takes no frame and answers none (R366). -/
def tornGap (s : State) : Bool := decide (0 < s.till.tornRun) && !s.sinov.wants.isEmpty && !s.till.stopped

/-- Sinov takes frames: it runs and has set the mode (R214, step 6), no PFW has come (R187), no torn record is being
followed up (R366). -/
def takesFrames (s : State) : Bool := sinovRuns s && decide (s.sys.mode ≠ 0) && !s.ps.pfwSeen && !tornGap s

/-- A window for a directive (R101): joined, or opened to end W after the STAMP. -/
def joinWindow (r : Resource) (n : Fin 8) (s : State) : State :=
  let s := cntMod n (fun c => { c with frame := .inWindow }) s
  if s.windows.any fun w => w.res = r then
    { s with windows := s.windows.map fun w => if w.res = r then { w with members := w.members ++ [n] } else w }
  else
    { s with windows := s.windows ++
        [{ res := r, endsAt := s.counters[n].stamp + BitVec.ofNat 64 (10000 * s.cntWindow.toNat), members := [n] }] }

/-- The minimal service set answers through C4 and C6 only (R32). -/
def minCounter (n : Fin 8) : Bool := decide (n = 4) || decide (n = 6)

/-- Counter n's frame waits behind those taken before it (R103). -/
def queueFrame (n : Fin 8) (s : State) : State :=
  { s with sinov := { s.sinov with served := (s.sinov.served.filter fun m => m ≠ n) ++ [n] } }

/-- A frame that passed R89 (R79, R99, R101, R103): echoed on C7, replayed, unknown, put into a window, or ready. -/
def sortFrame (n : Fin 8) (s : State) : State :=
  let s := cntMod n (fun c => { c with badRun := 0 }) s
  let c := s.counters[n]
  if n = 7 then
    cntMod n (fun c => { putReply (replyFrame c false false 0 0 (reqPayload c)) c with frame := .none }) s
  else
    match c.stored with
    | some r =>
      if r.tag = reqTag c ∧ r.crc = matchCrc c then cntMod n (fun c => { putReply (replayFrame c r.reply) c with frame := .none }) s
      else sort2 n s
    | none => sort2 n s
where
  sort2 (n : Fin 8) (s : State) : State :=
    let c := s.counters[n]
    if (cmdRow (reqCmd c)).isNone then answer n .unknownCmd s
    else
      match resourceOf (reqCmd c) (reqPayload c) with
      | some r => joinWindow r n s
      | none => queueFrame n (cntMod n (fun c => { c with frame := .ready false }) s)

/-- TAKE of one counter (R84, R89, R90): a POSTED counter that Sinov's order names (R95) moves to TAKEN, its frame checked. -/
def takeOp (n : Fin 8) (s : State) : State :=
  if takesFrames s ∧ servedNext s n = true then
    let s := staleSync (cntMod n (fun c => { c with stage := .taken, stale := false, frame := .none }) s)
    if frameOk n s.counters[n] then sortFrame n s else answerFrameErr n s
  else s

/-- DONE of one counter (R90). -/
def doneOp (n : Fin 8) (s : State) : State := cntMod n (fun c => if c.stage = .taken then { c with stage := .done } else c) s

/-- A Keeper write of CNT_TAKE or CNT_DONE, bit by bit. -/
def cntBits (f : Fin 8 → State → State) (v : Word) (s : State) : State :=
  (List.finRange 8).foldl (fun s n => if bit v n.val then f n s else s) s

/-- CNT_STATUS, W1C (R82). -/
def cntStatusClear (n : Fin 8) (v : Word) (s : State) : State :=
  cntMod n (fun c => { c with ringLost := c.ringLost && !bit v 4, rst := c.rst && !bit v 5 }) s

/-- STALE (R98). -/
def staleOp (n : Fin 8) (s : State) : State :=
  if s.counters[n].stage = .posted ∧ s.counters[n].stale = false then
    staleSync (cntMod n (fun c => { c with stale := true }) s)
  else s

/-- CNT_BAD_FRAMES (R111). -/
def badFramesOp (n : Fin 8) (s : State) : State :=
  if s.counters[n].badDue then raiseFault 0xC3 (cntMod n (fun c => { c with badDue := false }) s) else s

/-- Directive a goes before b when their window closes (R101). -/
def winsOver (s : State) (a b : Fin 8) : Bool :=
  let x := s.counters[a]
  let y := s.counters[b]
  decide (y.rank.val < x.rank.val)
    || (decide (x.rank = y.rank) && (decide (x.stamp.toNat < y.stamp.toNat)
      || (decide (x.stamp = y.stamp) && decide (a.val ≤ b.val))))

/-- The winner of a window. -/
def winner (s : State) (ms : List (Fin 8)) : Option (Fin 8) := ms.find? fun a => ms.all fun b => winsOver s a b

/-- A window closes (R101, R45): the winner may execute, every other directive gets CONFLICT. -/
def closeWindow (r : Resource) (s : State) : State :=
  match s.windows.find? fun w => w.res = r with
  | some w =>
    let s := { s with windows := s.windows.filter fun w => w.res ≠ r }
    match winner s w.members with
    | some a =>
      let s := cntMod a (fun c => { c with frame := .ready true }) s
      let s := { s with sinov := { s.sinov with closedAt := s.sinov.closedAt.set a w.endsAt } }
      w.members.foldl (fun s b => if b = a then s else answer b .conflict s) s
    | none => s
  | none => s

/-- Counter n's frame is ready, and it is its turn to execute: a frame without a window follows those taken before it
(R103); a winner follows the winners of windows that close in the same cycle and rank above it (R104). -/
def frameReady (s : State) (n : Fin 8) : Bool :=
  let e := s.sinov.closedAt[n]
  match s.counters[n].frame with
  | .ready true =>
    (List.finRange 8).all (fun m => decide (m = n) || decide (s.counters[m].frame ≠ .ready true)
        || decide (s.sinov.closedAt[m] ≠ e) || winsOver s n m)
      && s.windows.all (fun w => decide (w.endsAt ≠ e) || (match winner s w.members with
        | some a => winsOver s n a
        | none => true))
  | .ready false => decide (s.sinov.served.find? (fun m => decide (s.counters[m].frame = .ready false)) = some n)
  | _ => false

/-! ## Meanings -/

/-- COUNTER_STALE (R98). -/
def execCounterStale (n : Fin 8) (s : State) : Host.Outcome State Fault Refusal := .next (staleOp n s)

/-- CNT_BAD_FRAMES (R111). -/
def execCntBadFrames (n : Fin 8) (s : State) : Host.Outcome State Fault Refusal := .next (badFramesOp n s)

/-- CONFLICT_WINDOW_CLOSE (R101). -/
def execConflictWindowClose (r : Resource) (s : State) : Host.Outcome State Fault Refusal := .next (closeWindow r s)

end Sys2Proof.Machine
end

