-- ==== Sys2Proof/Machine/Records.lean ====
section
/-! DEFINITION. The records that Sinov commits: staging, the TILL engine's commands and outcomes, what follows a commit and
what follows a torn record (13, R361-R369; R39, R73, R74, R132, R137, R138). -/

namespace Sys2Proof.Machine

/-! ## After a commit -/

/-- The values of the SL fields, in ascending address order (R379): FAB_ALLOT, FAB_BE_CFG, HS_CFG (log 22). -/
def sealWords (s : State) : List Word :=
  [fieldAt s.fabric.allotV 0 ||| fieldAt s.fabric.allotE 8, fieldAt s.fabric.age 0,
   bitAt s.hspi.mode0 0 ||| fieldAt s.hspi.len 8]

/-- MEAS3 takes the seal's digest (R379). -/
def sealMeasure (s : State) : State := measExtend 3 (digestOf (sha256 ((sealWords s).flatMap fun w => toLe w 4))) s

/-- The page's docket has committed (R37, R39, R59, R61, R278): RELEASE, the reserved records free, READY. -/
def docketDone (s : State) : State :=
  let s := dkReleaseOp { s with dkStore := { s.dkStore with state := 1, seq := s.till.head, due := false } }
  let s := tillSync { s with till := { s.till with rsv := 0 } }
  let s := { s with
    video := { s.video with en := false, running := false, granted := 0, fifo := [] }
    beam := { s.beam with en := false, sync := .idle, gate := false, pulse := false, linesDue := false, pulses := [] }
    sinov := { s.sinov with page := none } }
  let s := if s.sys.mode = 3 then sinovPix (modeChange { s with sys := { s.sys with mode := 2 } }) else s
  let s := reapply s
  if s.ps.docketEnds then deferralEnd s else s

/-- A select record (R480). -/
def selectBytes (seq : Nat) (k a : Nat) : List Byte :=
  let hd : List Byte := [0x44, 0x47, 0x53, 0x4C] ++ toLe (BitVec.ofNat 32 seq) 4
    ++ [BitVec.ofNat 8 k, BitVec.ofNat 8 a, 0, 0]
  hd ++ toLe (crc32c hd) 4

/-- The staging slot of an image (R479): the one from which the device did not boot. -/
def stageSlot (s : State) (app : Bool) : Nat :=
  let b := (if app then s.xspi.aslot else s.xspi.kslot).toNat
  if b < 2 then 1 - b else optBootDefault (optRec s)

/-- FW_COMMIT selects the staged slot (R137, R480): a record at the first free place of the log, which is erased when full. -/
def selectSlot (app : Bool) (s : State) : State :=
  let d := optBootDefault (optRec s)
  let old := (selected s).getD (d, d)
  let n := stageSlot s app
  let last := (List.range 4096).reverse.find? fun i => (selectRecord s i).isSome
  let seq := match last with
    | some i => fieldLe (s.mem.readAll (flashBase + 16 * i) 16) 4 4 + 1
    | none => 1
  let bs := selectBytes seq (if app then old.1 else n) (if app then n else old.2)
  match (List.range 4096).find? fun i => (List.range (4096 - i)).all fun j =>
      (s.mem.readAll (flashBase + 16 * (i + j)) 16).all (· == 0xFF) with
  | some i => memPut s (flashBase + 16 * i) bs
  | none => memPut (flashErase 0 s) flashBase bs

/-- The copies of a new option record are written, B before A (R138). -/
def optionCopies (copies : Nat) (bs : List Byte) (s : State) : State :=
  let s := if 1 ≤ copies then memPut s (copyAddr true) bs else s
  if 2 ≤ copies then memPut s (copyAddr false) bs else s

/-- The records that SLEEP's and the power-up's mode changes carry (R362; log 22): old mode, new mode, cause. -/
def modeBody (old new cause : Byte) : List Byte := [old, new, cause]

/-- No fault of class GRACE or IMMEDIATE is uncleared (R38, R41, R53); the class of a RAISED fault is the one with which it
was raised (R158). -/
def graceClear (s : State) : Bool :=
  (List.range 256).all fun f =>
    !s.hub.raised.getLsbD f || decide (bits (s.hub.timerCfg[f]?.getD 0) 0 2 = (0 : BitVec 2))

/-- READY at power-up (R38), once the power-up record is written. -/
def readyRule (s : State) : Bool :=
  optAutoReady (optRec s) && decide (s.sinov.digest = optKeeperRef (optRec s)) && decide (s.rst.optState = 0)
    && graceClear s && !s.sys.minset && decide ((if s.rtc.lostDue then 2 else 1) ≤ s.till.free.toNat)

/-- The TIME_LOST record that is due (R375, R376), where a record is free. -/
def timeLostRecord (s : State) : State :=
  if s.rtc.lostDue then
    let s := { s with rtc := { s.rtc with lostDue := false } }
    if 1 ≤ tillFreeCmd s then wantRecord (ownRecord 0x0031 (toLe s.rtc.lostDt 8) false .none) s else s
  else s

/-- The mode is set (R38, R40): SERVICE; the MODE record leads on to READY. -/
def setMode (s : State) : State :=
  let ready := readyRule s
  let s := timeLostRecord (thermalTable { s with sys := { s.sys with mode := 1 } })
  if ready then wantRecord (ownRecord 0x0002 (modeBody 1 2 1) false .readyAtPowerUp) s else s

/-- SLEEP has its record (R39, R43, R118, R373): DORMANT is entered, in which the mode is none that R507 codes, no frame is
taken and no engine output runs (R35); the alarm is armed, the power-down is due. -/
def sleepGo (wake : BitVec 3) (alarm : BitVec 48) (s : State) : State :=
  let s := enterDormant s
  { s with rtc := { s.rtc with alarm := alarm, alarmEn := wake.getLsbD 0, alarmDone := false }
           sinov := { s.sinov with sleepReq := some wake } }

/-- What Sinov does once a record has committed. -/
def runCont (c : Cont) (s : State) : State :=
  match c with
  | .none => s
  | .reply n p => answerOk n p s
  | .replySeq n => answerOk n (toLe s.till.head 8) s
  | .toMode m n => if m = 2 then answer n .ok (enterReady (sealMeasure s)) else answer n .ok (enterService s)
  | .readyAtPowerUp => enterReady s
  | .unseal n ok => if ok then answer n .ok (enterService s) else answer n .notPermitted s
  | .sleepAfter n w a => answer n .ok (sleepGo w a s)
  | .docket => docketDone s
  | .powerUp => setMode s
  | .fwSelect n image => { s with sinov := { s.sinov with after := some (.slot n image (toLe s.till.head 8)) } }
  | .optionCopies n bs => { s with sinov := { s.sinov with after := some (.copies n bs (toLe s.till.head 8)) } }
  | .failed n => answer n .tillFull s
  | .powerFail => deferralEnd s

/-- What a record that does not commit comes to (R39, R105): a command reports no effect; CLEAR_FAULT, TIME_SET and
TIME_LOST_CLEAR have had theirs; power-up goes on. -/
def failCont : Cont → Cont
  | .none => .none
  | .reply n p => .reply n p
  | .replySeq n => .failed n
  | .toMode _ n => .failed n
  | .readyAtPowerUp => .none
  | .unseal n _ => .failed n
  | .sleepAfter n _ _ => .failed n
  | .docket => .docket
  | .powerUp => .powerUp
  | .fwSelect n _ => .failed n
  | .optionCopies n _ => .failed n
  | .failed n => .failed n
  | .powerFail => .none

/-! ## The engine at Sinov's hands -/

/-- The first record that Sinov wants leaves the queue. -/
def popWant (s : State) : State := { s with sinov := { s.sinov with wants := s.sinov.wants.drop 1, inEngine := false } }

/-- The staging registers take a record (R377). -/
def stageWant (w : Want) (s : State) : State :=
  { s with till := { s.till with
      typ := w.typ, subtype := w.subtype, len := BitVec.ofNat 8 w.body.length, counter := w.counter
      mode := modeCode s, hostWord := w.hostWord, upto := w.release.getD s.till.upto
      body := Vector.ofFn fun i => if 4 * i.val < w.body.length then BitVec.ofNat 32 (fieldLe w.body (4 * i.val) 4)
        else s.till.body[i] } }

/-- The engine would take a record, were one free for it. -/
def engineIdle (s : State) : Bool :=
  !s.till.busy && !s.till.stopped && decide (s.till.tornRun < 4) && s.till.scanned

/-- A record for which none is free is given up, a docket excepted (R74). -/
def giveUp (w : Want) (s : State) : State :=
  if engineIdle s ∧ w.cont ≠ .docket then runCont (failCont w.cont) (popWant s) else s

/-- TL_CMD with OP COMMIT (R361, R377): the record Sinov wants first, or with none wanted the staged one. -/
def commitCmd (rsvOk : Bool) (s : State) : State :=
  if s.till.busy then s
  else match s.sinov.wants with
    | [] => tillStart rsvOk s
    | w :: _ =>
      if w.release.isSome then s
      else if engineFree w.rsvOk s then
        let s := tillStart w.rsvOk (stageWant w s)
        { s with sinov := { s.sinov with inEngine := true } }
      else giveUp w s

/-- TL_CMD with OP RELEASE (R368). -/
def releaseCmd (rsvOk : Bool) (s : State) : State :=
  if s.till.busy then s
  else match s.sinov.wants with
    | [] => tillRelease rsvOk s
    | w :: _ =>
      match w.release with
      | none => s
      | some u =>
        if releaseFree w.rsvOk u s then
          let s := tillRelease w.rsvOk (stageWant w s)
          { s with sinov := { s.sinov with inEngine := true } }
        else giveUp w s

/-- TL_CMD. -/
def tlCmd (v : Word) (s : State) : State :=
  match (bits v 0 2 : BitVec 2).toNat with
  | 1 => commitCmd (bit v 2) s
  | 2 => releaseCmd (bit v 2) s
  | 3 => scanStart s
  | _ => s

/-- A torn record is followed by its TORN_NOTE, which then ends the command (R366); a docket is tried again (R74). -/
def afterTorn (seq : BitVec 64) (w : Want) (s : State) : State :=
  if w.cont = .docket then s
  else if 1 ≤ s.till.free.toNat ∧ s.till.tornRun < 4 then
    { s with sinov := { s.sinov with
        wants := ownRecord 0x0051 (toLe seq 8) true (failCont w.cont) :: s.sinov.wants.drop 1 } }
  else if s.till.tornRun < 4 then runCont (failCont w.cont) (popWant s)
  else s

/-- After ESC_OFF with no docket to wait for, any record that commits lets the shut-off follow (R155, R198). -/
def offRecord (s : State) : State := if s.ps.offCause = .escOff ∧ s.ps.docketEnds = false then deferralEnd s else s

/-- The record in the engine has ended: what follows for Sinov. -/
def wantDone (ok : Bool) (seq : BitVec 64) (s : State) : State :=
  if s.sinov.inEngine then
    let s := { s with sinov := { s.sinov with inEngine := false } }
    match s.sinov.wants with
    | w :: _ => if ok then offRecord (runCont w.cont (popWant s)) else afterTorn seq w s
    | [] => s
  else s

/-- The engine writes a record of a commit, or of a release. -/
def committing (s : State) : Bool := match s.till.op with | .commit _ => true | _ => false
/-- See `committing`. -/
def releasingOp (s : State) : Bool := match s.till.op with | .release _ _ => true | _ => false

/-- A write ends, committed or torn (R361). A release may tear too. -/
def commitDone (ok : Bool) (s : State) : State :=
  if committing s || (releasingOp s && !ok) then wantDone ok s.till.next (engineDone ok s) else s

/-- A release commits (R368). -/
def releaseDone (s : State) : State :=
  if releasingOp s then wantDone true s.till.next (engineDone true s) else s

/-- Four torn records in a row (R366): the engine stops, the Till counts as full, what was wanted fails. -/
def stopTill (s : State) : State :=
  if 4 ≤ s.till.tornRun ∧ s.till.stopped = false then
    let ws := s.sinov.wants
    let s := tillSync { s with till := { s.till with stopped := true }
                               sinov := { s.sinov with wants := ws.filter fun w => w.cont = .docket, inEngine := false } }
    ws.foldl (fun s w => if w.cont = .docket then s else runCont (failCont w.cont) s) s
  else s

/-! ## Time (R132, R372, R376) -/

/-- The old seconds and sub-seconds, the new seconds and the edge's DEVTIME (R362). -/
def timeSetBody (old new : State) : List Byte :=
  toLe old.rtc.sec 8 ++ toLe old.rtc.sub 2 ++ toLe new.rtc.sec 8 ++ toLe new.rtc.applyDt 8

/-- An apply edge (R372), after which a waiting TIME_SET has its record written and its reply (R132). -/
def timeEdge (f : State → State) (s : State) : State :=
  let t := f s
  match s.sinov.timeWait with
  | some n =>
    if s.rtc.pending && !t.rtc.pending then
      let w : Want := { typ := 0x0030, subtype := 0, counter := BitVec.ofNat 8 n.val, hostWord := reqHost s.counters[n]
                        body := timeSetBody s t, rsvOk := false, release := none
                        cont := .reply n (toLe s.rtc.sec 8 ++ toLe t.rtc.applyDt 8) }
      wantRecord w { t with sinov := { t.sinov with timeWait := none } }
    else t
  | none => t

/-- CK_AO32 stops (R376): Sinov, where it runs, writes the TIME_LOST record. -/
def ao32Lost (s : State) : State :=
  let s := ao32StopOp s
  if sinovRuns s then timeLostRecord s else s

/-! ## Meanings -/

/-- TL_COMMIT_DONE (R361). -/
def execTlCommitDone (ok : Bool) (s : State) : Host.Outcome State Fault Refusal := .next (commitDone ok s)

/-- TL_RELEASE_DONE (R368). -/
def execTlReleaseDone (s : State) : Host.Outcome State Fault Refusal := .next (releaseDone s)

/-- TILL_STOPPED (R366). -/
def execTillStopped (s : State) : Host.Outcome State Fault Refusal := .next (stopTill s)

/-- TIME_APPLY_EDGE (R372). -/
def execTimeApplyEdge (s : State) : Host.Outcome State Fault Refusal := .next (timeEdge applyEdge s)

/-- RTC_SECOND (R370). -/
def execRtcSecond (s : State) : Host.Outcome State Fault Refusal := .next (timeEdge secondOp s)

/-- AO32_STOP (R376, R255). -/
def execAo32Stop (s : State) : Host.Outcome State Fault Refusal := .next (ao32Lost s)

end Sys2Proof.Machine
end

