-- ==== Sys2Proof/Machine/Frames.lean ====
section
/-! DEFINITION. How Sinov executes a frame that is ready (R113-R116): the general checks, the checks of a command in their
order, and the commands that wait for a record. -/

namespace Sys2Proof.Machine

/-! ## General checks -/

/-- Commands that R74 accepts while PRINTING has no page in flight, among those legal in PRINTING. -/
def pendingOk (code : Nat) : Bool :=
  decide (code / 256 = 1) || decide (code / 256 = 6) || decide (code / 256 = 8) || decide (code = 0x0203)
    || decide (code = 0x0700) || decide (code = 0x0702)

/-- The mode lists the command (R113, R114, R115). -/
def modeOk (code : Nat) (r : CmdRow) (s : State) : Bool :=
  match s.sys.mode.toNat with
  | 1 => r.svc
  | 2 => r.rdy
  | 3 => r.prt && (pageInFlight s || pendingOk code)
  | _ => false

/-- Sinov executes the frame of counter n, a command `code` whose payload `sel` picks: the first two checks of R113, then
the command's own meaning. -/
def runFrame (code : Nat) (sel : List Byte → Bool) (n : Fin 8) (run : List Byte → State → State) (s : State) : State :=
  let c := s.counters[n]
  if frameReady s n && decide (reqCmd c = code) && sel (reqPayload c) && sinovRuns s && !tornGap s then
    match cmdRow code with
    | some r =>
      if minimalSet s && (!r.min || !minCounter n) then answer n .notPermitted s
      else if !modeOk code r s then answer n .badMode s
      else run (reqPayload c) s
    | none => s
  else s

/-- Every payload. -/
def anyPayload (_ : List Byte) : Bool := true

/-- The first check that fails, each with the status it returns (R113). -/
def firstFail (cs : List (Bool × Status)) : Option Status := (cs.find? fun c => c.1).map (·.2)

/-- A command's checks in order; if none fails it runs. -/
def judged (n : Fin 8) (cs : List (Bool × Status)) (run : State → State) (s : State) : State :=
  match firstFail cs with
  | some st => answer n st s
  | none => run s

/-! ## Resources and records -/

/-- The frame of counter m is executing. -/
def frameRunning (s : State) (m : Fin 8) : Bool :=
  match s.counters[m].frame with
  | .running _ => true
  | _ => false

/-- The resource that counter m's frame names. -/
def frameResource (s : State) (m : Fin 8) : Option Resource :=
  resourceOf (reqCmd s.counters[m]) (reqPayload s.counters[m])

/-- A resource the command needs is held by a running command (R113). -/
def resBusy (s : State) (n : Fin 8) : Bool :=
  (List.finRange 8).any fun m => decide (m ≠ n) && frameRunning s m && (frameResource s m).isSome
    && decide (frameResource s m = frameResource s n)

/-- Records free for a command beside those already wanted (R58, R367). -/
def recordsLeft (s : State) : Nat :=
  tillFreeCmd s - ((s.sinov.wants.filter fun w => !w.rsvOk).length + if s.sinov.timeWait.isSome then 1 else 0)

/-- No record is free for a command that writes one. -/
def tillNone (s : State) : Bool := decide (recordsLeft s = 0)

/-- The frame executes on, its reply to come. -/
def setRunning (n : Fin 8) (s : State) : State :=
  cntMod n (fun c => { c with frame := .running (frameWaited c) }) s

/-- A record of counter n's command (R360, R86). -/
def cmdWant (n : Fin 8) (s : State) (typ subtype : BitVec 16) (body : List Byte) (cont : Cont) : Want :=
  { typ := typ, subtype := subtype, counter := BitVec.ofNat 8 n.val, hostWord := reqHost s.counters[n], body := body
    rsvOk := false, release := none, cont := cont }

/-- Counter n's command writes a record; `cont` follows its commit. -/
def writeRecord (n : Fin 8) (typ subtype : BitVec 16) (body : List Byte) (cont : Cont) (s : State) : State :=
  wantRecord (cmdWant n s typ subtype body cont) (setRunning n s)

/-- Bytes [ofs, ofs + n) of a payload are 0: a reserved field. -/
def reserved (p : List Byte) (ofs n : Nat) : Bool := decide (fieldLe p ofs n = 0)

/-- LEN differs from the length of R115. -/
def lenNot (p : List Byte) (n : Nat) : Bool := decide (p.length ≠ n)

end Sys2Proof.Machine
end

