-- ==== Sys2Proof/Machine/Admission.lean ====
section
/-! DEFINITION. Sinov's page commands (02, R50-R63, R121): the descriptor, the seven checks, the forecast, the start of a
page. Quantities with fractions are kept as numerator and denominator. -/

namespace Sys2Proof.Machine

/-! ## The descriptor -/

/-- PAGE_ID, RES, BPP, BEAMS, LINE_PIXELS, LINE_STRIDE, LINES, RASTER_BASE, SPEED, PROFILE, MEDIA_CH, MOTOR_SET, TOF, TAIL. -/
structure Desc where
  pageId : Nat
  res    : Nat
  bpp    : Nat
  beams  : Nat
  pixels : Nat
  stride : Nat
  lines  : Nat
  base   : Nat
  speed  : Nat
  prof   : Nat
  media  : Nat
  set    : Nat
  tof    : Nat
  tail   : Nat
  deriving DecidableEq, Repr

/-- The fields of 48 descriptor bytes. -/
def descOf (p : List Byte) : Desc where
  pageId := fieldLe p 0 4
  res := fieldLe p 4 2
  bpp := fieldLe p 6 1
  beams := fieldLe p 7 1
  pixels := fieldLe p 8 4
  stride := fieldLe p 12 4
  lines := fieldLe p 16 4
  base := fieldLe p 20 8
  speed := fieldLe p 28 2
  prof := fieldLe p 30 1
  media := fieldLe p 31 1
  set := fieldLe p 32 1
  tof := fieldLe p 36 4
  tail := fieldLe p 40 4

/-- Bytes of a line. -/
def lineBytesOf (d : Desc) : Nat := (d.pixels * d.bpp + 7) / 8

/-- T_FACET in ns is `facetNum / facetDen` (R54). -/
def facetNum (d : Desc) : Nat := d.beams * 25400000000
/-- See `facetNum`. -/
def facetDen (d : Desc) : Nat := d.speed * d.res

/-- The stored configuration of channel k. -/
def motorCfg (s : State) (k : Nat) : Option MotorCfg := (s.sinov.motor[k]?).join

/-- A descriptor field out of range (R50). -/
def descBad (s : State) (d : Desc) : Bool :=
  (decide (d.res ≠ 600) && decide (d.res ≠ 1200)) || (decide (d.bpp ≠ 1) && decide (d.bpp ≠ 2)) || decide (d.beams = 0)
    || decide (4 < d.beams) || decide (d.pixels * 254 < 540 * d.res) || decide (2200 * d.res < d.pixels * 254)
    || decide (d.stride % 64 ≠ 0) || decide (d.stride < lineBytesOf d)
    || decide (d.lines = 0) || decide (65535 < d.lines) || decide (d.lines % d.beams ≠ 0) || decide (d.base % 64 ≠ 0)
    || decide (d.base < 0x8000_0000)
    || decide (0x1_0000_0000 < d.base + (d.lines - 1) * d.stride + (lineBytesOf d + 63) / 64 * 64)
    || decide (d.speed < 80) || decide (320 < d.speed) || decide (7 < d.prof)
    || (s.sinov.profile[Fin.ofNat 8 d.prof]).isNone || decide (d.set % 2 = 0) || decide (0x3F < d.set)
    || ((List.range 6).any fun k => d.set.testBit k && (motorCfg s k).isNone)
    || decide (d.media = 0) || decide (5 < d.media) || !d.set.testBit d.media || decide (500000 < d.tof)
    || decide (500000 < d.tail)

/-! ## Pixel timing (R248, R51) -/

/-- DUR and DELTA of a profile's segments. -/
def profile (s : State) (d : Desc) : List (Nat × Int) :=
  ((s.sinov.profile[Fin.ofNat 8 d.prof]).getD []).map fun x =>
    ((bits x 0 12 : BitVec 12).toNat, (bits x 12 12 : BitVec 12).toInt)

/-- 100,000 × S in CK_REF cycles: the integral of 1 + δ from T_BDG (50 cycles) to t_end. -/
def spanSum (xs : List (Nat × Int)) : Int :=
  match xs with
  | [] => 0
  | x :: r => 2 * ((x.1 : Int) - 50) * (50000 + x.2)
      + (((xs.zip r).map fun y => (y.2.1 : Int) * (100000 + y.1.2 + y.2.2)).sum)

/-- Cycles to t_end. -/
def spanEnd (xs : List (Nat × Int)) : Nat := (xs.map (·.1)).sum

/-- The extremes of δ in the span, units of 20 ppm. -/
def deltaMin (xs : List (Nat × Int)) : Int := (xs.map (·.2)).foldl min ((xs.headD (0, 0)).2)
/-- See `deltaMin`. -/
def deltaMax (xs : List (Nat × Int)) : Int := (xs.map (·.2)).foldl max ((xs.headD (0, 0)).2)

/-- F_PX × mult × (1 + δ) compared with `mhz`: the difference of the two sides times a positive factor. -/
def pixelRate (pixels : Nat) (sum : Int) (mult : Nat) (delta mhz : Int) : Int :=
  (pixels : Int) * 2500000 * mult * (50000 + delta) - mhz * 50000 * sum

/-- PDIV code (0, 1, 2 for 4, 8, 16) for a divider, the smallest that keeps F_VCO in range. -/
def pdivFor (pixels : Nat) (sum lo hi : Int) (px : Nat) : Option Nat :=
  ([0, 1, 2] : List Nat).find? fun c =>
    let m := px * 2 ^ (c + 2)
    decide (0 ≤ pixelRate pixels sum m lo 1600) && decide (pixelRate pixels sum m hi 3200 ≤ 0)

/-- PXDIV and the PDIV code of a page (R248); none where no divider serves. -/
def pixelDividers (s : State) (d : Desc) : Option (Nat × Nat) :=
  let xs := profile s d
  let sum := spanSum xs
  let lo := deltaMin xs
  let hi := deltaMax xs
  if sum ≤ 0 then none
  else ((List.range 256).map (· + 1)).findSome? fun px =>
    if 0 ≤ pixelRate d.pixels sum px lo 100 ∧ pixelRate d.pixels sum px hi 400 ≤ 0 then
      (pdivFor d.pixels sum lo hi px).map fun c => (px, c)
    else none

/-- The line cannot be placed within a facet (R51). -/
def spanBad (s : State) (d : Desc) : Bool :=
  (pixelDividers s d).isNone
    || decide (facetNum d < (40 * spanEnd (profile s d) + 1000) * facetDen d)

/-- The feedback word NINT × 2^20 + NFRAC of the page's PIXPLL, to the nearest. -/
def vcoWord (s : State) (d : Desc) (px c : Nat) : Nat :=
  let sum := (spanSum (profile s d)).toNat
  (2 * d.pixels * 2500000 * px * 2 ^ (c + 2) * 2 ^ 20 + 25 * sum) / (2 * 25 * sum)

/-! ## Motors and lasers (R274, R299) -/

/-- ω_0 is `polyNum / polyDen` rpm (R55). -/
def polyNum (d : Desc) : Nat := d.speed * d.res * 600
/-- See `polyNum`. -/
def polyDen (s : State) (d : Desc) : Nat := 254 * d.beams * ((motorCfg s 0).map (·.facets)).getD 0

/-- A descriptor that the motors do not fit (R299). -/
def motorsBad (s : State) (d : Desc) : Bool :=
  let m0 := s.motors[0]
  let mm := s.motors[Fin.ofNat 6 d.media]
  let sp0 := ((motorCfg s 0).map (·.speed)).getD 0
  let diff : Int := (sp0 * polyDen s d : Int) - polyNum d
  ((List.finRange 6).any fun k => d.set.testBit k.val && (!s.motors[k].en || !s.motors[k].cprValid))
    || m0.page || decide (m0.src ≠ 0) || !m0.atSpeed || decide (polyNum d < diff.natAbs * 1000)
    || !mm.page || decide (mm.src ≠ 0) || !motStill mm || decide (mm.speed ≠ 0)

/-- A descriptor that the lasers do not fit (R274). -/
def lasersBad (s : State) (d : Desc) : Bool :=
  ((List.finRange 4).any fun b => decide (b.val < d.beams)
    && (!((s.sinov.laser[b]).map (·.en)).getD false || !domOn s (laserDomain b)))
    || decide (d.beams ≤ s.beam.bdBeam.val)

/-! ## The checks (R54, R55) -/

/-- An item of a check: its number, unit, margin `num / den` and limit, and whether it counts as failed whatever the
margin. -/
structure Item where
  id    : Nat
  unit  : Byte
  num   : Int
  den   : Nat
  limit : Int
  deriving DecidableEq, Repr

/-- It passes. -/
def itemOk (x : Item) : Bool := decide (0 ≤ x.num)

/-- The margin rounded down, in 4 signed bytes. -/
def itemMargin (x : Item) : Int := max (-2147483648) (min 2147483647 (x.num / (x.den : Int)))

/-- The margin of x is a smaller fraction of its limit than that of y; a limit below 1 counts as 1 (log 38). -/
def itemLess (x y : Item) : Bool :=
  decide (x.num * y.den * max 1 y.limit < y.num * x.den * max 1 x.limit)

/-- The reported item (R57): the first that fails, else the one with the smallest fraction. Where no node has a limit A5 has
no item, and R57 does not say what its entry holds; the model reports item 0 with margin 0 (DESIGN CHOICE, log 38). -/
def reported (xs : List Item) : Item :=
  match xs.find? fun x => !itemOk x with
  | some x => x
  | none => match xs with
    | [] => ⟨0, 0x06, 0, 1, 1⟩
    | x :: r => r.foldl (fun a b => if itemLess b a then b else a) x

/-- A1: video bandwidth in kB/s. -/
def checkA1 (s : State) (d : Desc) : List Item :=
  let avail := s.fabric.allotV.toNat * 100000
  [⟨0, 0x01, (avail * 25400 : Int) - (d.stride * d.speed * d.res : Nat), 25400, avail⟩]

/-- A2: line-time margin in ns. With no VIDEO slot the time required is unbounded (log 38). -/
def checkA2 (s : State) (d : Desc) : List Item :=
  let n := s.fabric.allotV.toNat
  let k := d.beams * d.stride / 64
  let need := 1600 + (k + n - 1) / n * 640
  if n = 0 then [⟨0, 0x02, -2147483648, 1, 1⟩]
  else [⟨0, 0x02, (facetNum d : Int) - ((2000 + need) * facetDen d : Nat), facetDen d,
         (facetNum d / facetDen d - 2000 : Int)⟩]

/-- A3: loop slots per 1,024 µs, of the committed schedule (R316). -/
def checkA3 (s : State) (d : Desc) : List Item :=
  let sum := ((List.finRange 32).map fun n =>
    let l := s.loops.loops[n]
    if l.comEn || (decide (5 ≤ n.val) && decide (n.val < 5 + d.beams)) then loopSlots l.comPlog else 0).sum
  [⟨0, 0x03, (1024 : Int) - sum, 1, 1024⟩]

/-- A4: motor envelopes. -/
def checkA4 (s : State) (d : Desc) : List Item :=
  (List.finRange 6).flatMap fun k =>
    if d.set.testBit k.val then
      let env := s.envg.shadow.mRpm[k].toNat
      let ienv := s.envg.shadow.mI[k].toNat
      match s.sinov.motor[k] with
      | some c =>
        let sp := if k.val = 0 then
            (let lim := min env 48000
             (⟨0, 0x04, (lim * polyDen s d : Int) - polyNum d, polyDen s d, lim⟩ : Item))
          else
            (let w := if c.src = 0 then c.speed else env
             ⟨2 * k.val, 0x04, (env : Int) - w, 1, env⟩)
        [sp, ⟨2 * k.val + 1, 0x05, (ienv : Int) - c.iPeak, 1, ienv⟩]
      | none => []
    else []

/-- A5 (R354, R355): the forecast peaks, `d` above them. -/
def checkA5 (s : State) (d : Int) : List Item :=
  (List.finRange 16).flatMap fun n =>
    let x := s.sy.nodes[n]
    if nodeLimited x then
      [⟨n.val, 0x06, x.lim.toInt * 65536 - (s.sy.fc.peak[n] + d) * 100, 65536, x.lim.toInt⟩]
    else []

/-- A5 without a forecast, which fails it (R354; log 38). -/
def failA5 (s : State) : List Item :=
  let n := ((List.finRange 16).find? fun n => nodeLimited s.sy.nodes[n]).getD 0
  [⟨n.val, 0x06, -32768, 1, 1⟩]

/-- A6: Till space. -/
def checkA6 (s : State) : List Item := [⟨0, 0x07, (recordsLeft s : Int) - 2, 1, 2⟩]

/-- V_PFW in half volts: 7.5 V + 0.5 V × VPFW (R199). -/
def pfwHalfVolts (s : State) : Nat := 15 + (bits s.ps.pfwCfg 0 7 : BitVec 7).toNat

/-- A7: hold-up energy in µJ and VIN in mV; with V = h / 2 the energy is C × (h² − 16²) / 8. -/
def checkA7 (s : State) : List Item :=
  let h : Int := pfwHalfVolts s
  let c : Int := s.ps.holdDecl.toNat
  [⟨0, 0x08, c * (h * h - 256) - 153600, 8, 19200⟩,
   ⟨1, 0x09, (s.ps.vinAvg.toNat : Int) - (h * 500 + 1000), 1, h * 500 + 1000⟩]

/-- The seven checks. -/
def checks7 (s : State) (d : Desc) (a5 : List Item) : List (List Item) :=
  [checkA1 s d, checkA2 s d, checkA3 s d, checkA4 s d, a5, checkA6 s, checkA7 s]

/-- An entry of the R57 reply. -/
def entryBytes (x : Item) : List Byte := [BitVec.ofNat 8 x.id, x.unit] ++ toLe (BitVec.ofInt 32 (itemMargin x)) 4

/-- FAIL_MASK. -/
def failMask (cs : List (List Item)) : Nat :=
  (cs.zipIdx.map fun c => if c.1.all itemOk then 0 else 2 ^ c.2).sum

/-- FAIL_CHECK of a mask. -/
def failCheck (m : Nat) : Nat := (((List.range 7).find? fun k => m.testBit k).map (· + 1)).getD 0

/-- The 48 bytes of the reply (R57). -/
def admitReply (handle : BitVec 16) (mask : Nat) (entries : List Byte) : List Byte :=
  toLe handle 2 ++ [BitVec.ofNat 8 (failCheck mask), BitVec.ofNat 8 mask] ++ entries ++ [0, 0]

/-! ## The forecast (R353) -/

/-- Steps of the four segments. -/
def fcSteps (s : State) (d : Desc) : List Nat :=
  let c := motorCfg s d.media
  let sp := (c.map (·.speed)).getD 0
  let acc := (c.map (·.accel)).getD 1
  let up := fun (a b : Nat) => (a + b - 1) / b
  [up (sp * 1000) acc, up d.tof d.speed, up (d.lines / d.beams * facetNum d) (facetDen d * 1000000), up d.tail d.speed]

/-- The power of source i in segment g, mW (R353), rounded down (log 38). -/
def fcPower (s : State) (d : Desc) (g i : Nat) : Nat :=
  if i < 2 then
    let h : Fin 2 := Fin.ofNat 2 i
    if s.fuser.en.getLsbD i then s.ps.vinAvg.toNat * s.fuser.htr[h].ilast.toNat * dutyEff s h / 1000000 else 0
  else if i < 8 then
    if d.set.testBit (i - 2) then
      let p := ((motorCfg s (i - 2)).map (·.iPeak)).getD 0
      3 * srcParam s.sy i * p * p / 2000000
    else s.sy.pavg[Fin.ofNat 13 i].toNat
  else if i < 12 then
    if g = 2 ∧ i - 8 < d.beams then
      let b : Fin 4 := Fin.ofNat 4 (i - 8)
      srcParam s.sy i * (ceilOf s b).toNat * (40 * spanEnd (profile s d) - 2000) * facetDen d / (10000 * facetNum d)
    else 0
  else s.sy.pavg[12].toNat

/-- Sinov writes the segments and powers, and GO (R353, R354). -/
def startForecast (d : Desc) (s : State) : State :=
  let st := fcSteps s d
  let f := { s.sy.fc with
    steps := Vector.ofFn fun g => BitVec.ofNat 16 (st.getD g.val 0)
    pwr := Vector.ofFn fun g => Vector.ofFn fun i => BitVec.ofNat 32 (fcPower s d g.val i.val) }
  fcGo { s with sy := { s.sy with fc := f } }

/-! ## ADMIT_PAGE -/

/-- A descriptor that R50, R51, R274 or R299 refuses. -/
def pageBad (s : State) (p : List Byte) : Bool :=
  let d := descOf p
  lenNot p 48 || !reserved p 33 3 || !reserved p 44 4 || descBad s d || spanBad s d || lasersBad s d || motorsBad s d

/-- The outcome of an evaluation (R53, R57, R58, R59). -/
def decideAdmit (n : Fin 8) (desc : List Byte) (lapsed : Bool) (cs : List (List Item)) (s : State) : State :=
  let mask := failMask cs
  let es := cs.flatMap fun c => entryBytes (reported c)
  if mask ≠ 0 then answerWith n .refusedDeadline 0 (admitReply 0 mask es) s
  else
    let h := s.sinov.nextHandle
    let next := if h + 1 = 0 then 1 else h + 1
    let s := { s with sinov := { s.sinov with
      admission := some { handle := h, counter := n, desc := desc, report := es }, nextHandle := next } }
    let s := tillSync { s with till := { s.till with rsv := 2 } }
    let s := answerOk n (admitReply h 0 es) s
    if lapsed then tillSync (lapseAdmission s) else s

/-- The forecast engine runs, or an earlier ADMIT_PAGE is still being evaluated: the next one is evaluated after it
(R54, R353; log 49). -/
def forecastHeld (s : State) : Bool := s.sinov.admitWait.isSome || s.sy.fc.busy || s.sy.fc.armed

/-- ADMIT_PAGE (R53): any outstanding admission ends; the reply waits for the forecast. -/
def admitNow (n : Fin 8) (p : List Byte) (s : State) : State :=
  let s := tillSync (lapseAdmission s)
  let d := descOf p
  if !graceClear s then answer n .faultPending s
  else if pageBad s p then answer n .badArg s
  else if !s.sy.run || decide (65535 < (fcSteps s d).sum) then decideAdmit n p false (checks7 s d (failA5 s)) s
  else
    let a : Admission := { handle := 0, counter := n, desc := p, report := [] }
    setRunning n (startForecast d { s with sinov := { s.sinov with admitWait := some a } })

/-- ADMIT_PAGE, once no earlier evaluation holds the forecast engine. -/
def admitCmd (n : Fin 8) (p : List Byte) (s : State) : State := if forecastHeld s then s else admitNow n p s

/-- FORECAST_DONE (R354, R56): the seven checks of a waiting ADMIT_PAGE; a fault raised meanwhile is judged again (R53). A
forecast that a BLOCK reset of STEELYARD has ended fails A5 (R354, R357). -/
def forecastEnd (s : State) : State :=
  let was := s.sy.fc.busy
  let lost := !s.sy.fc.busy && !s.sy.fc.armed
  let s := fcDone s
  match s.sinov.admitWait with
  | some a =>
    if was || lost then
      let s := { s with sinov := { s.sinov with admitWait := none } }
      if s.sys.mode ≠ 2 then answer a.counter .badMode s
      else if !graceClear s then answer a.counter .faultPending s
      else decideAdmit a.counter a.desc (!a.report.isEmpty) (checks7 s (descOf a.desc) (if lost then failA5 s else checkA5 s 0)) s
    else s
  | none => s

/-! ## START_PAGE -/

/-- D of R355, in 2^-16 °C. -/
def warmer (s : State) : Int :=
  ((List.finRange 16).map fun n => if nodeUsed s.sy.nodes[n] then s.sy.nodes[n].temp - s.sy.fc.start[n] else 0).foldl max 0

/-- Bytes [a, a + n) of a list replaced. -/
def descPut (bs : List Byte) (a : Nat) (p : List Byte) : List Byte := putAt bs a p

/-- The scale of the media channel (R300), 2^-16 µm per count; 0 where its set-point or CPR is 0 (log 38). -/
def mediaScale (s : State) (d : Desc) : Word :=
  let w := ((motorCfg s d.media).map (·.speed)).getD 0 * s.motors[Fin.ofNat 6 d.media].cpr.toNat
  if w = 0 then 0 else BitVec.ofNat 32 ((2 * d.speed * 60000 * 65536 + w) / (2 * w))

/-- Sinov writes VIDEO, BEAM and PIXRAMP for the page (R251, R278). -/
def pageRegisters (d : Desc) (s : State) : State :=
  let pd := (pixelDividers s d).getD (1, 2)
  let w := vcoWord s d pd.1 pd.2
  let per := (2 * facetNum d * 100 + 125 * facetDen d) / (2 * 125 * facetDen d)
  let s := prNfrac (BitVec.ofNat 32 (w % 2 ^ 20)) s
  let s := prNom (BitVec.ofNat 32 (w / 2 ^ 20 + 256 * pd.2 + 65536 * (pd.1 % 256))) s
  let s := prCtrlOp (BitVec.ofNat 32 (1 + 16 * d.prof)) s
  { s with
    video := { s.video with
      en := true, beams := BitVec.ofNat 3 d.beams, bpp := decide (d.bpp = 2), base := BitVec.ofNat 40 d.base
      stride := BitVec.ofNat 32 d.stride, lineBytes := BitVec.ofNat 32 (lineBytesOf d)
      lines := BitVec.ofNat 32 d.lines }
    beam := { s.beam with
      en := true, beams := BitVec.ofNat 3 d.beams, bpp := decide (d.bpp = 2), linePix := BitVec.ofNat 16 d.pixels
      bdPer := BitVec.ofNat 24 per } }

/-- The media channel's scale and compare 0 (R300, R301), and the page's channels started (R298); one that still brakes starts when
it stands still. -/
def pageMotors (d : Desc) (s : State) : State :=
  let k : Fin 6 := Fin.ofNat 6 d.media
  let s := motMod k (fun m => { m with scale := mediaScale s d, cmpEn := 0, auto0 := true, reached := false, slow := false }) s
  let dist := if s.motors[k].scale = 0 then 0 else umCounts s d.tof
  let s := motMod k (fun m => { m with cmp0 := BitVec.ofNat 32 dist }) s
  (List.finRange 6).foldl (fun s j =>
    if d.set.testBit j.val ∧ s.motors[j].page = true then
      (if motStill s.motors[j] then motStartOp j s else setStartDue j (!motRunning s.motors[j]) s)
    else s) s

/-- The page starts (R61): docket, engine registers, ARM. -/
def startPage (n : Fin 8) (a : Admission) (s : State) : State :=
  let d := descOf a.desc
  let s := dkReleaseOp { s with sinov := { s.sinov with page := some a, admission := none } }
  let s := dkCfg (BitVec.ofNat 32 (d.beams + 16 * d.media)) (dkPlanned (BitVec.ofNat 32 d.lines) s)
  let s := pageMotors d (pageRegisters d s)
  let s := { s with dkStore := { s.dkStore with
    pageId := BitVec.ofNat 32 d.pageId, handle := a.handle, holder := BitVec.ofNat 8 n.val
    hostWord := reqHost s.counters[n], digest := digestOf (sha256 a.desc), seq := 0 } }
  answer n .ok (dkArmOp s)

/-- START_PAGE (R60, R355). While the Steelyard does not run A5 fails (R357). -/
def startCmd (n : Fin 8) (p : List Byte) (s : State) : State :=
  match s.sinov.admission with
  | some a =>
    if lenNot p 4 || !reserved p 2 2 || decide (fieldLe p 0 2 ≠ a.handle.toNat) then answer n .badArg s
    else if n ≠ a.counter then answer n .notPermitted s
    else
      let a5 := if s.sy.run then checkA5 s (warmer s) else failA5 s
      let a7 := checkA7 s
      let mask := (if a5.all itemOk then 0 else 0x10) + (if a7.all itemOk then 0 else 0x40)
      if mask ≠ 0 then
        let es := descPut (descPut a.report 24 (entryBytes (reported a5))) 36 (entryBytes (reported a7))
        answerWith n .refusedDeadline 0 (admitReply 0 mask es) (tillSync (lapseAdmission s))
      else startPage n a s
  | none => answer n .badArg s

/-! ## SPOIL_PAGE, GET_DOCKET -/

/-- SPOIL_PAGE (R63, R69, R121). -/
def spoilCmd (n : Fin 8) (p : List Byte) (s : State) : State :=
  match s.sinov.page with
  | some a =>
    judged n
      [(lenNot p 4 || !reserved p 2 2 || decide (fieldLe p 0 2 ≠ a.handle.toNat), .badArg),
       (decide (n ≠ a.counter) && decide (s.counters[n].rank ≤ s.counters[a.counter].rank), .notPermitted)]
      (fun s =>
        let first := decide (s.docket.st = .armed) && !s.docket.spoil
        let s := if first then { s with dkStore := { s.dkStore with counter := BitVec.ofNat 8 n.val } } else s
        answer n .ok (dkSpoilOp s)) s
  | none => answer n .badArg s

/-- GET_DOCKET's reply (R68, R121). -/
def docketReply (s : State) : List Byte :=
  let k := s.dkStore
  let live := { s with docket := { s.docket with outcome := 0, tEnd := 0, mediaPos := mediaPos s } }
  let body := match k.state.toNat with
    | 0 => List.replicate 96 0
    | 3 => docketBody live 0
    | _ => slice k.body 0 96
  [k.state.setWidth 8, 0, 0, 0] ++ (if k.state = 1 then toLe k.seq 8 else List.replicate 8 0) ++ body

/-! ## Meanings -/

/-- ADMIT_PAGE (R53). -/
def execAdmitPage (n : Fin 8) (s : State) : Host.Outcome State Fault Refusal :=
  .next (runFrame 0x0200 anyPayload n (admitCmd n) s)

/-- START_PAGE (R60). -/
def execStartPage (n : Fin 8) (s : State) : Host.Outcome State Fault Refusal :=
  .next (runFrame 0x0201 anyPayload n (startCmd n) s)

/-- SPOIL_PAGE (R63). -/
def execSpoilPage (n : Fin 8) (s : State) : Host.Outcome State Fault Refusal :=
  .next (runFrame 0x0202 anyPayload n (spoilCmd n) s)

/-- GET_DOCKET (R121). -/
def execGetDocket (n : Fin 8) (s : State) : Host.Outcome State Fault Refusal :=
  .next (runFrame 0x0203 anyPayload n (fun p s => judged n [(lenNot p 0, .badArg)] (answerOk n (docketReply s)) s) s)

/-- FORECAST_DONE (R354). -/
def execForecastDone (s : State) : Host.Outcome State Fault Refusal := .next (forecastEnd s)

end Sys2Proof.Machine
end

