-- ==== Sys2Proof/Machine/Commands.lean ====
section
/-! DEFINITION. Sinov's commands of the system, thermal, power, fault, ledger, time and attestation groups (04; R41-R44,
R118-R121, R127-R133). -/

namespace Sys2Proof.Machine

/-! ## System -/

/-- SINOV_VER of 3.2.0. -/
def sinovVer : Word := 0x0003_0200

/-- OPT_SEQ: 0 for the ROM safe record. -/
def optSeqNow (s : State) : Word := optSeq (optRec s)

/-- GET_INFO's reply. -/
def infoBytes (s : State) : List Byte :=
  toLe (0x4860 : BitVec 16) 2 ++ toLe Config.dieRev 2 ++ toLe sinovVer 4 ++ toLe Config.deviceId 8
    ++ [if Config.gradeC then 1 else 0, s.rst.optState.setWidth 8, if s.sys.minset then 1 else 0,
        s.xspi.kslot.setWidth 8]
    ++ toLe (optSeqNow s) 4 ++ digestBytes s.sinov.digest

/-- The admission outstanding, or the page in flight. -/
def heldPage (s : State) : Option Admission := if pageInFlight s then s.sinov.page else s.sinov.admission

/-- A DIAG_OUTPUT runs. -/
def diagRuns (s : State) : Bool := s.sinov.diag.toList.any (·.isSome)

/-- GET_MODE's reply. -/
def modeBytes (s : State) : List Byte :=
  let sub : Byte := (if pageInFlight s then 1 else 0)
    ||| (if s.sys.mode = 3 ∧ pageInFlight s = false then 2 else 0)
    ||| (if s.sinov.admission.isSome then 4 else 0) ||| (if s.rst.applied = 2 then 8 else 0)
    ||| (if diagRuns s then 16 else 0)
  let h := match heldPage s with
    | some a => (a.handle, BitVec.ofNat 8 a.counter.val)
    | none => (0, 0xFF)
  [s.sys.mode.setWidth 8, sub] ++ toLe h.1 2 ++ [h.2, 0, 0, 0]

/-- GET_RESET_CAUSE's reply. -/
def causeBytes (s : State) : List Byte :=
  [s.rst.cause, s.rst.kind.setWidth 8, 0, 0] ++ toLe (s.rst.time.setWidth 64) 8 ++ toLe s.rst.count 4

/-- A query: LEN is its only check. -/
def query (n : Fin 8) (p : List Byte) (reply : List Byte) (s : State) : State :=
  judged n [(lenNot p 0, .badArg)] (answerOk n reply) s

/-- SEAL (R41): its own order first, then LEN (R113, steps 3 and 4). -/
def sealCmd (n : Fin 8) (p : List Byte) (s : State) : State :=
  judged n
    [(decide (s.rst.applied = 2), .notPermitted), (!graceClear s, .faultPending), (diagRuns s, .busy),
     (tillNone s, .tillFull), (lenNot p 0, .badArg)]
    (fun s =>
      let m := (sealMeasure s).crypto.meas[3]
      writeRecord n 0x0003 0 (digestBytes m) (.toMode 2 n) s) s

/-- The unseal token verifies (R119). -/
def tokenOk (s : State) (p : List Byte) : Bool :=
  let msg := ([0x44, 0x47, 0x55, 0x4E, 0x53, 0x45, 0x41, 0x4C] : List Byte) ++ toLe Config.deviceId 8 ++ toLe s.till.next 8
  decide (p.length = 64) && ecdsaVerify (optUnsealKey (optRec s)) (natBe (sha256 msg)) (natBe (slice p 0 32))
    (natBe (slice p 32 32))

/-- The record of an UNSEAL attempt is still to commit: a token serves for one attempt only (R120). -/
def tokenSpent (s : State) : Bool :=
  s.sinov.wants.any fun w => match w.cont with | .unseal _ _ => true | _ => false

/-- UNSEAL (R42, R119, R120): every attempt that reaches the token check writes its record. Where a token is required, a
payload of any other length than 64 is a token that does not verify; where none is, LEN is judged after R42's own order
(R113, step 4). -/
def unsealCmd (n : Fin 8) (p : List Byte) (s : State) : State :=
  judged n
    [(tillNone s, .tillFull), (!optTokenReq (optRec s) && lenNot p 0 && lenNot p 64, .badArg)]
    (fun s =>
      let ok := !optTokenReq (optRec s) || (tokenOk s p && !tokenSpent s)
      writeRecord n 0x0004 0 ((if ok then 0 else 1) :: toLe s.till.next 8) (.unseal n ok) s) s

/-- SLEEP (R43, R118). -/
def sleepCmd (n : Fin 8) (p : List Byte) (s : State) : State :=
  let wake := fieldLe p 0 1
  let alarm := fieldLe p 2 6
  judged n
    [(lenNot p 8 || !reserved p 1 1 || decide (wake = 0) || decide (7 < wake)
        || (wake.testBit 0 && decide (alarm ≤ s.rtc.sec.toNat)), .badArg),
     (resBusy s n, .busy), (tillNone s, .tillFull)]
    (fun s => writeRecord n 0x0002 0 (modeBody (s.sys.mode.setWidth 8) 0 2)
      (.sleepAfter n (BitVec.ofNat 3 wake) (BitVec.ofNat 48 alarm)) s) s

/-- RESET (R44, R118): the reset asserts 100 µs after DONE. -/
def resetCmdFrame (n : Fin 8) (p : List Byte) (s : State) : State :=
  let k := fieldLe p 0 1
  judged n [(lenNot p 4 || !reserved p 1 3 || (decide (k ≠ 1) && decide (k ≠ 2)), .badArg), (resBusy s n, .busy)]
    (fun s => answer n .ok { s with sinov := { s.sinov with resetReq := some (BitVec.ofNat 2 k) } }) s

/-! ## Thermal and power -/

/-- H_t < SY_TREQt. -/
def clamped (x : Throttle) : Bool := decide (x.ceil < x.treq)

/-- GET_STEELYARD's reply. -/
def steelyardBytes (s : State) : List Byte :=
  (s.sy.nodes.toList.flatMap fun x => toLe (BitVec.ofInt 16 (toCenti x.temp)) 2)
    ++ (s.sy.nodes.toList.flatMap fun x => toLe x.lim 2)
    ++ (s.sy.ts.toList.flatMap fun x => toLe (BitVec.ofInt 16 x.temp) 2)
    ++ toLe ((List.finRange 12).foldl (fun (v : BitVec 16) t => setBit v t.val (clamped s.sy.thr[t])) 0) 2
    ++ [(List.finRange 8).foldl (fun (v : Byte) t => setBit v t.val s.sy.ts[t].disagree) 0, 0]
    ++ toLe s.sy.count 4

/-- A target's EFFECTIVE (R352). -/
def effective (s : State) (t : Fin 12) : Nat :=
  let x := s.sy.thr[t]
  let c := thrC s t.val
  if c = 0 then 1000 else min 1000 (min x.treq.toNat x.ceil.toNat * 1000 / c)

/-- SET_THROTTLE (R127, R352). -/
def throttleCmd (n : Fin 8) (p : List Byte) (s : State) : State :=
  let t := fieldLe p 0 1
  let q := fieldLe p 2 2
  let hyst := fieldLe p 4 2
  let dwell := fieldLe p 6 2
  judged n
    [(lenNot p 8 || !reserved p 1 1 || decide (11 < t) || decide (q = 0) || decide (1000 < q) || decide (10000 < hyst)
        || decide (dwell = 0) || decide (60000 < dwell), .badArg),
     (resBusy s n, .busy)]
    (fun s =>
      let i : Fin 12 := Fin.ofNat 12 t
      let thr := vmod s.sy.thr i (fun x => { x with reqPm := q, ret := BitVec.ofNat 32 (hyst + 65536 * dwell) })
      let s : State := { s with sy := { s.sy with thr := thr } }
      let s := lapseAdmission (refreshTreq i s)
      answerOk n (toLe (BitVec.ofNat 16 (effective s i)) 2 ++ [if clamped s.sy.thr[i] then 1 else 0, 0]) s) s

/-- The code of a rail's state (GET_RAILS). -/
def railCode (r : RailState) : Byte :=
  match r with
  | .off => 0
  | .ramping | .settling => 1
  | .good => 2
  | .failed => 3

/-- GET_RAILS' reply. -/
def railsBytes (s : State) : List Byte :=
  toLe (s.ps.on.setWidth 64) 8 ++ toLe (s.ps.fail.setWidth 64) 8 ++ s.ps.rails.toList.map railCode
    ++ toLe s.ps.vin 2 ++ toLe s.ps.vaux 2

/-- The entries of a SET_SHUTDOWN_TABLE. -/
def tableEntries (p : List Byte) : List (Nat × Nat) :=
  (List.range (fieldLe p 0 1)).map fun i => (fieldLe p (4 + 2 * i) 1, fieldLe p (5 + 2 * i) 1)

/-- The delay of a target, 0 where the table does not name it. -/
def entryDelay (t : List (Nat × Nat)) (u : Nat) : Nat := ((t.find? fun e => e.1 = u).map (·.2)).getD 0

/-- Target u depends on target d, over `fuel` steps of the power graph. -/
def dependsOn (s : State) (d : Nat) : Nat → Nat → Bool
  | 0, _ => false
  | fuel + 1, u => (targetParents s u).any fun p => decide (p = d) || (decide (p ≠ 0) && dependsOn s d fuel p)

/-- A table that R128 refuses: a target twice, or a domain of the minimal service set off before one that depends on it. -/
def tableBad (s : State) (t : List (Nat × Nat)) : Bool :=
  (t.any fun e => decide (e.1 = 0) || !targetOk e.1)
    || decide ((t.map (·.1)).eraseDups.length ≠ t.length)
    || ([3, 4, 14, 44].any fun d => ((List.range 51).drop 3).any fun u =>
        dependsOn s d 6 u && decide (entryDelay t d < entryDelay t u))

/-- SET_SHUTDOWN_TABLE (R128). -/
def tableCmd (n : Fin 8) (p : List Byte) (s : State) : State :=
  let k := fieldLe p 0 1
  judged n
    [(decide (k = 0) || decide (62 < k) || lenNot p (4 + 2 * k) || !reserved p 1 3 || tableBad s (tableEntries p),
      .badArg), (resBusy s n, .busy)]
    (fun s =>
      let bs := slice (p.drop 4) 0 124
      let ws : Vector Word 31 := Vector.ofFn fun i => BitVec.ofNat 32 (fieldLe bs (4 * i.val) 4)
      answer n .ok (lapseAdmission { s with ps := { s.ps with shdn := ws } })) s

/-! ## Faults -/

/-- FE_ACCESS. -/
def feAccess (s : State) : Word := fieldAt s.hub.feKind 0 ||| fieldAt s.hub.feSize 2

/-- GET_FAULTS' reply. -/
def faultsBytes (s : State) : List Byte :=
  toLe s.hub.raised 32 ++ toLe s.hub.unack 32 ++ toLe (s.hub.feAddr.setWidth 64) 8
    ++ [s.hub.feMaster, (feAccess s).setWidth 8, s.hub.feSource, 0] ++ toLe s.hub.feOver 4 ++ toLe s.hub.feTime 8

/-- The ID names a fault (R160). -/
def faultExists (f : Nat) : Bool := (faultRow f 0).isSome

/-- ACK_FAULT (R129). -/
def ackCmd (n : Fin 8) (p : List Byte) (s : State) : State :=
  judged n [(lenNot p 4 || !reserved p 1 3 || !faultExists (fieldLe p 0 1), .badArg), (resBusy s n, .busy)]
    (fun s => answer n .ok (hubAck (BitVec.ofNat 8 (fieldLe p 0 1)) s)) s

/-- CLEAR_FAULT (R129): the clear stands whether or not its record commits. The spec gives FAULT_PENDING no place in R113's
order; the model judges it after BUSY, and TIME_INVALID of TIME_LOST_CLEAR before BUSY (DESIGN CHOICE, log 49). -/
def clearCmd (n : Fin 8) (p : List Byte) (s : State) : State :=
  let f := fieldLe p 0 1
  let up := s.hub.raised.getLsbD f
  let cls : BitVec 2 := bits (s.hub.timerCfg[f]?.getD 0) 0 2
  judged n
    [(lenNot p 4 || !reserved p 1 3 || !faultExists f, .badArg), (resBusy s n, .busy),
     (up && (faultPresent s f || expiryWins f s), .faultPending), (up && decide (cls ≠ 0) && tillNone s, .tillFull)]
    (fun s =>
      if up then
        let body := BitVec.ofNat 8 f :: cls.setWidth 8 :: toLe (s.hub.raisedAt[f]?.getD 0) 8
        let s := reapply (hubClear (BitVec.ofNat 8 f) s)
        if cls = 0 then answer n .ok s else writeRecord n 0x0020 0 body (.reply n []) s
      else answer n .ok s) s

/-- FH_CFG of a fault (R148, R157, R158, R164): CLASS 3 and a GRACE out of range are not stored, the CLASS of a fault that
the option record makes IMMEDIATE ignores writes, ESC_BLOCK without a block is stored as ESC_SPOIL. -/
def fhCfgWrite (f : Byte) (v : Word) (s : State) : State :=
  match faultRow f.toNat 0 with
  | none => s
  | some r =>
    let old := s.hub.cfg[f.toNat]?.getD 0
    let c : BitVec 2 := bits v 0 2
    let c := if c = 3 ∨ s.hub.optImm.getLsbD f.toNat = true then bits old 0 2 else c
    let a : BitVec 2 := bits v 2 2
    let a := if a = 1 ∧ r.block.isNone = true then 0 else a
    let g := ((bits v 4 20 : BitVec 20)).toNat
    let g := if g = 0 ∨ 1000000 < g then (old >>> 4).toNat else g
    { s with hub := { s.hub with cfg := s.hub.cfg.setIfInBounds f.toNat (fhCfgWord c a g) } }

/-- SET_FAULT_CLASS (R130, R157). -/
def classCmd (n : Fin 8) (p : List Byte) (s : State) : State :=
  let f := fieldLe p 0 1
  let c := fieldLe p 1 1
  let a := fieldLe p 2 1
  let g := fieldLe p 4 4
  let noBlock := match faultRow f 0 with | some r => r.block.isNone | none => true
  judged n
    [(lenNot p 8 || !reserved p 3 1 || !faultExists f || decide (2 < c) || decide (3 < a)
        || (decide (c = 1) && (decide (g = 0) || decide (1000000 < g))) || (decide (a = 1) && noBlock), .badArg),
     (s.hub.optImm.getLsbD f, .notPermitted), (resBusy s n, .busy)]
    (fun s => answer n .ok (fhCfgWrite (BitVec.ofNat 8 f)
      (fhCfgWord (BitVec.ofNat 2 c) (BitVec.ofNat 2 a) (if c = 1 then g else 0)) s)) s

/-! ## Till -/

/-- RSTATE of a sequence (R368). -/
def rstate (s : State) (q : Nat) : Byte :=
  if q < s.till.oldest.toNat then 2
  else if s.till.next.toNat ≤ q then 3
  else if committed (slotBytes s q) then 0 else 1

/-- TILL_READ (R368). -/
def tillReadCmd (n : Fin 8) (p : List Byte) (s : State) : State :=
  let q := fieldLe p 0 8
  let half := fieldLe p 8 1
  judged n [(lenNot p 12 || !reserved p 9 3 || decide (1 < half), .badArg)]
    (fun s =>
      let r := rstate s q
      let bs := if r.toNat < 2 then slice (slotBytes s q) (128 * half) 128 else List.replicate 128 0
      answerOk n ([r, BitVec.ofNat 8 half, 0, 0, 0, 0, 0, 0] ++ bs) s) s

/-- TILL_APPEND (R58, R367). -/
def tillAppendCmd (n : Fin 8) (p : List Byte) (s : State) : State :=
  judged n
    [(decide (p.length < 5) || decide (164 < p.length) || !reserved p 2 2, .badArg), (tillNone s, .tillFull)]
    (fun s => writeRecord n 0x0100 (BitVec.ofNat 16 (fieldLe p 0 2)) (p.drop 4) (.replySeq n) s) s

/-- TILL_STATUS' reply. -/
def statusBytes (s : State) : List Byte :=
  let t := s.till
  toLe t.head 8 ++ toLe t.oldest 8 ++ toLe (t.free.setWidth 32) 4
    ++ [t.rsv.setWidth 8, (if t.torn = 0 then 0 else 1) ||| (if s.sinov.omitted then 2 else 0)
        ||| (if t.chainBreak then 4 else 0), 0, 0]
    ++ toLe t.torn 4 ++ [0, 0, 0, 0] ++ digestBytes t.chain

/-- TILL_RELEASE (R131, R365, R367). -/
def tillReleaseCmd (n : Fin 8) (p : List Byte) (s : State) : State :=
  let u := fieldLe p 0 8
  judged n
    [(lenNot p 8 || decide (u < s.till.oldest.toNat) || decide (s.till.head.toNat < u), .badArg),
     (decide (s.counters[n].rank.val < 5), .notPermitted), (resBusy s n, .busy),
     (s.till.stopped || (decide (s.till.free ≠ 0) && tillNone s), .tillFull)]
    (fun s =>
      let w := cmdWant n s 0x0050 0 [] (.replySeq n)
      wantRecord { w with release := some (BitVec.ofNat 64 u) } (setRunning n s)) s

/-! ## Time and attestation -/

/-- TIME_VALID and TIME_LOST as TFLAGS. -/
def tflags (s : State) : Byte := (if s.rtc.valid then 1 else 0) ||| (if s.rtc.lost then 2 else 0)

/-- TIME_GET (R132), through TIME_SNAP. -/
def timeGetCmd (n : Fin 8) (p : List Byte) (s : State) : State :=
  judged n [(lenNot p 0, .badArg)]
    (fun s =>
      let s := timeSnap 1 s
      answerOk n (toLe (s.rtc.snapSec.setWidth 64) 8 ++ toLe s.rtc.snapSub 2 ++ [tflags s, 0, 0, 0, 0, 0]
        ++ toLe s.rtc.snapDt 8) s) s

/-- TIME_SET (R132): the apply, then the record, then the reply. -/
def timeSetCmd (n : Fin 8) (p : List Byte) (s : State) : State :=
  judged n
    [(lenNot p 8 || !reserved p 6 2, .badArg), (resBusy s n || s.sinov.timeWait.isSome || s.rtc.pending, .busy),
     (tillNone s, .tillFull)]
    (fun s =>
      let t := BitVec.ofNat 48 (fieldLe p 0 6)
      let s := timeApply 1 { s with rtc := { s.rtc with setSec := t } }
      setRunning n { s with sinov := { s.sinov with timeWait := some n } }) s

/-- TIME_LOST_CLEAR (R132). -/
def lostClearCmd (n : Fin 8) (p : List Byte) (s : State) : State :=
  judged n
    [(lenNot p 0, .badArg), (!s.rtc.valid, .timeInvalid), (resBusy s n, .busy), (tillNone s, .tillFull)]
    (fun s => writeRecord n 0x0032 0 (toLe (s.rtc.sec.setWidth 64) 8) (.reply n []) (timeLostClr 1 s)) s

/-- MEASURE_GET (R379). -/
def measureCmd (n : Fin 8) (p : List Byte) (s : State) : State :=
  let a := fieldLe p 0 1
  let k := fieldLe p 1 1
  judged n
    [(lenNot p 4 || !reserved p 2 2 || decide (7 < a) || decide (k = 0) || decide (7 < k) || decide (8 < a + k), .badArg)]
    (fun s => answerOk n (((s.crypto.meas.toList.drop a).take k).flatMap digestBytes) s) s

/-- Bytes 0-143 of a quote (R380). -/
def quoteHead (s : State) (nonce : List Byte) (mask : Byte) : List Byte :=
  let ms := (List.finRange 8).flatMap fun i => if mask.getLsbD i.val then digestBytes s.crypto.meas[i] else []
  ([0x44, 0x47, 0x51, 0x31, 0x01, 0x00, mask, s.sys.mode.setWidth 8] : List Byte) ++ toLe Config.deviceId 8 ++ nonce
    ++ toLe s.till.head 8 ++ digestBytes s.till.chain ++ toLe s.rtc.sec 6 ++ [tflags s, 0] ++ toLe s.devtime 8
    ++ toLe sinovVer 4 ++ toLe (optSeqNow s) 4 ++ sha256 ms

/-- QUOTE (R133, R380). -/
def quoteCmd (n : Fin 8) (p : List Byte) (s : State) : State :=
  let mask := fieldLe p 32 1
  judged n [(lenNot p 36 || !reserved p 33 3 || decide (mask = 0), .badArg)]
    (fun s =>
      let hd := quoteHead s (slice p 0 32) (BitVec.ofNat 8 mask)
      let rs := ecdsaSign Config.deviceKey (natBe (sha256 hd))
      answerOk n (hd ++ bytesBe 32 rs.1 ++ bytesBe 32 rs.2) s) s

/-! ## Meanings -/

/-- GET_INFO (R32, R115). -/
def execGetInfo (n : Fin 8) (s : State) : Host.Outcome State Fault Refusal :=
  .next (runFrame 0x0100 anyPayload n (fun p s => query n p (infoBytes s) s) s)

/-- GET_MODE (R115). -/
def execGetMode (n : Fin 8) (s : State) : Host.Outcome State Fault Refusal :=
  .next (runFrame 0x0101 anyPayload n (fun p s => query n p (modeBytes s) s) s)

/-- SEAL (R41). -/
def execSeal (n : Fin 8) (s : State) : Host.Outcome State Fault Refusal :=
  .next (runFrame 0x0102 anyPayload n (sealCmd n) s)

/-- UNSEAL (R42). -/
def execUnseal (n : Fin 8) (s : State) : Host.Outcome State Fault Refusal :=
  .next (runFrame 0x0103 anyPayload n (unsealCmd n) s)

/-- SLEEP (R43). -/
def execSleep (n : Fin 8) (s : State) : Host.Outcome State Fault Refusal :=
  .next (runFrame 0x0104 anyPayload n (sleepCmd n) s)

/-- RESET (R44). -/
def execReset (n : Fin 8) (s : State) : Host.Outcome State Fault Refusal :=
  .next (runFrame 0x0105 anyPayload n (resetCmdFrame n) s)

/-- GET_RESET_CAUSE (R32, R230). -/
def execGetResetCause (n : Fin 8) (s : State) : Host.Outcome State Fault Refusal :=
  .next (runFrame 0x0106 anyPayload n (fun p s => query n p (causeBytes s) s) s)

/-- GET_STEELYARD (R352). -/
def execGetSteelyard (n : Fin 8) (s : State) : Host.Outcome State Fault Refusal :=
  .next (runFrame 0x0400 anyPayload n (fun p s => query n p (steelyardBytes s) s) s)

/-- SET_THROTTLE (R352). -/
def execSetThrottle (n : Fin 8) (s : State) : Host.Outcome State Fault Refusal :=
  .next (runFrame 0x0401 anyPayload n (throttleCmd n) s)

/-- GET_RAILS (R199). -/
def execGetRails (n : Fin 8) (s : State) : Host.Outcome State Fault Refusal :=
  .next (runFrame 0x0500 anyPayload n (fun p s => query n p (railsBytes s) s) s)

/-- SET_SHUTDOWN_TABLE (R128). -/
def execSetShutdownTable (n : Fin 8) (s : State) : Host.Outcome State Fault Refusal :=
  .next (runFrame 0x0501 anyPayload n (tableCmd n) s)

/-- GET_FAULTS (R32, R164). -/
def execGetFaults (n : Fin 8) (s : State) : Host.Outcome State Fault Refusal :=
  .next (runFrame 0x0600 anyPayload n (fun p s => query n p (faultsBytes s) s) s)

/-- ACK_FAULT (R129). -/
def execAckFault (n : Fin 8) (s : State) : Host.Outcome State Fault Refusal :=
  .next (runFrame 0x0601 anyPayload n (ackCmd n) s)

/-- CLEAR_FAULT (R129). -/
def execClearFault (n : Fin 8) (s : State) : Host.Outcome State Fault Refusal :=
  .next (runFrame 0x0602 anyPayload n (clearCmd n) s)

/-- SET_FAULT_CLASS (R130). -/
def execSetFaultClass (n : Fin 8) (s : State) : Host.Outcome State Fault Refusal :=
  .next (runFrame 0x0603 anyPayload n (classCmd n) s)

/-- TILL_READ (R368). -/
def execTillRead (n : Fin 8) (s : State) : Host.Outcome State Fault Refusal :=
  .next (runFrame 0x0700 anyPayload n (tillReadCmd n) s)

/-- TILL_APPEND (R367). -/
def execTillAppend (n : Fin 8) (s : State) : Host.Outcome State Fault Refusal :=
  .next (runFrame 0x0701 anyPayload n (tillAppendCmd n) s)

/-- TILL_STATUS (R377). -/
def execTillStatus (n : Fin 8) (s : State) : Host.Outcome State Fault Refusal :=
  .next (runFrame 0x0702 anyPayload n (fun p s => query n p (statusBytes s) s) s)

/-- TILL_RELEASE (R131). -/
def execTillRelease (n : Fin 8) (s : State) : Host.Outcome State Fault Refusal :=
  .next (runFrame 0x0703 anyPayload n (tillReleaseCmd n) s)

/-- TIME_GET (R132). -/
def execTimeGet (n : Fin 8) (s : State) : Host.Outcome State Fault Refusal :=
  .next (runFrame 0x0800 anyPayload n (timeGetCmd n) s)

/-- TIME_SET (R132). -/
def execTimeSet (n : Fin 8) (s : State) : Host.Outcome State Fault Refusal :=
  .next (runFrame 0x0801 anyPayload n (timeSetCmd n) s)

/-- TIME_LOST_CLEAR (R132). -/
def execTimeLostClear (n : Fin 8) (s : State) : Host.Outcome State Fault Refusal :=
  .next (runFrame 0x0802 anyPayload n (lostClearCmd n) s)

/-- MEASURE_GET (R379). -/
def execMeasureGet (n : Fin 8) (s : State) : Host.Outcome State Fault Refusal :=
  .next (runFrame 0x0900 anyPayload n (measureCmd n) s)

/-- QUOTE (R133, R380). -/
def execQuote (n : Fin 8) (s : State) : Host.Outcome State Fault Refusal :=
  .next (runFrame 0x0901 anyPayload n (quoteCmd n) s)

end Sys2Proof.Machine
end

