-- ==== Sys2Proof/Machine/Configure.lean ====
section
/-! DEFINITION. Sinov's commands of the engine configuration group (04, R122-R126; R247, R268, R277, R289, R297, R306, R308,
R321, R324, R334). -/

namespace Sys2Proof.Machine

/-- An accepted command of the group (R59, R122): it ends an admission, its configuration is stored, and in READY it takes
effect with the reply. -/
def configure (n : Fin 8) (store apply : State → State) (s : State) : State :=
  let s := store (lapseAdmission s)
  let s := if s.sys.mode = 2 then refreshAll (apply s) else s
  answer n .ok s

/-! ## Facet profiles (R247) -/

/-- The segments of a SET_FACET_PROFILE. -/
def profSegments (p : List Byte) : List (BitVec 24) :=
  (List.range (fieldLe p 1 1)).map fun i => BitVec.ofNat 24 (fieldLe p (8 + 3 * i) 3)

/-- A profile that R247 or R124 refuses. -/
def profBad (xs : List (BitVec 24)) : Bool :=
  (xs.any fun x => decide (2000 < (segDelta x).natAbs))
    || (match xs with | x :: _ => decide (segDur x < 50) | [] => true)
    || ((xs.zip (xs.drop 1)).any fun y =>
        decide (segDur y.2 = 0) || decide (2 * segDur y.2 < (segDelta y.2 - segDelta y.1).natAbs))

/-- SET_FACET_PROFILE. -/
def profileCmd (n : Fin 8) (p : List Byte) (s : State) : State :=
  let i := fieldLe p 0 1
  let k := fieldLe p 1 1
  let f : Fin 8 := Fin.ofNat 8 i
  let xs := profSegments p
  judged n
    [(decide (7 < i) || decide (k = 0) || decide (64 < k) || lenNot p (8 + 3 * k) || !reserved p 2 6 || profBad xs,
      .badArg), (resBusy s n || profFrozen s f, .busy)]
    (configure n (fun s => { s with sinov := { s.sinov with profile := s.sinov.profile.set f (some xs) } })
      (applyProfile f xs)) s

/-! ## Motors -/

/-- The configuration of a SET_MOTOR. -/
def motorOf (p : List Byte) : MotorCfg where
  stopped := false
  startDue := false
  src := BitVec.ofNat 2 (fieldLe p 1 1)
  facets := fieldLe p 2 1
  stopMode := decide (fieldLe p 3 1 = 1)
  speed := fieldLe p 4 4
  accel := fieldLe p 8 4
  decel := fieldLe p 12 4
  iLimit := fieldLe p 16 2
  iPeak := fieldLe p 18 2
  dump := (fieldLe p 20 1).testBit 0
  page := (fieldLe p 20 1).testBit 1
  pos := BitVec.ofNat 2 (fieldLe p 21 1)
  pp := fieldLe p 22 1

/-- Another channel's configuration selects the same resolver (R289). -/
def resolverTaken (s : State) (k : Fin 6) (pos : Nat) : Bool :=
  decide (pos ≠ 0) && (List.finRange 6).any fun j =>
    decide (j ≠ k) && (match s.sinov.motor[j] with | some c => decide (c.pos.toNat = pos) | none => false)

/-- A SET_MOTOR out of range. -/
def motorBad (s : State) (p : List Byte) : Bool :=
  let ch := fieldLe p 0 1
  let fac := fieldLe p 2 1
  let acc := fieldLe p 8 4
  let dec := fieldLe p 12 4
  let pos := fieldLe p 21 1
  let pp := fieldLe p 22 1
  lenNot p 24 || decide (5 < ch) || decide (3 < fieldLe p 1 1)
    || (if ch = 0 then decide (fac ≠ 6) && decide (fac ≠ 8) else decide (fac ≠ 0))
    || decide (1 < fieldLe p 3 1) || decide (acc = 0) || decide (16777215 < acc) || decide (dec = 0)
    || decide (16777215 < dec) || decide (3 < fieldLe p 20 1) || decide (2 < pos) || decide (pp = 0) || decide (16 < pp)
    || !reserved p 23 1 || resolverTaken s (Fin.ofNat 6 ch) pos

/-- SET_MOTOR (R124, R285, R289, R297, R308). -/
def motorCmd (n : Fin 8) (p : List Byte) (s : State) : State :=
  let k : Fin 6 := Fin.ofNat 6 (fieldLe p 0 1)
  let c := motorOf p
  let m := s.motors[k]
  let moved := decide (m.state ≠ .off)
    && (decide (m.src ≠ c.src) || decide (m.pos ≠ c.pos) || decide (m.pp.toNat ≠ c.pp))
  judged n
    [(motorBad s p, .badArg), (moved, .notPermitted),
     ((decide (c.src = 0) && decide (s.envg.shadow.mRpm[k].toNat < c.speed))
        || decide (s.envg.shadow.mI[k].toNat < c.iLimit) || decide (s.envg.shadow.mI[k].toNat < c.iPeak), .envelope),
     (resBusy s n, .busy)]
    (configure n (fun s => rdcFollow { s with sinov := { s.sinov with motor := s.sinov.motor.set k (some c) } })
      (applyMotor k c)) s

/-- MOTOR_STOP (R126, R306): it acts in every mode, and the channel stays stopped until a new SET_MOTOR. -/
def stopCmd (n : Fin 8) (p : List Byte) (s : State) : State :=
  let ch := fieldLe p 0 1
  let k : Fin 6 := Fin.ofNat 6 ch
  let mode := fieldLe p 1 1
  judged n
    [(lenNot p 4 || decide (5 < ch) || decide (2 < mode) || !reserved p 2 2, .badArg), (resBusy s n, .busy)]
    (configure n (fun s =>
      let stop := vmod s.sinov.motor k (fun o => o.map fun c => { c with stopped := true, startDue := false })
      motStopOp k (BitVec.ofNat 2 mode) { s with sinov := { s.sinov with motor := stop } }) id) s

/-! ## Loops -/

/-- Slots per frame of the loops that Sinov's configurations enable (R123). -/
def cfgSlots (v : Sinov) : Nat :=
  let one := fun (en : Bool) (g : BitVec 4) => if en then loopSlots g else 0
  let fus := match v.fuser with
    | some f => one (f.en.getLsbD 0) f.plog + one (f.en.getLsbD 1) f.plog
    | none => 0
  fus + (v.hv.toList.map fun o => match o with | some c => one c.en c.plog | none => 0).sum
    + (v.laser.toList.map fun o => match o with | some c => one c.en c.plog | none => 0).sum
    + (v.loop.toList.map fun o => match o with | some c => one c.en c.plog | none => 0).sum

/-- A configuration stored in Sinov's own state. -/
def storeCfg (f : Sinov → Sinov) (s : State) : State := { s with sinov := f s.sinov }

/-- EN above 1 or PLOG above 10. -/
def enPlogBad (p : List Byte) : Bool := decide (1 < fieldLe p 1 1) || decide (10 < fieldLe p 2 1)

/-- The stored configuration would need more slots than a frame has (R123). -/
def slotsBad (s : State) (f : Sinov → Sinov) : Bool := decide (1024 < cfgSlots (f s.sinov))

/-- The configuration of a SET_LOOP. -/
def loopOf (p : List Byte) : LoopCfg where
  en := decide (fieldLe p 1 1 = 1)
  plog := BitVec.ofNat 4 (fieldLe p 2 1)
  setp := BitVec.ofNat 32 (fieldLe p 4 4)
  band := BitVec.ofNat 32 (fieldLe p 8 4)
  dwell := fieldLe p 12 2
  insel := BitVec.ofNat 8 (fieldLe p 14 1)
  outsel := BitVec.ofNat 7 (fieldLe p 15 1)
  inv := (fieldLe p 15 1).testBit 7

/-- Another enabled loop drives the same LOOP_OUT (R321). -/
def outTaken (s : State) (n : Nat) (o : BitVec 7) : Bool :=
  decide (o ≠ 0) && (List.finRange 32).any fun i => decide (i.val ≠ n)
    && (match s.sinov.loop[i] with | some c => c.en && decide (c.outsel = o) | none => false)

/-- SET_LOOP (R123, R321, R334). -/
def loopCmd (n : Fin 8) (p : List Byte) (s : State) : State :=
  let i := fieldLe p 0 1
  let k : Fin 32 := Fin.ofNat 32 i
  let c := loopOf p
  let f := fun (v : Sinov) => { v with loop := v.loop.set k (some c) }
  judged n
    [(lenNot p 16 || decide (i < 9) || decide (31 < i) || enPlogBad p || !reserved p 3 1 || decide (c.band = 0)
        || decide (35 < c.insel.toNat) || decide (16 < c.outsel.toNat) || outTaken s i c.outsel || slotsBad s f, .badArg),
     (resBusy s n, .busy)]
    (configure n (storeCfg f) (fun s => loopsGo (applyLoop false k c s))) s

/-! ## High voltage -/

/-- Output volts (magnitude) as feedback mV by the divider of channel c, to the nearest (R324; half upwards, log 34). -/
def hvMv (c v : Nat) : Nat :=
  match c with
  | 0 => v
  | 1 => (5 * v + 1) / 2
  | _ => (10 * v + 12) / 24

/-- Full scale of channel c in volts. -/
def hvFull (c : Nat) : Nat := match c with | 0 => 2500 | 1 => 1000 | _ => 6000

/-- SET_HV (R124, R324, R334). -/
def hvCmd (n : Fin 8) (p : List Byte) (s : State) : State :=
  let i := fieldLe p 0 1
  let k : Fin 3 := Fin.ofNat 3 i
  let v := (BitVec.ofNat 32 (fieldLe p 4 4)).toInt
  let band := fieldLe p 8 2
  let wrong := if i = 2 then decide (v < 0) else decide (0 < v)
  let c : HvCfg := { en := decide (fieldLe p 1 1 = 1), plog := BitVec.ofNat 4 (fieldLe p 2 1), setp := hvMv i v.natAbs
                     band := max 1 (hvMv i band), dwell := fieldLe p 10 2 }
  let f := fun (x : Sinov) => { x with hv := x.hv.set k (some c) }
  judged n
    [(lenNot p 12 || decide (2 < i) || enPlogBad p || !reserved p 3 1 || wrong || decide (hvFull i < v.natAbs)
        || decide (band = 0) || slotsBad s f, .badArg),
     (decide (s.envg.shadow.hvFb[k].toNat < c.setp + c.band), .envelope), (resBusy s n, .busy)]
    (configure n (storeCfg f) (fun s => loopsGo (applyHv k c s))) s

/-! ## Fuser and lasers -/

/-- SET_FUSER (R124, R334). DUTY_REQ serves both heaters, so the envelope of either bounds it (log 49). -/
def fuserCmd (n : Fin 8) (p : List Byte) (s : State) : State :=
  let en := fieldLe p 0 1
  let c : FuserCfg := { en := BitVec.ofNat 2 en, plog := BitVec.ofNat 4 (fieldLe p 1 1), set0 := fieldLe p 4 2
                        set1 := fieldLe p 6 2, band := fieldLe p 8 2, dwell := fieldLe p 10 2, duty := fieldLe p 12 2 }
  let f := fun (x : Sinov) => { x with fuser := some c }
  let above := fun (h : Fin 2) => decide (s.envg.shadow.htrDuty[h].toNat < c.duty)
  judged n
    [(lenNot p 16 || decide (3 < en) || decide (10 < fieldLe p 1 1) || !reserved p 2 2 || !reserved p 14 2
        || decide (c.band = 0) || decide (60000 < c.dwell) || decide (1000 < c.duty) || slotsBad s f, .badArg),
     (above 0 || above 1, .envelope), (resBusy s n, .busy)]
    (configure n (storeCfg f) (fun s => loopsGo (applyFuser c s))) s

/-- SET_LASER (R124, R268, R277). -/
def laserCmd (n : Fin 8) (p : List Byte) (s : State) : State :=
  let i := fieldLe p 0 1
  let b : Fin 4 := Fin.ofNat 4 i
  let c : LaserCfg := { en := decide (fieldLe p 1 1 = 1), plog := BitVec.ofNat 4 (fieldLe p 2 1), power := fieldLe p 4 4
                        iCeil := fieldLe p 8 2, delay := fieldLe p 10 2 }
  let f := fun (x : Sinov) => { x with laser := x.laser.set b (some c) }
  judged n
    [(lenNot p 12 || decide (3 < i) || enPlogBad p || !reserved p 3 1 || decide (12799 < c.delay) || slotsBad s f, .badArg),
     (decide (s.envg.shadow.ldI[b].toNat < c.iCeil), .envelope), (resBusy s n, .busy)]
    (configure n (fun s => storeCfg f { s with outHold := { s.outHold with ldNew := setBit s.outHold.ldNew b.val false } })
      (fun s => loopsGo (applyLaser b c s))) s

/-! ## Fabric -/

/-- SET_FABRIC (R125, R404): the allotment applies at once. -/
def fabricCmd (n : Fin 8) (p : List Byte) (s : State) : State :=
  let v := fieldLe p 0 1
  let e := fieldLe p 1 1
  let lim := fun (i : Nat) => (s.fabric.limits >>> (8 * i)).toNat % 256
  judged n
    [(lenNot p 4 || !reserved p 2 2 || decide (64 < v + e) || decide (e = 0), .badArg),
     (decide (v < lim 0) || decide (lim 1 < v) || decide (e < lim 2) || decide (lim 3 < e), .envelope),
     (resBusy s n, .busy)]
    (configure n (setAllot (BitVec.ofNat 7 v) (BitVec.ofNat 7 e)) id) s

/-! ## Meanings -/

/-- SET_FACET_PROFILE (R247). -/
def execSetFacetProfile (n : Fin 8) (s : State) : Host.Outcome State Fault Refusal :=
  .next (runFrame 0x0300 anyPayload n (profileCmd n) s)

/-- SET_MOTOR (R308). -/
def execSetMotor (n : Fin 8) (s : State) : Host.Outcome State Fault Refusal :=
  .next (runFrame 0x0301 anyPayload n (motorCmd n) s)

/-- MOTOR_STOP (R306). -/
def execMotorStop (n : Fin 8) (s : State) : Host.Outcome State Fault Refusal :=
  .next (runFrame 0x0302 anyPayload n (stopCmd n) s)

/-- SET_LOOP (R334). -/
def execSetLoop (n : Fin 8) (s : State) : Host.Outcome State Fault Refusal :=
  .next (runFrame 0x0303 anyPayload n (loopCmd n) s)

/-- SET_HV (R324). -/
def execSetHv (n : Fin 8) (s : State) : Host.Outcome State Fault Refusal :=
  .next (runFrame 0x0304 anyPayload n (hvCmd n) s)

/-- SET_FUSER (R334). -/
def execSetFuser (n : Fin 8) (s : State) : Host.Outcome State Fault Refusal :=
  .next (runFrame 0x0305 anyPayload n (fuserCmd n) s)

/-- SET_LASER (R277). -/
def execSetLaser (n : Fin 8) (s : State) : Host.Outcome State Fault Refusal :=
  .next (runFrame 0x0306 anyPayload n (laserCmd n) s)

/-- SET_FABRIC (R125). -/
def execSetFabric (n : Fin 8) (s : State) : Host.Outcome State Fault Refusal :=
  .next (runFrame 0x0307 anyPayload n (fabricCmd n) s)

end Sys2Proof.Machine
end

