-- ==== Sys2Proof/Machine/Tick.lean ====
section
/-! DEFINITION. What 10 ns of time do when no command waits: DEVTIME, the PTP clocks and the RTC sub-seconds advance
(R237, R246, R370, R476; DESIGN CHOICE, log 1). -/

namespace Sys2Proof.Machine

/-- One CK_PTP cycle of a PTP clock (R476): 4 ns plus ADJ in units of 2^-32 ns, seconds carried. -/
def ptpAdvance (e : Eth) : Eth :=
  let t : Int := (e.ptpNs * 4294967296 + e.ptpFrac.toNat : Nat) + 4 * 4294967296 + e.adj.toInt
  let n := t.toNat
  let ns := n / 4294967296
  { e with ptpFrac := BitVec.ofNat 32 n
           ptpNs := if 1000000000 ≤ ns then ns - 1000000000 else ns
           ptpSec := if 1000000000 ≤ ns then e.ptpSec + 1 else e.ptpSec }

/-- CK_PTP runs: SOCPLL locked and its consumers on it, the MAC's domain on (R234, R486). -/
def ptpRuns (s : State) (i : Fin 2) : Bool :=
  s.clk.lock.getLsbD 1 && !s.clk.fb.getLsbD 1 && domOn s (28 + i.val)

/-- DEVTIME after 10 ns (R237): by 1 from SOCPLL or, with CK_REF lost, from CK_BYP; by 4 every 40 ns from CK_REF. In DORMANT neither
of them runs (R234). -/
def devtimeTick (s : State) : BitVec 64 :=
  if clocksRun s = false then s.devtime
  else if s.hub.raised.getLsbD 0x44 then s.devtime + 1
  else if s.clk.lock.getLsbD 1 then s.devtime + 1
  else if s.tickPhase = 3 then s.devtime + 4
  else s.devtime

/-- The RTC after 10 ns (R370): 32,768 CK_AO32 edges a second. The edge out of 0x7FFF is the row RTC_SECOND, so the
count waits there for it. -/
def rtcTick (s : State) : Rtc × Nat :=
  let a := s.ao32Acc + 32768
  if 100000000 ≤ a then
    ((if s.clk.ao32Ok ∧ s.rtc.sub ≠ 0x7FFF then { s.rtc with sub := s.rtc.sub + 1 } else s.rtc), a - 100000000)
  else (s.rtc, a)

/-- 10 ns without a command. -/
def idleTick (s : State) : State :=
  let n := if s.tickPhase = 0 ∨ s.tickPhase = 2 then 3 else 2
  let adv := fun (i : Fin 2) (e : Eth) =>
    if ptpRuns s i then (if n = 3 then ptpAdvance (ptpAdvance (ptpAdvance e)) else ptpAdvance (ptpAdvance e)) else e
  { s with
    devtime := devtimeTick s
    rtc := (rtcTick s).1
    ao32Acc := (rtcTick s).2
    eth := (s.eth.set 0 (adv 0 s.eth[0])).set 1 (adv 1 s.eth[1])
    pix := if s.tickPhase = 3 ∧ clocksRun s = true then rampCycle s.pix else s.pix
    rst := { s.rst with fresh := false }
    docket := { s.docket with fresh := false }
    tickPhase := s.tickPhase + 1 }

end Sys2Proof.Machine
end

