-- ==== Sys2Proof/Machine/Eth.lean ====
section
/-! DEFINITION. The Ethernet MACs (R472-R477, R485, R486): rings, frames, the PTP clocks and MDIO. -/

namespace Sys2Proof.Machine

/-- The domain of a MAC. -/
def ethDomain (i : Fin 2) : Nat := 28 + i.val

/-- A MAC works: its domain is on and its block is in no BLOCK reset (R225, R226). -/
def ethUp (s : State) (i : Fin 2) : Bool := domOn s (ethDomain i) && masterOpen s (.eth i)

/-- CK_ETX runs: it comes from SOCPLL and has no fallback (R234). -/
def etxRuns (s : State) : Bool := s.clk.lock.getLsbD 1 && !s.clk.fb.getLsbD 1

/-- A PAUSE frame that the MAC honours holds transmission (R472). -/
def paused (s : State) (e : Eth) : Bool := e.ctrl.getLsbD 7 && decide (s.devtime.toNat < e.pauseEnd.toNat)

/-- One MAC changed. -/
def ethMod (i : Fin 2) (f : Eth → Eth) (s : State) : State := { s with eth := vmod s.eth i f }

/-- ETH_CTRL (R477): an enable that is set starts its ring with HEAD 0, one that is cleared stops it. -/
def ethCtrl (i : Fin 2) (v : Word) (s : State) : State :=
  ethMod i (fun e =>
    let tx := v.getLsbD 0
    let rx := v.getLsbD 1
    { e with
      ctrl := v &&& 0xFF
      txRun := tx && (e.txRun || !e.ctrl.getLsbD 0)
      rxRun := rx && (e.rxRun || !e.ctrl.getLsbD 1)
      txHead := if tx && !e.ctrl.getLsbD 0 then 0 else e.txHead
      rxHead := if rx && !e.ctrl.getLsbD 1 then 0 else e.rxHead }) s

/-- The MAC reaches an address range and its memory answers (R27). -/
def ethReach (s : State) (a n : Nat) : Bool :=
  cacheable (a / 64) && cacheable ((a + n - 1) / 64) && memUp s a && memUp s (a + n - 1)

/-- The next index of a ring. -/
def ringNext (size head : Word) : Word := if size.toNat ≤ head.toNat + 1 then 0 else head + 1

/-- A descriptor or buffer access gets an error response (R485). -/
def ethBusFail (i : Fin 2) (rx abort : Bool) (addr : Nat) (s : State) : State :=
  let s := ethMod i (fun e =>
    { e with
      events := e.events ||| 8
      busErr := (if rx then e.rxHead else e.txHead) &&& 0xFFF ||| bitAt rx 16
      txRun := e.txRun && rx
      rxRun := e.rxRun && !rx
      txAbort := if abort && !rx then e.txAbort + 1 else e.txAbort }) s
  errorResponse { master := .eth i, addr := BitVec.ofNat 40 addr, kind := 0, size := 6 }
    (if cacheable (addr / 64) then .target else .firewall) s

/-- The frame check sequence of IEEE 802.3 (log 28). -/
def fcsBit (c : Word) : Word := if c.getLsbD 0 then (c >>> 1) ^^^ 0xEDB8_8320 else c >>> 1
/-- See `fcsBit`. -/
def fcsByte (c : Word) (b : Byte) : Word :=
  fcsBit (fcsBit (fcsBit (fcsBit (fcsBit (fcsBit (fcsBit (fcsBit (c ^^^ b.setWidth 32))))))))
/-- The four bytes appended to a frame. -/
def fcsOf (bs : List Byte) : List Byte := toLe (bs.foldl fcsByte 0xFFFF_FFFF ^^^ 0xFFFF_FFFF) 4

/-- Bytes of a list replaced from an offset, the length kept. -/
def patch (bs : List Byte) (ofs : Nat) (p : List Byte) : List Byte :=
  ((bs.take ofs) ++ p ++ bs.drop (ofs + p.length)).take bs.length

/-- The write-back of a descriptor (R474): LEN, FLAGS with ERR and TS_VALID, OWN clear, the timestamp. -/
def descBack (e : Eth) (d : List Byte) (len : Nat) (err ts : Bool) : List Byte :=
  let fl : BitVec 16 := BitVec.ofNat 16 (fieldLe d 10 2)
  let fl := setBit (setBit (setBit fl 0 false) 8 err) 9 ts
  let d := patch (patch d 8 (toLe (BitVec.ofNat 16 len) 2)) 10 (toLe fl 2)
  if ts then patch (patch d 16 (toLe e.ptpSec 6)) 22 (toLe (BitVec.ofNat 32 e.ptpNs) 4) else d

/-- The frame a transmit descriptor sends (R474, R475): padded to 60 bytes, the origin timestamp in a one-step PTP
message and the UDP checksum 0 as asked (log 28). -/
def txFrame (e : Eth) (ptpOk : Bool) (flags : BitVec 16) (ptpOfs : Nat) (bs : List Byte) : List Byte :=
  let bs := if flags.getLsbD 2 && ptpOk then
      patch bs (ptpOfs + 34) ((toLe e.ptpSec 6).reverse ++ (toLe (BitVec.ofNat 32 e.ptpNs) 4).reverse) else bs
  let bs := if flags.getLsbD 2 && flags.getLsbD 3 && decide (2 ≤ ptpOfs) then patch bs (ptpOfs - 2) [0, 0] else bs
  let bs := bs ++ List.replicate (60 - bs.length) 0
  bs ++ fcsOf bs

/-- The transmit ring serves its descriptor at HEAD (R474). Transmission is held while CK_ETX is stopped (R234) and in a pause. -/
def ethTx (i : Fin 2) (s : State) : State :=
  let e := s.eth[i]
  if !(e.txRun && ethUp s i && etxRuns s) || paused s e || decide (e.txHead = e.txTail) then s
  else
    let a := e.txBase.toNat + 32 * e.txHead.toNat
    if ethReach s a 32 = false then ethBusFail i false false a s
    else
      let d := ioRead s a 32
      let fl : BitVec 16 := BitVec.ofNat 16 (fieldLe d 10 2)
      let len := fieldLe d 8 2
      let buf := fieldLe d 0 5
      if fl.getLsbD 0 = false then s
      else if len < 14 ∨ 1518 < len then
        ethMod i (fun e => { e with txHead := ringNext e.txSize e.txHead, events := e.events ||| 2 })
          (ioWrite a (descBack e d len true false) s)
      else if ethReach s buf len = false then ethBusFail i false true buf s
      else
        let ptpOk := e.ptpValid && ptpRuns s i
        let f := txFrame e ptpOk fl (fieldLe d 12 2) (ioRead s buf len)
        ethMod i (fun e => { e with txHead := ringNext e.txSize e.txHead, events := e.events ||| 2, sent := f })
          (ioWrite a (descBack e d len false (fl.getLsbD 1 && ptpOk)) s)

/-- A destination address passes the filter (R477). -/
def addrPass (e : Eth) (f : List Byte) : Bool :=
  let d : BitVec 48 := BitVec.ofNat 48 (natBe (slice f 0 6))
  e.ctrl.getLsbD 5 || (e.ctrl.getLsbD 6 && decide (d = BitVec.allOnes 48))
    || (List.range 4).any fun n => e.addrEn.getLsbD n && decide (e.addr[Fin.ofNat 4 n] = d)

/-- A MAC control frame that asks for a pause, as IEEE 802.3 Annex 31B lays it out (PRESUMED, log 28). -/
def pauseFrame (f : List Byte) : Bool :=
  decide (natBe (slice f 0 6) = 0x0180_C200_0001 ∧ natBe (slice f 12 4) = 0x8808_0001)

/-- DEVTIME counts of one pause quantum, 512 bit times, times 10: SPEED 0 10, 1 100, 2 1000 Mb/s; code 3 as 2 (PRESUMED, log 28). -/
def quantumTenths (e : Eth) : Nat :=
  match (bits e.ctrl 2 2 : BitVec 2).toNat with
  | 0 => 51200
  | 1 => 5120
  | _ => 512

/-- The pause that a frame asks for starts over; a time of 0 ends it. -/
def pauseStart (now : BitVec 64) (f : List Byte) (e : Eth) : Eth :=
  { e with pauseEnd := now + BitVec.ofNat 64 ((natBe (slice f 16 2) * quantumTenths e + 9) / 10) }

/-- The receive ring takes a frame, given without its FCS (R472, R474). A PAUSE frame that is honoured goes to no ring (log 28). -/
def ethRx (i : Fin 2) (f : List Byte) (fcsOk : Bool) (s : State) : State :=
  let e := s.eth[i]
  if !(e.rxRun && ethUp s i) then s
  else if !fcsOk then ethMod i (fun e => { e with fcsErr := e.fcsErr + 1 }) s
  else if 1522 < f.length + 4 then ethMod i (fun e => { e with rxDrop := e.rxDrop + 1 }) s
  else if e.ctrl.getLsbD 7 && pauseFrame f then ethMod i (pauseStart s.devtime f) s
  else if !addrPass e f then s
  else
    let a := e.rxBase.toNat + 32 * e.rxHead.toNat
    if e.rxHead = e.rxTail then ethMod i (fun e => { e with events := e.events ||| 4 }) s
    else if ethReach s a 32 = false then ethBusFail i true false a s
    else
      let d := ioRead s a 32
      let buf := fieldLe d 0 5
      if (BitVec.ofNat 16 (fieldLe d 10 2)).getLsbD 0 = false then ethMod i (fun e => { e with events := e.events ||| 4 }) s
      else if fieldLe d 8 2 < f.length then ethMod i (fun e => { e with rxDrop := e.rxDrop + 1 }) s
      else if ethReach s buf f.length = false then ethBusFail i true false buf s
      else
        ethMod i (fun e => { e with rxHead := ringNext e.rxSize e.rxHead, events := e.events ||| 1 })
          (ioWrite a (descBack e d f.length false (e.ptpValid && ptpRuns s i)) (ioWrite buf f s))

/-! ## PTP (R476) -/

/-- PTP_CMD.SET: ignored with more than 999,999,999 ns or bit 31 set. -/
def ptpSetOp (i : Fin 2) (s : State) : State :=
  let run := ptpRuns s i
  ethMod i (fun e =>
    let ns := (e.setNs &&& 0x3FFF_FFFF).toNat
    if 999999999 < ns ∨ e.setNs.getLsbD 31 then e
    else { e with ptpSec := e.setSec, ptpNs := ns, ptpFrac := 0, ptpValid := run }) s

/-- PTP_CMD.STEP: a signed offset, a backward step beyond zero gives zero. -/
def ptpStepOp (i : Fin 2) (s : State) : State :=
  ethMod i (fun e =>
    let ns := (e.setNs &&& 0x3FFF_FFFF).toNat
    if 999999999 < ns then e
    else
      let now := e.ptpSec.toNat * 1000000000 + e.ptpNs
      let d := e.setSec.toNat * 1000000000 + ns
      if e.setNs.getLsbD 31 then
        if now < d then { e with ptpSec := 0, ptpNs := 0, ptpFrac := 0 }
        else { e with ptpSec := BitVec.ofNat 48 ((now - d) / 1000000000), ptpNs := (now - d) % 1000000000 }
      else { e with ptpSec := BitVec.ofNat 48 ((now + d) / 1000000000), ptpNs := (now + d) % 1000000000 }) s

/-- PTP_CMD by its OP. -/
def ptpCmd (i : Fin 2) (v : Word) (s : State) : State :=
  match (bits v 0 2 : BitVec 2).toNat with
  | 1 => ptpSetOp i s
  | 2 => ptpStepOp i s
  | _ => s

/-- PTP_ADJ, limited to ±8,589,934. -/
def ptpAdj (v : Word) : Word :=
  if v.toInt < -8589934 then BitVec.ofInt 32 (-8589934) else if 8589934 < v.toInt then 8589934 else v

/-- The PPS output and the pin that carries it. -/
def ppsSet (i : Fin 2) (b : Bool) (s : State) : State :=
  if ethUp s i then withEdges 1 (ethMod i (fun e => { e with pps := b })) s else s

/-- A capture edge (R476). -/
def tsCapture (i : Fin 2) (s : State) : State :=
  if ethUp s i then
    ethMod i (fun e => { e with capSec := e.ptpSec, capNs := BitVec.ofNat 30 e.ptpNs, events := e.events ||| 16 }) s
  else s

/-! ## MDIO (R472) -/

/-- A write of ETH_MDIO issues the frame; ignored while one runs (log 28). -/
def mdioStart (i : Fin 2) (v : Word) (s : State) : State :=
  ethMod i (fun e => if e.mdioBusy then e else { e with mdio := v, mdioBusy := true }) s

/-- A frame that reads: Clause 22 opcode 10, Clause 45 opcodes 10 and 11 (log 28). -/
def mdioReads (v : Word) : Bool :=
  let st : BitVec 2 := bits v 30 2
  let op : BitVec 2 := bits v 28 2
  (decide (st = 1) && decide (op = 2)) || (decide (st = 0) && (decide (op = 2) || decide (op = 3)))

/-- The frame ends; a read leaves its data in bits 15:0. -/
def mdioEnd (i : Fin 2) (data : BitVec 16) (s : State) : State :=
  ethMod i (fun e =>
    if e.mdioBusy then
      { e with mdioBusy := false
               mdio := if mdioReads e.mdio then (e.mdio &&& 0xFFFF_0000) ||| data.setWidth 32 else e.mdio }
    else e) s

/-! ## Meanings -/

/-- ETH_TX_FRAME (R474). -/
def execEthTxFrame (i : Fin 2) (s : State) : Host.Outcome State Fault Refusal := .next (ethTx i s)

/-- ETH_RX_FRAME (R474). -/
def execEthRxFrame (i : Fin 2) (frame : List Byte) (fcsOk : Bool) (s : State) : Host.Outcome State Fault Refusal :=
  .next (ethRx i frame fcsOk s)

/-- ETH_BUS_ERROR (R485). Whether a transmit frame was under way is a free value (log 8). -/
def execEthBusError (i : Fin 2) (rx : Bool) (s : State) : Host.Outcome State Fault Refusal :=
  let e := s.eth[i]
  if (if rx then e.rxRun else e.txRun) && ethUp s i then
    let t := takeBit s
    .next (ethBusFail i rx t.1 (if rx then e.rxBase.toNat + 32 * e.rxHead.toNat else e.txBase.toNat + 32 * e.txHead.toNat)
      t.2)
  else .next s

/-- PPS_RISE (R476). -/
def execPpsRise (i : Fin 2) (s : State) : Host.Outcome State Fault Refusal := .next (ppsSet i true s)

/-- PPS_FALL (R476). -/
def execPpsFall (i : Fin 2) (s : State) : Host.Outcome State Fault Refusal := .next (ppsSet i false s)

/-- TSCAP_EDGE (R476). -/
def execTscapEdge (i : Fin 2) (s : State) : Host.Outcome State Fault Refusal := .next (tsCapture i s)

/-- MDIO_DONE (R472). -/
def execMdioDone (i : Fin 2) (data : BitVec 16) (s : State) : Host.Outcome State Fault Refusal :=
  .next (mdioEnd i data s)

end Sys2Proof.Machine
end

