-- ==== Sys2Proof/Machine/DebugModule.lean ====
section
/-! DEFINITION. The debug module's own state (R511), as RISC-V External Debug Support 0.13.2 defines it (PRESUMED, log 6):
which harts are there, halting and resuming, dmcontrol, dmstatus, abstractcs. -/

namespace Sys2Proof.Machine

/-- Words of `data` (R511 gives none): an address and a 64-bit value (log 6). -/
def dmiData : Nat := 4

/-- DMI register a. -/
def dmiReg (s : State) (a : Nat) : Word := (s.dbg.dmi[a]?).getD 0

/-- DMI register a written as it stands. -/
def dmiPut (a : Nat) (v : Word) (s : State) : State :=
  { s with dbg := { s.dbg with dmi := s.dbg.dmi.setIfInBounds a v } }

/-- dmcontrol.dmactive. -/
def dmActive (s : State) : Bool := bit (dmiReg s 0x10) 0

/-- The selected hart number: hartselhi, hartsello. -/
def dmHartsel (s : State) : Nat :=
  let c := dmiReg s 0x10
  (bits c 16 10 : BitVec 10).toNat + 1024 * (bits c 6 10 : BitVec 10).toNat

/-- The selected hart, where it exists. -/
def dmHart (s : State) : Option (Fin 4) := if h : dmHartsel s < 4 then some ⟨dmHartsel s, h⟩ else none

/-- Hart h runs or is halted: its core is released, powered and in no BLOCK reset (R175, R226, R230). -/
def hartThere (s : State) (h : Fin 4) : Bool :=
  s.rst.cores.getLsbD h.val && domOn s (5 + h.val) && decide (s.rst.blk[(0 : Fin 24)] = .none)

/-- One hart changed. -/
def hartMod (h : Fin 4) (f : Hart → Hart) (s : State) : State :=
  { s with cluster := { s.cluster with harts := vmod s.cluster.harts h f } }

/-- The harts that are there and halted. -/
def haltSum (s : State) : BitVec 4 :=
  (List.finRange 4).foldl (fun (v : BitVec 4) h =>
    if hartThere s h && s.cluster.harts[h].halted then v ||| BitVec.twoPow 4 h.val else v) 0

/-- Harts with a halt request that run come to a halt. -/
def haltRequested (s : State) : State :=
  (List.finRange 4).foldl (fun s h =>
    if s.dbg.haltReq.getLsbD h.val && hartThere s h then hartMod h (fun x => { x with halted := true }) s else s) s

/-- dmstatus (0x11) of the selected hart. -/
def dmStatus (s : State) : Word :=
  let two := fun (b : Bool) (i : Nat) => bitAt b i ||| bitAt b (i + 1)
  match dmHart s with
  | some h =>
    let there := hartThere s h
    let halted := s.cluster.harts[h].halted
    0x82 ||| two (there && halted) 8 ||| two (there && !halted) 10 ||| two (!there) 12
      ||| two (s.dbg.resumeAck.getLsbD h.val) 16 ||| two (s.dbg.haveReset.getLsbD h.val) 18
  | none => 0x82 ||| two true 14

/-- What a DMI address reads as. -/
def dmiVal (s : State) (a : Nat) : Word :=
  match a with
  | 0x10 => dmiReg s 0x10 &&& 0x03FF_FFC3
  | 0x11 => dmStatus s
  | 0x16 => 0x0800_0000 ||| (dmiReg s 0x16 &&& 0x700) ||| BitVec.ofNat 32 dmiData
  | 0x17 => 0
  | 0x40 => fieldAt (haltSum s) 0
  | _ => dmiReg s a

/-- A hart resumes at dpc, in the mode that dcsr names. -/
def hartResume (h : Fin 4) (s : State) : State :=
  if hartThere s h && s.cluster.harts[h].halted then
    { hartMod h (fun x => { x with halted := false }) s with
      dbg := { s.dbg with resumeAck := setBit s.dbg.resumeAck h.val true } }
  else s

/-- A write of dmcontrol (0x10): dmactive 0 returns the module to its reset values; else haltreq, resumereq and
ackhavereset act on the hart that the write selects. -/
def dmControl (v : Word) (s : State) : State :=
  if bit v 0 = false then
    { s with dbg := { s.dbg with dmi := Vector.replicate 128 0, haltReq := 0, resumeAck := 0 } }
  else if dmActive s = false then dmiPut 0x10 1 s
  else
    let s := dmiPut 0x10 (v &&& 0x03FF_FFC3) s
    match dmHart s with
    | some h =>
      let s := if bit v 28 then
          { s with dbg := { s.dbg with haveReset := setBit s.dbg.haveReset h.val false } } else s
      let s := { s with dbg := { s.dbg with haltReq := setBit s.dbg.haltReq h.val (bit v 31) } }
      if bit v 31 then haltRequested s
      else if bit v 30 then
        hartResume h { s with dbg := { s.dbg with resumeAck := setBit s.dbg.resumeAck h.val false } }
      else s
    | none => s

/-- An abstract command ends with an error (abstractcs.cmderr). -/
def cmdErr (e : BitVec 3) (s : State) : State := dmiPut 0x16 (fieldAt e 8) s

/-- The 64-bit argument k of an abstract command: data words 2k and 2k + 1. -/
def dmArg (s : State) (k : Nat) : BitVec 64 := dmiReg s (0x05 + 2 * k) ++ dmiReg s (0x04 + 2 * k)

/-- Argument k replaced. -/
def dmArgPut (k : Nat) (v : BitVec 64) (s : State) : State := dmiPut (0x05 + 2 * k) (hi64 v) (dmiPut (0x04 + 2 * k) (lo64 v) s)

end Sys2Proof.Machine
end

