-- ==== Sys2Proof/Machine/Lic.lean ====
section
/-! DEFINITION. The level interrupt controllers (R415-R425): source levels, best source and line of each context, the
entry stacks, timers and software interrupts. -/

namespace Sys2Proof.Machine

/-- A vector of levels from the sources that are high. -/
def levelsOf (f : Nat → Bool) : BitVec 320 :=
  (List.range 320).foldl (fun v i => if f i then v ||| BitVec.twoPow 320 i else v) 0

/-- Counter n's DONE with its enable (R94). -/
def cntDoneLevel (s : State) (n : Fin 8) : Bool := decide (s.counters[n].stage = .done) && s.counters[n].doneIe

/-- NFAULT as FH_STATUS shows it (R164). -/
def nfaultBit (s : State) : Bool := nfaultDriven s

/-- Level of LIC_APP source i (R415). -/
def appSource (s : State) (i : Nat) : Bool :=
  if i < 4 then cntDoneLevel s (Fin.ofNat 8 i)
  else if i = 4 then cntDoneLevel s 7
  else if i < 21 then
    let c := s.bwApp.ch[Fin.ofNat 16 (i - 5)]
    c.ended && c.ie
  else if 24 ≤ i ∧ i < 29 then (s.eth[0].events &&& s.eth[0].irqen).getLsbD (i - 24)
  else if 32 ≤ i ∧ i < 37 then (s.eth[1].events &&& s.eth[1].irqen).getLsbD (i - 32)
  else if 40 ≤ i ∧ i < 48 then
    let p := s.spim[Fin.ofNat 4 ((i - 40) / 2)]
    let e := p.events &&& p.irqen
    if i % 2 = 0 then e.getLsbD 0 else (e >>> 1) != 0
  else if i = 48 then (s.xspi.events &&& s.xspi.irqen) != 0
  else if 64 ≤ i ∧ i < 184 then pinSource s (Fin.ofNat 4 ((i - 64) / 32)) ((i - 64) % 32)
  else if 192 ≤ i ∧ i < 224 then s.licApp.swi.getLsbD (i - 192)
  else if i = 240 then nfaultBit s
  else if i = 241 then s.ps.pfwSeen
  else false

/-- Level of LIC_KEEP source i (R415). -/
def keepSource (s : State) (i : Nat) : Bool :=
  if i < 8 then decide (s.counters[Fin.ofNat 8 i].stage = .posted)
  else if i < 16 then
    let c := s.bwKeep.ch[Fin.ofNat 16 (i - 8)]
    c.ended && c.ie
  else if i = 16 then s.ps.pfwSeen
  else if i = 17 then s.rtc.alarmHit
  else if i = 18 then s.hub.unack != 0
  else if i = 19 then (s.hspi.events &&& s.hspi.irqen) != 0
  else if i = 20 then s.video.evUnder
  else if i = 21 then s.video.evFetch
  else if i = 22 then s.beam.evMiss
  else if i = 23 then s.beam.evExtra
  else if i = 24 then s.beam.evIntlk
  else if i = 25 then s.beam.evUnder
  else if 26 ≤ i ∧ i < 62 then s.motors[Fin.ofNat 6 ((i - 26) / 6)].events.getLsbD ((i - 26) % 6)
  else if i = 62 then s.loops.reject
  else if 63 ≤ i ∧ i < 68 then s.clk.events.getLsbD (i - 63)
  else if i = 68 then !s.till.busy
  else if i = 69 then s.sy.fc.done
  else if i = 70 then !(s.crypto.shaBusy || s.crypto.signBusy)
  else if 96 ≤ i ∧ i < 112 then s.licKeep.swi.getLsbD (i - 96)
  else false

/-- The group of a priority under PRISPLIT (R418). -/
def prioGroup (g : BitVec 3) (p : Byte) : Byte := p >>> (8 - g.toNat)

/-- A source is eligible in a context (R419). -/
def eligible (l : Lic) (c : LicCtx) (i : Fin 320) : Bool :=
  l.level.getLsbD i.val && c.en.getLsbD i.val && decide (c.thresh < l.prio[i])

/-- CTX_BEST (R419): highest PRIO, lowest number among equals. -/
def bestSource (l : Lic) (c : LicCtx) : Option (Nat × Byte) :=
  (List.range 320).foldl (fun acc i =>
    let j : Fin 320 := Fin.ofNat 320 i
    if eligible l c j then
      match acc with
      | none => some (i, l.prio[j])
      | some b => if b.2 < l.prio[j] then some (i, l.prio[j]) else acc
    else acc) none

/-- A priority may pre-empt what the context serves (R420). -/
def mayPreempt (l : Lic) (c : LicCtx) (p : Byte) : Bool :=
  match c.stack with
  | [] => true
  | (_, q) :: _ => decide (prioGroup l.prisplit q < prioGroup l.prisplit p)

/-- BEST and line of a context under the controller's levels (R419, R420). -/
def ctxEval (l : Lic) (c : LicCtx) : LicCtx :=
  let best := bestSource l c
  { c with best := best
           line := match best with
             | some b => mayPreempt l c b.2 && decide (c.stack.length < 8)
             | none => false }

/-- A controller re-evaluated: levels as given, every context's best source and line. -/
def licEval (level : BitVec 320) (l : Lic) : Lic :=
  let l := { l with level := level }
  { l with ctx := l.ctx.map (ctxEval l) }

/-- mip.MTIP of each timer of a controller (R424). -/
def mtipOf (s : State) (l : Lic) : BitVec 4 :=
  (List.range 4).foldl (fun v i => if l.mtimecmp[Fin.ofNat 4 i] ≤ s.devtime then v ||| BitVec.twoPow 4 i else v) 0

/-- Both controllers follow the levels (R416, R420). -/
def licSync (s : State) : State :=
  { s with licApp := licEval (levelsOf (appSource s)) s.licApp
           licKeep := licEval (levelsOf (keepSource s)) s.licKeep }

/-- The controller named by `app`. -/
def licGet (app : Bool) (s : State) : Lic := if app then s.licApp else s.licKeep
/-- See `licGet`. -/
def licSet (app : Bool) (l : Lic) (s : State) : State := if app then { s with licApp := l } else { s with licKeep := l }

/-- Sources and priorities of a controller: LIC_KEEP has 160 (R425). -/
def licSources (app : Bool) : Nat := if app then 320 else 160

/-- One context changed, levels re-evaluated before (R416) and after. -/
def ctxChange (app : Bool) (c : Fin 8) (f : Lic → LicCtx → LicCtx) (s : State) : State :=
  let s := licSync s
  let l := licGet app s
  licSync (licSet app { l with ctx := vmod l.ctx c (f l) } s)

/-- CTX_ENTER (R421). A source that is not eligible at the write is an ENTER miss too (DEDUCED, log 58). -/
def ctxEnterOp (app : Bool) (c : Fin 8) (id : BitVec 10) (s : State) : State :=
  ctxChange app c (fun l x =>
    if h : id.toNat < 320 then
      let i : Fin 320 := ⟨id.toNat, h⟩
      if x.stack.length = 8 then { x with full := true }
      else if eligible l x i ∧ mayPreempt l x l.prio[i] then { x with stack := (id.toNat, l.prio[i]) :: x.stack }
      else { x with enterMiss := true }
    else if x.stack.length = 8 then { x with full := true } else { x with enterMiss := true }) s

/-- CTX_EXIT.GO (R421). -/
def ctxExitOp (app : Bool) (c : Fin 8) (v : Word) (s : State) : State :=
  if v.getLsbD 0 then
    ctxChange app c (fun _ x => match x.stack with
      | [] => { x with exitMiss := true }
      | _ :: t => { x with stack := t }) s
  else s

/-- LIC_SWI and LIC_SWI_CLR (R425); LIC_KEEP has 16 bits. -/
def swiSet (app : Bool) (v : Word) (s : State) : State :=
  let l := licGet app s
  let v := if app then v else v &&& 0xFFFF
  licSync (licSet app { l with swi := l.swi ||| v } s)
/-- See `swiSet`. -/
def swiClear (app : Bool) (v : Word) (s : State) : State :=
  let l := licGet app s
  licSync (licSet app { l with swi := l.swi &&& ~~~v } s)

/-- A write of a compare word takes effect at once (R424). -/
def cmpWrite (app : Bool) (h : Fin 4) (hi : Bool) (v : Word) (s : State) : State :=
  let l := licGet app s
  let l := { l with mtimecmp := vmod l.mtimecmp h fun c => if hi then setHi64 c v else setLo64 c v }
  licSet app { l with mtip := mtipOf s l } s

/-- LIC_CFG.PRISPLIT, ignored while a stack holds an entry (R422). -/
def prisplitWrite (app : Bool) (v : Word) (s : State) : State :=
  let l := licGet app s
  if l.ctx.toList.any fun c => !c.stack.isEmpty then s
  else licSync (licSet app { l with prisplit := v.setWidth 3 } s)

/-- LIC_PRIOn: four priorities. -/
def prioWrite (app : Bool) (n : Nat) (v : Word) (s : State) : State :=
  let l := licGet app s
  let p := (List.range 4).foldl (fun (p : Vector Byte 320) j => p.setIfInBounds (4 * n + j) (byteOf v j)) l.prio
  licSync (licSet app { l with prio := p } s)

/-- CTX_EN word w of a context. -/
def ctxEnWrite (app : Bool) (c : Fin 8) (w : Nat) (v : Word) (s : State) : State :=
  ctxChange app c (fun _ x =>
    { x with en := (x.en &&& ~~~((0xFFFF_FFFF : BitVec 320) <<< (32 * w))) ||| (v.setWidth 320 <<< (32 * w)) }) s

/-- CTX_THRESH. -/
def ctxThreshWrite (app : Bool) (c : Fin 8) (v : Word) (s : State) : State :=
  ctxChange app c (fun _ x => { x with thresh := v.setWidth 8 }) s

/-- CTX_ERR W1C. -/
def ctxErrClear (app : Bool) (c : Fin 8) (v : Word) (s : State) : State :=
  ctxChange app c (fun _ x =>
    { x with enterMiss := x.enterMiss && !v.getLsbD 0, exitMiss := x.exitMiss && !v.getLsbD 1
             full := x.full && !v.getLsbD 2 }) s

/-- MSIPh. -/
def msipWrite (app : Bool) (h : Nat) (v : Word) (s : State) : State :=
  let l := licGet app s
  licSet app { l with msip := setBit l.msip h (v.getLsbD 0) } s

/-- DEVTIME has reached a compare value (R424). -/
def timerFire (app : Bool) (h : Fin 4) (s : State) : State :=
  let l := licGet app s
  if l.mtimecmp[h] ≤ s.devtime then licSet app { l with mtip := setBit l.mtip h.val true } s else s

/-! ## Meanings -/

/-- LIC_LEVEL_CHANGE (R420). -/
def execLicLevelChange (s : State) : Host.Outcome State Fault Refusal := .next (licSync s)

/-- MTIMER_FIRE (R424). -/
def execMtimerFire (app : Bool) (h : Fin 4) (s : State) : Host.Outcome State Fault Refusal := .next (timerFire app h s)

end Sys2Proof.Machine
end

