-- ==== Sys2Proof/Machine/Service.lean ====
section
/-! DEFINITION. Sinov's commands of the firmware, option and diagnostics groups (04, R134-R141; R273, R305, R331). -/

namespace Sys2Proof.Machine

/-! ## Firmware staging (R134-R136) -/

/-- The image that FW_STAGE names. -/
def fwImage (p : List Byte) : Nat := fieldLe p 1 1

/-- Its staging state; none where the byte names no image. -/
def fwOf (p : List Byte) : Option (Fin 2) := finOf 2 (fwImage p)

/-- Staging of image i changes; FW_VERIFY is of the image staged last, which alone is `active` (log 22). -/
def fwSet (i : Fin 2) (x : FwStage) (s : State) : State :=
  let st : Vector FwStage 2 := Vector.ofFn fun j => if j = i then { x with active := true }
    else { s.sinov.stage[j] with active := false }
  { s with sinov := { s.sinov with stage := st } }

/-- Sectors of 64 KiB. -/
def sectors (len : Nat) : Nat := (len + 65535) / 65536

/-- Sectors erased so far of an image. -/
def fwErased (s : State) (p : List Byte) : Nat :=
  match fwOf p with
  | some i => s.sinov.stage[i].erased
  | none => 0

/-- NEXT of an image. -/
def fwNext (s : State) (p : List Byte) : Nat :=
  match fwOf p with
  | some i => s.sinov.stage[i].next
  | none => 0

/-- BAD_ARG of FW_STAGE carries the same payload as OK (R134). -/
def fwRefuse (n : Fin 8) (bad : Bool) (v : Nat) (run : State → State) (s : State) : State :=
  if bad then answerWith n .badArg 0 (toLe (BitVec.ofNat 32 v) 4) s
  else if resBusy s n then answer n .busy s
  else run s

/-- Sectors [from, to) of a staging slot are erased. -/
def eraseSectors (base a b : Nat) (s : State) : State :=
  (List.range (b - a)).foldl (fun s i => flashErase (base + 65536 * (a + i)) s) s

/-- FW_STAGE BEGIN (R134, R135): up to `erased` sectors are erased within t_cmd. -/
def fwBegin (n : Fin 8) (erased : Nat) (p : List Byte) (s : State) : State :=
  let len := fieldLe p 4 4
  let app := decide (fwImage p = 1)
  fwRefuse n (lenNot p 8 || decide (fieldLe p 0 1 ≠ 0) || decide (1 < fwImage p) || !reserved p 2 2 || decide (len = 0)
      || decide (slotSize app < len)) (fwErased s p)
    (fun s =>
      let i : Fin 2 := if app then 1 else 0
      let x := s.sinov.stage[i]
      let tot := sectors len
      let a := if x.length = len ∧ x.erased < tot then x.erased else 0
      let k := min erased (tot - a)
      let s := eraseSectors (slotOfs app (stageSlot s app)) a (a + k) s
      let s := fwSet i { active := true, length := len, erased := a + k, next := 0, verified := none } s
      let pay := toLe (BitVec.ofNat 32 (a + k)) 4
      if a + k = tot then answerOk n pay s else answerWith n .partly (BitVec.ofNat 16 k) pay s) s

/-- Bytes programmed one after another (R134): as XS_PROGRAM does, page by page. -/
def flashPut (ofs : Nat) (bs : List Byte) (s : State) : State :=
  (bs.zipIdx).foldl (fun s b =>
    let a := flashBase + ofs + b.2
    memPut s a [memByte s a &&& b.1]) s

/-- FW_STAGE DATA (R134): `done` bytes are programmed within t_cmd; fewer than the frame carries give PARTIAL (R97, R115),
and NEXT says where the next DATA begins. -/
def fwData (n : Fin 8) (done : Nat) (p : List Byte) (s : State) : State :=
  let ofs := fieldLe p 4 4
  let k := p.length - 8
  let bad := match fwOf p with
    | some i => decide (ofs ≠ s.sinov.stage[i].next) || decide (s.sinov.stage[i].length < ofs + k)
    | none => true
  fwRefuse n (decide (p.length < 9) || !reserved p 2 2 || bad) (fwNext s p)
    (fun s =>
      let i : Fin 2 := if fwImage p = 1 then 1 else 0
      let x := s.sinov.stage[i]
      let app := decide (i.val = 1)
      let j := min done k
      let s := flashPut (slotOfs app (stageSlot s app) + ofs) ((p.drop 8).take j) s
      let s := fwSet i { x with next := ofs + j, verified := none } s
      let pay := toLe (BitVec.ofNat 32 (ofs + j)) 4
      if j = k then answerOk n pay s else answerWith n .partly (BitVec.ofNat 16 j) pay s) s

/-- The image staged last, if any. -/
def fwActive (s : State) : Option (Fin 2) := (List.finRange 2).find? fun i => s.sinov.stage[i].active

/-- SHA-256 of the staged bytes. -/
def stagedDigest (s : State) (i : Fin 2) : BitVec 256 :=
  let app := decide (i.val = 1)
  digestOf (sha256 (s.mem.readAll (flashBase + slotOfs app (stageSlot s app)) s.sinov.stage[i].length))

/-- FW_VERIFY (R136): a match marks the slot verified; only a later FW_STAGE clears the mark. -/
def fwVerifyCmd (n : Fin 8) (p : List Byte) (s : State) : State :=
  let bad := match fwActive s with
    | some i => decide (s.sinov.stage[i].next ≠ s.sinov.stage[i].length)
    | none => true
  judged n [(lenNot p 32 || bad, .badArg), (resBusy s n, .busy)]
    (fun s =>
      let i := (fwActive s).getD 0
      let d := stagedDigest s i
      let same := decide (d = digestOf (slice p 0 32))
      let x := s.sinov.stage[i]
      let s := fwSet i { x with verified := if same then some d else x.verified } s
      answerOk n (digestBytes d ++ [if same then 1 else 0, 0, 0, 0]) s) s

/-- The image that a digest was verified for, the one staged last first. -/
def fwVerified (s : State) (d : BitVec 256) : Option (Fin 2) :=
  let ok := fun (i : Fin 2) => decide (s.sinov.stage[i].verified = some d)
  match (List.finRange 2).find? fun i => ok i && s.sinov.stage[i].active with
  | some i => some i
  | none => (List.finRange 2).find? ok

/-- FW_COMMIT (R137): the FIRMWARE record, then the slot is selected. -/
def fwCommitCmd (n : Fin 8) (p : List Byte) (s : State) : State :=
  let d := digestOf (slice p 0 32)
  judged n
    [(lenNot p 32, .badArg), ((fwVerified s d).isNone, .notPermitted), (resBusy s n, .busy), (tillNone s, .tillFull)]
    (fun s =>
      let i := (fwVerified s d).getD 0
      let app := decide (i.val = 1)
      writeRecord n 0x0040 0 (BitVec.ofNat 8 i.val :: digestBytes d ++ [BitVec.ofNat 8 (stageSlot s app)])
        (.fwSelect n app) s) s

/-! ## Option records (R138) -/

/-- OPTION_WRITE OPEN; an OP that is none of the three is out of range here. -/
def optOpenCmd (n : Fin 8) (p : List Byte) (s : State) : State :=
  judged n [(lenNot p 4 || decide (fieldLe p 0 1 ≠ 0) || !reserved p 1 1, .badArg), (resBusy s n, .busy)]
    (fun s => answerOk n (List.replicate 8 0) { s with sinov := { s.sinov with
      optBuf := Vector.replicate 512 0, optLoaded := 0, optOpen := true } }) s

/-- OPTION_WRITE LOAD. -/
def optLoadCmd (n : Fin 8) (p : List Byte) (s : State) : State :=
  let ofs := fieldLe p 2 2
  let k := p.length - 4
  judged n
    [(decide (k < 4) || decide (224 < k) || decide (k % 4 ≠ 0) || !reserved p 1 1 || decide (ofs % 4 ≠ 0)
        || decide (512 < ofs + k), .badArg), (resBusy s n, .busy)]
    (fun s =>
      let buf : Vector Byte 512 := Vector.ofFn fun i =>
        if ofs ≤ i.val ∧ i.val < ofs + k then p.getD (4 + (i.val - ofs)) 0 else s.sinov.optBuf[i]
      let seen := if s.sinov.optOpen then
          (List.range k).foldl (fun (v : BitVec 512) i => setBit v (ofs + i) true) s.sinov.optLoaded
        else s.sinov.optLoaded
      answerOk n (List.replicate 8 0) { s with sinov := { s.sinov with optBuf := buf, optLoaded := seen } }) s

/-- What COMMIT asks of the buffer (R138). -/
def optBufGood (s : State) : Bool :=
  let bs := s.sinov.optBuf.toList
  decide (s.sinov.optLoaded = BitVec.allOnes 512) && copyValid bs false && decide (optSeq (optRec s) < optSeq bs)

/-- OPTION_WRITE COMMIT: the OPTION_CHANGE record of the buffer, which is kept as it was checked until the copies are
written. -/
def optCommitCmd (n : Fin 8) (p : List Byte) (s : State) : State :=
  judged n
    [(lenNot p 4 || !reserved p 1 1 || !optBufGood s, .badArg), (resBusy s n, .busy), (tillNone s, .tillFull)]
    (fun s =>
      let bs := s.sinov.optBuf.toList
      writeRecord n 0x0041 0 (toLe (optSeq bs) 4 ++ sha256 bs) (.optionCopies n bs) s) s

/-! ## What follows a committed record (R137, R138, R142, R143) -/

/-- What counter n's command has still to do now that its record has committed. -/
inductive AfterRecord
  | nothing | slot | copies
  deriving DecidableEq, Repr

/-- See `AfterRecord`. -/
def afterRecord (n : Fin 8) (s : State) : AfterRecord :=
  match s.sinov.after with
  | some (.slot m _ _) => if m = n ∧ sinovRuns s = true then .slot else .nothing
  | some (.copies m _ _) => if m = n ∧ sinovRuns s = true then .copies else .nothing
  | none => .nothing

/-- FW_COMMIT goes on: the slot is selected, and the command is answered with its record's sequence number (R137; log 55). -/
def slotFinish (n : Fin 8) (s : State) : State :=
  match s.sinov.after with
  | some (.slot _ app seq) => answerOk n seq (selectSlot app { s with sinov := { s.sinov with after := none } })
  | _ => s

/-- OPTION_WRITE COMMIT goes on: `copies` of the two copies are written within t_cmd, B before A (R138; log 55). -/
def copiesFinish (n : Fin 8) (copies : Nat) (s : State) : State :=
  match s.sinov.after with
  | some (.copies _ bs seq) =>
    let k := max 1 (min 2 copies)
    let s := optionCopies k bs { s with sinov := { s.sinov with after := none } }
    if k < 2 then answerWith n .partly (BitVec.ofNat 16 k) seq s else answerOk n seq s
  | _ => s

/-! ## Diagnostics (R140, R141) -/

/-- A diagnostic output starts, or takes a new level. -/
def diagStart (o : Fin 16) (level : Nat) (s : State) : State :=
  let k := o.val
  let s := { s with sinov := { s.sinov with diag := s.sinov.diag.set o (some level) } }
  if k < 6 then
    let i : Fin 6 := Fin.ofNat 6 k
    match s.sinov.motor[i] with
    | some c =>
      let set := level * s.hdie.env.mRpm[i].toNat / 1000
      let s := if s.motors[i].diagSet.isSome then s
        else motStartOp i (motorWrite i { c with src := 0, page := false } s)
      motMod i (fun m => if motRunning m then { m with diagSet := some set, alignOnly := false } else m) s
    | none => s
  else if k < 10 then
    let b : Fin 4 := Fin.ofNat 4 (k - 6)
    { s with beam := { s.beam with
        diag := s.beam.diag || !s.beam.en
        ld := vmod s.beam.ld b fun l =>
          { l with diagLevel := some (BitVec.ofNat 11 (level * s.hdie.env.ldI[b].toNat / 1000)) } } }
  else if k < 13 then
    let c : Fin 3 := Fin.ofNat 3 (k - 10)
    { s with hv := { s.hv with diagLimit := s.hv.diagLimit.set c (some (level * s.hdie.env.hvFb[c].toNat / 1000)) } }
  else if k < 15 then
    let h : Fin 2 := Fin.ofNat 2 (k - 13)
    let d := level * s.hdie.env.htrDuty[h].toNat / 1000
    { s with fuser := { s.fuser with htr := vmod s.fuser.htr h fun x => { x with diagDuty := some d } } }
  else { s with hdie := { s.hdie with dump := false } }

/-- The output cannot start (R140, R146, R151): the H-die keeps its outputs off, or the channel's gates are. -/
def diagHeld (s : State) (o : Fin 16) : Bool :=
  if o.val < 6 then !s.motors[Fin.ofNat 6 o.val].diagSet.isSome
      && (gatesBlocked s (Fin.ofNat 6 o.val) || s.hdie.mFast.getLsbD (Fin.ofNat 6 o.val).val)
  else if o.val = 15 then dumpBlocked s
  else engineCut s

/-- The channel still stops from what it did before: the run starts when it stands still, and the frame waits for that (R140,
R141; log 49). -/
def diagWaits (s : State) (o : Fin 16) : Bool :=
  decide (o.val < 6) && (match s.motors[Fin.ofNat 6 o.val].state with
    | .decel | .brake => true
    | _ => false)

/-- DIAG_OUTPUT (R140, R141): LEVEL 0 stops the output at once. One that cannot start returns NOT_PERMITTED (log 49). -/
def diagCmd (n : Fin 8) (p : List Byte) (s : State) : State :=
  let o := fieldLe p 0 1
  let level := fieldLe p 2 2
  let dwell := fieldLe p 4 2
  let i : Fin 16 := Fin.ofNat 16 o
  let noMotor := decide (o < 6) && (s.sinov.motor[Fin.ofNat 6 o]).isNone
  judged n
    [(lenNot p 8 || !reserved p 1 1 || !reserved p 6 2 || decide (15 < o) || decide (1000 < level) || decide (dwell = 0)
        || decide (10000 < dwell) || noMotor, .badArg), (decide (level ≠ 0) && diagHeld s i, .notPermitted), (resBusy s n, .busy)]
    (fun s =>
      if level = 0 then answer n .ok (diagEnd i s)
      else if diagWaits s i then s
      else answer n .ok (diagStart i level s)) s

/-- The unit of a channel (R510). -/
def adcUnit (c : Nat) : Byte := if c < 18 then 0x05 else if c < 26 then 0x06 else if c < 32 then 0x09 else 0x0A

/-- DIAG_READ. -/
def diagReadCmd (n : Fin 8) (p : List Byte) (s : State) : State :=
  let c := fieldLe p 0 1
  judged n [(lenNot p 4 || !reserved p 1 3 || decide (35 < c), .badArg)]
    (fun s => answerOk n (toLe (s.adc.val[c]?.getD 0) 4 ++ [adcUnit c, 0, 0, 0]) s) s

/-! ## Meanings -/

/-- The OP byte of FW_STAGE or OPTION_WRITE. -/
def opIs (v : Nat) (p : List Byte) : Bool := decide (fieldLe p 0 1 = v)

/-- FW_STAGE with OP BEGIN (R134, R135), or with an OP that names nothing. -/
def execFwStageBegin (n : Fin 8) (erased : Nat) (s : State) : Host.Outcome State Fault Refusal :=
  .next (runFrame 0x0A00 (fun p => !opIs 1 p) n (fwBegin n erased) s)

/-- FW_STAGE with OP DATA (R134). -/
def execFwStageData (n : PieceDone) (s : State) : Host.Outcome State Fault Refusal :=
  .next (runFrame 0x0A00 (opIs 1) n.counter (fwData n.counter n.done) s)

/-- FW_VERIFY (R136). -/
def execFwVerify (n : Fin 8) (s : State) : Host.Outcome State Fault Refusal :=
  .next (runFrame 0x0A01 anyPayload n (fwVerifyCmd n) s)

/-- FW_COMMIT (R137): once its record has committed, the command goes on with the selection of the slot (R143). -/
def execFwCommit (n : Fin 8) (s : State) : Host.Outcome State Fault Refusal :=
  .next (if afterRecord n s = .slot then slotFinish n s else runFrame 0x0A02 anyPayload n (fwCommitCmd n) s)

/-- OPTION_WRITE with OP OPEN (R138), or with an OP that names nothing. -/
def execOptionWriteOpen (n : Fin 8) (s : State) : Host.Outcome State Fault Refusal :=
  .next (runFrame 0x0A03 (fun p => !opIs 1 p && !opIs 2 p) n (optOpenCmd n) s)

/-- OPTION_WRITE with OP LOAD (R138). -/
def execOptionWriteLoad (n : Fin 8) (s : State) : Host.Outcome State Fault Refusal :=
  .next (runFrame 0x0A03 (opIs 1) n (optLoadCmd n) s)

/-- OPTION_WRITE with OP COMMIT (R138): once its record has committed, the command goes on with the copies (R142). -/
def execOptionWriteCommit (n : Fin 8) (copies : Nat) (s : State) : Host.Outcome State Fault Refusal :=
  .next (if afterRecord n s = .copies then copiesFinish n copies s else runFrame 0x0A03 (opIs 2) n (optCommitCmd n) s)

/-- DIAG_OUTPUT (R140). -/
def execDiagOutput (n : Fin 8) (s : State) : Host.Outcome State Fault Refusal :=
  .next (runFrame 0x0B00 anyPayload n (diagCmd n) s)

/-- DIAG_READ (R510). -/
def execDiagRead (n : Fin 8) (s : State) : Host.Outcome State Fault Refusal :=
  .next (runFrame 0x0B01 anyPayload n (diagReadCmd n) s)

end Sys2Proof.Machine
end

