-- ==== Sys2Proof/Machine/RegRead.lean ====
section
/-! DEFINITION. What each register reads as: the value of every register of the 49 banks (R504), bank by bank. An offset
that holds no register reads 0 (R18). -/

namespace Sys2Proof.Machine

/-! ## Small forms -/

/-- The word of four bytes from `i` of a byte vector. -/
def wordAt {n : Nat} (v : Vector Byte n) (i : Nat) : Word := BitVec.ofNat 32 (fieldLe v.toList i 4)

/-- Word k of a 256-bit value (R377). -/
def digWord (d : BitVec 256) (k : Nat) : Word := (d >>> (32 * k)).setWidth 32

/-- Entry k of a vector of words, 0 beyond it. -/
def wordOf {n : Nat} (v : Vector Word n) (k : Nat) : Word := v[k]?.getD 0

/-- A signed value as a register word. -/
def intWord (i : Int) : Word := BitVec.ofInt 32 i

/-- A signed value as a 16-bit field in 15:0. -/
def int16 (i : Int) : Word := (BitVec.ofInt 16 i).setWidth 32

/-- Bools as bits 0, 1, 2, ... of a word. -/
def flags (bs : List Bool) : Word := BitVec.ofNat 32 ((bs.zipIdx.map fun b => if b.1 then 2 ^ b.2 else 0).sum)

/-- A number as a word. -/
def natWord (n : Nat) : Word := BitVec.ofNat 32 n

/-! ## Supply, reset, clocks, faults -/

/-- SYSCTL (R507). -/
def readSysctl (off : Nat) (s : State) : Word :=
  match off with
  | 0x00 => 0x0000_4860
  | 0x04 => Config.dieRev.setWidth 32
  | 0x08 => lo64 Config.deviceId
  | 0x0C => hi64 Config.deviceId
  | 0x10 => bitAt Config.gradeC 0
  | 0x14 => fieldAt s.sys.mode 0 ||| bitAt s.sys.minset 5
  | 0x18 => s.sys.sinov
  | 0x1C => 0x1800_0031
  | 0x20 => optSeqNow s
  | _ => if within off 0x100 256 then wordOf s.sys.scratch ((off - 0x100) / 4) else 0

/-- PHASE codes (R199). -/
def PsPhase.code : PsPhase → Word
  | .off => 0
  | .boot => 1
  | .runUp => 2
  | .run => 3
  | .pfw => 4
  | .shutdown => 5
  | .halted => 6
  | .dormant => 7

/-- PWRSEQ (R199). -/
def readPwrseq (off : Nat) (s : State) : Word :=
  match off with
  | 0x00 => s.ps.phase.code ||| bitAt s.supply.aoOnVbkp 4 ||| bitAt s.ps.pfwSeen 5 ||| fieldAt s.ps.retry 8
  | 0x08 => lo64 (s.ps.on.setWidth 64)
  | 0x0C => hi64 (s.ps.on.setWidth 64)
  | 0x10 => lo64 (s.ps.fail.setWidth 64)
  | 0x14 => hi64 (s.ps.fail.setWidth 64)
  | 0x18 => lo64 (s.ps.req.setWidth 64)
  | 0x1C => hi64 (s.ps.req.setWidth 64)
  | 0x20 => natWord ((List.finRange 12).map fun r => (railCode s.ps.rails[r]).toNat * 4 ^ r.val).sum
  | 0x24 => fieldAt s.ps.railFail 0
  | 0x60 => fieldAt s.ps.vin 0
  | 0x64 => fieldAt s.ps.vinAvg 0
  | 0x68 => fieldAt s.ps.vaux 0
  | 0x6C => s.ps.pfwCfg
  | 0x70 => s.ps.holdDecl
  | 0x78 => lo64 s.ps.pfwTime
  | 0x7C => hi64 s.ps.pfwTime
  | _ =>
    if within off 0x30 12 then wordOf s.ps.extCfg ((off - 0x30) / 4)
    else if within off 0x100 31 then wordOf s.ps.shdn ((off - 0x100) / 4)
    else 0

/-- RST_OPT_STAT (R230), as GET_INFO and the POWER_UP record show it. -/
def optStatWord (s : State) : Word :=
  fieldAt s.rst.optState 0 ||| fieldAt s.rst.applied 2 ||| bitAt s.rst.validA 4 ||| bitAt s.rst.validB 5
    ||| bitAt s.rst.optrec 6 ||| bitAt s.rst.repaired 7 ||| fieldAt s.rst.loadFails 8

/-- RSTCTL (R230). RST_REL reads what it released: ENG_REL while ENG_HOLD is off, the cores, and HOLD_REL since the last WARM or SYSTEM
reset (log 39). -/
def readRstctl (off : Nat) (s : State) : Word :=
  match off with
  | 0x00 => fieldAt s.rst.cause 0
  | 0x04 => fieldAt s.rst.kind 0
  | 0x08 => s.rst.count
  | 0x10 => lo64 (s.rst.time.setWidth 64)
  | 0x14 => hi64 (s.rst.time.setWidth 64)
  | 0x20 => flags (s.rst.blk.toList.map fun b => decide (b ≠ .none)) ||| fieldAt s.rst.lastBlk 24
              ||| bitAt s.rst.blkTimeout 31
  | 0x24 => bitAt (!s.rst.engHold) 0 ||| fieldAt s.rst.cores 1 ||| bitAt s.rst.holdRel 8
  | 0x28 => optStatWord s
  | 0x2C => s.rst.seqA
  | 0x30 => s.rst.seqB
  | 0x34 => s.rst.parLoc
  | 0x38 => s.rst.dedAddr
  | 0x40 => s.rst.kwdgCfg
  | 0x48 => fieldAt s.rst.awdgPeriod 0 ||| bitAt s.rst.awdgEn 8
  | _ => 0

/-- CLKGEN (R245). -/
def readClkgen (off : Nat) (s : State) : Word :=
  match off with
  | 0x00 => fieldAt s.clk.lock 0 ||| bitAt s.clk.refOk 4 ||| bitAt s.clk.ao32Ok 5
  | 0x04 => fieldAt s.clk.fb 0
  | 0x08 => fieldAt s.clk.events 0
  | 0x10 => fieldAt s.clk.cpuDiv 0
  | 0x20 => 0x0080_80A0
  | _ => 0

/-- PIXRAMP (R250). -/
def readPixramp (off : Nat) (s : State) : Word :=
  match off with
  | 0x00 => bitAt s.pix.en 0 ||| natWord (16 * s.pix.profile.val)
  | 0x04 => bitAt (s.clk.lock.getLsbD 3) 0 ||| bitAt (s.clk.fb.getLsbD 3) 1 ||| bitAt s.pix.holding 2
              ||| fieldAt s.pix.seg 8
  | 0x08 => s.pix.nom
  | 0x0C => s.pix.nfrac
  | 0x30 => s.pix.retrig
  | _ =>
    if within off 0x10 8 then wordOf s.pix.segs ((off - 0x10) / 4)
    else if within off 0x1000 512 then
      fieldAt (((s.pix.seg24[(off - 0x1000) / 0x100]?).bind fun v => v[(off - 0x1000) % 0x100 / 4]?).getD 0) 0
    else 0

/-- FAULTHUB (R164). -/
def readFaulthub (off : Nat) (s : State) : Word :=
  match off with
  | 0x64 => bitAt (nfaultDriven s) 0
              ||| natWord (256 * min 255 ((List.range 256).countP fun i => s.hub.raised.getLsbD i))
  | 0x68 => fieldAt s.hub.escAction 0 ||| bitAt s.hub.escValid 2 ||| fieldAt s.hub.escId 8
  | 0x6C => lo64 s.hub.escTime
  | 0x70 => hi64 s.hub.escTime
  | 0x80 => lo64 (s.hub.feAddr.setWidth 64)
  | 0x84 => hi64 (s.hub.feAddr.setWidth 64)
  | 0x88 => fieldAt s.hub.feMaster 0
  | 0x8C => feAccess s
  | 0x90 => lo64 s.hub.feTime
  | 0x94 => hi64 s.hub.feTime
  | 0x98 => fieldAt s.hub.feSource 0
  | 0x9C => s.hub.feOver
  | _ =>
    if within off 0x00 8 then digWord s.hub.raised (off / 4)
    else if within off 0x20 8 then digWord s.hub.unack ((off - 0x20) / 4)
    else if within off 0x40 8 then digWord s.hub.timing ((off - 0x40) / 4)
    else if within off 0x400 256 then wordOf s.hub.cfg ((off - 0x400) / 4)
    else 0

/-- ENVGUARD (R149). -/
def readEnvguard (off : Nat) (s : State) : Word :=
  match off with
  | 0x10 => s.envg.shadow.ldOn
  | 0x1C => s.envg.shadow.tsf
  | 0x60 => bitAt s.envg.loaded 0 ||| bitAt s.envg.locked 1 ||| bitAt s.envg.safe 2
  | 0x64 => s.envg.trip
  | 0x68 => s.envg.limit
  | _ =>
    if within off 0x00 4 then wordOf s.envg.shadow.ldI (off / 4)
    else if within off 0x14 2 then wordOf s.envg.shadow.htrDuty ((off - 0x14) / 4)
    else if within off 0x20 6 then wordOf s.envg.shadow.mI ((off - 0x20) / 4)
    else if within off 0x38 6 then wordOf s.envg.shadow.mRpm ((off - 0x38) / 4)
    else if within off 0x50 3 then wordOf s.envg.shadow.hvFb ((off - 0x50) / 4)
    else 0

/-! ## Counters and docket -/

/-- STATE codes (R82). -/
def CntStage.code : CntStage → Nat
  | .idle => 0
  | .posted => 1
  | .taken => 2
  | .done => 3

/-- CNT_INFO (R82). -/
def cntInfo (n : Nat) : Word :=
  match n with
  | 0 => 1
  | 1 => 2
  | 2 => 3
  | 3 => 4
  | 4 => 0x000D
  | 5 => 0x000E
  | 6 => 0x110D
  | _ => 0x00FF

/-- One counter's registers (R81, R82). -/
def readCounter (n : Nat) (off : Nat) (c : Counter) : Word :=
  match off with
  | 0x204 => natWord c.stage.code ||| bitAt c.ringLost 4 ||| bitAt c.rst 5 ||| bitAt c.stale 6 ||| fieldAt c.lastTag 8
  | 0x208 => natWord c.rank.val
  | 0x20C => bitAt c.doneIe 0
  | 0x210 => lo64 c.stamp
  | 0x214 => hi64 c.stamp
  | 0x218 => fieldAt c.ferr 0
  | 0x21C => cntInfo n
  | _ =>
    if within off 0x000 64 then wordAt c.req off
    else if within off 0x100 64 then wordAt c.rpl (off - 0x100)
    else 0

/-- COUNTERS (R81). -/
def readCounters (off : Nat) (s : State) : Word :=
  match off with
  | 0x2000 => flags (s.counters.toList.map fun c => decide (c.stage = .posted))
  | 0x200C => fieldAt s.cntWindow 0
  | 0x2010 => natWord ((s.counters.toList.zipIdx.map fun c => c.1.stage.code * 4 ^ c.2).sum)
  | _ =>
    match s.counters[off / 0x400]? with
    | some c => readCounter (off / 0x400) (off % 0x400) c
    | none => 0

/-- STATE codes (R65). -/
def DkState.code : DkState → Nat
  | .idle => 0
  | .armed => 1
  | .spoiled => 2
  | .closed => 3

/-- DOCKET (R65). -/
def readDocket (off : Nat) (s : State) : Word :=
  let d := s.docket
  match off with
  | 0x00 => flags [d.arm, d.spoil, d.close]
  | 0x04 => natWord d.st.code ||| bitAt (decide (d.st = .closed)) 4
  | 0x08 => d.planned
  | 0x0C => fieldAt d.beams 0 ||| fieldAt d.mediaCh 4
  | 0x10 => d.written
  | 0x14 => d.blanked
  | 0x18 => d.firstSpoil
  | 0x1C => if pageInFlight s then mediaPos s else d.mediaPos
  | 0x20 => fieldAt d.outcome 0 ||| fieldAt d.spoilFault 8 ||| fieldAt d.flags 16 ||| bitAt d.faultValid 24
  | 0x24 => d.facets
  | 0x28 => lo64 d.tStart
  | 0x2C => hi64 d.tStart
  | 0x30 => lo64 d.tFirst
  | 0x34 => hi64 d.tFirst
  | 0x38 => lo64 d.tEnd
  | 0x3C => hi64 d.tEnd
  | _ => 0

/-! ## Interrupts, DMA, fabric, memory -/

/-- One context's registers (R425). -/
def readCtx (off : Nat) (c : LicCtx) : Word :=
  match off with
  | 0x40 => fieldAt c.thresh 0
  | 0x44 => match c.best with
    | some b => natWord b.1 ||| fieldAt b.2 16 ||| 0x8000_0000
    | none => 0
  | 0x50 => natWord c.stack.length ||| (match c.stack with
    | [] => 0
    | t :: _ => fieldAt t.2 8 ||| natWord (65536 * t.1))
  | 0x54 => flags [c.enterMiss, c.exitMiss, c.full]
  | _ => if within off 0 10 then (c.en >>> (32 * (off / 4))).setWidth 32 else 0

/-- A LIC bank (R425), levels followed to this cycle (R416). LIC_KEEP has context 0, 160 sources and one timer. -/
def readLic (app : Bool) (off : Nat) (s : State) : Word :=
  let l := licGet app (licSync s)
  match off with
  | 0x00 => fieldAt l.prisplit 0
  | 0x40 => l.swi
  | 0x44 => l.swi
  | _ =>
    if within off 0x100 (if app then 80 else 40) then
      natWord (((List.range 4).map fun j => ((l.prio[off - 0x100 + j]?).getD 0).toNat * 256 ^ j).sum)
    else if within off 0x400 (if app then 10 else 5) then (l.level >>> (8 * (off - 0x400))).setWidth 32
    else if within off 0x800 (if app then 8 else 2) then
      let c := (l.mtimecmp[(off - 0x800) / 8]?).getD 0
      if off % 8 = 0 then lo64 c else hi64 c
    else if within off 0x840 (if app then 4 else 1) then bitAt (l.msip.getLsbD ((off - 0x840) / 4)) 0
    else if decide (0x1000 ≤ off) && decide (off < (if app then 0x1800 else 0x1100)) then
      match l.ctx[(off - 0x1000) / 0x100]? with
      | some c => if app || decide (off % 0x100 < 0x14) || decide (0x40 ≤ off % 0x100) then readCtx (off % 0x100) c else 0
      | none => 0
    else 0

/-- STATE codes of a channel (R432). -/
def BwState.code : BwState → Nat
  | .idle => 0
  | .run => 1
  | .done => 2
  | .stopped => 3
  | .error => 4

/-- One channel's registers (R432). -/
def readChan (off : Nat) (c : BwChan) : Word :=
  match off with
  | 0x00 => lo64 (c.src.setWidth 64)
  | 0x04 => hi64 (c.src.setWidth 64)
  | 0x08 => lo64 (c.dst.setWidth 64)
  | 0x0C => hi64 (c.dst.setWidth 64)
  | 0x10 => fieldAt c.count 0
  | 0x14 => fieldAt c.mode 4 ||| bitAt c.ie 8
  | 0x18 => c.fill
  | 0x1C => natWord c.state.code ||| fieldAt c.code 4 ||| bitAt c.ended 8 ||| bitAt c.lost 9 ||| bitAt c.mism 10
  | 0x20 => fieldAt c.misOfs 0 ||| bitAt c.misOk 31
  | 0x24 => fieldAt c.remain 0
  | _ => 0

/-- Channels of a controller. -/
def bwChans (app : Bool) : Nat := if app then 16 else 8

/-- A BARROW bank (R432). -/
def readBarrow (app : Bool) (off : Nat) (s : State) : Word :=
  let cs := ((bwGet app s).ch.toList).take (bwChans app)
  match off with
  | 0x00 => flags (cs.map fun c => decide (c.state = .run))
  | 0x04 => flags (cs.map fun c => c.ended)
  | _ =>
    if 0x100 ≤ off then
      match cs[(off - 0x100) / 0x40]? with
      | some c => readChan ((off - 0x100) % 0x40) c
      | none => 0
    else 0

/-- FABRIC (R406). -/
def readFabric (off : Nat) (s : State) : Word :=
  let f := s.fabric
  match off with
  | 0x00 => fieldAt f.allotV 0 ||| fieldAt f.allotE 8
  | 0x04 => f.limits
  | 0x08 => fieldAt f.age 0
  | 0x0C => bitAt (decide (2 ≤ s.sys.mode.toNat)) 0 ||| bitAt f.pending 1
  | 0x54 => f.reclaim
  | 0x58 => f.idle
  | 0x5C => fieldAt f.vwaitMax 0
  | _ =>
    if within off 0x10 4 then fabMapWord s ((off - 0x10) / 4)
    else if within off 0x40 5 then wordOf f.grants ((off - 0x40) / 4)
    else 0

/-- L2DIR (R407); bank b lies in domain 9 + b (R175). -/
def readL2dir (off : Nat) (s : State) : Word :=
  match off with
  | 0x04 => bitAt s.cluster.busy 0 ||| (flags [domOn s 9, domOn s 10, domOn s 11, domOn s 12] <<< 4)
  | _ =>
    if within off 0x10 4 then wordOf s.cluster.hit ((off - 0x10) / 4)
    else if within off 0x20 4 then wordOf s.cluster.miss ((off - 0x20) / 4)
    else if within off 0x30 4 then wordOf s.cluster.wb ((off - 0x30) / 4)
    else 0

/-- DRAMC (R408). -/
def readDramc (off : Nat) (s : State) : Word :=
  match off with
  | 0x00 => flags [s.dramc.ready, s.dramc.selfRef, s.dramc.derate, s.dramc.trainFail]
  | 0x04 => 0x0000_0800
  | 0x08 => fieldAt s.dramc.temp 0
  | 0x10 => s.dramc.rd
  | 0x14 => s.dramc.wr
  | 0x18 => s.dramc.refr
  | _ => 0

/-! ## Engine units -/

/-- VIDEO (R275). -/
def readVideo (off : Nat) (s : State) : Word :=
  let v := s.video
  match off with
  | 0x00 => bitAt v.en 0 ||| fieldAt v.beams 4 ||| bitAt v.bpp 8
  | 0x04 => natWord (fifoLevel s) ||| bitAt (decide (0 < v.lines.toNat) && decide (v.lines.toNat ≤ v.fetched.toNat)) 8
  | 0x08 => lo64 (v.base.setWidth 64)
  | 0x0C => hi64 (v.base.setWidth 64)
  | 0x10 => v.stride &&& 0x000F_FFC0
  | 0x14 => v.lineBytes
  | 0x18 => v.lines
  | 0x1C => fieldAt v.fetched 0
  | 0x20 => fieldAt v.consumed 0
  | 0x24 => 0x0000_0640
  | 0x28 => flags [v.evUnder, v.evFetch]
  | 0x2C => v.errLine
  | _ => 0

/-- SYNC codes (R263). -/
def Sync.code : Sync → Word
  | .idle => 0
  | .acquire => 1
  | .locked => 2
  | .run => 3

/-- LD_ON of beam b: while pixels are being emitted the moment of the read decides, a free bit (log 8). -/
def ldOn (s : State) (b : Fin 4) : Bool :=
  s.beam.ld[b].lit || (!s.beam.pulses.isEmpty && pageLight s b && Config.freeBit (s.freeCtr + b.val))

/-- BM_LD_CEILb (R269): the ceiling, CLAMPED and SAT. -/
def ldCeilWord (s : State) (b : Fin 4) : Word :=
  let c := ceilOf s b
  let l := s.beam.ld[b]
  fieldAt c 0 ||| bitAt (decide (c.toNat < l.ceilReq.toNat)) 16
    ||| bitAt (decide (c.toNat ≤ l.drive.toNat)
          && decide ((l.mon.toNat : Int) < (s.loops.loops[Fin.ofNat 32 (5 + b.val)]).setp.toInt)) 17

/-- BEAM (R276). -/
def readBeam (off : Nat) (s : State) : Word :=
  let x := s.beam
  match off with
  | 0x00 => bitAt x.en 0 ||| fieldAt x.beams 4 ||| bitAt x.bpp 8 ||| bitAt x.inv 9 ||| natWord (4096 * x.bdBeam.val)
              ||| bitAt x.diag 16
  | 0x04 => x.sync.code ||| bitAt x.intlk 2 ||| bitAt (s.clk.fb.getLsbD 1) 3
              ||| (flags ((List.finRange 4).map (ldOn s)) <<< 4)
  | 0x08 => fieldAt x.linePix 0
  | 0x0C => flags [x.bdSrc, x.bdEdge, x.bdChk]
  | 0x10 => fieldAt x.bdPer 0
  | 0x14 => x.bdGate
  | 0x18 => fieldAt x.bdMeas 0
  | 0x1C => fieldAt x.facets 0
  | 0x20 => x.pwm
  | 0x24 => flags [x.evMiss, x.evExtra, x.evIntlk, x.evUnder]
  | _ =>
    let b : Fin 4 := Fin.ofNat 4 (off / 4)
    let l := x.ld[b]
    if within off 0x30 4 then fieldAt l.delay 0
    else if within off 0x40 4 then bitAt l.en 0 ||| fieldAt l.step 8
    else if within off 0x50 4 then fieldAt l.ceilReq 0
    else if within off 0x60 4 then ldCeilWord s b
    else if within off 0x70 4 then natWord (driveNow s b)
    else if within off 0x80 4 then fieldAt l.mon 0 ||| bitAt l.monNew 12
    else 0

/-- STATE codes (R307). -/
def MotState.code : MotState → Word
  | .off => 0
  | .align => 1
  | .learn => 2
  | .run => 3
  | .decel => 4
  | .brake => 5
  | .tripped => 6
  | .coast => 7

/-- MOTORk (R307). -/
def readMotor (k : Fin 6) (off : Nat) (s : State) : Word :=
  let m := s.motors[k]
  match off with
  | 0x00 => bitAt m.en 0 ||| fieldAt m.src 4 ||| bitAt m.stopMode 8 ||| bitAt m.dumpEn 9 ||| bitAt m.page 10
              ||| fieldAt m.pos 12 ||| fieldAt m.pp 16
  | 0x08 => m.state.code ||| bitAt m.atSpeed 4 ||| bitAt (backoffOn s) 5 ||| bitAt (dumpOn s) 6 ||| bitAt m.cmdValid 7
              ||| (flags (m.legs.toList.map fun l => l.bsLow) <<< 8)
  | 0x0C => fieldAt m.events 0
  | 0x10 => fieldAt m.speedReq 0
  | 0x14 => fieldAt m.accel 0
  | 0x18 => fieldAt m.decel 0
  | 0x1C => fieldAt m.ilimReq 0
  | 0x20 => natWord (iClim s k) ||| bitAt (decide (iClim s k < m.ilimReq.toNat)) 16
  | 0x24 => m.curcfg
  | 0x28 => fieldAt m.istep 0 ||| fieldAt m.sband 16
  | 0x2C => fieldAt m.speed 0
  | 0x30 => intWord m.icmd
  | 0x34 => intWord m.cur[0]
  | 0x38 => intWord m.cur[1]
  | 0x3C => intWord m.cur[2]
  | 0x40 => m.count
  | 0x44 => fieldAt m.cpr 0 ||| bitAt m.cprValid 31
  | 0x48 => fieldAt (BitVec.ofInt 16 m.offset) 0
  | 0x4C => natWord (pinPermille m)
  | 0x50 => m.cmp0
  | 0x54 => m.cmp1
  | 0x58 => fieldAt m.cmpEn 0 ||| bitAt m.auto0 2
  | 0x5C => m.scale
  | _ => 0

/-- RDC (R293). -/
def readRdc (off : Nat) (s : State) : Word :=
  match off with
  | 0x00 => fieldAt s.rdc.en 0
  | 0x04 => fieldAt s.rdc.valid 0
  | 0x08 => fieldAt s.rdc.angle[0] 0
  | 0x0C => fieldAt s.rdc.angle[1] 0
  | 0x10 => fieldAt s.rdc.amp[0] 0
  | 0x14 => fieldAt s.rdc.amp[1] 0
  | _ => 0

/-- One loop's registers (R332). -/
def readLoop (off : Nat) (l : Loop) : Word :=
  match off with
  | 0x00 => bitAt l.en 0 ||| fieldAt l.plog 4 ||| fieldAt l.insel 8 ||| fieldAt l.outsel 16 ||| bitAt l.inv 23
  | 0x04 => l.setp
  | 0x08 => l.band
  | 0x0C => fieldAt l.dwell 0
  | 0x10 => l.value
  | 0x14 => bitAt l.out 0 ||| fieldAt l.zone 1 ||| bitAt l.dwellRun 3 ||| bitAt l.stale 4 ||| fieldAt l.phase 16
  | _ => 0

/-- LOOPENG (R332). -/
def readLoopeng (off : Nat) (s : State) : Word :=
  match off with
  | 0x00 => bitAt s.loops.en 0
  | 0x08 => fieldAt s.loops.util 0 ||| bitAt (lePending s) 16
  | 0x0C => bitAt s.loops.reject 0
  | _ =>
    if 0x100 ≤ off then
      match s.loops.loops[(off - 0x100) / 0x20]? with
      | some l => readLoop ((off - 0x100) % 0x20) l
      | none => 0
    else 0

/-- HV (R333). -/
def readHv (off : Nat) (s : State) : Word :=
  match off with
  | 0x00 => fieldAt s.hv.en 0
  | 0x04 => flags [hvDrive s 0, hvDrive s 1, hvDrive s 2] ||| fieldAt s.hv.inhib 4 ||| fieldAt s.hv.trip 8
  | 0x08 => fieldAt s.hv.fb[0] 0
  | 0x0C => fieldAt s.hv.fb[1] 0
  | 0x10 => fieldAt s.hv.fb[2] 0
  | _ => 0

/-- FU_DUTYh (R326). -/
def fuDutyWord (s : State) (h : Fin 2) : Word :=
  natWord (dutyEff s h) ||| bitAt (decide (dutyEff s h < s.fuser.dutyReq.toNat)) 16

/-- FU_IHTRh, the present heater current (R333): a measurement that no command brings, free while the heater conducts
and 0 while it does not (log 8). -/
def fuIhtrWord (s : State) (h : Fin 2) : Word :=
  if s.fuser.htr[h].on then Config.freeWord (s.freeCtr + h.val) &&& 0xFFFF else 0

/-- FUSER (R333). -/
def readFuser (off : Nat) (s : State) : Word :=
  match off with
  | 0x00 => fieldAt s.fuser.en 0
  | 0x04 => fieldAt s.fuser.dutyReq 0
  | 0x08 => fuDutyWord s 0
  | 0x0C => fuDutyWord s 1
  | 0x10 => flags [s.fuser.htr[0].on, s.fuser.htr[1].on, false, false, s.fuser.htr[0].held, s.fuser.htr[1].held, false,
              false, s.fuser.tsfOk]
  | 0x14 => fuIhtrWord s 0
  | 0x18 => fuIhtrWord s 1
  | 0x1C => fieldAt s.fuser.htr[0].ilast 0
  | 0x20 => fieldAt s.fuser.htr[1].ilast 0
  | 0x24 => fieldAt s.fuser.tsf 0
  | _ => 0

/-- SY_HCEILt (R350, R351): H_t, CLAMPED, PENDING, DWELL_RUN. -/
def hceilWord (x : Throttle) : Word :=
  fieldAt x.ceil 0 ||| bitAt (clamped x) 16 ||| bitAt x.held 17 ||| bitAt x.dwellRun 18

/-- One thermal node's registers. -/
def readNode (off : Nat) (x : Node) : Word :=
  match off with
  | 0x0 => x.cap
  | 0x4 => x.ncfg
  | 0x8 => fieldAt x.lim 0
  | _ => int16 (toCenti x.temp)

/-- Entry k of a vector under f, 0 beyond it. -/
def entryOf {α : Type} {n : Nat} (v : Vector α n) (k : Nat) (f : α → Word) : Word := (v[k]?.map f).getD 0

/-- STEELYARD (R356). -/
def readSteelyard (off : Nat) (s : State) : Word :=
  let y := s.sy
  match off with
  | 0x00 => bitAt y.run 0
  | 0x04 => bitAt y.run 0 ||| bitAt y.unstable 1 ||| fieldAt y.failNode 4 ||| bitAt y.snapUsed 8
  | 0x08 => y.count
  | 0x10 => bitAt y.fc.busy 0 ||| bitAt y.fc.done 1 ||| fieldAt y.fc.step 16
  | _ =>
    if within off 0x14 4 then entryOf y.fc.steps ((off - 0x14) / 4) fun v => fieldAt v 0
    else if within off 0x100 64 then entryOf y.nodes ((off - 0x100) / 16) (readNode (off % 16))
    else if within off 0x200 32 then wordOf y.couple ((off - 0x200) / 4)
    else if within off 0x280 13 then wordOf y.psrc ((off - 0x280) / 4)
    else if within off 0x2C0 13 then wordOf y.pnow ((off - 0x2C0) / 4)
    else if within off 0x300 13 then wordOf y.pavg ((off - 0x300) / 4)
    else if within off 0x400 64 then entryOf y.fc.pwr ((off - 0x400) / 0x40) fun v => wordOf v ((off % 0x40) / 4)
    else if within off 0x500 16 then
      entryOf y.fc.peak ((off - 0x500) / 4) (fun t => int16 (toCenti t))
        ||| entryOf y.fc.peakAt ((off - 0x500) / 4) fun a => natWord (65536 * a)
    else if within off 0x540 16 then entryOf y.fc.start ((off - 0x540) / 4) fun t => int16 (toCenti t)
    else if within off 0x600 8 then entryOf y.ts ((off - 0x600) / 4) (·.cfg)
    else if within off 0x620 8 then entryOf y.ts ((off - 0x620) / 4) (·.par)
    else if within off 0x640 8 then
      entryOf y.ts ((off - 0x640) / 4) fun t => int16 t.temp ||| bitAt t.valid 16 ||| bitAt t.disagree 17
    else if within off 0x700 12 then entryOf y.thr ((off - 0x700) / 4) (·.cfg)
    else if within off 0x740 12 then entryOf y.thr ((off - 0x740) / 4) (·.ret)
    else if within off 0x780 12 then entryOf y.thr ((off - 0x780) / 4) fun x => fieldAt x.treq 0
    else if within off 0x7C0 12 then entryOf y.thr ((off - 0x7C0) / 4) hceilWord
    else 0

/-- ADC (R510). -/
def readAdc (off : Nat) (s : State) : Word :=
  match off with
  | 0x100 => s.adc.valid.setWidth 32
  | 0x104 => (s.adc.valid >>> 32).setWidth 32
  | 0x108 => s.adc.sweep
  | _ => if within off 0 36 then wordOf s.adc.val (off / 4) else 0

/-! ## Till, time, crypto -/

/-- TILL (R377). -/
def readTill (off : Nat) (s : State) : Word :=
  let t := s.till
  match off with
  | 0x04 => flags [t.busy, t.scanned, t.lastOk, t.lastTorn, t.stopped, t.walkDone, t.chainBreak]
  | 0x08 => lo64 t.head
  | 0x0C => hi64 t.head
  | 0x10 => lo64 t.oldest
  | 0x14 => hi64 t.oldest
  | 0x18 => lo64 t.next
  | 0x1C => hi64 t.next
  | 0x20 => fieldAt t.free 0
  | 0x24 => fieldAt t.rsv 0
  | 0x28 => t.torn
  | 0x2C => fieldAt t.typ 0 ||| fieldAt t.subtype 16
  | 0x30 => fieldAt t.len 0 ||| fieldAt t.counter 8 ||| fieldAt t.mode 16
  | 0x34 => t.hostWord
  | 0x38 => lo64 t.upto
  | 0x3C => hi64 t.upto
  | _ =>
    if within off 0x40 8 then digWord t.chain ((off - 0x40) / 4)
    else if within off 0x60 8 then digWord t.base ((off - 0x60) / 4)
    else if within off 0x100 40 then wordOf t.body ((off - 0x100) / 4)
    else 0

/-- RTC (R378). -/
def readRtc (off : Nat) (s : State) : Word :=
  let r := s.rtc
  match off with
  | 0x00 => lo64 (r.sec.setWidth 64)
  | 0x04 => hi64 (r.sec.setWidth 64)
  | 0x08 => fieldAt r.sub 0
  | 0x0C => flags [r.valid, r.lost, r.pending, r.alarmHit]
  | 0x14 => lo64 (r.snapSec.setWidth 64)
  | 0x18 => hi64 (r.snapSec.setWidth 64)
  | 0x1C => fieldAt r.snapSub 0
  | 0x20 => lo64 r.snapDt
  | 0x24 => hi64 r.snapDt
  | 0x28 => lo64 (r.setSec.setWidth 64)
  | 0x2C => hi64 (r.setSec.setWidth 64)
  | 0x38 => lo64 (r.alarm.setWidth 64)
  | 0x3C => hi64 (r.alarm.setWidth 64)
  | 0x40 => bitAt r.alarmEn 0
  | 0x48 => lo64 r.applyDt
  | 0x4C => hi64 r.applyDt
  | _ => 0

/-- DEVTIME (R378). -/
def readDevtime (off : Nat) (s : State) : Word :=
  match off with
  | 0x00 => lo64 s.devtime
  | 0x04 => hi64 s.devtime
  | _ => 0

/-- CRYPTO (R381). -/
def readCrypto (off : Nat) (s : State) : Word :=
  let c := s.crypto
  match off with
  | 0x00 => c.shaCtrl
  | 0x04 => bitAt c.shaBusy 0
  | 0x40 => fieldAt c.signOp 0
  | 0x44 => flags [c.signBusy, c.signValid]
  | 0x200 => fieldAt c.loaded 0
  | _ =>
    if within off 0x20 8 then digWord c.digest ((off - 0x20) / 4)
    else if within off 0x60 8 then digWord c.hash ((off - 0x60) / 4)
    else if within off 0x80 8 then digWord c.r ((off - 0x80) / 4)
    else if within off 0xA0 8 then digWord c.sg ((off - 0xA0) / 4)
    else if within off 0xE0 8 then digWord c.mextD ((off - 0xE0) / 4)
    else if within off 0x100 64 then entryOf c.meas ((off - 0x100) / 0x20) fun d => digWord d (off % 0x20 / 4)
    else if within off 0x300 16 then wordOf c.vkey ((off - 0x300) / 4)
    else 0

/-! ## Pins and links -/

/-- GPIOx (R453). -/
def readGpio (b : Fin 4) (off : Nat) (s : State) : Word :=
  let g := s.gpio[b]
  match off with
  | 0x00 => inVal s b
  | 0x04 => g.out
  | 0x20 => g.irqCfg[0]
  | 0x24 => g.irqCfg[1]
  | 0x28 => g.irqCfg[2]
  | 0x2C => g.irqCfg[3]
  | 0x30 => g.evt
  | 0x44 => g.lockMask
  | 0x48 => g.lockStat
  | 0x4C => fieldAt g.lockStep 0 ||| fieldAt g.lockMaster 4 ||| bitAt g.abort 8
  | 0x50 => if b = 3 then g.held else 0
  | _ => 0

/-- PINMUX (R454): PINCFGp with LOCKED in bit 16 (R441). -/
def readPinmux (off : Nat) (s : State) : Word :=
  match s.pincfg[off / 4]? with
  | some w => fieldAt w 0 ||| bitAt ((s.gpio[Fin.ofNat 4 (off / 128)]).lockStat.getLsbD (off / 4 % 32)) 16
  | none => 0

/-- SPIMi (R465). -/
def readSpim (i : Fin 4) (off : Nat) (s : State) : Word :=
  let p := s.spim[i]
  match off with
  | 0x00 => p.ctrl
  | 0x04 => fieldAt p.clk 0
  | 0x08 => bitAt p.busy 0 ||| natWord (256 * p.tx.length) ||| natWord (65536 * p.rx.length)
  | 0x0C => fieldAt p.events 0
  | 0x10 => fieldAt p.irqen 0
  | 0x18 => p.rx.headD 0
  | _ =>
    if within off 0x40 16 then wordOf p.sftx ((off - 0x40) / 4)
    else if within off 0x80 16 then wordOf p.sfrx ((off - 0x80) / 4)
    else 0

/-- HSPI (R471). -/
def readHspi (off : Nat) (s : State) : Word :=
  let h := s.hspi
  match off with
  | 0x00 => bitAt h.mode0 0 ||| fieldAt h.len 8
  | 0x04 => flags [h.cs[0].broken, h.cs[1].broken] ||| fieldAt h.active 4
  | 0x08 => fieldAt h.events 0
  | 0x0C => fieldAt h.irqen 0
  | 0x10 => h.cs[0].badCnt
  | 0x14 => h.cs[1].badCnt
  | _ => 0

/-- ETH_ADDRn (R477). -/
def readEthAddr (e : Eth) (k : Nat) : Word :=
  let a := (e.addr[k / 2]?).getD 0
  if k % 2 = 0 then a.setWidth 32 else fieldAt (bits a 32 16) 0 ||| bitAt (e.addrEn.getLsbD (k / 2)) 31

/-- ETHi (R477). -/
def readEth (i : Fin 2) (off : Nat) (s : State) : Word :=
  let e := s.eth[i]
  match off with
  | 0x00 => e.ctrl
  | 0x04 => flags [e.txRun, e.rxRun, e.ptpValid]
  | 0x08 => fieldAt e.events 0
  | 0x0C => fieldAt e.irqen 0
  | 0x30 => lo64 (e.txBase.setWidth 64)
  | 0x34 => hi64 (e.txBase.setWidth 64)
  | 0x38 => e.txSize
  | 0x3C => e.txTail
  | 0x40 => e.txHead
  | 0x50 => lo64 (e.rxBase.setWidth 64)
  | 0x54 => hi64 (e.rxBase.setWidth 64)
  | 0x58 => e.rxSize
  | 0x5C => e.rxTail
  | 0x60 => e.rxHead
  | 0x70 => e.busErr
  | 0x80 => if e.mdioBusy then e.mdio ||| 0x0001_0000 else e.mdio &&& ~~~0x0001_0000
  | 0x90 => e.fcsErr
  | 0x94 => e.rxDrop
  | 0x98 => e.txAbort
  | 0xA0 => lo64 (e.ptpSec.setWidth 64)
  | 0xA4 => hi64 (e.ptpSec.setWidth 64)
  | 0xA8 => natWord e.ptpNs
  | 0xAC => lo64 (e.setSec.setWidth 64)
  | 0xB0 => hi64 (e.setSec.setWidth 64)
  | 0xB4 => e.setNs
  | 0xBC => e.adj
  | 0xC0 => fieldAt e.ppsWidth 0
  | 0xC4 => lo64 (e.capSec.setWidth 64)
  | 0xC8 => hi64 (e.capSec.setWidth 64)
  | 0xCC => fieldAt e.capNs 0
  | _ => if within off 0x10 8 then readEthAddr e ((off - 0x10) / 4) else 0

/-- XSPI (R483). -/
def readXspi (off : Nat) (s : State) : Word :=
  let x := s.xspi
  match off with
  | 0x00 => flags [x.busy, x.susp, x.octal, x.noSusp]
  | 0x08 => fieldAt x.addr 0
  | 0x0C => fieldAt x.len 0
  | 0x10 => fieldAt x.events 0
  | 0x14 => fieldAt x.irqen 0
  | 0x18 => fieldAt x.kslot 0 ||| fieldAt x.aslot 4 ||| bitAt x.dflt 8
  | _ => if within off 0x100 64 then wordOf x.buf ((off - 0x100) / 4) else 0

/-- DEBUG (R511): DMI registers at 4 × a, the trace above. -/
def readDebug (off : Nat) (s : State) : Word :=
  let d := s.dbg
  match off with
  | 0x200 => fieldAt d.trcCtrl 0
  | 0x204 => bitAt d.trcFull 16
  | 0x208 => natWord d.trcWptr
  | 0x20C => d.filtMaster
  | 0x210 => lo64 (d.filtAddr.setWidth 64)
  | 0x214 => hi64 (d.filtAddr.setWidth 64)
  | 0x218 => lo64 (d.filtMask.setWidth 64)
  | 0x21C => hi64 (d.filtMask.setWidth 64)
  | _ =>
    if within off 0 128 then dmiVal s (off / 4)
    else if within off 0x1000 1536 then wordOf d.buf ((off - 0x1000) / 4)
    else 0

/-! ## All banks -/

/-- The value of the register at a bank and offset (R504). -/
def regVal (bank off : Nat) (s : State) : Word :=
  match bank with
  | 0x00 => readSysctl off s
  | 0x01 => readPwrseq off s
  | 0x02 => readRstctl off s
  | 0x03 => if within off 0 128 then wordAt s.optshd off else 0
  | 0x04 => readClkgen off s
  | 0x05 => readPixramp off s
  | 0x06 => readFaulthub off s
  | 0x07 => readEnvguard off s
  | 0x08 => readCounters off s
  | 0x09 => readLic true off s
  | 0x0A => readLic false off s
  | 0x0B => readBarrow true off s
  | 0x0C => readBarrow false off s
  | 0x0D => readFabric off s
  | 0x0E => readL2dir off s
  | 0x0F => readDramc off s
  | 0x10 => readVideo off s
  | 0x11 => readBeam off s
  | 0x12 => readMotor 0 off s
  | 0x13 => readMotor 1 off s
  | 0x14 => readMotor 2 off s
  | 0x15 => readMotor 3 off s
  | 0x16 => readMotor 4 off s
  | 0x17 => readMotor 5 off s
  | 0x18 => readRdc off s
  | 0x19 => readLoopeng off s
  | 0x1A => readHv off s
  | 0x1B => readFuser off s
  | 0x1C => readSteelyard off s
  | 0x1D => readAdc off s
  | 0x1E => readTill off s
  | 0x1F => readRtc off s
  | 0x20 => readDevtime off s
  | 0x21 => readCrypto off s
  | 0x22 => readGpio 0 off s
  | 0x23 => readGpio 1 off s
  | 0x24 => readGpio 2 off s
  | 0x25 => readGpio 3 off s
  | 0x26 => readPinmux off s
  | 0x27 => readSpim 0 off s
  | 0x28 => readSpim 1 off s
  | 0x29 => readSpim 2 off s
  | 0x2A => readSpim 3 off s
  | 0x2B => readHspi off s
  | 0x2C => readEth 0 off s
  | 0x2D => readEth 1 off s
  | 0x2E => readXspi off s
  | 0x2F => readDocket off s
  | 0x30 => readDebug off s
  | _ => 0

end Sys2Proof.Machine
end

