-- ==== Sys2Proof/Machine/Spi.lean ====
section
/-! DEFINITION. Safe frames (R458-R461) and the SPI masters (R462-R465). -/

namespace Sys2Proof.Machine

/-! ## Safe frames -/

/-- L of a stored length field: 8 below the range (R465, R471). -/
def frameLen (l : Nat) : Nat := if l < 8 ∨ 64 < l then 8 else l

/-- A frame of length L from its STAT byte and payload bytes (R458, R459). -/
def safeFrame (len : Nat) (stat : Byte) (payload : List Byte) : List Byte :=
  let body := stat :: slice payload 0 (len - 3)
  let c := crc16 body
  body ++ [byteOf c 1, byteOf c 0]

/-- The STAT byte: ALIVE, BAD, SKIP and the port's two bits. -/
def statByte (alive : BitVec 4) (bad skip b6 b7 : Bool) : Byte :=
  alive.setWidth 8 ||| (if bad then 0x10 else 0) ||| (if skip then 0x20 else 0) ||| (if b6 then 0x40 else 0)
    ||| (if b7 then 0x80 else 0)

/-- A received frame is bad (R460). -/
def frameBad (len : Nat) (last : Option (BitVec 4)) (bits : Nat) (rx : List Byte) : Bool :=
  decide (bits ≠ 8 * len) || decide (rx.length ≠ len)
    || decide ((crc16 (rx.take (len - 2))).toNat ≠ natBe (rx.drop (len - 2)))
    || decide (last = some ((rx.getD 0 0).setWidth 4))

/-- A good frame is marked as a skip (R460). -/
def frameSkip (last : Option (BitVec 4)) (alive : BitVec 4) : Bool :=
  match last with
  | some a => decide (alive ≠ a + 1)
  | none => false

/-! ## SPIM ports -/

/-- Safe mode. -/
def spiSafe (p : Spim) : Bool := p.ctrl.getLsbD 1

/-- L of a port. -/
def spiLen (p : Spim) : Nat := frameLen (bits p.ctrl 24 7 : BitVec 7).toNat

/-- One port changed, with the edges that its pins make (R442, R448). The levels of SCK and MOSI are free (log 26), so they are told
anew where the port changes at all. -/
def spiMod (i : Fin 4) (f : Spim → Spim) (s : State) : State :=
  if f s.spim[i] = s.spim[i] then s
  else withEdges 0 (fun s => { s with spim := vmod s.spim i f, freeCtr := s.freeCtr + 1 }) s

/-- SPI_CTRL (R465): LEN outside 8-64 stored as 8; EN 0 empties the FIFOs and resets ALIVE. While BUSY only the release
of CSHOLD acts, which lets the chip-select rise once the TX FIFO is empty (R463; log 29). -/
def spiCtrl (i : Fin 4) (v : Word) (s : State) : State :=
  spiMod i (fun p =>
      if p.busy then
        if v.getLsbD 6 || !p.ctrl.getLsbD 6 then p
        else
          let p := { p with ctrl := setBit p.ctrl 6 false }
          if p.tx.isEmpty && !spiSafe p then { p with busy := false, events := p.events ||| 1 } else p
      else
        let l := frameLen (bits v 24 7 : BitVec 7).toNat
        let p := { p with ctrl := (v &&& 0x0003_1F5F) ||| (BitVec.ofNat 32 l <<< 24) }
        if v.getLsbD 0 then p
        else { p with tx := [], rx := [], alive := 0, lastAlive := none, sendBad := false, sendSkip := false }) s

/-- SPI_CLK (R465): ignored while BUSY, 0 stored as 1. -/
def spiClk (i : Fin 4) (v : Word) (s : State) : State :=
  { s with spim := vmod s.spim i fun p =>
      if p.busy then p else { p with clk := if v.setWidth 8 = (0 : Byte) then 1 else v.setWidth 8 } }

/-- SPI_TX (R463): a word is queued in RAW mode; the chip-select is low from the first one. A word for a full FIFO is
dropped (log 29). -/
def spiTx (i : Fin 4) (v : Word) (s : State) : State :=
  spiMod i (fun p =>
      if p.ctrl.getLsbD 0 && !spiSafe p && decide (p.tx.length < 16) then { p with tx := p.tx ++ [v], busy := true }
      else p) s

/-- SPI_RX (R463): a read pops one word. -/
def spiRxPop (i : Fin 4) (s : State) : State :=
  { s with spim := vmod s.spim i fun p => { p with rx := p.rx.drop 1 } }

/-- The STAT and payload of the next frame a port sends (R464). -/
def spiFrame (p : Spim) : List Byte :=
  safeFrame (spiLen p) (statByte p.alive p.sendBad p.sendSkip false false)
    ((p.sftx.toList.flatMap fun w => toLe w 4).drop 1)

/-- SPI_GO (R464): one safe frame, ignored while BUSY. -/
def spiGoOp (i : Fin 4) (v : Word) (s : State) : State :=
  spiMod i (fun p =>
      if v.getLsbD 0 && p.ctrl.getLsbD 0 && spiSafe p && !p.busy then
        { p with busy := true, sent := spiFrame p, alive := p.alive + 1 }
      else p) s

/-- One word arrives (R463). -/
def spiRecv (p : Spim) (w : Word) : Spim :=
  let n := (bits p.ctrl 8 5 : BitVec 5).toNat + 1
  if p.rx.length < 16 then { p with rx := p.rx ++ [w &&& BitVec.ofNat 32 (2 ^ n - 1)] }
  else { p with events := p.events ||| 2 }

/-- A RAW transfer ends (R463): one word in for each word out, the chip-select rises unless CSHOLD. -/
def spiRawEnd (i : Fin 4) (rx : List Word) (s : State) : State :=
  spiMod i (fun p =>
      if p.busy && !spiSafe p && !p.tx.isEmpty then
        let p := (slice32 rx p.tx.length).foldl spiRecv p
        let p := { p with tx := [] }
        if p.ctrl.getLsbD 6 then p else { p with busy := false, events := p.events ||| 1 }
      else p) s
where
  /-- As many words as were sent, absent ones 0. -/
  slice32 (ws : List Word) (n : Nat) : List Word := (ws.take n) ++ List.replicate (n - (ws.take n).length) 0

/-- A safe frame exchange ends (R460, R461, R464). -/
def spiSafeEnd (i : Fin 4) (rx : List Byte) (nbits : Nat) (s : State) : State :=
  spiMod i (fun p =>
      if p.busy && spiSafe p then
        let p := { p with busy := false, events := p.events ||| 1 }
        if frameBad (spiLen p) p.lastAlive nbits rx then
          { p with events := p.events ||| 4, sendBad := true, sendSkip := false }
        else
          let st := rx.getD 0 0
          let alive : BitVec 4 := st.setWidth 4
          let skip := frameSkip p.lastAlive alive
          { p with
            events := p.events ||| (if skip then 8 else 0) ||| (if st.getLsbD 4 then 16 else 0)
            sfrx := Vector.ofFn fun n => if 4 * n.val < rx.length then
              BitVec.ofNat 32 (fieldLe rx (4 * n.val) 4) else p.sfrx[n]
            lastAlive := some alive
            sendBad := false
            sendSkip := skip }
      else p) s

/-- SPI_EVENTS W1C. -/
def spiEvClear (i : Fin 4) (v : Word) (s : State) : State :=
  { s with spim := vmod s.spim i fun p => { p with events := p.events &&& ~~~(v.setWidth 5) } }

/-! ## Meanings -/

/-- SPI_RAW_DONE (R463). -/
def execSpiRawDone (i : Fin 4) (rx : List Word) (s : State) : Host.Outcome State Fault Refusal :=
  .next (spiRawEnd i rx s)

/-- SPI_SAFE_FRAME_DONE (R464). -/
def execSpiSafeFrameDone (i : Fin 4) (rx : List Byte) (nbits : Nat) (s : State) : Host.Outcome State Fault Refusal :=
  .next (spiSafeEnd i rx nbits s)

end Sys2Proof.Machine
end

