-- ==== Sys2Proof/Machine/RegWrite.lean ====
section
/-! DEFINITION. What a write does to each register (R3-R5, R8): the fields it stores, the actions it starts, bank by bank.
Who may write what is in Access; here the write has been accepted. -/

namespace Sys2Proof.Machine

/-! ## Small forms -/

/-- A 40-bit address pair with one word replaced. -/
def pair40 (a : BitVec 40) (hi : Bool) (v : Word) : BitVec 40 :=
  (if hi then setHi64 (a.setWidth 64) v else setLo64 (a.setWidth 64) v).setWidth 40

/-- A 48-bit seconds pair with one word replaced. -/
def pair48 (a : BitVec 48) (hi : Bool) (v : Word) : BitVec 48 :=
  (if hi then setHi64 (a.setWidth 64) v else setLo64 (a.setWidth 64) v).setWidth 48

/-- A 64-bit pair with one word replaced. -/
def pair64 (a : BitVec 64) (hi : Bool) (v : Word) : BitVec 64 := if hi then setHi64 a v else setLo64 a v

/-- Word k of a 256-bit value replaced (R377). -/
def setDig (d : BitVec 256) (k : Nat) (v : Word) : BitVec 256 :=
  (d &&& ~~~((0xFFFF_FFFF : BitVec 256) <<< (32 * k))) ||| (v.setWidth 256 <<< (32 * k))

/-- Four bytes of a byte vector replaced. -/
def putWord {n : Nat} (v : Vector Byte n) (i : Nat) (w : Word) : Vector Byte n :=
  (List.range 4).foldl (fun v j => v.setIfInBounds (i + j) (byteOf w j)) v

/-! ## SYSCTL to ENVGUARD -/

/-- SYSCTL (R507). -/
def writeSysctl (off : Nat) (v : Word) (s : State) : State :=
  match off with
  | 0x14 => { s with sys := { s.sys with mode := bits v 0 2, minset := bit v 5 } }
  | 0x18 => { s with sys := { s.sys with sinov := v } }
  | _ =>
    if within off 0x100 256 then
      { s with sys := { s.sys with scratch := s.sys.scratch.setIfInBounds ((off - 0x100) / 4) v } }
    else s

/-- PWRSEQ (R199). -/
def writePwrseq (off : Nat) (v : Word) (s : State) : State :=
  match off with
  | 0x10 => psFailClr .lo v s
  | 0x14 => psFailClr .hi v s
  | 0x18 => psReq false v s
  | 0x1C => psReq true v s
  | 0x24 => psFailClr .ext v s
  | _ =>
    if within off 0x100 31 then { s with ps := { s.ps with shdn := s.ps.shdn.setIfInBounds ((off - 0x100) / 4) v } }
    else s

/-- ACORE0 is released by the Keeper (R214, step 8; R379): Sinov has measured the application image into MEAS1; after a
cluster reset a MEASURE record says so (R362; log 22). -/
def appMeasure (s : State) : State :=
  let a := bootSlot s true s.xspi.aslot.toNat
  let s := { s with xspi := { s.xspi with aslot := match a with | some (n, _) => BitVec.ofNat 4 n | none => 0xF } }
  match a with
  | some (n, l) =>
    if s.crypto.loaded.getLsbD 1 then s
    else
      let s := measExtend 1 (imageDigest s true n l) s
      if s.rst.cause = 0x05 ∧ sinovRuns s = true ∧ 1 ≤ tillFreeCmd s then
        wantRecord (ownRecord 0x0042 (digestBytes s.crypto.meas[1]) false .none) s
      else s
  | none => s

/-- RST_REL (R214, R229, R230). -/
def relWrite (m : Master) (v : Word) (s : State) : State :=
  let s := if m = .keeper ∧ bit v 1 = true ∧ s.rst.cores.getLsbD 0 = false then appMeasure s else s
  haltRequested (rstRel v s)

/-- RSTCTL (R230). `outs` are the transfers outstanding at a block that an ISOLATE reset ends. -/
def writeRstctl (m : Master) (off : Nat) (v : Word) (outs : List Access) (s : State) : State :=
  match off with
  | 0x18 => rstReqOp v s
  | 0x1C => blkReq v outs s
  | 0x24 => relWrite m v s
  | 0x44 => kwdgKick v s
  | 0x48 => awdgCfg v s
  | _ => s

/-- CLKGEN (R245). -/
def writeClkgen (off : Nat) (v : Word) (s : State) : State :=
  match off with
  | 0x08 => clkEvClear v s
  | 0x10 => cpuDivOp v s
  | 0x14 => clkResumeOp v s
  | _ => s

/-- PIXRAMP (R250, R251). -/
def writePixramp (off : Nat) (v : Word) (s : State) : State :=
  match off with
  | 0x00 => prCtrlOp v s
  | 0x08 => prNom v s
  | 0x0C => prNfrac v s
  | _ =>
    if within off 0x10 8 then prSegs (Fin.ofNat 8 ((off - 0x10) / 4)) v s
    else if within off 0x1000 512 then
      prSeg (Fin.ofNat 8 ((off - 0x1000) / 0x100)) (Fin.ofNat 64 (off % 0x100 / 4)) (v.setWidth 24) s
    else s

/-- FH_CMD.CLEAR by a register write: Sinov applies the held configuration again where a safe stop ends with it (R165). -/
def hubClearOp (f : Byte) (s : State) : State := reapply (hubClear f s)

/-- FH_CMD (R164). -/
def hubCmd (v : Word) (s : State) : State :=
  let f : Byte := v.setWidth 8
  match (bits v 8 2 : BitVec 2).toNat with
  | 1 => hubAck f s
  | 2 => hubClearOp f s
  | 3 => if 0xE0 ≤ f.toNat then raiseFault f s else s
  | _ => s

/-- FAULTHUB (R164). -/
def writeFaulthub (off : Nat) (v : Word) (s : State) : State :=
  match off with
  | 0x60 => hubCmd v s
  | 0xA0 => if bit v 0 then clearCapture s else s
  | _ => if within off 0x400 256 then fhCfgWrite (BitVec.ofNat 8 ((off - 0x400) / 4)) v s else s

/-! ## COUNTERS and DOCKET -/

/-- CNT_IRQEN (R82). -/
def cntIrqen (n : Fin 8) (v : Word) (s : State) : State := cntMod n (fun c => { c with doneIe := bit v 0 }) s

/-- REQ and RPL words of a counter as the state allows them (R84): REQ in IDLE or DONE, else an error response; RPL in
TAKEN by the Keeper, else ignored. -/
def cntWord (m : Master) (n : Fin 8) (off : Nat) (v : Word) (s : State) : State :=
  let c := s.counters[n]
  if off < 0x100 then
    if c.stage = .idle ∨ c.stage = .done then cntMod n (fun c => { c with req := putWord c.req off v }) s
    else refuseWrite m 0x08 (0x400 * n.val + off) .target s
  else if off < 0x200 ∧ m = .keeper ∧ c.stage = .taken then
    cntMod n (fun c => { c with rpl := putWord c.rpl (off - 0x100) v }) s
  else s

/-- COUNTERS (R81-R92). -/
def writeCounters (m : Master) (off : Nat) (v : Word) (s : State) : State :=
  if 0x2000 ≤ off then
    match off with
    | 0x2004 => cntBits takeOp v s
    | 0x2008 => cntBits doneOp v s
    | _ => s
  else
    let n : Fin 8 := Fin.ofNat 8 (off / 0x400)
    match off % 0x400 with
    | 0x200 => doorbell n v s
    | 0x204 => cntStatusClear n v s
    | 0x20C => cntIrqen n v s
    | o => cntWord m n o v s

/-- DOCKET (R65). -/
def writeDocket (off : Nat) (v : Word) (s : State) : State :=
  match off with
  | 0x00 => dkCtrl v s
  | 0x08 => dkPlanned v s
  | 0x0C => dkCfg v s
  | _ => s

/-! ## LIC, BARROW, FABRIC, L2DIR, DRAMC -/

/-- A context's registers (R425). -/
def writeCtx (app : Bool) (c : Fin 8) (off : Nat) (v : Word) (s : State) : State :=
  match off with
  | 0x40 => ctxThreshWrite app c v s
  | 0x48 => ctxEnterOp app c (v.setWidth 10) s
  | 0x4C => ctxExitOp app c v s
  | 0x54 => ctxErrClear app c v s
  | _ => if within off 0 (if app then 10 else 5) then ctxEnWrite app c (off / 4) v s else s

/-- A LIC bank (R425). -/
def writeLic (app : Bool) (off : Nat) (v : Word) (s : State) : State :=
  match off with
  | 0x00 => prisplitWrite app v s
  | 0x40 => swiSet app v s
  | 0x44 => swiClear app v s
  | _ =>
    if within off 0x100 (if app then 80 else 40) then prioWrite app ((off - 0x100) / 4) v s
    else if within off 0x800 (if app then 8 else 2) then
      cmpWrite app (Fin.ofNat 4 ((off - 0x800) / 8)) (decide (off % 8 = 4)) v s
    else if within off 0x840 (if app then 4 else 1) then msipWrite app ((off - 0x840) / 4) v s
    else if decide (0x1000 ≤ off) && decide (off < (if app then 0x1800 else 0x1100)) then
      writeCtx app (Fin.ofNat 8 ((off - 0x1000) / 0x100)) (off % 0x100) v s
    else s

/-- A channel's registers (R428, R432). -/
def writeChan (app : Bool) (ch : Fin 16) (off : Nat) (v : Word) (s : State) : State :=
  match off with
  | 0x00 => chanReg app ch (fun c => { c with src := pair40 c.src false v }) s
  | 0x04 => chanReg app ch (fun c => { c with src := pair40 c.src true v }) s
  | 0x08 => chanReg app ch (fun c => { c with dst := pair40 c.dst false v }) s
  | 0x0C => chanReg app ch (fun c => { c with dst := pair40 c.dst true v }) s
  | 0x10 => chanReg app ch (fun c => { c with count := v.setWidth 31 }) s
  | 0x14 => bwCtrl app ch v s
  | 0x18 => chanReg app ch (fun c => { c with fill := v }) s
  | 0x1C => chanClear app ch v s
  | _ => s

/-- A BARROW bank (R432). -/
def writeBarrow (app : Bool) (off : Nat) (v : Word) (s : State) : State :=
  match off with
  | 0x08 => bwStopAllOp app v s
  | _ =>
    if 0x100 ≤ off ∧ off < 0x100 + 0x40 * bwChans app then
      writeChan app (Fin.ofNat 16 ((off - 0x100) / 0x40)) ((off - 0x100) % 0x40) v s
    else s

/-- FABRIC (R406). -/
def writeFabric (off : Nat) (v : Word) (s : State) : State :=
  match off with
  | 0x00 => setAllot (bits v 0 7) (bits v 8 7) s
  | 0x08 => { s with fabric := { s.fabric with age := v.setWidth 8 } }
  | 0x60 => fabCntClr v s
  | _ => s

/-- L2DIR (R407). -/
def writeL2dir (off : Nat) (v : Word) (s : State) : State :=
  match off with
  | 0x00 => l2Maint (bits v 0 2) s
  | 0x40 => l2CntClr v s
  | _ => s

/-- DRAMC (R408). -/
def writeDramc (off : Nat) (v : Word) (s : State) : State :=
  match off with
  | 0x1C => drCntClr v s
  | _ => s

/-! ## Engine banks -/

/-- VIDEO (R275): while EN is 1 only EN takes a write. -/
def writeVideo (off : Nat) (v : Word) (s : State) : State :=
  match off with
  | 0x00 => vfCtrl v s
  | 0x08 => vfField (fun x => { x with base := pair40 x.base false (v &&& 0xFFFF_FFC0) }) s
  | 0x0C => vfField (fun x => { x with base := pair40 x.base true v }) s
  | 0x10 => vfField (fun x => { x with stride := v &&& 0x000F_FFC0 }) s
  | 0x14 => vfField (fun x => { x with lineBytes := v &&& 0xFFF }) s
  | 0x18 => vfField (fun x => { x with lines := v &&& 0xFFFF }) s
  | 0x28 => if s.video.en then s else vfEvClear v s
  | _ => s

/-- BEAM (R276): while EN is 1 only EN and CEILREQ take a write. -/
def writeBeam (off : Nat) (v : Word) (s : State) : State :=
  match off with
  | 0x00 => bmCtrl v s
  | 0x08 => bmField (fun x => { x with linePix := v.setWidth 16 }) s
  | 0x0C => bmField (fun x => { x with bdSrc := bit v 0, bdEdge := bit v 1, bdChk := bit v 2 }) s
  | 0x10 => bmField (fun x => { x with bdPer := v.setWidth 24 }) s
  | 0x14 => bmField (fun x => { x with bdGate := v &&& 0x03FF_FFFF }) s
  | 0x20 => bmField (fun x => { x with pwm := v &&& 0x031F_1F1F }) s
  | 0x24 => if s.beam.en then s else bmEvClear v s
  | _ =>
    let b : Fin 4 := Fin.ofNat 4 (off / 4)
    if within off 0x30 4 then bmDelay b (v.setWidth 16) s
    else if within off 0x40 4 then bmLdCfg b v s
    else if within off 0x50 4 then bmCeilReq b (v.setWidth 11) s
    else if within off 0x70 4 then bmDrive b (v.setWidth 11) s
    else s

/-- MOTORk (R307). -/
def writeMotor (k : Fin 6) (off : Nat) (v : Word) (s : State) : State :=
  match off with
  | 0x00 => motCtrl k v s
  | 0x04 => motCmd k v s
  | 0x0C => motMod k (fun m => { m with events := m.events &&& ~~~(v.setWidth 6) }) s
  | 0x10 => motMod k (fun m => if m.src = 0 then { m with speedReq := v.setWidth 16 } else m) s
  | 0x14 => motMod k (fun m => { m with accel := v.setWidth 24 }) s
  | 0x18 => motMod k (fun m => { m with decel := v.setWidth 24 }) s
  | 0x1C => motMod k (fun m => { m with ilimReq := v.setWidth 16 }) s
  | 0x24 => motCurcfg k v s
  | 0x28 => motMod k (fun m => { m with istep := bits v 0 16, sband := bits v 16 16 }) s
  | 0x50 => motMod k (fun m => { m with cmp0 := v }) s
  | 0x54 => motMod k (fun m => { m with cmp1 := v }) s
  | 0x58 => motMod k (fun m => { m with cmpEn := bits v 0 2, auto0 := bit v 2 }) s
  | 0x5C => motMod k (fun m => if m.state = .off then { m with scale := v } else m) s
  | _ => s

/-- RDC (R293). -/
def writeRdc (off : Nat) (v : Word) (s : State) : State :=
  match off with
  | 0x00 => { s with rdc := { s.rdc with en := v.setWidth 2 } }
  | _ => s

/-- A loop's registers (R332). -/
def writeLoop (n : Fin 32) (off : Nat) (v : Word) (s : State) : State :=
  match off with
  | 0x00 => lpCfg n v s
  | 0x04 => loopMod n (fun l => { l with setp := v }) s
  | 0x08 => loopMod n (fun l => { l with band := v }) s
  | 0x0C => loopMod n (loopDwell s.devtime (v.setWidth 27)) s
  | _ => s

/-- LOOPENG (R332). -/
def writeLoopeng (off : Nat) (v : Word) (s : State) : State :=
  match off with
  | 0x00 => leCtrl v s
  | 0x04 => if bit v 0 then leCommit s else s
  | 0x0C => { s with loops := { s.loops with reject := s.loops.reject && !bit v 0 } }
  | _ =>
    if 0x100 ≤ off ∧ off < 0x500 then writeLoop (Fin.ofNat 32 ((off - 0x100) / 0x20)) ((off - 0x100) % 0x20) v s else s

/-- HV (R333). -/
def writeHv (off : Nat) (v : Word) (s : State) : State :=
  match off with
  | 0x00 => { s with hv := { s.hv with en := v.setWidth 3 } }
  | _ => s

/-- FUSER (R333). -/
def writeFuser (off : Nat) (v : Word) (s : State) : State :=
  match off with
  | 0x00 => fuCtrl v s
  | 0x04 => fuDutyReq v s
  | _ => s

/-! ## TILL, RTC, CRYPTO -/

/-- TILL (R377). -/
def writeTill (off : Nat) (v : Word) (s : State) : State :=
  match off with
  | 0x00 => tlCmd v s
  | 0x24 => tlRsv v s
  | 0x2C => { s with till := { s.till with typ := bits v 0 16, subtype := bits v 16 16 } }
  | 0x30 => tlMeta2 v s
  | 0x34 => { s with till := { s.till with hostWord := v } }
  | 0x38 => { s with till := { s.till with upto := setLo64 s.till.upto v } }
  | 0x3C => { s with till := { s.till with upto := setHi64 s.till.upto v } }
  | _ =>
    if within off 0x100 40 then
      { s with till := { s.till with body := s.till.body.setIfInBounds ((off - 0x100) / 4) v } }
    else s

/-- RTC (R378). -/
def writeRtc (off : Nat) (v : Word) (s : State) : State :=
  match off with
  | 0x0C => timeStatusClear v s
  | 0x10 => timeSnap v s
  | 0x28 => timeSet false v s
  | 0x2C => timeSet true v s
  | 0x30 => timeApply v s
  | 0x34 => timeLostClr v s
  | 0x38 => alarmSet false v s
  | 0x3C => alarmSet true v s
  | 0x40 => alarmCtrl v s
  | _ => s

/-- CRYPTO (R381): CR_SIGN and CR_SHA registers ignore writes while their engine is BUSY. -/
def writeCrypto (off : Nat) (v : Word) (s : State) : State :=
  let c := s.crypto
  match off with
  | 0x00 => shaCtrlOp v s
  | 0x08 => shaDataOp v s
  | 0x40 => signCtrl v s
  | 0xC0 => mextCmd v s
  | _ =>
    if within off 0x60 8 then
      (if c.signBusy then s else { s with crypto := { c with hash := setDig c.hash ((off - 0x60) / 4) v } })
    else if within off 0x80 8 then
      (if c.signBusy then s else { s with crypto := { c with r := setDig c.r ((off - 0x80) / 4) v } })
    else if within off 0xA0 8 then
      (if c.signBusy then s else { s with crypto := { c with sg := setDig c.sg ((off - 0xA0) / 4) v } })
    else if within off 0xE0 8 then { s with crypto := { c with mextD := setDig c.mextD ((off - 0xE0) / 4) v } }
    else if within off 0x300 16 then
      { s with crypto := { c with vkey := c.vkey.setIfInBounds ((off - 0x300) / 4) v } }
    else s

/-! ## Pins and links -/

/-- LOCK_SEQ.ABORT W1C (R453). -/
def lockSeqClear (b : Fin 4) (v : Word) (s : State) : State :=
  { s with gpio := vmod s.gpio b fun g => { g with abort := g.abort && !bit v 8 } }

/-- GPIOx (R453). -/
def writeGpio (m : Master) (b : Fin 4) (off : Nat) (v : Word) (s : State) : State :=
  match off with
  | 0x04 => outVal b v s
  | 0x08 => outSetBits b v s
  | 0x0C => outClrBits b v s
  | 0x10 => outTglBits b v s
  | 0x20 => irqCfgWrite b 0 v s
  | 0x24 => irqCfgWrite b 1 v s
  | 0x28 => irqCfgWrite b 2 v s
  | 0x2C => irqCfgWrite b 3 v s
  | 0x30 => evtClear b v s
  | 0x40 => lockKey m b v s
  | 0x44 => lockMask m b v s
  | 0x4C => lockSeqClear b v s
  | _ => s

/-- SPIMi (R465). -/
def writeSpim (i : Fin 4) (off : Nat) (v : Word) (s : State) : State :=
  match off with
  | 0x00 => spiCtrl i v s
  | 0x04 => spiClk i v s
  | 0x0C => spiEvClear i v s
  | 0x10 => { s with spim := vmod s.spim i fun p => { p with irqen := v.setWidth 5 } }
  | 0x14 => spiTx i v s
  | 0x1C => spiGoOp i v s
  | _ =>
    if within off 0x40 16 then
      { s with spim := vmod s.spim i fun p => { p with sftx := p.sftx.setIfInBounds ((off - 0x40) / 4) v } }
    else s

/-- HSPI (R471): HS_CFG waits for its moment, HS_CFG_APPLY. -/
def writeHspi (off : Nat) (v : Word) (s : State) : State :=
  match off with
  | 0x00 => { s with hspi := { s.hspi with cfgDue := some v } }
  | 0x08 => { s with hspi := { s.hspi with events := s.hspi.events &&& ~~~(v.setWidth 3) } }
  | 0x0C => { s with hspi := { s.hspi with irqen := v.setWidth 3 } }
  | _ => s

/-- ETH_ADDRn (R477). -/
def ethAddrWrite (i : Fin 2) (k : Nat) (v : Word) (s : State) : State :=
  let n : Fin 4 := Fin.ofNat 4 (k / 2)
  ethMod i (fun e =>
    if k % 2 = 0 then { e with addr := vmod e.addr n fun a => pair48 a false v }
    else { e with addr := vmod e.addr n fun a => pair48 a true (v &&& 0xFFFF), addrEn := setBit e.addrEn n.val (bit v 31) })
    s

/-- ETHi (R477). -/
def writeEth (i : Fin 2) (off : Nat) (v : Word) (s : State) : State :=
  match off with
  | 0x00 => ethCtrl i v s
  | 0x08 => ethMod i (fun e => { e with events := e.events &&& ~~~(v.setWidth 5) }) s
  | 0x0C => ethMod i (fun e => { e with irqen := v.setWidth 5 }) s
  | 0x30 => ethMod i (fun e => { e with txBase := pair40 e.txBase false v }) s
  | 0x34 => ethMod i (fun e => { e with txBase := pair40 e.txBase true v }) s
  | 0x38 => ethMod i (fun e => { e with txSize := v }) s
  | 0x3C => ethMod i (fun e => { e with txTail := v }) s
  | 0x50 => ethMod i (fun e => { e with rxBase := pair40 e.rxBase false v }) s
  | 0x54 => ethMod i (fun e => { e with rxBase := pair40 e.rxBase true v }) s
  | 0x58 => ethMod i (fun e => { e with rxSize := v }) s
  | 0x5C => ethMod i (fun e => { e with rxTail := v }) s
  | 0x80 => mdioStart i v s
  | 0xAC => ethMod i (fun e => { e with setSec := pair48 e.setSec false v }) s
  | 0xB0 => ethMod i (fun e => { e with setSec := pair48 e.setSec true v }) s
  | 0xB4 => ethMod i (fun e => { e with setNs := v &&& 0xBFFF_FFFF }) s
  | 0xB8 => ptpCmd i v s
  | 0xBC => ethMod i (fun e => { e with adj := ptpAdj v }) s
  | 0xC0 => ethMod i (fun e => { e with ppsWidth := v.setWidth 10 }) s
  | _ => if within off 0x10 8 then ethAddrWrite i ((off - 0x10) / 4) v s else s

/-- XSPI (R483). -/
def writeXspi (m : Master) (off : Nat) (v : Word) (s : State) : State :=
  match off with
  | 0x04 => xsCmd m (bits v 0 2) s
  | 0x08 => { s with xspi := { s.xspi with addr := v.setWidth 28 } }
  | 0x0C => { s with xspi := { s.xspi with len := v.setWidth 9 } }
  | 0x10 => { s with xspi := { s.xspi with events := s.xspi.events &&& ~~~(v.setWidth 3) } }
  | 0x14 => { s with xspi := { s.xspi with irqen := v.setWidth 3 } }
  | _ =>
    if within off 0x100 64 then
      { s with xspi := { s.xspi with buf := s.xspi.buf.setIfInBounds ((off - 0x100) / 4) v } }
    else s

/-! ## All banks but DEBUG -/

/-- An accepted write of a register (R504). -/
def bankWrite (m : Master) (bank off : Nat) (v : Word) (outs : List Access) (s : State) : State :=
  match bank with
  | 0x00 => writeSysctl off v s
  | 0x01 => writePwrseq off v s
  | 0x02 => writeRstctl m off v outs s
  | 0x04 => writeClkgen off v s
  | 0x05 => writePixramp off v s
  | 0x06 => writeFaulthub off v s
  | 0x08 => writeCounters m off v s
  | 0x09 => writeLic true off v s
  | 0x0A => writeLic false off v s
  | 0x0B => writeBarrow true off v s
  | 0x0C => writeBarrow false off v s
  | 0x0D => writeFabric off v s
  | 0x0E => writeL2dir off v s
  | 0x0F => writeDramc off v s
  | 0x10 => writeVideo off v s
  | 0x11 => writeBeam off v s
  | 0x12 => writeMotor 0 off v s
  | 0x13 => writeMotor 1 off v s
  | 0x14 => writeMotor 2 off v s
  | 0x15 => writeMotor 3 off v s
  | 0x16 => writeMotor 4 off v s
  | 0x17 => writeMotor 5 off v s
  | 0x18 => writeRdc off v s
  | 0x19 => writeLoopeng off v s
  | 0x1A => writeHv off v s
  | 0x1B => writeFuser off v s
  | 0x1C => writeSteelyard off v s
  | 0x1E => writeTill off v s
  | 0x1F => writeRtc off v s
  | 0x21 => writeCrypto off v s
  | 0x22 => writeGpio m 0 off v s
  | 0x23 => writeGpio m 1 off v s
  | 0x24 => writeGpio m 2 off v s
  | 0x25 => writeGpio m 3 off v s
  | 0x26 => pincfgWrite (off / 4) v s
  | 0x27 => writeSpim 0 off v s
  | 0x28 => writeSpim 1 off v s
  | 0x29 => writeSpim 2 off v s
  | 0x2A => writeSpim 3 off v s
  | 0x2B => writeHspi off v s
  | 0x2C => writeEth 0 off v s
  | 0x2D => writeEth 1 off v s
  | 0x2E => writeXspi m off v s
  | 0x2F => writeDocket off v s
  | _ => s

end Sys2Proof.Machine
end

