-- ==== Sys2Proof/Machine/Access.lean ====
section
/-! DEFINITION. Register space as the fabric answers it (R16-R18, R24, R27, R83, R226, R504-R508): which offsets hold a
register, who reaches, reads and writes what, which accesses get an error response, and the effects of a read. -/

namespace Sys2Proof.Machine

/-! ## The map (R504) -/

/-- The first block of `n` words from `base`, repeated `k` times at a stride. -/
def strided (base stride k n : Nat) : List (Nat × Nat) := (List.range k).map fun i => (base + stride * i, n)

/-- The registers of a bank as (offset, count of words). -/
def bankRegs (bank : Nat) : List (Nat × Nat) :=
  if 0x12 ≤ bank ∧ bank ≤ 0x17 then [(0x00, 24)]
  else if 0x22 ≤ bank ∧ bank ≤ 0x25 then [(0x00, 5), (0x20, 5), (0x40, 5)]
  else if 0x27 ≤ bank ∧ bank ≤ 0x2A then [(0x00, 8), (0x40, 32)]
  else match bank with
    | 0x00 => [(0x00, 9), (0x100, 256)]
    | 0x01 => [(0x00, 1), (0x08, 8), (0x30, 17), (0x78, 2), (0x100, 31)]
    | 0x02 => [(0x00, 3), (0x10, 11), (0x40, 4)]
    | 0x03 => [(0x00, 128)]
    | 0x04 => [(0x00, 3), (0x10, 2), (0x20, 1)]
    | 0x05 => [(0x00, 13), (0x1000, 512)]
    | 0x06 => [(0x00, 29), (0x80, 9), (0x400, 256)]
    | 0x07 => [(0x00, 23), (0x60, 3)]
    | 0x08 => strided 0 0x400 8 128 ++ strided 0x200 0x400 8 8 ++ [(0x2000, 5)]
    | 0x09 => [(0x00, 1), (0x40, 2), (0x100, 80), (0x400, 10), (0x800, 8), (0x840, 4)] ++ strided 0x1000 0x100 8 10
        ++ strided 0x1040 0x100 8 6
    | 0x0A => [(0x00, 1), (0x40, 2), (0x100, 40), (0x400, 5), (0x800, 2), (0x840, 1), (0x1000, 5), (0x1040, 6)]
    | 0x0B => (0x00, 3) :: strided 0x100 0x40 16 10
    | 0x0C => (0x00, 3) :: strided 0x100 0x40 8 10
    | 0x0D => [(0x00, 8), (0x40, 9)]
    | 0x0E => [(0x00, 2), (0x10, 13)]
    | 0x0F => [(0x00, 3), (0x10, 4)]
    | 0x10 => [(0x00, 12)]
    | 0x11 => [(0x00, 10), (0x30, 24)]
    | 0x18 => [(0x00, 6)]
    | 0x19 => (0x00, 4) :: strided 0x100 0x20 32 6
    | 0x1A => [(0x00, 5)]
    | 0x1B => [(0x00, 10)]
    | 0x1C => [(0x00, 9), (0x100, 64), (0x200, 45), (0x2C0, 13), (0x300, 13)] ++ strided 0x400 0x40 4 13
        ++ [(0x500, 32), (0x600, 24), (0x700, 12), (0x740, 12), (0x780, 12), (0x7C0, 12)]
    | 0x1D => [(0x00, 36), (0x100, 3)]
    | 0x1E => [(0x00, 32), (0x100, 40)]
    | 0x1F => [(0x00, 17), (0x48, 2)]
    | 0x20 => [(0x00, 2)]
    | 0x21 => [(0x00, 3), (0x20, 10), (0x60, 25), (0xE0, 8), (0x100, 65), (0x300, 16)]
    | 0x26 => [(0x00, 120)]
    | 0x2B => [(0x00, 6)]
    | 0x2C | 0x2D => [(0x00, 17), (0x50, 5), (0x70, 1), (0x80, 1), (0x90, 3), (0xA0, 12)]
    | 0x2E => [(0x00, 7), (0x100, 64)]
    | 0x2F => [(0x00, 16)]
    | 0x30 => [(0x00, 137), (0x1000, 1536)]
    | _ => []

/-- An offset holds a register (R18). -/
def regExists (bank off : Nat) : Bool := (bankRegs bank).any fun r => within off r.1 r.2

/-- The power domain of a bank; PINCFGp lies in that of its pin's bank. -/
def bankDomain (bank off : Nat) : Nat :=
  if 0x12 ≤ bank ∧ bank ≤ 0x17 then 35 + (bank - 0x12)
  else if 0x22 ≤ bank ∧ bank ≤ 0x25 then 45 + (bank - 0x22)
  else if 0x27 ≤ bank ∧ bank ≤ 0x2B then 44
  else match bank with
    | 0x04 | 0x07 | 0x08 | 0x09 | 0x0A | 0x20 => 14
    | 0x05 => 26
    | 0x0B | 0x0C => 19
    | 0x0D | 0x0E => 13
    | 0x0F => 15
    | 0x10 => 20
    | 0x11 => 21
    | 0x18 => 41
    | 0x19 | 0x1C | 0x1D => 30
    | 0x1A => 42
    | 0x1B => 43
    | 0x1E => 17
    | 0x21 => 18
    | 0x26 => 45 + off / 128
    | 0x2C => 28
    | 0x2D => 29
    | 0x2E => 44
    | 0x30 => 49
    | _ => 1

/-- The bank answers (R505). The offsets of PINMUX that belong to no pin answer while any of domains 45-48 is on. -/
def bankOn (s : State) (bank off : Nat) : Bool :=
  if bank = 0x26 ∧ 0x1E0 ≤ off then domOn s 45 || domOn s 46 || domOn s 47 || domOn s 48
  else domOn s (bankDomain bank off)

/-- The block whose BLOCK reset takes a bank with it (R225). -/
def bankBlock (bank : Nat) : Option (Fin 24) :=
  if 0x12 ≤ bank ∧ bank ≤ 0x17 then some (Fin.ofNat 24 (6 + (bank - 0x12)))
  else if 0x27 ≤ bank ∧ bank ≤ 0x2A then some 21
  else match bank with
    | 0x05 => some 5
    | 0x0B => some 1
    | 0x0C => some 2
    | 0x0F => some 18
    | 0x10 => some 3
    | 0x11 => some 4
    | 0x18 => some 12
    | 0x19 => some 13
    | 0x1A => some 14
    | 0x1B => some 15
    | 0x1C => some 17
    | 0x1D => some 16
    | 0x2B => some 22
    | 0x2C => some 19
    | 0x2D => some 20
    | 0x2E => some 23
    | _ => none

/-- The Keeper-only banks (R17). -/
def keeperBank (bank : Nat) : Bool :=
  bank = 0x05 || bank = 0x07 || (decide (0x10 ≤ bank) && decide (bank ≤ 0x1E)) || bank = 0x21 || bank = 0x2F

/-- The master reaches the bank (R17, R27, R506). -/
def bankReach (m : Master) (bank : Nat) : Bool :=
  decide (bank < 0x31) && match m with
    | .keeper => true
    | .acore _ | .debug => !keeperBank bank
    | .hspi => decide (bank = 0x2B)
    | _ => false

/-- An application core. -/
def isCore : Master → Bool
  | .acore _ => true
  | _ => false

/-- Keeper, ACORE0-3 and DEBUG: the writers of access class C (R504). -/
def classC (m : Master) : Bool := decide (m = .keeper) || isCore m || decide (m = .debug)

/-- The owner of a counter on the fabric (R77, R79). -/
def cntOwner (m : Master) (n : Nat) : Bool :=
  match m with
  | .acore i => decide (i.val = n) || decide (n = 7)
  | .debug => decide (n = 5) || decide (n = 7)
  | _ => false

/-- Writers of a COUNTERS register (R77, R83). -/
def cntWriter (m : Master) (off : Nat) : Bool :=
  if 0x2000 ≤ off then decide (m = .keeper) || !(decide (off = 0x2004) || decide (off = 0x2008))
  else
    let o := off % 0x400
    let n := off / 0x400
    if o < 0x100 ∨ o = 0x200 then cntOwner m n
    else if o = 0x20C then decide (m = .keeper) || (cntOwner m n && decide (n ≠ 5))
    else true

/-- A register's writers (the access column of R504); a write by another master is refused by the target. -/
def mayWrite (m : Master) (bank off : Nat) (v : Word) : Bool :=
  if 0x22 ≤ bank ∧ bank ≤ 0x2A then classC m
  else match bank with
    | 0x00 => decide (m = .keeper) || (decide (0x100 ≤ off) && classC m)
    | 0x01 | 0x0A | 0x0C | 0x0D | 0x0F | 0x1F => decide (m = .keeper)
    | 0x02 =>
      if off = 0x24 then rstRelAllowed m v
      else decide (m = .keeper) || (isCore m && (decide (off = 0x48) || decide (off = 0x4C)))
    | 0x04 => decide (m = .keeper) || (isCore m && decide (off = 0x10))
    | 0x06 => decide (m = .keeper) || !(decide (off = 0x60) || decide (off = 0xA0) || decide (0x400 ≤ off))
    | 0x08 => cntWriter m off
    | 0x09 | 0x0B | 0x2C | 0x2D => classC m
    | 0x0E | 0x2E => decide (m = .keeper) || isCore m
    | 0x20 => false
    | 0x2B => decide (m = .keeper) || (decide (m = .hspi) && decide (off = 0x00))
    | 0x30 => decide (m = .keeper) || decide (m = .debug)
    | _ => true

/-- REQ and RPL words are read by their owner and by the Keeper (R83); every other register of the bank, CNT_FERR and CNT_IRQEN
included, by every master that reaches it: R83 names no reader of these two (DESIGN CHOICE, log 39). -/
def mayRead (m : Master) (bank off : Nat) : Bool :=
  if bank = 0x08 ∧ off < 0x2000 ∧ off % 0x400 < 0x200 then decide (m = .keeper) || cntOwner m (off / 0x400) else true

/-- Registers that hold an SL field (R504). -/
def sealedReg (bank off : Nat) : Bool :=
  (decide (bank = 0x0D) && (decide (off = 0x00) || decide (off = 0x08))) || (decide (bank = 0x2B) && decide (off = 0x00))

/-! ## How an access ends -/

/-- What the fabric makes of an access to register space: an error response, a wait for a block's release, or its way to
the register. -/
inductive Verdict
  | error (src : ErrSource)
  | held (blk : Fin 24)
  | go
  deriving DecidableEq, Repr

/-- The checks that reads and writes share (R17, R27, R226, R505, R506). -/
def route (m : Master) (bank off : Nat) (s : State) : Verdict :=
  if bankReach m bank = false then .error .firewall
  else if bankOn s bank off = false then .error .target
  else match bankBlock bank with
    | some b =>
      if s.rst.blk[b] = .none then .go else if blockIsolates s b then .error .target else .held b
    | none => .go

/-- The checks of a write (R4, R18, R83, R508). -/
def writeVerdict (m : Master) (bank off : Nat) (v : Word) (s : State) : Verdict :=
  match route m bank off s with
  | .go =>
    if regExists bank off = false then .go
    else if mayWrite m bank off v = false then .error .target
    else if sealedReg bank off ∧ s.sys.mode ≠ 1 then .error .target
    else .go
  | r => r

/-- The checks of a read (R83). -/
def readVerdict (m : Master) (bank off : Nat) (s : State) : Verdict :=
  match route m bank off s with
  | .go => if mayRead m bank off then .go else .error .target
  | r => r

/-- A write of a register of any bank but DEBUG, with the transfers outstanding at a block that it may isolate. -/
def regWriteCore (m : Master) (bank off : Nat) (v : Word) (outs : List Access) (s : State) : State :=
  match writeVerdict m bank off v s with
  | .error src => refuseWrite m bank off src s
  | .held b => { s with rst := { s.rst with
      held := s.rst.held ++ [{ blk := b, master := m, bank := bank, off := off, value := v }] } }
  | .go => if regExists bank off then bankWrite m bank off v outs s else s

/-! ## Reads -/

/-- The offsets that a read of a pair's low word copies (R9, R371): its high word, and TIME_SUB with TIME_SEC. -/
def pairWith (bank off : Nat) : List Nat :=
  if bank = 0x1F ∧ off = 0 then [4, 8]
  else
    let los : List Nat :=
      if bank = 0x0B ∨ bank = 0x0C then
        (if 0x100 ≤ off ∧ (off % 0x40 = 0 ∨ off % 0x40 = 8) then [off] else [])
      else if bank = 0x08 then (if off < 0x2000 ∧ off % 0x400 = 0x210 then [off] else [])
      else if bank = 0x09 ∨ bank = 0x0A then (if within off 0x800 8 && decide (off % 8 = 0) then [off] else [])
      else match bank with
        | 0x00 => [0x08]
        | 0x01 => [0x08, 0x10, 0x18, 0x78]
        | 0x02 => [0x10]
        | 0x06 => [0x6C, 0x80, 0x90]
        | 0x10 => [0x08]
        | 0x1E => [0x08, 0x10, 0x18, 0x38]
        | 0x1F => [0x14, 0x20, 0x28, 0x38, 0x48]
        | 0x20 => [0x00]
        | 0x2C | 0x2D => [0x10, 0x18, 0x20, 0x28, 0x30, 0x50, 0xA0, 0xAC, 0xC4]
        | 0x2F => [0x28, 0x30, 0x38]
        | 0x30 => [0x210, 0x218]
        | _ => []
    if los.contains off && regExists bank off then [off + 4] else []

/-- A master takes copies of the words that go with a pair's low word, as `f` gives their values. -/
def holdPair (m : Master) (bank off : Nat) (f : Nat → Word) (s : State) : State :=
  (pairWith bank off).foldl (fun s o =>
    let a := (regAddr bank o).toNat
    { s with hold := s.hold.filter (fun h => !(decide (h.master = m) && decide (h.addr = a)))
                       ++ [{ master := m, addr := a, value := f o }] }) s

/-- The copy that a master holds of a register, if it does. -/
def heldCopy (m : Master) (bank off : Nat) (s : State) : Option Word :=
  (s.hold.find? fun h => h.master = m ∧ h.addr = (regAddr bank off).toNat).map (·.value)

/-- A held copy is returned once. -/
def dropCopy (m : Master) (bank off : Nat) (s : State) : State :=
  { s with hold := s.hold.filter fun h => !(decide (h.master = m) && decide (h.addr = (regAddr bank off).toNat)) }

/-- What a read changes in its register: CNT_FERR clears (R6), SPI_RX pops (R463), a register with free bits takes new
ones (log 8). -/
def readEffect (bank off : Nat) (s : State) : State :=
  if bank = 0x08 ∧ off < 0x2000 ∧ off % 0x400 = 0x218 then
    cntMod (Fin.ofNat 8 (off / 0x400)) (fun c => { c with ferr := 0 }) s
  else if 0x27 ≤ bank ∧ bank ≤ 0x2A ∧ off = 0x18 then spiRxPop (Fin.ofNat 4 (bank - 0x27)) s
  else if bank = 0x11 ∨ bank = 0x1B then { s with freeCtr := s.freeCtr + 4 }
  else s

/-- A read that goes through: the value, and the state after it. -/
def readThrough (m : Master) (bank off : Nat) (s : State) : Word × State :=
  match heldCopy m bank off s with
  | some v => (v, dropCopy m bank off s)
  | none => (regVal bank off s, readEffect bank off (holdPair m bank off (fun o => regVal bank o s) s))

/-- A read of register space: none where it gets an error response. A read held by a BLOCK reset proceeds at the release
and finds reset values (R226), which it answers with. -/
def regRead (m : Master) (bank off : Nat) (s : State) : Option Word × State :=
  match readVerdict m bank off s with
  | .error src => (none, refuseRead m bank off src s)
  | .held b =>
    let t := resetBlockRegs b.val s
    (some (regVal bank off t), holdPair m bank off (fun o => regVal bank o t) s)
  | .go => (some (readThrough m bank off s).1, (readThrough m bank off s).2)

end Sys2Proof.Machine
end

