-- ==== Sys2Proof/Machine/Debug.lean ====
section
/-! DEFINITION. The abstract commands of the debug module (R511; 0.13.2 as in log 6): Access Register and Access Memory,
the DEBUG bank's writes, and with it every write of register space. -/

namespace Sys2Proof.Machine

/-! ## Access Register -/

/-- mip of a hart (R424): MSIP, MTIP, and the lines of its two contexts; other bits as written. -/
def hartMip (s : State) (h : Fin 4) (w : BitVec 64) : BitVec 64 :=
  let l := (licSync s).licApp
  let w := setBit w 3 (l.msip.getLsbD h.val)
  let w := setBit w 7 ((mtipOf s l).getLsbD h.val)
  let w := setBit w 11 l.ctx[Fin.ofNat 8 (2 * h.val)].line
  setBit w 9 (l.ctx[Fin.ofNat 8 (2 * h.val + 1)].line)

/-- A CSR as it was last written, 0 before (log 2). -/
def csrRaw (x : Hart) (n : Nat) : BitVec 64 := ((x.csrs.find? fun c => c.1 = n).map (·.2)).getD 0

/-- The value of a CSR of hart h: dpc, dcsr.prv, mhartid, time (R386) and mip (R424) are those of the machine. -/
def csrVal (s : State) (h : Fin 4) (n : Nat) : BitVec 64 :=
  let x := s.cluster.harts[h]
  match n with
  | 0x7B1 => x.pc
  | 0x7B0 => (csrRaw x n &&& ~~~3) ||| x.priv.setWidth 64
  | 0xF14 => BitVec.ofNat 64 h.val
  | 0xC01 => s.devtime
  | 0x344 => hartMip s h (csrRaw x n)
  | _ => csrRaw x n

/-- CSR n written. -/
def csrPut (n : Nat) (v : BitVec 64) (x : Hart) : Hart :=
  match n with
  | 0x7B1 => { x with pc := v }
  | 0x7B0 => { x with priv := v.setWidth 2, csrs := (n, v) :: x.csrs.filter fun c => c.1 ≠ n }
  | _ => { x with csrs := (n, v) :: x.csrs.filter fun c => c.1 ≠ n }

/-- A register number names a CSR, a general or a floating-point register. -/
def regnoOk (n : Nat) : Bool := decide (n < 0x1040) && (decide (n < 0x1000) || decide (0x1000 ≤ n))

/-- The value of register `n` of hart h. -/
def hartReg (s : State) (h : Fin 4) (n : Nat) : BitVec 64 :=
  let x := s.cluster.harts[h]
  if n < 0x1000 then csrVal s h n
  else if n < 0x1020 then (if n = 0x1000 then 0 else (x.x[n - 0x1000]?).getD 0)
  else (x.f[n - 0x1020]?).getD 0

/-- Register `n` of a hart written; x0 discards it. -/
def hartRegPut (n : Nat) (v : BitVec 64) (x : Hart) : Hart :=
  if n < 0x1000 then csrPut n v x
  else if n < 0x1020 then (if n = 0x1000 then x else { x with x := x.x.setIfInBounds (n - 0x1000) v })
  else { x with f := x.f.setIfInBounds (n - 0x1020) v }

/-- A CSR that cannot be written: read-only by its number (R386: time among them). -/
def csrReadOnly (n : Nat) : Bool := decide (n < 0x1000) && decide (0xC00 ≤ n)

/-- Access Register on a halted hart (cmdtype 0): sizes of 32 and 64 bits. The program buffer's run is left out (log 6). -/
def accessRegister (cmd : Word) (h : Fin 4) (s : State) : State :=
  let n := (bits cmd 0 16 : BitVec 16).toNat
  let size : BitVec 3 := bits cmd 20 3
  if bit cmd 17 = false then s
  else if size ≠ 2 ∧ size ≠ 3 then cmdErr 2 s
  else if regnoOk n = false then cmdErr 3 s
  else if bit cmd 16 then
    if csrReadOnly n then cmdErr 3 s
    else
      let v := if size = 3 then dmArg s 0 else hi64 (hartReg s h n) ++ dmiReg s 4
      hartMod h (hartRegPut n v) s
  else if size = 3 then dmArgPut 0 (hartReg s h n) s
  else dmiPut 4 (lo64 (hartReg s h n)) s

/-! ## Access Memory -/

/-- An access of n bytes by core h. -/
def hartAccess (h : Fin 4) (a n : Nat) (kind : BitVec 2) : Access :=
  { master := .acore h, addr := BitVec.ofNat 40 a, kind := kind, size := BitVec.ofNat 3 (Nat.log2 n) }

/-- A read of `n` bytes by core h (R27, R394): the bytes, or none on an error response. Alignment is judged first (log 39, see
`coreStore`). -/
def coreLoad (h : Fin 4) (a n : Nat) (s : State) : Option (List Byte) × State :=
  match regionOf a with
  | .dram | .ssram | .xspi =>
    match l1Find s h (a / 64) with
    | some l => (some (slice l.data (a % 64) n), s)
    | none =>
      match fillRefused false (a / 64) s with
      | some _ => (none, serveReq (.read h (a / 64)) s)
      | none => (some (slice (lineData s (a / 64)) (a % 64) n), serveReq (.read h (a / 64)) s)
  | .regs =>
    if n = 4 ∧ a % 4 = 0 then
      let r := regRead (.acore h) ((a - 0x4000_0000) / 0x1_0000) (a % 0x1_0000) s
      (r.1.map fun w => toLe w 4, r.2)
    else (none, errorResponse (hartAccess h a n 0) .misaligned s)
  | _ => (none, errorResponse (hartAccess h a n 0) .firewall s)

/-- A write of bytes by core h: whether it was accepted. Alignment is judged before the core's reach, so a misaligned access to a bank
out of reach records FE_SOURCE 2 where `addrWrite` records 1: the spec gives no order of the two (DESIGN CHOICE, log 39). -/
def coreStore (h : Fin 4) (a : Nat) (bs : List Byte) (s : State) : Bool × State :=
  match regionOf a with
  | .dram | .ssram =>
    ((fillRefused true (a / 64) s).isNone, serveReq (.own h (a / 64) (a % 64) bs) s)
  | .regs =>
    let bank := (a - 0x4000_0000) / 0x1_0000
    let off := a % 0x1_0000
    let v : Word := BitVec.ofNat 32 (natLe bs)
    if bs.length = 4 ∧ a % 4 = 0 then
      (match writeVerdict (.acore h) bank off v s with | .error _ => false | _ => true,
        regWriteCore (.acore h) bank off v [] s)
    else (false, errorResponse (hartAccess h a bs.length 1) .misaligned s)
  | _ => (false, errorResponse (hartAccess h a bs.length 1) .firewall s)

/-- Access Memory for a halted hart (cmdtype 2): argument 0 is the value, argument 1 the address. Sizes of 8 to 64 bits;
virtual addresses only in machine mode, where they are physical (log 6). -/
def accessMemory (cmd : Word) (h : Fin 4) (s : State) : State :=
  let size := (bits cmd 20 3 : BitVec 3).toNat
  let n := 2 ^ size
  let a := (dmArg s 1).toNat
  let next := fun (s : State) => if bit cmd 19 then dmArgPut 1 (dmArg s 1 + BitVec.ofNat 64 n) s else s
  if 3 < size ∨ (bit cmd 23 = true ∧ s.cluster.harts[h].priv ≠ 3) then cmdErr 2 s
  else if a % n ≠ 0 then
    cmdErr 3 (if regionOf a = .regs then errorResponse (hartAccess h a n (if bit cmd 16 then 1 else 0)) .misaligned s else s)
  else if 2 ^ 40 ≤ a then cmdErr 5 s
  else if bit cmd 16 then
    let r := coreStore h a (toLe (dmArg s 0) n) s
    if r.1 then next r.2 else cmdErr 5 r.2
  else
    let r := coreLoad h a n s
    match r.1 with
    | some bs => next (if n = 8 then dmArgPut 0 (BitVec.ofNat 64 (natLe bs)) r.2 else dmiPut 4 (BitVec.ofNat 32 (natLe bs)) r.2)
    | none => cmdErr 5 r.2

/-! ## The command register and the bank -/

/-- A write of `command` (0x17): ignored while cmderr is set; the hart must be halted. -/
def dmCommand (v : Word) (s : State) : State :=
  if dmActive s = false ∨ dmiReg s 0x16 &&& 0x700 ≠ 0 then s
  else match (bits v 24 8 : BitVec 8).toNat with
    | 0 => onHart (accessRegister v) s
    | 2 => onHart (accessMemory v) s
    | _ => cmdErr 2 s
where
  /-- The selected hart, halted; else "halt/resume". -/
  onHart (f : Fin 4 → State → State) (s : State) : State :=
    match dmHart s with
    | some h => if hartThere s h && s.cluster.harts[h].halted then f h s else cmdErr 4 s
    | none => cmdErr 4 s

/-- A write of DMI register a. dmcontrol.ndmreset is the debug reset of R207, where JTAG writes it. -/
def dmiWrite (m : Master) (a : Nat) (v : Word) (s : State) : State :=
  if a = 0x10 then
    (if m = .debug ∧ dmActive s = true ∧ bit v 1 = true ∧ bit (dmiReg s 0x10) 1 = false then
      systemCause .host 0x0B (dmControl v s) else dmControl v s)
  else if dmActive s = false then s
  else if a = 0x16 then dmiPut 0x16 (dmiReg s 0x16 &&& ~~~(v &&& 0x700)) s
  else if a = 0x17 then dmCommand v s
  else if (4 ≤ a ∧ a < 4 + dmiData) ∨ (0x20 ≤ a ∧ a < 0x28) then dmiPut a v s
  else s

/-- A 40-bit trace filter pair. -/
def trcPair (x : BitVec 40) (hi : Bool) (v : Word) : BitVec 40 := pair40 x hi v

/-- DEBUG (R511). -/
def writeDebug (m : Master) (off : Nat) (v : Word) (s : State) : State :=
  let d := s.dbg
  match off with
  | 0x200 => { s with dbg := { d with trcCtrl := v.setWidth 2 } }
  | 0x20C => { s with dbg := { d with filtMaster := v } }
  | 0x210 => { s with dbg := { d with filtAddr := trcPair d.filtAddr false v } }
  | 0x214 => { s with dbg := { d with filtAddr := trcPair d.filtAddr true v } }
  | 0x218 => { s with dbg := { d with filtMask := trcPair d.filtMask false v } }
  | 0x21C => { s with dbg := { d with filtMask := trcPair d.filtMask true v } }
  | 0x220 => traceClear v s
  | _ => if within off 0 128 then dmiWrite m (off / 4) v s else s

/-! ## Every write of register space -/

/-- A 32-bit write at a bank and offset by a master (R3-R5, R16-R18, R24, R27, R226, R504-R508). -/
def regWriteWith (m : Master) (bank off : Nat) (v : Word) (outs : List Access) (s : State) : State :=
  if bank = 0x30 ∧ writeVerdict m bank off v s = .go then writeDebug m off v s
  else regWriteCore m bank off v outs s

/-- `regWriteWith` with nothing outstanding. -/
def regWrite (m : Master) (bank off : Nat) (v : Word) (s : State) : State := regWriteWith m bank off v [] s

/-- A write by address and size (R16, R504): register space takes aligned words only; other addresses hold no register
and nothing of theirs changes. -/
def addrWrite (m : Master) (addr : BitVec 40) (size : BitVec 3) (v : Word) (s : State) : State :=
  let a := addr.toNat
  if regionOf a ≠ .regs then s
  else
    let bank := (a - 0x4000_0000) / 0x1_0000
    if bankReach m bank = false then errorResponse { master := m, addr := addr, kind := 1, size := size } .firewall s
    else if size ≠ 2 ∨ a % 4 ≠ 0 then errorResponse { master := m, addr := addr, kind := 1, size := size } .misaligned s
    else regWrite m bank (a % 0x1_0000) v s

end Sys2Proof.Machine
end

