-- ==== Sys2Proof/Machine/Hspi.lean ====
section
/-! DEFINITION. The HSPI slave (R466-R471, R484): its transactions on counters C4 and C6, the safe frames of both
directions, HS_CFG. A transaction is one command, so no chip-select is low between commands. -/

namespace Sys2Proof.Machine

/-- One chip-select changed. -/
def csMod (c : Fin 2) (f : HspiCs → HspiCs) (s : State) : State :=
  { s with hspi := { s.hspi with cs := vmod s.hspi.cs c f } }

/-- The counter behind a chip-select (R107): C4 and C6. -/
def csCounter (c : Fin 2) : Fin 8 := if c = 0 then 4 else 6

/-- The port works: its domain is on and its block is not held in reset (R225). -/
def hspiUp (s : State) : Bool := bankOn s 0x2B 0 && decide (s.rst.blk[22] = .none)

/-- The chip-select carries safe frames (R466). -/
def csSafe (s : State) (c : Fin 2) : Bool := decide (c = 1) || s.hspi.mode0

/-- The counter status byte (R469). -/
def cntStatusByte (k : Counter) : Byte :=
  BitVec.ofNat 8 k.stage.code ||| (if k.ringLost then 4 else 0) ||| (if k.stale then 8 else 0)

/-- n free bytes, from the i-th on. -/
def freeBytes (i n : Nat) : List Byte := (List.range n).map fun j => Config.freeByte (i + j)

/-- Free values taken. -/
def takeFree (n : Nat) (s : State) : State := { s with freeCtr := s.freeCtr + n }

/-- n reply bytes from an offset, 0 beyond offset 255 (R467). -/
def rplBytes (k : Counter) (ofs n : Nat) : List Byte := slice k.rpl.toList ofs n

/-! ## The private port into the COUNTERS bank (R107) -/

/-- Request bytes from an offset (R84, R467): the words take them in IDLE and DONE; bytes beyond offset 255 are dropped. In POSTED and
TAKEN they are dropped too, and no error response is recorded: the port is no fabric access of R163 (DESIGN CHOICE, log 39). -/
def portWrite (c : Fin 2) (ofs : Nat) (data : List Byte) (s : State) : State :=
  cntMod (csCounter c) (fun k =>
    if k.stage = .idle ∨ k.stage = .done then
      { k with req := Vector.ofFn fun i => if ofs ≤ i.val then (data[i.val - ofs]?).getD k.req[i] else k.req[i] }
    else k) s

/-- WRITE_REQ (R467, R470): OFFSET 0 clears BROKEN. -/
def hostWrite (c : Fin 2) (ofs : Byte) (data : List Byte) (s : State) : State :=
  csMod c (fun h => if ofs = 0 then { h with broken := false } else h) (portWrite c ofs.toNat data s)

/-- DOORBELL (R467, R470): a RING is not passed while BROKEN is 1. -/
def hostBell (c : Fin 2) (v : Byte) (s : State) : State :=
  if v.getLsbD 0 ∧ s.hspi.cs[c].broken = true then csMod c (fun h => { h with refused := true }) s
  else doorbell (csCounter c) (v.setWidth 32) s

/-! ## Safe frames (R468, R470) -/

/-- The frame that the device sends in a transaction (R461, R468), built from what stands when the chip-select falls. -/
def deviceFrame (s : State) (c : Fin 2) : List Byte :=
  let h := s.hspi.cs[c]
  let k := s.counters[csCounter c]
  let len := s.hspi.len.toNat
  let data := match h.readOfs with
    | some o => rplBytes k o.toNat (len - 6)
    | none => freeBytes s.freeCtr (len - 6)
  safeFrame len (statByte h.alive h.sendBad h.sendSkip h.refused k.rst)
    ([cntStatusByte k, h.echoOfs, if h.readOfs.isSome then 1 else 0] ++ data)

/-- The device frame is sent: ALIVE counts (R460) and RING_REFUSED has been told. -/
def sendFrame (c : Fin 2) (s : State) : State :=
  takeFree 64 (csMod c (fun h => { h with miso := deviceFrame s c, alive := h.alive + 1, refused := false }) s)

/-- A bad safe frame (R460, R461, R470). -/
def badFrame (c : Fin 2) (s : State) : State :=
  let s := csMod c (fun h => { h with
    broken := true, badCnt := h.badCnt + 1, sendBad := true, sendSkip := false, readOfs := none }) s
  raiseFault 0xC4 { s with hspi := { s.hspi with events := s.hspi.events ||| BitVec.twoPow 3 c.val } }

/-- An accepted host frame (R460, R468). -/
def goodFrame (c : Fin 2) (rx : List Byte) (s : State) : State :=
  let alive : BitVec 4 := (rx.getD 0 0).setWidth 4
  let op := rx.getD 1 0
  let ofs := rx.getD 2 0
  let s := csMod c (fun h => { h with
    lastAlive := some alive, sendBad := false, sendSkip := frameSkip h.lastAlive alive, echoOfs := ofs,
    readOfs := if op = 2 then some ofs else none }) s
  if op = 1 then hostWrite c ofs (slice rx 4 (s.hspi.len.toNat - 6)) s
  else if op = 3 then hostBell c (rx.getD 3 0) s
  else s

/-- A transaction on a chip-select in SAFE mode: both frames are exchanged, then the host's is judged. -/
def safeExchange (c : Fin 2) (rx : List Byte) (s : State) : State :=
  if frameBad s.hspi.len.toNat s.hspi.cs[c].lastAlive (8 * rx.length) rx then badFrame c (sendFrame c s)
  else goodFrame c rx (sendFrame c s)

/-! ## RAW transactions (R467) -/

/-- A REG_READ or REG_WRITE of an offset that is no word's: an error response to fabric master 0x0D (R16, R467). -/
def portMisaligned (ofs : Nat) (kind : BitVec 2) (s : State) : State :=
  errorResponse { master := .hspi, addr := regAddr 0x2B ofs, kind := kind, size := 2 } .misaligned s

/-- What the device shifts out after the opcode while the host shifts in `rx`, and what the transaction does. Bytes of
MISO that the table states nothing for are free (log 8); the bank offset comes least significant byte first (log 39). -/
def rawOp (rx : List Byte) (s : State) : List Byte × State :=
  let n := rx.length - 1
  let ofs := rx.getD 1 0
  let free := freeBytes s.freeCtr
  match (rx.getD 0 0).toNat with
  | 1 => (List.replicate n 0, if n = 0 then s else hostWrite 0 ofs (rx.drop 2) s)
  | 2 => ((free 2 ++ rplBytes s.counters[csCounter 0] ofs.toNat (n - 2)).take n, takeFree 2 s)
  | 3 => (List.replicate n 0, if n = 0 then s else hostBell 0 ofs s)
  | 4 =>
    if n < 2 then (free n, takeFree n s)
    else
      let at4 := fieldLe rx 1 2
      let r := if at4 % 4 = 0 then regRead .hspi 0x2B at4 s else (none, portMisaligned at4 0 s)
      let v := match r.1 with
        | some w => toLe w 4
        | none => (free 7).drop 3
      ((free 3 ++ v ++ List.replicate n 0).take n, takeFree 7 r.2)
  | 5 => (List.replicate n 0,
      if n < 6 then s
      else if fieldLe rx 1 2 % 4 ≠ 0 then portMisaligned (fieldLe rx 1 2) 1 s
      else regWrite .hspi 0x2B (fieldLe rx 1 2) (BitVec.ofNat 32 (fieldLe rx 3 4)) s)
  | _ => (free n, takeFree n s)

/-- A transaction in RAW mode on HSPI_nCS0: the status byte with RST in bit 7, then the opcode's bytes. -/
def rawExchange (rx : List Byte) (s : State) : State :=
  let k := s.counters[csCounter 0]
  let status := cntStatusByte k ||| (if k.rst then 0x80 else 0)
  let r := rawOp rx s
  csMod 0 (fun h => { h with miso := status :: r.1, readOfs := none }) r.2

/-! ## Transactions -/

/-- A transaction on one chip-select: in DORMANT its activity wakes the device and it is not posted (R112); without the
port's domain or block nothing takes it. -/
def transact (c : Fin 2) (rx : List Byte) (s : State) : State :=
  if hspiUp s then (if csSafe s c then safeExchange c rx s else rawExchange rx s)
  else dormantWake 2 s

/-- The bytes of a host safe frame (R458, R468). -/
def hostFrame (s : State) (alive : BitVec 4) (op ofs bell : Byte) (data : List Byte) : List Byte :=
  safeFrame s.hspi.len.toNat (alive.setWidth 8) ([op, ofs, bell] ++ data)

/-- The bytes of WRITE_REQ: a safe frame with its ALIVE, or RAW. -/
def writeReqBytes (s : State) (alive : Option (BitVec 4)) (ofs : Byte) (data : List Byte) : List Byte :=
  match alive with
  | some a => hostFrame s a 1 ofs 0 data
  | none => [1, ofs] ++ data

/-- The bytes of READ_RPL: in a safe frame the request; in RAW mode the opcode, OFFSET, a dummy byte and `n` byte times
to read in. -/
def readRplBytes (s : State) (alive : Option (BitVec 4)) (ofs : Byte) (n : Nat) : List Byte :=
  match alive with
  | some a => hostFrame s a 2 ofs 0 []
  | none => [2, ofs, 0] ++ List.replicate (min n 256) 0

/-- The bytes of DOORBELL. -/
def doorbellBytes (s : State) (alive : Option (BitVec 4)) (v : Byte) : List Byte :=
  match alive with
  | some a => hostFrame s a 3 0 v []
  | none => [3, v]

/-- A frame that arrives bad, by its CRC or its bit count (R460). -/
def spoiltFrame (c : Fin 2) (s : State) : State :=
  if hspiUp s then (if csSafe s c then badFrame c (sendFrame c s) else s) else dormantWake 2 s

/-- Both chip-selects low at once (R484): MISO is high-impedance, every safe frame in progress is bad. -/
def csClash (s : State) : State :=
  if hspiUp s then
    let s := { s with hspi := { s.hspi with events := s.hspi.events ||| 4 } }
    let s := csMod 0 (fun h => { h with miso := [] }) (csMod 1 (fun h => { h with miso := [] }) s)
    let s := if csSafe s 0 then badFrame 0 s else s
    badFrame 1 s
  else dormantWake 2 s

/-- A write of HS_CFG takes effect (R471): LEN outside 8-64 is stored as 8, ALIVE is reset on both chip-selects. -/
def cfgApply (s : State) : State :=
  match s.hspi.cfgDue with
  | none => s
  | some v =>
    let l := frameLen (bits v 8 7 : BitVec 7).toNat
    let s := { s with hspi := { s.hspi with mode0 := bit v 0, len := BitVec.ofNat 7 l, cfgDue := none } }
    let f := fun (h : HspiCs) => { h with alive := 0, lastAlive := none }
    csMod 0 f (csMod 1 f s)

/-! ## Meanings -/

/-- HSPI_WRITE_REQ (R467, R468). -/
def execHspiWriteReq (cs : Fin 2) (alive : Option (BitVec 4)) (ofs : Byte) (data : List Byte) (s : State) :
    Host.Outcome State Fault Refusal := .next (transact cs (writeReqBytes s alive ofs data) s)

/-- HSPI_READ_RPL (R467, R468). -/
def execHspiReadRpl (cs : Fin 2) (alive : Option (BitVec 4)) (ofs : Byte) (count : Nat) (s : State) :
    Host.Outcome State Fault Refusal := .next (transact cs (readRplBytes s alive ofs count) s)

/-- HSPI_DOORBELL (R467, R470). -/
def execHspiDoorbell (cs : Fin 2) (alive : Option (BitVec 4)) (v : Byte) (s : State) :
    Host.Outcome State Fault Refusal := .next (transact cs (doorbellBytes s alive v) s)

/-- HSPI_REG_READ (R467). -/
def execHspiRegRead (ofs : BitVec 16) (s : State) : Host.Outcome State Fault Refusal :=
  .next (transact 0 ([4] ++ toLe ofs 2 ++ [0, 0, 0, 0, 0]) s)

/-- HSPI_REG_WRITE (R467). -/
def execHspiRegWrite (ofs : BitVec 16) (v : Word) (s : State) : Host.Outcome State Fault Refusal :=
  .next (transact 0 ([5] ++ toLe ofs 2 ++ toLe v 4) s)

/-- HSPI_NOP (R468). -/
def execHspiNop (cs : Fin 2) (alive : BitVec 4) (s : State) : Host.Outcome State Fault Refusal :=
  .next (transact cs (hostFrame s alive 0 0 0 []) s)

/-- HSPI_BAD_FRAME (R470). -/
def execHspiBadFrame (cs : Fin 2) (s : State) : Host.Outcome State Fault Refusal := .next (spoiltFrame cs s)

/-- HSPI_CLASH (R484). -/
def execHspiClash (s : State) : Host.Outcome State Fault Refusal := .next (csClash s)

/-- HS_CFG_APPLY (R471). -/
def execHsCfgApply (s : State) : Host.Outcome State Fault Refusal := .next (cfgApply s)

end Sys2Proof.Machine
end

