-- ==== Sys2Proof/Machine/PowerUp.lean ====
section
/-! DEFINITION. Step 6 of the release (R214): the ledger pointers (R369), the staged docket (R73), the power-up record
(R210, R362) and the mode (R38, R40). -/

namespace Sys2Proof.Machine

/-- The body of the power-up record (R362; log 22). -/
def powerUpBody (s : State) : List Byte :=
  let r := s.rst
  [r.cause, r.kind.setWidth 8] ++ toLe r.count 4 ++ toLe r.time 8 ++ toLe (optStatWord s) 4 ++ toLe r.seqA 4 ++ toLe r.seqB 4
    ++ digestBytes s.crypto.meas[0] ++ toLe (readFaulthub 0x68 s) 4

/-- Only the minimal service set is offered (R34): under the ROM safe record, or with no valid Keeper image (log 40). -/
def minsetRule (s : State) : Bool := decide (s.rst.applied = 2) || decide (s.xspi.kslot = 0xF)

/-- Sinov runs from here on: SYS_SINOV, SYS_MODE.MINSET (R507, R508); it resumes the PLLs that have locked (R243). -/
def sinovStart (s : State) : State :=
  sinovPlls { s with rst := { s.rst with step := .running }
                     sys := { s.sys with minset := minsetRule s, sinov := sinovVer } }

/-- The staged docket comes first (R73); without one no records are reserved. -/
def docketFirst (s : State) : State :=
  if s.dkStore.due then wantRecord (docketWant s) s else tillSync { s with till := { s.till with rsv := 0 } }

/-- The power-up record where a record is free for it beside the docket's, else the mode at once (R40). -/
def powerUpRecord (s : State) : State :=
  if (if s.dkStore.due then 2 else 1) ≤ s.till.free.toNat ∧ s.till.stopped = false then
    wantRecord (ownRecord 0x0001 (powerUpBody s) (s.dkStore.due) .powerUp) s
  else setMode { s with sinov := { s.sinov with omitted := true } }

/-- The pointers stand: the records of step 6. -/
def powerUpRecords (s : State) : State := powerUpRecord (docketFirst (sinovStart s))

/-- The pointers were never established: after POWER_ON, or after a reset that came before they were (R369). -/
def pointersLost (s : State) : Bool := decide (s.rst.kind = 0) || decide (s.till.next = 0)

/-- Step 6. Without the Till's domain no record can be written and the mode is set at once (R40; log 40). -/
def powerUp (s : State) : State :=
  if s.rst.step = .sinov then
    if domOn s 17 = false then setMode { sinovStart s with sinov := { s.sinov with omitted := true } }
    else if pointersLost s then scanStart s
    else powerUpRecords (pointersKept s)
  else s

/-- A scan ends; at power-up its records follow. -/
def scanDone (s : State) : State :=
  if s.till.op = .scan then
    let s := scanEnd s
    if s.rst.step = .sinov then powerUpRecords s else s
  else s

/-! ## Meanings -/

/-- SINOV_POWER_UP (R38, R214). -/
def execSinovPowerUp (s : State) : Host.Outcome State Fault Refusal := .next (powerUp s)

/-- TL_SCAN_DONE (R369). -/
def execTlScanDone (s : State) : Host.Outcome State Fault Refusal := .next (scanDone s)

end Sys2Proof.Machine
end

