-- ==== Sys2Proof/Machine/RegRows.lean ====
section
/-! DEFINITION. The commands that are one register access each: a write (or read) of the register that the row names, with
every check of the fabric (R3-R5, R16-R18, R226, R505-R508) before it; the release of a BLOCK reset with the writes that
waited for it; a write by address. -/

namespace Sys2Proof.Machine

/-- A read by address (R16, R504). -/
def addrRead (m : Master) (addr : BitVec 40) (s : State) : State :=
  let a := addr.toNat
  if regionOf a ≠ .regs then s
  else
    let bank := (a - 0x4000_0000) / 0x1_0000
    if bankReach m bank = false then errorResponse { master := m, addr := addr, kind := 0, size := 2 } .firewall s
    else if a % 4 ≠ 0 then errorResponse { master := m, addr := addr, kind := 0, size := 2 } .misaligned s
    else (regRead m bank (a % 0x1_0000) s).2

/-- The writes held for block b go on, in their order (R226, step 4). -/
def heldGoOn (b : Fin 24) (s : State) : State :=
  let mine := s.rst.held.filter fun h => h.blk = b
  let s := { s with rst := { s.rst with held := s.rst.held.filter fun h => h.blk ≠ b } }
  mine.foldl (fun s h => regWrite h.master h.bank h.off h.value s) s

/-- A block leaves its reset (R226). -/
def blockRelease (b : Fin 24) (s : State) : State :=
  if s.rst.blk[b] = .held then heldGoOn b (blockFree b s) else s

/-! ## Writes of one register -/

/-- CNT_DOORBELL with RING (R81, R90). -/
def execRing (m : Master) (n : Fin 8) (v : Word) (s : State) : Host.Outcome State Fault Refusal :=
  .next (regWrite m 0x08 (0x400 * n.val + 0x200) (v ||| 1) s)

/-- CNT_DOORBELL with ABANDON (R81, R90). -/
def execAbandon (m : Master) (n : Fin 8) (v : Word) (s : State) : Host.Outcome State Fault Refusal :=
  .next (regWrite m 0x08 (0x400 * n.val + 0x200) (v ||| 2) s)

/-- CNT_DOORBELL with ACK (R81, R90). -/
def execAck (m : Master) (n : Fin 8) (v : Word) (s : State) : Host.Outcome State Fault Refusal :=
  .next (regWrite m 0x08 (0x400 * n.val + 0x200) (v ||| 4) s)

/-- CNT_TAKE bit n (R81, R89). -/
def execCntTake (m : Master) (n : Fin 8) (s : State) : Host.Outcome State Fault Refusal :=
  .next (regWrite m 0x08 0x2004 (BitVec.twoPow 32 n.val) s)

/-- CNT_DONE bit n (R81, R90). -/
def execCntDone (m : Master) (n : Fin 8) (s : State) : Host.Outcome State Fault Refusal :=
  .next (regWrite m 0x08 0x2008 (BitVec.twoPow 32 n.val) s)

/-- CNT_FERR_READ (R6, R81): the read clears the counter's FERR. -/
def execCntFerrRead (m : Master) (n : Fin 8) (s : State) : Host.Outcome State Fault Refusal :=
  .next (regRead m 0x08 (0x400 * n.val + 0x218) s).2

/-- DK_CTRL.ARM (R61, R65). -/
def execDkArm (m : Master) (s : State) : Host.Outcome State Fault Refusal :=
  .next (regWrite m 0x2F 0x00 1 s)

/-- DK_CTRL.SPOIL (R65, R69). -/
def execDkSpoil (m : Master) (s : State) : Host.Outcome State Fault Refusal :=
  .next (regWrite m 0x2F 0x00 2 s)

/-- DK_CTRL.CLOSE (R65, R67). -/
def execDkClose (m : Master) (s : State) : Host.Outcome State Fault Refusal :=
  .next (regWrite m 0x2F 0x00 4 s)

/-- DK_CTRL.RELEASE (R65). -/
def execDkRelease (m : Master) (s : State) : Host.Outcome State Fault Refusal :=
  .next (regWrite m 0x2F 0x00 8 s)

/-- RST_REL.ENG_REL (R214, R230). -/
def execEngRel (m : Master) (s : State) : Host.Outcome State Fault Refusal :=
  .next (regWrite m 0x02 0x24 1 s)

/-- RST_REL.HOLD_REL (R229, R230). -/
def execHoldRel (m : Master) (s : State) : Host.Outcome State Fault Refusal :=
  .next (regWrite m 0x02 0x24 0x100 s)

/-- RST_REL, its CORE bits (R214, R230). -/
def execCoreRelease (m : Master) (v : Word) (s : State) : Host.Outcome State Fault Refusal :=
  .next (regWrite m 0x02 0x24 (v &&& 0x1E) s)

/-- FH_CMD with ACK (R164). -/
def execFhAck (m : Master) (f : BitVec 8) (s : State) : Host.Outcome State Fault Refusal :=
  .next (regWrite m 0x06 0x60 (f.setWidth 32 ||| 0x100) s)

/-- FH_CMD with CLEAR (R164). -/
def execFhClear (m : Master) (f : BitVec 8) (s : State) : Host.Outcome State Fault Refusal :=
  .next (regWrite m 0x06 0x60 (f.setWidth 32 ||| 0x200) s)

/-- FH_CMD with RAISE (R164). -/
def execFhRaise (m : Master) (f : BitVec 8) (s : State) : Host.Outcome State Fault Refusal :=
  .next (regWrite m 0x06 0x60 (f.setWidth 32 ||| 0x300) s)

/-- FE_CTRL.CLEAR (R163). -/
def execFeClear (m : Master) (s : State) : Host.Outcome State Fault Refusal :=
  .next (regWrite m 0x06 0xA0 1 s)

/-- PS_REQ_LO or PS_REQ_HI (R177, R199). -/
def execPsReqWrite (m : Master) (hi : Bool) (v : Word) (s : State) : Host.Outcome State Fault Refusal :=
  .next (regWrite m 0x01 (if hi then 0x1C else 0x18) v s)

/-- PS_FAIL_LO, PS_FAIL_HI or PS_EXT_FAIL (R199). -/
def execPsFailClear (m : Master) (which : PsFailReg) (v : Word) (s : State) : Host.Outcome State Fault Refusal :=
  .next (regWrite m 0x01 (match which with | .lo => 0x10 | .hi => 0x14 | .ext => 0x24) v s)

/-- RST_KWDG_KICK (R215). -/
def execRstKwdgKick (m : Master) (v : Word) (s : State) : Host.Outcome State Fault Refusal :=
  .next (regWrite m 0x02 0x44 v s)

/-- RST_AWDG_KICK (R215). -/
def execRstAwdgKick (m : Master) (v : Word) (s : State) : Host.Outcome State Fault Refusal :=
  .next (regWrite m 0x02 0x4C v s)

/-- RST_REQ (R230). -/
def execRstReq (m : Master) (v : Word) (s : State) : Host.Outcome State Fault Refusal :=
  .next (regWrite m 0x02 0x18 v s)

/-- RST_BLK_REQ (R226, R230): `outs` are the transfers outstanding at the block. -/
def execRstBlkReq (m : Master) (v : Word) (outs : List Access) (s : State) : Host.Outcome State Fault Refusal :=
  .next (regWriteWith m 0x02 0x1C v outs s)

/-- BLOCK_RESET_RELEASE (R226). -/
def execBlockResetRelease (b : Fin 24) (s : State) : Host.Outcome State Fault Refusal := .next (blockRelease b s)

/-- CLK_RESUME (R243, R245). -/
def execClkResume (m : Master) (v : Word) (s : State) : Host.Outcome State Fault Refusal :=
  .next (regWrite m 0x04 0x14 v s)

/-- PIXRAMP_RESUME (R243, R251): PR_CTRL as it stands, with RESUME. -/
def execPixrampResume (m : Master) (s : State) : Host.Outcome State Fault Refusal :=
  .next (regWrite m 0x05 0x00 (regVal 0x05 0x00 s ||| 0x100) s)

/-- CLK_CPU (R236, R245). -/
def execCpuDivWrite (m : Master) (v : Word) (s : State) : Host.Outcome State Fault Refusal :=
  .next (regWrite m 0x04 0x10 v s)

/-- PR_CTRL (R251). -/
def execPrCtrlWrite (m : Master) (v : Word) (s : State) : Host.Outcome State Fault Refusal :=
  .next (regWrite m 0x05 0x00 v s)

/-- BM_CTRL (R276). -/
def execBeamEnWrite (m : Master) (v : Word) (s : State) : Host.Outcome State Fault Refusal :=
  .next (regWrite m 0x11 0x00 v s)

/-- VF_CTRL (R275). -/
def execVideoEnWrite (m : Master) (v : Word) (s : State) : Host.Outcome State Fault Refusal :=
  .next (regWrite m 0x10 0x00 v s)

/-- MOT_CMD.START (R290, R307). -/
def execMotStart (m : Master) (k : Fin 6) (s : State) : Host.Outcome State Fault Refusal :=
  .next (regWrite m (0x12 + k.val) 0x04 1 s)

/-- MOT_CMD.STOP and MODE (R303, R307). -/
def execMotStop (m : Master) (k : Fin 6) (mode : BitVec 2) (s : State) : Host.Outcome State Fault Refusal :=
  .next (regWrite m (0x12 + k.val) 0x04 (2 ||| (mode.setWidth 32 <<< 2)) s)

/-- LE_COMMIT.GO (R315, R332). -/
def execLeCommitGo (m : Master) (s : State) : Host.Outcome State Fault Refusal :=
  .next (regWrite m 0x19 0x04 1 s)

/-- SY_CTRL (R342). -/
def execSyEnable (m : Master) (v : Word) (s : State) : Host.Outcome State Fault Refusal :=
  .next (regWrite m 0x1C 0x00 v s)

/-- SY_FC_CTRL.GO (R354). -/
def execForecastGo (m : Master) (s : State) : Host.Outcome State Fault Refusal :=
  .next (regWrite m 0x1C 0x0C 1 s)

/-- TL_CMD with COMMIT (R361, R377). -/
def execTlCommitOp (m : Master) (rsvOk : Bool) (s : State) : Host.Outcome State Fault Refusal :=
  .next (regWrite m 0x1E 0x00 (if rsvOk then 5 else 1) s)

/-- TL_CMD with RELEASE (R368, R377). -/
def execTlReleaseOp (m : Master) (rsvOk : Bool) (s : State) : Host.Outcome State Fault Refusal :=
  .next (regWrite m 0x1E 0x00 (if rsvOk then 6 else 2) s)

/-- TL_CMD with SCAN (R369, R377). -/
def execTlScanOp (m : Master) (s : State) : Host.Outcome State Fault Refusal :=
  .next (regWrite m 0x1E 0x00 3 s)

/-- PAIR_LO_READ (R9): a read of a pair's low word holds its high word for the same master. -/
def execPairLoRead (m : Master) (addr : BitVec 40) (s : State) : Host.Outcome State Fault Refusal :=
  .next (addrRead m addr s)

/-- TIME_SNAP.GO (R371). -/
def execTimeSnapGo (m : Master) (s : State) : Host.Outcome State Fault Refusal :=
  .next (regWrite m 0x1F 0x10 1 s)

/-- TIME_APPLY.GO (R372). -/
def execTimeApplyGo (m : Master) (s : State) : Host.Outcome State Fault Refusal :=
  .next (regWrite m 0x1F 0x30 1 s)

/-- TIME_LOST_CLR.GO (R378). -/
def execTimeLostClrGo (m : Master) (s : State) : Host.Outcome State Fault Refusal :=
  .next (regWrite m 0x1F 0x34 1 s)

/-- CR_SHA_CTRL.START (R381). -/
def execShaStart (m : Master) (v : Word) (s : State) : Host.Outcome State Fault Refusal :=
  .next (regWrite m 0x21 0x00 (v ||| 1) s)

/-- CR_SHA_DATA (R381). -/
def execShaData (m : Master) (v : Word) (s : State) : Host.Outcome State Fault Refusal :=
  .next (regWrite m 0x21 0x08 v s)

/-- CR_SHA_CTRL.FINAL (R381). -/
def execShaFinal (m : Master) (v : Word) (s : State) : Host.Outcome State Fault Refusal :=
  .next (regWrite m 0x21 0x00 (v ||| 2) s)

/-- CR_SIGN_CTRL with SIGN (R381). -/
def execSign (m : Master) (s : State) : Host.Outcome State Fault Refusal :=
  .next (regWrite m 0x21 0x40 1 s)

/-- CR_SIGN_CTRL with VERIFY (R381). -/
def execVerify (m : Master) (s : State) : Host.Outcome State Fault Refusal :=
  .next (regWrite m 0x21 0x40 2 s)

/-- CR_MEXT_CMD with GO (R379, R381). -/
def execMextGo (m : Master) (v : Word) (s : State) : Host.Outcome State Fault Refusal :=
  .next (regWrite m 0x21 0xC0 (v ||| 0x100) s)

/-- L2_MAINT with CLEAN_ALL (R407). -/
def execL2CleanAll (m : Master) (s : State) : Host.Outcome State Fault Refusal :=
  .next (regWrite m 0x0E 0x00 1 s)

/-- L2_MAINT with FLUSH_ALL (R407). -/
def execL2FlushAll (m : Master) (s : State) : Host.Outcome State Fault Refusal :=
  .next (regWrite m 0x0E 0x00 2 s)

/-- L2_MAINT with INVAL_ALL (R407). -/
def execL2InvalAll (m : Master) (s : State) : Host.Outcome State Fault Refusal :=
  .next (regWrite m 0x0E 0x00 3 s)

/-- L2_CNT_CLR (R407). -/
def execL2CntClr (m : Master) (v : Word) (s : State) : Host.Outcome State Fault Refusal :=
  .next (regWrite m 0x0E 0x40 v s)

/-- FAB_CNT_CLR (R406). -/
def execFabCntClr (m : Master) (v : Word) (s : State) : Host.Outcome State Fault Refusal :=
  .next (regWrite m 0x0D 0x60 v s)

/-- DR_CNT_CLR (R408). -/
def execDrCntClr (m : Master) (v : Word) (s : State) : Host.Outcome State Fault Refusal :=
  .next (regWrite m 0x0F 0x1C v s)

/-- CTX_ENTER (R421). -/
def execCtxEnter (m : Master) (app : Bool) (c : Fin 8) (id : BitVec 10) (s : State) : Host.Outcome State Fault Refusal :=
  .next (regWrite m (if app then 0x09 else 0x0A) (0x1048 + 0x100 * c.val) (id.setWidth 32) s)

/-- CTX_EXIT (R421). -/
def execCtxExit (m : Master) (app : Bool) (c : Fin 8) (v : Word) (s : State) : Host.Outcome State Fault Refusal :=
  .next (regWrite m (if app then 0x09 else 0x0A) (0x104C + 0x100 * c.val) v s)

/-- LIC_SWI_SET (R425). -/
def execLicSwiSet (m : Master) (app : Bool) (v : Word) (s : State) : Host.Outcome State Fault Refusal :=
  .next (regWrite m (if app then 0x09 else 0x0A) 0x40 v s)

/-- LIC_SWI_CLR (R425). -/
def execLicSwiClear (m : Master) (app : Bool) (v : Word) (s : State) : Host.Outcome State Fault Refusal :=
  .next (regWrite m (if app then 0x09 else 0x0A) 0x44 v s)

/-- MTIMECMPh, a half (R424, R425). -/
def execMtimecmpWrite (m : Master) (app : Bool) (h : Fin 4) (hi : Bool) (v : Word) (s : State) : Host.Outcome State Fault Refusal :=
  .next (regWrite m (if app then 0x09 else 0x0A) (0x800 + 8 * h.val + (if hi then 4 else 0)) v s)

/-- CTRL with START (R427, R432). -/
def execBarrowStart (m : Master) (app : Bool) (ch : Fin 16) (v : Word) (s : State) : Host.Outcome State Fault Refusal :=
  .next (regWrite m (if app then 0x0B else 0x0C) (0x114 + 0x40 * ch.val) (v ||| 1) s)

/-- CTRL with STOP (R429, R432). -/
def execBarrowStop (m : Master) (app : Bool) (ch : Fin 16) (v : Word) (s : State) : Host.Outcome State Fault Refusal :=
  .next (regWrite m (if app then 0x0B else 0x0C) (0x114 + 0x40 * ch.val) (v ||| 2) s)

/-- BW_STOPALL (R429). -/
def execBwStopall (m : Master) (app : Bool) (v : Word) (s : State) : Host.Outcome State Fault Refusal :=
  .next (regWrite m (if app then 0x0B else 0x0C) 0x08 v s)

/-- OUT_VAL (R446). -/
def execOutValWrite (m : Master) (b : Fin 4) (v : Word) (s : State) : Host.Outcome State Fault Refusal :=
  .next (regWrite m (0x22 + b.val) 0x04 v s)

/-- OUT_SET (R447). -/
def execOutSet (m : Master) (b : Fin 4) (v : Word) (s : State) : Host.Outcome State Fault Refusal :=
  .next (regWrite m (0x22 + b.val) 0x08 v s)

/-- OUT_CLR (R447). -/
def execOutClr (m : Master) (b : Fin 4) (v : Word) (s : State) : Host.Outcome State Fault Refusal :=
  .next (regWrite m (0x22 + b.val) 0x0C v s)

/-- OUT_TGL (R447). -/
def execOutTgl (m : Master) (b : Fin 4) (v : Word) (s : State) : Host.Outcome State Fault Refusal :=
  .next (regWrite m (0x22 + b.val) 0x10 v s)

/-- LOCK_KEY (R449). -/
def execLockKeyWrite (m : Master) (b : Fin 4) (v : Word) (s : State) : Host.Outcome State Fault Refusal :=
  .next (regWrite m (0x22 + b.val) 0x40 v s)

/-- LOCK_MASK (R449). -/
def execLockMaskWrite (m : Master) (b : Fin 4) (v : Word) (s : State) : Host.Outcome State Fault Refusal :=
  .next (regWrite m (0x22 + b.val) 0x44 v s)

/-- SPI_CTRL (R465). -/
def execSpiCtrlWrite (m : Master) (i : Fin 4) (v : Word) (s : State) : Host.Outcome State Fault Refusal :=
  .next (regWrite m (0x27 + i.val) 0x00 v s)

/-- SPI_TX (R463). -/
def execSpiTxWrite (m : Master) (i : Fin 4) (v : Word) (s : State) : Host.Outcome State Fault Refusal :=
  .next (regWrite m (0x27 + i.val) 0x14 v s)

/-- SPI_RX_READ (R463): the read pops one word. -/
def execSpiRxRead (m : Master) (i : Fin 4) (s : State) : Host.Outcome State Fault Refusal :=
  .next (regRead m (0x27 + i.val) 0x18 s).2

/-- SPI_GO (R464). -/
def execSpiGo (m : Master) (i : Fin 4) (v : Word) (s : State) : Host.Outcome State Fault Refusal :=
  .next (regWrite m (0x27 + i.val) 0x1C v s)

/-- ETH_CTRL (R474, R477). -/
def execEthCtrlWrite (m : Master) (i : Fin 2) (v : Word) (s : State) : Host.Outcome State Fault Refusal :=
  .next (regWrite m (0x2C + i.val) 0x00 v s)

/-- PTP_CMD with SET (R476). -/
def execPtpSet (m : Master) (i : Fin 2) (s : State) : Host.Outcome State Fault Refusal :=
  .next (regWrite m (0x2C + i.val) 0xB8 1 s)

/-- PTP_CMD with STEP (R476). -/
def execPtpStep (m : Master) (i : Fin 2) (s : State) : Host.Outcome State Fault Refusal :=
  .next (regWrite m (0x2C + i.val) 0xB8 2 s)

/-- MDIO_CMD (R472, R477). -/
def execMdioFrame (m : Master) (i : Fin 2) (v : Word) (s : State) : Host.Outcome State Fault Refusal :=
  .next (regWrite m (0x2C + i.val) 0x80 v s)

/-- XS_CMD with ERASE_64K (R482, R483). -/
def execXsErase64k (m : Master) (s : State) : Host.Outcome State Fault Refusal :=
  .next (regWrite m 0x2E 0x04 1 s)

/-- XS_CMD with PROGRAM (R482, R483). -/
def execXsProgram (m : Master) (s : State) : Host.Outcome State Fault Refusal :=
  .next (regWrite m 0x2E 0x04 2 s)

/-- TRC_CLR (R511). -/
def execTrcClr (m : Master) (v : Word) (s : State) : Host.Outcome State Fault Refusal :=
  .next (regWrite m 0x30 0x220 v s)

/-- command (DMI 0x17) with cmdtype 0, Access Register (R511). -/
def execDmiAccessRegister (m : Master) (cmd : Word) (s : State) : Host.Outcome State Fault Refusal :=
  .next (regWrite m 0x30 0x5C (cmd &&& 0x00FF_FFFF) s)

/-- command (DMI 0x17) with cmdtype 2, Access Memory (R511). -/
def execDmiAccessMemory (m : Master) (cmd : Word) (s : State) : Host.Outcome State Fault Refusal :=
  .next (regWrite m 0x30 0x5C ((cmd &&& 0x00FF_FFFF) ||| 0x0200_0000) s)

/-- REGISTER_WRITE (R3, R16): a write by address and size. -/
def execRegisterWrite (m : Master) (addr : BitVec 40) (size : BitVec 3) (v : Word) (s : State) :
    Host.Outcome State Fault Refusal := .next (addrWrite m addr size v s)

end Sys2Proof.Machine
end

