-- ==== Sys2Proof/Machine/Dispatch.lean ====
section
/-! DEFINITION. One arm per command: each is one direct call of the meaning of its command. -/

namespace Sys2Proof.Machine

def exec (i : Instr) (s : State) : Host.Outcome State Fault Refusal :=
  match i with
  | .ring m n v => Sys2Proof.Machine.execRing m n v s
  | .abandon m n v => Sys2Proof.Machine.execAbandon m n v s
  | .ack m n v => Sys2Proof.Machine.execAck m n v s
  | .cntTake m n => Sys2Proof.Machine.execCntTake m n s
  | .cntDone m n => Sys2Proof.Machine.execCntDone m n s
  | .cntFerrRead m n => Sys2Proof.Machine.execCntFerrRead m n s
  | .counterStale n => Sys2Proof.Machine.execCounterStale n s
  | .cntBadFrames n => Sys2Proof.Machine.execCntBadFrames n s
  | .conflictWindowClose r => Sys2Proof.Machine.execConflictWindowClose r s
  | .getInfo n => Sys2Proof.Machine.execGetInfo n s
  | .getMode n => Sys2Proof.Machine.execGetMode n s
  | .sealPlan n => Sys2Proof.Machine.execSeal n s
  | .unsealPlan n => Sys2Proof.Machine.execUnseal n s
  | .sleep n => Sys2Proof.Machine.execSleep n s
  | .reset n => Sys2Proof.Machine.execReset n s
  | .getResetCause n => Sys2Proof.Machine.execGetResetCause n s
  | .admitPage n => Sys2Proof.Machine.execAdmitPage n s
  | .startPage n => Sys2Proof.Machine.execStartPage n s
  | .spoilPage n => Sys2Proof.Machine.execSpoilPage n s
  | .getDocket n => Sys2Proof.Machine.execGetDocket n s
  | .setFacetProfile n => Sys2Proof.Machine.execSetFacetProfile n s
  | .setMotor n => Sys2Proof.Machine.execSetMotor n s
  | .motorStop n => Sys2Proof.Machine.execMotorStop n s
  | .setLoop n => Sys2Proof.Machine.execSetLoop n s
  | .setHv n => Sys2Proof.Machine.execSetHv n s
  | .setFuser n => Sys2Proof.Machine.execSetFuser n s
  | .setLaser n => Sys2Proof.Machine.execSetLaser n s
  | .setFabric n => Sys2Proof.Machine.execSetFabric n s
  | .getSteelyard n => Sys2Proof.Machine.execGetSteelyard n s
  | .setThrottle n => Sys2Proof.Machine.execSetThrottle n s
  | .getRails n => Sys2Proof.Machine.execGetRails n s
  | .setShutdownTable n => Sys2Proof.Machine.execSetShutdownTable n s
  | .getFaults n => Sys2Proof.Machine.execGetFaults n s
  | .ackFault n => Sys2Proof.Machine.execAckFault n s
  | .clearFault n => Sys2Proof.Machine.execClearFault n s
  | .setFaultClass n => Sys2Proof.Machine.execSetFaultClass n s
  | .tillRead n => Sys2Proof.Machine.execTillRead n s
  | .tillAppend n => Sys2Proof.Machine.execTillAppend n s
  | .tillStatus n => Sys2Proof.Machine.execTillStatus n s
  | .tillRelease n => Sys2Proof.Machine.execTillRelease n s
  | .timeGet n => Sys2Proof.Machine.execTimeGet n s
  | .timeSet n => Sys2Proof.Machine.execTimeSet n s
  | .timeLostClear n => Sys2Proof.Machine.execTimeLostClear n s
  | .measureGet n => Sys2Proof.Machine.execMeasureGet n s
  | .quote n => Sys2Proof.Machine.execQuote n s
  | .fwStageBegin n erased => Sys2Proof.Machine.execFwStageBegin n erased s
  | .fwStageData n => Sys2Proof.Machine.execFwStageData n s
  | .fwVerify n => Sys2Proof.Machine.execFwVerify n s
  | .fwCommit n => Sys2Proof.Machine.execFwCommit n s
  | .optionWriteOpen n => Sys2Proof.Machine.execOptionWriteOpen n s
  | .optionWriteLoad n => Sys2Proof.Machine.execOptionWriteLoad n s
  | .optionWriteCommit n copies => Sys2Proof.Machine.execOptionWriteCommit n copies s
  | .diagOutput n => Sys2Proof.Machine.execDiagOutput n s
  | .diagRead n => Sys2Proof.Machine.execDiagRead n s
  | .admissionLapse => Sys2Proof.Machine.execAdmissionLapse s
  | .diagOutputStop out => Sys2Proof.Machine.execDiagOutputStop out s
  | .resetCmdAssert => Sys2Proof.Machine.execResetCmdAssert s
  | .sleepPowerDown => Sys2Proof.Machine.execSleepPowerDown s
  | .dkArm m => Sys2Proof.Machine.execDkArm m s
  | .dkSpoil m => Sys2Proof.Machine.execDkSpoil m s
  | .dkClose m => Sys2Proof.Machine.execDkClose m s
  | .dkRelease m => Sys2Proof.Machine.execDkRelease m s
  | .facetEnd => Sys2Proof.Machine.execFacetEnd s
  | .topOfForm => Sys2Proof.Machine.execTopOfForm s
  | .closePoint => Sys2Proof.Machine.execClosePoint s
  | .safeStopComplete => Sys2Proof.Machine.execSafeStopComplete s
  | .safeStopTimeout => Sys2Proof.Machine.execSafeStopTimeout s
  | .controlFrame crcOk seq => Sys2Proof.Machine.execControlFrame crcOk seq s
  | .statusFrame crcOk seq body => Sys2Proof.Machine.execStatusFrame crcOk seq body s
  | .safeExit => Sys2Proof.Machine.execSafeExit s
  | .hdieLinkRestored => Sys2Proof.Machine.execHdieLinkRestored s
  | .hdieLinkTimeout => Sys2Proof.Machine.execHdieLinkTimeout s
  | .englinkLoss => Sys2Proof.Machine.execEnglinkLoss s
  | .englinkRecovered => Sys2Proof.Machine.execEnglinkRecovered s
  | .hdieSelfReset => Sys2Proof.Machine.execHdieSelfReset s
  | .fwdClockLow => Sys2Proof.Machine.execFwdClockLow s
  | .engRel m => Sys2Proof.Machine.execEngRel m s
  | .ldCurrentTrip b => Sys2Proof.Machine.execLdCurrentTrip b s
  | .ldOntimeTrip b => Sys2Proof.Machine.execLdOntimeTrip b s
  | .htrDutyHold h => Sys2Proof.Machine.execHtrDutyHold h s
  | .htrStuckTrip h => Sys2Proof.Machine.execHtrStuckTrip h s
  | .tsfTrip mv => Sys2Proof.Machine.execTsfTrip mv s
  | .phaseCurrentTrip k => Sys2Proof.Machine.execPhaseCurrentTrip k s
  | .hvOvervoltTrip c => Sys2Proof.Machine.execHvOvervoltTrip c s
  | .overspeedTrip k => Sys2Proof.Machine.execOverspeedTrip k s
  | .graceExpire f => Sys2Proof.Machine.execGraceExpire f s
  | .fhAck m f => Sys2Proof.Machine.execFhAck m f s
  | .fhClear m f => Sys2Proof.Machine.execFhClear m f s
  | .fhRaise m f => Sys2Proof.Machine.execFhRaise m f s
  | .feClear m => Sys2Proof.Machine.execFeClear m s
  | .parityScan bad => Sys2Proof.Machine.execParityScan bad s
  | .vinStart => Sys2Proof.Machine.execVinStart s
  | .softStartDone => Sys2Proof.Machine.execSoftStartDone s
  | .vauxGood => Sys2Proof.Machine.execVauxGood s
  | .aoPorRelease => Sys2Proof.Machine.execAoPorRelease s
  | .brownOut => Sys2Proof.Machine.execBrownOut s
  | .pfw => Sys2Proof.Machine.execPfw s
  | .vinHighCross above => Sys2Proof.Machine.execVinHighCross above s
  | .vregenRise => Sys2Proof.Machine.execVregenRise s
  | .vregenFall => Sys2Proof.Machine.execVregenFall s
  | .vauxLowCross below => Sys2Proof.Machine.execVauxLowCross below s
  | .aoSwitchToVbkp => Sys2Proof.Machine.execAoSwitchToVbkp s
  | .aoSwitchToVaux => Sys2Proof.Machine.execAoSwitchToVaux s
  | .vbkpLowCross below => Sys2Proof.Machine.execVbkpLowCross below s
  | .vinMonitorSample vin vaux => Sys2Proof.Machine.execVinMonitorSample vin vaux s
  | .vinAvgUpdate => Sys2Proof.Machine.execVinAvgUpdate s
  | .domainSwitchClose d => Sys2Proof.Machine.execDomainSwitchClose d s
  | .domainGood d => Sys2Proof.Machine.execDomainGood d s
  | .domainGoodTimeout d => Sys2Proof.Machine.execDomainGoodTimeout d s
  | .domainPgDrop d => Sys2Proof.Machine.execDomainPgDrop d s
  | .domainSwitchOff d => Sys2Proof.Machine.execDomainSwitchOff d s
  | .seqpgRise r => Sys2Proof.Machine.execSeqpgRise r s
  | .railSettled r => Sys2Proof.Machine.execRailSettled r s
  | .railTimeout r => Sys2Proof.Machine.execRailTimeout r s
  | .seqpgDrop r => Sys2Proof.Machine.execSeqpgDrop r s
  | .psReqWrite m hi v => Sys2Proof.Machine.execPsReqWrite m hi v s
  | .psFailClear m which v => Sys2Proof.Machine.execPsFailClear m which v s
  | .tpfwExpire => Sys2Proof.Machine.execTpfwExpire s
  | .shutdownEntryDue target => Sys2Proof.Machine.execShutdownEntryDue target s
  | .trecExpire => Sys2Proof.Machine.execTrecExpire s
  | .vinRestored => Sys2Proof.Machine.execVinRestored s
  | .seqHalt => Sys2Proof.Machine.execSeqHalt s
  | .nrstPulse ns => Sys2Proof.Machine.execNrstPulse ns s
  | .resetOffTimeEnd => Sys2Proof.Machine.execResetOffTimeEnd s
  | .keeperWatchdogExpire => Sys2Proof.Machine.execKeeperWatchdogExpire s
  | .rstKwdgKick m v => Sys2Proof.Machine.execRstKwdgKick m v s
  | .appWatchdogExpire => Sys2Proof.Machine.execAppWatchdogExpire s
  | .rstAwdgKick m v => Sys2Proof.Machine.execRstAwdgKick m v s
  | .rstReq m v => Sys2Proof.Machine.execRstReq m v s
  | .debugReset => Sys2Proof.Machine.execDebugReset s
  | .rstBlkReq m v outs => Sys2Proof.Machine.execRstBlkReq m v outs s
  | .blockDrainDone b => Sys2Proof.Machine.execBlockDrainDone b s
  | .blockDrainTimeout b outs => Sys2Proof.Machine.execBlockDrainTimeout b outs s
  | .blockResetRelease b => Sys2Proof.Machine.execBlockResetRelease b s
  | .loaderEntryReady optrec readErrA readErrB verifyOk => Sys2Proof.Machine.execLoaderEntryReady optrec readErrA readErrB verifyOk s
  | .loaderEntryTimeout verifyOk => Sys2Proof.Machine.execLoaderEntryTimeout verifyOk s
  | .loaderRepairDone same verifyOk => Sys2Proof.Machine.execLoaderRepairDone same verifyOk s
  | .loaderEnvXferAck => Sys2Proof.Machine.execLoaderEnvXferAck s
  | .loaderEnvXferTimeout => Sys2Proof.Machine.execLoaderEnvXferTimeout s
  | .loadFailsLimit verifyOk => Sys2Proof.Machine.execLoadFailsLimit verifyOk s
  | .keeperRelease => Sys2Proof.Machine.execKeeperRelease s
  | .bootSocpllWaitEnd => Sys2Proof.Machine.execBootSocpllWaitEnd s
  | .sinovPowerUp => Sys2Proof.Machine.execSinovPowerUp s
  | .coreRelease m v => Sys2Proof.Machine.execCoreRelease m v s
  | .holdRel m => Sys2Proof.Machine.execHoldRel m s
  | .ksramDoubleBit ofs => Sys2Proof.Machine.execKsramDoubleBit ofs s
  | .ksramSingleBit ofs => Sys2Proof.Machine.execKsramSingleBit ofs s
  | .pllUnlock p => Sys2Proof.Machine.execPllUnlock p s
  | .pllLock p => Sys2Proof.Machine.execPllLock p s
  | .ckrefLoss => Sys2Proof.Machine.execCkrefLoss s
  | .ckrefReturn => Sys2Proof.Machine.execCkrefReturn s
  | .clkResume m v => Sys2Proof.Machine.execClkResume m v s
  | .pixrampResume m => Sys2Proof.Machine.execPixrampResume m s
  | .cpuDivWrite m v => Sys2Proof.Machine.execCpuDivWrite m v s
  | .ao32Stop => Sys2Proof.Machine.execAo32Stop s
  | .rampSegmentEnd => Sys2Proof.Machine.execRampSegmentEnd s
  | .prCtrlWrite m v => Sys2Proof.Machine.execPrCtrlWrite m v s
  | .bdEdgeAccept edge mons => Sys2Proof.Machine.execBdEdgeAccept edge mons s
  | .bdEdgeExtra => Sys2Proof.Machine.execBdEdgeExtra s
  | .bdCheckTimeout => Sys2Proof.Machine.execBdCheckTimeout s
  | .bdGateClose => Sys2Proof.Machine.execBdGateClose s
  | .acqPulseStart => Sys2Proof.Machine.execAcqPulseStart s
  | .lineDueCheck => Sys2Proof.Machine.execLineDueCheck s
  | .ldilFall => Sys2Proof.Machine.execLdilFall s
  | .diagLaserPulse b => Sys2Proof.Machine.execDiagLaserPulse b s
  | .beamEnWrite m v => Sys2Proof.Machine.execBeamEnWrite m v s
  | .videoEnWrite m v => Sys2Proof.Machine.execVideoEnWrite m v s
  | .videoBurstDone => Sys2Proof.Machine.execVideoBurstDone s
  | .videoBurstError => Sys2Proof.Machine.execVideoBurstError s
  | .motStart m k => Sys2Proof.Machine.execMotStart m k s
  | .motStop m k mode => Sys2Proof.Machine.execMotStop m k mode s
  | .speedRegTick k rpm delta inputs => Sys2Proof.Machine.execSpeedRegTick k rpm delta inputs s
  | .alignDone k => Sys2Proof.Machine.execAlignDone k s
  | .learnDone k cpr => Sys2Proof.Machine.execLearnDone k cpr s
  | .zEdgeMisplaced k => Sys2Proof.Machine.execZEdgeMisplaced k s
  | .encoderAbError k => Sys2Proof.Machine.execEncoderAbError k s
  | .resolverOutOfRange k => Sys2Proof.Machine.execResolverOutOfRange k s
  | .stallDetected k => Sys2Proof.Machine.execStallDetected k s
  | .bootstrapLow k leg => Sys2Proof.Machine.execBootstrapLow k leg s
  | .highSideMaxOn k leg => Sys2Proof.Machine.execHighSideMaxOn k leg s
  | .bootstrapRefreshEnd k leg => Sys2Proof.Machine.execBootstrapRefreshEnd k leg s
  | .brakeEntry k => Sys2Proof.Machine.execBrakeEntry k s
  | .brakeToOff k => Sys2Proof.Machine.execBrakeToOff k s
  | .atSpeedLoss k => Sys2Proof.Machine.execAtSpeedLoss k s
  | .cmdPinStuck k => Sys2Proof.Machine.execCmdPinStuck k s
  | .mediaJamDetect k => Sys2Proof.Machine.execMediaJamDetect k s
  | .hdieVinSample mv => Sys2Proof.Machine.execHdieVinSample mv s
  | .loopSlotSample n => Sys2Proof.Machine.execLoopSlotSample n s
  | .leCommitGo m => Sys2Proof.Machine.execLeCommitGo m s
  | .scheduleApply => Sys2Proof.Machine.execScheduleApply s
  | .loopDwellExpire n => Sys2Proof.Machine.execLoopDwellExpire n s
  | .heaterPeriodStart h => Sys2Proof.Machine.execHeaterPeriodStart h s
  | .heaterConductionEnd h mean => Sys2Proof.Machine.execHeaterConductionEnd h mean s
  | .syEvaluation meas => Sys2Proof.Machine.execSyEvaluation meas s
  | .throttleDwellExpire t => Sys2Proof.Machine.execThrottleDwellExpire t s
  | .sensorDisagreeSet t => Sys2Proof.Machine.execSensorDisagreeSet t s
  | .sensorDisagreeClear t => Sys2Proof.Machine.execSensorDisagreeClear t s
  | .tsSample readings => Sys2Proof.Machine.execTsSample readings s
  | .syEnable m v => Sys2Proof.Machine.execSyEnable m v s
  | .forecastGo m => Sys2Proof.Machine.execForecastGo m s
  | .forecastDone => Sys2Proof.Machine.execForecastDone s
  | .hdieHotCross above => Sys2Proof.Machine.execHdieHotCross above s
  | .tlCommitOp m rsvOk => Sys2Proof.Machine.execTlCommitOp m rsvOk s
  | .tlCommitDone ok => Sys2Proof.Machine.execTlCommitDone ok s
  | .tillStopped => Sys2Proof.Machine.execTillStopped s
  | .tlReleaseOp m rsvOk => Sys2Proof.Machine.execTlReleaseOp m rsvOk s
  | .tlReleaseDone => Sys2Proof.Machine.execTlReleaseDone s
  | .tlScanOp m => Sys2Proof.Machine.execTlScanOp m s
  | .tlScanDone => Sys2Proof.Machine.execTlScanDone s
  | .chainBreakFound => Sys2Proof.Machine.execChainBreakFound s
  | .chainWalkDone => Sys2Proof.Machine.execChainWalkDone s
  | .pairLoRead m addr => Sys2Proof.Machine.execPairLoRead m addr s
  | .timeSnapGo m => Sys2Proof.Machine.execTimeSnapGo m s
  | .timeApplyGo m => Sys2Proof.Machine.execTimeApplyGo m s
  | .timeApplyEdge => Sys2Proof.Machine.execTimeApplyEdge s
  | .timeLostClrGo m => Sys2Proof.Machine.execTimeLostClrGo m s
  | .rtcSecond => Sys2Proof.Machine.execRtcSecond s
  | .rtcAlarmFire => Sys2Proof.Machine.execRtcAlarmFire s
  | .vretCross => Sys2Proof.Machine.execVretCross s
  | .bkpPowerOn => Sys2Proof.Machine.execBkpPowerOn s
  | .shaStart m v => Sys2Proof.Machine.execShaStart m v s
  | .shaData m v => Sys2Proof.Machine.execShaData m v s
  | .shaFinal m v => Sys2Proof.Machine.execShaFinal m v s
  | .shaDone => Sys2Proof.Machine.execShaDone s
  | .sign m => Sys2Proof.Machine.execSign m s
  | .verify m => Sys2Proof.Machine.execVerify m s
  | .signDone => Sys2Proof.Machine.execSignDone s
  | .mextGo m v => Sys2Proof.Machine.execMextGo m v s
  | .cboClean h addr => Sys2Proof.Machine.execCboClean h addr s
  | .cboFlush h addr => Sys2Proof.Machine.execCboFlush h addr s
  | .cboInval h addr => Sys2Proof.Machine.execCboInval h addr s
  | .l2CleanAll m => Sys2Proof.Machine.execL2CleanAll m s
  | .l2FlushAll m => Sys2Proof.Machine.execL2FlushAll m s
  | .l2InvalAll m => Sys2Proof.Machine.execL2InvalAll m s
  | .l2MaintDone => Sys2Proof.Machine.execL2MaintDone s
  | .l2CntClr m v => Sys2Proof.Machine.execL2CntClr m v s
  | .coherenceTurn bank reqs => Sys2Proof.Machine.execCoherenceTurn bank reqs s
  | .wheelSlot reqs => Sys2Proof.Machine.execWheelSlot reqs s
  | .allotmentApply => Sys2Proof.Machine.execAllotmentApply s
  | .fabCntClr m v => Sys2Proof.Machine.execFabCntClr m v s
  | .drCntClr m v => Sys2Proof.Machine.execDrCntClr m v s
  | .dramRefresh => Sys2Proof.Machine.execDramRefresh s
  | .dramTrainDone ok => Sys2Proof.Machine.execDramTrainDone ok s
  | .licLevelChange => Sys2Proof.Machine.execLicLevelChange s
  | .ctxEnter m app c id => Sys2Proof.Machine.execCtxEnter m app c id s
  | .ctxExit m app c v => Sys2Proof.Machine.execCtxExit m app c v s
  | .licSwiSet m app v => Sys2Proof.Machine.execLicSwiSet m app v s
  | .licSwiClear m app v => Sys2Proof.Machine.execLicSwiClear m app v s
  | .mtimecmpWrite m app h hi v => Sys2Proof.Machine.execMtimecmpWrite m app h hi v s
  | .mtimerFire app h => Sys2Proof.Machine.execMtimerFire app h s
  | .barrowStart m app ch v => Sys2Proof.Machine.execBarrowStart m app ch v s
  | .barrowStop m app ch v => Sys2Proof.Machine.execBarrowStop m app ch v s
  | .bwStopall m app v => Sys2Proof.Machine.execBwStopall m app v s
  | .barrowRequestDone app ch => Sys2Proof.Machine.execBarrowRequestDone app ch s
  | .barrowErrorResponse app ch onWrite => Sys2Proof.Machine.execBarrowErrorResponse app ch onWrite s
  | .outValWrite m b v => Sys2Proof.Machine.execOutValWrite m b v s
  | .outSet m b v => Sys2Proof.Machine.execOutSet m b v s
  | .outClr m b v => Sys2Proof.Machine.execOutClr m b v s
  | .outTgl m b v => Sys2Proof.Machine.execOutTgl m b v s
  | .lockKeyWrite m b v => Sys2Proof.Machine.execLockKeyWrite m b v s
  | .lockMaskWrite m b v => Sys2Proof.Machine.execLockMaskWrite m b v s
  | .gpioPinChange b pin level => Sys2Proof.Machine.execGpioPinChange b pin level s
  | .wakePin => Sys2Proof.Machine.execWakePin s
  | .spiCtrlWrite m idx v => Sys2Proof.Machine.execSpiCtrlWrite m idx v s
  | .spiTxWrite m idx v => Sys2Proof.Machine.execSpiTxWrite m idx v s
  | .spiRxRead m idx => Sys2Proof.Machine.execSpiRxRead m idx s
  | .spiGo m idx v => Sys2Proof.Machine.execSpiGo m idx v s
  | .spiRawDone idx rx => Sys2Proof.Machine.execSpiRawDone idx rx s
  | .spiSafeFrameDone idx rx bits => Sys2Proof.Machine.execSpiSafeFrameDone idx rx bits s
  | .hspiWriteReq cs alive ofs data => Sys2Proof.Machine.execHspiWriteReq cs alive ofs data s
  | .hspiReadRpl cs alive ofs count => Sys2Proof.Machine.execHspiReadRpl cs alive ofs count s
  | .hspiDoorbell cs alive v => Sys2Proof.Machine.execHspiDoorbell cs alive v s
  | .hspiRegRead ofs => Sys2Proof.Machine.execHspiRegRead ofs s
  | .hspiRegWrite ofs v => Sys2Proof.Machine.execHspiRegWrite ofs v s
  | .hspiNop cs alive => Sys2Proof.Machine.execHspiNop cs alive s
  | .hspiBadFrame cs => Sys2Proof.Machine.execHspiBadFrame cs s
  | .hspiClash => Sys2Proof.Machine.execHspiClash s
  | .hsCfgApply => Sys2Proof.Machine.execHsCfgApply s
  | .hspiWake => Sys2Proof.Machine.execHspiWake s
  | .ethCtrlWrite m idx v => Sys2Proof.Machine.execEthCtrlWrite m idx v s
  | .ethTxFrame idx => Sys2Proof.Machine.execEthTxFrame idx s
  | .ethRxFrame idx frame fcsOk => Sys2Proof.Machine.execEthRxFrame idx frame fcsOk s
  | .ethBusError idx rx => Sys2Proof.Machine.execEthBusError idx rx s
  | .ptpSet m idx => Sys2Proof.Machine.execPtpSet m idx s
  | .ptpStep m idx => Sys2Proof.Machine.execPtpStep m idx s
  | .ppsRise idx => Sys2Proof.Machine.execPpsRise idx s
  | .ppsFall idx => Sys2Proof.Machine.execPpsFall idx s
  | .tscapEdge idx => Sys2Proof.Machine.execTscapEdge idx s
  | .mdioFrame m idx v => Sys2Proof.Machine.execMdioFrame m idx v s
  | .mdioDone idx data => Sys2Proof.Machine.execMdioDone idx data s
  | .xsErase64k m => Sys2Proof.Machine.execXsErase64k m s
  | .xsProgram m => Sys2Proof.Machine.execXsProgram m s
  | .xsOpDone ok => Sys2Proof.Machine.execXsOpDone ok s
  | .xsReadSuspend => Sys2Proof.Machine.execXsReadSuspend s
  | .trcClr m v => Sys2Proof.Machine.execTrcClr m v s
  | .dmiAccessRegister m cmd => Sys2Proof.Machine.execDmiAccessRegister m cmd s
  | .dmiAccessMemory m cmd => Sys2Proof.Machine.execDmiAccessMemory m cmd s
  | .registerWrite m addr size v => Sys2Proof.Machine.execRegisterWrite m addr size v s
  | .ldilRise => Sys2Proof.Machine.execLdilRise s
  | .bdGateOpen => Sys2Proof.Machine.execBdGateOpen s
  | .acqPulseEnd => Sys2Proof.Machine.execAcqPulseEnd s
  | .ckAo32Restart => Sys2Proof.Machine.execCkAo32Restart s
  | .vddAoInvalid => Sys2Proof.Machine.execVddAoInvalid s
  | .ckPwmCycle k shunts => Sys2Proof.Machine.execCkPwmCycle k shunts s
  | .hvEnvelopeInhibit c on => Sys2Proof.Machine.execHvEnvelopeInhibit c on s

end Sys2Proof.Machine
end

