-- ==== Sys2Proof/Safety.lean ====
section
/-! DEFINITION. The terms in which claims are stated: the invariant that every step keeps, when the fabric grants an access,
when Sinov executes a frame, when a raise of a fault takes no action at once, and what a command leaves as it was. -/

namespace Sys2Proof.Machine

/-! ## The invariant -/

/-- A sound state: memory stands in its canonical form (log 7). -/
def Sound (s : State) : Prop := s.mem.wf = true

/-! ## Frames -/

/-- Every byte of memory reads as before. -/
def MemSame (s t : State) : Prop := ∀ a : Nat, memByte t a = memByte s a

/-- Every byte of memory outside [lo, lo + n) reads as before. -/
def MemSameBut (lo n : Nat) (s t : State) : Prop := ∀ a : Nat, a < lo ∨ lo + n ≤ a → memByte t a = memByte s a

/-- Every counter but n is as before. -/
def OtherCounters (n : Fin 8) (s t : State) : Prop := ∀ k : Fin 8, k ≠ n → t.counters[k] = s.counters[k]

/-- CNT_STALE does not come up where counter n leaves POSTED: it is present, or no other counter is STALE (R98). -/
def StaleSteady (n : Fin 8) (s : State) : Prop :=
  s.hub.present.getLsbD 0xC2 = true ∨ ∀ k : Fin 8, k ≠ n → s.counters[k].stale = false

/-! ## Register accesses (R3-R5, R16-R18, R83, R226, R505-R508) -/

/-- The fabric grants a write and the offset holds a register: the bank is in reach of the master (R17, R506), its domain
is on (R505), its block is not in a BLOCK reset (R226), the register takes this master's writes (R83, R508), and the mode is
SERVICE if it holds an SL field (R4). -/
def Granted (m : Master) (bank off : Nat) (v : Word) (s : State) : Prop :=
  writeVerdict m bank off v s = .go ∧ regExists bank off = true

/-- The fabric grants a read, and no copy of the register is held for the master (R9). -/
def ReadGranted (m : Master) (bank off : Nat) (s : State) : Prop :=
  readVerdict m bank off s = .go ∧ heldCopy m bank off s = none

/-! ## Command frames (R95, R113-R116) -/

/-- Sinov executes the frame of counter n, a command `code`: the frame is ready, Sinov runs and follows no torn record up
(R366), and the mode lists the command (R113-R115), as does the minimal service set where it alone is offered, which takes it
through C4 and C6 only (R32). -/
def Executes (code : Nat) (n : Fin 8) (s : State) : Prop :=
  frameReady s n = true ∧ reqCmd s.counters[n] = code ∧ sinovRuns s = true ∧ tornGap s = false ∧
    ∃ r, cmdRow code = some r ∧ (minimalSet s = true → r.min = true ∧ minCounter n = true) ∧ modeOk code r s = true

/-- The payload of counter n's request. -/
def payload (s : State) (n : Fin 8) : List Byte := reqPayload s.counters[n]

/-- The counters of s with counter n answered: a status, a PROGRESS value, a payload. The frame is done with, the reply is
stored for the replay match (R99), and the RPL bytes show it while the counter is TAKEN (R84, R86). -/
def afterReply (n : Fin 8) (st : Status) (progress : BitVec 16) (p : List Byte) (s : State) : Vector Counter 8 :=
  let c := s.counters[n]
  let r := replyFrame c (frameWaited c) false st.code progress p
  s.counters.set n { c with
    frame := .none
    stored := some { tag := reqTag c, crc := matchCrc c, reply := r }
    rpl := if c.stage = .taken then Vector.ofFn fun i => (r[i.val]?).getD c.rpl[i] else c.rpl }

/-- Counter n is answered with a status, a PROGRESS value and a payload, and nothing else changes. -/
def Answered (n : Fin 8) (st : Status) (progress : BitVec 16) (p : List Byte) (s t : State) : Prop :=
  t = { s with counters := afterReply n st progress p s }

/-- Counter n's frame executes on, its reply to come. -/
def Running (n : Fin 8) (s t : State) : Prop :=
  t.counters = s.counters.set n { s.counters[n] with frame := .running (frameWaited s.counters[n]) }

/-- Sinov wants one record more, of counter n's command: of this type, with the frame's HOST_WORD and this body (R360). -/
def AsksRecord (n : Fin 8) (typ : BitVec 16) (body : List Byte) (w : Want) (s t : State) : Prop :=
  t.sinov.wants = s.sinov.wants ++ [w] ∧ w.typ = typ ∧ w.body = body ∧ w.counter = BitVec.ofNat 8 n.val ∧
    w.hostWord = reqHost s.counters[n]

/-- An admission in hand has ended, and with it the reservation of its records (R59, R122); TILL_FULL may be present no
longer (R367). -/
def Lapsed (s t : State) : Prop :=
  t.sinov.admission = none ∧ (s.sinov.admission = none → t.till = s.till ∧ t.hub.present = s.hub.present) ∧
    (s.sinov.admission ≠ none → t.till = { s.till with rsv := 0 }) ∧
    (t.hub.present = s.hub.present ∨ t.hub.present = setBit s.hub.present 0xE2 false)

/-- More records are free than a page's pair, once the engine knows its pointers: TILL_FULL is not present (R367). -/
def TillRoom (s : State) : Prop := s.till.scanned = true → 2 < tillFree s.till ∧ s.till.rsv.toNat ≤ 2

/-- Nothing has changed but the counters, what Sinov holds, and the end of an admission. -/
def StoredOnly (s t : State) : Prop :=
  Lapsed s t ∧ t = { s with
    counters := t.counters, sinov := t.sinov, till := t.till, hub := { s.hub with present := t.hub.present } }

/-- Nothing has changed but the SPI ports and the edge events of bank 0, whose pins they drive (R442, R448). -/
def PortOnly (s t : State) : Prop :=
  t = { s with spim := t.spim, gpio := s.gpio.set 0 { s.gpio[0] with evt := t.gpio[0].evt }, freeCtr := t.freeCtr }

/-! ## Faults (R153-R157) -/

/-- A raise of fault f begins no escalation action: it is RAISED already, or its class is not IMMEDIATE. -/
def NoAction (f : Byte) (s : State) : Prop :=
  s.hub.raised.getLsbD f.toNat = true ∨ (bits (s.hub.cfg[f.toNat]?.getD 0) 0 2 : BitVec 2).toNat < 2

/-- A raise of fault f takes no action at once: it begins no escalation, and it spoils no page. -/
def Mild (f : Byte) (s : State) : Prop :=
  NoAction f s ∧ (spoilsAtOnce f true = true → pageInFlight s = false)

/-- The page of s, ARMED there, stands SPOILED in t by fault f: the outcome is the fault's or the jam's, and the lines written
so far stand (R66, R69). -/
def SpoiledBy (f : Byte) (s t : State) : Prop :=
  t.docket.st = .spoiled ∧ t.docket.outcome = (if f = 0x92 then 4 else 2) ∧ t.docket.spoilFault = f ∧
    t.docket.faultValid = true ∧ t.docket.written = s.docket.written ∧ t.docket.planned = s.docket.planned ∧
    (∀ b : Fin 4, t.beam.ld[b].lit = false) ∧ (∀ h : Fin 2, t.fuser.htr[h].on = false) ∧
    t.counters = s.counters ∧ MemSame s t

/-- Fault f stands RAISED and not acknowledged. -/
def Stands (f : Byte) (t : State) : Prop := t.hub.raised.getLsbD f.toNat = true ∧ t.hub.unack.getLsbD f.toNat = true

/-- From s to t fault f is raised, and no action is taken at once: it stands, the hub records it, and the admission in hand
may lapse (R153, R155). Nothing else changes. -/
def RaisedOnly (f : Byte) (s t : State) : Prop :=
  Stands f t ∧ t.hub.raised = setBit s.hub.raised f.toNat true ∧ t.hub.unack = setBit s.hub.unack f.toNat true ∧
    (t.hub.present = s.hub.present ∨ t.hub.present = setBit s.hub.present 0xE2 false) ∧ t.hub.cfg = s.hub.cfg ∧
    t = { s with
      hub := t.hub
      sinov := { s.sinov with admission := t.sinov.admission, admitWait := t.sinov.admitWait }
      till := { s.till with rsv := t.till.rsv } }

/-- From s to t a rise of the condition of level source f raises it, and no action is taken at once. -/
def RisesOnly (f : Byte) (s t : State) : Prop :=
  RaisedOnly f { s with hub := { s.hub with present := setBit s.hub.present f.toNat true } } t

/-- s with the condition of level source f gone. -/
def Falls (f : Byte) (s : State) : State :=
  { s with hub := { s.hub with present := setBit s.hub.present f.toNat false } }

/-- The engine outputs are cut: every laser unlit, every heater off, DUMP off, every motor's gates off (R150, R186). -/
def OutputsCut (t : State) : Prop :=
  (∀ b : Fin 4, t.beam.ld[b].lit = false) ∧ (∀ h : Fin 2, t.fuser.htr[h].on = false) ∧ t.hdie.dump = false ∧
    ∀ k : Fin 6, ∀ x : Fin 3, t.motors[k].legs[x].hi = false ∧ t.motors[k].legs[x].lo = false

/-! ## Resets (R208, R213) -/

/-- A reset of the Keeper with a cause code and kind has asserted: RST_CAUSE, RST_COUNT and RST_TIME are written, ENG_HOLD
asserts, a page in flight is closed, an ARMED one with RESET_CLOSED, the logic is at its reset values, and the fault hub's
latches, the option values and the RTC are kept. Of several causes in one cycle one is counted (R209). -/
def ResetDone (code : Byte) (kind : BitVec 2) (s t : State) : Prop :=
  t.rst.cause = code ∧ t.rst.kind = kind ∧ t.rst.count = (if s.rst.fresh = true then s.rst.count else satInc s.rst.count) ∧ t.rst.time = rtcNow s ∧
    t.rst.engHold = true ∧ t.sys.mode = 0 ∧ t.counters = s.counters.map (fun c => Counter.reset c.rank) ∧
    t.motors = Vector.replicate 6 Motor.reset ∧ t.beam = { BeamUnit.reset with intlk := s.beam.intlk } ∧
    t.hub.raised = s.hub.raised ∧ t.hub.unack = s.hub.unack ∧ t.optshd = s.optshd ∧ t.rtc = s.rtc ∧
    (pageInFlight s = true → t.docket.st = .closed ∧ t.docket.blanked = s.docket.planned - s.docket.written) ∧
    (s.docket.st = .armed → t.docket.flags.getLsbD 2 = true)

/-- A cause of kind 1 (SYSTEM) or 2 (WARM) asserts and performs its reset (R209): it is not weaker than a reset that has not
released the Keeper, the sequencer has not shut off, and no cause of the same kind has asserted in this very cycle. -/
def Asserts (kind : Nat) (s : State) : Prop :=
  assertable kind s = true ∧ ¬ (s.rst.fresh = true ∧ releasing s = true ∧ s.rst.kind.toNat = kind)

/-- A SYSTEM reset: every rail and every domain but AO and BKP off as well, DEVTIME from 0 (R208, R211). -/
def SystemReset (code : Byte) (s t : State) : Prop :=
  ResetDone code 1 s t ∧ t.ps.on = 3 ∧ (∀ r : Fin 12, t.ps.rails[r] = .off) ∧ t.devtime = 0 ∧
    (s.rst.step ≠ .loaderFail ∨ code = 0x03 → t.rst.step = .off) ∧ t.ps.nPFW = false ∧
    t.envg.loaded = false ∧ t.envg.locked = false

/-- A WARM reset: the envelope and DEVTIME are kept (R208). -/
def WarmReset (code : Byte) (s t : State) : Prop :=
  ResetDone code 2 s t ∧ t.devtime = s.devtime ∧ t.envg.shadow = s.envg.shadow ∧ t.envg.loaded = s.envg.loaded

end Sys2Proof.Machine
end

