-- ==== Sys2Proof/Certificates/Slice0/Obligations.lean ====
section
/-! DEFINITION. The statements for the provers. Each says what a command does, with its frame, or a rule of the whole
device. `Granted`, `Executes`, `Answered`, `Stands` and the frames are those of Safety.lean. -/

open Sys2Proof Sys2Proof.Machine

/-! ## The queue and the machine as a whole -/

/-- A step runs the command at the front of the queue on the state with the queue's rest. Where the spec leaves it
open, this rests on the model's choices of log 11 (the queue). -/
def Obligations.StepRunsFront : Prop :=
  ∀ (c : Instr) (cs : List Instr) (s : State),
    step { s with pending := c :: cs } = exec c { s with pending := cs }

/-- Every command completes from every state, and leaves the queue as it was. Where the spec leaves it open, this
rests on the model's choices of log 16 (an event row whose condition does not stand changes nothing). -/
def Obligations.EveryCommandCompletes : Prop :=
  ∀ (c : Instr) (s : State), ∃ t, exec c s = .next t ∧ t.pending = s.pending

/-- Every step from a sound state leads to a sound state: memory keeps its canonical form. Where the spec leaves it
open, this rests on the model's choices of log 7 (what an unlisted byte reads as). -/
def Obligations.StepsKeepSound : Prop :=
  ∀ s t : State, Sound s → step s = .next t → Sound t

/-- The state after reset is sound and its queue is empty. Where the spec leaves it open, this rests on the model's
choices of logs 7 and 11. -/
def Obligations.ResetSound : Prop := Sound State.reset ∧ State.reset.pending = []

/-! ## Counters (R82-R111) -/

/-- RING posts an IDLE or DONE counter's request, with STAMP and LAST_TAG; on a POSTED or TAKEN one it only sets
RING_LOST. ABANDON withdraws a POSTED request, ACK ends a DONE one. CNT_DONE hands a TAKEN counter's reply over, and a
read of CNT_FERR clears it. No other counter and no byte of memory changes. -/
def Obligations.DoorbellsMoveTheCounter : Prop :=
  (∀ (m : Master) (n : Fin 8) (v : Word) (s : State),
    Granted m 0x08 (0x400 * n.val + 0x200) (v ||| 1) s → bit v 1 = false →
    (s.counters[n].stage = .idle ∨ s.counters[n].stage = .done) →
    exec (.ring m n v) s = .next { s with counters := s.counters.set n { s.counters[n] with
      stage := .posted, stamp := s.devtime, lastTag := s.counters[n].req[2] } }) ∧
  (∀ (m : Master) (n : Fin 8) (v : Word) (s : State),
    Granted m 0x08 (0x400 * n.val + 0x200) (v ||| 1) s → bit v 1 = false →
    (s.counters[n].stage = .posted ∨ s.counters[n].stage = .taken) →
    exec (.ring m n v) s = .next { s with counters := s.counters.set n { s.counters[n] with ringLost := true } }) ∧
  (∀ (m : Master) (n : Fin 8) (s : State),
    Granted m 0x08 (0x400 * n.val + 0x200) 2 s → s.counters[n].stage = .posted → StaleSteady n s →
    exec (.abandon m n 0) s = .next { s with
      counters := s.counters.set n { s.counters[n] with stage := .idle, stale := false },
      hub := { s.hub with
        present := setBit s.hub.present 0xC2 ((List.finRange 8).any fun k => k ≠ n && s.counters[k].stale) } }) ∧
  (∀ (m : Master) (n : Fin 8) (v : Word) (s : State),
    Granted m 0x08 (0x400 * n.val + 0x200) (v ||| 4) s → bit v 0 = false → bit v 1 = false →
    s.counters[n].stage = .done →
    exec (.ack m n v) s = .next { s with counters := s.counters.set n { s.counters[n] with stage := .idle } }) ∧
  (∀ (m : Master) (n : Fin 8) (s : State),
    Granted m 0x08 0x2008 (BitVec.twoPow 32 n.val) s → s.counters[n].stage = .taken →
    exec (.cntDone m n) s = .next { s with counters := s.counters.set n { s.counters[n] with stage := .done } }) ∧
  (∀ (m : Master) (n : Fin 8) (s : State),
    ReadGranted m 0x08 (0x400 * n.val + 0x218) s →
    exec (.cntFerrRead m n) s = .next { s with counters := s.counters.set n { s.counters[n] with ferr := 0 } })

/-- The Keeper's TAKE of the counter that Sinov serves next moves it to TAKEN and clears STALE; a frame that fails the
checks is answered FRAME_ERR and counted in CNT_FERR. A counter POSTED too long turns STALE and stays POSTED, and
CNT_STALE stands. The eighth bad frame in a row raises CNT_BAD_FRAMES. A conflict window closes: its winner becomes
ready with WAITED, and a member that lost gets CONFLICT. Where the spec leaves it open, this rests on the model's
choices of log 49 (which counter is taken). -/
def Obligations.CountersAreServed : Prop :=
  (∀ (m : Master) (n : Fin 8) (s : State),
    Granted m 0x08 0x2004 (BitVec.twoPow 32 n.val) s → takesFrames s = true → servedNext s n = true →
    StaleSteady n s →
    ∃ t, exec (.cntTake m n) s = .next t ∧ t.counters[n].stage = .taken ∧ t.counters[n].stale = false ∧
      OtherCounters n s t ∧ MemSame s t ∧
      (frameOk n s.counters[n] = false →
        t.counters[n].ferr = satInc s.counters[n].ferr ∧ t.counters[n].frame = .none ∧
        t.counters[n].rpl = Vector.ofFn fun i =>
          ((replyFrame s.counters[n] false false 0x0007 0 [])[i.val]?).getD s.counters[n].rpl[i])) ∧
  (∀ (n : Fin 8) (s : State), s.counters[n].stage = .posted → s.counters[n].stale = false → Mild 0xC2 s →
    ∃ t, exec (.counterStale n) s = .next t ∧ t.counters = s.counters.set n { s.counters[n] with stale := true } ∧
      MemSame s t ∧ (s.hub.present.getLsbD 0xC2 = false → Stands 0xC2 t)) ∧
  (∀ (n : Fin 8) (s : State), s.counters[n].badDue = true →
    ∃ t, exec (.cntBadFrames n) s = .next t ∧ Stands 0xC3 t ∧
      (Mild 0xC3 s → MemSame s t ∧ t.counters = s.counters.set n { s.counters[n] with badDue := false })) ∧
  (∀ (r : Resource) (w : Window) (a b : Fin 8) (s : State),
    s.windows.find? (fun w => w.res = r) = some w → winner s w.members = some a → w.members.Nodup → b ∈ w.members → b ≠ a →
    ∃ t, exec (.conflictWindowClose r) s = .next t ∧ t = { s with counters := t.counters, windows := t.windows, sinov := { s.sinov with closedAt := s.sinov.closedAt.set a w.endsAt } } ∧
      t.windows = s.windows.filter (fun w => w.res ≠ r) ∧ (∀ c : Fin 8, c ∉ w.members → t.counters[c] = s.counters[c]) ∧
      t.counters[a] = { s.counters[a] with frame := .ready true } ∧
      t.counters[b].frame = .none ∧ t.counters[b].stage = s.counters[b].stage ∧
      t.counters[b].stored.map (·.reply) =
        some (replyFrame s.counters[b] (frameWaited s.counters[b]) false 0x0002 0 []))

/-- A frame on C7 that passes the checks is answered OK with its command code, tag and payload, is never executed,
opens no window and is not stored for the replay match. -/
def Obligations.SharedCounterEchoes : Prop :=
  ∀ (m : Master) (s : State),
    Granted m 0x08 0x2004 0x80 s → takesFrames s = true → servedNext s 7 = true → frameOk 7 s.counters[7] = true →
    StaleSteady 7 s →
    ∃ t, exec (.cntTake m 7) s = .next t ∧ t.windows = s.windows ∧ t.counters[(7 : Fin 8)].stored = s.counters[(7 : Fin 8)].stored ∧
      t.counters[(7 : Fin 8)].frame = .none ∧ t.sinov = s.sinov ∧
      ((List.range 256).take (16 + reqLen s.counters[(7 : Fin 8)])).map (fun i => t.counters[(7 : Fin 8)].rpl[i]?.getD 0) =
        replyFrame s.counters[(7 : Fin 8)] false false 0 0 (payload s 7)
/-! ## Command frames: queries (04) -/

/-- The query commands, with LEN and arguments in range, are answered OK with these payloads, byte for byte, and change
nothing but their counter's reply: GET_INFO, GET_MODE, GET_RESET_CAUSE, GET_RAILS, GET_FAULTS, TILL_STATUS, GET_STEELYARD,
TILL_READ (the half of a record at or below NEXT with its RSTATE, zeros for one released or not written), MEASURE_GET,
DIAG_READ and QUOTE (208 bytes: DGQ1 to the digest of the measurements chosen, then their signature); TIME_GET takes
its snapshot as well and answers it. Where the spec leaves it open, this rests on the model's choices of logs 5 and 19
(identification, digests, signatures). -/
def Obligations.QueriesAreAnswered : Prop :=
  ((∀ (n : Fin 8) (s : State), Executes 0x0100 n s → payload s n = [] →
    ∃ t, exec (.getInfo n) s = .next t ∧ Answered n .ok 0 ([0x60, 0x48] ++ toLe Config.dieRev 2
      ++ toLe (0x0003_0200 : Word) 4 ++ toLe Config.deviceId 8
      ++ [if Config.gradeC then 1 else 0, s.rst.optState.setWidth 8, if s.sys.minset then 1 else 0, s.xspi.kslot.setWidth 8]
      ++ toLe (optSeq (optRec s)) 4 ++ digestBytes s.sinov.digest) s t) ∧
  (∀ (n : Fin 8) (s : State), Executes 0x0101 n s → payload s n = [] →
    ∃ (t : State) (sub k : Byte) (h : BitVec 16), exec (.getMode n) s = .next t ∧
      Answered n .ok 0 ([s.sys.mode.setWidth 8, sub] ++ toLe h 2 ++ [k, 0, 0, 0]) s t ∧
      sub.getLsbD 0 = pageInFlight s ∧ sub.getLsbD 1 = (decide (s.sys.mode = 3) && !pageInFlight s) ∧
      sub.getLsbD 2 = s.sinov.admission.isSome ∧ sub.getLsbD 3 = decide (s.rst.applied = 2) ∧
      sub.getLsbD 4 = s.sinov.diag.toList.any (·.isSome) ∧ sub.toNat < 32 ∧
      (∀ a : Admission, (if pageInFlight s then s.sinov.page else s.sinov.admission) = some a →
        h = a.handle ∧ k = BitVec.ofNat 8 a.counter.val) ∧
      ((if pageInFlight s then s.sinov.page else s.sinov.admission) = none → h = 0 ∧ k = 0xFF)) ∧
  (∀ (n : Fin 8) (s : State), Executes 0x0106 n s → payload s n = [] →
    ∃ t, exec (.getResetCause n) s = .next t ∧ Answered n .ok 0
      ([s.rst.cause, s.rst.kind.setWidth 8, 0, 0] ++ toLe s.rst.time 6 ++ [0, 0] ++ toLe s.rst.count 4) s t) ∧
  (∀ (n : Fin 8) (s : State), Executes 0x0500 n s → payload s n = [] →
    ∃ (t : State) (rs : Vector Byte 12), exec (.getRails n) s = .next t ∧
      Answered n .ok 0 (toLe s.ps.on 7 ++ [0] ++ toLe s.ps.fail 7 ++ [0] ++ rs.toList ++ toLe s.ps.vin 2
        ++ toLe s.ps.vaux 2) s t ∧
      ∀ i : Fin 12, (s.ps.rails[i] = .off → rs[i] = 0) ∧ (s.ps.rails[i] = .ramping → rs[i] = 1) ∧
        (s.ps.rails[i] = .settling → rs[i] = 1) ∧ (s.ps.rails[i] = .good → rs[i] = 2) ∧
        (s.ps.rails[i] = .failed → rs[i] = 3)) ∧
  (∀ (n : Fin 8) (s : State), Executes 0x0600 n s → payload s n = [] →
    ∃ (t : State) (acc : Byte), exec (.getFaults n) s = .next t ∧
      Answered n .ok 0 (toLe s.hub.raised 32 ++ toLe s.hub.unack 32 ++ toLe s.hub.feAddr 5 ++ [0, 0, 0]
        ++ [s.hub.feMaster, acc, s.hub.feSource, 0] ++ toLe s.hub.feOver 4 ++ toLe s.hub.feTime 8) s t ∧
      acc.toNat = s.hub.feKind.toNat + 4 * s.hub.feSize.toNat) ∧
  (∀ (n : Fin 8) (s : State), Executes 0x0702 n s → payload s n = [] →
    ∃ (t : State) (fl : Byte), exec (.tillStatus n) s = .next t ∧
      Answered n .ok 0 (toLe s.till.head 8 ++ toLe s.till.oldest 8 ++ toLe (s.till.free.setWidth 32) 4
        ++ [s.till.rsv.setWidth 8, fl, 0, 0] ++ toLe s.till.torn 4 ++ [0, 0, 0, 0] ++ digestBytes s.till.chain) s t ∧
      fl.getLsbD 0 = decide (s.till.torn ≠ 0) ∧ fl.getLsbD 1 = s.sinov.omitted ∧ fl.getLsbD 2 = s.till.chainBreak ∧
      fl.toNat < 8)) ∧
  ((∀ (n : Fin 8) (s : State), Executes 0x0400 n s → payload s n = [] →
    ∃ (t : State) (cl : BitVec 16) (dis : Byte), exec (.getSteelyard n) s = .next t ∧
      Answered n .ok 0 ((s.sy.nodes.toList.flatMap fun x => toLe (BitVec.ofInt 16 (toCenti x.temp)) 2)
        ++ (s.sy.nodes.toList.flatMap fun x => toLe x.lim 2)
        ++ (s.sy.ts.toList.flatMap fun x => toLe (BitVec.ofInt 16 x.temp) 2) ++ toLe cl 2 ++ [dis, 0]
        ++ toLe s.sy.count 4) s t ∧
      (∀ i : Fin 12, cl.getLsbD i.val = decide (s.sy.thr[i].ceil < s.sy.thr[i].treq)) ∧ cl.toNat < 4096 ∧
      ∀ i : Fin 8, dis.getLsbD i.val = s.sy.ts[i].disagree) ∧
  (∀ (n : Fin 8) (s : State), Executes 0x0700 n s → (payload s n).length = 12 →
    fieldLe (payload s n) 8 1 < 2 → fieldLe (payload s n) 9 3 = 0 →
    ∃ t r bs, exec (.tillRead n) s = .next t ∧
      Answered n .ok 0 ([r, BitVec.ofNat 8 (fieldLe (payload s n) 8 1), 0, 0, 0, 0, 0, 0] ++ bs) s t ∧ bs.length = 128 ∧
      (fieldLe (payload s n) 0 8 < s.till.oldest.toNat → r = 2 ∧ bs = List.replicate 128 0) ∧
      (s.till.oldest.toNat ≤ fieldLe (payload s n) 0 8 → s.till.next.toNat ≤ fieldLe (payload s n) 0 8 →
        r = 3 ∧ bs = List.replicate 128 0) ∧
      (s.till.oldest.toNat ≤ fieldLe (payload s n) 0 8 → fieldLe (payload s n) 0 8 < s.till.next.toNat →
        r = (if committed (slotBytes s (fieldLe (payload s n) 0 8)) then 0 else 1) ∧
        bs = slice (slotBytes s (fieldLe (payload s n) 0 8)) (128 * fieldLe (payload s n) 8 1) 128)) ∧
  (∀ (n : Fin 8) (s : State) (a k : Nat), Executes 0x0900 n s → payload s n = [BitVec.ofNat 8 a, BitVec.ofNat 8 k, 0, 0] →
    1 ≤ k → a + k ≤ 8 → a < 8 → k < 8 →
    ∃ t, exec (.measureGet n) s = .next t ∧
      Answered n .ok 0 (((s.crypto.meas.toList.drop a).take k).flatMap digestBytes) s t) ∧
  (∀ (n : Fin 8) (s : State) (c : Fin 36), Executes 0x0B01 n s → payload s n = [BitVec.ofNat 8 c.val, 0, 0, 0] →
    ∃ t, exec (.diagRead n) s = .next t ∧ Answered n .ok 0 (toLe s.adc.val[c] 4
      ++ ([if c.val < 18 then 0x05 else if c.val < 26 then 0x06 else if c.val < 32 then 0x09 else 0x0A, 0, 0, 0] : List Byte)) s t) ∧
  (∀ (n : Fin 8) (s : State), Executes 0x0800 n s → payload s n = [] →
    ∃ t, exec (.timeGet n) s = .next t ∧
      t.rtc = { s.rtc with snapSec := s.rtc.sec, snapSub := s.rtc.sub, snapDt := s.devtime } ∧
      Answered n .ok 0 (toLe s.rtc.sec 6 ++ [0, 0] ++ toLe s.rtc.sub 2
        ++ [(if s.rtc.valid then 1 else 0) ||| (if s.rtc.lost then 2 else 0), 0, 0, 0, 0, 0] ++ toLe s.devtime 8)
        { s with rtc := t.rtc } t) ∧
  (∀ (n : Fin 8) (s : State) (mask : Byte), Executes 0x0901 n s → (payload s n).length = 36 →
    (payload s n).drop 32 = [mask, 0, 0, 0] → mask ≠ 0 →
    ∃ (t : State) (hd : List Byte), exec (.quote n) s = .next t ∧
      hd = ([0x44, 0x47, 0x51, 0x31, 1, 0, mask, s.sys.mode.setWidth 8] : List Byte) ++ toLe Config.deviceId 8
        ++ (payload s n).take 32 ++ toLe s.till.head 8 ++ digestBytes s.till.chain ++ toLe s.rtc.sec 6
        ++ ([(if s.rtc.valid then 1 else 0) ||| (if s.rtc.lost then 2 else 0), 0] : List Byte) ++ toLe s.devtime 8
        ++ toLe (0x0003_0200 : Word) 4 ++ toLe (optSeq (optRec s)) 4
        ++ sha256 ((List.finRange 8).flatMap fun i => if mask.getLsbD i.val then digestBytes s.crypto.meas[i] else []) ∧
      hd.length = 144 ∧
      Answered n .ok 0 (hd ++ bytesBe 32 (ecdsaSign Config.deviceKey (natBe (sha256 hd))).1
        ++ bytesBe 32 (ecdsaSign Config.deviceKey (natBe (sha256 hd))).2) s t))

/-- The general checks of a frame, on the queries: in the minimal service set a command that it does not list is
answered NOT_PERMITTED, a mode that does not list it BAD_MODE, a wrong LEN BAD_ARG, and nothing but the reply changes.
SEAL, UNSEAL and SLEEP, once their checks pass, ask for their record (types 3, 4 and 2) with the counter and HOST_WORD
of the frame and leave the mode until it commits; RESET is answered OK and notes the reset that is to follow. Where
the spec leaves it open, this rests on the model's choices of logs 22 and 49 (record bodies, order of checks). -/
def Obligations.FramesAreCheckedAndModesAsked : Prop :=
  ((∀ (n : Fin 8) (s : State), frameReady s n = true → reqCmd s.counters[n] = 0x0101 → sinovRuns s = true →
    tornGap s = false → minimalSet s = true →
    ∃ t, exec (.getMode n) s = .next t ∧ Answered n .notPermitted 0 [] s t) ∧
  (∀ (n : Fin 8) (s : State), frameReady s n = true → reqCmd s.counters[n] = 0x0102 → sinovRuns s = true →
    tornGap s = false → minimalSet s = false → s.sys.mode ≠ 1 →
    ∃ t, exec (.sealPlan n) s = .next t ∧ Answered n .badMode 0 [] s t) ∧
  (∀ (n : Fin 8) (s : State), frameReady s n = true → reqCmd s.counters[n] = 0x0103 → sinovRuns s = true →
    tornGap s = false → minimalSet s = false → s.sys.mode ≠ 2 →
    ∃ t, exec (.unsealPlan n) s = .next t ∧ Answered n .badMode 0 [] s t) ∧
  (∀ (n : Fin 8) (s : State), Executes 0x0101 n s → payload s n ≠ [] →
    ∃ t, exec (.getMode n) s = .next t ∧ Answered n .badArg 0 [] s t)) ∧
  ((∀ (n : Fin 8) (s : State), Executes 0x0102 n s → payload s n = [] → s.rst.applied ≠ 2 → graceClear s = true →
    (∀ o : Fin 16, s.sinov.diag[o] = none) → tillNone s = false →
    ∃ t w, exec (.sealPlan n) s = .next t ∧ t.sys = s.sys ∧ t.mem = s.mem ∧ t.sinov.wants = s.sinov.wants ++ [w] ∧
      w.typ = 3 ∧ w.counter = BitVec.ofNat 8 n.val ∧ w.hostWord = reqHost s.counters[n] ∧ w.cont = .toMode 2 n ∧
      t.counters[n].frame = .running (frameWaited s.counters[n]) ∧ OtherCounters n s t) ∧
  (∀ (n : Fin 8) (s : State), Executes 0x0103 n s → payload s n = [] → tillNone s = false →
    ∃ t w, exec (.unsealPlan n) s = .next t ∧ t = { s with counters := t.counters, sinov := t.sinov } ∧
      t.sinov.wants = s.sinov.wants ++ [w] ∧ w.typ = 4 ∧ w.counter = BitVec.ofNat 8 n.val ∧
      w.hostWord = reqHost s.counters[n] ∧
      w.cont = .unseal n (!optTokenReq (optRec s)) ∧
      t.counters[n].frame = .running (frameWaited s.counters[n]) ∧ OtherCounters n s t) ∧
  (∀ (n : Fin 8) (s : State) (wake : BitVec 3) (alarm : BitVec 48), Executes 0x0104 n s →
    payload s n = [wake.setWidth 8, 0] ++ toLe alarm 6 → wake ≠ 0 →
    (wake.getLsbD 0 = true → s.rtc.sec.toNat < alarm.toNat) → resBusy s n = false → tillNone s = false →
    ∃ t w, exec (.sleep n) s = .next t ∧ t = { s with counters := t.counters, sinov := t.sinov } ∧
      t.sinov.wants = s.sinov.wants ++ [w] ∧ w.typ = 2 ∧ w.counter = BitVec.ofNat 8 n.val ∧
      w.hostWord = reqHost s.counters[n] ∧ w.cont = .sleepAfter n wake alarm ∧
      t.counters[n].frame = .running (frameWaited s.counters[n]) ∧ OtherCounters n s t) ∧
  (∀ (n : Fin 8) (s : State) (k : BitVec 2), Executes 0x0105 n s → payload s n = [k.setWidth 8, 0, 0, 0] →
    (k = 1 ∨ k = 2) → resBusy s n = false →
    ∃ t, exec (.reset n) s = .next t ∧
      Answered n .ok 0 [] { s with sinov := { s.sinov with resetReq := some k } } t))

/-! ## Command frames: modes, faults, throttle, tables -/

/-- ACK_FAULT clears the fault's UNACK bit and nothing else. CLEAR_FAULT clears RAISED and stops the grace timer where
the condition is gone, and leaves UNACK; it is answered FAULT_PENDING while a level source is present, and in the cycle in
which the grace timer expires. SET_FAULT_CLASS
writes the fault's class, action and grace time. SET_THROTTLE sets the target's requested level and retry data.
SET_SHUTDOWN_TABLE replaces the whole table. Where the spec leaves it open, this rests on the model's choices of log
45 (classes). -/
def Obligations.HubAndTableCommands : Prop :=
  (∀ (n : Fin 8) (s : State) (f : Byte), Executes 0x0601 n s → payload s n = [f, 0, 0, 0] →
    (faultRow f.toNat 0).isSome = true → resBusy s n = false →
    ∃ t, exec (.ackFault n) s = .next t ∧
      Answered n .ok 0 [] { s with hub := { s.hub with unack := setBit s.hub.unack f.toNat false } } t) ∧
  (∀ (n : Fin 8) (s : State) (f : Byte), Executes 0x0602 n s → payload s n = [f, 0, 0, 0] →
    (faultRow f.toNat 0).isSome = true → resBusy s n = false → s.hub.raised.getLsbD f.toNat = true →
    faultPresent s f.toNat = false → expiryWins f.toNat s = false → tillNone s = false →
    ∃ t, exec (.clearFault n) s = .next t ∧ t.hub.raised = setBit s.hub.raised f.toNat false ∧
      t.hub.timing = setBit s.hub.timing f.toNat false ∧ t.hub.unack = s.hub.unack ∧ MemSame s t ∧ OtherCounters n s t) ∧
  (∀ (n : Fin 8) (s : State) (f : Byte), Executes 0x0602 n s → payload s n = [f, 0, 0, 0] →
    (faultRow f.toNat 0).isSome = true → resBusy s n = false → s.hub.raised.getLsbD f.toNat = true →
    (faultPresent s f.toNat = true ∨ expiryWins f.toNat s = true) →
    ∃ t, exec (.clearFault n) s = .next t ∧ Answered n .faultPending 0 [] s t) ∧
  (∀ (n : Fin 8) (s : State) (f : Byte) (c a : BitVec 2) (g : BitVec 32), Executes 0x0603 n s →
    payload s n = [f, c.setWidth 8, a.setWidth 8, 0] ++ toLe g 4 → (faultRow f.toNat 0).isSome = true → c ≠ 3 →
    (a = 1 → ((faultRow f.toNat 0).bind (·.block)).isSome = true) → (c = 1 → 1 ≤ g.toNat ∧ g.toNat ≤ 1000000) →
    s.hub.optImm.getLsbD f.toNat = false → resBusy s n = false →
    ∃ t, exec (.setFaultClass n) s = .next t ∧ ∃ w : Word, (bits w 0 2 : BitVec 2) = c ∧ (bits w 2 2 : BitVec 2) = a ∧
      (c = 1 → (bits w 4 20 : BitVec 20).toNat = g.toNat) ∧
      Answered n .ok 0 [] { s with hub := { s.hub with cfg := s.hub.cfg.setIfInBounds f.toNat w } } t) ∧
  (∀ (n : Fin 8) (s : State) (i : Fin 12) (q hyst dwell : BitVec 16), Executes 0x0401 n s →
    payload s n = [BitVec.ofNat 8 i.val, 0] ++ toLe q 2 ++ toLe hyst 2 ++ toLe dwell 2 → q ≠ 0 → q.toNat ≤ 1000 →
    hyst.toNat ≤ 10000 → dwell ≠ 0 → dwell.toNat ≤ 60000 → resBusy s n = false →
    ∃ t, exec (.setThrottle n) s = .next t ∧ t.sy.thr[i].reqPm = q.toNat ∧
      t.sy.thr[i].ret.toNat = hyst.toNat + 65536 * dwell.toNat ∧ (∀ j : Fin 12, j ≠ i → t.sy.thr[j] = s.sy.thr[j]) ∧
      t.sinov.admission = none ∧ MemSame s t ∧ OtherCounters n s t) ∧
  (∀ (n : Fin 8) (s : State), Executes 0x0501 n s → 1 ≤ fieldLe (payload s n) 0 1 → fieldLe (payload s n) 0 1 ≤ 62 →
    (payload s n).length = 4 + 2 * fieldLe (payload s n) 0 1 → fieldLe (payload s n) 1 3 = 0 →
    tableBad s (tableEntries (payload s n)) = false → resBusy s n = false →
    ∃ t, exec (.setShutdownTable n) s = .next t ∧ t.sinov.admission = none ∧ MemSame s t ∧ OtherCounters n s t ∧
      ∀ i : Fin 31, t.ps.shdn[i] = BitVec.ofNat 32 (fieldLe (slice ((payload s n).drop 4) 0 124) (4 * i.val) 4))

/-! ## Command frames: ledger, time, firmware, options, diagnostics -/

/-- TILL_APPEND, TILL_RELEASE and TIME_LOST_CLEAR ask for their record with the frame's HOST_WORD and execute on;
TIME_SET begins its apply and waits for the edge. OPTION_WRITE OPEN clears the buffer, LOAD stores its bytes at their
offset, COMMIT of a whole valid newer record asks for the OPTION_CHANGE record; once that has committed COMMIT writes the
two copies, or copy B alone with PARTIAL, and answers the record's sequence number. DIAG_OUTPUT starts an output at its
LEVEL and stops it with LEVEL 0; DIAG_OUTPUT_STOP ends its run. Where the spec leaves it open, this rests on the model's
choices of logs 22, 26 and 49 (record bodies, waveforms, when an output cannot start). -/
def Obligations.LedgerTimeOptionAndDiagnosticCommands : Prop :=
  ((∀ (n : Fin 8) (s : State), Executes 0x0701 n s → 5 ≤ (payload s n).length → (payload s n).length ≤ 164 →
    fieldLe (payload s n) 2 2 = 0 → tillNone s = false →
    ∃ t w, exec (.tillAppend n) s = .next t ∧ t = { s with counters := t.counters, sinov := t.sinov } ∧
      AsksRecord n 0x0100 ((payload s n).drop 4) w s t ∧ w.subtype = BitVec.ofNat 16 (fieldLe (payload s n) 0 2) ∧
      Running n s t) ∧
  (∀ (n : Fin 8) (s : State) (u : BitVec 64), Executes 0x0703 n s → payload s n = toLe u 8 →
    s.till.oldest.toNat ≤ u.toNat → u.toNat ≤ s.till.head.toNat → 5 ≤ s.counters[n].rank.val → resBusy s n = false →
    s.till.stopped = false → (s.till.free = 0 ∨ tillNone s = false) →
    ∃ t w, exec (.tillRelease n) s = .next t ∧ t = { s with counters := t.counters, sinov := t.sinov } ∧
      AsksRecord n 0x0050 [] w s t ∧ w.release = some u ∧ Running n s t) ∧
  (∀ (n : Fin 8) (s : State) (v : BitVec 48), Executes 0x0801 n s → payload s n = toLe v 6 ++ [0, 0] →
    resBusy s n = false → s.sinov.timeWait = none → s.rtc.pending = false → tillNone s = false →
    ∃ t, exec (.timeSet n) s = .next t ∧ t = { s with
        counters := t.counters, sinov := { s.sinov with timeWait := some n }, rtc := { s.rtc with setSec := v, pending := true } } ∧
      Running n s t) ∧
  (∀ (n : Fin 8) (s : State), Executes 0x0802 n s → payload s n = [] → s.rtc.valid = true → resBusy s n = false →
    tillNone s = false →
    ∃ t w, exec (.timeLostClear n) s = .next t ∧ t.rtc.lost = false ∧ t.rtc.sec = s.rtc.sec ∧
      AsksRecord n 0x0032 (toLe s.rtc.sec 6 ++ [0, 0]) w s t ∧ MemSame s t ∧ Running n s t)) ∧
  ((∀ (n : Fin 8) (s : State), Executes 0x0A03 n s → payload s n = [0, 0, 0, 0] → resBusy s n = false →
    ∃ t, exec (.optionWriteOpen n) s = .next t ∧ Answered n .ok 0 (List.replicate 8 0) { s with sinov := { s.sinov with
      optBuf := Vector.replicate 512 0, optLoaded := 0, optOpen := true } } t) ∧
  (∀ (n : Fin 8) (s : State) (ofs : BitVec 16) (bs : List Byte), Executes 0x0A03 n s →
    payload s n = [1, 0] ++ toLe ofs 2 ++ bs → 4 ≤ bs.length → bs.length ≤ 224 → bs.length % 4 = 0 → ofs.toNat % 4 = 0 →
    ofs.toNat + bs.length ≤ 512 → resBusy s n = false →
    ∃ t, exec (.optionWriteLoad n) s = .next t ∧
      t = { s with counters := afterReply n .ok 0 (List.replicate 8 0) s
                   sinov := { s.sinov with optBuf := t.sinov.optBuf, optLoaded := t.sinov.optLoaded } } ∧
      ∀ i : Fin 512, t.sinov.optBuf[i] =
        if ofs.toNat ≤ i.val ∧ i.val < ofs.toNat + bs.length then bs.getD (i.val - ofs.toNat) 0 else s.sinov.optBuf[i]) ∧
  (∀ (n : Fin 8) (s : State) (k : Nat), Executes 0x0A03 n s → payload s n = [2, 0, 0, 0] → optBufGood s = true →
    resBusy s n = false → tillNone s = false → afterRecord n s ≠ .copies →
    ∃ t w, exec (.optionWriteCommit n k) s = .next t ∧ t = { s with counters := t.counters, sinov := t.sinov } ∧
      AsksRecord n 0x0041 (toLe (optSeq s.sinov.optBuf.toList) 4 ++ sha256 s.sinov.optBuf.toList) w s t ∧
      w.cont = .optionCopies n s.sinov.optBuf.toList ∧ Running n s t) ∧
  (∀ (n : Fin 8) (s : State) (k : Nat) (rec seq : List Byte), s.sinov.after = some (.copies n rec seq) →
    sinovRuns s = true → rec.length = 512 →
    ∃ t, exec (.optionWriteCommit n k) s = .next t ∧ t.sinov.after = none ∧
      t.counters = afterReply n (if 2 ≤ k then .ok else .partly) (if 2 ≤ k then 0 else 1) seq s ∧
      (Sound s → ∀ i : Fin 512, memByte t (copyAddr true + i.val) = rec.getD i.val 0 ∧
        (2 ≤ k → memByte t (copyAddr false + i.val) = rec.getD i.val 0)) ∧
      (k < 2 → MemSameBut (copyAddr true) 512 s t) ∧ MemSameBut (copyAddr false) 1536 s t) ∧
  (∀ (n : Fin 8) (s : State) (o : Fin 16) (level dwell : BitVec 16), Executes 0x0B00 n s →
    payload s n = [BitVec.ofNat 8 o.val, 0] ++ toLe level 2 ++ toLe dwell 2 ++ [0, 0] → level.toNat ≤ 1000 → dwell ≠ 0 →
    dwell.toNat ≤ 10000 → (∀ k : Fin 6, k.val = o.val → (s.sinov.motor[k]).isSome = true) → resBusy s n = false →
    (level ≠ 0 → diagHeld s o = false ∧ diagWaits s o = false) →
    ∃ t, exec (.diagOutput n) s = .next t ∧ MemSame s t ∧ t.counters = afterReply n .ok 0 [] s ∧
      t.sinov.diag = s.sinov.diag.set o (if level = 0 then none else some level.toNat) ∧
      (∀ k : Fin 6, k.val = o.val → level ≠ 0 → s.motors[k].state = .off → s.motors[k].diagSet = none →
        motRunning t.motors[k] = true ∧
        t.motors[k].diagSet = some (level.toNat * s.hdie.env.mRpm[k].toNat / 1000)) ∧
      (∀ b : Fin 4, b.val + 6 = o.val → level ≠ 0 →
        t.beam.ld[b].diagLevel = some (BitVec.ofNat 11 (level.toNat * s.hdie.env.ldI[b].toNat / 1000))) ∧
      (∀ c : Fin 3, c.val + 10 = o.val → level ≠ 0 →
        t.hv.diagLimit[c] = some (level.toNat * s.hdie.env.hvFb[c].toNat / 1000)) ∧
      (∀ h : Fin 2, h.val + 13 = o.val → level ≠ 0 →
        t.fuser.htr[h].diagDuty = some (level.toNat * s.hdie.env.htrDuty[h].toNat / 1000))) ∧
  (∀ (o : Fin 16) (s : State),
    ∃ t, exec (.diagOutputStop o) s = .next t ∧ t.sinov.diag = s.sinov.diag.set o none ∧ MemSame s t ∧
      t.counters = s.counters ∧
      (o.val = 15 → t.hdie.dump = false) ∧
      (∀ k : Fin 6, k.val = o.val → t.motors[k].diagSet = none) ∧
      (∀ b : Fin 4, b.val + 6 = o.val → t.beam.ld[b].diagLevel = none) ∧
      (∀ c : Fin 3, c.val + 10 = o.val → t.hv.diagLimit[c] = none) ∧
      (∀ h : Fin 2, h.val + 13 = o.val → t.fuser.htr[h].diagDuty = none)))

/-- FW_STAGE BEGIN that erases every sector is answered OK and starts the slot afresh; DATA at NEXT programs its bytes, or
as many as the time allows with PARTIAL, and moves NEXT on behind them; a DATA that is not at NEXT is answered BAD_ARG with
NEXT. FW_VERIFY of the image staged last is answered with its digest and whether it matches; a match marks it verified.
FW_COMMIT of a verified digest asks for the FIRMWARE record; once that has committed it writes a selection record that
names the staged slot, and answers the sequence number. Where the spec leaves it open, this rests on the model's choices of
logs 22, 30 and 49. -/
def Obligations.FirmwareCommands : Prop :=
  (∀ (n : Fin 8) (s : State) (app : Bool) (len : BitVec 32) (k : Nat), Executes 0x0A00 n s →
    payload s n = [0, (if app then 1 else 0), 0, 0] ++ toLe len 4 → len ≠ 0 → len.toNat ≤ slotSize app →
    resBusy s n = false → sectors len.toNat ≤ k →
    ∃ t, exec (.fwStageBegin n k) s = .next t ∧
      (∀ i : Fin 2, i.val = (if app then 1 else 0) → t.sinov.stage[i] =
        { active := true, length := len.toNat, erased := sectors len.toNat, next := 0, verified := none }) ∧
      t.counters = afterReply n .ok 0 (toLe (BitVec.ofNat 32 (sectors len.toNat)) 4) s ∧
      MemSameBut (0x1_0000_0000 + slotOfs app (stageSlot s app)) (65536 * sectors len.toNat) s t) ∧
  (∀ (n : Fin 8) (s : State) (i : Fin 2) (ofs : BitVec 32) (bs : List Byte) (k : Nat), Executes 0x0A00 n s →
    payload s n = [1, BitVec.ofNat 8 i.val, 0, 0] ++ toLe ofs 4 ++ bs → 1 ≤ bs.length → resBusy s n = false →
    ofs.toNat = s.sinov.stage[i].next → ofs.toNat + bs.length ≤ s.sinov.stage[i].length →
    ∃ t, exec (.fwStageData ⟨n, k⟩) s = .next t ∧ t.sinov.stage[i].next = ofs.toNat + min k bs.length ∧
      t.sinov.stage[i].verified = none ∧
      t.counters = afterReply n (if bs.length ≤ k then .ok else .partly)
        (if bs.length ≤ k then 0 else BitVec.ofNat 16 k) (toLe (BitVec.ofNat 32 (ofs.toNat + min k bs.length)) 4) s ∧
      MemSameBut (0x1_0000_0000 + slotOfs (decide (i.val = 1)) (stageSlot s (decide (i.val = 1))) + ofs.toNat)
        (min k bs.length) s t ∧
      (Sound s → ∀ j, j < min k bs.length →
        memByte t (0x1_0000_0000 + slotOfs (decide (i.val = 1)) (stageSlot s (decide (i.val = 1))) + ofs.toNat + j) =
        memByte s (0x1_0000_0000 + slotOfs (decide (i.val = 1)) (stageSlot s (decide (i.val = 1))) + ofs.toNat + j)
          &&& bs.getD j 0)) ∧
  (∀ (n : Fin 8) (s : State) (i : Fin 2) (ofs : BitVec 32) (bs : List Byte) (k : Nat), Executes 0x0A00 n s →
    payload s n = [1, BitVec.ofNat 8 i.val, 0, 0] ++ toLe ofs 4 ++ bs → 1 ≤ bs.length →
    ofs.toNat ≠ s.sinov.stage[i].next →
    ∃ t, exec (.fwStageData ⟨n, k⟩) s = .next t ∧
      Answered n .badArg 0 (toLe (BitVec.ofNat 32 s.sinov.stage[i].next) 4) s t) ∧
  (∀ (n : Fin 8) (s : State) (i : Fin 2), Executes 0x0A01 n s → (payload s n).length = 32 → resBusy s n = false →
    fwActive s = some i → s.sinov.stage[i].next = s.sinov.stage[i].length →
    ∃ t, exec (.fwVerify n) s = .next t ∧
      t.sinov.stage[i] = { s.sinov.stage[i] with verified :=
        (if digestBytes (stagedDigest s i) = payload s n then some (stagedDigest s i) else s.sinov.stage[i].verified) } ∧
      Answered n .ok 0 (digestBytes (stagedDigest s i) ++
        [if digestBytes (stagedDigest s i) = payload s n then 1 else 0, 0, 0, 0])
        { s with sinov := { s.sinov with stage := t.sinov.stage } } t) ∧
  (∀ (n : Fin 8) (s : State) (i : Fin 2), Executes 0x0A02 n s → (payload s n).length = 32 → resBusy s n = false →
    fwVerified s (digestOf (payload s n)) = some i → tillNone s = false → afterRecord n s ≠ .slot →
    ∃ t w, exec (.fwCommit n) s = .next t ∧ t = { s with counters := t.counters, sinov := t.sinov } ∧
      AsksRecord n 0x0040
        (BitVec.ofNat 8 i.val :: payload s n ++ [BitVec.ofNat 8 (stageSlot s (decide (i.val = 1)))]) w s t ∧
      w.cont = .fwSelect n (decide (i.val = 1)) ∧ Running n s t) ∧
  (∀ (n : Fin 8) (s : State) (app : Bool) (seq : List Byte), s.sinov.after = some (.slot n app seq) →
    sinovRuns s = true →
    ∃ t, exec (.fwCommit n) s = .next t ∧ t.sinov.after = none ∧ t.counters = afterReply n .ok 0 seq s ∧
      MemSameBut 0x1_0000_0000 65536 s t ∧
      (Sound s → ∃ i q a b, i < 4096 ∧ t.mem.readAll (0x1_0000_0000 + 16 * i) 16 = selectBytes q a b ∧
        (if app then b else a) = stageSlot s app))

/-! ## Command frames: the engine's configuration -/

/-- An accepted SET_FACET_PROFILE, SET_MOTOR, SET_LOOP, SET_HV, SET_FUSER or SET_LASER ends an admission, is stored, is
answered OK and changes no memory. In SERVICE it waits for the next entry into READY: no engine register takes it yet, but
SET_MOTOR enables the resolver it selects, and SET_LASER releases its beam from the hold of a block reset. In READY it takes
effect with the reply: the registers hold it. Where the spec leaves it open, this rests on the model's choices of logs 33,
34 and 49. -/
def Obligations.ConfigurationIsStored : Prop :=
  (∀ (n : Fin 8) (s : State) (i : Fin 8), Executes 0x0300 n s → fieldLe (payload s n) 0 1 = i.val →
    1 ≤ fieldLe (payload s n) 1 1 → fieldLe (payload s n) 1 1 ≤ 64 →
    (payload s n).length = 8 + 3 * fieldLe (payload s n) 1 1 → fieldLe (payload s n) 2 6 = 0 →
    profBad (profSegments (payload s n)) = false → resBusy s n = false → profFrozen s i = false →
    ∃ t, exec (.setFacetProfile n) s = .next t ∧ t.counters = afterReply n .ok 0 [] s ∧ Lapsed s t ∧ MemSame s t ∧
      t.sinov.profile = s.sinov.profile.set i (some (profSegments (payload s n))) ∧
      (s.sys.mode = 1 → StoredOnly s t) ∧
      (s.sys.mode = 2 → t.pix.segs[i].toNat = fieldLe (payload s n) 1 1 ∧
        ∀ (j : Fin 64) (x : BitVec 24), (profSegments (payload s n))[j.val]? = some x → t.pix.seg24[i][j] = x)) ∧
  (∀ (n : Fin 8) (s : State) (k : Fin 6), Executes 0x0301 n s → fieldLe (payload s n) 0 1 = k.val →
    motorBad s (payload s n) = false →
    (s.motors[k].state ≠ .off → s.motors[k].src = (motorOf (payload s n)).src ∧
      s.motors[k].pos = (motorOf (payload s n)).pos ∧ s.motors[k].pp.toNat = (motorOf (payload s n)).pp) →
    ((motorOf (payload s n)).src = 0 → fieldLe (payload s n) 4 4 ≤ s.envg.shadow.mRpm[k].toNat) →
    fieldLe (payload s n) 16 2 ≤ s.envg.shadow.mI[k].toNat → fieldLe (payload s n) 18 2 ≤ s.envg.shadow.mI[k].toNat →
    resBusy s n = false →
    ∃ t due, exec (.setMotor n) s = .next t ∧ t.counters = afterReply n .ok 0 [] s ∧ Lapsed s t ∧ MemSame s t ∧
      t.sinov.motor = s.sinov.motor.set k (some { motorOf (payload s n) with startDue := due }) ∧
      (s.sys.mode = 1 → due = false ∧ StoredOnly { s with rdc := { s.rdc with en := t.rdc.en } } t) ∧
      (s.sys.mode = 2 → t.motors[k].en = true ∧
        t.motors[k].accel = BitVec.ofNat 24 (fieldLe (payload s n) 8 4) ∧
        t.motors[k].decel = BitVec.ofNat 24 (fieldLe (payload s n) 12 4) ∧
        t.motors[k].ilimReq = BitVec.ofNat 16 (fieldLe (payload s n) 16 2) ∧
        ((motorOf (payload s n)).src = 0 → t.motors[k].speedReq = BitVec.ofNat 16 (fieldLe (payload s n) 4 4)))) ∧
  (∀ (n : Fin 8) (s : State) (i : Fin 32), Executes 0x0303 n s → fieldLe (payload s n) 0 1 = i.val →
    9 ≤ i.val → (payload s n).length = 16 → enPlogBad (payload s n) = false → fieldLe (payload s n) 3 1 = 0 →
    (loopOf (payload s n)).band ≠ 0 → (loopOf (payload s n)).insel.toNat ≤ 35 →
    (loopOf (payload s n)).outsel.toNat ≤ 16 → outTaken s i.val (loopOf (payload s n)).outsel = false →
    slotsBad s (fun v => { v with loop := v.loop.set i (some (loopOf (payload s n))) }) = false → resBusy s n = false →
    ∃ t, exec (.setLoop n) s = .next t ∧ t.counters = afterReply n .ok 0 [] s ∧ Lapsed s t ∧ MemSame s t ∧
      t.sinov.loop = s.sinov.loop.set i (some (loopOf (payload s n))) ∧
      (s.sys.mode = 1 → StoredOnly s t) ∧
      (s.sys.mode = 2 → t.loops.loops[i].en = (loopOf (payload s n)).en ∧
        t.loops.loops[i].plog = (loopOf (payload s n)).plog ∧ t.loops.loops[i].setp = (loopOf (payload s n)).setp ∧
        t.loops.loops[i].band = (loopOf (payload s n)).band ∧ t.loops.loops[i].insel = (loopOf (payload s n)).insel ∧
        t.loops.loops[i].outsel = (loopOf (payload s n)).outsel ∧ t.loops.loops[i].inv = (loopOf (payload s n)).inv ∧
        t.loops.loops[i].dwell = BitVec.ofNat 27 (loopOf (payload s n)).dwell)) ∧
  (∀ (n : Fin 8) (s : State) (c : Fin 3) (en : Bool) (g : Byte) (v : BitVec 32) (band dwell : BitVec 16) (x : HvCfg),
    Executes 0x0304 n s →
    payload s n = [BitVec.ofNat 8 c.val, (if en then 1 else 0), g, 0] ++ toLe v 4 ++ toLe band 2 ++ toLe dwell 2 →
    g.toNat ≤ 10 → (c = 2 → 0 ≤ v.toInt) → (c ≠ 2 → v.toInt ≤ 0) → v.toInt.natAbs ≤ hvFull c.val → band ≠ 0 →
    x = { en := en, plog := BitVec.ofNat 4 g.toNat, setp := hvMv c.val v.toInt.natAbs
          band := max 1 (hvMv c.val band.toNat), dwell := dwell.toNat } →
    x.setp + x.band ≤ s.envg.shadow.hvFb[c].toNat →
    slotsBad s (fun y => { y with hv := y.hv.set c (some x) }) = false → resBusy s n = false →
    ∃ t, exec (.setHv n) s = .next t ∧ t.counters = afterReply n .ok 0 [] s ∧ Lapsed s t ∧ MemSame s t ∧
      t.sinov.hv = s.sinov.hv.set c (some x) ∧ (s.sys.mode = 1 → StoredOnly s t) ∧
      (s.sys.mode = 2 → t.hv.en.getLsbD c.val = en ∧
        ∀ i : Fin 32, i.val = 2 + c.val → t.loops.loops[i].en = en ∧
          t.loops.loops[i].setp = BitVec.ofNat 32 x.setp ∧ t.loops.loops[i].band = BitVec.ofNat 32 x.band)) ∧
  (∀ (n : Fin 8) (s : State) (en : BitVec 2) (g : Byte) (a b band dwell duty : BitVec 16) (x : FuserCfg),
    Executes 0x0305 n s →
    payload s n = [en.setWidth 8, g, 0, 0] ++ toLe a 2 ++ toLe b 2 ++ toLe band 2 ++ toLe dwell 2 ++ toLe duty 2 ++ [0, 0] →
    g.toNat ≤ 10 → band ≠ 0 → dwell.toNat ≤ 60000 → duty.toNat ≤ 1000 →
    (∀ h : Fin 2, duty.toNat ≤ s.envg.shadow.htrDuty[h].toNat) →
    x = { en := en, plog := BitVec.ofNat 4 g.toNat, set0 := a.toNat, set1 := b.toNat
          band := band.toNat, dwell := dwell.toNat, duty := duty.toNat } →
    slotsBad s (fun y => { y with fuser := some x }) = false → resBusy s n = false →
    ∃ t, exec (.setFuser n) s = .next t ∧ t.counters = afterReply n .ok 0 [] s ∧ Lapsed s t ∧ MemSame s t ∧
      t.sinov.fuser = some x ∧ (s.sys.mode = 1 → StoredOnly s t) ∧
      (s.sys.mode = 2 → t.fuser.en = en ∧ t.fuser.dutyReq.toNat = duty.toNat ∧
        t.loops.loops[(0 : Fin 32)].setp = BitVec.ofNat 32 a.toNat ∧
        t.loops.loops[(1 : Fin 32)].setp = BitVec.ofNat 32 b.toNat ∧
        t.loops.loops[(0 : Fin 32)].band = BitVec.ofNat 32 band.toNat ∧
        t.loops.loops[(1 : Fin 32)].band = BitVec.ofNat 32 band.toNat)) ∧
  (∀ (n : Fin 8) (s : State) (b : Fin 4) (en : Bool) (g : Byte) (power : BitVec 32) (ceil delay : BitVec 16) (x : LaserCfg),
    Executes 0x0306 n s →
    payload s n = [BitVec.ofNat 8 b.val, (if en then 1 else 0), g, 0] ++ toLe power 4 ++ toLe ceil 2 ++ toLe delay 2 →
    g.toNat ≤ 10 → delay.toNat ≤ 12799 → ceil.toNat ≤ s.envg.shadow.ldI[b].toNat →
    x = { en := en, plog := BitVec.ofNat 4 g.toNat, power := power.toNat, iCeil := ceil.toNat, delay := delay.toNat } →
    slotsBad s (fun y => { y with laser := y.laser.set b (some x) }) = false → resBusy s n = false →
    ∃ t, exec (.setLaser n) s = .next t ∧ t.counters = afterReply n .ok 0 [] s ∧ Lapsed s t ∧ MemSame s t ∧
      t.sinov.laser = s.sinov.laser.set b (some x) ∧ t.outHold.ldNew = setBit s.outHold.ldNew b.val false ∧
      (s.sys.mode = 1 → StoredOnly { s with outHold := { s.outHold with ldNew := t.outHold.ldNew } } t) ∧
      (s.sys.mode = 2 → t.beam.ld[b].ceilReq = BitVec.ofNat 11 ceil.toNat ∧
        ∀ i : Fin 32, i.val = 5 + b.val → t.loops.loops[i].en = en ∧
          t.loops.loops[i].setp = BitVec.ofNat 32 (power.toNat / 10) ∧
          t.loops.loops[i].band = BitVec.ofNat 32 (power.toNat / 10 / 32)))

/-- A SET_LASER, SET_FUSER, SET_HV or SET_MOTOR above the envelope is answered ENVELOPE and nothing else changes.
MOTOR_STOP stops its channel, which stays stopped until a new SET_MOTOR, and is answered OK. SET_FABRIC within the record's
limits sets the allotment, which is then pending, and is answered OK; no other field of the fabric changes. Where the spec
leaves it open, this rests on the model's choices of logs 33 and 49 (a channel stopped, which heater's envelope). -/
def Obligations.EnvelopeStopAndFabric : Prop :=
  (∀ (n : Fin 8) (s : State) (b : Fin 4) (en : Bool) (g : Byte) (power : BitVec 32) (ceil delay : BitVec 16) (x : LaserCfg),
    Executes 0x0306 n s →
    payload s n = [BitVec.ofNat 8 b.val, (if en then 1 else 0), g, 0] ++ toLe power 4 ++ toLe ceil 2 ++ toLe delay 2 →
    g.toNat ≤ 10 → delay.toNat ≤ 12799 →
    x = { en := en, plog := BitVec.ofNat 4 g.toNat, power := power.toNat, iCeil := ceil.toNat, delay := delay.toNat } →
    slotsBad s (fun y => { y with laser := y.laser.set b (some x) }) = false →
    s.envg.shadow.ldI[b].toNat < ceil.toNat →
    ∃ t, exec (.setLaser n) s = .next t ∧ Answered n .envelope 0 [] s t) ∧
  (∀ (n : Fin 8) (s : State) (en : BitVec 2) (g : Byte) (a b band dwell duty : BitVec 16) (x : FuserCfg) (h : Fin 2),
    Executes 0x0305 n s →
    payload s n = [en.setWidth 8, g, 0, 0] ++ toLe a 2 ++ toLe b 2 ++ toLe band 2 ++ toLe dwell 2 ++ toLe duty 2 ++ [0, 0] →
    g.toNat ≤ 10 → band ≠ 0 → dwell.toNat ≤ 60000 → duty.toNat ≤ 1000 →
    x = { en := en, plog := BitVec.ofNat 4 g.toNat, set0 := a.toNat, set1 := b.toNat
          band := band.toNat, dwell := dwell.toNat, duty := duty.toNat } →
    slotsBad s (fun y => { y with fuser := some x }) = false → s.envg.shadow.htrDuty[h].toNat < duty.toNat →
    ∃ t, exec (.setFuser n) s = .next t ∧ Answered n .envelope 0 [] s t) ∧
  (∀ (n : Fin 8) (s : State) (c : Fin 3) (en : Bool) (g : Byte) (v : BitVec 32) (band dwell : BitVec 16) (x : HvCfg),
    Executes 0x0304 n s →
    payload s n = [BitVec.ofNat 8 c.val, (if en then 1 else 0), g, 0] ++ toLe v 4 ++ toLe band 2 ++ toLe dwell 2 →
    g.toNat ≤ 10 → (c = 2 → 0 ≤ v.toInt) → (c ≠ 2 → v.toInt ≤ 0) → v.toInt.natAbs ≤ hvFull c.val → band ≠ 0 →
    x = { en := en, plog := BitVec.ofNat 4 g.toNat, setp := hvMv c.val v.toInt.natAbs
          band := max 1 (hvMv c.val band.toNat), dwell := dwell.toNat } →
    slotsBad s (fun y => { y with hv := y.hv.set c (some x) }) = false →
    s.envg.shadow.hvFb[c].toNat < x.setp + x.band →
    ∃ t, exec (.setHv n) s = .next t ∧ Answered n .envelope 0 [] s t) ∧
  (∀ (n : Fin 8) (s : State) (k : Fin 6), Executes 0x0301 n s → fieldLe (payload s n) 0 1 = k.val →
    motorBad s (payload s n) = false →
    (s.motors[k].state ≠ .off → s.motors[k].src = (motorOf (payload s n)).src ∧
      s.motors[k].pos = (motorOf (payload s n)).pos ∧ s.motors[k].pp.toNat = (motorOf (payload s n)).pp) →
    (((motorOf (payload s n)).src = 0 ∧ s.envg.shadow.mRpm[k].toNat < fieldLe (payload s n) 4 4) ∨
      s.envg.shadow.mI[k].toNat < fieldLe (payload s n) 16 2 ∨ s.envg.shadow.mI[k].toNat < fieldLe (payload s n) 18 2) →
    ∃ t, exec (.setMotor n) s = .next t ∧ Answered n .envelope 0 [] s t) ∧
  (∀ (n : Fin 8) (s : State) (k : Fin 6) (mode : BitVec 2), Executes 0x0302 n s →
    payload s n = [BitVec.ofNat 8 k.val, mode.setWidth 8, 0, 0] → mode ≠ 3 → resBusy s n = false →
    ∃ t, exec (.motorStop n) s = .next t ∧ t.counters = afterReply n .ok 0 [] s ∧ Lapsed s t ∧ MemSame s t ∧
      t.motors = s.motors.set k (beginStop (gatesBlocked s k) mode s.motors[k]) ∧
      t.sinov.motor = s.sinov.motor.set k (s.sinov.motor[k].map fun c => { c with stopped := true, startDue := false })) ∧
  (∀ (n : Fin 8) (s : State) (v e : BitVec 7), Executes 0x0307 n s →
    payload s n = [v.setWidth 8, e.setWidth 8, 0, 0] → e ≠ 0 → v.toNat + e.toNat ≤ 64 →
    (s.fabric.limits &&& 0xFF).toNat ≤ v.toNat → v.toNat ≤ ((s.fabric.limits >>> 8) &&& 0xFF).toNat →
    ((s.fabric.limits >>> 16) &&& 0xFF).toNat ≤ e.toNat → e.toNat ≤ (s.fabric.limits >>> 24).toNat → resBusy s n = false →
    ∃ t, exec (.setFabric n) s = .next t ∧ t.counters = afterReply n .ok 0 [] s ∧
      t.fabric = { s.fabric with allotV := v, allotE := e, pending := true } ∧
      StoredOnly { s with fabric := t.fabric } t)

/-! ## Command frames and events: a page from admission to docket (R53-R74) -/

/-- ADMIT_PAGE ends the admission in hand; where no fault stands in its way and the descriptor is right it has the forecast
started and waits for it, and while an earlier forecast runs its frame waits. It is answered FAULT_PENDING while a fault of
class GRACE or IMMEDIATE is RAISED, BAD_ARG for a descriptor out of range, and REFUSED_DEADLINE with the margins where the
Steelyard does not run. FORECAST_DONE answers it: OK with the handle and the margins where the seven checks pass, with
two records reserved, else REFUSED_DEADLINE and no admission. ADMISSION_LAPSE ends an admission and its reservation. Where
the spec leaves it open, this rests on the model's choices of logs 38 and 49. -/
def Obligations.PagesAreAdmitted : Prop :=
  ((∀ (n : Fin 8) (s x : State), Executes 0x0200 n s → x = tillSync (lapseAdmission s) → TillRoom (lapseAdmission s) →
    forecastHeld s = false → graceClear s = true → pageBad x (payload s n) = false → s.sy.run = true →
    (fcSteps x (descOf (payload s n))).sum ≤ 65535 →
    ∃ t, exec (.admitPage n) s = .next t ∧ t.sy.fc.armed = true ∧ t.sy.fc.done = false ∧ Running n s t ∧
      t = { s with
        counters := t.counters
        sinov := { s.sinov with
          admission := none, admitWait := some { handle := 0, counter := n, desc := payload s n, report := [] } }
        till := x.till, hub := { s.hub with present := x.hub.present }, sy := { s.sy with fc := t.sy.fc } }) ∧
  (∀ (n : Fin 8) (s : State), Executes 0x0200 n s → forecastHeld s = true → exec (.admitPage n) s = .next s) ∧
  (∀ (n : Fin 8) (s : State), Executes 0x0200 n s → forecastHeld s = false → TillRoom (lapseAdmission s) →
    graceClear s = false →
    ∃ t, exec (.admitPage n) s = .next t ∧ Answered n .faultPending 0 [] (tillSync (lapseAdmission s)) t) ∧
  (∀ (n : Fin 8) (s : State), Executes 0x0200 n s → forecastHeld s = false → TillRoom (lapseAdmission s) →
    graceClear s = true → pageBad (tillSync (lapseAdmission s)) (payload s n) = true →
    ∃ t, exec (.admitPage n) s = .next t ∧ Answered n .badArg 0 [] (tillSync (lapseAdmission s)) t) ∧
  (∀ (n : Fin 8) (s x : State) (cs : List (List Item)), Executes 0x0200 n s → forecastHeld s = false →
    x = tillSync (lapseAdmission s) → TillRoom (lapseAdmission s) → graceClear s = true →
    pageBad x (payload s n) = false → s.sy.run = false → cs = checks7 x (descOf (payload s n)) (failA5 x) →
    ∃ t, exec (.admitPage n) s = .next t ∧ failMask cs / 16 % 2 = 1 ∧ Answered n .refusedDeadline 0
      (admitReply 0 (failMask cs) (cs.flatMap fun c => entryBytes (reported c))) x t)) ∧
  ((∀ (s x : State) (a : Admission) (cs : List (List Item)), s.sy.fc.busy = true → s.sinov.admitWait = some a →
    a.report = [] → s.sys.mode = 2 → graceClear s = true → TillRoom s →
    x = { fcDone s with sinov := { s.sinov with admitWait := none } } → cs = checks7 x (descOf a.desc) (checkA5 x 0) →
    failMask cs = 0 →
    ∃ t, exec .forecastDone s = .next t ∧ t.sinov.admission = some { handle := s.sinov.nextHandle, counter := a.counter
                                                                     desc := a.desc
                                                                     report := cs.flatMap fun c => entryBytes (reported c) } ∧
      t.sinov.admitWait = none ∧ t.till.rsv = 2 ∧ t.sy = (fcDone s).sy ∧ t.sy.fc.busy = false ∧
      t.counters = afterReply a.counter .ok 0
        (admitReply s.sinov.nextHandle 0 (cs.flatMap fun c => entryBytes (reported c))) s ∧ MemSame s t) ∧
  (∀ (s x : State) (a : Admission) (cs : List (List Item)), s.sy.fc.busy = true → s.sinov.admitWait = some a →
    s.sys.mode = 2 → graceClear s = true →
    x = { fcDone s with sinov := { s.sinov with admitWait := none } } → cs = checks7 x (descOf a.desc) (checkA5 x 0) →
    failMask cs ≠ 0 →
    ∃ t, exec .forecastDone s = .next t ∧ Answered a.counter .refusedDeadline 0
      (admitReply 0 (failMask cs) (cs.flatMap fun c => entryBytes (reported c))) x t) ∧
  (∀ (s : State) (a : Admission), s.sinov.admission = some a →
    ∃ t, exec .admissionLapse s = .next t ∧ Lapsed s t ∧ t = { s with
      sinov := { s.sinov with admission := none, admitWait := t.sinov.admitWait }, till := { s.till with rsv := 0 }
      hub := { s.hub with present := t.hub.present } }))

/-- START_PAGE of the admission in hand, while the Steelyard runs and checks A5 and A7 still pass, puts the device into
PRINTING with the docket ARMED and DK_PLANNED from the descriptor, and is answered OK. SPOIL_PAGE, from the counter that
started the page or from one of higher rank, latches the host's spoil between facets, within a facet asks for it at the next
boundary. GET_DOCKET answers what stands: nothing, the docket closed last, or the tally of the page. A START_PAGE from
another counter is answered NOT_PERMITTED, a SPOIL_PAGE with another handle BAD_ARG. Where the spec leaves it open, this
rests on the model's choices of logs 47 and 49. -/
def Obligations.PagesAreStartedAndSpoiled : Prop :=
  (∀ (n : Fin 8) (s : State) (a : Admission), Executes 0x0201 n s → s.sinov.admission = some a → a.counter = n →
    payload s n = toLe a.handle 2 ++ [0, 0] → s.sy.run = true → (checkA5 s (warmer s)).all itemOk = true →
    (checkA7 s).all itemOk = true → (s.docket.st = .idle ∧ s.docket.written = 0 ∨ s.docket.st = .closed) →
    s.beam.intlk = true →
    ∃ t, exec (.startPage n) s = .next t ∧ t.sys.mode = 3 ∧ t.docket.st = .armed ∧ t.docket.tStart = s.devtime ∧
      t.docket.planned = BitVec.ofNat 32 (descOf a.desc).lines ∧ t.docket.written = 0 ∧ t.sinov.page = some a ∧
      t.sinov.admission = none ∧ t.dkStore.handle = a.handle ∧ t.dkStore.pageId = BitVec.ofNat 32 (descOf a.desc).pageId ∧
      t.counters = afterReply n .ok 0 [] s ∧ MemSame s t) ∧
  (∀ (n : Fin 8) (s : State) (a : Admission), Executes 0x0201 n s → s.sinov.admission = some a → a.counter ≠ n →
    payload s n = toLe a.handle 2 ++ [0, 0] →
    ∃ t, exec (.startPage n) s = .next t ∧ Answered n .notPermitted 0 [] s t) ∧
  (∀ (n : Fin 8) (s : State) (a : Admission), Executes 0x0202 n s → s.sinov.page = some a →
    payload s n = toLe a.handle 2 ++ [0, 0] →
    (a.counter = n ∨ s.counters[a.counter].rank < s.counters[n].rank) → s.docket.st = .armed → s.docket.spoil = false →
    ∃ t, exec (.spoilPage n) s = .next t ∧ t.dkStore = { s.dkStore with counter := BitVec.ofNat 8 n.val } ∧
      t.counters = afterReply n .ok 0 [] s ∧ MemSame s t ∧ t.docket.spoil = true ∧
      (s.docket.facetOpen = true → t.docket = { s.docket with spoil := true }) ∧
      (s.docket.facetOpen = false → t.docket.st = .spoiled ∧ t.docket.outcome = 1 ∧
        t.docket.faultValid = false ∧ t.docket.written = s.docket.written)) ∧
  (∀ (n : Fin 8) (s : State) (a : Admission) (h : BitVec 16), Executes 0x0202 n s → s.sinov.page = some a →
    payload s n = toLe h 2 ++ [0, 0] → h ≠ a.handle →
    ∃ t, exec (.spoilPage n) s = .next t ∧ Answered n .badArg 0 [] s t) ∧
  (∀ (n : Fin 8) (s : State), Executes 0x0203 n s → payload s n = [] →
    ∃ t body, exec (.getDocket n) s = .next t ∧
      Answered n .ok 0 ([s.dkStore.state.setWidth 8, 0, 0, 0] ++
        (if s.dkStore.state = 1 then toLe s.dkStore.seq 8 else List.replicate 8 0) ++ body) s t ∧ body.length = 96 ∧
      (s.dkStore.state = 0 → body = List.replicate 96 0) ∧
      (s.dkStore.state = 1 ∨ s.dkStore.state = 2 → body = slice s.dkStore.body 0 96) ∧
      (s.dkStore.state = 3 → body = docketBody { s with docket := { s.docket with
          outcome := 0, tEnd := 0, mediaPos := mediaPos s } } 0 ∧
        (body.drop 8).take 12 = toLe s.docket.planned 4 ++ toLe s.docket.written 4 ++ toLe s.docket.blanked 4))

/-- DK_CTRL: ARM starts the tally in IDLE, SPOIL latches between facets and waits within one, CLOSE closes with DK_BLANKED
the lines planned and not written, RELEASE returns a closed docket to IDLE. A facet's end counts its lines. Compare 0 of the
media channel is top of form and starts RUN; reached while SYNC still acquires it spoils the page with BD_MISSING. Compare 1
is the close point, at which the docket closes and the ramp stops. A safe stop that does not end in time closes a spoiled
docket with TIMEOUT_CLOSED. Where the spec leaves it open, this rests on the model's choices of logs 37 and 47. -/
def Obligations.TallyCountsAndPagesEnd : Prop :=
  ((∀ (m : Master) (s : State), Granted m 0x2F 0x00 1 s → s.docket.st = .idle → s.beam.intlk = true →
    ∃ t, exec (.dkArm m) s = .next t ∧ t.docket = { s.docket with st := .armed, arm := true, tStart := s.devtime } ∧
      (s.sys.mode = 2 → t.sys.mode = 3 ∧ Lapsed s t) ∧ MemSame s t ∧ t.counters = s.counters) ∧
  (∀ (m : Master) (s : State), Granted m 0x2F 0x00 2 s → s.docket.st = .armed → s.docket.facetOpen = false →
    ∃ t, exec (.dkSpoil m) s = .next t ∧ t.docket.st = .spoiled ∧ t.docket.outcome = 1 ∧ t.docket.spoil = true ∧
      t.docket.firstSpoil = (if s.docket.written = s.docket.planned then 0xFFFF_FFFF else s.docket.written) ∧
      MemSame s t ∧ t.counters = s.counters) ∧
  (∀ (m : Master) (s : State), Granted m 0x2F 0x00 2 s → s.docket.st = .armed → s.docket.facetOpen = true →
    exec (.dkSpoil m) s = .next { s with docket := { s.docket with spoil := true } }) ∧
  (∀ (m : Master) (s : State), Granted m 0x2F 0x00 4 s → pageInFlight s = true →
    ∃ t, exec (.dkClose m) s = .next t ∧ t.docket.st = .closed ∧
      t.docket.blanked = s.docket.planned - s.docket.written ∧ t.docket.written = s.docket.written ∧
      t.docket.tEnd = s.devtime ∧ t.docket.outcome = s.docket.outcome ∧ MemSame s t ∧ t.counters = s.counters) ∧
  (∀ (m : Master) (s : State), Granted m 0x2F 0x00 8 s → s.docket.st = .closed →
    exec (.dkRelease m) s = .next { s with docket := { Docket.reset with
      planned := s.docket.planned, beams := s.docket.beams, mediaCh := s.docket.mediaCh } }) ∧
  (∀ s : State, s.docket.st = .armed → s.docket.facetOpen = true → s.docket.spoil = false →
    ∃ t, exec .facetEnd s = .next t ∧ t.docket = { s.docket with
      written := s.docket.written + s.docket.beams.setWidth 32, facets := s.docket.facets + 1, facetOpen := false } ∧
      MemSame s t ∧ t.counters = s.counters)) ∧
  ((∀ s : State, pageInFlight s = true → s.motors[chanIdx s.docket.mediaCh].cmpEn.getLsbD 0 = true →
    s.motors[chanIdx s.docket.mediaCh].diagSet = none → s.beam.sync ≠ .acquire →
    ∃ t, exec .topOfForm s = .next t ∧ t.docket = { s.docket with tof := true } ∧
      t.motors[chanIdx s.docket.mediaCh].events = s.motors[chanIdx s.docket.mediaCh].events ||| 0x10 ∧
      (s.beam.sync = .locked → t.beam.sync = .run) ∧ MemSame s t ∧ t.counters = s.counters) ∧
  (∀ s : State, s.docket.st = .armed → s.motors[chanIdx s.docket.mediaCh].cmpEn.getLsbD 0 = true →
    s.motors[chanIdx s.docket.mediaCh].diagSet = none → s.beam.sync = .acquire → NoAction 0x90 s →
    ∃ t, exec .topOfForm s = .next t ∧ SpoiledBy 0x90 s t ∧ Stands 0x90 t) ∧
  (∀ s : State, pageInFlight s = true → s.motors[chanIdx s.docket.mediaCh].cmpEn.getLsbD 1 = true → sinovRuns s = true →
    ∃ t, exec .closePoint s = .next t ∧ t.docket.st = .closed ∧
      t.docket.blanked = s.docket.planned - s.docket.written ∧ t.pix.en = false ∧ MemSame s t ∧
      t.counters = s.counters) ∧
  (∀ s : State, s.docket.st = .spoiled → sinovRuns s = true →
    ∃ t, exec .safeStopTimeout s = .next t ∧ t.docket.st = .closed ∧ t.docket.flags.getLsbD 3 = true ∧
      t.docket.outcome = s.docket.outcome ∧ MemSame s t ∧ t.counters = s.counters))

/-- At close the hardware sets DK_BLANKED to the lines planned less those written, so that lines written and blanked
add up to the lines planned. -/
def Obligations.LinesAddUp : Prop :=
  ∀ (m : Master) (s : State), Granted m 0x2F 0x00 4 s → pageInFlight s = true →
    ∃ t, exec (.dkClose m) s = .next t ∧ t.docket.blanked = s.docket.planned - s.docket.written ∧
      t.docket.written + t.docket.blanked = t.docket.planned

/-! ## Supply, domains and rails (R170-R206) -/

/-- VIN and VAUX as the supply monitor and the comparators see them: each event changes the supply's own state, and a
level source rises or falls with its condition. VAUX below 4.60 V turns every gate and DUMP off. VIN through VREGEN: every
channel backs its current off, with VIN_REGEN where the back-off begins, until VIN has fallen again. Where the spec leaves
it open, this rests on the model's choices of logs 16, 33 and 44. -/
def Obligations.SupplyAndRegenerationAreTracked : Prop :=
  ((∀ s : State, exec .vinStart s = .next { s with supply := { s.supply with softStart := true, softDone := false } }) ∧
  (∀ s : State, s.supply.softStart = true →
    exec .softStartDone s = .next { s with supply := { s.supply with softDone := true } }) ∧
  (∀ s : State, s.supply.softDone = true → exec .vauxGood s = .next (Falls 0x02 { s with
    supply := { s.supply with vauxGood := true, vauxLow := false }, hdie := { s.hdie with powered := true } })) ∧
  (∀ s : State, exec (.vinHighCross false) s =
    .next (Falls 0x01 { s with supply := { s.supply with vinHigh := false } })) ∧
  (∀ s : State, s.hub.present.getLsbD 0x01 = false → Mild 0x01 s → ∃ t, exec (.vinHighCross true) s = .next t ∧
    RisesOnly 0x01 { s with supply := { s.supply with vinHigh := true } } t) ∧
  (∀ s : State, exec (.vbkpLowCross false) s =
    .next (Falls 0x05 { s with supply := { s.supply with vbkpLow := false } })) ∧
  (∀ s : State, s.hub.present.getLsbD 0x05 = false → Mild 0x05 s → ∃ t, exec (.vbkpLowCross true) s = .next t ∧
    RisesOnly 0x05 { s with supply := { s.supply with vbkpLow := true } } t) ∧
  (∀ s : State, exec (.vauxLowCross false) s =
    .next (Falls 0x02 { s with supply := { s.supply with vauxLow := false } })) ∧
  (∀ s : State, s.hub.present.getLsbD 0x02 = false → Mild 0x02 s → ∃ t, exec (.vauxLowCross true) s = .next t ∧
    RisesOnly 0x02 { s with
      supply := { s.supply with vauxLow := true, vauxGood := false }, motors := s.motors.map gatesOff
      hdie := { s.hdie with dump := false } } t) ∧
  (∀ s : State, exec .aoSwitchToVbkp s = .next { s with
    supply := { s.supply with aoOnVbkp := true, vauxGood := false } }) ∧
  (∀ s : State, s.rtc.lossMark = false →
    exec .aoSwitchToVaux s = .next { s with supply := { s.supply with aoOnVbkp := false } }) ∧
  (∀ (s : State) (vin vaux : BitVec 16), exec (.vinMonitorSample vin vaux) s = .next { s with
    ps := { s.ps with vin := vin, vaux := vaux }
    supply := { s.supply with vin := vin.toNat, vaux := vaux.toNat
                              history := (vin.toNat :: s.supply.history).take 100 } }) ∧
  (∀ s : State, s.supply.history ≠ [] → exec .vinAvgUpdate s = .next { s with
    ps := { s.ps with vinAvg := BitVec.ofNat 16 (s.supply.history.sum / s.supply.history.length) } })) ∧
  ((∀ s : State, exec .vregenFall s = .next { s with supply := { s.supply with vinRegen := false } }) ∧
  (∀ s : State, backoffOn s = true → exec .vregenRise s = .next { s with
    supply := { s.supply with vinRegen := true }
    motors := s.motors.map fun m => { m with icmd := max 0 m.icmd } }) ∧
  (∀ s : State, backoffOn s = false → Mild 0x06 s → ∃ t, exec .vregenRise s = .next t ∧
    RaisedOnly 0x06 { s with
      supply := { s.supply with vinRegen := true }
      motors := s.motors.map fun m => { m with icmd := max 0 m.icmd } } t))

/-- The device starts: the AO domain's POWER_ON release begins the boot phase with everything but BKP, MRAM, flash and
supply at reset values; VIN restored after a shut-down begins it again, after a PFW with a SYSTEM reset. VDD_AO invalid on
VBKP loses AO retention. A brown-out is a SYSTEM reset whose power-up waits for VIN. PFW cuts every engine output, drives
nPFW low and latches the time and the shut-down table; a POWER_FAIL record is due, or with a page in flight its docket
closes with the outcome of a power failure. tPFW later the timed shut-down begins: a target whose turn has come and whose
switching off is deferred waits for the record, any other goes off with its dependants, and t_rec ends the deferral; the
last one of SLEEP leads to DORMANT. ESC_OFF leaves only AO and BKP on, as a halt after eight failed power-ups does.
SLEEP's power-down takes the shut-down table, and yields to a PFW or ESC_OFF that came first. Where the spec leaves it
open, this rests on the model's choices of logs 36 and 44. -/
def Obligations.DeviceStartsAndShutsDown : Prop :=
  ((∀ s : State, s.supply.vauxGood = true → s.supply.aoValid = false → ∃ t, exec .aoPorRelease s = .next t ∧
    t.supply = { s.supply with aoValid := true, aoPor := true } ∧ t.ps.phase = .boot ∧ t.rst.step = .boot ∧
    t.clk.ao32Ok = true ∧ t.rtc.sec = s.rtc.sec ∧ t.rtc.lost = s.rtc.lost ∧ t.counters = State.reset.counters ∧
    t.motors = State.reset.motors ∧ t.hub = State.reset.hub ∧ t.sys = State.reset.sys ∧ t.envg = State.reset.envg ∧
    (s.xspi.busy = false → s.till.op = .none → s.loader.st = .idle → s.sinov.after = none →
      ∀ a, 0x1_0000_0000 ≤ a → memByte t a = memByte s a)) ∧
  (∀ s : State, s.ps.phase = .shutdown → allDown s = true → s.supply.aoValid = true → s.ps.offCause = .none →
    s.rst.step ≠ .loaderFail →
    ∃ t, exec .vinRestored s = .next t ∧ t = { s with ps := t.ps, rst := { s.rst with step := .boot } } ∧
      t.ps.phase = .boot ∧ t.ps.nPFW = false ∧ t.ps.offDelay = false ∧ t.ps.on = s.ps.on) ∧
  (∀ s : State, s.ps.phase = .shutdown → allDown s = true → s.supply.aoValid = true → s.ps.offCause = .pfw →
    s.rst.step ≠ .loaderFail →
    ∃ t, exec .vinRestored s = .next t ∧ t.rst.cause = 0x02 ∧ t.rst.kind = 1 ∧ t.rst.step = .boot ∧ t.ps.phase = .boot ∧
      t.ps.nPFW = false ∧ t.ps.pfwSeen = false ∧ t.ps.on = 3 ∧ t.devtime = 0 ∧ t.sys.mode = 0 ∧
      t.hub.raised = s.hub.raised ∧ t.optshd = s.optshd) ∧
  (∀ s : State, s.supply.aoOnVbkp = true → ∃ t, exec .vddAoInvalid s = .next t ∧
    t.supply = { s.supply with aoValid := false, aoPor := false } ∧ t.counters = State.reset.counters ∧
    t.hub = State.reset.hub ∧ t.sys = State.reset.sys ∧ t.rtc.sec = s.rtc.sec ∧ t.rtc.lost = s.rtc.lost) ∧
  (∀ s : State, ∃ t, exec .brownOut s = .next t ∧ t.rst.cause = 0x02 ∧ t.rst.kind = 1 ∧
    t.rst.count = (if s.rst.fresh then s.rst.count else satInc s.rst.count) ∧ t.ps.on = 3 ∧
    t.ps.phase = (if s.ps.phase = .halted then .halted else .shutdown) ∧ t.ps.nPFW = false ∧
    t.sys.mode = 0 ∧ t.devtime = 0 ∧ t.hub.raised = s.hub.raised ∧ t.envg.loaded = false ∧
    t.supply = { s.supply with softStart := false, softDone := false })) ∧
  ((∀ s : State, s.ps.pfwSeen = false → s.ps.phase ≠ .dormant → Mild 0x00 s → pageInFlight s = false →
    s.ps.offCause = .none → shutOff s = false → ∃ t, exec .pfw s = .next t ∧ Stands 0x00 t ∧ OutputsCut t ∧
      t.ps.nPFW = true ∧ t.ps.pfwSeen = true ∧
      t.ps.pfwTime = s.devtime ∧ t.ps.table = s.ps.shdn ∧ t.ps.phase = .pfw ∧ t.ps.offCause = .pfw ∧
      t.hdie.pfwCut = true ∧ t.clk.fb.getLsbD 0 = true ∧ t.sinov.sleepReq = none ∧ t.counters = s.counters ∧ MemSame s t ∧
      (sinovRuns s = true → s.sinov.wants = [] → 1 ≤ s.till.free.toNat →
        t.sinov.wants.map (·.typ) = [0x0011]) ∧ (s.till.free = 0 → t.sinov.wants = s.sinov.wants)) ∧
  (∀ s : State, s.ps.pfwSeen = false → s.ps.phase ≠ .dormant → s.docket.st = .armed →
    NoAction 0x00 s → ∃ t, exec .pfw s = .next t ∧ Stands 0x00 t ∧
      OutputsCut t ∧ t.ps.nPFW = true ∧ t.docket.st = .closed ∧ t.docket.outcome = 3 ∧
      t.docket.written = s.docket.written ∧ t.docket.blanked = s.docket.planned - s.docket.written ∧
      (sinovRuns s = true → s.sinov.wants = [] → t.sinov.wants.map (·.typ) = [0x0010]) ∧
      t.counters = s.counters ∧ MemSame s t) ∧
  (∀ s : State, s.ps.offCause = .pfw → s.ps.phase = .pfw →
    exec .tpfwExpire s = .next { s with ps := { s.ps with tpfwDone := true, phase := .shutdown } })) ∧
  ((∀ (s : State) (x : Byte), s.ps.offCause = .pfw → s.ps.tpfwDone = true → s.ps.deferEnd = false →
    deferredSet.contains x.toNat = true → entryTurn s x.toNat = true → exec (.shutdownEntryDue x) s =
      .next { s with ps := { s.ps with deferred := s.ps.deferred ++ [x.toNat] } }) ∧
  (∀ (s : State) (x : Byte), s.ps.offCause = .pfw → s.ps.tpfwDone = true →
    (s.ps.deferEnd = true ∨ deferredSet.contains x.toNat = false) → allTargets.contains x.toNat = true →
    entryTurn s x.toNat = true → ∃ t, exec (.shutdownEntryDue x) s = .next t ∧
      (x.toNat ≤ 50 → t.ps.on.getLsbD (x.toNat - 1) = false) ∧
      (∀ r : Fin 12, x.toNat = 0x81 + r.val → t.ps.rails[r] = .off) ∧
      (∀ d, t.ps.on.getLsbD d = true → s.ps.on.getLsbD d = true) ∧
      t.ps.shdn = s.ps.shdn ∧ t.hub.raised = s.hub.raised ∧ t.docket = s.docket ∧ t.supply = s.supply) ∧
  (∀ (s : State) (x : Byte), s.ps.offCause = .sleep → s.ps.phase = .shutdown → allTargets.contains x.toNat = true →
    entryTurn s x.toNat = true → ∃ t, exec (.shutdownEntryDue x) s = .next t ∧
      (x.toNat ≤ 50 → t.ps.on.getLsbD (x.toNat - 1) = false) ∧
      (∀ d, t.ps.on.getLsbD d = true → s.ps.on.getLsbD d = true) ∧
      (allDown t = true → t.ps.phase = .dormant ∧ t.ps.offCause = .none) ∧
      (allDown t = false → t.ps.phase = .shutdown ∧ t.ps.offCause = .sleep)) ∧
  (∀ s : State, s.ps.offCause = .pfw → ∃ t, exec .trecExpire s = .next t ∧ t.ps.deferEnd = true ∧
    t.ps.deferred = [] ∧ (∀ d ∈ s.ps.deferred, 3 ≤ d → d ≤ 50 → t.ps.on.getLsbD (d - 1) = false) ∧
    (∀ d, t.ps.on.getLsbD d = true → s.ps.on.getLsbD d = true) ∧ t.hub.raised = s.hub.raised) ∧
  (∀ s : State, s.ps.offCause = .escOff → ∃ t, exec .trecExpire s = .next t ∧ t.ps.phase = .off ∧
    t.ps.on = s.ps.on &&& 3 ∧ t.rst.step = .off ∧ t.hub.raised = s.hub.raised) ∧
  (∀ s : State, 8 ≤ s.ps.retry.toNat → ∃ t, exec .seqHalt s = .next t ∧ t.ps.phase = .halted ∧
    t.ps.on = s.ps.on &&& 3 ∧ t.ps.retry = s.ps.retry ∧ t.hub.raised = s.hub.raised) ∧
  (∀ (s : State) (w : BitVec 3), s.sinov.sleepReq = some w → s.ps.offCause = .none → shutOff s = false →
    exec .sleepPowerDown s = .next { s with
      sinov := { s.sinov with sleepReq := none }
      ps := { s.ps with wakeEn := w, phase := .shutdown, offCause := .sleep, table := s.ps.shdn } }) ∧
  (∀ (s : State) (w : BitVec 3), s.sinov.sleepReq = some w → (s.ps.offCause ≠ .none ∨ shutOff s = true) →
    exec .sleepPowerDown s = .next { s with sinov := { s.sinov with sleepReq := none } }))

/-- The lowest domain that may close closes, turns on with its power-good, and goes off when no longer requested. A
domain whose power-good is late or drops is off, is marked in PS_FAIL and raises DOMAIN_FAIL. A rail that ramps settles once
SEQPG has risen and is good after SETTLE, its level being kept for a rail that is off; SEQPG late, or falling from a good
rail, is a rail failure with EXT_RAIL_FAIL. PS_REQ keeps its fixed bits, and a written 1 clears a failure bit. Where the spec leaves it open, this
rests on the model's choices of logs 36 and 44. -/
def Obligations.DomainsAndRailsFollowPowerGood : Prop :=
  ((∀ (s : State) (d : Fin 50),
    (allTargets.filter fun t => decide (t ≤ 50)).find? (domCloses s) = some (d.val + 1) →
    exec (.domainSwitchClose d) s = .next { s with ps := { s.ps with closing := setBit s.ps.closing d.val true } }) ∧
  (∀ (s : State) (d : Fin 50), s.ps.closing.getLsbD d.val = true → ∃ t, exec (.domainGood d) s = .next t ∧
    t = { s with ps := t.ps, rst := { s.rst with step := t.rst.step }
                 loader := { s.loader with st := t.loader.st }, sy := t.sy
                 hub := { s.hub with present := t.hub.present } } ∧
    t.ps.on = setBit s.ps.on d.val true ∧ t.ps.closing = setBit s.ps.closing d.val false ∧
    t.ps.order = s.ps.order ++ [d.val + 1]) ∧
  (∀ (s : State) (d : Fin 50), s.ps.closing.getLsbD d.val = true → quiet s = true → Mild 0x03 s →
    ∃ t, exec (.domainGoodTimeout d) s = .next t ∧ Stands 0x03 t ∧ t.ps.on.getLsbD d.val = false ∧
      t.ps.fail = setBit s.ps.fail d.val true ∧ t.ps.failedIn = true ∧ t.docket = s.docket) ∧
  (∀ (s : State) (d : Fin 50), 2 ≤ d.val → domOn s (d.val + 1) = true → quiet s = true → Mild 0x03 s →
    ∃ t, exec (.domainPgDrop d) s = .next t ∧ Stands 0x03 t ∧ t.ps.on.getLsbD d.val = false ∧
      (∀ e, t.ps.on.getLsbD e = true → s.ps.on.getLsbD e = true) ∧ t.ps.fail = setBit s.ps.fail d.val true ∧
      t.ps.failedIn = true ∧ t.docket = s.docket) ∧
  (∀ (s : State) (d : Fin 50), 2 ≤ d.val → domOn s (d.val + 1) = true → s.ps.req.getLsbD d.val = false →
    s.ps.runPhase = true → ∃ t, exec (.domainSwitchOff d) s = .next t ∧ t.ps.on.getLsbD d.val = false ∧
      (∀ e, t.ps.on.getLsbD e = true → s.ps.on.getLsbD e = true) ∧ t.ps.fail = s.ps.fail ∧
      t.hub.raised = s.hub.raised ∧ t.docket = s.docket)) ∧
  ((∀ (s : State) (r : Fin 12), exec (.seqpgRise r) s = .next { s with ps := { s.ps with
    seqpg := setBit s.ps.seqpg r.val true
    rails := if s.ps.rails[r] = .ramping then s.ps.rails.set r .settling else s.ps.rails } }) ∧
  (∀ (s : State) (r : Fin 12), s.ps.rails[r] = .settling → ∃ t, exec (.railSettled r) s = .next t ∧
    t = { s with ps := t.ps, rst := { s.rst with step := t.rst.step }, loader := { s.loader with st := t.loader.st } } ∧
    t.ps.rails[r] = .good ∧ t.ps.order = s.ps.order ++ [0x81 + r.val] ∧ t.ps.on = s.ps.on) ∧
  (∀ (s : State) (r : Fin 12), s.ps.rails[r] = .ramping → quiet s = true → Mild 0x04 s →
    ∃ t, exec (.railTimeout r) s = .next t ∧ Stands 0x04 t ∧ t.ps.rails[r] = .failed ∧
      t.ps.railFail = setBit s.ps.railFail r.val true ∧ t.docket = s.docket) ∧
  (∀ (s : State) (r : Fin 12), s.ps.rails[r] = .good → quiet s = true → Mild 0x04 s →
    ∃ t, exec (.seqpgDrop r) s = .next t ∧ Stands 0x04 t ∧ t.ps.rails[r] = .failed ∧
      t.ps.railFail = setBit s.ps.railFail r.val true ∧
      (∀ e, t.ps.on.getLsbD e = true → s.ps.on.getLsbD e = true) ∧ t.docket = s.docket) ∧
  (∀ (s : State) (r : Fin 12), s.ps.rails[r] ≠ .good →
    exec (.seqpgDrop r) s = .next { s with ps := { s.ps with
      seqpg := setBit s.ps.seqpg r.val false
      rails := if s.ps.rails[r] = .settling then s.ps.rails.set r .ramping else s.ps.rails } }) ∧
  (∀ (m : Master) (v : Word) (s : State), Granted m 0x01 0x18 v s → exec (.psReqWrite m false v) s = .next { s with
    ps := { s.ps with req := ((s.ps.req.setWidth 64 >>> 32).setWidth 32 ++ v).setWidth 50 ||| 0x0800_0000_200F } }) ∧
  (∀ (m : Master) (v : Word) (s : State), Granted m 0x01 0x1C v s → exec (.psReqWrite m true v) s = .next { s with
    ps := { s.ps with req := (v ++ s.ps.req.setWidth 32).setWidth 50 ||| 0x0800_0000_200F } }) ∧
  (∀ (m : Master) (v : Word) (s : State), Granted m 0x01 0x10 v s → exec (.psFailClear m .lo v) s =
    .next { s with ps := { s.ps with fail := s.ps.fail &&& ~~~(v.setWidth 50) } }) ∧
  (∀ (m : Master) (v : Word) (s : State), Granted m 0x01 0x14 v s → exec (.psFailClear m .hi v) s =
    .next { s with ps := { s.ps with fail := s.ps.fail &&& ~~~(v.setWidth 50 <<< 32) } }) ∧
  (∀ (m : Master) (v : Word) (s : State), Granted m 0x01 0x24 v s → ∃ t, exec (.psFailClear m .ext v) s = .next t ∧
    t = { s with ps := t.ps } ∧ t.ps.railFail = s.ps.railFail &&& ~~~(v.setWidth 12) ∧ t.ps.on = s.ps.on ∧
    ∀ r : Fin 12, s.ps.rails[r] = .good → t.ps.rails[r] = .good))

/-! ## The engine link and the H-die's guards (R145-R152, R271, R309, R327, R329) -/

/-- A frame with a good CRC and the expected sequence number counts as valid; any other raises ENGLINK_CRC, starts the
count of 1,000 again and is not acted on. A good status frame brings the H-die's state, its dissipation estimate and its
ADC values; a trip condition that it reports alone raises its fault. The
loss of the link, of the forwarded clock or of the H-die itself puts the H-die into its safe state with every output
off; 1,000 valid frames end a loss on either side, and SAFE_EXIT then leaves the safe state unless ENG_HOLD is set, the
forwarded clock is down, or ENGLINK_LOSS or HDIE_RESET is not cleared.
Where the spec leaves it open, this rests on the model's choices of log 35 (resynchronisation) and log 12 (the estimate's mean). -/
def Obligations.LinkIsGuarded : Prop :=
  ((∀ s : State, exec (.controlFrame true s.hdie.rxSeq) s = .next { s with
    hdie := { s.hdie with rxSeq := s.hdie.rxSeq + 1, validRun := min 1000 (s.hdie.validRun + 1) } }) ∧
  (∀ (s : State) (q : BitVec 16), q ≠ s.hdie.rxSeq → Mild 0xC1 s → ∃ t, exec (.controlFrame true q) s = .next t ∧
    RaisedOnly 0xC1 { s with hdie := { s.hdie with rxSeq := q + 1, validRun := 0 } } t) ∧
  (∀ (s : State) (q : BitVec 16), Mild 0xC1 s → ∃ t, exec (.controlFrame false q) s = .next t ∧
    RaisedOnly 0xC1 { s with hdie := { s.hdie with rxSeq := s.hdie.rxSeq + 1, validRun := 0 } } t) ∧
  (∀ (s : State) (q : BitVec 16) (body : StatusBody), Mild 0xC1 s → ∃ t, exec (.statusFrame false q body) s = .next t ∧
    RaisedOnly 0xC1 { s with link := { s.link with rxSeq := s.link.rxSeq + 1, validRun := 0 } } t) ∧
  (∀ (s : State) (body : StatusBody),
    (s.hdie.safe = true → s.envg.safe = true ∨ s.rst.engHold = true ∨ s.hdie.underHold = true) →
    body.present = 0 → ∃ t, exec (.statusFrame true s.link.rxSeq body) s = .next t ∧
      t.link = { s.link with
        rxSeq := s.link.rxSeq + 1, validRun := min 1000 (s.link.validRun + 1), estimate := body.estimate
        estSum := s.link.estSum + body.estimate, estN := s.link.estN + 1 } ∧
      t.envg = { s.envg with loaded := s.hdie.loaded, locked := s.hdie.lock, safe := s.hdie.safe
                             limit := body.limit.setWidth 32 } ∧
      t = { s with link := t.link, envg := t.envg, hub := { s.hub with present := t.hub.present }
                   adc := t.adc, fuser := t.fuser, hv := t.hv } ∧
      ∀ i x ok, body.adc = [(i, x, ok)] → t.adc.val = s.adc.val.set i x ∧
        t.adc.valid = setBit s.adc.valid i.val ok ∧ t.adc.sweep = s.adc.sweep + 1 ∧
        (i.val < 26 ∨ 29 < i.val → t.fuser = s.fuser ∧ t.hv = s.hv)) ∧
  (∀ (s : State) (body : StatusBody) (j : Fin 16), (faultRow (0x80 + j.val) 0).map (·.level) = some true →
    (s.hdie.safe = true → s.envg.safe = true ∨ s.rst.engHold = true ∨ s.hdie.underHold = true) →
    body.present = BitVec.twoPow 16 j.val → s.hub.present.getLsbD (0x80 + j.val) = false →
    Mild (BitVec.ofNat 8 (0x80 + j.val)) s → ∃ t, exec (.statusFrame true s.link.rxSeq body) s = .next t ∧
      Stands (BitVec.ofNat 8 (0x80 + j.val)) t ∧ t.docket = s.docket ∧ t.counters = s.counters ∧ MemSame s t)) ∧
  ((∀ s : State, ∃ t, exec .hdieLinkTimeout s = .next t ∧ t.hdie.safe = true ∧ t.hdie.validRun = 0 ∧ OutputsCut t ∧
    t = { s with beam := t.beam, fuser := t.fuser, hv := t.hv, outHold := t.outHold, motors := t.motors
                 hdie := { s.hdie with
                   safe := true, validRun := 0, dump := false, underHold := s.hdie.underHold || s.rst.engHold }
                 sinov := { s.sinov with diag := Vector.replicate 16 none } }) ∧
  (∀ s : State, ∃ t, exec .fwdClockLow s = .next t ∧ t.hdie.safe = true ∧ t.hdie.validRun = 0 ∧ OutputsCut t ∧
    t = { s with beam := t.beam, fuser := t.fuser, hv := t.hv, outHold := t.outHold, motors := t.motors
                 hdie := { s.hdie with
                   safe := true, validRun := 0, dump := false, underHold := s.hdie.underHold || s.rst.engHold }
                 sinov := { s.sinov with diag := Vector.replicate 16 none } }) ∧
  (∀ s : State, Mild 0x94 s → ∃ t, exec .hdieSelfReset s = .next t ∧ Stands 0x94 t ∧ t.hdie.safe = true ∧
    t.hdie.lock = false ∧ t.hdie.loaded = false ∧ t.hdie.env = HDie.reset.env ∧ OutputsCut t ∧
    t.envg = { s.envg with loaded := false, locked := false } ∧ t.counters = s.counters ∧ MemSame s t ∧
    t.docket = s.docket) ∧
  (∀ s : State, s.hub.present.getLsbD 0xC0 = false → ∃ t, exec .englinkLoss s = .next t ∧ Stands 0xC0 t ∧
    t.link = { s.link with validRun := 0, lost := true } ∧
    (Mild 0xC0 s → RisesOnly 0xC0 { s with link := { s.link with validRun := 0, lost := true } } t)) ∧
  (∀ s : State, exec .englinkRecovered s =
    .next (Falls 0xC0 { s with link := { s.link with validRun := 1000, lost := false } })) ∧
  (∀ s : State, exec .hdieLinkRestored s = .next { s with hdie := { s.hdie with validRun := 1000 } }) ∧
  (∀ s : State, s.hdie.safe = true → 1000 ≤ s.hdie.validRun → s.rst.engHold = false → s.clk.fb.getLsbD 1 = false →
    s.hub.raised.getLsbD 0xC0 = false → s.hub.raised.getLsbD 0x94 = false → (s.sys.mode ≠ 2 ∨ sinovRuns s = false) →
    exec .safeExit s = .next { s with hdie := { s.hdie with safe := false, underHold := false } }) ∧
  (∀ s : State, s.hdie.safe = true → 1000 ≤ s.hdie.validRun → s.rst.engHold = false → s.clk.fb.getLsbD 1 = false →
    s.hub.raised.getLsbD 0xC0 = false → s.hub.raised.getLsbD 0x94 = false → s.sys.mode = 2 → sinovRuns s = true →
    exec .safeExit s = .next (applyAll true { s with
      hdie := { s.hdie with safe := false, underHold := false }
      outHold := { s.outHold with faults := s.outHold.faults &&& s.hub.raised } })) ∧
  (∀ s : State, (s.hub.raised.getLsbD 0xC0 = true ∨ s.hub.raised.getLsbD 0x94 = true) → exec .safeExit s = .next s) ∧
  (∀ s : State, (s.rst.engHold = true ∨ s.hdie.validRun < 1000 ∨ s.clk.fb.getLsbD 1 = true) → exec .safeExit s = .next s))

/-- The laser guards: a laser over its current envelope goes dark and is latched off; a beam lit for ENV_LD_ON puts
every laser out. The guards of the HV channels inhibit a drive, and latch an overvoltage. The heater guards: a heater
at its duty envelope is held off for the rest of its window; one that conducts while off, or a TSF out of range,
switches both off and latches them. A TSF in range changes only what FU_TSF reads. The motor guards: a phase over its
current, seen at the shunt of a leg that conducts low, trips its channel with every gate off; a channel too fast is latched
and braked, or coasts where its gates are held off. While the fault takes no action, the clauses that say so leave every
counter and memory as they are. -/
def Obligations.GuardsTrip : Prop :=
  ((∀ (b : Fin 4) (s : State), s.hub.present.getLsbD (0x80 + b.val) = false → ∃ t, exec (.ldCurrentTrip b) s = .next t ∧
    Stands (BitVec.ofNat 8 (0x80 + b.val)) t ∧ t.beam.ld[b].lit = false ∧ t.hdie.ldOff.getLsbD b.val = true ∧
    t.envg.trip.getLsbD b.val = true ∧ (Mild (BitVec.ofNat 8 (0x80 + b.val)) s →
      (∀ c : Fin 4, c ≠ b → t.beam.ld[c] = s.beam.ld[c]) ∧ t.motors = s.motors ∧ t.fuser = s.fuser ∧
      t.counters = s.counters ∧ MemSame s t)) ∧
  (∀ (b : Fin 4) (s : State), ∃ t, exec (.ldOntimeTrip b) s = .next t ∧ Stands 0x84 t ∧
    (∀ c : Fin 4, t.beam.ld[c].lit = false) ∧ t.hdie.ldOnOff = true ∧ t.envg.trip.getLsbD 4 = true ∧
    (Mild 0x84 s → t.motors = s.motors ∧ t.fuser = s.fuser ∧ t.counters = s.counters ∧ MemSame s t)) ∧
  (∀ (c : Fin 3) (s : State), s.hub.present.getLsbD 0x8E = false → ∃ t, exec (.hvOvervoltTrip c) s = .next t ∧
    Stands 0x8E t ∧ t.hdie.hvOff.getLsbD c.val = true ∧ t.hv.trip.getLsbD c.val = true ∧
    t.envg.trip.getLsbD (14 + c.val) = true ∧
    (Mild 0x8E s → t.motors = s.motors ∧ t.beam = s.beam ∧ t.counters = s.counters ∧ MemSame s t)) ∧
  (∀ (c : Fin 3) (on : Bool) (s : State),
    exec (.hvEnvelopeInhibit c on) s = .next { s with hv := { s.hv with inhib := setBit s.hv.inhib c.val on } })) ∧
  ((∀ (h : Fin 2) (s : State), ∃ t x, exec (.htrDutyHold h) s = .next t ∧
    t = { s with fuser := { s.fuser with htr := s.fuser.htr.set h x } } ∧ x.on = false ∧ x.held = true ∧
    x.history.drop 1 = s.fuser.htr[h].history.drop 1) ∧
  (∀ (h : Fin 2) (s : State), s.hub.present.getLsbD (0x85 + h.val) = false → ∃ t, exec (.htrStuckTrip h) s = .next t ∧
    Stands (BitVec.ofNat 8 (0x85 + h.val)) t ∧ (∀ j : Fin 2, t.fuser.htr[j].on = false) ∧ t.hdie.htrOff = 3 ∧
    t.envg.trip.getLsbD (5 + h.val) = true ∧ (Mild (BitVec.ofNat 8 (0x85 + h.val)) s →
      t.motors = s.motors ∧ t.beam = s.beam ∧ t.counters = s.counters ∧ MemSame s t)) ∧
  (∀ (mv : BitVec 12) (s : State), s.hdie.env.tsf.toNat ≤ mv.toNat → mv.toNat ≤ 3200 →
    exec (.tsfTrip mv) s = .next { s with fuser := { s.fuser with tsf := mv, tsfOk := true } }) ∧
  (∀ (mv : BitVec 12) (s : State), (mv.toNat < s.hdie.env.tsf.toNat ∨ 3200 < mv.toNat) →
    s.hub.present.getLsbD 0x87 = false → ∃ t, exec (.tsfTrip mv) s = .next t ∧ Stands 0x87 t ∧
      (∀ j : Fin 2, t.fuser.htr[j].on = false) ∧ t.hdie.htrOff = 3 ∧ t.envg.trip.getLsbD 7 = true ∧
      (Mild 0x87 s → t.fuser.tsf = mv ∧ t.fuser.tsfOk = false ∧ t.motors = s.motors ∧ t.beam = s.beam ∧
        t.counters = s.counters ∧ MemSame s t))) ∧
  ((∀ (k : Fin 6) (s : State), shuntSeen s.motors[k] = false → exec (.phaseCurrentTrip k) s = .next s) ∧
  (∀ (k : Fin 6) (s : State), shuntSeen s.motors[k] = true → ∃ t, exec (.phaseCurrentTrip k) s = .next t ∧
    Stands (BitVec.ofNat 8 (0x88 + k.val)) t ∧ t.hdie.mOff.getLsbD k.val = true ∧
    t.envg.trip.getLsbD (8 + k.val) = true ∧ (Mild (BitVec.ofNat 8 (0x88 + k.val)) s →
      t.motors[k].state = .tripped ∧ t.motors[k].events = s.motors[k].events ||| 1 ∧
      (∀ x : Fin 3, t.motors[k].legs[x].hi = false ∧ t.motors[k].legs[x].lo = false) ∧
      (∀ j : Fin 6, j ≠ k → t.motors[j] = s.motors[j]) ∧ t.docket = s.docket ∧ t.counters = s.counters ∧
      MemSame s t)) ∧
  (∀ (k : Fin 6) (s : State), s.hub.present.getLsbD 0x8F = false → ∃ t, exec (.overspeedTrip k) s = .next t ∧
    Stands 0x8F t ∧ t.envg.trip.getLsbD (17 + k.val) = true ∧ t.hdie.mFast.getLsbD k.val = true ∧ (Mild 0x8F s →
      t.motors[k].events = s.motors[k].events ||| 2 ∧ (∀ x : Fin 3, t.motors[k].legs[x].hi = false) ∧
      (gatesBlocked s k = false → s.motors[k].en = true → t.motors[k].state = .brake) ∧
      (gatesBlocked s k = true ∨ s.motors[k].en = false →
        t.motors[k].state ≠ .brake ∧ ∀ x : Fin 3, t.motors[k].legs[x].lo = false) ∧
      (∀ j : Fin 6, j ≠ k → t.motors[j] = s.motors[j]) ∧ t.docket = s.docket ∧ t.counters = s.counters ∧
      MemSame s t)))

/-! ## The fault hub (R153-R165, R223) -/

/-- A grace timer that expires begins the action it was started with: ESC_SPOIL stops safely and ends an admission,
ESC_WARM is a WARM reset, ESC_OFF cuts every output and begins the shut-off. FE_ESC records it. FH_CMD: ACK clears UNACK, CLEAR clears RAISED unless the
condition is present or the fault's grace timer expires in the same cycle, RAISE raises a fault from 0xE0 up; FE_CLEAR frees
the error capture. RST_REL.ENG_REL ends ENG_HOLD but in the minimal service set. A safe stop that completes closes a spoiled
page. A parity scan changes nothing without a mismatch in a critical register; outside the loader a
mismatch is latched and is a SYSTEM reset with code 0x09. Where the spec leaves it open, this rests on the model's
choices of logs 24, 44 and 45. -/
def Obligations.HubActsOnFaults : Prop :=
  ((∀ (f : Byte) (s : State), s.hub.timing.getLsbD f.toNat = true → bits (s.hub.timerCfg[f.toNat]?.getD 0) 2 2 = (0 : BitVec 2) →
    ∃ t, exec (.graceExpire f) s = .next t ∧ t.hub = { s.hub with
        timing := setBit s.hub.timing f.toNat false
        expired := setBit (if s.hub.expiredAt = s.devtime then s.hub.expired else 0) f.toNat true, expiredAt := s.devtime
        escAction := 0, escValid := true, escId := f, escTime := s.devtime, present := t.hub.present } ∧
      (∀ b : Fin 4, t.beam.ld[b].lit = false) ∧ (∀ h : Fin 2, t.fuser.htr[h].on = false) ∧
      t.motors = (stopMotors s).motors ∧ t.sinov.admission = none ∧
      (s.docket.st = .armed → t.docket.st = .spoiled ∧ t.docket.outcome = 2 ∧ t.docket.spoilFault = f ∧
        t.docket.faultValid = true ∧ t.docket.written = s.docket.written) ∧
      (pageInFlight s = false → t.docket = s.docket) ∧ t.counters = s.counters ∧ MemSame s t) ∧
  (∀ (f : Byte) (s : State), s.hub.timing.getLsbD f.toNat = true → bits (s.hub.timerCfg[f.toNat]?.getD 0) 2 2 = (2 : BitVec 2) →
    Asserts 2 s → ∃ t, exec (.graceExpire f) s = .next t ∧ t.hub.escAction = 2 ∧ t.hub.escValid = true ∧
      t.hub.escId = f ∧ t.hub.escTime = s.devtime ∧ WarmReset (if f = 0xC0 then 0x0C else 0x06) s t) ∧
  (∀ (f : Byte) (s : State), s.hub.timing.getLsbD f.toNat = true → bits (s.hub.timerCfg[f.toNat]?.getD 0) 2 2 = (3 : BitVec 2) →
    ∃ t, exec (.graceExpire f) s = .next t ∧ t.hub.escAction = 3 ∧ t.hub.escId = f ∧ OutputsCut t ∧
      (shutOff s = false → t.ps.offCause = .escOff) ∧ pageInFlight t = false ∧ t.ps.on = s.ps.on ∧ t.counters = s.counters ∧ MemSame s t) ∧
  (∀ (f : Byte) (s : State), s.hub.timing.getLsbD f.toNat = false → exec (.graceExpire f) s = .next s)) ∧
  ((∀ (m : Master) (f : Byte) (s : State), Granted m 0x06 0x60 (f.setWidth 32 ||| 0x100) s →
    exec (.fhAck m f) s = .next { s with hub := { s.hub with unack := setBit s.hub.unack f.toNat false } }) ∧
  (∀ (m : Master) (f : Byte) (s : State), Granted m 0x06 0x60 (f.setWidth 32 ||| 0x200) s → s.outHold.faults = 0 →
    (faultPresent s f.toNat = true ∨ expiryWins f.toNat s = true) → exec (.fhClear m f) s = .next s) ∧
  (∀ (m : Master) (f : Byte) (s : State), Granted m 0x06 0x60 (f.setWidth 32 ||| 0x200) s → s.outHold.faults = 0 →
    faultPresent s f.toNat = false → expiryWins f.toNat s = false → ∃ t, exec (.fhClear m f) s = .next t ∧
      t.hub = { s.hub with raised := setBit s.hub.raised f.toNat false, timing := setBit s.hub.timing f.toNat false } ∧
      t = { s with hub := t.hub, hdie := t.hdie, envg := { s.envg with trip := t.envg.trip }
                   hv := { s.hv with trip := t.hv.trip }, motors := t.motors } ∧
      (f.toNat < 0x80 → t.hdie = s.hdie ∧ t.envg = s.envg ∧ t.hv = s.hv ∧ t.motors = s.motors)) ∧
  (∀ (m : Master) (f : Byte) (s : State), Granted m 0x06 0x60 (f.setWidth 32 ||| 0x300) s →
    (f = 0xE0 ∨ f = 0xE1 ∨ f = 0xE2 ∨ f = 0xE3) → Mild f s → ∃ t, exec (.fhRaise m f) s = .next t ∧ RaisedOnly f s t) ∧
  (∀ (m : Master) (f : Byte) (s : State), Granted m 0x06 0x60 (f.setWidth 32 ||| 0x300) s → f.toNat < 0xE0 →
    exec (.fhRaise m f) s = .next s) ∧
  (∀ (m : Master) (s : State), Granted m 0x06 0xA0 1 s → exec (.feClear m) s = .next { s with hub := { s.hub with
    feValid := false, feAddr := 0, feMaster := 0xFF, feKind := 0, feSize := 0, feTime := 0, feSource := 0, feOver := 0 } }) ∧
  (∀ (m : Master) (s : State), Granted m 0x02 0x24 1 s → s.dbg.haltReq = 0 → s.sys.minset = false →
    exec (.engRel m) s = .next { s with rst := { s.rst with engHold := false } })) ∧
  ((∀ s : State, s.docket.st = .spoiled → ∃ t, exec .safeStopComplete s = .next t ∧ t.docket.st = .closed ∧
    t.docket.blanked = s.docket.planned - s.docket.written ∧ t.docket.outcome = s.docket.outcome ∧
    t = { s with docket := t.docket, dkStore := t.dkStore, sinov := { s.sinov with wants := t.sinov.wants } }) ∧
  (∀ s : State, pageInFlight s = false → exec .safeStopComplete s = .next s) ∧
  (∀ s : State, exec (.parityScan none) s = .next s) ∧
  (∀ (s : State) (bank : BitVec 8) (ofs : BitVec 16), criticalReg s bank.toNat ofs.toNat = false →
    exec (.parityScan (some (bank, ofs))) s = .next s) ∧
  (∀ (s : State) (bank : BitVec 8) (ofs : BitVec 16), criticalReg s bank.toNat ofs.toNat = true → inLoader s = false →
    Asserts 1 s → ∃ t, exec (.parityScan (some (bank, ofs))) s = .next t ∧ SystemReset 0x09 s t ∧
      t.rst.parLoc = 0x8000_0000 ||| (ofs.setWidth 32 <<< 8) ||| bank.setWidth 32))

/-! ## Resets, watchdogs and block resets (R207-R233) -/

/-- A cause asserts unless it is weaker than a reset that has not released the Keeper, or the device has shut off, which only
nRST ends. nRST under 1 µs does nothing and from 10 µs is a SYSTEM reset, as are a RESET command, RST_REQ with its key and
kind 1, the debug reset and a double-bit error in Keeper SRAM, each with its code. The Keeper watchdog, a kick of it
with a wrong value, and RST_REQ with kind 2 are WARM resets; a kick with the key changes nothing. The application
watchdog resets the cluster, unless a reset has not released the Keeper; a kick of it, and a request without the key, change
nothing. A single-bit error in Keeper SRAM only raises its fault. Where the spec leaves it open,
this rests on the model's choices of logs 10, 18, 48, 56 and 57. -/
def Obligations.ResetsAssert : Prop :=
  ((∀ (s : State) (ns : Nat), ns < 1000 → exec (.nrstPulse ns) s = .next s) ∧
  (∀ (s : State) (ns : Nat), 10000 ≤ ns → aoUp s = true → (shutOff s = true ∨ Asserts 1 s) →
    ∃ t, exec (.nrstPulse ns) s = .next t ∧ SystemReset 0x03 s t) ∧
  (∀ (s : State) (ns : Nat), 10000 ≤ ns → aoUp s = true → shutOff s = false → assertable 1 s = false →
    exec (.nrstPulse ns) s = .next s) ∧
  (∀ s : State, s.sinov.resetReq = some 1 → aoUp s = true → Asserts 1 s →
    ∃ t, exec .resetCmdAssert s = .next t ∧ SystemReset 0x07 s t) ∧
  (∀ (m : Master) (s : State), Granted m 0x02 0x18 0x5253_0001 s → aoUp s = true → Asserts 1 s →
    ∃ t, exec (.rstReq m 0x5253_0001) s = .next t ∧ SystemReset 0x07 s t) ∧
  (∀ (m : Master) (v : Word) (s : State), Granted m 0x02 0x18 v s → v >>> 16 ≠ 0x5253 →
    exec (.rstReq m v) s = .next s) ∧
  (∀ s : State, domOn s 49 = true → aoUp s = true → Asserts 1 s →
    ∃ t, exec .debugReset s = .next t ∧ SystemReset 0x0B s t) ∧
  (∀ s : State, domOn s 49 = false → exec .debugReset s = .next s) ∧
  (∀ (ofs : BitVec 18) (s : State), aoUp s = true → Asserts 1 s →
    ∃ t, exec (.ksramDoubleBit ofs) s = .next t ∧ SystemReset 0x08 s t ∧
      t.rst.dedAddr = 0x8000_0000 ||| ofs.setWidth 32)) ∧
  ((∀ s : State, s.rst.kwdgRun = true → Asserts 2 s →
    ∃ t, exec .keeperWatchdogExpire s = .next t ∧ WarmReset 0x04 s t) ∧
  (∀ s : State, s.rst.kwdgRun = false → exec .keeperWatchdogExpire s = .next s) ∧
  (∀ (m : Master) (s : State), Granted m 0x02 0x44 0x6B64 s → exec (.rstKwdgKick m 0x6B64) s = .next s) ∧
  (∀ (m : Master) (v : Word) (s : State), Granted m 0x02 0x44 v s → v ≠ 0x6B64 → s.rst.kwdgRun = true →
    Asserts 2 s → ∃ t, exec (.rstKwdgKick m v) s = .next t ∧ WarmReset 0x04 s t) ∧
  (∀ (m : Master) (s : State), Granted m 0x02 0x18 0x5253_0002 s → Asserts 2 s →
    ∃ t, exec (.rstReq m 0x5253_0002) s = .next t ∧ WarmReset 0x07 s t) ∧
  (∀ s : State, s.sinov.resetReq = some 2 → Asserts 2 s →
    ∃ t, exec .resetCmdAssert s = .next t ∧ WarmReset 0x07 s t) ∧
  (∀ s : State, s.rst.awdgEn = true → s.rst.blk[(0 : Fin 24)] = .none → domOn s 13 = true → releasing s = false →
    blockOuts 0 s = [] →
    ∃ t, exec .appWatchdogExpire s = .next t ∧ t.rst.cause = 0x05 ∧ t.rst.kind = s.rst.kind ∧
      t.rst.count = (if s.rst.fresh = true then s.rst.count else satInc s.rst.count) ∧ t.rst.time = rtcNow s ∧
      t.rst.blk[(0 : Fin 24)] = (if blockIsolates s 0 then .held else .draining) ∧
      t.counters = s.counters ∧ t.hub = s.hub ∧ t.docket = s.docket ∧ t.motors = s.motors ∧ MemSame s t) ∧
  (∀ s : State, (s.rst.awdgEn = false ∨ releasing s = true ∧ s.rst.blk[(0 : Fin 24)] = .none) →
    exec .appWatchdogExpire s = .next s) ∧
  (∀ (m : Master) (v : Word) (s : State), Granted m 0x02 0x4C v s → exec (.rstAwdgKick m v) s = .next s) ∧
  (∀ (ofs : BitVec 18) (s : State), Mild 0x24 s →
    ∃ t, exec (.ksramSingleBit ofs) s = .next t ∧ RaisedOnly 0x24 s t))

/-- A BLOCK reset of a motor channel: the fence, the drain or its timeout, the hold, and the release with the channel's
registers at their reset values; a block's release leaves the counters and the docket. A request without its key, for a block
already in reset, or while a reset has not released the Keeper, does nothing. The Keeper is released: the
boot ROM clears Keeper SRAM and starts the watchdog, takes the consumers of SOCPLL back, and Sinov scans the ledger
where the pointers were lost, or, without the ledger's domain, sets the mode. A core's release adds to those released, but
none is released in the minimal service set or before DRAM is ready;
HOLD_REL lets the held pins go. Where the spec leaves it open, this rests on the model's choices of logs 40 and 48. -/
def Obligations.BlocksAndCoresAreReleased : Prop :=
  ((∀ (m : Master) (v : Word) (outs : List Access) (s : State), Granted m 0x02 0x1C v s → v >>> 16 ≠ 0x424B →
    exec (.rstBlkReq m v outs) s = .next s) ∧
  (∀ (m : Master) (b : Fin 24) (s : State), Granted m 0x02 0x1C (0x424B_0000 ||| BitVec.ofNat 32 b.val) s →
    (s.rst.blk[b] ≠ .none ∨ releasing s = true) → exec (.rstBlkReq m (0x424B_0000 ||| BitVec.ofNat 32 b.val) []) s = .next s) ∧
  (∀ (m : Master) (k : Fin 6) (s : State), Granted m 0x02 0x1C (0x424B_0000 ||| BitVec.ofNat 32 (6 + k.val)) s →
    s.rst.blk[(Fin.ofNat 24 (6 + k.val))] = .none → domOn s (35 + k.val) = true → releasing s = false →
    pageInFlight s = false → ∃ t, exec (.rstBlkReq m (0x424B_0000 ||| BitVec.ofNat 32 (6 + k.val)) []) s = .next t ∧
      t = { s with rst := t.rst, motors := s.motors.set k (coast s.motors[k]) } ∧
      t.rst.blk[(Fin.ofNat 24 (6 + k.val))] =
        (if blockIsolates s (Fin.ofNat 24 (6 + k.val)) then .held else .draining) ∧
      t.rst.lastBlk = BitVec.ofNat 5 (6 + k.val)) ∧
  (∀ (b : Fin 24) (s : State), s.rst.blk[b] = .draining → blockOuts b s = [] →
    exec (.blockDrainDone b) s = .next { s with rst := { s.rst with blk := s.rst.blk.set b .held } }) ∧
  (∀ (b : Fin 24) (s : State), s.rst.blk[b] = .draining → blockOuts b s = [] → Mild 0x23 s →
    ∃ t, exec (.blockDrainTimeout b []) s = .next t ∧ RaisedOnly 0x23 { s with
      rst := { s.rst with blk := s.rst.blk.set b .held, blkTimeout := true } } t) ∧
  (∀ (k : Fin 6) (s : State), s.rst.blk[(Fin.ofNat 24 (6 + k.val))] = .held → s.rst.held = [] →
    ∃ dump, exec (.blockResetRelease (Fin.ofNat 24 (6 + k.val))) s = .next { s with
      motors := s.motors.set k Motor.reset
      hdie := { s.hdie with dump := dump }
      rst := { s.rst with blk := s.rst.blk.set (Fin.ofNat 24 (6 + k.val)) .none } } ∧
      (dump = true → s.hdie.dump = true)) ∧
  (∀ (b : Fin 24) (s : State), s.rst.blk[b] = .held → s.rst.held = [] →
    ∃ t, exec (.blockResetRelease b) s = .next t ∧ t.rst.blk = s.rst.blk.set b .none ∧ t.counters = s.counters ∧
      t.hub.raised = s.hub.raised ∧ t.docket = s.docket ∧ (b ≠ 18 → MemSame s t))) ∧
  ((∀ s : State, s.rst.step = .rom → domOn s 3 = true → domOn s 4 = true → domOn s 14 = true →
    optAutoReady (optRec s) = false → ∃ t, exec .keeperRelease s = .next t ∧ t.rst.step = .sinov ∧
      t.rst.kwdgRun = true ∧ (∀ a, 0x1000_0000 ≤ a → a < 0x1004_0000 → memByte t a = 0) ∧
      MemSameBut 0x1000_0000 0x4_0000 s t ∧ t.counters = s.counters ∧ t.hub = s.hub ∧ t.motors = s.motors) ∧
  (∀ s : State, s.clk.lock.getLsbD 1 = true → s.clk.fb.getLsbD 1 = true →
    exec .bootSocpllWaitEnd s = .next { s with clk := { s.clk with fb := setBit s.clk.fb 1 false } }) ∧
  (∀ s : State, s.rst.step = .sinov → domOn s 17 = true → s.rst.kind = 0 → s.till.busy = false →
    exec .sinovPowerUp s = .next { s with till := { s.till with busy := true, op := .scan } }) ∧
  (∀ s : State, s.rst.step = .sinov → domOn s 17 = false → ∃ t, exec .sinovPowerUp s = .next t ∧ t.sys.mode = 1 ∧
    t.rst.step = .running ∧ t.sinov.omitted = true ∧ t.counters = s.counters ∧ t.hub.raised = s.hub.raised ∧
    MemSame s t) ∧
  (∀ (m : Master) (v : Word) (s : State), Granted m 0x02 0x24 (v &&& 0x1E) s →
    (v &&& 2 = 0 ∨ s.rst.cores.getLsbD 0 = true) → s.dbg.haltReq = 0 → s.sys.minset = false → s.dramc.ready = true →
    exec (.coreRelease m v) s = .next { s with rst := { s.rst with cores := s.rst.cores ||| (bits v 1 4 : BitVec 4) } }) ∧
  (∀ (m : Master) (v : Word) (s : State), Granted m 0x02 0x24 (v &&& 0x1E) s →
    (v &&& 2 = 0 ∨ s.rst.cores.getLsbD 0 = true) → s.dbg.haltReq = 0 → (s.sys.minset = true ∨ s.dramc.ready = false) →
    exec (.coreRelease m v) s = .next s) ∧
  (∀ s : State, Granted .keeper 0x02 0x24 2 s → s.crypto.loaded.getLsbD 1 = true → s.dbg.haltReq = 0 →
    s.sys.minset = false → s.dramc.ready = true →
    ∃ t, exec (.coreRelease .keeper 2) s = .next t ∧ t = { s with
      rst := { s.rst with cores := s.rst.cores ||| 1 }, xspi := { s.xspi with aslot := t.xspi.aslot } }) ∧
  (∀ (m : Master) (s : State), Granted m 0x02 0x24 0x100 s → s.rst.holdRelOpen = true → s.dbg.haltReq = 0 →
    exec (.holdRel m) s = .next { s with
      gpio := s.gpio.set 3 { s.gpio[3] with held := 0 }
      rst := { s.rst with holdRelOpen := false, holdRel := true } }) ∧
  (∀ (m : Master) (s : State), Granted m 0x02 0x24 0x100 s → s.rst.holdRelOpen = false → s.dbg.haltReq = 0 →
    exec (.holdRel m) s = .next { s with rst := { s.rst with holdRel := true } }))

/-- After the off time the boot phase starts; the option loader applies both equal copies, the one valid copy or the
ROM safe record, and transfers the envelope to the H-die, which loads it once and locks; without an answer HDIE_RESET
is raised. A VERIFY failure in ENTRY counts in LOAD_FAILS and is a SYSTEM reset with code 0x0A; with LOAD_FAILS at 3 the ROM safe
record is applied, and its own VERIFY failure stops the loader for good. Where the spec leaves it open, this rests on the
model's choices of logs 3, 13 and 23. -/
def Obligations.LoaderAppliesARecord : Prop :=
  (∀ s : State, s.ps.phase = .boot → s.ps.offDelay = true → s.rst.step ≠ .loaderFail →
    ∃ t, exec .resetOffTimeEnd s = .next t ∧
    t = { s with ps := t.ps, rst := { s.rst with step := .boot } } ∧ t.ps.offDelay = false ∧ t.ps.phase = .boot ∧
    t.ps.on = s.ps.on) ∧
  (∀ (s : State) (r : Bool), inEntry s = true → copyBytes s false = copyBytes s true →
    copyValid (copyBytes s false) false = true → ∃ t, exec (.loaderEntryReady r false false true) s = .next t ∧
      t.rst.applied = 0 ∧ t.rst.optState = 0 ∧ t.rst.validA = true ∧ t.rst.validB = true ∧ t.rst.optrec = r ∧
      t.loader.st = .envXfer ∧ t.loader.outcome = none ∧ t.optshd.toList.take 4 = (copyBytes s false).take 4 ∧
      t.hub.tableDone = true ∧ t.hub.raised = s.hub.raised ∧ t.docket = s.docket ∧ MemSame s t) ∧
  (∀ s : State, inEntry s = true → copyValid (copyBytes s false) false = true → copyValid (copyBytes s true) false = false →
    ∃ t, exec (.loaderEntryReady false false false true) s = .next t ∧ t.rst.applied = 0 ∧ t.rst.optState = 1 ∧
      t.loader.outcome = some 0x20 ∧ t.loader.st = .envXfer ∧ MemSame s t) ∧
  (∀ (s : State) (r : Bool), inEntry s = true → ∃ t, exec (.loaderEntryReady r true true true) s = .next t ∧
    t.rst.applied = 2 ∧ t.rst.optState = 3 ∧ t.loader.outcome = some 0x22 ∧ t.loader.st = .envXfer ∧
    t.rst.validA = false ∧ t.rst.validB = false ∧ MemSame s t) ∧
  (∀ s : State, inEntry s = true → ∃ t, exec (.loaderEntryTimeout true) s = .next t ∧ t.rst.applied = 2 ∧
    t.rst.optState = 3 ∧ t.loader.outcome = some 0x22 ∧ t.loader.st = .envXfer ∧ MemSame s t) ∧
  (∀ s : State, inEntry s = true → Asserts 1 s → ∃ t, exec (.loaderEntryTimeout false) s = .next t ∧
    t.rst.loadFails = satInc s.rst.loadFails ∧ t.rst.cause = 0x0A ∧ t.rst.kind = 1 ∧ t.ps.on = 3 ∧ t.rst.engHold = true) ∧
  (∀ s : State, s.loader.st = .entry → 3 ≤ s.rst.loadFails.toNat → ∃ t, exec (.loadFailsLimit false) s = .next t ∧
    t.rst.step = .loaderFail ∧ t.loader.st = .fail ∧ t.rst.applied = 2 ∧ MemSame s t) ∧
  (∀ (s : State) (toB : Bool), Sound s → s.loader.st = .repair toB → ∃ t, exec (.loaderRepairDone true true) s = .next t ∧
    t.rst.applied = (if toB then 0 else 1) ∧ t.rst.optState = 1 ∧ t.rst.repaired = true ∧
    t.loader.outcome = some 0x20 ∧ t.loader.st = .envXfer ∧ copyBytes t toB = copyBytes s (!toB) ∧
    MemSameBut (copyAddr toB) 512 s t) ∧
  (∀ s : State, s.loader.st = .entry → 3 ≤ s.rst.loadFails.toNat → ∃ t, exec (.loadFailsLimit true) s = .next t ∧
    t.rst.applied = 2 ∧ t.rst.optState = 3 ∧ t.loader.byLimit = true ∧ t.loader.st = .envXfer ∧ MemSame s t) ∧
  (∀ s : State, s.loader.st = .envXfer → s.loader.outcome = none → s.hdie.lock = false →
    ∃ t, exec .loaderEnvXferAck s = .next t ∧
      t.hdie = { s.hdie with env := s.envg.shadow, lock := true, loaded := true } ∧
      t.envg = { s.envg with loaded := true, locked := true } ∧ t.loader.st = .done ∧ t.rst.step = .rom ∧
      t.ps.phase = .runUp ∧ t.hub = s.hub ∧ MemSame s t) ∧
  (∀ s : State, s.loader.st = .envXfer → s.loader.outcome = none → Mild 0x94 s →
    ∃ t, exec .loaderEnvXferTimeout s = .next t ∧ Stands 0x94 t ∧ t.hdie = s.hdie ∧ t.envg = s.envg ∧
      t.loader.st = .done ∧ t.rst.step = .rom ∧ MemSame s t)

/-! ## Clocks (R234-R254) -/

/-- A PLL declared unlocked moves its consumers to the fallback and raises its fault; the loss of SOCPLL or PIXPLL darkens the
lasers, that of PIXPLL freezes the ramp. A PLL locks where CK_REF is present; its consumers return by CLK_RESUME, by RESUME of
PR_CTRL, or by Sinov, at once, for PIXPLL only in READY with no page, and CPUPLL's not after a power-fail warning. The loss of
CK_REF is CKREF_LOSS and unlocks the three other PLLs, PIXPLL's consumers use the fallback. CLK_CPU ignores 1 and waits on the
fallback. PR_CTRL: EN 1 starts no segment, PROFILE waits for the next retrigger, EN 0 holds the offset at 0. A segment that ends
leaves the offset at its value and begins the next; after the last the offset holds. Where the spec leaves it open, this rests on
the model's choices of log 32. -/
def Obligations.ClocksFallBackAndRamp : Prop :=
  ((∀ (p : Fin 4) (s : State), s.clk.lock.getLsbD p.val = true →
    Mild (BitVec.ofNat 8 (0x40 + p.val)) s → ∃ t, exec (.pllUnlock p) s = .next t ∧
      Stands (BitVec.ofNat 8 (0x40 + p.val)) t ∧ t.clk = { s.clk with
        lock := setBit s.clk.lock p.val false, fb := setBit s.clk.fb p.val true
        events := setBit s.clk.events p.val true } ∧
      ((p = 1 ∨ p = 3) → ∀ b : Fin 4, t.beam.ld[b].lit = false) ∧ (p = 3 → t.pix.frozen = true) ∧
      t.counters = s.counters ∧ t.motors = s.motors ∧ MemSame s t) ∧
  (∀ (p : Fin 4) (s : State), s.clk.lock.getLsbD p.val = false → exec (.pllUnlock p) s = .next s) ∧
  (∀ (p : Fin 4) (s : State), s.clk.refOk = true → sinovRuns s = false →
    exec (.pllLock p) s = .next { s with clk := { s.clk with lock := setBit s.clk.lock p.val true } }) ∧
  (∀ (p : Fin 4) (s : State), s.clk.refOk = true → sinovRuns s = true → p.val < 3 →
    ∃ t, exec (.pllLock p) s = .next t ∧ t.clk.lock = setBit s.clk.lock p.val true ∧
      ((p.val = 0 → s.clk.pfwHold = false) → t.clk.fb.getLsbD p.val = false)) ∧
  (∀ s : State, s.clk.refOk = true → sinovRuns s = true → s.sys.mode = 2 → pageInFlight s = false →
    s.clk.fb.getLsbD 3 = true → exec (.pllLock 3) s = .next { s with
      clk := { s.clk with lock := setBit s.clk.lock 3 true, fb := setBit s.clk.fb 3 false }
      pix := { s.pix with frozen := false } }) ∧
  (∀ s : State, s.clk.refOk = true → (s.sys.mode ≠ 2 ∨ pageInFlight s = true) →
    exec (.pllLock 3) s = .next { s with clk := { s.clk with lock := setBit s.clk.lock 3 true } }) ∧
  (∀ (p : Fin 4) (s : State), s.clk.refOk = false → exec (.pllLock p) s = .next s) ∧
  (∀ s : State, Mild 0x44 s → (∀ p : Fin 3, Mild (BitVec.ofNat 8 (0x40 + p.val)) s) →
    ∃ t, exec .ckrefLoss s = .next t ∧ Stands 0x44 t ∧ t.hub.present.getLsbD 0x44 = true ∧ t.clk.refOk = false ∧
      t.clk.lock = s.clk.lock &&& 8 ∧ t.clk.fb.getLsbD 3 = true ∧ t.clk.events.getLsbD 4 = true ∧
      (∀ p : Fin 3, s.clk.lock.getLsbD p.val = true → t.clk.fb.getLsbD p.val = true ∧
        Stands (BitVec.ofNat 8 (0x40 + p.val)) t) ∧
      (∀ b : Fin 4, t.beam.ld[b].lit = false) ∧ t.pix.frozen = true ∧ t.counters = s.counters ∧
      t.motors = s.motors ∧ MemSame s t) ∧
  (∀ s : State, exec .ckrefReturn s = .next (Falls 0x44 { s with clk := { s.clk with refOk := true } })) ∧
  (∀ (m : Master) (s : State), Granted m 0x04 0x14 2 s → s.clk.lock.getLsbD 1 = true → s.clk.fb.getLsbD 1 = true →
    exec (.clkResume m 2) s = .next { s with clk := { s.clk with fb := setBit s.clk.fb 1 false } }) ∧
  (∀ (m : Master) (s : State), Granted m 0x04 0x14 1 s → (s.clk.lock.getLsbD 0 = false ∨ s.clk.pfwHold = true) →
    exec (.clkResume m 1) s = .next s) ∧
  (∀ (m : Master) (v : Word) (s : State), Granted m 0x04 0x10 v s → v.setWidth 4 = (1 : BitVec 4) →
    exec (.cpuDivWrite m v) s = .next s) ∧
  (∀ (m : Master) (v : Word) (s : State), Granted m 0x04 0x10 v s → v.setWidth 4 ≠ (1 : BitVec 4) →
    exec (.cpuDivWrite m v) s = .next { s with clk := { s.clk with
      cpuDiv := v.setWidth 4, cpuDivEff := if s.clk.fb.getLsbD 0 then s.clk.cpuDivEff else v.setWidth 4 } })) ∧
  ((∀ (m : Master) (s : State) (p : Fin 8), Granted m 0x05 0x00 (1 ||| (BitVec.ofNat 32 p.val <<< 4)) s →
    exec (.prCtrlWrite m (1 ||| (BitVec.ofNat 32 p.val <<< 4))) s = .next { s with
      pix := { s.pix with en := true, profile := p, retrig := if s.pix.en then s.pix.retrig else 0 } }) ∧
  (∀ (m : Master) (s : State), Granted m 0x05 0x00 0 s → exec (.prCtrlWrite m 0) s = .next { s with
    pix := { s.pix with en := false, profile := 0, started := false, seg := 0, pos := 0, holding := false, delta := 0 } }) ∧
  (∀ s : State, s.pix.en = true → s.pix.started = true → s.pix.frozen = false → s.pix.holding = false →
    s.pix.seg.toNat + 1 < (s.pix.segs[s.pix.profEff] &&& 0x7F).toNat →
    exec .rampSegmentEnd s = .next { s with pix := { s.pix with
      seg := s.pix.seg + 1, pos := 0, delta := segOffset s.pix s.pix.profEff s.pix.seg.toNat 4096 } }) ∧
  (∀ s : State, s.pix.en = true → s.pix.started = true → s.pix.frozen = false → s.pix.holding = false →
    (s.pix.segs[s.pix.profEff] &&& 0x7F).toNat ≤ s.pix.seg.toNat + 1 →
    exec .rampSegmentEnd s = .next { s with pix := { s.pix with
      holding := true, delta := segOffset s.pix s.pix.profEff s.pix.seg.toNat 4096 } }) ∧
  (∀ (m : Master) (s : State), Granted m 0x05 0x00 (regVal 0x05 0x00 s ||| 0x100) s → s.clk.lock.getLsbD 3 = true →
    s.clk.fb.getLsbD 3 = true → s.pix.en = true → exec (.pixrampResume m) s = .next { s with
      pix := { s.pix with frozen := false }, clk := { s.clk with fb := setBit s.clk.fb 3 false } }))

/-! ## Video fetch and the beam unit (R256-R281) -/

/-- VF_CTRL: EN starts from the written form, and EN 0 stops the fetch and empties the FIFO; while EN is 1 only EN is
written. A burst of 64 bytes that the wheel has granted a VIDEO slot joins the line in fetch as memory holds it, and one with an
error response marks the line bad. BM_CTRL: EN 0 puts every laser off and SYNC to IDLE; while EN is 1 the other fields keep their values. LDIL
follows the interlock: low darkens every beam, and with a page in progress spoils it. The diagnostic pulse drives one
beam, within its ceiling, and leaves the APC loop's drive. Where the spec leaves it open, this rests on the model's choices of log 47. -/
def Obligations.VideoAndBeamsObeyTheirEnables : Prop :=
  ((∀ (m : Master) (v : Word) (s : State), Granted m 0x10 0x00 v s → v.getLsbD 0 = false → s.video.en = true →
    exec (.videoEnWrite m v) s = .next { s with video := { s.video with
      en := false, running := false, granted := 0, fifo := [] } }) ∧
  (∀ (m : Master) (v : Word) (s : State), Granted m 0x10 0x00 v s → v.getLsbD 0 = true → s.video.en = true →
    exec (.videoEnWrite m v) s = .next s) ∧
  (∀ (m : Master) (v : Word) (s : State), Granted m 0x10 0x00 v s → v.getLsbD 0 = true → s.video.en = false →
    exec (.videoEnWrite m v) s = .next { s with video := { s.video with
      en := true, beams := bits v 4 3, bpp := v.getLsbD 8 } }) ∧
  (∀ (s : State) (l : LineSlot), burstReady s = true → fetchSlot s.video = some l →
    regionOf (burstAddr s.video l) = .dram → dramUp s = true → ∃ t, exec .videoBurstDone s = .next t ∧
      t = { s with video := { s.video with
        fifo := t.video.fifo, fetched := t.video.fetched, granted := s.video.granted - 1 } } ∧
      t.video.fifo.getLast? = some { l with
        bytes := l.bytes ++ s.mem.readAll (burstAddr s.video l) 64
        full := decide (s.video.lineBytes.toNat ≤ l.bytes.length + 64) }) ∧
  (∀ s : State, burstReady s = false → exec .videoBurstDone s = .next s ∧ exec .videoBurstError s = .next s) ∧
  (∀ (s : State) (l : LineSlot), burstReady s = true → fetchSlot s.video = some l → Mild 0x60 s →
    ∃ t, exec .videoBurstError s = .next t ∧ Stands 0x60 t ∧ t.video.evFetch = true ∧
      (t.video.fifo.getLast?.map (·.bad)) = some true ∧ t.hub.feValid = true ∧
      (s.hub.feValid = false → t.hub.feAddr = BitVec.ofNat 40 (burstAddr s.video l) ∧ t.hub.feKind = 0) ∧
      (s.video.errLine = 0xFFFF_FFFF → t.video.errLine = BitVec.ofNat 32 l.line) ∧ t.counters = s.counters ∧
      t.docket = s.docket ∧ t.beam = s.beam ∧ MemSame s t)) ∧
  ((∀ (m : Master) (v : Word) (s : State), Granted m 0x11 0x00 v s → v.getLsbD 0 = false → s.beam.en = true →
    ∃ t, exec (.beamEnWrite m v) s = .next t ∧ t = { s with beam := t.beam } ∧ t.beam.en = false ∧
      t.beam.sync = .idle ∧ t.beam.bpp = s.beam.bpp ∧ t.beam.beams = s.beam.beams ∧
      ∀ b : Fin 4, t.beam.ld[b] = { s.beam.ld[b] with lit := false }) ∧
  (∀ (m : Master) (v : Word) (s : State), Granted m 0x11 0x00 v s → v.getLsbD 0 = true → s.beam.en = true →
    exec (.beamEnWrite m v) s = .next s) ∧
  (∀ (m : Master) (v : Word) (s : State), Granted m 0x11 0x00 v s → v.getLsbD 0 = true → s.beam.en = false →
    ∃ t, exec (.beamEnWrite m v) s = .next t ∧ t = { s with beam := t.beam } ∧ t.beam.en = true ∧
      t.beam.beams = bits v 4 3 ∧ t.beam.bpp = v.getLsbD 8 ∧ t.beam.inv = v.getLsbD 9 ∧ t.beam.ld = s.beam.ld) ∧
  (∀ s : State, (syncNow s = .idle ∨ pageInFlight s = false) → exec .ldilFall s = .next { s with
    beam := { s.beam with intlk := false, ld := s.beam.ld.map fun l => { l with lit := false } } }) ∧
  (∀ s : State, s.beam.sync ≠ .idle → s.docket.st = .armed → NoAction 0x90 s → ∃ t, exec .ldilFall s = .next t ∧
    Stands 0x90 t ∧ t.beam.evIntlk = true ∧ t.beam.intlk = false ∧ SpoiledBy 0x90 s t) ∧
  (∀ s : State, exec .ldilRise s = .next { s with beam := { s.beam with intlk := true } }) ∧
  (∀ (b : Fin 4) (s : State) (d : BitVec 11), s.beam.ld[b].diagLevel = some d → s.beam.diag = true →
    s.beam.sync = .idle → canLight s b = true → exec (.diagLaserPulse b) s = .next { s with
      beam := { s.beam with ld := s.beam.ld.set b { s.beam.ld[b] with
        diagDrive := if ceilOf s b < d then ceilOf s b else d, lit := false } } }) ∧
  (∀ (b : Fin 4) (s : State), s.beam.ld[b].diagLevel = none → exec (.diagLaserPulse b) s = .next s))

/-- Line synchronisation: of the edges of the input and polarity that BM_BDCFG selects, the first in an ACQUIRE pulse ends the search, the fourth gated one locks, and in RUN
an edge starts a facet. An edge outside pulse and gate is not accepted; while SYNC is not IDLE it is counted as extra.
A gate opens for the edge sensor's beam and closes; with no edge accepted it is BD_MISSING once locked, and in RUN the
page is spoiled; in ACQUIRE the search starts again. The check sensor raises the same fault. A facet's lines are
emitted where the FIFO has them all, and the page is spoiled by VFIFO_UNDERRUN where it has not. A facet's end leaves
the beam unit with the pulses gone, and the last facet ends RUN. Where the spec leaves it open, this rests on the
model's choices of logs 8 and 31. -/
def Obligations.FacetsSynchroniseAndEmit : Prop :=
  ((∀ (e : BdEdge) (ms : List (BitVec 12)) (s : State),
    edgeSelected e s = true → s.beam.sync = .acquire → s.beam.pulse = true →
    s.beam.firstEdge = false → ∃ t, exec (.bdEdgeAccept e ms) s = .next t ∧
      t = { s with beam := t.beam, pix := t.pix } ∧ t.beam.firstEdge = true ∧ t.beam.lockCount = 0 ∧
      t.beam.sync = .acquire ∧ t.beam.pulse = false ∧ t.beam.bdMeas = s.beam.bdMeas) ∧
  (∀ (e : BdEdge) (ms : List (BitVec 12)) (s : State),
    edgeSelected e s = true → s.beam.sync = .acquire → s.beam.gate = true →
    s.beam.edgeSeen = false → s.beam.firstEdge = true → 3 ≤ s.beam.lockCount →
    ∃ t, exec (.bdEdgeAccept e ms) s = .next t ∧ t = { s with beam := t.beam, pix := t.pix } ∧
      t.beam.sync = .locked ∧ t.beam.bdMeas = e.cycles ∧ t.beam.edgeSeen = true ∧ t.beam.ld[s.beam.bdBeam].lit = false) ∧
  (∀ (e : BdEdge) (ms : List (BitVec 12)) (s : State),
    edgeSelected e s = true → s.beam.sync = .run → s.beam.gate = true →
    s.beam.edgeSeen = false → s.docket.st = .armed → s.docket.facetOpen = false →
    ∃ t, exec (.bdEdgeAccept e ms) s = .next t ∧ t = { s with beam := t.beam, pix := t.pix, docket := t.docket } ∧
      t.beam.sync = .run ∧ t.beam.facets = s.beam.facets + 1 ∧ t.beam.linesDue = true ∧
      t.docket = { s.docket with facetOpen := true
                                 tFirst := if s.docket.tFirst = 0 then s.devtime else s.docket.tFirst } ∧
      ∀ b : Fin 4, s.beam.ld[b].en = true → t.beam.ld[b].mon = ms.getD b.val 0 ∧ t.beam.ld[b].monNew = true) ∧
  (∀ (e : BdEdge) (ms : List (BitVec 12)) (s : State), (s.beam.sync = .idle ∨
      edgeSelected e s = false ∨ (s.beam.pulse = false ∧ s.beam.gate = false)) → exec (.bdEdgeAccept e ms) s = .next s) ∧
  (∀ s : State, s.beam.sync = .idle → exec .bdEdgeExtra s = .next s) ∧
  (∀ s : State, s.beam.sync ≠ .idle →
    exec .bdEdgeExtra s = .next { s with beam := { s.beam with evExtra := true } }) ∧
  (∀ s : State, s.beam.sync = .acquire → s.beam.firstEdge = false → ∃ t, exec .acqPulseStart s = .next t ∧
    t = { s with beam := t.beam } ∧ t.beam.pulse = true ∧ t.beam.ld[s.beam.bdBeam].lit = pageLight s s.beam.bdBeam ∧
    ∀ b : Fin 4, b ≠ s.beam.bdBeam → t.beam.ld[b] = s.beam.ld[b]) ∧
  (∀ s : State, s.beam.pulse = true → ∃ t, exec .acqPulseEnd s = .next t ∧
    t = { s with beam := t.beam, freeCtr := t.freeCtr } ∧ t.beam.pulse = false ∧ t.beam.ld[s.beam.bdBeam].lit = false ∧
    t.beam.sync = s.beam.sync ∧ (s.beam.ld[s.beam.bdBeam].en = true →
      t.beam.ld[s.beam.bdBeam].monNew = true))) ∧
  ((∀ s : State, (s.beam.sync = .locked ∨ s.beam.sync = .run) → s.beam.gate = false →
    ∃ t, exec .bdGateOpen s = .next t ∧ t = { s with beam := t.beam } ∧ t.beam.gate = true ∧
      t.beam.edgeSeen = false ∧ t.beam.ld[s.beam.bdBeam].lit = pageLight s s.beam.bdBeam) ∧
  (∀ s : State, s.beam.gate = true → s.beam.edgeSeen = true → ∃ t, exec .bdGateClose s = .next t ∧
    t = { s with beam := t.beam } ∧ t.beam.gate = false ∧ t.beam.sync = s.beam.sync ∧
    t.beam.ld[s.beam.bdBeam].lit = false) ∧
  (∀ s : State, s.beam.gate = true → s.beam.edgeSeen = false → s.beam.sync = .acquire →
    ∃ t, exec .bdGateClose s = .next t ∧ t = { s with beam := t.beam } ∧ t.beam.gate = false ∧
      t.beam.firstEdge = false ∧ t.beam.lockCount = 0) ∧
  (∀ s : State, s.beam.gate = true → s.beam.edgeSeen = false → s.beam.sync = .locked → Mild 0x90 s →
    ∃ t, exec .bdGateClose s = .next t ∧ Stands 0x90 t ∧ t.beam.evMiss = true ∧ t.beam.gate = false ∧
      t.docket = s.docket ∧ t.counters = s.counters ∧ MemSame s t) ∧
  (∀ s : State, s.beam.gate = true → s.beam.edgeSeen = false → s.beam.sync = .run → s.docket.st = .armed →
    NoAction 0x90 s → ∃ t, exec .bdGateClose s = .next t ∧ Stands 0x90 t ∧ t.beam.evMiss = true ∧
      SpoiledBy 0x90 s t) ∧
  (∀ s : State, s.beam.bdChk = true → (s.beam.sync = .locked ∨ s.beam.sync = .run) → Mild 0x90 s →
    ∃ t, exec .bdCheckTimeout s = .next t ∧
      RaisedOnly 0x90 { s with beam := { s.beam with evMiss := true } } t) ∧
  (∀ s : State, s.beam.bdChk = false → exec .bdCheckTimeout s = .next s)) ∧
  ((∀ (s : State) (ls : List (List Byte)), s.beam.linesDue = true → facetLines s = some ls →
    exec .lineDueCheck s = .next { s with beam := { s.beam with
      linesDue := false, pulses := ls.map (linePulses s) } }) ∧
  (∀ s : State, s.beam.linesDue = true → facetLines s = none → s.docket.st = .armed → NoAction 0x91 s →
    ∃ t, exec .lineDueCheck s = .next t ∧ Stands 0x91 t ∧ SpoiledBy 0x91 s t ∧ t.beam.evUnder = true ∧
      t.video.evUnder = true) ∧
  (∀ s : State, s.beam.linesDue = false → exec .lineDueCheck s = .next s) ∧
  (∀ s : State, s.docket.st = .armed → s.docket.facetOpen = true → s.docket.spoil = false →
    ∃ t, exec .facetEnd s = .next t ∧ t.beam.pulses = [] ∧
      (s.docket.planned.toNat ≤ s.beam.facets.toNat * s.beam.beams.toNat → t.beam.sync = .idle) ∧
      ∀ l ∈ t.video.fifo, s.beam.facets.toNat * s.beam.beams.toNat ≤ l.line))

/-! ## Motors (R282-R314) -/

/-- MOT_CMD: START of a channel that may run starts it or aligns it first; STOP begins its stop. Alignment takes the
electrical zero, an encoder then learns its CPR. A position sensor that fails makes its channel coast with every gate
off, its alignment lost, and raises POS_SENSOR: a misplaced Z edge, an A/B error, a resolver out of range, a stall.
Where the spec leaves it open, this rests on the model's choices of log 33. -/
def Obligations.MotorsStartAndCoast : Prop :=
  ((∀ (m : Master) (k : Fin 6) (s : State), Granted m (0x12 + k.val) 0x04 1 s → s.motors[k].en = true →
    motStill s.motors[k] = true → 10 ≤ ((bits s.motors[k].curcfg 16 8 : Byte)).toNat → gatesBlocked s k = false →
    s.hdie.mFast.getLsbD k.val = false → exec (.motStart m k) s = .next { s with
      motors := s.motors.set k (if s.motors[k].cprValid then { s.motors[k] with state := .run }
        else { s.motors[k] with state := .align, icmd := (iClim s k / 2 : Nat) }) }) ∧
  (∀ (m : Master) (k : Fin 6) (s : State), Granted m (0x12 + k.val) 0x04 1 s →
    (s.motors[k].en = false ∨ gatesBlocked s k = true ∨ s.hdie.mFast.getLsbD k.val = true) → exec (.motStart m k) s = .next s) ∧
  (∀ (m : Master) (k : Fin 6) (mode : BitVec 2) (s : State),
    Granted m (0x12 + k.val) 0x04 (2 ||| (mode.setWidth 32 <<< 2)) s →
    exec (.motStop m k mode) s = .next { s with motors := s.motors.set k (beginStop (gatesBlocked s k) mode s.motors[k]) }) ∧
  (∀ (k : Fin 6) (s : State), s.motors[k].state = .align → s.motors[k].pos = 0 → exec (.alignDone k) s = .next { s with
    motors := s.motors.set k { s.motors[k] with
      state := .learn, offset := s.motors[k].encPos, learnAt := s.devtime } }) ∧
  (∀ (k : Fin 6) (s : State), s.motors[k].state = .align → s.motors[k].pos ≠ 0 → s.motors[k].alignOnly = false →
    exec (.alignDone k) s = .next { s with motors := s.motors.set k { s.motors[k] with
      state := .run, cprValid := true, cpr := 0x1_0000, offset := (s.rdc.angle[rdcOf s.motors[k]].toNat : Int) } }) ∧
  (∀ (k : Fin 6) (cpr : Nat) (s : State), s.motors[k].state = .learn → s.motors[k].alignOnly = false → 64 ≤ cpr →
    cpr ≤ 65536 → s.motors[k].pp ≠ 0 → cpr % s.motors[k].pp.toNat = 0 → exec (.learnDone k cpr) s = .next { s with
      motors := s.motors.set k { s.motors[k] with
        state := .run, cprValid := true, cpr := BitVec.ofNat 17 cpr
        encPos := s.motors[k].encPos % (cpr : Int), offset := s.motors[k].offset % (cpr : Int) } }) ∧
  (∀ (k : Fin 6) (cpr : Nat) (s : State), s.motors[k].state = .learn →
    (cpr < 64 ∨ 65536 < cpr ∨ s.motors[k].pp = 0 ∨ cpr % s.motors[k].pp.toNat ≠ 0) → Mild 0x93 s →
    ∃ t, exec (.learnDone k cpr) s = .next t ∧ Stands 0x93 t ∧ t.motors[k].state = .coast ∧
      t.motors[k].posErr = true ∧ (∀ j : Fin 6, j ≠ k → t.motors[j] = s.motors[j]) ∧ MemSame s t)) ∧
  ((∀ (k : Fin 6) (s : State), encoderOn s k = true → s.motors[k].cprValid = true → Mild 0x93 s →
    ∃ t, exec (.zEdgeMisplaced k) s = .next t ∧ RaisedOnly 0x93 { s with motors := s.motors.set k t.motors[k] } t ∧
      t.motors[k].posErr = true ∧ t.motors[k].cprValid = false ∧ t.motors[k].events = s.motors[k].events ||| 4 ∧
      (∀ x : Fin 3, t.motors[k].legs[x].hi = false ∧ t.motors[k].legs[x].lo = false)) ∧
  (∀ (k : Fin 6) (s : State), encoderOn s k = true → Mild 0x93 s → ∃ t, exec (.encoderAbError k) s = .next t ∧
    RaisedOnly 0x93 { s with motors := s.motors.set k t.motors[k] } t ∧
    t.motors[k].posErr = true ∧ t.motors[k].cprValid = false ∧ t.motors[k].events = s.motors[k].events ||| 4 ∧
    (∀ x : Fin 3, t.motors[k].legs[x].hi = false ∧ t.motors[k].legs[x].lo = false)) ∧
  (∀ (k : Fin 6) (s : State), s.motors[k].en = true → (s.motors[k].pos = 1 ∨ s.motors[k].pos = 2) →
    s.motors[k].posErr = false → Mild 0x93 s →
    ∃ t, exec (.resolverOutOfRange k) s = .next t ∧ RaisedOnly 0x93 { s with
        motors := s.motors.set k t.motors[k]
        rdc := { s.rdc with
          valid := setBit s.rdc.valid (s.motors[k].pos.toNat - 1) false
          bad := setBit s.rdc.bad (s.motors[k].pos.toNat - 1) true } } t ∧
      t.motors[k].posErr = true ∧ t.motors[k].cprValid = false ∧ t.motors[k].events = s.motors[k].events ||| 4) ∧
  (∀ (k : Fin 6) (s : State), stalled s k = true → Mild 0x93 s →
    ∃ t, exec (.stallDetected k) s = .next t ∧ RaisedOnly 0x93 { s with motors := s.motors.set k t.motors[k] } t ∧
      t.motors[k].state = .coast ∧ t.motors[k].posErr = true ∧ t.motors[k].cprValid = false ∧
      t.motors[k].events = s.motors[k].events ||| 4) ∧
  (∀ (k : Fin 6) (s : State), stalled s k = false → exec (.stallDetected k) s = .next s))

/-- The speed regulator: a tick counts the position, takes the measured speed, and keeps the current within the
channel's limit while it regulates, and not negative in the back-off; a compare that the position passes at rest sets its event.
AT_SPEED, the stuck pin, the decay of a controlled deceleration into BRAKE and OFF
change their channel alone, but for a start that waits. A page's media channel below 80 % of its set-point after its first
AT_SPEED is jammed. The gates: a leg refreshes its bootstrap with its high side off, both sides are off while its dead time
runs, and its high side never conducts with its low side; a channel held off has every gate off. DUMP conducts within its
hysteresis below VREGEN; a diagnosis of it runs by itself. Where the spec leaves it open, this rests on the model's choices of logs 8 and 33. -/
def Obligations.MotorsRegulateAndGatesAreSafe : Prop :=
  ((∀ (k : Fin 6) (rpm : BitVec 16) (d : Word) (io : MotInputs) (s : State),
    (s.motors[k].state = .run ∨ s.motors[k].state = .decel) → resGood io.res = true →
    (pageInFlight s = false ∨ s.motors[k].cmpEn = 0) → ∃ t, exec (.speedRegTick k rpm d io) s = .next t ∧
      t = { s with motors := s.motors.set k t.motors[k], rdc := t.rdc, freeCtr := t.freeCtr } ∧
      t.motors[k].speed = rpm ∧ t.motors[k].count = s.motors[k].count + d ∧
      t.motors[k].icmd ≤ iClim s k ∧ -(iClim s k : Int) ≤ t.motors[k].icmd ∧
      t.motors[k].state = s.motors[k].state ∧ t.motors[k].legs = s.motors[k].legs ∧
      (backoffOn s = true → 0 ≤ t.motors[k].icmd)) ∧
  (∀ (k : Fin 6) (rpm : BitVec 16) (d : Word) (io : MotInputs) (s : State),
    s.motors[k].state = .off → resGood io.res = true → pageInFlight s = false →
    ∃ t, exec (.speedRegTick k rpm d io) s = .next t ∧
      t = { s with motors := s.motors.set k t.motors[k], rdc := t.rdc, freeCtr := t.freeCtr } ∧
      t.motors[k].speed = rpm ∧ t.motors[k].count = s.motors[k].count + d ∧ t.motors[k].icmd = s.motors[k].icmd ∧
      (s.motors[k].cmpEn.getLsbD 0 = true → s.motors[k].diagSet = none →
        passed s.motors[k].count (s.motors[k].count + d) s.motors[k].cmp0 = true →
        t.motors[k].events.getLsbD 4 = true ∧ t.motors[k].cmpEn.getLsbD 0 = false)) ∧
  (∀ (k : Fin 6) (s : State), exec (.atSpeedLoss k) s = .next { s with
    motors := s.motors.set k { s.motors[k] with atSpeed := false } }) ∧
  (∀ (k : Fin 6) (s : State), (s.motors[k].src = 2 ∨ s.motors[k].src = 3) → exec (.cmdPinStuck k) s = .next { s with
    motors := s.motors.set k { s.motors[k] with pinNum := 0, pinDen := 1, cmdValid := false } }) ∧
  (∀ (k : Fin 6) (s : State), s.motors[k].state = .decel → gatesBlocked s k = false →
    exec (.brakeEntry k) s = .next { s with motors := s.motors.set k { s.motors[k] with
      state := .brake, icmd := 0
      legs := s.motors[k].legs.map fun l => { l with
        hi := false, wantHi := false, bsLow := false, cutLow := false
        dead := if l.hi then deadTime s.motors[k] else l.dead } } }) ∧
  (∀ (k : Fin 6) (s : State), s.motors[k].state = .brake → s.sinov.motor[k].any (fun c => c.startDue) = false →
    exec (.brakeToOff k) s = .next { s with motors := s.motors.set k (gatesOff { s.motors[k] with state := .off }) }) ∧
  (∀ (k : Fin 6) (c : MotorCfg) (s : State), s.motors[k].state = .brake → s.sinov.motor[k] = some c → c.startDue = true →
    s.sys.mode = 2 → exec (.brakeToOff k) s = .next (applyMotor k c { s with
      motors := s.motors.set k (gatesOff { s.motors[k] with state := .off }) })) ∧
  (∀ (k : Fin 6) (s : State), s.docket.st = .armed → chanIdx s.docket.mediaCh = k → s.motors[k].state = .run →
    s.motors[k].reached = true → s.motors[k].speed.toNat * 100 < omegaSet s k * 80 → s.motors[k].slow = false →
    NoAction 0x92 s → ∃ t, exec (.mediaJamDetect k) s = .next t ∧ Stands 0x92 t ∧ SpoiledBy 0x92 s t ∧
      t.motors[k].events = s.motors[k].events ||| 8) ∧
  (∀ (k : Fin 6) (s : State), pageInFlight s = false → exec (.mediaJamDetect k) s = .next s)) ∧
  ((∀ (k : Fin 6) (x : Fin 3) (s : State), motRunning s.motors[k] = true → gatesBlocked s k = false →
    exec (.bootstrapLow k x) s = .next { s with motors := s.motors.set k { s.motors[k] with
      legs := s.motors[k].legs.set x { s.motors[k].legs[x] with
        bsLow := true, hi := false
        dead := if s.motors[k].legs[x].hi then deadTime s.motors[k] else s.motors[k].legs[x].dead } } }) ∧
  (∀ (k : Fin 6) (x : Fin 3) (s : State), s.motors[k].legs[x].hi = true → motRunning s.motors[k] = true →
    gatesBlocked s k = false → exec (.highSideMaxOn k x) s = .next { s with
      motors := s.motors.set k { s.motors[k] with
        legs := s.motors[k].legs.set x { s.motors[k].legs[x] with
          bsLow := true, hi := false, dead := deadTime s.motors[k] } } }) ∧
  (∀ (k : Fin 6) (x : Fin 3) (s : State), s.motors[k].legs[x].hi = false → exec (.highSideMaxOn k x) s = .next s) ∧
  (∀ (k : Fin 6) (x : Fin 3) (s : State), s.motors[k].legs[x].bsLow = true →
    exec (.bootstrapRefreshEnd k x) s = .next { s with motors := s.motors.set k { s.motors[k] with
      legs := s.motors[k].legs.set x { s.motors[k].legs[x] with
        bsLow := false, lo := false, dead := ((bits s.motors[k].curcfg 16 8 : Byte)).toNat } } }) ∧
  (∀ (k : Fin 6) (sh : List Int) (s : State), gatesBlocked s k = true → ∃ t, exec (.ckPwmCycle k sh) s = .next t ∧
    t = { s with motors := s.motors.set k t.motors[k] } ∧ t.motors[k].icmd = 0 ∧
    t.motors[k].state = s.motors[k].state ∧
    ∀ x : Fin 3, t.motors[k].legs[x].hi = false ∧ t.motors[k].legs[x].lo = false) ∧
  (∀ (k : Fin 6) (sh : List Int) (s : State), motRunning s.motors[k] = true → ∃ t, exec (.ckPwmCycle k sh) s = .next t ∧
    t = { s with motors := s.motors.set k t.motors[k], freeCtr := t.freeCtr } ∧
    (∀ x : Fin 3, (t.motors[k].legs[x].hi && t.motors[k].legs[x].lo) = false) ∧
    (0 < deadTime s.motors[k] → ∀ x : Fin 3, s.motors[k].legs[x].dead ≠ 0 →
      t.motors[k].legs[x].hi = false ∧ t.motors[k].legs[x].lo = false)) ∧
  (∀ (k : Fin 6) (sh : List Int) (s : State), s.motors[k].state = .brake → gatesBlocked s k = false →
    ∃ t, exec (.ckPwmCycle k sh) s = .next t ∧ t = { s with motors := s.motors.set k t.motors[k] } ∧
      ∀ x : Fin 3, t.motors[k].legs[x].hi = false ∧ (s.motors[k].legs[x].dead ≠ 0 → t.motors[k].legs[x].lo = false)) ∧
  (∀ (mv : Nat) (s : State), s.sinov.diag[(15 : Fin 16)] ≠ none → exec (.hdieVinSample mv) s = .next s) ∧
  (∀ (mv : Nat) (s : State), s.sinov.diag[(15 : Fin 16)] = none → (dumpBlocked s = true ∨ dumpEnabled s = false) →
    exec (.hdieVinSample mv) s = .next { s with hdie := { s.hdie with dump := false } }) ∧
  (∀ (mv : Nat) (s : State), s.sinov.diag[(15 : Fin 16)] = none → dumpBlocked s = false → dumpEnabled s = true →
    exec (.hdieVinSample mv) s = .next { s with hdie := { s.hdie with
      dump := if s.vregen.toNat * 100 ≤ mv + 1500 then true
        else if mv + 2500 ≤ s.vregen.toNat * 100 then false else s.hdie.dump } }))

/-! ## Loops, high voltage, heaters (R315-R335) -/

/-- LE_COMMIT refuses a schedule above 1,024 slots and otherwise commits EN and PLOG of every loop, which take effect
at the frame boundary. A dwell that elapses frees its loop alone. A general loop's sample: outside its band it
switches, unless its dwell runs, and starts its dwell; inside the band it stays; an invalid value puts it off and
STALE. An APC loop steps its drive up below its set-point and never drives its beam above CEIL. No loop samples while the engine or the loop is off. A heater's
period takes the duty in effect and conducts only where it may and its envelope leaves room; the conduction ends at
its duty with the mean current kept. Where the spec leaves it open, this rests on the model's choices of logs 8, 34
and 50. -/
def Obligations.LoopsAndHeatersRun : Prop :=
  ((∀ (m : Master) (s : State), Granted m 0x19 0x04 1 s → 1024 < loopUtil s.loops.loops →
    exec (.leCommitGo m) s = .next { s with loops := { s.loops with reject := true } }) ∧
  (∀ (m : Master) (s : State), Granted m 0x19 0x04 1 s → loopUtil s.loops.loops ≤ 1024 →
    ∃ t, exec (.leCommitGo m) s = .next t ∧ t = { s with loops := t.loops } ∧ t.loops.applyDue = true ∧
      t.loops.util.toNat = loopUtil s.loops.loops ∧ t.loops.reject = s.loops.reject ∧
      ∀ n : Fin 32, t.loops.loops[n].comEn = s.loops.loops[n].en ∧ t.loops.loops[n].comPlog = s.loops.loops[n].plog ∧
        t.loops.loops[n].actEn = s.loops.loops[n].actEn ∧ t.loops.loops[n].out = s.loops.loops[n].out) ∧
  (∀ s : State, s.loops.applyDue = false → exec .scheduleApply s = .next s) ∧
  (∀ s : State, s.loops.applyDue = true → ∃ t, exec .scheduleApply s = .next t ∧
    t = { s with loops := t.loops, gpio := t.gpio, fuser := t.fuser, freeCtr := t.freeCtr } ∧
    t.loops.applyDue = false ∧ ∀ n : Fin 32, t.loops.loops[n].actEn = s.loops.loops[n].comEn ∧
      t.loops.loops[n].actPlog = s.loops.loops[n].comPlog ∧
      (s.loops.loops[n].actEn ≠ s.loops.loops[n].comEn → t.loops.loops[n].out = false) ∧
      (s.loops.loops[n].actEn = s.loops.loops[n].comEn → t.loops.loops[n].out = s.loops.loops[n].out)) ∧
  (∀ (n : Fin 32) (s : State), exec (.loopDwellExpire n) s = .next { s with loops := { s.loops with
    loops := s.loops.loops.set n { s.loops.loops[n] with dwellRun := false } } })) ∧
  ((∀ (n : Fin 32) (s : State), 9 ≤ n.val → s.loops.en = true → s.loops.loops[n].actEn = true → domOn s 30 = true →
    s.loops.loops[n].insel.toNat < 36 → s.adc.valid.getLsbD s.loops.loops[n].insel.toNat = true →
    ∃ t, exec (.loopSlotSample n) s = .next t ∧ t = { s with loops := t.loops, gpio := t.gpio } ∧
      (∀ k : Fin 32, k ≠ n → t.loops.loops[k] = s.loops.loops[k]) ∧ t.loops.loops[n].stale = false ∧
      t.loops.loops[n].value = s.adc.val[s.loops.loops[n].insel.toNat]?.getD 0 ∧
      t.loops.loops[n].out = (if s.loops.loops[n].dwellRun then s.loops.loops[n].out
        else lawWants true (zoneOf (s.adc.val[s.loops.loops[n].insel.toNat]?.getD 0) s.loops.loops[n]) s.loops.loops[n]) ∧
      (t.loops.loops[n].out ≠ s.loops.loops[n].out → t.loops.loops[n].dwellRun = (s.loops.loops[n].dwell != 0))) ∧
  (∀ (n : Fin 32) (s : State), 9 ≤ n.val → s.loops.en = true → s.loops.loops[n].actEn = true → domOn s 30 = true →
    s.loops.loops[n].insel.toNat < 36 → s.adc.valid.getLsbD s.loops.loops[n].insel.toNat = false →
    ∃ t, exec (.loopSlotSample n) s = .next t ∧ t = { s with loops := t.loops, gpio := t.gpio } ∧
      t.loops.loops[n].stale = true ∧ t.loops.loops[n].out = false ∧
      t.loops.loops[n].value = s.loops.loops[n].value) ∧
  (∀ (b : Fin 4) (s : State), s.beam.ld[b].drive.toNat ≤ (ceilOf s b).toNat →
    ∃ t, exec (.loopSlotSample (Fin.ofNat 32 (5 + b.val))) s = .next t ∧
      t = { s with loops := t.loops, beam := { s.beam with ld := s.beam.ld.set b { s.beam.ld[b] with
        drive := t.beam.ld[b].drive, monNew := t.beam.ld[b].monNew } } } ∧
      t.beam.ld[b].drive.toNat ≤ (ceilOf s b).toNat ∧
      (s.loops.en = true → s.loops.loops[Fin.ofNat 32 (5 + b.val)].actEn = true → domOn s 30 = true →
        s.adc.valid.getLsbD (s.loops.loops[Fin.ofNat 32 (5 + b.val)].insel.toNat % 36) = true →
        s.beam.ld[b].monNew = true → s.beam.sync ≠ .idle →
        zoneOf (s.beam.ld[b].mon.setWidth 32) s.loops.loops[Fin.ofNat 32 (5 + b.val)] = 1 →
        t.beam.ld[b].drive.toNat = min (s.beam.ld[b].drive.toNat + s.beam.ld[b].step.toNat) (ceilOf s b).toNat)) ∧
  (∀ (n : Fin 32) (s : State), (s.loops.en = false ∨ s.loops.loops[n].actEn = false ∨ domOn s 30 = false) →
    exec (.loopSlotSample n) s = .next s)) ∧
  ((∀ (h : Fin 2) (s : State), ∃ t x, exec (.heaterPeriodStart h) s = .next t ∧
    t = { s with fuser := { s.fuser with htr := s.fuser.htr.set h x } } ∧
    x.dutyNow = s.fuser.htr[h].diagDuty.getD (min s.fuser.dutyReq.toNat s.thrCopy[h.val].toNat) ∧
    x.on = (heaterMay s h && !x.held && decide (0 < x.dutyNow)) ∧
    x.held = decide (s.hdie.env.htrDuty[h].toNat * 100 ≤ (s.fuser.htr[h].history.take 9).sum) ∧
    x.history.head? = some (if x.on then x.dutyNow * 10 else 0)) ∧
  (∀ (h : Fin 2) (mean : BitVec 16) (s : State), s.fuser.htr[h].on = true →
    exec (.heaterConductionEnd h mean) s = .next { s with fuser := { s.fuser with
      htr := s.fuser.htr.set h { s.fuser.htr[h] with on := false, ilast := mean } } }) ∧
  (∀ (h : Fin 2) (mean : BitVec 16) (s : State), s.fuser.htr[h].on = false →
    exec (.heaterConductionEnd h mean) s = .next s))

/-! ## The Steelyard (R338-R359) -/

/-- SY_CTRL: EN starts a stable model from its sensors and clears UNSTABLE, refuses an unstable one and names its
node, and EN 0 stops the model with its conditions gone. A forecast is armed unless one runs or its horizon is too
long. An evaluation of a running model counts itself, takes each source's power (the H-die's as the mean of its estimates), keeps every node within the range of the temperature format, and
publishes the lower of each ceiling and request to the output blocks; an armed forecast starts. A model that does not
run is not evaluated. The temperature sensors: a sample gives each sensor its validity, which the loops read too; a
checking sensor out of tolerance for 100 evaluations sets DISAGREE and its fault, and one within it for 100 clears
them. HDIE_HOT follows its comparator. Where the spec leaves it open, this rests on the model's choices of logs 9, 15
and 41. -/
def Obligations.SteelyardEvaluatesAndSensorsAreChecked : Prop :=
  ((∀ (m : Master) (v : Word) (s : State), Granted m 0x1C 0x00 v s → v.getLsbD 0 = false →
    exec (.syEnable m v) s = .next (Falls 0xA1 (Falls 0xA0 { s with sy := { s.sy with run := false } }))) ∧
  (∀ (m : Master) (v : Word) (s : State), Granted m 0x1C 0x00 v s → v.getLsbD 0 = true → s.sy.run = true →
    exec (.syEnable m v) s = .next s) ∧
  (∀ (m : Master) (v : Word) (n : Fin 16) (s : State), Granted m 0x1C 0x00 v s → v.getLsbD 0 = true →
    s.sy.run = false → unstableNode s.sy = some n → exec (.syEnable m v) s =
      .next { s with sy := { s.sy with unstable := true, failNode := BitVec.ofNat 4 n.val } }) ∧
  (∀ (m : Master) (v : Word) (s : State), Granted m 0x1C 0x00 v s → v.getLsbD 0 = true → s.sy.run = false →
    unstableNode s.sy = none → ∃ t, exec (.syEnable m v) s = .next t ∧ t = { s with sy := t.sy } ∧
      t.sy.run = true ∧ t.sy.unstable = false ∧ (∀ i : Fin 16, t.sy.nodes[i].temp = (startNode s i).1 ∧
        t.sy.nodes[i].cap = s.sy.nodes[i].cap ∧ t.sy.nodes[i].lim = s.sy.nodes[i].lim) ∧
      (∀ i : Fin 8, t.sy.ts[i].disagree = false) ∧ ∀ i : Fin 12, t.sy.thr[i].ceil = s.thrCopy[i]) ∧
  (∀ (m : Master) (s : State), Granted m 0x1C 0x0C 1 s → s.sy.fc.busy = false → fcTotal s.sy.fc ≤ 65535 →
    exec (.forecastGo m) s = .next { s with sy := { s.sy with fc := { s.sy.fc with armed := true, done := false } } }) ∧
  (∀ (m : Master) (s : State), Granted m 0x1C 0x0C 1 s → (s.sy.fc.busy = true ∨ 65535 < fcTotal s.sy.fc) →
    exec (.forecastGo m) s = .next s)) ∧
  ((∀ (meas : List Nat) (s : State), s.sy.run = true → domOn s 30 = true → Mild 0xA0 s → Mild 0xA4 s →
    ∃ t, exec (.syEvaluation meas) s = .next t ∧ t.sy.count = s.sy.count + 1 ∧ t.sy.run = true ∧
      (∀ i : Fin 13, t.sy.pnow[i] = BitVec.ofNat 32 (srcPower s i.val (meas.getD i.val 0))) ∧
      (∀ n : Fin 16, nodeUsed s.sy.nodes[n] = true → nodeFix s.sy.nodes[n] = false →
        -21474836 ≤ t.sy.nodes[n].temp ∧ t.sy.nodes[n].temp ≤ 21474181) ∧
      (∀ i : Fin 12, t.thrCopy[i] = if t.sy.thr[i].treq < t.sy.thr[i].ceil then t.sy.thr[i].treq else t.sy.thr[i].ceil) ∧
      (s.sy.fc.armed = true → t.sy.fc.busy = true ∧ t.sy.fc.armed = false) ∧
      t.link = { s.link with estSum := 0, estN := 0 } ∧
      t.hub.present.getLsbD 0xA0 = t.sy.nodes.toList.any nodeOver ∧
      t.counters = s.counters ∧ t.motors = s.motors ∧ t.beam = s.beam ∧ MemSame s t) ∧
  (∀ (meas : List Nat) (s : State), (s.sy.run = false ∨ domOn s 30 = false) → exec (.syEvaluation meas) s = .next s) ∧
  (∀ (i : Fin 12) (s : State), exec (.throttleDwellExpire i) s = .next { s with sy := { s.sy with
    thr := s.sy.thr.set i { s.sy.thr[i] with dwellRun := false } } })) ∧
  ((∀ (rs : List (Nat × Nat)) (s : State), Mild 0xA2 s → ∃ t, exec (.tsSample rs) s = .next t ∧
    (∀ i : Fin 8, t.sy.ts[i].valid = (tsReading s.sy.ts[i] (rs.getD i.val (0, 0))).isSome ∧
      t.adc.valid.getLsbD (18 + i.val) = t.sy.ts[i].valid ∧
      (t.sy.ts[i].valid = false → t.sy.ts[i].temp = s.sy.ts[i].temp)) ∧
    t.hub.present.getLsbD 0xA2 = (t.sy.ts.toList.any fun x => decide (tsType x ≠ 0) && !x.valid) ∧
    (∀ j : Fin 36, (j.val < 18 ∨ 26 ≤ j.val) → t.adc.val[j] = s.adc.val[j]) ∧ t.sy.nodes = s.sy.nodes ∧
    t.counters = s.counters ∧ t.motors = s.motors ∧ MemSame s t) ∧
  (∀ (i : Fin 8) (s : State), s.sy.run = true → 100 ≤ s.sy.ts[i].outRun → s.hub.present.getLsbD 0xA1 = false →
    Mild 0xA1 s → ∃ t, exec (.sensorDisagreeSet i) s = .next t ∧ RisesOnly 0xA1 { s with sy := { s.sy with
      ts := s.sy.ts.set i { s.sy.ts[i] with disagree := true } } } t) ∧
  (∀ (i : Fin 8) (s : State), (s.sy.run = false ∨ s.sy.ts[i].outRun < 100) → exec (.sensorDisagreeSet i) s = .next s) ∧
  (∀ (i : Fin 8) (s : State), s.sy.run = true → 100 ≤ s.sy.ts[i].inRun →
    (∀ j : Fin 8, j ≠ i → s.sy.ts[j].disagree = false) → exec (.sensorDisagreeClear i) s =
      .next (Falls 0xA1 { s with sy := { s.sy with ts := s.sy.ts.set i { s.sy.ts[i] with disagree := false } } })) ∧
  (∀ s : State, exec (.hdieHotCross false) s = .next (Falls 0xA3 { s with hdie := { s.hdie with hot := false } })) ∧
  (∀ s : State, s.hub.present.getLsbD 0xA3 = false → Mild 0xA3 s → ∃ t, exec (.hdieHotCross true) s = .next t ∧
    RisesOnly 0xA3 { s with hdie := { s.hdie with hot := true } } t))

/-! ## The Till (R360-R369) -/

/-- TL_CMD COMMIT puts the staged record with its chain value and commit word into the engine; its end writes it to
the slot of NEXT_SEQ and moves HEAD_SEQ, NEXT_SEQ and the chain on, or leaves it torn, not committed, with a sequence number lost.
No other byte of memory changes. A command that waits for its record is answered with its SEQ. Where the spec leaves it open,
this rests on the model's choices of log 13. -/
def Obligations.RecordsCommitOrTear : Prop :=
  (∀ (m : Master) (rsv : Bool) (s : State), Granted m 0x1E 0x00 (if rsv then 5 else 1) s → s.sinov.wants = [] →
    engineFree rsv s = true → ∃ t rcd, exec (.tlCommitOp m rsv) s = .next t ∧
      t = { s with till := { s.till with busy := true, lastOk := false, lastTorn := false, op := .commit rcd } } ∧
      rcd.length = 256 ∧ rcd.take 8 = toLe s.till.next 8 ∧ rcd.drop 252 = toLe (0xC044_17ED : Word) 4 ∧
      slice rcd 208 32 = sha256 (chainPrev s ++ rcd.take 208)) ∧
  (∀ (m : Master) (rsv : Bool) (s : State), Granted m 0x1E 0x00 (if rsv then 5 else 1) s → s.till.busy = true →
    exec (.tlCommitOp m rsv) s = .next s) ∧
  (∀ (s : State) (rcd : List Byte), Sound s → s.till.op = .commit rcd → s.sinov.inEngine = false → Mild 0xE2 s →
    ∃ t, exec (.tlCommitDone true) s = .next t ∧ t.mem.readAll (slotAddr s.till.next.toNat) rcd.length = rcd ∧
      MemSameBut (slotAddr s.till.next.toNat) rcd.length s t ∧ t.till.head = s.till.next ∧
      t.till.next = s.till.next + 1 ∧ t.till.chain = digestOf (slice rcd 208 32) ∧ t.till.lastOk = true ∧
      t.till.tornRun = 0 ∧ t.till.busy = false ∧ t.till.oldest = s.till.oldest ∧ t.counters = s.counters ∧
      t.docket = s.docket) ∧
  (∀ (s : State) (rcd : List Byte), s.till.op = .commit rcd → s.sinov.inEngine = false →
    Mild 0xE2 s → Mild 0xE0 s → ∃ t, exec (.tlCommitDone false) s = .next t ∧ Stands 0xE0 t ∧
      (Sound s → committed (slotBytes t s.till.next.toNat) = false) ∧
      MemSameBut (slotAddr s.till.next.toNat) 256 s t ∧ t.till.head = s.till.head ∧
      t.till.next = s.till.next + 1 ∧ t.till.chain = s.till.chain ∧ t.till.lastTorn = true ∧
      t.till.torn = s.till.torn + 1 ∧ t.till.tornRun = s.till.tornRun + 1 ∧ t.counters = s.counters) ∧
  (∀ (s : State) (rcd : List Byte) (w : Want) (n : Fin 8), s.till.op = .commit rcd → s.sinov.inEngine = true →
    s.sinov.wants = [w] → w.cont = .replySeq n → s.ps.offCause ≠ .escOff → Mild 0xE2 s → ∃ t, exec (.tlCommitDone true) s = .next t ∧
      t.sinov.wants = [] ∧ t.counters[n].frame = .none ∧ OtherCounters n s t ∧ (t.counters[n].stored.map (·.reply)) =
        some (replyFrame s.counters[n] (frameWaited s.counters[n]) false 0 0 (toLe s.till.next 8)))

/-- A release record ends with OLDEST_SEQ after the records released and TL_BASE from it. Four torn records in a row
stop the engine with no record free. A scan runs alone, and establishes the pointers from the slots. The chain walk after a cold
reset reports each mismatch once and goes on behind it, and is done when none is left. Where the spec
leaves it open, this rests on the model's choices of log 42. -/
def Obligations.LedgerReleasesAndScans : Prop :=
  (∀ (m : Master) (rsv : Bool) (s : State), Granted m 0x1E 0x00 (if rsv then 6 else 2) s → s.sinov.wants = [] →
    releaseFree rsv s.till.upto s = true → ∃ t rcd, exec (.tlReleaseOp m rsv) s = .next t ∧
      t = { s with till := { s.till with
        busy := true, lastOk := false, lastTorn := false, op := .release rcd s.till.upto } } ∧
      rcd.take 8 = toLe s.till.next 8 ∧ slice rcd 48 8 = toLe s.till.upto 8 ∧
      slice rcd 56 32 = releaseBase s s.till.upto.toNat) ∧
  (∀ (m : Master) (rsv : Bool) (s : State), Granted m 0x1E 0x00 (if rsv then 6 else 2) s → s.till.busy = true →
    exec (.tlReleaseOp m rsv) s = .next s) ∧
  (∀ (s : State) (rcd : List Byte) (u : BitVec 64), s.till.op = .release rcd u → s.sinov.inEngine = false →
    Mild 0xE2 s → ∃ t, exec .tlReleaseDone s = .next t ∧ t.till.oldest = u + 1 ∧
      t.till.base = digestOf (slice rcd 56 32) ∧ t.till.head = s.till.next ∧ t.till.next = s.till.next + 1 ∧
      MemSameBut (slotAddr s.till.next.toNat) rcd.length s t ∧ t.counters = s.counters) ∧
  (∀ s : State, 4 ≤ s.till.tornRun → s.till.stopped = false → s.sinov.wants = [] → s.till.scanned = true →
    Mild 0xE2 s → ∃ t, exec .tillStopped s = .next t ∧ t.till.stopped = true ∧ t.till.free = 0 ∧
      t.hub.present.getLsbD 0xE2 = true ∧ t.counters = s.counters ∧ MemSame s t) ∧
  (∀ (m : Master) (s : State), Granted m 0x1E 0x00 3 s → s.till.busy = false →
    exec (.tlScanOp m) s = .next { s with till := { s.till with busy := true, op := .scan } }) ∧
  (∀ (m : Master) (s : State), Granted m 0x1E 0x00 3 s → s.till.busy = true → exec (.tlScanOp m) s = .next s) ∧
  (∀ s : State, s.till.op = .scan → s.rst.step ≠ .sinov → (scanAll s).bad = 0 → (scanAll s).head < 2 ^ 63 →
    (slotBytes s ((scanAll s).head + 1)).all (· == 0) = true → Mild 0xE2 s →
    ∃ t, exec .tlScanDone s = .next t ∧ t.till.scanned = true ∧ t.till.busy = false ∧
      t.till.head.toNat = (scanAll s).head ∧ t.till.next.toNat = (scanAll s).head + 1 ∧
      ((scanAll s).rel = 0 → t.till.oldest = 1) ∧ t.counters = s.counters ∧ MemSame s t) ∧
  (∀ (s : State) (q : Nat), walking s = true → nextBreak s = some q → Mild 0xE1 s →
    ∃ t, exec .chainBreakFound s = .next t ∧
      RaisedOnly 0xE1 { s with till := { s.till with chainBreak := true, walkAt := q + 1 } } t) ∧
  (∀ s : State, (walking s = false ∨ nextBreak s = none) → exec .chainBreakFound s = .next s) ∧
  (∀ s : State, walking s = true → nextBreak s = none →
    exec .chainWalkDone s = .next { s with till := { s.till with walkDone := true } }) ∧
  (∀ s : State, (walking s = false ∨ nextBreak s ≠ none) → exec .chainWalkDone s = .next s)

/-! ## The real-time clock (R370-R378) -/

/-- TIME_SNAP copies seconds, sub-seconds and DEVTIME; TIME_APPLY waits for an edge, at which the set seconds are
taken; otherwise an edge counts a second; a crystal that stands gives none. The alarm sets ALARM_HIT once, and wakes a dormant device where SLEEP
enabled it. The loss of time: below VRET on VBKP the loss is marked, at power-on of BKP or the return of VAUX the
clock starts from 0 without a valid time, and a stopped crystal makes it invalid. TIME_LOST is a level source, and
clearing it ends the fault's condition. Where the spec leaves it open, this rests on the model's choices of logs 1 and
43. -/
def Obligations.TimeIsKeptAndLost : Prop :=
  ((∀ (m : Master) (s : State), Granted m 0x1F 0x10 1 s → exec (.timeSnapGo m) s = .next { s with
    rtc := { s.rtc with snapSec := s.rtc.sec, snapSub := s.rtc.sub, snapDt := s.devtime } }) ∧
  (∀ (m : Master) (s : State), Granted m 0x1F 0x30 1 s → exec (.timeApplyGo m) s =
    .next { s with rtc := { s.rtc with pending := true } }) ∧
  (∀ s : State, s.rtc.pending = true → s.clk.ao32Ok = true → s.sinov.timeWait = none → exec .timeApplyEdge s = .next { s with
    rtc := { s.rtc with sec := s.rtc.setSec, sub := 0, valid := true, applyDt := s.devtime, pending := false } }) ∧
  (∀ s : State, s.clk.ao32Ok = false → exec .timeApplyEdge s = .next s ∧ exec .rtcSecond s = .next s) ∧
  (∀ (s : State) (n : Fin 8), s.rtc.pending = true → s.clk.ao32Ok = true → s.sinov.timeWait = some n → ∃ t w, exec .timeApplyEdge s = .next t ∧
    t.rtc.sec = s.rtc.setSec ∧ t.sinov.timeWait = none ∧ t.sinov.wants = s.sinov.wants ++ [w] ∧ w.typ = 0x0030 ∧
    w.counter = BitVec.ofNat 8 n.val ∧ t.counters = s.counters) ∧
  (∀ s : State, s.rtc.pending = false → s.clk.ao32Ok = true →
    exec .rtcSecond s = .next { s with rtc := { s.rtc with sec := s.rtc.sec + 1, sub := 0 } }) ∧
  (∀ s : State, s.rtc.pending = true → s.clk.ao32Ok = true → s.sinov.timeWait = none → exec .rtcSecond s = .next { s with
    rtc := { s.rtc with sec := s.rtc.setSec, sub := 0, valid := true, applyDt := s.devtime, pending := false } }) ∧
  (∀ s : State, s.rtc.alarmEn = true → s.rtc.alarm.toNat ≤ s.rtc.sec.toNat → s.rtc.alarmDone = false →
    s.ps.phase ≠ .dormant → exec .rtcAlarmFire s =
      .next { s with rtc := { s.rtc with alarmHit := true, alarmDone := true } }) ∧
  (∀ s : State, s.rtc.alarmEn = true → s.rtc.alarm.toNat ≤ s.rtc.sec.toNat → s.rtc.alarmDone = false →
    s.ps.phase = .dormant → s.ps.wakeEn.getLsbD 0 = true → Asserts 1 s → ∃ t, exec .rtcAlarmFire s = .next t ∧ t.rst.cause = 0x0D ∧
      t.rst.kind = 1 ∧ t.ps.on = 3 ∧ t.rtc = { s.rtc with alarmHit := true, alarmDone := true }) ∧
  (∀ s : State, (s.rtc.alarmEn = false ∨ s.rtc.sec.toNat < s.rtc.alarm.toNat ∨ s.rtc.alarmDone = true) → exec .rtcAlarmFire s = .next s)) ∧
  ((∀ s : State, s.supply.aoOnVbkp = true → s.hub.present.getLsbD 0xE3 = false → Mild 0xE3 s →
    ∃ t, exec .vretCross s = .next t ∧
      RisesOnly 0xE3 { s with rtc := { s.rtc with lost := true, lossMark := true } } t) ∧
  (∀ s : State, s.supply.aoOnVbkp = false → exec .vretCross s = .next s) ∧
  (∀ s : State, s.hub.present.getLsbD 0xE3 = false → Mild 0xE3 s → ∃ t, exec .bkpPowerOn s = .next t ∧
    RisesOnly 0xE3 { s with rtc := { s.rtc with sec := 0, sub := 0, valid := false, lost := true, lossMark := false,
                                                lostDue := true, lostDt := s.devtime } } t) ∧
  (∀ s : State, s.rtc.lossMark = true → s.hub.present.getLsbD 0xE3 = false → Mild 0xE3 s →
    ∃ t, exec .aoSwitchToVaux s = .next t ∧ RisesOnly 0xE3 { s with
      supply := { s.supply with aoOnVbkp := false }
      rtc := { s.rtc with sec := 0, sub := 0, valid := false, lost := true, lossMark := false,
                          lostDue := true, lostDt := s.devtime } } t) ∧
  (∀ s : State, sinovRuns s = false → s.hub.present.getLsbD 0x45 = false → s.hub.present.getLsbD 0xE3 = false →
    Mild 0x45 s → Mild 0xE3 s → ∃ t, exec .ao32Stop s = .next t ∧ Stands 0x45 t ∧ Stands 0xE3 t ∧
      t.clk = { s.clk with ao32Ok := false } ∧
      t.rtc = { s.rtc with lost := true, valid := false, lostDue := true, lostDt := s.devtime } ∧
      t.counters = s.counters ∧ MemSame s t) ∧
  (∀ s : State, exec .ckAo32Restart s = .next (Falls 0x45 { s with clk := { s.clk with ao32Ok := true } })) ∧
  (∀ (m : Master) (s : State), Granted m 0x1F 0x34 1 s →
    exec (.timeLostClrGo m) s = .next (Falls 0xE3 { s with rtc := { s.rtc with lost := false } })))

/-- A read of the low word of a register pair holds the high word, as it stands at that moment, for the same master. A
granted write of a register without a row of its own stores its fields: the mailbox request words of an owner, the
scratch words, the GPIO interrupt words where nothing is locked or held. An empty queue lets 10 ns pass (the model's
choice, log 1), in which DEVTIME stands while no clock runs. Where the spec leaves it open, this rests on the model's choices of log 1 (the idle step is the
model's choice) and log 39. -/
def Obligations.RegistersHoldPairsAndTimePasses : Prop :=
  (∀ (m : Master) (bank off : Nat) (s : State), bank < 0x31 → off < 0x1_0000 → off % 4 = 0 →
    pairWith bank off = [off + 4] → ReadGranted m bank off s → ∃ t, exec (.pairLoRead m (regAddr bank off)) s = .next t ∧
      t = { s with hold := t.hold } ∧ heldCopy m bank (off + 4) t = some (regVal bank (off + 4) s)) ∧
  ((∀ (m : Master) (k : Fin 256) (v : Word) (s : State), Granted m 0x00 (0x100 + 4 * k.val) v s →
    exec (.registerWrite m (regAddr 0x00 (0x100 + 4 * k.val)) 2 v) s =
      .next { s with sys := { s.sys with scratch := s.sys.scratch.set k v } }) ∧
  (∀ (m : Master) (n : Fin 8) (k : Fin 64) (v : Word) (s : State), Granted m 0x08 (0x400 * n.val + 4 * k.val) v s →
    (s.counters[n].stage = .idle ∨ s.counters[n].stage = .done) →
    ∃ t, exec (.registerWrite m (regAddr 0x08 (0x400 * n.val + 4 * k.val)) 2 v) s = .next t ∧
      t = { s with counters := s.counters.set n { s.counters[n] with req := t.counters[n].req } } ∧
      ∀ j : Fin 256, t.counters[n].req[j] =
        if j.val / 4 = k.val then byteOf v (j.val % 4) else s.counters[n].req[j]) ∧
  (∀ (m : Master) (b q : Fin 4) (v : Word) (s : State), Granted m (0x22 + b.val) (0x20 + 4 * q.val) v s →
    s.gpio[b].lockStat = 0 → unheld s b = 0xFFFF_FFFF →
    exec (.registerWrite m (regAddr (0x22 + b.val) (0x20 + 4 * q.val)) 2 v) s =
      .next { s with gpio := s.gpio.set b { s.gpio[b] with
        irqCfg := s.gpio[b].irqCfg.set q ((v &&& 0x7777_7777) ||| (s.gpio[b].irqCfg[q] &&& 0x8888_8888)) } }) ∧
  (∀ s : State, s.pending = [] → ∃ t, step s = .next t ∧
    t = { s with
      devtime := t.devtime, rtc := t.rtc, ao32Acc := t.ao32Acc, eth := t.eth, tickPhase := t.tickPhase, pix := t.pix
      rst := { s.rst with fresh := false }, docket := { s.docket with fresh := false } } ∧
    (clocksRun s = true → s.clk.lock.getLsbD 1 = true → t.devtime = s.devtime + 1) ∧
    (clocksRun s = false → t.devtime = s.devtime) ∧ t.rtc.sec = s.rtc.sec))

/-! ## CRYPTO (R379-R381) -/

/-- The SHA engine: START begins an empty message, DATA appends a word, FINAL starts the engine, whose end leaves
SHA-256 of the message; while it is busy START and DATA are ignored. MEXT loads a measurement register once, and
extends it afterwards. The signing engine: SIGN and VERIFY start it, and are ignored while it is busy; a verification
ends with SIGN_VALID telling whether the signature holds under the key, a signature with its two numbers under the
device key. Where the spec leaves it open, this rests on the model's choices of logs 5 and 19 (device key, the
standards' algorithms). -/
def Obligations.DigestsAndSignaturesAreMade : Prop :=
  ((∀ (m : Master) (v : Word) (s : State), Granted m 0x21 0x00 (v ||| 1) s → s.crypto.shaBusy = false →
    v.getLsbD 1 = false → exec (.shaStart m v) s = .next { s with crypto := { s.crypto with
      shaCtrl := (v ||| 1) &&& 0x0003_0003, msg := [], shaFinal := false } }) ∧
  (∀ (m : Master) (v : Word) (s : State), Granted m 0x21 0x00 (v ||| 1) s → s.crypto.shaBusy = true →
    exec (.shaStart m v) s = .next s) ∧
  (∀ (m : Master) (v : Word) (s : State), Granted m 0x21 0x08 v s → s.crypto.shaBusy = false →
    exec (.shaData m v) s = .next { s with crypto := { s.crypto with msg := s.crypto.msg ++ toLe v 4 } }) ∧
  (∀ (m : Master) (v : Word) (s : State), Granted m 0x21 0x08 v s → s.crypto.shaBusy = true →
    exec (.shaData m v) s = .next s) ∧
  (∀ (m : Master) (k : BitVec 2) (s : State), Granted m 0x21 0x00 ((k.setWidth 32 <<< 16) ||| 2) s →
    s.crypto.shaBusy = false → ∃ t, exec (.shaFinal m (k.setWidth 32 <<< 16)) s = .next t ∧
      t = { s with crypto := { s.crypto with shaCtrl := t.crypto.shaCtrl, msg := t.crypto.msg
                                             shaFinal := true, shaBusy := true } } ∧
      t.crypto.msg = (if k = 0 then s.crypto.msg else s.crypto.msg.take (s.crypto.msg.length - (4 - k.toNat)))) ∧
  (∀ s : State, s.crypto.shaFinal = true → exec .shaDone s = .next { s with crypto := { s.crypto with
    shaBusy := false, shaFinal := false, digest := digestOf (sha256 s.crypto.msg) } }) ∧
  (∀ (m : Master) (n : Fin 8) (s : State), Granted m 0x21 0xC0 (BitVec.ofNat 32 n.val ||| 0x100) s →
    s.crypto.loaded.getLsbD n.val = false → exec (.mextGo m (BitVec.ofNat 32 n.val)) s = .next { s with
      crypto := { s.crypto with meas := s.crypto.meas.set n s.crypto.mextD
                                loaded := setBit s.crypto.loaded n.val true } }) ∧
  (∀ (m : Master) (n : Fin 8) (s : State), Granted m 0x21 0xC0 (BitVec.ofNat 32 n.val ||| 0x100) s →
    s.crypto.loaded.getLsbD n.val = true → ∃ t, exec (.mextGo m (BitVec.ofNat 32 n.val)) s = .next t ∧
      t = { s with crypto := { s.crypto with meas := t.crypto.meas, loaded := t.crypto.loaded } } ∧
      t.crypto.loaded = s.crypto.loaded ∧ t.crypto.meas = s.crypto.meas.set n
        (digestOf (sha256 (digestBytes s.crypto.meas[n] ++ digestBytes s.crypto.mextD))))) ∧
  ((∀ (m : Master) (s : State), Granted m 0x21 0x40 1 s → s.crypto.signBusy = false →
    exec (.sign m) s = .next { s with crypto := { s.crypto with signOp := 1, signBusy := true } }) ∧
  (∀ (m : Master) (s : State), Granted m 0x21 0x40 2 s → s.crypto.signBusy = false →
    exec (.verify m) s = .next { s with crypto := { s.crypto with signOp := 2, signBusy := true } }) ∧
  (∀ (m : Master) (s : State), Granted m 0x21 0x40 1 s → s.crypto.signBusy = true → exec (.sign m) s = .next s) ∧
  (∀ s : State, s.crypto.signBusy = true → s.crypto.signOp = 2 → exec .signDone s = .next { s with
    crypto := { s.crypto with
      signBusy := false
      signValid := ecdsaVerify (vkeyPoint s.crypto) (digestNum s.crypto.hash) (digestNum s.crypto.r)
        (digestNum s.crypto.sg) } }) ∧
  (∀ s : State, s.crypto.signBusy = true → s.crypto.signOp = 1 → ∃ t, exec .signDone s = .next t ∧
    t = { s with crypto := { s.crypto with signBusy := false, r := t.crypto.r, sg := t.crypto.sg } } ∧
    t.crypto.r = digestOf (bytesBe 32 (ecdsaSign Config.deviceKey (digestNum s.crypto.hash)).1) ∧
    t.crypto.sg = digestOf (bytesBe 32 (ecdsaSign Config.deviceKey (digestNum s.crypto.hash)).2)) ∧
  (∀ s : State, s.crypto.signBusy = false → exec .signDone s = .next s))

/-! ## Caches (R387-R392, R407) -/

/-- The cache-block operations on memory that answers: clean writes the latest copy of the line to memory and leaves
no dirty copy, flush leaves none at all, inval discards it with memory untouched. Elsewhere they end with an error
response. L2_MAINT runs one operation at a time; at its end CLEAN leaves no dirty line, FLUSH and INVAL no line at
all, but for dirty lines whose memory takes no access, and INVAL leaves memory as it was. L2_CNT_CLR clears the counters. Where the spec leaves it open, this rests on
the model's choices of log 20. -/
def Obligations.CachesAreMaintained : Prop :=
  ((∀ (h : Fin 4) (a : BitVec 40) (s : State), Sound s → cachedRegion (a.toNat / 64) = true → memUp s a.toNat = true →
    ∃ t, exec (.cboClean h a) s = .next t ∧ t = { s with mem := t.mem, cluster := t.cluster } ∧
      lineDirty t (a.toNat / 64) = false ∧
      MemSameBut (64 * (a.toNat / 64)) (lineData s (a.toNat / 64)).length s t ∧
      (lineDirty s (a.toNat / 64) = true →
        t.mem.readAll (64 * (a.toNat / 64)) (lineData s (a.toNat / 64)).length = lineData s (a.toNat / 64)) ∧
      (lineDirty s (a.toNat / 64) = false → MemSame s t)) ∧
  (∀ (h : Fin 4) (a : BitVec 40) (s : State), Sound s → cachedRegion (a.toNat / 64) = true → memUp s a.toNat = true →
    ∃ t, exec (.cboFlush h a) s = .next t ∧ t = { s with mem := t.mem, cluster := t.cluster } ∧
      l2Find t (a.toNat / 64) = none ∧ (∀ c : Fin 4, l1Find t c (a.toNat / 64) = none) ∧
      (lineDirty s (a.toNat / 64) = true →
        t.mem.readAll (64 * (a.toNat / 64)) (lineData s (a.toNat / 64)).length = lineData s (a.toNat / 64)) ∧
      MemSameBut (64 * (a.toNat / 64)) (lineData s (a.toNat / 64)).length s t) ∧
  (∀ (h : Fin 4) (a : BitVec 40) (s : State), cachedRegion (a.toNat / 64) = true → memUp s a.toNat = true →
    ∃ t, exec (.cboInval h a) s = .next t ∧ t = { s with cluster := t.cluster } ∧
      l2Find t (a.toNat / 64) = none ∧ (∀ c : Fin 4, l1Find t c (a.toNat / 64) = none)) ∧
  (∀ (h : Fin 4) (a : BitVec 40) (s : State), cachedRegion (a.toNat / 64) = false → Mild 0x60 s →
    ∃ t, exec (.cboFlush h a) s = .next t ∧ Stands 0x60 t ∧ t.cluster = s.cluster ∧ t.hub.feValid = true ∧
      (s.hub.feValid = false → t.hub.feAddr = a ∧ t.hub.feSource = 1) ∧ t.counters = s.counters ∧ MemSame s t)) ∧
  ((∀ (m : Master) (s : State), Granted m 0x0E 0x00 1 s → s.cluster.busy = false →
    exec (.l2CleanAll m) s = .next { s with cluster := { s.cluster with busy := true, op := 1 } }) ∧
  (∀ (m : Master) (s : State), Granted m 0x0E 0x00 2 s → s.cluster.busy = false →
    exec (.l2FlushAll m) s = .next { s with cluster := { s.cluster with busy := true, op := 2 } }) ∧
  (∀ (m : Master) (s : State), Granted m 0x0E 0x00 3 s → s.cluster.busy = false →
    exec (.l2InvalAll m) s = .next { s with cluster := { s.cluster with busy := true, op := 3 } }) ∧
  (∀ (m : Master) (s : State), Granted m 0x0E 0x00 2 s → s.cluster.busy = true →
    exec (.l2FlushAll m) s = .next s) ∧
  (∀ s : State, s.cluster.busy = true → s.cluster.op = 1 → ∃ t, exec .l2MaintDone s = .next t ∧
    t = { s with mem := t.mem, cluster := t.cluster } ∧ t.cluster.busy = false ∧ t.cluster.op = 0 ∧
    ∀ line, lineDirty t line = true → stuckLine s line = true) ∧
  (∀ s : State, s.cluster.busy = true → s.cluster.op = 2 → (∀ line, stuckLine s line = false) → ∃ t, exec .l2MaintDone s = .next t ∧
    t = { s with mem := t.mem, cluster := t.cluster } ∧ t.cluster.busy = false ∧ t.cluster.l2 = [] ∧
    ∀ c : Fin 4, t.cluster.l1d[c] = []) ∧
  (∀ s : State, s.cluster.busy = true → s.cluster.op = 3 → ∃ t, exec .l2MaintDone s = .next t ∧
    t = { s with cluster := t.cluster } ∧ t.cluster.busy = false ∧ t.cluster.l2 = [] ∧
    ∀ c : Fin 4, t.cluster.l1d[c] = []) ∧
  (∀ (m : Master) (v : Word) (s : State), Granted m 0x0E 0x40 v s → v.getLsbD 0 = true →
    exec (.l2CntClr m v) s = .next { s with cluster := { s.cluster with
      hit := Vector.replicate 4 0, miss := Vector.replicate 4 0, wb := Vector.replicate 4 0 } }) ∧
  (∀ (m : Master) (v : Word) (s : State), Granted m 0x0E 0x40 v s → v.getLsbD 0 = false →
    exec (.l2CntClr m v) s = .next s))

/-- A turn of a bank with one core's request: ownership takes the line from every other core with its latest data, a
read shares it. A turn with nothing to serve changes nothing. Where the spec leaves it open, this rests on the model's
choices of log 20. -/
def Obligations.LinesAreCoherent : Prop :=
  (∀ (c : Fin 4) (line ofs : Nat) (d : List Byte) (s : State), s.cluster.turnQ = [] →
    fillRefused true line s = none → ∃ t, exec (.coherenceTurn (bankOf line) [.own c line ofs d]) s = .next t ∧
      t = { s with cluster := t.cluster } ∧ t.cluster.turnQ = [] ∧
      l1Find t c line = some { line := line, state := if d.isEmpty then .e else .m
                               data := patchLine (lineData s line) ofs d } ∧
      ∀ o : Fin 4, o ≠ c → l1Find t o line = none) ∧
  (∀ (c : Fin 4) (line : Nat) (s : State), s.cluster.turnQ = [] → fillRefused false line s = none →
    ∃ t l, exec (.coherenceTurn (bankOf line) [.read c line]) s = .next t ∧ t = { s with cluster := t.cluster } ∧
      l1Find t c line = some l ∧ l.data = lineData s line ∧ l.state ≠ .m ∧
      ∀ o : Fin 4, ∀ x, o ≠ c → l1Find t o line = some x → x.state = .s) ∧
  (∀ (b : Fin 4) (s : State), s.cluster.turnQ = [] → exec (.coherenceTurn b []) s = .next s)

/-! ## The wheel and DRAM (R397-R408) -/

/-- A slot without a request idles; a core's request in an empty queue is granted and counted, a burst of the fetch engine in a
VIDEO slot alone, and a request with a parity error ends with its error response and FAB_PARITY. An allotment takes
effect at the start of a revolution. The counters clear on request. DRAM: training ends ready or with DRAM_INIT_FAIL;
a refresh is counted while DRAM answers; DR_CNT_CLR clears its counters. Where the spec leaves it open, this rests on
the model's choices of logs 25 and 46. -/
def Obligations.WheelGrantsAndDramRefreshes : Prop :=
  ((∀ s : State, s.fabric.waiting = [] → exec (.wheelSlot []) s = .next { s with fabric := { s.fabric with
    idle := s.fabric.idle + 1, pos := s.fabric.pos + 1 } }) ∧
  (∀ (i : Fin 4) (r : WheelReq) (s : State), s.fabric.waiting = [] → r.master = .acore i → reachesWheel r = true →
    masterOpen s r.master = true → r.parityBad = false → memUp s r.addr.toNat = true → ∃ t, exec (.wheelSlot [r]) s = .next t ∧
      t = { s with fabric := t.fabric, dramc := t.dramc, dbg := t.dbg } ∧ t.fabric.waiting = [] ∧
      t.fabric.grants = s.fabric.grants.set 2 (s.fabric.grants[(2 : Fin 5)] + 1) ∧ t.fabric.idle = s.fabric.idle ∧
      t.fabric.pos = s.fabric.pos + 1 ∧
      (regionOf r.addr.toNat = .dram → r.kind = 0 → t.dramc = { s.dramc with rd := s.dramc.rd + 1 })) ∧
  (∀ (r : WheelReq) (s : State), s.fabric.waiting = [] → r.master = .vfetch → reachesWheel r = true →
    masterOpen s r.master = true → r.parityBad = false → (mapNow s).getD s.fabric.pos.val 0 = 1 →
    ∃ t, exec (.wheelSlot [r]) s = .next t ∧ t.video.granted = s.video.granted + 1 ∧ t.fabric.waiting = [] ∧
      t.fabric.grants = s.fabric.grants.set 0 (s.fabric.grants[(0 : Fin 5)] + 1)) ∧
  (∀ (r : WheelReq) (s : State), s.fabric.waiting = [] → r.master = .vfetch → reachesWheel r = true →
    masterOpen s r.master = true → r.parityBad = false → (mapNow s).getD s.fabric.pos.val 0 ≠ 1 →
    ∃ t, exec (.wheelSlot [r]) s = .next t ∧ t.video = s.video ∧ t.fabric.waiting = [{ req := r, since := 1 }] ∧
      t.fabric.idle = s.fabric.idle + 1) ∧
  (∀ (r : WheelReq) (s : State), s.fabric.waiting = [] → masterOpen s r.master = true → r.parityBad = true →
    Mild 0x60 s → Mild 0x61 s → ∃ t, exec (.wheelSlot [r]) s = .next t ∧ Stands 0x61 t ∧ Stands 0x60 t ∧
      t.hub.feValid = true ∧ (s.hub.feValid = false → t.hub.feSource = 3 ∧ t.hub.feAddr = r.addr) ∧
      t.fabric.waiting = [] ∧ t.fabric.idle = s.fabric.idle + 1 ∧ t.counters = s.counters ∧ MemSame s t) ∧
  (∀ s : State, s.fabric.pending = true → s.fabric.pos = 0 → exec .allotmentApply s = .next { s with
    fabric := { s.fabric with effV := s.fabric.allotV, effE := s.fabric.allotE, pending := false } }) ∧
  (∀ s : State, (s.fabric.pending = false ∨ s.fabric.pos ≠ 0) → exec .allotmentApply s = .next s) ∧
  (∀ (m : Master) (v : Word) (s : State), Granted m 0x0D 0x60 v s → v.getLsbD 0 = true →
    exec (.fabCntClr m v) s = .next { s with fabric := { s.fabric with
      grants := Vector.replicate 5 0, reclaim := 0, idle := 0, vwaitMax := 0 } }) ∧
  (∀ (m : Master) (v : Word) (s : State), Granted m 0x0D 0x60 v s → v.getLsbD 0 = false →
    exec (.fabCntClr m v) s = .next s)) ∧
  ((∀ s : State, domOn s 15 = true → exec (.dramTrainDone true) s = .next (Falls 0x62 { s with
    dramc := { s.dramc with ready := true, trainFail := false } })) ∧
  (∀ s : State, domOn s 15 = true → s.hub.present.getLsbD 0x62 = false → Mild 0x62 s →
    ∃ t, exec (.dramTrainDone false) s = .next t ∧
      RisesOnly 0x62 { s with dramc := { s.dramc with ready := false, trainFail := true } } t) ∧
  (∀ (ok : Bool) (s : State), domOn s 15 = false → exec (.dramTrainDone ok) s = .next s) ∧
  (∀ s : State, dramUp s = true → ∃ t, exec .dramRefresh s = .next t ∧
    t = { s with dramc := { s.dramc with refr := s.dramc.refr + 1, temp := t.dramc.temp, derate := t.dramc.derate }
                 freeCtr := t.freeCtr }) ∧
  (∀ s : State, dramUp s = false → exec .dramRefresh s = .next s) ∧
  (∀ (m : Master) (v : Word) (s : State), Granted m 0x0F 0x1C v s → v.getLsbD 0 = true →
    exec (.drCntClr m v) s = .next { s with dramc := { s.dramc with rd := 0, wr := 0, refr := 0 } }) ∧
  (∀ (m : Master) (v : Word) (s : State), Granted m 0x0F 0x1C v s → v.getLsbD 0 = false →
    exec (.drCntClr m v) s = .next s))

/-! ## xSPI flash (R478-R487) -/

/-- XS_CMD starts an erase of a sector or a program of a page, refused to an application core below its part of the
flash; at its end the sector is erased, or the page's bytes are those programmed ANDed into it, and no other byte of
memory changes. Where the spec leaves it open, this rests on the model's choices of logs 13 and 30 (programming ANDs). -/
def Obligations.FlashErasesAndPrograms : Prop :=
  (∀ s : State, Granted .keeper 0x2E 0x04 1 s → s.xspi.busy = false → exec (.xsErase64k .keeper) s = .next { s with
    xspi := { s.xspi with busy := true, op := 1, opAddr := s.xspi.addr.toNat / 65536 * 65536, opData := [] } }) ∧
  (∀ s : State, Granted .keeper 0x2E 0x04 2 s → s.xspi.busy = false → exec (.xsProgram .keeper) s = .next { s with
    xspi := { s.xspi with busy := true, op := 2, opAddr := s.xspi.addr.toNat, opData := xsBytes s.xspi } }) ∧
  (∀ s : State, Granted .keeper 0x2E 0x04 2 s → s.xspi.busy = true → exec (.xsProgram .keeper) s = .next s) ∧
  (∀ (i : Fin 4) (s : State), Granted (.acore i) 0x2E 0x04 1 s → xsTouch 1 s.xspi < flashFree → Mild 0x60 s →
    ∃ t, exec (.xsErase64k (.acore i)) s = .next t ∧ Stands 0x60 t ∧
      t.xspi = { s.xspi with events := s.xspi.events ||| 4 } ∧ t.hub.feValid = true ∧
      (s.hub.feValid = false → t.hub.feSource = 4) ∧ t.counters = s.counters ∧ MemSame s t) ∧
  (∀ s : State, s.xspi.busy = true → s.xspi.op = 1 → ∃ t, exec (.xsOpDone true) s = .next t ∧
    t = { s with mem := t.mem, xspi := t.xspi } ∧ t.xspi.busy = false ∧ t.xspi.events = s.xspi.events ||| 1 ∧
    MemSameBut (flashBase + s.xspi.opAddr / 65536 * 65536) 65536 s t ∧
    (s.xspi.opAddr < 0x1000_0000 → ∀ a, flashBase + s.xspi.opAddr / 65536 * 65536 ≤ a →
      a < flashBase + s.xspi.opAddr / 65536 * 65536 + 65536 → memByte t a = 0xFF)) ∧
  (∀ s : State, s.xspi.busy = true → s.xspi.op = 2 → s.xspi.opData.length ≤ 256 → Sound s →
    ∃ t, exec (.xsOpDone true) s = .next t ∧ t = { s with mem := t.mem, xspi := t.xspi } ∧ t.xspi.busy = false ∧
      t.xspi.events = s.xspi.events ||| 1 ∧ MemSameBut (flashBase + s.xspi.opAddr / 256 * 256) 256 s t ∧
      ∀ i b, s.xspi.opData[i]? = some b →
        memByte t (flashBase + s.xspi.opAddr / 256 * 256 + (s.xspi.opAddr % 256 + i) % 256) =
          memByte s (flashBase + s.xspi.opAddr / 256 * 256 + (s.xspi.opAddr % 256 + i) % 256) &&& b) ∧
  (∀ s : State, s.xspi.busy = true → s.xspi.op = 2 → ∃ t, exec (.xsOpDone false) s = .next t ∧
    t.xspi.busy = false ∧ t.xspi.events = s.xspi.events ||| 2 ∧
    MemSameBut (flashBase + s.xspi.opAddr / 256 * 256) 256 s t) ∧
  (∀ (ok : Bool) (s : State), s.xspi.busy = false → exec (.xsOpDone ok) s = .next s) ∧
  (∀ s : State, s.xspi.busy = true → s.xspi.noSusp = false →
    exec .xsReadSuspend s = .next { s with xspi := { s.xspi with susp := true } }) ∧
  (∀ s : State, s.xspi.busy = false → exec .xsReadSuspend s = .next s)

/-! ## Interrupts (R415-R425) -/

/-- Both controllers follow the source levels, and every context's best source has the highest priority of those
eligible. CTX_ENTER pushes a source that may pre-empt and marks a miss otherwise, CTX_EXIT pops the top, a full stack
takes no ninth. LIC_SWI sets and LIC_SWI_CLR clears software interrupts, which are source levels at once. A write of a
compare word acts on its timer's line at once, and DEVTIME reaching the compare value raises it. Where the spec leaves
it open, this rests on the model's choices of logs 51 and 58. -/
def Obligations.InterruptsAreServedAndTimed : Prop :=
  ((∀ s : State, ∃ t, exec .licLevelChange s = .next t ∧ t = { s with licApp := t.licApp, licKeep := t.licKeep } ∧
    (∀ i, i < 320 → t.licApp.level.getLsbD i = appSource s i ∧ t.licKeep.level.getLsbD i = keepSource s i) ∧
    ∀ app : Bool, ∀ c : Fin 8, (licGet app t).ctx[c].stack = (licGet app s).ctx[c].stack ∧
      (licGet app t).ctx[c].en = (licGet app s).ctx[c].en ∧ (licGet app t).ctx[c].thresh = (licGet app s).ctx[c].thresh ∧
      (licGet app t).prio = (licGet app s).prio ∧
      ∀ i p, (licGet app t).ctx[c].best = some (i, p) →
        ∀ j : Fin 320, eligible (licGet app t) (licGet app t).ctx[c] j = true → (licGet app t).prio[j] ≤ p) ∧
  (∀ (m : Master) (app : Bool) (c : Fin 8) (id : Fin 320) (s : State),
    Granted m (if app then 0x09 else 0x0A) (0x1048 + 0x100 * c.val) (BitVec.ofNat 32 id.val) s →
    (licGet app (licSync s)).ctx[c].stack.length < 8 →
    eligible (licGet app (licSync s)) (licGet app (licSync s)).ctx[c] id = true →
    mayPreempt (licGet app (licSync s)) (licGet app (licSync s)).ctx[c] (licGet app s).prio[id] = true →
    ∃ t, exec (.ctxEnter m app c (BitVec.ofNat 10 id.val)) s = .next t ∧
      t = { s with licApp := t.licApp, licKeep := t.licKeep } ∧
      (licGet app t).ctx[c].stack = (id.val, (licGet app s).prio[id]) :: (licGet app s).ctx[c].stack ∧
      (licGet app t).ctx[c].enterMiss = (licGet app s).ctx[c].enterMiss) ∧
  (∀ (m : Master) (app : Bool) (c : Fin 8) (id : Fin 320) (s : State),
    Granted m (if app then 0x09 else 0x0A) (0x1048 + 0x100 * c.val) (BitVec.ofNat 32 id.val) s →
    (licGet app s).ctx[c].stack.length ≠ 8 →
    (eligible (licGet app (licSync s)) (licGet app (licSync s)).ctx[c] id = false ∨
      mayPreempt (licGet app (licSync s)) (licGet app (licSync s)).ctx[c] (licGet app s).prio[id] = false) →
    ∃ t, exec (.ctxEnter m app c (BitVec.ofNat 10 id.val)) s = .next t ∧
      t = { s with licApp := t.licApp, licKeep := t.licKeep } ∧
      (licGet app t).ctx[c].stack = (licGet app s).ctx[c].stack ∧ (licGet app t).ctx[c].enterMiss = true) ∧
  (∀ (m : Master) (app : Bool) (c : Fin 8) (id : BitVec 10) (s : State),
    Granted m (if app then 0x09 else 0x0A) (0x1048 + 0x100 * c.val) (id.setWidth 32) s →
    (licGet app s).ctx[c].stack.length = 8 →
    ∃ t, exec (.ctxEnter m app c id) s = .next t ∧ t = { s with licApp := t.licApp, licKeep := t.licKeep } ∧
      (licGet app t).ctx[c].stack = (licGet app s).ctx[c].stack ∧ (licGet app t).ctx[c].full = true) ∧
  (∀ (m : Master) (app : Bool) (c : Fin 8) (v : Word) (s : State),
    Granted m (if app then 0x09 else 0x0A) (0x104C + 0x100 * c.val) v s → v.getLsbD 0 = true →
    ∃ t, exec (.ctxExit m app c v) s = .next t ∧ t = { s with licApp := t.licApp, licKeep := t.licKeep } ∧
      (licGet app t).ctx[c].stack = (licGet app s).ctx[c].stack.drop 1 ∧
      ((licGet app s).ctx[c].stack = [] → (licGet app t).ctx[c].exitMiss = true) ∧
      ((licGet app s).ctx[c].stack ≠ [] → (licGet app t).ctx[c].exitMiss = (licGet app s).ctx[c].exitMiss)) ∧
  (∀ (m : Master) (app : Bool) (c : Fin 8) (v : Word) (s : State),
    Granted m (if app then 0x09 else 0x0A) (0x104C + 0x100 * c.val) v s → v.getLsbD 0 = false →
    exec (.ctxExit m app c v) s = .next s)) ∧
  ((∀ (m : Master) (app : Bool) (v : Word) (s : State), Granted m (if app then 0x09 else 0x0A) 0x40 v s →
    ∃ t, exec (.licSwiSet m app v) s = .next t ∧ t = { s with licApp := t.licApp, licKeep := t.licKeep } ∧
      (licGet app t).swi = (licGet app s).swi ||| (if app then v else v &&& 0xFFFF) ∧
      (licGet (!app) t).swi = (licGet (!app) s).swi ∧
      (∀ i, i < 32 → t.licApp.level.getLsbD (192 + i) = t.licApp.swi.getLsbD i) ∧
      ∀ i, i < 16 → t.licKeep.level.getLsbD (96 + i) = t.licKeep.swi.getLsbD i) ∧
  (∀ (m : Master) (app : Bool) (v : Word) (s : State), Granted m (if app then 0x09 else 0x0A) 0x44 v s →
    ∃ t, exec (.licSwiClear m app v) s = .next t ∧ t = { s with licApp := t.licApp, licKeep := t.licKeep } ∧
      (licGet app t).swi = (licGet app s).swi &&& ~~~v ∧ (licGet (!app) t).swi = (licGet (!app) s).swi ∧
      ∀ i, i < 32 → t.licApp.level.getLsbD (192 + i) = t.licApp.swi.getLsbD i) ∧
  (∀ (m : Master) (app hi : Bool) (h : Fin 4) (v : Word) (s : State),
    Granted m (if app then 0x09 else 0x0A) (0x800 + 8 * h.val + (if hi then 4 else 0)) v s →
    ∃ t, exec (.mtimecmpWrite m app h hi v) s = .next t ∧ t = { s with licApp := t.licApp, licKeep := t.licKeep } ∧
      (licGet app t).mtimecmp = (licGet app s).mtimecmp.set h
        (if hi then v ++ (licGet app s).mtimecmp[h].setWidth 32 else ((licGet app s).mtimecmp[h] >>> 32).setWidth 32 ++ v) ∧
      (licGet app t).mtip.getLsbD h.val = decide ((licGet app t).mtimecmp[h] ≤ s.devtime) ∧
      (licGet app t).ctx = (licGet app s).ctx ∧ licGet (!app) t = licGet (!app) s) ∧
  (∀ (app : Bool) (h : Fin 4) (s : State), (licGet app s).mtimecmp[h] ≤ s.devtime →
    exec (.mtimerFire app h) s =
      .next (licSet app { licGet app s with mtip := setBit (licGet app s).mtip h.val true } s)) ∧
  (∀ (app : Bool) (h : Fin 4) (s : State), s.devtime < (licGet app s).mtimecmp[h] →
    exec (.mtimerFire app h) s = .next s))

/-! ## Barrow (R426-R436) -/

/-- START runs a channel whose arguments pass the checks with REMAIN at COUNT, and ends it with the code of the first
check that fails; in RUN it is lost. STOP and BW_STOPALL stop running channels only. Where the spec leaves it open,
this rests on the model's choices of logs 14 and 27. -/
def Obligations.ChannelsStartAndStop : Prop :=
  (∀ (m : Master) (app : Bool) (ch : Fin 16) (v : Word) (s : State),
    Granted m (if app then 0x0B else 0x0C) (0x114 + 0x40 * ch.val) (v ||| 1) s → v.getLsbD 1 = false →
    (bwGet app s).ch[ch].state ≠ .run → startCode app { (bwGet app s).ch[ch] with mode := bits v 4 2 } = none →
    exec (.barrowStart m app ch v) s = .next (bwSet app { ch := (bwGet app s).ch.set ch { (bwGet app s).ch[ch] with
      ie := v.getLsbD 8, mode := bits v 4 2, state := .run, code := 0, ended := false, mism := false, misOfs := 0,
      misOk := false, remain := (bwGet app s).ch[ch].count, stopDue := false } } s)) ∧
  (∀ (m : Master) (app : Bool) (ch : Fin 16) (v : Word) (k : BitVec 4) (s : State),
    Granted m (if app then 0x0B else 0x0C) (0x114 + 0x40 * ch.val) (v ||| 1) s → v.getLsbD 1 = false →
    (bwGet app s).ch[ch].state ≠ .run → startCode app { (bwGet app s).ch[ch] with mode := bits v 4 2 } = some k →
    exec (.barrowStart m app ch v) s = .next (bwSet app { ch := (bwGet app s).ch.set ch { (bwGet app s).ch[ch] with
      ie := v.getLsbD 8, mode := bits v 4 2, state := .error, code := k, ended := true,
      remain := (bwGet app s).ch[ch].count, stopDue := false } } s)) ∧
  (∀ (app : Bool) (c : BwChan), (c.count = 0 ∨ c.mode = 3 → startCode app c = some 1) ∧
    (startCode app c = none → c.mode = 0 → ¬ (c.src < c.dst ∧ c.dst.toNat < c.src.toNat + c.count.toNat))) ∧
  (∀ (m : Master) (app : Bool) (ch : Fin 16) (v : Word) (s : State),
    Granted m (if app then 0x0B else 0x0C) (0x114 + 0x40 * ch.val) (v ||| 1) s → v.getLsbD 1 = false →
    (bwGet app s).ch[ch].state = .run →
    exec (.barrowStart m app ch v) s = .next (bwSet app { ch := (bwGet app s).ch.set ch { (bwGet app s).ch[ch] with
      ie := v.getLsbD 8, lost := true } } s)) ∧
  (∀ (m : Master) (app : Bool) (ch : Fin 16) (v : Word) (s : State),
    Granted m (if app then 0x0B else 0x0C) (0x114 + 0x40 * ch.val) (v ||| 2) s → (bwGet app s).ch[ch].state = .run →
    exec (.barrowStop m app ch v) s = .next (bwSet app { ch := (bwGet app s).ch.set ch { (bwGet app s).ch[ch] with
      ie := v.getLsbD 8, stopDue := true } } s)) ∧
  (∀ (m : Master) (app : Bool) (ch : Fin 16) (v : Word) (s : State),
    Granted m (if app then 0x0B else 0x0C) (0x114 + 0x40 * ch.val) (v ||| 2) s → (bwGet app s).ch[ch].state ≠ .run →
    exec (.barrowStop m app ch v) s = .next (bwSet app { ch := (bwGet app s).ch.set ch { (bwGet app s).ch[ch] with
      ie := v.getLsbD 8, mode := bits v 4 2 } } s)) ∧
  (∀ (m : Master) (app : Bool) (v : Word) (s : State), Granted m (if app then 0x0B else 0x0C) 0x08 v s →
    v.getLsbD 0 = true → exec (.bwStopall m app v) s = .next (bwSet app { ch := (bwGet app s).ch.map fun c =>
      if c.state = .run then { c with stopDue := true } else c } s)) ∧
  (∀ (m : Master) (app : Bool) (v : Word) (s : State), Granted m (if app then 0x0B else 0x0C) 0x08 v s →
    v.getLsbD 0 = false → exec (.bwStopall m app v) s = .next s)

/-- While a channel is in RUN, writes to SRC, DST, COUNT, FILLVAL and CTRL.MODE are ignored, and the registers go on
showing the transfer in progress. CTRL.IE may be changed at any time. -/
def Obligations.RunningChannelsAreFrozen : Prop :=
  (∀ (m : Master) (app : Bool) (ch : Fin 16) (off : Nat) (v : Word) (s : State),
    off ∈ [0x00, 0x04, 0x08, 0x0C, 0x10, 0x18] → (bwGet app s).ch[ch].state = .run →
    Granted m (if app then 0x0B else 0x0C) (0x100 + 0x40 * ch.val + off) v s →
    exec (.registerWrite m (regAddr (if app then 0x0B else 0x0C) (0x100 + 0x40 * ch.val + off)) 2 v) s = .next s) ∧
  (∀ (m : Master) (app : Bool) (ch : Fin 16) (v : Word) (s : State),
    Granted m (if app then 0x0B else 0x0C) (0x114 + 0x40 * ch.val) v s →
    ∃ t, exec (.registerWrite m (regAddr (if app then 0x0B else 0x0C) (0x114 + 0x40 * ch.val)) 2 v) s = .next t ∧
      (bwGet app t).ch[ch].ie = v.getLsbD 8 ∧
      ((bwGet app s).ch[ch].state = .run → t = bwSet app { ch := (bwGet app s).ch.set ch { (bwGet app s).ch[ch] with
        ie := v.getLsbD 8, lost := (bwGet app t).ch[ch].lost, stopDue := (bwGet app t).ch[ch].stopDue } } s))

/-- A request of a running channel that completes writes its bytes and no others, counts them off REMAIN and ends the
channel at zero; a compare writes nothing and ends at the first byte that differs. An error response ends the channel
with its code, is captured and raises FAB_ERROR. A channel that does not run has no request. Where the spec leaves it
open, this rests on the model's choices of logs 14 and 27. -/
def Obligations.ChannelsMoveBytes : Prop :=
  (∀ (ch : Fin 16) (s : State), Sound s → s.bwKeep.ch[ch].state = .run → s.bwKeep.ch[ch].mode ≠ 2 →
    s.bwKeep.ch[ch].stopDue = false →
    (s.bwKeep.ch[ch].mode ≠ 1 → memUp s (s.bwKeep.ch[ch].src.toNat + bwDone s.bwKeep.ch[ch]) = true) →
    memUp s (s.bwKeep.ch[ch].dst.toNat + bwDone s.bwKeep.ch[ch]) = true →
    ∃ t, exec (.barrowRequestDone false ch) s = .next t ∧ t = { s with mem := t.mem, bwKeep := t.bwKeep } ∧
      MemSameBut (s.bwKeep.ch[ch].dst.toNat + bwDone s.bwKeep.ch[ch]) (chunkLen s.bwKeep.ch[ch]) s t ∧
      (∀ i, i < chunkLen s.bwKeep.ch[ch] → memByte t (s.bwKeep.ch[ch].dst.toNat + bwDone s.bwKeep.ch[ch] + i) =
        bwNew false s.bwKeep.ch[ch] s (bwDone s.bwKeep.ch[ch] + i)) ∧
      t.bwKeep.ch[ch].remain.toNat = s.bwKeep.ch[ch].remain.toNat - chunkLen s.bwKeep.ch[ch] ∧
      t.bwKeep.ch[ch].state = (if t.bwKeep.ch[ch].remain = 0 then .done else .run) ∧
      ∀ k : Fin 16, k ≠ ch → t.bwKeep.ch[k] = s.bwKeep.ch[k]) ∧
  (∀ (app : Bool) (ch : Fin 16) (s : State), (bwGet app s).ch[ch].state = .run → (bwGet app s).ch[ch].mode = 2 →
    memUp s ((bwGet app s).ch[ch].src.toNat + bwDone (bwGet app s).ch[ch]) = true →
    memUp s ((bwGet app s).ch[ch].dst.toNat + bwDone (bwGet app s).ch[ch]) = true →
    ∃ t, exec (.barrowRequestDone app ch) s = .next t ∧ t = { s with bwApp := t.bwApp, bwKeep := t.bwKeep } ∧
      ((∀ i, i < chunkLen (bwGet app s).ch[ch] →
          bwByte app s ((bwGet app s).ch[ch].src.toNat + bwDone (bwGet app s).ch[ch] + i) =
            bwByte app s ((bwGet app s).ch[ch].dst.toNat + bwDone (bwGet app s).ch[ch] + i)) →
        (bwGet app t).ch[ch].mism = (bwGet app s).ch[ch].mism ∧
        (bwGet app t).ch[ch].remain.toNat = (bwGet app s).ch[ch].remain.toNat - chunkLen (bwGet app s).ch[ch]) ∧
      ∀ i, i < chunkLen (bwGet app s).ch[ch] →
        bwByte app s ((bwGet app s).ch[ch].src.toNat + bwDone (bwGet app s).ch[ch] + i) ≠
          bwByte app s ((bwGet app s).ch[ch].dst.toNat + bwDone (bwGet app s).ch[ch] + i) →
        (∀ j, j < i → bwByte app s ((bwGet app s).ch[ch].src.toNat + bwDone (bwGet app s).ch[ch] + j) =
            bwByte app s ((bwGet app s).ch[ch].dst.toNat + bwDone (bwGet app s).ch[ch] + j)) →
        (bwGet app t).ch[ch].mism = true ∧ (bwGet app t).ch[ch].misOk = true ∧ (bwGet app t).ch[ch].ended = true ∧
        (bwGet app t).ch[ch].misOfs = BitVec.ofNat 31 (bwDone (bwGet app s).ch[ch] + i)) ∧
  (∀ (app onWrite : Bool) (ch : Fin 16) (s : State), (bwGet app s).ch[ch].state = .run → Mild 0x60 s →
    ∃ t, exec (.barrowErrorResponse app ch onWrite) s = .next t ∧ (bwGet app t).ch[ch].state = .error ∧
      (bwGet app t).ch[ch].ended = true ∧
      (bwGet app t).ch[ch].code = (if (bwGet app s).ch[ch].mode = 1 ∨ ((bwGet app s).ch[ch].mode ≠ 2 ∧ onWrite = true)
        then 5 else 4) ∧
      Stands 0x60 t ∧ t.hub.feValid = true ∧ (s.hub.feValid = false → t.hub.feMaster = masterId (bwMaster app)) ∧
      t.counters = s.counters) ∧
  (∀ (app onWrite : Bool) (ch : Fin 16) (s : State), (bwGet app s).ch[ch].state ≠ .run →
    exec (.barrowErrorResponse app ch onWrite) s = .next s ∧ exec (.barrowRequestDone app ch) s = .next s)

/-! ## GPIO (R440-R457) and wake sources (R43) -/

/-- OUT_VAL, OUT_SET, OUT_CLR and OUT_TGL change the latches of the pins that are not held, and nothing else but the
events that the pins' edges cause; an edge of an input sets its event by the pin's mode. The three writes of a lock
sequence by one master add LOCK_MASK to LOCK_STAT; a write out of step abandons it, locks nothing and sets ABORT. WAKE
and chip-select activity wake a dormant device whose SLEEP enabled them, and nothing else. Where the spec leaves it
open, this rests on the model's choices of logs 4 and 26. -/
def Obligations.PinsLocksAndWakeSources : Prop :=
  ((∀ (m : Master) (b : Fin 4) (v : Word) (s : State), Granted m (0x22 + b.val) 0x04 v s →
    ∃ t, exec (.outValWrite m b v) s = .next t ∧ t = { s with gpio := s.gpio.set b { s.gpio[b] with
      out := (v &&& unheld s b) ||| (s.gpio[b].out &&& ~~~(unheld s b)), evt := t.gpio[b].evt } }) ∧
  (∀ (m : Master) (b : Fin 4) (v : Word) (s : State), Granted m (0x22 + b.val) 0x08 v s →
    ∃ t, exec (.outSet m b v) s = .next t ∧ t = { s with gpio := s.gpio.set b { s.gpio[b] with
      out := s.gpio[b].out ||| (v &&& unheld s b), evt := t.gpio[b].evt } }) ∧
  (∀ (m : Master) (b : Fin 4) (v : Word) (s : State), Granted m (0x22 + b.val) 0x0C v s →
    ∃ t, exec (.outClr m b v) s = .next t ∧ t = { s with gpio := s.gpio.set b { s.gpio[b] with
      out := s.gpio[b].out &&& ~~~(v &&& unheld s b), evt := t.gpio[b].evt } }) ∧
  (∀ (m : Master) (b : Fin 4) (v : Word) (s : State), Granted m (0x22 + b.val) 0x10 v s →
    ∃ t, exec (.outTgl m b v) s = .next t ∧ t = { s with gpio := s.gpio.set b { s.gpio[b] with
      out := s.gpio[b].out ^^^ (v &&& unheld s b), evt := t.gpio[b].evt } }) ∧
  (∀ (b : Fin 4) (pin : Fin 32) (level : Bool) (s : State), domOn s (45 + b.val) = true →
    (bankMask b).getLsbD pin.val = true → pinDrive s b pin.val = none → (pinCfg s b pin.val).getLsbD 7 = false →
    ∃ t, exec (.gpioPinChange b pin level) s = .next t ∧ t = { s with gpio := s.gpio.set b { s.gpio[b] with
      pad := setBit s.gpio[b].pad pin.val level, evt := t.gpio[b].evt } } ∧
      t.gpio[b].evt.getLsbD pin.val = (s.gpio[b].evt.getLsbD pin.val ||
        (!s.gpio[b].pad.getLsbD pin.val && level && (irqMode s b pin.val = 3 || irqMode s b pin.val = 5)) ||
        (s.gpio[b].pad.getLsbD pin.val && !level && (irqMode s b pin.val = 4 || irqMode s b pin.val = 5))) ∧
      ∀ j, j ≠ pin.val → t.gpio[b].evt.getLsbD j = s.gpio[b].evt.getLsbD j) ∧
  (∀ (b : Fin 4) (pin : Fin 32) (level : Bool) (s : State), domOn s (45 + b.val) = false →
    exec (.gpioPinChange b pin level) s = .next { s with gpio := s.gpio.set b { s.gpio[b] with
      pad := setBit s.gpio[b].pad pin.val level } })) ∧
  ((∀ (m : Master) (b : Fin 4) (s : State), Granted m (0x22 + b.val) 0x40 0x5A5A s →
    exec (.lockKeyWrite m b 0x5A5A) s = .next { s with gpio := s.gpio.set b { s.gpio[b] with
      lockStep := 1, lockMaster := (masterId m).setWidth 4
      abort := s.gpio[b].abort || decide (s.gpio[b].lockStep ≠ 0) } }) ∧
  (∀ (m : Master) (b : Fin 4) (v : Word) (s : State), Granted m (0x22 + b.val) 0x44 v s → s.gpio[b].lockStep = 1 →
    s.gpio[b].lockMaster = (masterId m).setWidth 4 →
    exec (.lockMaskWrite m b v) s = .next { s with gpio := s.gpio.set b { s.gpio[b] with
      lockMask := v &&& bankMask b, lockStep := 2 } }) ∧
  (∀ (m : Master) (b : Fin 4) (s : State), Granted m (0x22 + b.val) 0x40 0xA5A5 s → s.gpio[b].lockStep = 2 →
    s.gpio[b].lockMaster = (masterId m).setWidth 4 →
    exec (.lockKeyWrite m b 0xA5A5) s = .next { s with gpio := s.gpio.set b { s.gpio[b] with
      lockStep := 0, lockStat := s.gpio[b].lockStat ||| s.gpio[b].lockMask } }) ∧
  (∀ (m : Master) (b : Fin 4) (v : Word) (s : State), Granted m (0x22 + b.val) 0x40 v s → v ≠ 0x5A5A →
    s.gpio[b].lockStep ≠ 0 →
    (v ≠ 0xA5A5 ∨ s.gpio[b].lockStep ≠ 2 ∨ s.gpio[b].lockMaster ≠ (masterId m).setWidth 4) →
    exec (.lockKeyWrite m b v) s = .next { s with gpio := s.gpio.set b { s.gpio[b] with
      lockStep := 0, abort := true } }) ∧
  (∀ (m : Master) (b : Fin 4) (v : Word) (s : State), Granted m (0x22 + b.val) 0x40 v s → v ≠ 0x5A5A →
    s.gpio[b].lockStep = 0 → exec (.lockKeyWrite m b v) s = .next s) ∧
  (∀ (m : Master) (b : Fin 4) (v : Word) (s : State), Granted m (0x22 + b.val) 0x44 v s → s.gpio[b].lockStep ≠ 0 →
    (s.gpio[b].lockStep ≠ 1 ∨ s.gpio[b].lockMaster ≠ (masterId m).setWidth 4) →
    exec (.lockMaskWrite m b v) s = .next { s with gpio := s.gpio.set b { s.gpio[b] with
      lockMask := v &&& bankMask b, lockStep := 0, abort := true } }) ∧
  (∀ s : State, s.ps.phase = .dormant → s.ps.wakeEn.getLsbD 1 = true → Asserts 1 s →
    ∃ t, exec .wakePin s = .next t ∧ SystemReset 0x0D s t) ∧
  (∀ s : State, s.ps.phase = .dormant → s.ps.wakeEn.getLsbD 2 = true → Asserts 1 s →
    ∃ t, exec .hspiWake s = .next t ∧ SystemReset 0x0D s t) ∧
  (∀ s : State, (s.ps.phase ≠ .dormant ∨ s.ps.wakeEn.getLsbD 1 = false) → exec .wakePin s = .next s) ∧
  (∀ s : State, (s.ps.phase ≠ .dormant ∨ s.ps.wakeEn.getLsbD 2 = false) → exec .hspiWake s = .next s))

/-! ## SPI masters (R458-R465) -/

/-- SPI_CTRL and SPI_TX fill a port, SPI_RX pops one word, SPI_GO sends one safe frame and counts ALIVE. A RAW
transfer ends with a word in for each word out; a safe frame that fails its checks is ignored and reported, a good one
is taken. Beside the port only the events of bank 0's pins may come up, which the port's own pins make. Where the spec leaves it
open, this rests on the model's choices of logs 26 and 29. -/
def Obligations.PortsTransfer : Prop :=
  (∀ (m : Master) (i : Fin 4) (v : Word) (s : State), Granted m (0x27 + i.val) 0x00 v s → s.spim[i].busy = false →
    ∃ t, exec (.spiCtrlWrite m i v) s = .next t ∧ PortOnly s t ∧ t.spim = s.spim.set i
      (if v.getLsbD 0 then { s.spim[i] with
        ctrl := (v &&& 0x0003_1F5F) ||| (BitVec.ofNat 32 (frameLen (bits v 24 7 : BitVec 7).toNat) <<< 24) }
      else { s.spim[i] with
        ctrl := (v &&& 0x0003_1F5F) ||| (BitVec.ofNat 32 (frameLen (bits v 24 7 : BitVec 7).toNat) <<< 24)
        tx := [], rx := [], alive := 0, lastAlive := none, sendBad := false, sendSkip := false })) ∧
  (∀ (m : Master) (i : Fin 4) (v : Word) (s : State), Granted m (0x27 + i.val) 0x00 v s → s.spim[i].busy = true →
    v.getLsbD 6 = true → exec (.spiCtrlWrite m i v) s = .next s) ∧
  (∀ (m : Master) (i : Fin 4) (v : Word) (s : State), Granted m (0x27 + i.val) 0x14 v s →
    s.spim[i].ctrl.getLsbD 0 = true → spiSafe s.spim[i] = false → s.spim[i].tx.length < 16 →
    ∃ t, exec (.spiTxWrite m i v) s = .next t ∧ PortOnly s t ∧
      t.spim = s.spim.set i { s.spim[i] with tx := s.spim[i].tx ++ [v], busy := true }) ∧
  (∀ (m : Master) (i : Fin 4) (v : Word) (s : State), Granted m (0x27 + i.val) 0x14 v s →
    (s.spim[i].ctrl.getLsbD 0 = false ∨ spiSafe s.spim[i] = true) → exec (.spiTxWrite m i v) s = .next s) ∧
  (∀ (m : Master) (i : Fin 4) (s : State), ReadGranted m (0x27 + i.val) 0x18 s →
    exec (.spiRxRead m i) s = .next { s with spim := s.spim.set i { s.spim[i] with rx := s.spim[i].rx.drop 1 } }) ∧
  (∀ (m : Master) (i : Fin 4) (v : Word) (s : State), Granted m (0x27 + i.val) 0x1C v s → v.getLsbD 0 = true →
    s.spim[i].ctrl.getLsbD 0 = true → spiSafe s.spim[i] = true → s.spim[i].busy = false →
    ∃ t, exec (.spiGo m i v) s = .next t ∧ PortOnly s t ∧ t.spim = s.spim.set i { s.spim[i] with
      busy := true, sent := spiFrame s.spim[i], alive := s.spim[i].alive + 1 }) ∧
  (∀ (m : Master) (i : Fin 4) (v : Word) (s : State), Granted m (0x27 + i.val) 0x1C v s → s.spim[i].busy = true →
    exec (.spiGo m i v) s = .next s) ∧
  (∀ (i : Fin 4) (rx : List Word) (s : State), s.spim[i].busy = true → spiSafe s.spim[i] = false →
    s.spim[i].tx ≠ [] → rx.length = s.spim[i].tx.length → s.spim[i].rx.length + rx.length ≤ 16 →
    ∃ t, exec (.spiRawDone i rx) s = .next t ∧ PortOnly s t ∧
      t.spim = s.spim.set i { s.spim[i] with tx := [], rx := t.spim[i].rx, busy := t.spim[i].busy,
                                             events := t.spim[i].events } ∧
      t.spim[i].rx = s.spim[i].rx ++ rx.map (fun w =>
        w &&& BitVec.ofNat 32 (2 ^ ((bits s.spim[i].ctrl 8 5 : BitVec 5).toNat + 1) - 1)) ∧
      (s.spim[i].ctrl.getLsbD 6 = false → t.spim[i].busy = false ∧ t.spim[i].events = s.spim[i].events ||| 1) ∧
      (s.spim[i].ctrl.getLsbD 6 = true → t.spim[i].busy = true ∧ t.spim[i].events = s.spim[i].events)) ∧
  (∀ (i : Fin 4) (rx : List Byte) (n : Nat) (s : State), s.spim[i].busy = true → spiSafe s.spim[i] = true →
    frameBad (spiLen s.spim[i]) s.spim[i].lastAlive n rx = true →
    ∃ t, exec (.spiSafeFrameDone i rx n) s = .next t ∧ PortOnly s t ∧ t.spim = s.spim.set i { s.spim[i] with
      busy := false, events := s.spim[i].events ||| 5, sendBad := true, sendSkip := false }) ∧
  (∀ (i : Fin 4) (rx : List Byte) (n : Nat) (s : State), s.spim[i].busy = true → spiSafe s.spim[i] = true →
    frameBad (spiLen s.spim[i]) s.spim[i].lastAlive n rx = false →
    ∃ t, exec (.spiSafeFrameDone i rx n) s = .next t ∧ PortOnly s t ∧
      (∀ k : Fin 4, k ≠ i → t.spim[k] = s.spim[k]) ∧ t.spim[i].busy = false ∧
      t.spim[i].lastAlive = some ((rx.getD 0 0).setWidth 4) ∧ t.spim[i].sendBad = false ∧
      t.spim[i].events.getLsbD 0 = true ∧
      t.spim[i].sendSkip = frameSkip s.spim[i].lastAlive ((rx.getD 0 0).setWidth 4) ∧
      (∀ w : Fin 16, 4 * w.val + 4 ≤ rx.length → t.spim[i].sfrx[w] = BitVec.ofNat 32 (fieldLe rx (4 * w.val) 4)))

/-! ## HSPI (R466-R471, R484) -/

/-- Accepted safe frames of the host: WRITE_REQ writes its data into an IDLE or DONE counter from OFFSET and no
further, OFFSET 0 mends BROKEN; DOORBELL with RING posts the counter unless BROKEN, which is answered RING_REFUSED;
the frame after a READ_RPL carries the reply bytes; NOP only exchanges status. Where the spec leaves it open, this
rests on the model's choices of logs 8 and 39. -/
def Obligations.HostFramesAreServed : Prop :=
  (∀ (cs : Fin 2) (a : BitVec 4) (ofs : Byte) (data : List Byte) (s : State), hspiUp s = true → csSafe s cs = true →
    8 ≤ s.hspi.len.toNat → s.hspi.len.toNat ≤ 64 → s.hspi.cs[cs].lastAlive ≠ some a →
    (s.counters[csCounter cs].stage = .idle ∨ s.counters[csCounter cs].stage = .done) →
    ∃ t, exec (.hspiWriteReq cs (some a) ofs data) s = .next t ∧
      t = { s with hspi := t.hspi, counters := t.counters, freeCtr := t.freeCtr } ∧ OtherCounters (csCounter cs) s t ∧
      t.counters[csCounter cs] = { s.counters[csCounter cs] with req := t.counters[csCounter cs].req } ∧
      (∀ i : Fin 256, t.counters[csCounter cs].req[i] =
        if ofs.toNat ≤ i.val ∧ i.val < ofs.toNat + (s.hspi.len.toNat - 6) then data.getD (i.val - ofs.toNat) 0
        else s.counters[csCounter cs].req[i]) ∧
      t.hspi.cs[cs].lastAlive = some a ∧ t.hspi.cs[cs].alive = s.hspi.cs[cs].alive + 1 ∧
      t.hspi.cs[cs].broken = (if ofs = 0 then false else s.hspi.cs[cs].broken)) ∧
  (∀ (cs : Fin 2) (a : BitVec 4) (ofs : Byte) (data : List Byte) (s : State), hspiUp s = true → csSafe s cs = true →
    8 ≤ s.hspi.len.toNat → s.hspi.len.toNat ≤ 64 → s.hspi.cs[cs].lastAlive ≠ some a →
    (s.counters[csCounter cs].stage = .posted ∨ s.counters[csCounter cs].stage = .taken) →
    ∃ t, exec (.hspiWriteReq cs (some a) ofs data) s = .next t ∧
      t = { s with hspi := t.hspi, freeCtr := t.freeCtr } ∧ t.hspi.cs[cs].lastAlive = some a) ∧
  (∀ (cs : Fin 2) (a : BitVec 4) (s : State), hspiUp s = true → csSafe s cs = true →
    8 ≤ s.hspi.len.toNat → s.hspi.len.toNat ≤ 64 → s.hspi.cs[cs].lastAlive ≠ some a → s.hspi.cs[cs].broken = false →
    (s.counters[csCounter cs].stage = .idle ∨ s.counters[csCounter cs].stage = .done) →
    ∃ t, exec (.hspiDoorbell cs (some a) 1) s = .next t ∧
      t = { s with hspi := t.hspi, counters := t.counters, freeCtr := t.freeCtr } ∧
      t.counters = s.counters.set (csCounter cs) { s.counters[csCounter cs] with
        stage := .posted, stamp := s.devtime, lastTag := s.counters[csCounter cs].req[2] }) ∧
  (∀ (cs : Fin 2) (a : BitVec 4) (s : State), hspiUp s = true → csSafe s cs = true →
    8 ≤ s.hspi.len.toNat → s.hspi.len.toNat ≤ 64 → s.hspi.cs[cs].lastAlive ≠ some a → s.hspi.cs[cs].broken = true →
    ∃ t, exec (.hspiDoorbell cs (some a) 1) s = .next t ∧ t = { s with hspi := t.hspi, freeCtr := t.freeCtr } ∧
      t.hspi.cs[cs].refused = true ∧ t.hspi.cs[cs].broken = true) ∧
  (∀ (cs : Fin 2) (a : BitVec 4) (ofs : Byte) (n : Nat) (s : State), hspiUp s = true → csSafe s cs = true →
    8 ≤ s.hspi.len.toNat → s.hspi.len.toNat ≤ 64 → s.hspi.cs[cs].lastAlive ≠ some a →
    ∃ t, exec (.hspiReadRpl cs (some a) ofs n) s = .next t ∧ t = { s with hspi := t.hspi, freeCtr := t.freeCtr } ∧
      t.hspi.cs[cs].readOfs = some ofs ∧ t.hspi.cs[cs].echoOfs = ofs) ∧
  (∀ (cs : Fin 2) (a : BitVec 4) (s : State), hspiUp s = true → csSafe s cs = true →
    8 ≤ s.hspi.len.toNat → s.hspi.len.toNat ≤ 64 → s.hspi.cs[cs].lastAlive ≠ some a →
    ∃ t, exec (.hspiNop cs a) s = .next t ∧ t = { s with hspi := t.hspi, freeCtr := t.freeCtr } ∧
      t.hspi.cs[cs].readOfs = none ∧ t.hspi.cs[cs].miso.length = s.hspi.len.toNat ∧
      t.hspi.cs[cs].miso[1]? = some (cntStatusByte s.counters[csCounter cs]) ∧
      ∀ o, s.hspi.cs[cs].readOfs = some o → (t.hspi.cs[cs].miso.drop 4).take (s.hspi.len.toNat - 6) =
        rplBytes s.counters[csCounter cs] o.toNat (s.hspi.len.toNat - 6))

/-- RAW transactions: reply bytes and register values are shifted out, an offset that is no word's gets an error response, HS_CFG
is written in SERVICE alone and waits for its moment. A bad safe frame sets BROKEN, counts and raises its fault; both chip-selects low at once spoil the
frames and set CLASH. Where the spec leaves it open, this rests on the model's choices of logs 8 and 39. -/
def Obligations.HostLinksRecover : Prop :=
  (∀ (ofs : Byte) (n : Nat) (s : State), hspiUp s = true → csSafe s 0 = false → n ≤ 256 →
    ∃ t, exec (.hspiReadRpl 0 none ofs n) s = .next t ∧ t = { s with hspi := t.hspi, freeCtr := t.freeCtr } ∧
      (t.hspi.cs[(0 : Fin 2)].miso).drop 3 = rplBytes s.counters[(4 : Fin 8)] ofs.toNat n) ∧
  (∀ (ofs : BitVec 16) (s : State), hspiUp s = true → csSafe s 0 = false → ofs.toNat % 4 = 0 →
    ReadGranted .hspi 0x2B ofs.toNat s →
    ∃ t, exec (.hspiRegRead ofs) s = .next t ∧ t = { s with hspi := t.hspi, freeCtr := t.freeCtr } ∧
      (t.hspi.cs[(0 : Fin 2)].miso).drop 4 = toLe (regVal 0x2B ofs.toNat s) 4) ∧
  (∀ (v : Word) (s : State), hspiUp s = true → csSafe s 0 = false → Granted .hspi 0x2B 0 v s →
    ∃ t, exec (.hspiRegWrite 0 v) s = .next t ∧ t = { s with hspi := t.hspi } ∧ t.hspi.cfgDue = some v ∧
      t.hspi.mode0 = s.hspi.mode0 ∧ t.hspi.len = s.hspi.len) ∧
  (∀ (ofs : BitVec 16) (v : Word) (s : State), hspiUp s = true → csSafe s 0 = false → ofs.toNat % 4 ≠ 0 → Mild 0x60 s →
    (∃ t, exec (.hspiRegRead ofs) s = .next t ∧ Stands 0x60 t ∧ t.hub.feValid = true ∧
      (s.hub.feValid = false → t.hub.feSource = 2 ∧ t.hub.feMaster = masterId .hspi ∧ t.hub.feAddr = regAddr 0x2B ofs.toNat) ∧
      t.counters = s.counters ∧ MemSame s t) ∧
    ∃ t, exec (.hspiRegWrite ofs v) s = .next t ∧ Stands 0x60 t ∧ t.hub.feValid = true ∧
      (s.hub.feValid = false → t.hub.feSource = 2 ∧ t.hub.feMaster = masterId .hspi ∧ t.hub.feAddr = regAddr 0x2B ofs.toNat) ∧
      t.hspi.cfgDue = s.hspi.cfgDue ∧ t.counters = s.counters ∧ MemSame s t) ∧
  (∀ (v : Word) (s : State), hspiUp s = true → csSafe s 0 = false → s.sys.mode ≠ 1 → Mild 0x60 s →
    ∃ t, exec (.hspiRegWrite 0 v) s = .next t ∧ t.hspi.cfgDue = s.hspi.cfgDue ∧ Stands 0x60 t ∧
      t.counters = s.counters) ∧
  (∀ (cs : Fin 2) (s : State), hspiUp s = true → csSafe s cs = true → Mild 0xC4 s →
    ∃ t, exec (.hspiBadFrame cs) s = .next t ∧ Stands 0xC4 t ∧ t.counters = s.counters ∧ MemSame s t ∧
      t.hspi.cs[cs].broken = true ∧ t.hspi.cs[cs].badCnt = s.hspi.cs[cs].badCnt + 1 ∧
      t.hspi.cs[cs].sendBad = true ∧ t.hspi.events = s.hspi.events ||| BitVec.twoPow 3 cs.val) ∧
  (∀ s : State, hspiUp s = true → Mild 0xC4 s →
    ∃ t, exec .hspiClash s = .next t ∧ Stands 0xC4 t ∧ t.counters = s.counters ∧ MemSame s t ∧
      t.hspi.events.getLsbD 2 = true ∧ t.hspi.cs[(1 : Fin 2)].broken = true ∧
      t.hspi.cs[(0 : Fin 2)].broken = (s.hspi.cs[(0 : Fin 2)].broken || s.hspi.mode0)) ∧
  (∀ (v : Word) (s : State), s.hspi.cfgDue = some v →
    exec .hsCfgApply s = .next { s with hspi := { s.hspi with
      mode0 := v.getLsbD 0, len := BitVec.ofNat 7 (frameLen (bits v 8 7 : BitVec 7).toNat), cfgDue := none
      cs := s.hspi.cs.map fun h => { h with alive := 0, lastAlive := none } } }) ∧
  (∀ s : State, s.hspi.cfgDue = none → exec .hsCfgApply s = .next s)

/-! ## Ethernet (R472-R477, R485, R486) -/

/-- ETH_CTRL starts and stops the rings. A ring serves its descriptor at HEAD: the frame is sent or stored, the
descriptor comes back without OWN, HEAD moves on and the event is set; a frame that may not be taken is counted or
reported, and a PAUSE frame that the MAC honours holds transmission. An error response stops the ring. Where the spec leaves it open, this rests on the model's choices of logs 8
and 28. -/
def Obligations.RingsCarryFrames : Prop :=
  (∀ (m : Master) (i : Fin 2) (v : Word) (s : State), Granted m (0x2C + i.val) 0x00 v s →
    ∃ t, exec (.ethCtrlWrite m i v) s = .next t ∧
      t = { s with eth := s.eth.set i { s.eth[i] with
        ctrl := v &&& 0xFF, txRun := t.eth[i].txRun, rxRun := t.eth[i].rxRun
        txHead := t.eth[i].txHead, rxHead := t.eth[i].rxHead } } ∧
      (v.getLsbD 0 = true → s.eth[i].ctrl.getLsbD 0 = false → t.eth[i].txRun = true ∧ t.eth[i].txHead = 0) ∧
      (v.getLsbD 0 = true → s.eth[i].ctrl.getLsbD 0 = true →
        t.eth[i].txRun = s.eth[i].txRun ∧ t.eth[i].txHead = s.eth[i].txHead) ∧
      (v.getLsbD 0 = false → t.eth[i].txRun = false) ∧
      (v.getLsbD 1 = true → s.eth[i].ctrl.getLsbD 1 = false → t.eth[i].rxRun = true ∧ t.eth[i].rxHead = 0) ∧
      (v.getLsbD 1 = true → s.eth[i].ctrl.getLsbD 1 = true →
        t.eth[i].rxRun = s.eth[i].rxRun ∧ t.eth[i].rxHead = s.eth[i].rxHead) ∧
      (v.getLsbD 1 = false → t.eth[i].rxRun = false)) ∧
  (∀ (i : Fin 2) (s : State), (s.eth[i].txRun = false ∨ s.eth[i].txHead = s.eth[i].txTail ∨ ethUp s i = false ∨
      etxRuns s = false ∨ paused s s.eth[i] = true) →
    exec (.ethTxFrame i) s = .next s) ∧
  (∀ (i : Fin 2) (a buf len : Nat) (fl : BitVec 16) (s : State), Sound s → (∀ line, lineDirty s line = false) →
    s.eth[i].txRun = true → ethUp s i = true → etxRuns s = true → paused s s.eth[i] = false → s.eth[i].txHead ≠ s.eth[i].txTail →
    a = s.eth[i].txBase.toNat + 32 * s.eth[i].txHead.toNat → ethReach s a 32 = true →
    fl = BitVec.ofNat 16 (fieldLe (ioRead s a 32) 10 2) → len = fieldLe (ioRead s a 32) 8 2 →
    buf = fieldLe (ioRead s a 32) 0 5 → fl.getLsbD 0 = true → 14 ≤ len → len ≤ 1518 → ethReach s buf len = true →
    ∃ t, exec (.ethTxFrame i) s = .next t ∧ t = { s with mem := t.mem, cluster := t.cluster, eth := t.eth } ∧
      MemSameBut a 32 s t ∧ (BitVec.ofNat 16 (fieldLe (t.mem.readAll a 32) 10 2)).getLsbD 0 = false ∧
      fieldLe (t.mem.readAll a 32) 8 2 = len ∧
      t.eth = s.eth.set i { s.eth[i] with txHead := ringNext s.eth[i].txSize s.eth[i].txHead
                                          events := s.eth[i].events ||| 2
                                          sent := txFrame s.eth[i] (s.eth[i].ptpValid && ptpRuns s i) fl
                                            (fieldLe (ioRead s a 32) 12 2) (ioRead s buf len) }) ∧
  (∀ (i : Fin 2) (f : List Byte) (s : State), s.eth[i].rxRun = true → ethUp s i = true →
    exec (.ethRxFrame i f false) s = .next { s with eth := s.eth.set i { s.eth[i] with
      fcsErr := s.eth[i].fcsErr + 1 } }) ∧
  (∀ (i : Fin 2) (f : List Byte) (s : State), s.eth[i].rxRun = true → ethUp s i = true → 1518 < f.length →
    exec (.ethRxFrame i f true) s = .next { s with eth := s.eth.set i { s.eth[i] with
      rxDrop := s.eth[i].rxDrop + 1 } }) ∧
  (∀ (i : Fin 2) (f : List Byte) (s : State), s.eth[i].rxRun = true → ethUp s i = true → f.length ≤ 1518 →
    s.eth[i].ctrl.getLsbD 7 = true → pauseFrame f = true →
    exec (.ethRxFrame i f true) s = .next { s with eth := s.eth.set i { s.eth[i] with
      pauseEnd := s.devtime + BitVec.ofNat 64 ((natBe (slice f 16 2) * quantumTenths s.eth[i] + 9) / 10) } }) ∧
  (∀ (i : Fin 2) (f : List Byte) (s : State), s.eth[i].rxRun = true → ethUp s i = true →
    f.length ≤ 1518 → (s.eth[i].ctrl.getLsbD 7 && pauseFrame f) = false → addrPass s.eth[i] f = true → s.eth[i].rxHead = s.eth[i].rxTail →
    exec (.ethRxFrame i f true) s = .next { s with eth := s.eth.set i { s.eth[i] with
      events := s.eth[i].events ||| 4 } }) ∧
  (∀ (i : Fin 2) (f : List Byte) (ok : Bool) (s : State), (s.eth[i].rxRun = false ∨ ethUp s i = false) →
    exec (.ethRxFrame i f ok) s = .next s) ∧
  (∀ (i : Fin 2) (f : List Byte) (a buf : Nat) (s : State), Sound s → (∀ line, lineDirty s line = false) →
    s.eth[i].rxRun = true → ethUp s i = true → 1 ≤ f.length → f.length ≤ 1518 →
    (s.eth[i].ctrl.getLsbD 7 && pauseFrame f) = false → addrPass s.eth[i] f = true → s.eth[i].rxHead ≠ s.eth[i].rxTail →
    a = s.eth[i].rxBase.toNat + 32 * s.eth[i].rxHead.toNat → ethReach s a 32 = true →
    buf = fieldLe (ioRead s a 32) 0 5 → (BitVec.ofNat 16 (fieldLe (ioRead s a 32) 10 2)).getLsbD 0 = true →
    f.length ≤ fieldLe (ioRead s a 32) 8 2 → ethReach s buf f.length = true → (buf + f.length ≤ a ∨ a + 32 ≤ buf) →
    ∃ t, exec (.ethRxFrame i f true) s = .next t ∧ t = { s with mem := t.mem, cluster := t.cluster, eth := t.eth } ∧
      t.mem.readAll buf f.length = f ∧ fieldLe (t.mem.readAll a 32) 8 2 = f.length ∧
      (BitVec.ofNat 16 (fieldLe (t.mem.readAll a 32) 10 2)).getLsbD 0 = false ∧
      (∀ x, (x < a ∨ a + 32 ≤ x) → (x < buf ∨ buf + f.length ≤ x) → memByte t x = memByte s x) ∧
      t.eth = s.eth.set i { s.eth[i] with rxHead := ringNext s.eth[i].rxSize s.eth[i].rxHead
                                          events := s.eth[i].events ||| 1 }) ∧
  (∀ (i : Fin 2) (s : State), s.eth[i].txRun = true → ethUp s i = true → Mild 0x60 s →
    ∃ t, exec (.ethBusError i false) s = .next t ∧ Stands 0x60 t ∧ t.eth[i].txRun = false ∧
      t.eth[i].rxRun = s.eth[i].rxRun ∧ t.eth[i].events = s.eth[i].events ||| 8 ∧ t.hub.feValid = true ∧
      t.counters = s.counters ∧ MemSame s t) ∧
  (∀ (i : Fin 2) (s : State), s.eth[i].rxRun = true → ethUp s i = true → Mild 0x60 s →
    ∃ t, exec (.ethBusError i true) s = .next t ∧ Stands 0x60 t ∧ t.eth[i].rxRun = false ∧
      t.eth[i].txRun = s.eth[i].txRun ∧ t.eth[i].events = s.eth[i].events ||| 8 ∧ t.counters = s.counters ∧ MemSame s t) ∧
  (∀ (i : Fin 2) (rx : Bool) (s : State), ((if rx then s.eth[i].rxRun else s.eth[i].txRun) && ethUp s i) = false →
    exec (.ethBusError i rx) s = .next s)

/-- PTP_CMD loads or steps the clock and ignores what is out of range; PPS follows its edges; a capture edge latches
the time. An MDIO frame runs to its end, one at a time, and a read leaves its data. Where the spec leaves it open,
this rests on the model's choices of log 28. -/
def Obligations.PtpAndMdioRun : Prop :=
  (∀ (m : Master) (i : Fin 2) (s : State), Granted m (0x2C + i.val) 0xB8 1 s →
    (s.eth[i].setNs &&& 0x3FFF_FFFF).toNat ≤ 999999999 → s.eth[i].setNs.getLsbD 31 = false →
    exec (.ptpSet m i) s = .next { s with eth := s.eth.set i { s.eth[i] with
      ptpSec := s.eth[i].setSec, ptpNs := (s.eth[i].setNs &&& 0x3FFF_FFFF).toNat, ptpFrac := 0
      ptpValid := ptpRuns s i } }) ∧
  (∀ (m : Master) (i : Fin 2) (s : State), Granted m (0x2C + i.val) 0xB8 1 s →
    (999999999 < (s.eth[i].setNs &&& 0x3FFF_FFFF).toNat ∨ s.eth[i].setNs.getLsbD 31 = true) →
    exec (.ptpSet m i) s = .next s) ∧
  (∀ (m : Master) (i : Fin 2) (d now : Nat) (s : State), Granted m (0x2C + i.val) 0xB8 2 s →
    (s.eth[i].setNs &&& 0x3FFF_FFFF).toNat ≤ 999999999 →
    d = s.eth[i].setSec.toNat * 1000000000 + (s.eth[i].setNs &&& 0x3FFF_FFFF).toNat →
    now = s.eth[i].ptpSec.toNat * 1000000000 + s.eth[i].ptpNs → now + d < 2 ^ 48 * 1000000000 →
    ∃ t, exec (.ptpStep m i) s = .next t ∧ t = { s with eth := s.eth.set i { s.eth[i] with
        ptpSec := t.eth[i].ptpSec, ptpNs := t.eth[i].ptpNs, ptpFrac := t.eth[i].ptpFrac } } ∧
      t.eth[i].ptpSec.toNat * 1000000000 + t.eth[i].ptpNs =
        (if s.eth[i].setNs.getLsbD 31 then now - d else now + d) ∧ t.eth[i].ptpNs < 1000000000) ∧
  (∀ (m : Master) (i : Fin 2) (s : State), Granted m (0x2C + i.val) 0xB8 2 s →
    999999999 < (s.eth[i].setNs &&& 0x3FFF_FFFF).toNat → exec (.ptpStep m i) s = .next s) ∧
  (∀ (i : Fin 2) (s : State), ethUp s i = true →
    (∃ t, exec (.ppsRise i) s = .next t ∧ t = { s with eth := s.eth.set i { s.eth[i] with pps := true }
                                                       gpio := s.gpio.set 1 { s.gpio[1] with evt := t.gpio[1].evt } }) ∧
    ∃ t, exec (.ppsFall i) s = .next t ∧ t = { s with eth := s.eth.set i { s.eth[i] with pps := false }
                                                      gpio := s.gpio.set 1 { s.gpio[1] with evt := t.gpio[1].evt } }) ∧
  (∀ (i : Fin 2) (s : State), ethUp s i = true →
    exec (.tscapEdge i) s = .next { s with eth := s.eth.set i { s.eth[i] with
      capSec := s.eth[i].ptpSec, capNs := BitVec.ofNat 30 s.eth[i].ptpNs, events := s.eth[i].events ||| 16 } }) ∧
  (∀ (i : Fin 2) (s : State), ethUp s i = false → exec (.tscapEdge i) s = .next s ∧
    exec (.ppsRise i) s = .next s ∧ exec (.ppsFall i) s = .next s) ∧
  (∀ (m : Master) (i : Fin 2) (v : Word) (s : State), Granted m (0x2C + i.val) 0x80 v s → s.eth[i].mdioBusy = false →
    exec (.mdioFrame m i v) s = .next { s with eth := s.eth.set i { s.eth[i] with mdio := v, mdioBusy := true } }) ∧
  (∀ (m : Master) (i : Fin 2) (v : Word) (s : State), Granted m (0x2C + i.val) 0x80 v s → s.eth[i].mdioBusy = true →
    exec (.mdioFrame m i v) s = .next s) ∧
  (∀ (i : Fin 2) (d : BitVec 16) (s : State), s.eth[i].mdioBusy = true →
    exec (.mdioDone i d) s = .next { s with eth := s.eth.set i { s.eth[i] with
      mdioBusy := false
      mdio := if mdioReads s.eth[i].mdio then (s.eth[i].mdio &&& 0xFFFF_0000) ||| d.setWidth 32 else s.eth[i].mdio } }) ∧
  (∀ (i : Fin 2) (d : BitVec 16) (s : State), s.eth[i].mdioBusy = false → exec (.mdioDone i d) s = .next s)

/-! ## Debug and trace (R511) -/

/-- TRC_CLR empties the trace ring. Access Register reads and writes a general register of a halted hart, x0 reading
0; Access Memory reads a word for it; on a hart that is not halted, and on an address that is not aligned, they end
with their error, the latter in register space with an error response of FE_SOURCE 2. Where the spec leaves it open, this rests
on the model's choices of log 6 (PRESUMED: RISC-V debug
0.13.2). -/
def Obligations.DebugReachesHarts : Prop :=
  (∀ (m : Master) (v : Word) (s : State), Granted m 0x30 0x220 v s → v.getLsbD 0 = true →
    exec (.trcClr m v) s = .next { s with dbg := { s.dbg with trcWptr := 0, trcFull := false } }) ∧
  (∀ (m : Master) (v : Word) (s : State), Granted m 0x30 0x220 v s → v.getLsbD 0 = false →
    exec (.trcClr m v) s = .next s) ∧
  (∀ (m : Master) (h : Fin 4) (r : Fin 32) (s : State), Granted m 0x30 0x5C (0x0032_1000 + BitVec.ofNat 32 r.val) s →
    dmActive s = true → dmiReg s 0x16 &&& 0x700 = 0 → dmHart s = some h → hartThere s h = true →
    s.cluster.harts[h].halted = true →
    exec (.dmiAccessRegister m (0x0032_1000 + BitVec.ofNat 32 r.val)) s =
      .next (dmArgPut 0 (if r.val = 0 then 0 else s.cluster.harts[h].x[r]) s)) ∧
  (∀ (m : Master) (h : Fin 4) (r : Fin 32) (s : State), Granted m 0x30 0x5C (0x0033_1000 + BitVec.ofNat 32 r.val) s →
    dmActive s = true → dmiReg s 0x16 &&& 0x700 = 0 → dmHart s = some h → hartThere s h = true →
    s.cluster.harts[h].halted = true →
    exec (.dmiAccessRegister m (0x0033_1000 + BitVec.ofNat 32 r.val)) s =
      .next (if r.val = 0 then s else hartMod h (fun x => { x with x := x.x.set r (dmArg s 0) }) s)) ∧
  (∀ (m : Master) (h : Fin 4) (cmd : Word) (s : State), Granted m 0x30 0x5C (cmd &&& 0x00FF_FFFF) s →
    dmActive s = true → dmiReg s 0x16 &&& 0x700 = 0 → dmHart s = some h → s.cluster.harts[h].halted = false →
    exec (.dmiAccessRegister m cmd) s = .next (cmdErr 4 s)) ∧
  (∀ (m : Master) (h : Fin 4) (s : State), Granted m 0x30 0x5C 0x0220_0000 s → dmActive s = true →
    dmiReg s 0x16 &&& 0x700 = 0 → dmHart s = some h → hartThere s h = true → s.cluster.harts[h].halted = true →
    (dmArg s 1).toNat % 4 ≠ 0 → regionOf (dmArg s 1).toNat ≠ .regs →
    exec (.dmiAccessMemory m 0x0220_0000) s = .next (cmdErr 3 s)) ∧
  (∀ (m : Master) (h : Fin 4) (s : State), Granted m 0x30 0x5C 0x0220_0000 s → dmActive s = true →
    dmiReg s 0x16 &&& 0x700 = 0 → dmHart s = some h → hartThere s h = true → s.cluster.harts[h].halted = true →
    (dmArg s 1).toNat % 4 ≠ 0 → regionOf (dmArg s 1).toNat = .regs → Mild 0x60 s →
    ∃ t, exec (.dmiAccessMemory m 0x0220_0000) s = .next t ∧ Stands 0x60 t ∧ t.hub.feValid = true ∧
      (s.hub.feValid = false → t.hub.feSource = 2 ∧ t.hub.feMaster = masterId (.acore h) ∧ t.hub.feKind = 0 ∧
        t.hub.feAddr.toNat = (dmArg s 1).toNat) ∧
      t.dbg = (cmdErr 3 s).dbg ∧ t.cluster = s.cluster ∧ t.counters = s.counters ∧ MemSame s t) ∧
  (∀ (m : Master) (h : Fin 4) (l : L1Line) (s : State), Granted m 0x30 0x5C 0x0220_0000 s → dmActive s = true →
    dmiReg s 0x16 &&& 0x700 = 0 → dmHart s = some h → hartThere s h = true → s.cluster.harts[h].halted = true →
    (dmArg s 1).toNat % 4 = 0 → regionOf (dmArg s 1).toNat = .dram →
    l1Find s h ((dmArg s 1).toNat / 64) = some l →
    exec (.dmiAccessMemory m 0x0220_0000) s =
      .next (dmiPut 4 (BitVec.ofNat 32 (natLe (slice l.data ((dmArg s 1).toNat % 64) 4))) s))

/-! ## Register space (R3-R18, R163) -/

/-- An access to register space that is not an aligned 32-bit word gets an error response and has no effect: the state
is as it was but for the capture and the fault. -/
def Obligations.MisalignedAccessesAreRefused : Prop :=
  ∀ (m : Master) (addr : BitVec 40) (size : BitVec 3) (v : Word) (s : State), regionOf addr.toNat = .regs →
    (size ≠ 2 ∨ addr.toNat % 4 ≠ 0) →
    ∃ t, exec (.registerWrite m addr size v) s = .next t ∧ Stands 0x60 t ∧
      (Mild 0x60 s → t.hub.feValid = true ∧
        t = { s with hub := t.hub
                     sinov := { s.sinov with admission := t.sinov.admission, admitWait := t.sinov.admitWait }
                     till := { s.till with rsv := t.till.rsv } } ∧
        (s.hub.feValid = false → t.hub.feAddr = addr ∧ t.hub.feMaster = masterId m ∧ t.hub.feKind = 1 ∧
          t.hub.feSize = size ∧ t.hub.feTime = s.devtime))

/-- A read of an offset within a bank that holds no register returns 0 with no error response, and a write to it is
ignored with no error response. -/
def Obligations.HolesAreIgnored : Prop :=
  ∀ (m : Master) (bank off : Nat) (s : State), bank < 0x31 → off < 0x1_0000 → off % 4 = 0 →
    route m bank off s = .go → regExists bank off = false →
    (∀ v : Word, exec (.registerWrite m (regAddr bank off) 2 v) s = .next s) ∧
    (heldCopy m bank off s = none → (regRead m bank off s).1 = some 0 ∧ (regRead m bank off s).2.hub = s.hub)

/-- A write to a register that holds an SL field, made in any mode other than SERVICE, gets an error response, and no
field of that register changes (the SL registers are FAB_ALLOT, FAB_AGE and HS_CFG; HSPI in no BLOCK reset). -/
def Obligations.SealedFieldsHold : Prop :=
  ∀ (m : Master) (bank off : Nat) (v : Word) (s : State), sealedReg bank off = true → s.sys.mode ≠ 1 →
    s.rst.blk[(22 : Fin 24)] = .none →
    ∃ t, exec (.registerWrite m (regAddr bank off) 2 v) s = .next t ∧ Stands 0x60 t ∧
      (Mild 0x60 s → t.hub.feValid = true ∧ t.fabric = s.fabric ∧ t.hspi = s.hspi)

/-- A write to PRISPLIT is ignored while any context of the controller has a non-empty stack, and a PRIO written while
its source is on a stack does not change that entry. -/
def Obligations.StackedPrioritiesHold : Prop :=
  (∀ (m : Master) (app : Bool) (c : Fin 8) (v : Word) (s : State), Granted m (if app then 0x09 else 0x0A) 0x00 v s →
    (licGet app s).ctx[c].stack ≠ [] →
    exec (.registerWrite m (regAddr (if app then 0x09 else 0x0A) 0x00) 2 v) s = .next s) ∧
  (∀ (m : Master) (app : Bool) (n : Fin 80) (v : Word) (s : State),
    Granted m (if app then 0x09 else 0x0A) (0x100 + 4 * n.val) v s →
    ∃ t, exec (.registerWrite m (regAddr (if app then 0x09 else 0x0A) (0x100 + 4 * n.val)) 2 v) s = .next t ∧
      t = { s with licApp := t.licApp, licKeep := t.licKeep } ∧
      (∀ j, j < 4 → (licGet app t).prio[4 * n.val + j]? = some (byteOf v j)) ∧
      ∀ c : Fin 8, (licGet app t).ctx[c].stack = (licGet app s).ctx[c].stack)

/-- The first error response after FE_CLEAR is captured and later ones are counted, up to saturation: shown on writes
that the firewall refuses. -/
def Obligations.ErrorsAreCaptured : Prop :=
  (∀ (i : Fin 4) (bank off : Nat) (v : Word) (s : State), keeperBank bank = true → bank < 0x31 → off < 0x1_0000 →
    s.hub.feValid = false → Mild 0x60 s →
    ∃ t, exec (.registerWrite (.acore i) (regAddr bank off) 2 v) s = .next t ∧ Stands 0x60 t ∧ t.hub.feValid = true ∧
      t.hub.feAddr = regAddr bank off ∧ t.hub.feMaster = masterId (.acore i) ∧ t.hub.feSource = 1 ∧
      t.hub.feTime = s.devtime ∧ t.hub.feOver = s.hub.feOver ∧ t.counters = s.counters ∧ MemSame s t) ∧
  (∀ (i : Fin 4) (bank off : Nat) (v : Word) (s : State), keeperBank bank = true → bank < 0x31 → off < 0x1_0000 →
    s.hub.feValid = true → Mild 0x60 s →
    ∃ t, exec (.registerWrite (.acore i) (regAddr bank off) 2 v) s = .next t ∧ Stands 0x60 t ∧
      t.hub.feAddr = s.hub.feAddr ∧ t.hub.feMaster = s.hub.feMaster ∧ t.hub.feSource = s.hub.feSource ∧
      t.hub.feTime = s.hub.feTime ∧ t.hub.feKind = s.hub.feKind ∧ t.hub.feSize = s.hub.feSize ∧
      t.hub.feOver = (if s.hub.feOver = 0xFFFF_FFFF then s.hub.feOver else s.hub.feOver + 1) ∧
      t.counters = s.counters ∧ MemSame s t)
end

