-- ==== Sys2Proof/Laws/State.lean ====
section
/-! SUPPORT. What the updates of the state leave as it is, field by field, and what they write: each is true by
definition, so that no later proof unfolds an update. -/

namespace Sys2Proof.Machine

/-- The entry that `vmod` changes. -/
@[simp] theorem vmod_same {α : Type} {n : Nat} (v : Vector α n) (i : Fin n) (f : α → α) : (vmod v i f)[i] = f v[i] := by
  simp [vmod]

/-- An entry that `vmod` does not change. -/
theorem vmod_other {α : Type} {n : Nat} (v : Vector α n) (i j : Fin n) (f : α → α) (h : j ≠ i) :
    (vmod v i f)[j] = v[j] := by
  have : i.val ≠ j.val := fun e => h (Fin.ext e.symm)
  simp [vmod, this]

/-! ## cntMod -/

@[simp] theorem cntMod_cntWindow (n : Fin 8) (f : Counter → Counter) (s : State) : (cntMod n f s).cntWindow = s.cntWindow :=
  rfl
@[simp] theorem cntMod_windows (n : Fin 8) (f : Counter → Counter) (s : State) : (cntMod n f s).windows = s.windows :=
  rfl
@[simp] theorem cntMod_docket (n : Fin 8) (f : Counter → Counter) (s : State) : (cntMod n f s).docket = s.docket :=
  rfl
@[simp] theorem cntMod_dkStore (n : Fin 8) (f : Counter → Counter) (s : State) : (cntMod n f s).dkStore = s.dkStore :=
  rfl
@[simp] theorem cntMod_sinov (n : Fin 8) (f : Counter → Counter) (s : State) : (cntMod n f s).sinov = s.sinov := rfl
@[simp] theorem cntMod_envg (n : Fin 8) (f : Counter → Counter) (s : State) : (cntMod n f s).envg = s.envg := rfl
@[simp] theorem cntMod_hdie (n : Fin 8) (f : Counter → Counter) (s : State) : (cntMod n f s).hdie = s.hdie := rfl
@[simp] theorem cntMod_link (n : Fin 8) (f : Counter → Counter) (s : State) : (cntMod n f s).link = s.link := rfl
@[simp] theorem cntMod_hub (n : Fin 8) (f : Counter → Counter) (s : State) : (cntMod n f s).hub = s.hub := rfl
@[simp] theorem cntMod_supply (n : Fin 8) (f : Counter → Counter) (s : State) : (cntMod n f s).supply = s.supply :=
  rfl
@[simp] theorem cntMod_ps (n : Fin 8) (f : Counter → Counter) (s : State) : (cntMod n f s).ps = s.ps := rfl
@[simp] theorem cntMod_rst (n : Fin 8) (f : Counter → Counter) (s : State) : (cntMod n f s).rst = s.rst := rfl
@[simp] theorem cntMod_loader (n : Fin 8) (f : Counter → Counter) (s : State) : (cntMod n f s).loader = s.loader :=
  rfl
@[simp] theorem cntMod_optshd (n : Fin 8) (f : Counter → Counter) (s : State) : (cntMod n f s).optshd = s.optshd :=
  rfl
@[simp] theorem cntMod_clk (n : Fin 8) (f : Counter → Counter) (s : State) : (cntMod n f s).clk = s.clk := rfl
@[simp] theorem cntMod_pix (n : Fin 8) (f : Counter → Counter) (s : State) : (cntMod n f s).pix = s.pix := rfl
@[simp] theorem cntMod_video (n : Fin 8) (f : Counter → Counter) (s : State) : (cntMod n f s).video = s.video := rfl
@[simp] theorem cntMod_beam (n : Fin 8) (f : Counter → Counter) (s : State) : (cntMod n f s).beam = s.beam := rfl
@[simp] theorem cntMod_motors (n : Fin 8) (f : Counter → Counter) (s : State) : (cntMod n f s).motors = s.motors :=
  rfl
@[simp] theorem cntMod_rdc (n : Fin 8) (f : Counter → Counter) (s : State) : (cntMod n f s).rdc = s.rdc := rfl
@[simp] theorem cntMod_loops (n : Fin 8) (f : Counter → Counter) (s : State) : (cntMod n f s).loops = s.loops := rfl
@[simp] theorem cntMod_hv (n : Fin 8) (f : Counter → Counter) (s : State) : (cntMod n f s).hv = s.hv := rfl
@[simp] theorem cntMod_fuser (n : Fin 8) (f : Counter → Counter) (s : State) : (cntMod n f s).fuser = s.fuser := rfl
@[simp] theorem cntMod_outHold (n : Fin 8) (f : Counter → Counter) (s : State) : (cntMod n f s).outHold = s.outHold :=
  rfl
@[simp] theorem cntMod_vregen (n : Fin 8) (f : Counter → Counter) (s : State) : (cntMod n f s).vregen = s.vregen :=
  rfl
@[simp] theorem cntMod_sy (n : Fin 8) (f : Counter → Counter) (s : State) : (cntMod n f s).sy = s.sy := rfl
@[simp] theorem cntMod_sySnap (n : Fin 8) (f : Counter → Counter) (s : State) : (cntMod n f s).sySnap = s.sySnap :=
  rfl
@[simp] theorem cntMod_thrCopy (n : Fin 8) (f : Counter → Counter) (s : State) : (cntMod n f s).thrCopy = s.thrCopy :=
  rfl
@[simp] theorem cntMod_adc (n : Fin 8) (f : Counter → Counter) (s : State) : (cntMod n f s).adc = s.adc := rfl
@[simp] theorem cntMod_till (n : Fin 8) (f : Counter → Counter) (s : State) : (cntMod n f s).till = s.till := rfl
@[simp] theorem cntMod_rtc (n : Fin 8) (f : Counter → Counter) (s : State) : (cntMod n f s).rtc = s.rtc := rfl
@[simp] theorem cntMod_devtime (n : Fin 8) (f : Counter → Counter) (s : State) : (cntMod n f s).devtime = s.devtime :=
  rfl
@[simp] theorem cntMod_crypto (n : Fin 8) (f : Counter → Counter) (s : State) : (cntMod n f s).crypto = s.crypto :=
  rfl
@[simp] theorem cntMod_cluster (n : Fin 8) (f : Counter → Counter) (s : State) : (cntMod n f s).cluster = s.cluster :=
  rfl
@[simp] theorem cntMod_fabric (n : Fin 8) (f : Counter → Counter) (s : State) : (cntMod n f s).fabric = s.fabric :=
  rfl
@[simp] theorem cntMod_dramc (n : Fin 8) (f : Counter → Counter) (s : State) : (cntMod n f s).dramc = s.dramc := rfl
@[simp] theorem cntMod_licApp (n : Fin 8) (f : Counter → Counter) (s : State) : (cntMod n f s).licApp = s.licApp :=
  rfl
@[simp] theorem cntMod_licKeep (n : Fin 8) (f : Counter → Counter) (s : State) : (cntMod n f s).licKeep = s.licKeep :=
  rfl
@[simp] theorem cntMod_bwApp (n : Fin 8) (f : Counter → Counter) (s : State) : (cntMod n f s).bwApp = s.bwApp := rfl
@[simp] theorem cntMod_bwKeep (n : Fin 8) (f : Counter → Counter) (s : State) : (cntMod n f s).bwKeep = s.bwKeep :=
  rfl
@[simp] theorem cntMod_gpio (n : Fin 8) (f : Counter → Counter) (s : State) : (cntMod n f s).gpio = s.gpio := rfl
@[simp] theorem cntMod_pincfg (n : Fin 8) (f : Counter → Counter) (s : State) : (cntMod n f s).pincfg = s.pincfg :=
  rfl
@[simp] theorem cntMod_spim (n : Fin 8) (f : Counter → Counter) (s : State) : (cntMod n f s).spim = s.spim := rfl
@[simp] theorem cntMod_hspi (n : Fin 8) (f : Counter → Counter) (s : State) : (cntMod n f s).hspi = s.hspi := rfl
@[simp] theorem cntMod_eth (n : Fin 8) (f : Counter → Counter) (s : State) : (cntMod n f s).eth = s.eth := rfl
@[simp] theorem cntMod_xspi (n : Fin 8) (f : Counter → Counter) (s : State) : (cntMod n f s).xspi = s.xspi := rfl
@[simp] theorem cntMod_sys (n : Fin 8) (f : Counter → Counter) (s : State) : (cntMod n f s).sys = s.sys := rfl
@[simp] theorem cntMod_dbg (n : Fin 8) (f : Counter → Counter) (s : State) : (cntMod n f s).dbg = s.dbg := rfl
@[simp] theorem cntMod_hold (n : Fin 8) (f : Counter → Counter) (s : State) : (cntMod n f s).hold = s.hold := rfl
@[simp] theorem cntMod_mem (n : Fin 8) (f : Counter → Counter) (s : State) : (cntMod n f s).mem = s.mem := rfl
@[simp] theorem cntMod_tickPhase (n : Fin 8) (f : Counter → Counter) (s : State) : (cntMod n f s).tickPhase = s.tickPhase :=
  rfl
@[simp] theorem cntMod_ao32Acc (n : Fin 8) (f : Counter → Counter) (s : State) : (cntMod n f s).ao32Acc = s.ao32Acc :=
  rfl
@[simp] theorem cntMod_freeCtr (n : Fin 8) (f : Counter → Counter) (s : State) : (cntMod n f s).freeCtr = s.freeCtr :=
  rfl
@[simp] theorem cntMod_pending (n : Fin 8) (f : Counter → Counter) (s : State) : (cntMod n f s).pending = s.pending :=
  rfl

/-! ## motMod -/

@[simp] theorem motMod_counters (k : Fin 6) (f : Motor → Motor) (s : State) : (motMod k f s).counters = s.counters :=
  rfl
@[simp] theorem motMod_cntWindow (k : Fin 6) (f : Motor → Motor) (s : State) : (motMod k f s).cntWindow = s.cntWindow :=
  rfl
@[simp] theorem motMod_windows (k : Fin 6) (f : Motor → Motor) (s : State) : (motMod k f s).windows = s.windows := rfl
@[simp] theorem motMod_docket (k : Fin 6) (f : Motor → Motor) (s : State) : (motMod k f s).docket = s.docket := rfl
@[simp] theorem motMod_dkStore (k : Fin 6) (f : Motor → Motor) (s : State) : (motMod k f s).dkStore = s.dkStore := rfl
@[simp] theorem motMod_sinov (k : Fin 6) (f : Motor → Motor) (s : State) : (motMod k f s).sinov = s.sinov := rfl
@[simp] theorem motMod_envg (k : Fin 6) (f : Motor → Motor) (s : State) : (motMod k f s).envg = s.envg := rfl
@[simp] theorem motMod_hdie (k : Fin 6) (f : Motor → Motor) (s : State) : (motMod k f s).hdie = s.hdie := rfl
@[simp] theorem motMod_link (k : Fin 6) (f : Motor → Motor) (s : State) : (motMod k f s).link = s.link := rfl
@[simp] theorem motMod_hub (k : Fin 6) (f : Motor → Motor) (s : State) : (motMod k f s).hub = s.hub := rfl
@[simp] theorem motMod_supply (k : Fin 6) (f : Motor → Motor) (s : State) : (motMod k f s).supply = s.supply := rfl
@[simp] theorem motMod_ps (k : Fin 6) (f : Motor → Motor) (s : State) : (motMod k f s).ps = s.ps := rfl
@[simp] theorem motMod_rst (k : Fin 6) (f : Motor → Motor) (s : State) : (motMod k f s).rst = s.rst := rfl
@[simp] theorem motMod_loader (k : Fin 6) (f : Motor → Motor) (s : State) : (motMod k f s).loader = s.loader := rfl
@[simp] theorem motMod_optshd (k : Fin 6) (f : Motor → Motor) (s : State) : (motMod k f s).optshd = s.optshd := rfl
@[simp] theorem motMod_clk (k : Fin 6) (f : Motor → Motor) (s : State) : (motMod k f s).clk = s.clk := rfl
@[simp] theorem motMod_pix (k : Fin 6) (f : Motor → Motor) (s : State) : (motMod k f s).pix = s.pix := rfl
@[simp] theorem motMod_video (k : Fin 6) (f : Motor → Motor) (s : State) : (motMod k f s).video = s.video := rfl
@[simp] theorem motMod_beam (k : Fin 6) (f : Motor → Motor) (s : State) : (motMod k f s).beam = s.beam := rfl
@[simp] theorem motMod_rdc (k : Fin 6) (f : Motor → Motor) (s : State) : (motMod k f s).rdc = s.rdc := rfl
@[simp] theorem motMod_loops (k : Fin 6) (f : Motor → Motor) (s : State) : (motMod k f s).loops = s.loops := rfl
@[simp] theorem motMod_hv (k : Fin 6) (f : Motor → Motor) (s : State) : (motMod k f s).hv = s.hv := rfl
@[simp] theorem motMod_fuser (k : Fin 6) (f : Motor → Motor) (s : State) : (motMod k f s).fuser = s.fuser := rfl
@[simp] theorem motMod_outHold (k : Fin 6) (f : Motor → Motor) (s : State) : (motMod k f s).outHold = s.outHold := rfl
@[simp] theorem motMod_vregen (k : Fin 6) (f : Motor → Motor) (s : State) : (motMod k f s).vregen = s.vregen := rfl
@[simp] theorem motMod_sy (k : Fin 6) (f : Motor → Motor) (s : State) : (motMod k f s).sy = s.sy := rfl
@[simp] theorem motMod_sySnap (k : Fin 6) (f : Motor → Motor) (s : State) : (motMod k f s).sySnap = s.sySnap := rfl
@[simp] theorem motMod_thrCopy (k : Fin 6) (f : Motor → Motor) (s : State) : (motMod k f s).thrCopy = s.thrCopy := rfl
@[simp] theorem motMod_adc (k : Fin 6) (f : Motor → Motor) (s : State) : (motMod k f s).adc = s.adc := rfl
@[simp] theorem motMod_till (k : Fin 6) (f : Motor → Motor) (s : State) : (motMod k f s).till = s.till := rfl
@[simp] theorem motMod_rtc (k : Fin 6) (f : Motor → Motor) (s : State) : (motMod k f s).rtc = s.rtc := rfl
@[simp] theorem motMod_devtime (k : Fin 6) (f : Motor → Motor) (s : State) : (motMod k f s).devtime = s.devtime := rfl
@[simp] theorem motMod_crypto (k : Fin 6) (f : Motor → Motor) (s : State) : (motMod k f s).crypto = s.crypto := rfl
@[simp] theorem motMod_cluster (k : Fin 6) (f : Motor → Motor) (s : State) : (motMod k f s).cluster = s.cluster := rfl
@[simp] theorem motMod_fabric (k : Fin 6) (f : Motor → Motor) (s : State) : (motMod k f s).fabric = s.fabric := rfl
@[simp] theorem motMod_dramc (k : Fin 6) (f : Motor → Motor) (s : State) : (motMod k f s).dramc = s.dramc := rfl
@[simp] theorem motMod_licApp (k : Fin 6) (f : Motor → Motor) (s : State) : (motMod k f s).licApp = s.licApp := rfl
@[simp] theorem motMod_licKeep (k : Fin 6) (f : Motor → Motor) (s : State) : (motMod k f s).licKeep = s.licKeep := rfl
@[simp] theorem motMod_bwApp (k : Fin 6) (f : Motor → Motor) (s : State) : (motMod k f s).bwApp = s.bwApp := rfl
@[simp] theorem motMod_bwKeep (k : Fin 6) (f : Motor → Motor) (s : State) : (motMod k f s).bwKeep = s.bwKeep := rfl
@[simp] theorem motMod_gpio (k : Fin 6) (f : Motor → Motor) (s : State) : (motMod k f s).gpio = s.gpio := rfl
@[simp] theorem motMod_pincfg (k : Fin 6) (f : Motor → Motor) (s : State) : (motMod k f s).pincfg = s.pincfg := rfl
@[simp] theorem motMod_spim (k : Fin 6) (f : Motor → Motor) (s : State) : (motMod k f s).spim = s.spim := rfl
@[simp] theorem motMod_hspi (k : Fin 6) (f : Motor → Motor) (s : State) : (motMod k f s).hspi = s.hspi := rfl
@[simp] theorem motMod_eth (k : Fin 6) (f : Motor → Motor) (s : State) : (motMod k f s).eth = s.eth := rfl
@[simp] theorem motMod_xspi (k : Fin 6) (f : Motor → Motor) (s : State) : (motMod k f s).xspi = s.xspi := rfl
@[simp] theorem motMod_sys (k : Fin 6) (f : Motor → Motor) (s : State) : (motMod k f s).sys = s.sys := rfl
@[simp] theorem motMod_dbg (k : Fin 6) (f : Motor → Motor) (s : State) : (motMod k f s).dbg = s.dbg := rfl
@[simp] theorem motMod_hold (k : Fin 6) (f : Motor → Motor) (s : State) : (motMod k f s).hold = s.hold := rfl
@[simp] theorem motMod_mem (k : Fin 6) (f : Motor → Motor) (s : State) : (motMod k f s).mem = s.mem := rfl
@[simp] theorem motMod_tickPhase (k : Fin 6) (f : Motor → Motor) (s : State) : (motMod k f s).tickPhase = s.tickPhase :=
  rfl
@[simp] theorem motMod_ao32Acc (k : Fin 6) (f : Motor → Motor) (s : State) : (motMod k f s).ao32Acc = s.ao32Acc := rfl
@[simp] theorem motMod_freeCtr (k : Fin 6) (f : Motor → Motor) (s : State) : (motMod k f s).freeCtr = s.freeCtr := rfl
@[simp] theorem motMod_pending (k : Fin 6) (f : Motor → Motor) (s : State) : (motMod k f s).pending = s.pending := rfl

/-! ## loopMod -/

@[simp] theorem loopMod_counters (n : Fin 32) (f : Loop → Loop) (s : State) : (loopMod n f s).counters = s.counters :=
  rfl
@[simp] theorem loopMod_cntWindow (n : Fin 32) (f : Loop → Loop) (s : State) : (loopMod n f s).cntWindow = s.cntWindow :=
  rfl
@[simp] theorem loopMod_windows (n : Fin 32) (f : Loop → Loop) (s : State) : (loopMod n f s).windows = s.windows :=
  rfl
@[simp] theorem loopMod_docket (n : Fin 32) (f : Loop → Loop) (s : State) : (loopMod n f s).docket = s.docket := rfl
@[simp] theorem loopMod_dkStore (n : Fin 32) (f : Loop → Loop) (s : State) : (loopMod n f s).dkStore = s.dkStore :=
  rfl
@[simp] theorem loopMod_sinov (n : Fin 32) (f : Loop → Loop) (s : State) : (loopMod n f s).sinov = s.sinov := rfl
@[simp] theorem loopMod_envg (n : Fin 32) (f : Loop → Loop) (s : State) : (loopMod n f s).envg = s.envg := rfl
@[simp] theorem loopMod_hdie (n : Fin 32) (f : Loop → Loop) (s : State) : (loopMod n f s).hdie = s.hdie := rfl
@[simp] theorem loopMod_link (n : Fin 32) (f : Loop → Loop) (s : State) : (loopMod n f s).link = s.link := rfl
@[simp] theorem loopMod_hub (n : Fin 32) (f : Loop → Loop) (s : State) : (loopMod n f s).hub = s.hub := rfl
@[simp] theorem loopMod_supply (n : Fin 32) (f : Loop → Loop) (s : State) : (loopMod n f s).supply = s.supply := rfl
@[simp] theorem loopMod_ps (n : Fin 32) (f : Loop → Loop) (s : State) : (loopMod n f s).ps = s.ps := rfl
@[simp] theorem loopMod_rst (n : Fin 32) (f : Loop → Loop) (s : State) : (loopMod n f s).rst = s.rst := rfl
@[simp] theorem loopMod_loader (n : Fin 32) (f : Loop → Loop) (s : State) : (loopMod n f s).loader = s.loader := rfl
@[simp] theorem loopMod_optshd (n : Fin 32) (f : Loop → Loop) (s : State) : (loopMod n f s).optshd = s.optshd := rfl
@[simp] theorem loopMod_clk (n : Fin 32) (f : Loop → Loop) (s : State) : (loopMod n f s).clk = s.clk := rfl
@[simp] theorem loopMod_pix (n : Fin 32) (f : Loop → Loop) (s : State) : (loopMod n f s).pix = s.pix := rfl
@[simp] theorem loopMod_video (n : Fin 32) (f : Loop → Loop) (s : State) : (loopMod n f s).video = s.video := rfl
@[simp] theorem loopMod_beam (n : Fin 32) (f : Loop → Loop) (s : State) : (loopMod n f s).beam = s.beam := rfl
@[simp] theorem loopMod_motors (n : Fin 32) (f : Loop → Loop) (s : State) : (loopMod n f s).motors = s.motors := rfl
@[simp] theorem loopMod_rdc (n : Fin 32) (f : Loop → Loop) (s : State) : (loopMod n f s).rdc = s.rdc := rfl
@[simp] theorem loopMod_hv (n : Fin 32) (f : Loop → Loop) (s : State) : (loopMod n f s).hv = s.hv := rfl
@[simp] theorem loopMod_fuser (n : Fin 32) (f : Loop → Loop) (s : State) : (loopMod n f s).fuser = s.fuser := rfl
@[simp] theorem loopMod_outHold (n : Fin 32) (f : Loop → Loop) (s : State) : (loopMod n f s).outHold = s.outHold :=
  rfl
@[simp] theorem loopMod_vregen (n : Fin 32) (f : Loop → Loop) (s : State) : (loopMod n f s).vregen = s.vregen := rfl
@[simp] theorem loopMod_sy (n : Fin 32) (f : Loop → Loop) (s : State) : (loopMod n f s).sy = s.sy := rfl
@[simp] theorem loopMod_sySnap (n : Fin 32) (f : Loop → Loop) (s : State) : (loopMod n f s).sySnap = s.sySnap := rfl
@[simp] theorem loopMod_thrCopy (n : Fin 32) (f : Loop → Loop) (s : State) : (loopMod n f s).thrCopy = s.thrCopy :=
  rfl
@[simp] theorem loopMod_adc (n : Fin 32) (f : Loop → Loop) (s : State) : (loopMod n f s).adc = s.adc := rfl
@[simp] theorem loopMod_till (n : Fin 32) (f : Loop → Loop) (s : State) : (loopMod n f s).till = s.till := rfl
@[simp] theorem loopMod_rtc (n : Fin 32) (f : Loop → Loop) (s : State) : (loopMod n f s).rtc = s.rtc := rfl
@[simp] theorem loopMod_devtime (n : Fin 32) (f : Loop → Loop) (s : State) : (loopMod n f s).devtime = s.devtime :=
  rfl
@[simp] theorem loopMod_crypto (n : Fin 32) (f : Loop → Loop) (s : State) : (loopMod n f s).crypto = s.crypto := rfl
@[simp] theorem loopMod_cluster (n : Fin 32) (f : Loop → Loop) (s : State) : (loopMod n f s).cluster = s.cluster :=
  rfl
@[simp] theorem loopMod_fabric (n : Fin 32) (f : Loop → Loop) (s : State) : (loopMod n f s).fabric = s.fabric := rfl
@[simp] theorem loopMod_dramc (n : Fin 32) (f : Loop → Loop) (s : State) : (loopMod n f s).dramc = s.dramc := rfl
@[simp] theorem loopMod_licApp (n : Fin 32) (f : Loop → Loop) (s : State) : (loopMod n f s).licApp = s.licApp := rfl
@[simp] theorem loopMod_licKeep (n : Fin 32) (f : Loop → Loop) (s : State) : (loopMod n f s).licKeep = s.licKeep :=
  rfl
@[simp] theorem loopMod_bwApp (n : Fin 32) (f : Loop → Loop) (s : State) : (loopMod n f s).bwApp = s.bwApp := rfl
@[simp] theorem loopMod_bwKeep (n : Fin 32) (f : Loop → Loop) (s : State) : (loopMod n f s).bwKeep = s.bwKeep := rfl
@[simp] theorem loopMod_gpio (n : Fin 32) (f : Loop → Loop) (s : State) : (loopMod n f s).gpio = s.gpio := rfl
@[simp] theorem loopMod_pincfg (n : Fin 32) (f : Loop → Loop) (s : State) : (loopMod n f s).pincfg = s.pincfg := rfl
@[simp] theorem loopMod_spim (n : Fin 32) (f : Loop → Loop) (s : State) : (loopMod n f s).spim = s.spim := rfl
@[simp] theorem loopMod_hspi (n : Fin 32) (f : Loop → Loop) (s : State) : (loopMod n f s).hspi = s.hspi := rfl
@[simp] theorem loopMod_eth (n : Fin 32) (f : Loop → Loop) (s : State) : (loopMod n f s).eth = s.eth := rfl
@[simp] theorem loopMod_xspi (n : Fin 32) (f : Loop → Loop) (s : State) : (loopMod n f s).xspi = s.xspi := rfl
@[simp] theorem loopMod_sys (n : Fin 32) (f : Loop → Loop) (s : State) : (loopMod n f s).sys = s.sys := rfl
@[simp] theorem loopMod_dbg (n : Fin 32) (f : Loop → Loop) (s : State) : (loopMod n f s).dbg = s.dbg := rfl
@[simp] theorem loopMod_hold (n : Fin 32) (f : Loop → Loop) (s : State) : (loopMod n f s).hold = s.hold := rfl
@[simp] theorem loopMod_mem (n : Fin 32) (f : Loop → Loop) (s : State) : (loopMod n f s).mem = s.mem := rfl
@[simp] theorem loopMod_tickPhase (n : Fin 32) (f : Loop → Loop) (s : State) : (loopMod n f s).tickPhase = s.tickPhase :=
  rfl
@[simp] theorem loopMod_ao32Acc (n : Fin 32) (f : Loop → Loop) (s : State) : (loopMod n f s).ao32Acc = s.ao32Acc :=
  rfl
@[simp] theorem loopMod_freeCtr (n : Fin 32) (f : Loop → Loop) (s : State) : (loopMod n f s).freeCtr = s.freeCtr :=
  rfl
@[simp] theorem loopMod_pending (n : Fin 32) (f : Loop → Loop) (s : State) : (loopMod n f s).pending = s.pending :=
  rfl

/-! ## ethMod -/

@[simp] theorem ethMod_counters (i : Fin 2) (f : Eth → Eth) (s : State) : (ethMod i f s).counters = s.counters := rfl
@[simp] theorem ethMod_cntWindow (i : Fin 2) (f : Eth → Eth) (s : State) : (ethMod i f s).cntWindow = s.cntWindow :=
  rfl
@[simp] theorem ethMod_windows (i : Fin 2) (f : Eth → Eth) (s : State) : (ethMod i f s).windows = s.windows := rfl
@[simp] theorem ethMod_docket (i : Fin 2) (f : Eth → Eth) (s : State) : (ethMod i f s).docket = s.docket := rfl
@[simp] theorem ethMod_dkStore (i : Fin 2) (f : Eth → Eth) (s : State) : (ethMod i f s).dkStore = s.dkStore := rfl
@[simp] theorem ethMod_sinov (i : Fin 2) (f : Eth → Eth) (s : State) : (ethMod i f s).sinov = s.sinov := rfl
@[simp] theorem ethMod_envg (i : Fin 2) (f : Eth → Eth) (s : State) : (ethMod i f s).envg = s.envg := rfl
@[simp] theorem ethMod_hdie (i : Fin 2) (f : Eth → Eth) (s : State) : (ethMod i f s).hdie = s.hdie := rfl
@[simp] theorem ethMod_link (i : Fin 2) (f : Eth → Eth) (s : State) : (ethMod i f s).link = s.link := rfl
@[simp] theorem ethMod_hub (i : Fin 2) (f : Eth → Eth) (s : State) : (ethMod i f s).hub = s.hub := rfl
@[simp] theorem ethMod_supply (i : Fin 2) (f : Eth → Eth) (s : State) : (ethMod i f s).supply = s.supply := rfl
@[simp] theorem ethMod_ps (i : Fin 2) (f : Eth → Eth) (s : State) : (ethMod i f s).ps = s.ps := rfl
@[simp] theorem ethMod_rst (i : Fin 2) (f : Eth → Eth) (s : State) : (ethMod i f s).rst = s.rst := rfl
@[simp] theorem ethMod_loader (i : Fin 2) (f : Eth → Eth) (s : State) : (ethMod i f s).loader = s.loader := rfl
@[simp] theorem ethMod_optshd (i : Fin 2) (f : Eth → Eth) (s : State) : (ethMod i f s).optshd = s.optshd := rfl
@[simp] theorem ethMod_clk (i : Fin 2) (f : Eth → Eth) (s : State) : (ethMod i f s).clk = s.clk := rfl
@[simp] theorem ethMod_pix (i : Fin 2) (f : Eth → Eth) (s : State) : (ethMod i f s).pix = s.pix := rfl
@[simp] theorem ethMod_video (i : Fin 2) (f : Eth → Eth) (s : State) : (ethMod i f s).video = s.video := rfl
@[simp] theorem ethMod_beam (i : Fin 2) (f : Eth → Eth) (s : State) : (ethMod i f s).beam = s.beam := rfl
@[simp] theorem ethMod_motors (i : Fin 2) (f : Eth → Eth) (s : State) : (ethMod i f s).motors = s.motors := rfl
@[simp] theorem ethMod_rdc (i : Fin 2) (f : Eth → Eth) (s : State) : (ethMod i f s).rdc = s.rdc := rfl
@[simp] theorem ethMod_loops (i : Fin 2) (f : Eth → Eth) (s : State) : (ethMod i f s).loops = s.loops := rfl
@[simp] theorem ethMod_hv (i : Fin 2) (f : Eth → Eth) (s : State) : (ethMod i f s).hv = s.hv := rfl
@[simp] theorem ethMod_fuser (i : Fin 2) (f : Eth → Eth) (s : State) : (ethMod i f s).fuser = s.fuser := rfl
@[simp] theorem ethMod_outHold (i : Fin 2) (f : Eth → Eth) (s : State) : (ethMod i f s).outHold = s.outHold := rfl
@[simp] theorem ethMod_vregen (i : Fin 2) (f : Eth → Eth) (s : State) : (ethMod i f s).vregen = s.vregen := rfl
@[simp] theorem ethMod_sy (i : Fin 2) (f : Eth → Eth) (s : State) : (ethMod i f s).sy = s.sy := rfl
@[simp] theorem ethMod_sySnap (i : Fin 2) (f : Eth → Eth) (s : State) : (ethMod i f s).sySnap = s.sySnap := rfl
@[simp] theorem ethMod_thrCopy (i : Fin 2) (f : Eth → Eth) (s : State) : (ethMod i f s).thrCopy = s.thrCopy := rfl
@[simp] theorem ethMod_adc (i : Fin 2) (f : Eth → Eth) (s : State) : (ethMod i f s).adc = s.adc := rfl
@[simp] theorem ethMod_till (i : Fin 2) (f : Eth → Eth) (s : State) : (ethMod i f s).till = s.till := rfl
@[simp] theorem ethMod_rtc (i : Fin 2) (f : Eth → Eth) (s : State) : (ethMod i f s).rtc = s.rtc := rfl
@[simp] theorem ethMod_devtime (i : Fin 2) (f : Eth → Eth) (s : State) : (ethMod i f s).devtime = s.devtime := rfl
@[simp] theorem ethMod_crypto (i : Fin 2) (f : Eth → Eth) (s : State) : (ethMod i f s).crypto = s.crypto := rfl
@[simp] theorem ethMod_cluster (i : Fin 2) (f : Eth → Eth) (s : State) : (ethMod i f s).cluster = s.cluster := rfl
@[simp] theorem ethMod_fabric (i : Fin 2) (f : Eth → Eth) (s : State) : (ethMod i f s).fabric = s.fabric := rfl
@[simp] theorem ethMod_dramc (i : Fin 2) (f : Eth → Eth) (s : State) : (ethMod i f s).dramc = s.dramc := rfl
@[simp] theorem ethMod_licApp (i : Fin 2) (f : Eth → Eth) (s : State) : (ethMod i f s).licApp = s.licApp := rfl
@[simp] theorem ethMod_licKeep (i : Fin 2) (f : Eth → Eth) (s : State) : (ethMod i f s).licKeep = s.licKeep := rfl
@[simp] theorem ethMod_bwApp (i : Fin 2) (f : Eth → Eth) (s : State) : (ethMod i f s).bwApp = s.bwApp := rfl
@[simp] theorem ethMod_bwKeep (i : Fin 2) (f : Eth → Eth) (s : State) : (ethMod i f s).bwKeep = s.bwKeep := rfl
@[simp] theorem ethMod_gpio (i : Fin 2) (f : Eth → Eth) (s : State) : (ethMod i f s).gpio = s.gpio := rfl
@[simp] theorem ethMod_pincfg (i : Fin 2) (f : Eth → Eth) (s : State) : (ethMod i f s).pincfg = s.pincfg := rfl
@[simp] theorem ethMod_spim (i : Fin 2) (f : Eth → Eth) (s : State) : (ethMod i f s).spim = s.spim := rfl
@[simp] theorem ethMod_hspi (i : Fin 2) (f : Eth → Eth) (s : State) : (ethMod i f s).hspi = s.hspi := rfl
@[simp] theorem ethMod_xspi (i : Fin 2) (f : Eth → Eth) (s : State) : (ethMod i f s).xspi = s.xspi := rfl
@[simp] theorem ethMod_sys (i : Fin 2) (f : Eth → Eth) (s : State) : (ethMod i f s).sys = s.sys := rfl
@[simp] theorem ethMod_dbg (i : Fin 2) (f : Eth → Eth) (s : State) : (ethMod i f s).dbg = s.dbg := rfl
@[simp] theorem ethMod_hold (i : Fin 2) (f : Eth → Eth) (s : State) : (ethMod i f s).hold = s.hold := rfl
@[simp] theorem ethMod_mem (i : Fin 2) (f : Eth → Eth) (s : State) : (ethMod i f s).mem = s.mem := rfl
@[simp] theorem ethMod_tickPhase (i : Fin 2) (f : Eth → Eth) (s : State) : (ethMod i f s).tickPhase = s.tickPhase :=
  rfl
@[simp] theorem ethMod_ao32Acc (i : Fin 2) (f : Eth → Eth) (s : State) : (ethMod i f s).ao32Acc = s.ao32Acc := rfl
@[simp] theorem ethMod_freeCtr (i : Fin 2) (f : Eth → Eth) (s : State) : (ethMod i f s).freeCtr = s.freeCtr := rfl
@[simp] theorem ethMod_pending (i : Fin 2) (f : Eth → Eth) (s : State) : (ethMod i f s).pending = s.pending := rfl

/-! ## csMod -/

@[simp] theorem csMod_counters (c : Fin 2) (f : HspiCs → HspiCs) (s : State) : (csMod c f s).counters = s.counters :=
  rfl
@[simp] theorem csMod_cntWindow (c : Fin 2) (f : HspiCs → HspiCs) (s : State) : (csMod c f s).cntWindow = s.cntWindow :=
  rfl
@[simp] theorem csMod_windows (c : Fin 2) (f : HspiCs → HspiCs) (s : State) : (csMod c f s).windows = s.windows := rfl
@[simp] theorem csMod_docket (c : Fin 2) (f : HspiCs → HspiCs) (s : State) : (csMod c f s).docket = s.docket := rfl
@[simp] theorem csMod_dkStore (c : Fin 2) (f : HspiCs → HspiCs) (s : State) : (csMod c f s).dkStore = s.dkStore := rfl
@[simp] theorem csMod_sinov (c : Fin 2) (f : HspiCs → HspiCs) (s : State) : (csMod c f s).sinov = s.sinov := rfl
@[simp] theorem csMod_envg (c : Fin 2) (f : HspiCs → HspiCs) (s : State) : (csMod c f s).envg = s.envg := rfl
@[simp] theorem csMod_hdie (c : Fin 2) (f : HspiCs → HspiCs) (s : State) : (csMod c f s).hdie = s.hdie := rfl
@[simp] theorem csMod_link (c : Fin 2) (f : HspiCs → HspiCs) (s : State) : (csMod c f s).link = s.link := rfl
@[simp] theorem csMod_hub (c : Fin 2) (f : HspiCs → HspiCs) (s : State) : (csMod c f s).hub = s.hub := rfl
@[simp] theorem csMod_supply (c : Fin 2) (f : HspiCs → HspiCs) (s : State) : (csMod c f s).supply = s.supply := rfl
@[simp] theorem csMod_ps (c : Fin 2) (f : HspiCs → HspiCs) (s : State) : (csMod c f s).ps = s.ps := rfl
@[simp] theorem csMod_rst (c : Fin 2) (f : HspiCs → HspiCs) (s : State) : (csMod c f s).rst = s.rst := rfl
@[simp] theorem csMod_loader (c : Fin 2) (f : HspiCs → HspiCs) (s : State) : (csMod c f s).loader = s.loader := rfl
@[simp] theorem csMod_optshd (c : Fin 2) (f : HspiCs → HspiCs) (s : State) : (csMod c f s).optshd = s.optshd := rfl
@[simp] theorem csMod_clk (c : Fin 2) (f : HspiCs → HspiCs) (s : State) : (csMod c f s).clk = s.clk := rfl
@[simp] theorem csMod_pix (c : Fin 2) (f : HspiCs → HspiCs) (s : State) : (csMod c f s).pix = s.pix := rfl
@[simp] theorem csMod_video (c : Fin 2) (f : HspiCs → HspiCs) (s : State) : (csMod c f s).video = s.video := rfl
@[simp] theorem csMod_beam (c : Fin 2) (f : HspiCs → HspiCs) (s : State) : (csMod c f s).beam = s.beam := rfl
@[simp] theorem csMod_motors (c : Fin 2) (f : HspiCs → HspiCs) (s : State) : (csMod c f s).motors = s.motors := rfl
@[simp] theorem csMod_rdc (c : Fin 2) (f : HspiCs → HspiCs) (s : State) : (csMod c f s).rdc = s.rdc := rfl
@[simp] theorem csMod_loops (c : Fin 2) (f : HspiCs → HspiCs) (s : State) : (csMod c f s).loops = s.loops := rfl
@[simp] theorem csMod_hv (c : Fin 2) (f : HspiCs → HspiCs) (s : State) : (csMod c f s).hv = s.hv := rfl
@[simp] theorem csMod_fuser (c : Fin 2) (f : HspiCs → HspiCs) (s : State) : (csMod c f s).fuser = s.fuser := rfl
@[simp] theorem csMod_outHold (c : Fin 2) (f : HspiCs → HspiCs) (s : State) : (csMod c f s).outHold = s.outHold := rfl
@[simp] theorem csMod_vregen (c : Fin 2) (f : HspiCs → HspiCs) (s : State) : (csMod c f s).vregen = s.vregen := rfl
@[simp] theorem csMod_sy (c : Fin 2) (f : HspiCs → HspiCs) (s : State) : (csMod c f s).sy = s.sy := rfl
@[simp] theorem csMod_sySnap (c : Fin 2) (f : HspiCs → HspiCs) (s : State) : (csMod c f s).sySnap = s.sySnap := rfl
@[simp] theorem csMod_thrCopy (c : Fin 2) (f : HspiCs → HspiCs) (s : State) : (csMod c f s).thrCopy = s.thrCopy := rfl
@[simp] theorem csMod_adc (c : Fin 2) (f : HspiCs → HspiCs) (s : State) : (csMod c f s).adc = s.adc := rfl
@[simp] theorem csMod_till (c : Fin 2) (f : HspiCs → HspiCs) (s : State) : (csMod c f s).till = s.till := rfl
@[simp] theorem csMod_rtc (c : Fin 2) (f : HspiCs → HspiCs) (s : State) : (csMod c f s).rtc = s.rtc := rfl
@[simp] theorem csMod_devtime (c : Fin 2) (f : HspiCs → HspiCs) (s : State) : (csMod c f s).devtime = s.devtime := rfl
@[simp] theorem csMod_crypto (c : Fin 2) (f : HspiCs → HspiCs) (s : State) : (csMod c f s).crypto = s.crypto := rfl
@[simp] theorem csMod_cluster (c : Fin 2) (f : HspiCs → HspiCs) (s : State) : (csMod c f s).cluster = s.cluster := rfl
@[simp] theorem csMod_fabric (c : Fin 2) (f : HspiCs → HspiCs) (s : State) : (csMod c f s).fabric = s.fabric := rfl
@[simp] theorem csMod_dramc (c : Fin 2) (f : HspiCs → HspiCs) (s : State) : (csMod c f s).dramc = s.dramc := rfl
@[simp] theorem csMod_licApp (c : Fin 2) (f : HspiCs → HspiCs) (s : State) : (csMod c f s).licApp = s.licApp := rfl
@[simp] theorem csMod_licKeep (c : Fin 2) (f : HspiCs → HspiCs) (s : State) : (csMod c f s).licKeep = s.licKeep := rfl
@[simp] theorem csMod_bwApp (c : Fin 2) (f : HspiCs → HspiCs) (s : State) : (csMod c f s).bwApp = s.bwApp := rfl
@[simp] theorem csMod_bwKeep (c : Fin 2) (f : HspiCs → HspiCs) (s : State) : (csMod c f s).bwKeep = s.bwKeep := rfl
@[simp] theorem csMod_gpio (c : Fin 2) (f : HspiCs → HspiCs) (s : State) : (csMod c f s).gpio = s.gpio := rfl
@[simp] theorem csMod_pincfg (c : Fin 2) (f : HspiCs → HspiCs) (s : State) : (csMod c f s).pincfg = s.pincfg := rfl
@[simp] theorem csMod_spim (c : Fin 2) (f : HspiCs → HspiCs) (s : State) : (csMod c f s).spim = s.spim := rfl
@[simp] theorem csMod_eth (c : Fin 2) (f : HspiCs → HspiCs) (s : State) : (csMod c f s).eth = s.eth := rfl
@[simp] theorem csMod_xspi (c : Fin 2) (f : HspiCs → HspiCs) (s : State) : (csMod c f s).xspi = s.xspi := rfl
@[simp] theorem csMod_sys (c : Fin 2) (f : HspiCs → HspiCs) (s : State) : (csMod c f s).sys = s.sys := rfl
@[simp] theorem csMod_dbg (c : Fin 2) (f : HspiCs → HspiCs) (s : State) : (csMod c f s).dbg = s.dbg := rfl
@[simp] theorem csMod_hold (c : Fin 2) (f : HspiCs → HspiCs) (s : State) : (csMod c f s).hold = s.hold := rfl
@[simp] theorem csMod_mem (c : Fin 2) (f : HspiCs → HspiCs) (s : State) : (csMod c f s).mem = s.mem := rfl
@[simp] theorem csMod_tickPhase (c : Fin 2) (f : HspiCs → HspiCs) (s : State) : (csMod c f s).tickPhase = s.tickPhase :=
  rfl
@[simp] theorem csMod_ao32Acc (c : Fin 2) (f : HspiCs → HspiCs) (s : State) : (csMod c f s).ao32Acc = s.ao32Acc := rfl
@[simp] theorem csMod_freeCtr (c : Fin 2) (f : HspiCs → HspiCs) (s : State) : (csMod c f s).freeCtr = s.freeCtr := rfl
@[simp] theorem csMod_pending (c : Fin 2) (f : HspiCs → HspiCs) (s : State) : (csMod c f s).pending = s.pending := rfl

/-! ## hartMod -/

@[simp] theorem hartMod_counters (h : Fin 4) (f : Hart → Hart) (s : State) : (hartMod h f s).counters = s.counters :=
  rfl
@[simp] theorem hartMod_cntWindow (h : Fin 4) (f : Hart → Hart) (s : State) : (hartMod h f s).cntWindow = s.cntWindow :=
  rfl
@[simp] theorem hartMod_windows (h : Fin 4) (f : Hart → Hart) (s : State) : (hartMod h f s).windows = s.windows := rfl
@[simp] theorem hartMod_docket (h : Fin 4) (f : Hart → Hart) (s : State) : (hartMod h f s).docket = s.docket := rfl
@[simp] theorem hartMod_dkStore (h : Fin 4) (f : Hart → Hart) (s : State) : (hartMod h f s).dkStore = s.dkStore := rfl
@[simp] theorem hartMod_sinov (h : Fin 4) (f : Hart → Hart) (s : State) : (hartMod h f s).sinov = s.sinov := rfl
@[simp] theorem hartMod_envg (h : Fin 4) (f : Hart → Hart) (s : State) : (hartMod h f s).envg = s.envg := rfl
@[simp] theorem hartMod_hdie (h : Fin 4) (f : Hart → Hart) (s : State) : (hartMod h f s).hdie = s.hdie := rfl
@[simp] theorem hartMod_link (h : Fin 4) (f : Hart → Hart) (s : State) : (hartMod h f s).link = s.link := rfl
@[simp] theorem hartMod_hub (h : Fin 4) (f : Hart → Hart) (s : State) : (hartMod h f s).hub = s.hub := rfl
@[simp] theorem hartMod_supply (h : Fin 4) (f : Hart → Hart) (s : State) : (hartMod h f s).supply = s.supply := rfl
@[simp] theorem hartMod_ps (h : Fin 4) (f : Hart → Hart) (s : State) : (hartMod h f s).ps = s.ps := rfl
@[simp] theorem hartMod_rst (h : Fin 4) (f : Hart → Hart) (s : State) : (hartMod h f s).rst = s.rst := rfl
@[simp] theorem hartMod_loader (h : Fin 4) (f : Hart → Hart) (s : State) : (hartMod h f s).loader = s.loader := rfl
@[simp] theorem hartMod_optshd (h : Fin 4) (f : Hart → Hart) (s : State) : (hartMod h f s).optshd = s.optshd := rfl
@[simp] theorem hartMod_clk (h : Fin 4) (f : Hart → Hart) (s : State) : (hartMod h f s).clk = s.clk := rfl
@[simp] theorem hartMod_pix (h : Fin 4) (f : Hart → Hart) (s : State) : (hartMod h f s).pix = s.pix := rfl
@[simp] theorem hartMod_video (h : Fin 4) (f : Hart → Hart) (s : State) : (hartMod h f s).video = s.video := rfl
@[simp] theorem hartMod_beam (h : Fin 4) (f : Hart → Hart) (s : State) : (hartMod h f s).beam = s.beam := rfl
@[simp] theorem hartMod_motors (h : Fin 4) (f : Hart → Hart) (s : State) : (hartMod h f s).motors = s.motors := rfl
@[simp] theorem hartMod_rdc (h : Fin 4) (f : Hart → Hart) (s : State) : (hartMod h f s).rdc = s.rdc := rfl
@[simp] theorem hartMod_loops (h : Fin 4) (f : Hart → Hart) (s : State) : (hartMod h f s).loops = s.loops := rfl
@[simp] theorem hartMod_hv (h : Fin 4) (f : Hart → Hart) (s : State) : (hartMod h f s).hv = s.hv := rfl
@[simp] theorem hartMod_fuser (h : Fin 4) (f : Hart → Hart) (s : State) : (hartMod h f s).fuser = s.fuser := rfl
@[simp] theorem hartMod_outHold (h : Fin 4) (f : Hart → Hart) (s : State) : (hartMod h f s).outHold = s.outHold := rfl
@[simp] theorem hartMod_vregen (h : Fin 4) (f : Hart → Hart) (s : State) : (hartMod h f s).vregen = s.vregen := rfl
@[simp] theorem hartMod_sy (h : Fin 4) (f : Hart → Hart) (s : State) : (hartMod h f s).sy = s.sy := rfl
@[simp] theorem hartMod_sySnap (h : Fin 4) (f : Hart → Hart) (s : State) : (hartMod h f s).sySnap = s.sySnap := rfl
@[simp] theorem hartMod_thrCopy (h : Fin 4) (f : Hart → Hart) (s : State) : (hartMod h f s).thrCopy = s.thrCopy := rfl
@[simp] theorem hartMod_adc (h : Fin 4) (f : Hart → Hart) (s : State) : (hartMod h f s).adc = s.adc := rfl
@[simp] theorem hartMod_till (h : Fin 4) (f : Hart → Hart) (s : State) : (hartMod h f s).till = s.till := rfl
@[simp] theorem hartMod_rtc (h : Fin 4) (f : Hart → Hart) (s : State) : (hartMod h f s).rtc = s.rtc := rfl
@[simp] theorem hartMod_devtime (h : Fin 4) (f : Hart → Hart) (s : State) : (hartMod h f s).devtime = s.devtime := rfl
@[simp] theorem hartMod_crypto (h : Fin 4) (f : Hart → Hart) (s : State) : (hartMod h f s).crypto = s.crypto := rfl
@[simp] theorem hartMod_fabric (h : Fin 4) (f : Hart → Hart) (s : State) : (hartMod h f s).fabric = s.fabric := rfl
@[simp] theorem hartMod_dramc (h : Fin 4) (f : Hart → Hart) (s : State) : (hartMod h f s).dramc = s.dramc := rfl
@[simp] theorem hartMod_licApp (h : Fin 4) (f : Hart → Hart) (s : State) : (hartMod h f s).licApp = s.licApp := rfl
@[simp] theorem hartMod_licKeep (h : Fin 4) (f : Hart → Hart) (s : State) : (hartMod h f s).licKeep = s.licKeep := rfl
@[simp] theorem hartMod_bwApp (h : Fin 4) (f : Hart → Hart) (s : State) : (hartMod h f s).bwApp = s.bwApp := rfl
@[simp] theorem hartMod_bwKeep (h : Fin 4) (f : Hart → Hart) (s : State) : (hartMod h f s).bwKeep = s.bwKeep := rfl
@[simp] theorem hartMod_gpio (h : Fin 4) (f : Hart → Hart) (s : State) : (hartMod h f s).gpio = s.gpio := rfl
@[simp] theorem hartMod_pincfg (h : Fin 4) (f : Hart → Hart) (s : State) : (hartMod h f s).pincfg = s.pincfg := rfl
@[simp] theorem hartMod_spim (h : Fin 4) (f : Hart → Hart) (s : State) : (hartMod h f s).spim = s.spim := rfl
@[simp] theorem hartMod_hspi (h : Fin 4) (f : Hart → Hart) (s : State) : (hartMod h f s).hspi = s.hspi := rfl
@[simp] theorem hartMod_eth (h : Fin 4) (f : Hart → Hart) (s : State) : (hartMod h f s).eth = s.eth := rfl
@[simp] theorem hartMod_xspi (h : Fin 4) (f : Hart → Hart) (s : State) : (hartMod h f s).xspi = s.xspi := rfl
@[simp] theorem hartMod_sys (h : Fin 4) (f : Hart → Hart) (s : State) : (hartMod h f s).sys = s.sys := rfl
@[simp] theorem hartMod_dbg (h : Fin 4) (f : Hart → Hart) (s : State) : (hartMod h f s).dbg = s.dbg := rfl
@[simp] theorem hartMod_hold (h : Fin 4) (f : Hart → Hart) (s : State) : (hartMod h f s).hold = s.hold := rfl
@[simp] theorem hartMod_mem (h : Fin 4) (f : Hart → Hart) (s : State) : (hartMod h f s).mem = s.mem := rfl
@[simp] theorem hartMod_tickPhase (h : Fin 4) (f : Hart → Hart) (s : State) : (hartMod h f s).tickPhase = s.tickPhase :=
  rfl
@[simp] theorem hartMod_ao32Acc (h : Fin 4) (f : Hart → Hart) (s : State) : (hartMod h f s).ao32Acc = s.ao32Acc := rfl
@[simp] theorem hartMod_freeCtr (h : Fin 4) (f : Hart → Hart) (s : State) : (hartMod h f s).freeCtr = s.freeCtr := rfl
@[simp] theorem hartMod_pending (h : Fin 4) (f : Hart → Hart) (s : State) : (hartMod h f s).pending = s.pending := rfl

/-! ## dmiPut -/

@[simp] theorem dmiPut_counters (a : Nat) (v : Word) (s : State) : (dmiPut a v s).counters = s.counters := rfl
@[simp] theorem dmiPut_cntWindow (a : Nat) (v : Word) (s : State) : (dmiPut a v s).cntWindow = s.cntWindow := rfl
@[simp] theorem dmiPut_windows (a : Nat) (v : Word) (s : State) : (dmiPut a v s).windows = s.windows := rfl
@[simp] theorem dmiPut_docket (a : Nat) (v : Word) (s : State) : (dmiPut a v s).docket = s.docket := rfl
@[simp] theorem dmiPut_dkStore (a : Nat) (v : Word) (s : State) : (dmiPut a v s).dkStore = s.dkStore := rfl
@[simp] theorem dmiPut_sinov (a : Nat) (v : Word) (s : State) : (dmiPut a v s).sinov = s.sinov := rfl
@[simp] theorem dmiPut_envg (a : Nat) (v : Word) (s : State) : (dmiPut a v s).envg = s.envg := rfl
@[simp] theorem dmiPut_hdie (a : Nat) (v : Word) (s : State) : (dmiPut a v s).hdie = s.hdie := rfl
@[simp] theorem dmiPut_link (a : Nat) (v : Word) (s : State) : (dmiPut a v s).link = s.link := rfl
@[simp] theorem dmiPut_hub (a : Nat) (v : Word) (s : State) : (dmiPut a v s).hub = s.hub := rfl
@[simp] theorem dmiPut_supply (a : Nat) (v : Word) (s : State) : (dmiPut a v s).supply = s.supply := rfl
@[simp] theorem dmiPut_ps (a : Nat) (v : Word) (s : State) : (dmiPut a v s).ps = s.ps := rfl
@[simp] theorem dmiPut_rst (a : Nat) (v : Word) (s : State) : (dmiPut a v s).rst = s.rst := rfl
@[simp] theorem dmiPut_loader (a : Nat) (v : Word) (s : State) : (dmiPut a v s).loader = s.loader := rfl
@[simp] theorem dmiPut_optshd (a : Nat) (v : Word) (s : State) : (dmiPut a v s).optshd = s.optshd := rfl
@[simp] theorem dmiPut_clk (a : Nat) (v : Word) (s : State) : (dmiPut a v s).clk = s.clk := rfl
@[simp] theorem dmiPut_pix (a : Nat) (v : Word) (s : State) : (dmiPut a v s).pix = s.pix := rfl
@[simp] theorem dmiPut_video (a : Nat) (v : Word) (s : State) : (dmiPut a v s).video = s.video := rfl
@[simp] theorem dmiPut_beam (a : Nat) (v : Word) (s : State) : (dmiPut a v s).beam = s.beam := rfl
@[simp] theorem dmiPut_motors (a : Nat) (v : Word) (s : State) : (dmiPut a v s).motors = s.motors := rfl
@[simp] theorem dmiPut_rdc (a : Nat) (v : Word) (s : State) : (dmiPut a v s).rdc = s.rdc := rfl
@[simp] theorem dmiPut_loops (a : Nat) (v : Word) (s : State) : (dmiPut a v s).loops = s.loops := rfl
@[simp] theorem dmiPut_hv (a : Nat) (v : Word) (s : State) : (dmiPut a v s).hv = s.hv := rfl
@[simp] theorem dmiPut_fuser (a : Nat) (v : Word) (s : State) : (dmiPut a v s).fuser = s.fuser := rfl
@[simp] theorem dmiPut_outHold (a : Nat) (v : Word) (s : State) : (dmiPut a v s).outHold = s.outHold := rfl
@[simp] theorem dmiPut_vregen (a : Nat) (v : Word) (s : State) : (dmiPut a v s).vregen = s.vregen := rfl
@[simp] theorem dmiPut_sy (a : Nat) (v : Word) (s : State) : (dmiPut a v s).sy = s.sy := rfl
@[simp] theorem dmiPut_sySnap (a : Nat) (v : Word) (s : State) : (dmiPut a v s).sySnap = s.sySnap := rfl
@[simp] theorem dmiPut_thrCopy (a : Nat) (v : Word) (s : State) : (dmiPut a v s).thrCopy = s.thrCopy := rfl
@[simp] theorem dmiPut_adc (a : Nat) (v : Word) (s : State) : (dmiPut a v s).adc = s.adc := rfl
@[simp] theorem dmiPut_till (a : Nat) (v : Word) (s : State) : (dmiPut a v s).till = s.till := rfl
@[simp] theorem dmiPut_rtc (a : Nat) (v : Word) (s : State) : (dmiPut a v s).rtc = s.rtc := rfl
@[simp] theorem dmiPut_devtime (a : Nat) (v : Word) (s : State) : (dmiPut a v s).devtime = s.devtime := rfl
@[simp] theorem dmiPut_crypto (a : Nat) (v : Word) (s : State) : (dmiPut a v s).crypto = s.crypto := rfl
@[simp] theorem dmiPut_cluster (a : Nat) (v : Word) (s : State) : (dmiPut a v s).cluster = s.cluster := rfl
@[simp] theorem dmiPut_fabric (a : Nat) (v : Word) (s : State) : (dmiPut a v s).fabric = s.fabric := rfl
@[simp] theorem dmiPut_dramc (a : Nat) (v : Word) (s : State) : (dmiPut a v s).dramc = s.dramc := rfl
@[simp] theorem dmiPut_licApp (a : Nat) (v : Word) (s : State) : (dmiPut a v s).licApp = s.licApp := rfl
@[simp] theorem dmiPut_licKeep (a : Nat) (v : Word) (s : State) : (dmiPut a v s).licKeep = s.licKeep := rfl
@[simp] theorem dmiPut_bwApp (a : Nat) (v : Word) (s : State) : (dmiPut a v s).bwApp = s.bwApp := rfl
@[simp] theorem dmiPut_bwKeep (a : Nat) (v : Word) (s : State) : (dmiPut a v s).bwKeep = s.bwKeep := rfl
@[simp] theorem dmiPut_gpio (a : Nat) (v : Word) (s : State) : (dmiPut a v s).gpio = s.gpio := rfl
@[simp] theorem dmiPut_pincfg (a : Nat) (v : Word) (s : State) : (dmiPut a v s).pincfg = s.pincfg := rfl
@[simp] theorem dmiPut_spim (a : Nat) (v : Word) (s : State) : (dmiPut a v s).spim = s.spim := rfl
@[simp] theorem dmiPut_hspi (a : Nat) (v : Word) (s : State) : (dmiPut a v s).hspi = s.hspi := rfl
@[simp] theorem dmiPut_eth (a : Nat) (v : Word) (s : State) : (dmiPut a v s).eth = s.eth := rfl
@[simp] theorem dmiPut_xspi (a : Nat) (v : Word) (s : State) : (dmiPut a v s).xspi = s.xspi := rfl
@[simp] theorem dmiPut_sys (a : Nat) (v : Word) (s : State) : (dmiPut a v s).sys = s.sys := rfl
@[simp] theorem dmiPut_hold (a : Nat) (v : Word) (s : State) : (dmiPut a v s).hold = s.hold := rfl
@[simp] theorem dmiPut_mem (a : Nat) (v : Word) (s : State) : (dmiPut a v s).mem = s.mem := rfl
@[simp] theorem dmiPut_tickPhase (a : Nat) (v : Word) (s : State) : (dmiPut a v s).tickPhase = s.tickPhase := rfl
@[simp] theorem dmiPut_ao32Acc (a : Nat) (v : Word) (s : State) : (dmiPut a v s).ao32Acc = s.ao32Acc := rfl
@[simp] theorem dmiPut_freeCtr (a : Nat) (v : Word) (s : State) : (dmiPut a v s).freeCtr = s.freeCtr := rfl
@[simp] theorem dmiPut_pending (a : Nat) (v : Word) (s : State) : (dmiPut a v s).pending = s.pending := rfl

/-! ## setLit -/

@[simp] theorem setLit_counters (b : Fin 4) (v : Bool) (s : State) : (setLit b v s).counters = s.counters := rfl
@[simp] theorem setLit_cntWindow (b : Fin 4) (v : Bool) (s : State) : (setLit b v s).cntWindow = s.cntWindow := rfl
@[simp] theorem setLit_windows (b : Fin 4) (v : Bool) (s : State) : (setLit b v s).windows = s.windows := rfl
@[simp] theorem setLit_docket (b : Fin 4) (v : Bool) (s : State) : (setLit b v s).docket = s.docket := rfl
@[simp] theorem setLit_dkStore (b : Fin 4) (v : Bool) (s : State) : (setLit b v s).dkStore = s.dkStore := rfl
@[simp] theorem setLit_sinov (b : Fin 4) (v : Bool) (s : State) : (setLit b v s).sinov = s.sinov := rfl
@[simp] theorem setLit_envg (b : Fin 4) (v : Bool) (s : State) : (setLit b v s).envg = s.envg := rfl
@[simp] theorem setLit_hdie (b : Fin 4) (v : Bool) (s : State) : (setLit b v s).hdie = s.hdie := rfl
@[simp] theorem setLit_link (b : Fin 4) (v : Bool) (s : State) : (setLit b v s).link = s.link := rfl
@[simp] theorem setLit_hub (b : Fin 4) (v : Bool) (s : State) : (setLit b v s).hub = s.hub := rfl
@[simp] theorem setLit_supply (b : Fin 4) (v : Bool) (s : State) : (setLit b v s).supply = s.supply := rfl
@[simp] theorem setLit_ps (b : Fin 4) (v : Bool) (s : State) : (setLit b v s).ps = s.ps := rfl
@[simp] theorem setLit_rst (b : Fin 4) (v : Bool) (s : State) : (setLit b v s).rst = s.rst := rfl
@[simp] theorem setLit_loader (b : Fin 4) (v : Bool) (s : State) : (setLit b v s).loader = s.loader := rfl
@[simp] theorem setLit_optshd (b : Fin 4) (v : Bool) (s : State) : (setLit b v s).optshd = s.optshd := rfl
@[simp] theorem setLit_clk (b : Fin 4) (v : Bool) (s : State) : (setLit b v s).clk = s.clk := rfl
@[simp] theorem setLit_pix (b : Fin 4) (v : Bool) (s : State) : (setLit b v s).pix = s.pix := rfl
@[simp] theorem setLit_video (b : Fin 4) (v : Bool) (s : State) : (setLit b v s).video = s.video := rfl
@[simp] theorem setLit_motors (b : Fin 4) (v : Bool) (s : State) : (setLit b v s).motors = s.motors := rfl
@[simp] theorem setLit_rdc (b : Fin 4) (v : Bool) (s : State) : (setLit b v s).rdc = s.rdc := rfl
@[simp] theorem setLit_loops (b : Fin 4) (v : Bool) (s : State) : (setLit b v s).loops = s.loops := rfl
@[simp] theorem setLit_hv (b : Fin 4) (v : Bool) (s : State) : (setLit b v s).hv = s.hv := rfl
@[simp] theorem setLit_fuser (b : Fin 4) (v : Bool) (s : State) : (setLit b v s).fuser = s.fuser := rfl
@[simp] theorem setLit_outHold (b : Fin 4) (v : Bool) (s : State) : (setLit b v s).outHold = s.outHold := rfl
@[simp] theorem setLit_vregen (b : Fin 4) (v : Bool) (s : State) : (setLit b v s).vregen = s.vregen := rfl
@[simp] theorem setLit_sy (b : Fin 4) (v : Bool) (s : State) : (setLit b v s).sy = s.sy := rfl
@[simp] theorem setLit_sySnap (b : Fin 4) (v : Bool) (s : State) : (setLit b v s).sySnap = s.sySnap := rfl
@[simp] theorem setLit_thrCopy (b : Fin 4) (v : Bool) (s : State) : (setLit b v s).thrCopy = s.thrCopy := rfl
@[simp] theorem setLit_adc (b : Fin 4) (v : Bool) (s : State) : (setLit b v s).adc = s.adc := rfl
@[simp] theorem setLit_till (b : Fin 4) (v : Bool) (s : State) : (setLit b v s).till = s.till := rfl
@[simp] theorem setLit_rtc (b : Fin 4) (v : Bool) (s : State) : (setLit b v s).rtc = s.rtc := rfl
@[simp] theorem setLit_devtime (b : Fin 4) (v : Bool) (s : State) : (setLit b v s).devtime = s.devtime := rfl
@[simp] theorem setLit_crypto (b : Fin 4) (v : Bool) (s : State) : (setLit b v s).crypto = s.crypto := rfl
@[simp] theorem setLit_cluster (b : Fin 4) (v : Bool) (s : State) : (setLit b v s).cluster = s.cluster := rfl
@[simp] theorem setLit_fabric (b : Fin 4) (v : Bool) (s : State) : (setLit b v s).fabric = s.fabric := rfl
@[simp] theorem setLit_dramc (b : Fin 4) (v : Bool) (s : State) : (setLit b v s).dramc = s.dramc := rfl
@[simp] theorem setLit_licApp (b : Fin 4) (v : Bool) (s : State) : (setLit b v s).licApp = s.licApp := rfl
@[simp] theorem setLit_licKeep (b : Fin 4) (v : Bool) (s : State) : (setLit b v s).licKeep = s.licKeep := rfl
@[simp] theorem setLit_bwApp (b : Fin 4) (v : Bool) (s : State) : (setLit b v s).bwApp = s.bwApp := rfl
@[simp] theorem setLit_bwKeep (b : Fin 4) (v : Bool) (s : State) : (setLit b v s).bwKeep = s.bwKeep := rfl
@[simp] theorem setLit_gpio (b : Fin 4) (v : Bool) (s : State) : (setLit b v s).gpio = s.gpio := rfl
@[simp] theorem setLit_pincfg (b : Fin 4) (v : Bool) (s : State) : (setLit b v s).pincfg = s.pincfg := rfl
@[simp] theorem setLit_spim (b : Fin 4) (v : Bool) (s : State) : (setLit b v s).spim = s.spim := rfl
@[simp] theorem setLit_hspi (b : Fin 4) (v : Bool) (s : State) : (setLit b v s).hspi = s.hspi := rfl
@[simp] theorem setLit_eth (b : Fin 4) (v : Bool) (s : State) : (setLit b v s).eth = s.eth := rfl
@[simp] theorem setLit_xspi (b : Fin 4) (v : Bool) (s : State) : (setLit b v s).xspi = s.xspi := rfl
@[simp] theorem setLit_sys (b : Fin 4) (v : Bool) (s : State) : (setLit b v s).sys = s.sys := rfl
@[simp] theorem setLit_dbg (b : Fin 4) (v : Bool) (s : State) : (setLit b v s).dbg = s.dbg := rfl
@[simp] theorem setLit_hold (b : Fin 4) (v : Bool) (s : State) : (setLit b v s).hold = s.hold := rfl
@[simp] theorem setLit_mem (b : Fin 4) (v : Bool) (s : State) : (setLit b v s).mem = s.mem := rfl
@[simp] theorem setLit_tickPhase (b : Fin 4) (v : Bool) (s : State) : (setLit b v s).tickPhase = s.tickPhase := rfl
@[simp] theorem setLit_ao32Acc (b : Fin 4) (v : Bool) (s : State) : (setLit b v s).ao32Acc = s.ao32Acc := rfl
@[simp] theorem setLit_freeCtr (b : Fin 4) (v : Bool) (s : State) : (setLit b v s).freeCtr = s.freeCtr := rfl
@[simp] theorem setLit_pending (b : Fin 4) (v : Bool) (s : State) : (setLit b v s).pending = s.pending := rfl

/-! ## wantRecord -/

@[simp] theorem wantRecord_counters (w : Want) (s : State) : (wantRecord w s).counters = s.counters := rfl
@[simp] theorem wantRecord_cntWindow (w : Want) (s : State) : (wantRecord w s).cntWindow = s.cntWindow := rfl
@[simp] theorem wantRecord_windows (w : Want) (s : State) : (wantRecord w s).windows = s.windows := rfl
@[simp] theorem wantRecord_docket (w : Want) (s : State) : (wantRecord w s).docket = s.docket := rfl
@[simp] theorem wantRecord_dkStore (w : Want) (s : State) : (wantRecord w s).dkStore = s.dkStore := rfl
@[simp] theorem wantRecord_envg (w : Want) (s : State) : (wantRecord w s).envg = s.envg := rfl
@[simp] theorem wantRecord_hdie (w : Want) (s : State) : (wantRecord w s).hdie = s.hdie := rfl
@[simp] theorem wantRecord_link (w : Want) (s : State) : (wantRecord w s).link = s.link := rfl
@[simp] theorem wantRecord_hub (w : Want) (s : State) : (wantRecord w s).hub = s.hub := rfl
@[simp] theorem wantRecord_supply (w : Want) (s : State) : (wantRecord w s).supply = s.supply := rfl
@[simp] theorem wantRecord_ps (w : Want) (s : State) : (wantRecord w s).ps = s.ps := rfl
@[simp] theorem wantRecord_rst (w : Want) (s : State) : (wantRecord w s).rst = s.rst := rfl
@[simp] theorem wantRecord_loader (w : Want) (s : State) : (wantRecord w s).loader = s.loader := rfl
@[simp] theorem wantRecord_optshd (w : Want) (s : State) : (wantRecord w s).optshd = s.optshd := rfl
@[simp] theorem wantRecord_clk (w : Want) (s : State) : (wantRecord w s).clk = s.clk := rfl
@[simp] theorem wantRecord_pix (w : Want) (s : State) : (wantRecord w s).pix = s.pix := rfl
@[simp] theorem wantRecord_video (w : Want) (s : State) : (wantRecord w s).video = s.video := rfl
@[simp] theorem wantRecord_beam (w : Want) (s : State) : (wantRecord w s).beam = s.beam := rfl
@[simp] theorem wantRecord_motors (w : Want) (s : State) : (wantRecord w s).motors = s.motors := rfl
@[simp] theorem wantRecord_rdc (w : Want) (s : State) : (wantRecord w s).rdc = s.rdc := rfl
@[simp] theorem wantRecord_loops (w : Want) (s : State) : (wantRecord w s).loops = s.loops := rfl
@[simp] theorem wantRecord_hv (w : Want) (s : State) : (wantRecord w s).hv = s.hv := rfl
@[simp] theorem wantRecord_fuser (w : Want) (s : State) : (wantRecord w s).fuser = s.fuser := rfl
@[simp] theorem wantRecord_outHold (w : Want) (s : State) : (wantRecord w s).outHold = s.outHold := rfl
@[simp] theorem wantRecord_vregen (w : Want) (s : State) : (wantRecord w s).vregen = s.vregen := rfl
@[simp] theorem wantRecord_sy (w : Want) (s : State) : (wantRecord w s).sy = s.sy := rfl
@[simp] theorem wantRecord_sySnap (w : Want) (s : State) : (wantRecord w s).sySnap = s.sySnap := rfl
@[simp] theorem wantRecord_thrCopy (w : Want) (s : State) : (wantRecord w s).thrCopy = s.thrCopy := rfl
@[simp] theorem wantRecord_adc (w : Want) (s : State) : (wantRecord w s).adc = s.adc := rfl
@[simp] theorem wantRecord_till (w : Want) (s : State) : (wantRecord w s).till = s.till := rfl
@[simp] theorem wantRecord_rtc (w : Want) (s : State) : (wantRecord w s).rtc = s.rtc := rfl
@[simp] theorem wantRecord_devtime (w : Want) (s : State) : (wantRecord w s).devtime = s.devtime := rfl
@[simp] theorem wantRecord_crypto (w : Want) (s : State) : (wantRecord w s).crypto = s.crypto := rfl
@[simp] theorem wantRecord_cluster (w : Want) (s : State) : (wantRecord w s).cluster = s.cluster := rfl
@[simp] theorem wantRecord_fabric (w : Want) (s : State) : (wantRecord w s).fabric = s.fabric := rfl
@[simp] theorem wantRecord_dramc (w : Want) (s : State) : (wantRecord w s).dramc = s.dramc := rfl
@[simp] theorem wantRecord_licApp (w : Want) (s : State) : (wantRecord w s).licApp = s.licApp := rfl
@[simp] theorem wantRecord_licKeep (w : Want) (s : State) : (wantRecord w s).licKeep = s.licKeep := rfl
@[simp] theorem wantRecord_bwApp (w : Want) (s : State) : (wantRecord w s).bwApp = s.bwApp := rfl
@[simp] theorem wantRecord_bwKeep (w : Want) (s : State) : (wantRecord w s).bwKeep = s.bwKeep := rfl
@[simp] theorem wantRecord_gpio (w : Want) (s : State) : (wantRecord w s).gpio = s.gpio := rfl
@[simp] theorem wantRecord_pincfg (w : Want) (s : State) : (wantRecord w s).pincfg = s.pincfg := rfl
@[simp] theorem wantRecord_spim (w : Want) (s : State) : (wantRecord w s).spim = s.spim := rfl
@[simp] theorem wantRecord_hspi (w : Want) (s : State) : (wantRecord w s).hspi = s.hspi := rfl
@[simp] theorem wantRecord_eth (w : Want) (s : State) : (wantRecord w s).eth = s.eth := rfl
@[simp] theorem wantRecord_xspi (w : Want) (s : State) : (wantRecord w s).xspi = s.xspi := rfl
@[simp] theorem wantRecord_sys (w : Want) (s : State) : (wantRecord w s).sys = s.sys := rfl
@[simp] theorem wantRecord_dbg (w : Want) (s : State) : (wantRecord w s).dbg = s.dbg := rfl
@[simp] theorem wantRecord_hold (w : Want) (s : State) : (wantRecord w s).hold = s.hold := rfl
@[simp] theorem wantRecord_mem (w : Want) (s : State) : (wantRecord w s).mem = s.mem := rfl
@[simp] theorem wantRecord_tickPhase (w : Want) (s : State) : (wantRecord w s).tickPhase = s.tickPhase := rfl
@[simp] theorem wantRecord_ao32Acc (w : Want) (s : State) : (wantRecord w s).ao32Acc = s.ao32Acc := rfl
@[simp] theorem wantRecord_freeCtr (w : Want) (s : State) : (wantRecord w s).freeCtr = s.freeCtr := rfl
@[simp] theorem wantRecord_pending (w : Want) (s : State) : (wantRecord w s).pending = s.pending := rfl

/-! ## bwSet -/

@[simp] theorem bwSet_counters (app : Bool) (b : Barrow) (s : State) : (bwSet app b s).counters = s.counters :=
  by cases app <;> rfl
@[simp] theorem bwSet_cntWindow (app : Bool) (b : Barrow) (s : State) : (bwSet app b s).cntWindow = s.cntWindow :=
  by cases app <;> rfl
@[simp] theorem bwSet_windows (app : Bool) (b : Barrow) (s : State) : (bwSet app b s).windows = s.windows :=
  by cases app <;> rfl
@[simp] theorem bwSet_docket (app : Bool) (b : Barrow) (s : State) : (bwSet app b s).docket = s.docket :=
  by cases app <;> rfl
@[simp] theorem bwSet_dkStore (app : Bool) (b : Barrow) (s : State) : (bwSet app b s).dkStore = s.dkStore :=
  by cases app <;> rfl
@[simp] theorem bwSet_sinov (app : Bool) (b : Barrow) (s : State) : (bwSet app b s).sinov = s.sinov :=
  by cases app <;> rfl
@[simp] theorem bwSet_envg (app : Bool) (b : Barrow) (s : State) : (bwSet app b s).envg = s.envg :=
  by cases app <;> rfl
@[simp] theorem bwSet_hdie (app : Bool) (b : Barrow) (s : State) : (bwSet app b s).hdie = s.hdie :=
  by cases app <;> rfl
@[simp] theorem bwSet_link (app : Bool) (b : Barrow) (s : State) : (bwSet app b s).link = s.link :=
  by cases app <;> rfl
@[simp] theorem bwSet_hub (app : Bool) (b : Barrow) (s : State) : (bwSet app b s).hub = s.hub := by cases app <;> rfl
@[simp] theorem bwSet_supply (app : Bool) (b : Barrow) (s : State) : (bwSet app b s).supply = s.supply :=
  by cases app <;> rfl
@[simp] theorem bwSet_ps (app : Bool) (b : Barrow) (s : State) : (bwSet app b s).ps = s.ps := by cases app <;> rfl
@[simp] theorem bwSet_rst (app : Bool) (b : Barrow) (s : State) : (bwSet app b s).rst = s.rst := by cases app <;> rfl
@[simp] theorem bwSet_loader (app : Bool) (b : Barrow) (s : State) : (bwSet app b s).loader = s.loader :=
  by cases app <;> rfl
@[simp] theorem bwSet_optshd (app : Bool) (b : Barrow) (s : State) : (bwSet app b s).optshd = s.optshd :=
  by cases app <;> rfl
@[simp] theorem bwSet_clk (app : Bool) (b : Barrow) (s : State) : (bwSet app b s).clk = s.clk := by cases app <;> rfl
@[simp] theorem bwSet_pix (app : Bool) (b : Barrow) (s : State) : (bwSet app b s).pix = s.pix := by cases app <;> rfl
@[simp] theorem bwSet_video (app : Bool) (b : Barrow) (s : State) : (bwSet app b s).video = s.video :=
  by cases app <;> rfl
@[simp] theorem bwSet_beam (app : Bool) (b : Barrow) (s : State) : (bwSet app b s).beam = s.beam :=
  by cases app <;> rfl
@[simp] theorem bwSet_motors (app : Bool) (b : Barrow) (s : State) : (bwSet app b s).motors = s.motors :=
  by cases app <;> rfl
@[simp] theorem bwSet_rdc (app : Bool) (b : Barrow) (s : State) : (bwSet app b s).rdc = s.rdc := by cases app <;> rfl
@[simp] theorem bwSet_loops (app : Bool) (b : Barrow) (s : State) : (bwSet app b s).loops = s.loops :=
  by cases app <;> rfl
@[simp] theorem bwSet_hv (app : Bool) (b : Barrow) (s : State) : (bwSet app b s).hv = s.hv := by cases app <;> rfl
@[simp] theorem bwSet_fuser (app : Bool) (b : Barrow) (s : State) : (bwSet app b s).fuser = s.fuser :=
  by cases app <;> rfl
@[simp] theorem bwSet_outHold (app : Bool) (b : Barrow) (s : State) : (bwSet app b s).outHold = s.outHold :=
  by cases app <;> rfl
@[simp] theorem bwSet_vregen (app : Bool) (b : Barrow) (s : State) : (bwSet app b s).vregen = s.vregen :=
  by cases app <;> rfl
@[simp] theorem bwSet_sy (app : Bool) (b : Barrow) (s : State) : (bwSet app b s).sy = s.sy := by cases app <;> rfl
@[simp] theorem bwSet_sySnap (app : Bool) (b : Barrow) (s : State) : (bwSet app b s).sySnap = s.sySnap :=
  by cases app <;> rfl
@[simp] theorem bwSet_thrCopy (app : Bool) (b : Barrow) (s : State) : (bwSet app b s).thrCopy = s.thrCopy :=
  by cases app <;> rfl
@[simp] theorem bwSet_adc (app : Bool) (b : Barrow) (s : State) : (bwSet app b s).adc = s.adc := by cases app <;> rfl
@[simp] theorem bwSet_till (app : Bool) (b : Barrow) (s : State) : (bwSet app b s).till = s.till :=
  by cases app <;> rfl
@[simp] theorem bwSet_rtc (app : Bool) (b : Barrow) (s : State) : (bwSet app b s).rtc = s.rtc := by cases app <;> rfl
@[simp] theorem bwSet_devtime (app : Bool) (b : Barrow) (s : State) : (bwSet app b s).devtime = s.devtime :=
  by cases app <;> rfl
@[simp] theorem bwSet_crypto (app : Bool) (b : Barrow) (s : State) : (bwSet app b s).crypto = s.crypto :=
  by cases app <;> rfl
@[simp] theorem bwSet_cluster (app : Bool) (b : Barrow) (s : State) : (bwSet app b s).cluster = s.cluster :=
  by cases app <;> rfl
@[simp] theorem bwSet_fabric (app : Bool) (b : Barrow) (s : State) : (bwSet app b s).fabric = s.fabric :=
  by cases app <;> rfl
@[simp] theorem bwSet_dramc (app : Bool) (b : Barrow) (s : State) : (bwSet app b s).dramc = s.dramc :=
  by cases app <;> rfl
@[simp] theorem bwSet_licApp (app : Bool) (b : Barrow) (s : State) : (bwSet app b s).licApp = s.licApp :=
  by cases app <;> rfl
@[simp] theorem bwSet_licKeep (app : Bool) (b : Barrow) (s : State) : (bwSet app b s).licKeep = s.licKeep :=
  by cases app <;> rfl
@[simp] theorem bwSet_gpio (app : Bool) (b : Barrow) (s : State) : (bwSet app b s).gpio = s.gpio :=
  by cases app <;> rfl
@[simp] theorem bwSet_pincfg (app : Bool) (b : Barrow) (s : State) : (bwSet app b s).pincfg = s.pincfg :=
  by cases app <;> rfl
@[simp] theorem bwSet_spim (app : Bool) (b : Barrow) (s : State) : (bwSet app b s).spim = s.spim :=
  by cases app <;> rfl
@[simp] theorem bwSet_hspi (app : Bool) (b : Barrow) (s : State) : (bwSet app b s).hspi = s.hspi :=
  by cases app <;> rfl
@[simp] theorem bwSet_eth (app : Bool) (b : Barrow) (s : State) : (bwSet app b s).eth = s.eth := by cases app <;> rfl
@[simp] theorem bwSet_xspi (app : Bool) (b : Barrow) (s : State) : (bwSet app b s).xspi = s.xspi :=
  by cases app <;> rfl
@[simp] theorem bwSet_sys (app : Bool) (b : Barrow) (s : State) : (bwSet app b s).sys = s.sys := by cases app <;> rfl
@[simp] theorem bwSet_dbg (app : Bool) (b : Barrow) (s : State) : (bwSet app b s).dbg = s.dbg :=
  by cases app <;> rfl
@[simp] theorem bwSet_hold (app : Bool) (b : Barrow) (s : State) : (bwSet app b s).hold = s.hold :=
  by cases app <;> rfl
@[simp] theorem bwSet_mem (app : Bool) (b : Barrow) (s : State) : (bwSet app b s).mem = s.mem := by cases app <;> rfl
@[simp] theorem bwSet_tickPhase (app : Bool) (b : Barrow) (s : State) : (bwSet app b s).tickPhase = s.tickPhase :=
  by cases app <;> rfl
@[simp] theorem bwSet_ao32Acc (app : Bool) (b : Barrow) (s : State) : (bwSet app b s).ao32Acc = s.ao32Acc :=
  by cases app <;> rfl
@[simp] theorem bwSet_freeCtr (app : Bool) (b : Barrow) (s : State) : (bwSet app b s).freeCtr = s.freeCtr :=
  by cases app <;> rfl
@[simp] theorem bwSet_pending (app : Bool) (b : Barrow) (s : State) : (bwSet app b s).pending = s.pending :=
  by cases app <;> rfl

/-! ## licSet -/

@[simp] theorem licSet_counters (app : Bool) (l : Lic) (s : State) : (licSet app l s).counters = s.counters :=
  by cases app <;> rfl
@[simp] theorem licSet_cntWindow (app : Bool) (l : Lic) (s : State) : (licSet app l s).cntWindow = s.cntWindow :=
  by cases app <;> rfl
@[simp] theorem licSet_windows (app : Bool) (l : Lic) (s : State) : (licSet app l s).windows = s.windows :=
  by cases app <;> rfl
@[simp] theorem licSet_docket (app : Bool) (l : Lic) (s : State) : (licSet app l s).docket = s.docket :=
  by cases app <;> rfl
@[simp] theorem licSet_dkStore (app : Bool) (l : Lic) (s : State) : (licSet app l s).dkStore = s.dkStore :=
  by cases app <;> rfl
@[simp] theorem licSet_sinov (app : Bool) (l : Lic) (s : State) : (licSet app l s).sinov = s.sinov :=
  by cases app <;> rfl
@[simp] theorem licSet_envg (app : Bool) (l : Lic) (s : State) : (licSet app l s).envg = s.envg :=
  by cases app <;> rfl
@[simp] theorem licSet_hdie (app : Bool) (l : Lic) (s : State) : (licSet app l s).hdie = s.hdie :=
  by cases app <;> rfl
@[simp] theorem licSet_link (app : Bool) (l : Lic) (s : State) : (licSet app l s).link = s.link :=
  by cases app <;> rfl
@[simp] theorem licSet_hub (app : Bool) (l : Lic) (s : State) : (licSet app l s).hub = s.hub := by cases app <;> rfl
@[simp] theorem licSet_supply (app : Bool) (l : Lic) (s : State) : (licSet app l s).supply = s.supply :=
  by cases app <;> rfl
@[simp] theorem licSet_ps (app : Bool) (l : Lic) (s : State) : (licSet app l s).ps = s.ps := by cases app <;> rfl
@[simp] theorem licSet_rst (app : Bool) (l : Lic) (s : State) : (licSet app l s).rst = s.rst := by cases app <;> rfl
@[simp] theorem licSet_loader (app : Bool) (l : Lic) (s : State) : (licSet app l s).loader = s.loader :=
  by cases app <;> rfl
@[simp] theorem licSet_optshd (app : Bool) (l : Lic) (s : State) : (licSet app l s).optshd = s.optshd :=
  by cases app <;> rfl
@[simp] theorem licSet_clk (app : Bool) (l : Lic) (s : State) : (licSet app l s).clk = s.clk := by cases app <;> rfl
@[simp] theorem licSet_pix (app : Bool) (l : Lic) (s : State) : (licSet app l s).pix = s.pix := by cases app <;> rfl
@[simp] theorem licSet_video (app : Bool) (l : Lic) (s : State) : (licSet app l s).video = s.video :=
  by cases app <;> rfl
@[simp] theorem licSet_beam (app : Bool) (l : Lic) (s : State) : (licSet app l s).beam = s.beam :=
  by cases app <;> rfl
@[simp] theorem licSet_motors (app : Bool) (l : Lic) (s : State) : (licSet app l s).motors = s.motors :=
  by cases app <;> rfl
@[simp] theorem licSet_rdc (app : Bool) (l : Lic) (s : State) : (licSet app l s).rdc = s.rdc := by cases app <;> rfl
@[simp] theorem licSet_loops (app : Bool) (l : Lic) (s : State) : (licSet app l s).loops = s.loops :=
  by cases app <;> rfl
@[simp] theorem licSet_hv (app : Bool) (l : Lic) (s : State) : (licSet app l s).hv = s.hv := by cases app <;> rfl
@[simp] theorem licSet_fuser (app : Bool) (l : Lic) (s : State) : (licSet app l s).fuser = s.fuser :=
  by cases app <;> rfl
@[simp] theorem licSet_outHold (app : Bool) (l : Lic) (s : State) : (licSet app l s).outHold = s.outHold :=
  by cases app <;> rfl
@[simp] theorem licSet_vregen (app : Bool) (l : Lic) (s : State) : (licSet app l s).vregen = s.vregen :=
  by cases app <;> rfl
@[simp] theorem licSet_sy (app : Bool) (l : Lic) (s : State) : (licSet app l s).sy = s.sy := by cases app <;> rfl
@[simp] theorem licSet_sySnap (app : Bool) (l : Lic) (s : State) : (licSet app l s).sySnap = s.sySnap :=
  by cases app <;> rfl
@[simp] theorem licSet_thrCopy (app : Bool) (l : Lic) (s : State) : (licSet app l s).thrCopy = s.thrCopy :=
  by cases app <;> rfl
@[simp] theorem licSet_adc (app : Bool) (l : Lic) (s : State) : (licSet app l s).adc = s.adc := by cases app <;> rfl
@[simp] theorem licSet_till (app : Bool) (l : Lic) (s : State) : (licSet app l s).till = s.till :=
  by cases app <;> rfl
@[simp] theorem licSet_rtc (app : Bool) (l : Lic) (s : State) : (licSet app l s).rtc = s.rtc := by cases app <;> rfl
@[simp] theorem licSet_devtime (app : Bool) (l : Lic) (s : State) : (licSet app l s).devtime = s.devtime :=
  by cases app <;> rfl
@[simp] theorem licSet_crypto (app : Bool) (l : Lic) (s : State) : (licSet app l s).crypto = s.crypto :=
  by cases app <;> rfl
@[simp] theorem licSet_cluster (app : Bool) (l : Lic) (s : State) : (licSet app l s).cluster = s.cluster :=
  by cases app <;> rfl
@[simp] theorem licSet_fabric (app : Bool) (l : Lic) (s : State) : (licSet app l s).fabric = s.fabric :=
  by cases app <;> rfl
@[simp] theorem licSet_dramc (app : Bool) (l : Lic) (s : State) : (licSet app l s).dramc = s.dramc :=
  by cases app <;> rfl
@[simp] theorem licSet_bwApp (app : Bool) (l : Lic) (s : State) : (licSet app l s).bwApp = s.bwApp :=
  by cases app <;> rfl
@[simp] theorem licSet_bwKeep (app : Bool) (l : Lic) (s : State) : (licSet app l s).bwKeep = s.bwKeep :=
  by cases app <;> rfl
@[simp] theorem licSet_gpio (app : Bool) (l : Lic) (s : State) : (licSet app l s).gpio = s.gpio :=
  by cases app <;> rfl
@[simp] theorem licSet_pincfg (app : Bool) (l : Lic) (s : State) : (licSet app l s).pincfg = s.pincfg :=
  by cases app <;> rfl
@[simp] theorem licSet_spim (app : Bool) (l : Lic) (s : State) : (licSet app l s).spim = s.spim :=
  by cases app <;> rfl
@[simp] theorem licSet_hspi (app : Bool) (l : Lic) (s : State) : (licSet app l s).hspi = s.hspi :=
  by cases app <;> rfl
@[simp] theorem licSet_eth (app : Bool) (l : Lic) (s : State) : (licSet app l s).eth = s.eth := by cases app <;> rfl
@[simp] theorem licSet_xspi (app : Bool) (l : Lic) (s : State) : (licSet app l s).xspi = s.xspi :=
  by cases app <;> rfl
@[simp] theorem licSet_sys (app : Bool) (l : Lic) (s : State) : (licSet app l s).sys = s.sys := by cases app <;> rfl
@[simp] theorem licSet_dbg (app : Bool) (l : Lic) (s : State) : (licSet app l s).dbg = s.dbg :=
  by cases app <;> rfl
@[simp] theorem licSet_hold (app : Bool) (l : Lic) (s : State) : (licSet app l s).hold = s.hold :=
  by cases app <;> rfl
@[simp] theorem licSet_mem (app : Bool) (l : Lic) (s : State) : (licSet app l s).mem = s.mem := by cases app <;> rfl
@[simp] theorem licSet_tickPhase (app : Bool) (l : Lic) (s : State) : (licSet app l s).tickPhase = s.tickPhase :=
  by cases app <;> rfl
@[simp] theorem licSet_ao32Acc (app : Bool) (l : Lic) (s : State) : (licSet app l s).ao32Acc = s.ao32Acc :=
  by cases app <;> rfl
@[simp] theorem licSet_freeCtr (app : Bool) (l : Lic) (s : State) : (licSet app l s).freeCtr = s.freeCtr :=
  by cases app <;> rfl
@[simp] theorem licSet_pending (app : Bool) (l : Lic) (s : State) : (licSet app l s).pending = s.pending :=
  by cases app <;> rfl

/-! ## answerWith -/

@[simp] theorem answerWith_cntWindow (n : Fin 8) (st : Status) (g : BitVec 16) (p : List Byte) (s : State) : (answerWith n st g p s).cntWindow = s.cntWindow :=
  rfl
@[simp] theorem answerWith_windows (n : Fin 8) (st : Status) (g : BitVec 16) (p : List Byte) (s : State) : (answerWith n st g p s).windows = s.windows :=
  rfl
@[simp] theorem answerWith_docket (n : Fin 8) (st : Status) (g : BitVec 16) (p : List Byte) (s : State) : (answerWith n st g p s).docket = s.docket :=
  rfl
@[simp] theorem answerWith_dkStore (n : Fin 8) (st : Status) (g : BitVec 16) (p : List Byte) (s : State) : (answerWith n st g p s).dkStore = s.dkStore :=
  rfl
@[simp] theorem answerWith_sinov (n : Fin 8) (st : Status) (g : BitVec 16) (p : List Byte) (s : State) : (answerWith n st g p s).sinov = s.sinov :=
  rfl
@[simp] theorem answerWith_envg (n : Fin 8) (st : Status) (g : BitVec 16) (p : List Byte) (s : State) : (answerWith n st g p s).envg = s.envg :=
  rfl
@[simp] theorem answerWith_hdie (n : Fin 8) (st : Status) (g : BitVec 16) (p : List Byte) (s : State) : (answerWith n st g p s).hdie = s.hdie :=
  rfl
@[simp] theorem answerWith_link (n : Fin 8) (st : Status) (g : BitVec 16) (p : List Byte) (s : State) : (answerWith n st g p s).link = s.link :=
  rfl
@[simp] theorem answerWith_hub (n : Fin 8) (st : Status) (g : BitVec 16) (p : List Byte) (s : State) : (answerWith n st g p s).hub = s.hub :=
  rfl
@[simp] theorem answerWith_supply (n : Fin 8) (st : Status) (g : BitVec 16) (p : List Byte) (s : State) : (answerWith n st g p s).supply = s.supply :=
  rfl
@[simp] theorem answerWith_ps (n : Fin 8) (st : Status) (g : BitVec 16) (p : List Byte) (s : State) : (answerWith n st g p s).ps = s.ps :=
  rfl
@[simp] theorem answerWith_rst (n : Fin 8) (st : Status) (g : BitVec 16) (p : List Byte) (s : State) : (answerWith n st g p s).rst = s.rst :=
  rfl
@[simp] theorem answerWith_loader (n : Fin 8) (st : Status) (g : BitVec 16) (p : List Byte) (s : State) : (answerWith n st g p s).loader = s.loader :=
  rfl
@[simp] theorem answerWith_optshd (n : Fin 8) (st : Status) (g : BitVec 16) (p : List Byte) (s : State) : (answerWith n st g p s).optshd = s.optshd :=
  rfl
@[simp] theorem answerWith_clk (n : Fin 8) (st : Status) (g : BitVec 16) (p : List Byte) (s : State) : (answerWith n st g p s).clk = s.clk :=
  rfl
@[simp] theorem answerWith_pix (n : Fin 8) (st : Status) (g : BitVec 16) (p : List Byte) (s : State) : (answerWith n st g p s).pix = s.pix :=
  rfl
@[simp] theorem answerWith_video (n : Fin 8) (st : Status) (g : BitVec 16) (p : List Byte) (s : State) : (answerWith n st g p s).video = s.video :=
  rfl
@[simp] theorem answerWith_beam (n : Fin 8) (st : Status) (g : BitVec 16) (p : List Byte) (s : State) : (answerWith n st g p s).beam = s.beam :=
  rfl
@[simp] theorem answerWith_motors (n : Fin 8) (st : Status) (g : BitVec 16) (p : List Byte) (s : State) : (answerWith n st g p s).motors = s.motors :=
  rfl
@[simp] theorem answerWith_rdc (n : Fin 8) (st : Status) (g : BitVec 16) (p : List Byte) (s : State) : (answerWith n st g p s).rdc = s.rdc :=
  rfl
@[simp] theorem answerWith_loops (n : Fin 8) (st : Status) (g : BitVec 16) (p : List Byte) (s : State) : (answerWith n st g p s).loops = s.loops :=
  rfl
@[simp] theorem answerWith_hv (n : Fin 8) (st : Status) (g : BitVec 16) (p : List Byte) (s : State) : (answerWith n st g p s).hv = s.hv :=
  rfl
@[simp] theorem answerWith_fuser (n : Fin 8) (st : Status) (g : BitVec 16) (p : List Byte) (s : State) : (answerWith n st g p s).fuser = s.fuser :=
  rfl
@[simp] theorem answerWith_outHold (n : Fin 8) (st : Status) (g : BitVec 16) (p : List Byte) (s : State) : (answerWith n st g p s).outHold = s.outHold :=
  rfl
@[simp] theorem answerWith_vregen (n : Fin 8) (st : Status) (g : BitVec 16) (p : List Byte) (s : State) : (answerWith n st g p s).vregen = s.vregen :=
  rfl
@[simp] theorem answerWith_sy (n : Fin 8) (st : Status) (g : BitVec 16) (p : List Byte) (s : State) : (answerWith n st g p s).sy = s.sy :=
  rfl
@[simp] theorem answerWith_sySnap (n : Fin 8) (st : Status) (g : BitVec 16) (p : List Byte) (s : State) : (answerWith n st g p s).sySnap = s.sySnap :=
  rfl
@[simp] theorem answerWith_thrCopy (n : Fin 8) (st : Status) (g : BitVec 16) (p : List Byte) (s : State) : (answerWith n st g p s).thrCopy = s.thrCopy :=
  rfl
@[simp] theorem answerWith_adc (n : Fin 8) (st : Status) (g : BitVec 16) (p : List Byte) (s : State) : (answerWith n st g p s).adc = s.adc :=
  rfl
@[simp] theorem answerWith_till (n : Fin 8) (st : Status) (g : BitVec 16) (p : List Byte) (s : State) : (answerWith n st g p s).till = s.till :=
  rfl
@[simp] theorem answerWith_rtc (n : Fin 8) (st : Status) (g : BitVec 16) (p : List Byte) (s : State) : (answerWith n st g p s).rtc = s.rtc :=
  rfl
@[simp] theorem answerWith_devtime (n : Fin 8) (st : Status) (g : BitVec 16) (p : List Byte) (s : State) : (answerWith n st g p s).devtime = s.devtime :=
  rfl
@[simp] theorem answerWith_crypto (n : Fin 8) (st : Status) (g : BitVec 16) (p : List Byte) (s : State) : (answerWith n st g p s).crypto = s.crypto :=
  rfl
@[simp] theorem answerWith_cluster (n : Fin 8) (st : Status) (g : BitVec 16) (p : List Byte) (s : State) : (answerWith n st g p s).cluster = s.cluster :=
  rfl
@[simp] theorem answerWith_fabric (n : Fin 8) (st : Status) (g : BitVec 16) (p : List Byte) (s : State) : (answerWith n st g p s).fabric = s.fabric :=
  rfl
@[simp] theorem answerWith_dramc (n : Fin 8) (st : Status) (g : BitVec 16) (p : List Byte) (s : State) : (answerWith n st g p s).dramc = s.dramc :=
  rfl
@[simp] theorem answerWith_licApp (n : Fin 8) (st : Status) (g : BitVec 16) (p : List Byte) (s : State) : (answerWith n st g p s).licApp = s.licApp :=
  rfl
@[simp] theorem answerWith_licKeep (n : Fin 8) (st : Status) (g : BitVec 16) (p : List Byte) (s : State) : (answerWith n st g p s).licKeep = s.licKeep :=
  rfl
@[simp] theorem answerWith_bwApp (n : Fin 8) (st : Status) (g : BitVec 16) (p : List Byte) (s : State) : (answerWith n st g p s).bwApp = s.bwApp :=
  rfl
@[simp] theorem answerWith_bwKeep (n : Fin 8) (st : Status) (g : BitVec 16) (p : List Byte) (s : State) : (answerWith n st g p s).bwKeep = s.bwKeep :=
  rfl
@[simp] theorem answerWith_gpio (n : Fin 8) (st : Status) (g : BitVec 16) (p : List Byte) (s : State) : (answerWith n st g p s).gpio = s.gpio :=
  rfl
@[simp] theorem answerWith_pincfg (n : Fin 8) (st : Status) (g : BitVec 16) (p : List Byte) (s : State) : (answerWith n st g p s).pincfg = s.pincfg :=
  rfl
@[simp] theorem answerWith_spim (n : Fin 8) (st : Status) (g : BitVec 16) (p : List Byte) (s : State) : (answerWith n st g p s).spim = s.spim :=
  rfl
@[simp] theorem answerWith_hspi (n : Fin 8) (st : Status) (g : BitVec 16) (p : List Byte) (s : State) : (answerWith n st g p s).hspi = s.hspi :=
  rfl
@[simp] theorem answerWith_eth (n : Fin 8) (st : Status) (g : BitVec 16) (p : List Byte) (s : State) : (answerWith n st g p s).eth = s.eth :=
  rfl
@[simp] theorem answerWith_xspi (n : Fin 8) (st : Status) (g : BitVec 16) (p : List Byte) (s : State) : (answerWith n st g p s).xspi = s.xspi :=
  rfl
@[simp] theorem answerWith_sys (n : Fin 8) (st : Status) (g : BitVec 16) (p : List Byte) (s : State) : (answerWith n st g p s).sys = s.sys :=
  rfl
@[simp] theorem answerWith_dbg (n : Fin 8) (st : Status) (g : BitVec 16) (p : List Byte) (s : State) : (answerWith n st g p s).dbg = s.dbg :=
  rfl
@[simp] theorem answerWith_hold (n : Fin 8) (st : Status) (g : BitVec 16) (p : List Byte) (s : State) : (answerWith n st g p s).hold = s.hold :=
  rfl
@[simp] theorem answerWith_mem (n : Fin 8) (st : Status) (g : BitVec 16) (p : List Byte) (s : State) : (answerWith n st g p s).mem = s.mem :=
  rfl
@[simp] theorem answerWith_tickPhase (n : Fin 8) (st : Status) (g : BitVec 16) (p : List Byte) (s : State) : (answerWith n st g p s).tickPhase = s.tickPhase :=
  rfl
@[simp] theorem answerWith_ao32Acc (n : Fin 8) (st : Status) (g : BitVec 16) (p : List Byte) (s : State) : (answerWith n st g p s).ao32Acc = s.ao32Acc :=
  rfl
@[simp] theorem answerWith_freeCtr (n : Fin 8) (st : Status) (g : BitVec 16) (p : List Byte) (s : State) : (answerWith n st g p s).freeCtr = s.freeCtr :=
  rfl
@[simp] theorem answerWith_pending (n : Fin 8) (st : Status) (g : BitVec 16) (p : List Byte) (s : State) : (answerWith n st g p s).pending = s.pending :=
  rfl

/-! ## memPut -/

@[simp] theorem memPut_counters (s : State) (a : Nat) (bs : List Byte) : (memPut s a bs).counters = s.counters := rfl
@[simp] theorem memPut_cntWindow (s : State) (a : Nat) (bs : List Byte) : (memPut s a bs).cntWindow = s.cntWindow := rfl
@[simp] theorem memPut_windows (s : State) (a : Nat) (bs : List Byte) : (memPut s a bs).windows = s.windows := rfl
@[simp] theorem memPut_docket (s : State) (a : Nat) (bs : List Byte) : (memPut s a bs).docket = s.docket := rfl
@[simp] theorem memPut_dkStore (s : State) (a : Nat) (bs : List Byte) : (memPut s a bs).dkStore = s.dkStore := rfl
@[simp] theorem memPut_sinov (s : State) (a : Nat) (bs : List Byte) : (memPut s a bs).sinov = s.sinov := rfl
@[simp] theorem memPut_envg (s : State) (a : Nat) (bs : List Byte) : (memPut s a bs).envg = s.envg := rfl
@[simp] theorem memPut_hdie (s : State) (a : Nat) (bs : List Byte) : (memPut s a bs).hdie = s.hdie := rfl
@[simp] theorem memPut_link (s : State) (a : Nat) (bs : List Byte) : (memPut s a bs).link = s.link := rfl
@[simp] theorem memPut_hub (s : State) (a : Nat) (bs : List Byte) : (memPut s a bs).hub = s.hub := rfl
@[simp] theorem memPut_supply (s : State) (a : Nat) (bs : List Byte) : (memPut s a bs).supply = s.supply := rfl
@[simp] theorem memPut_ps (s : State) (a : Nat) (bs : List Byte) : (memPut s a bs).ps = s.ps := rfl
@[simp] theorem memPut_rst (s : State) (a : Nat) (bs : List Byte) : (memPut s a bs).rst = s.rst := rfl
@[simp] theorem memPut_loader (s : State) (a : Nat) (bs : List Byte) : (memPut s a bs).loader = s.loader := rfl
@[simp] theorem memPut_optshd (s : State) (a : Nat) (bs : List Byte) : (memPut s a bs).optshd = s.optshd := rfl
@[simp] theorem memPut_clk (s : State) (a : Nat) (bs : List Byte) : (memPut s a bs).clk = s.clk := rfl
@[simp] theorem memPut_pix (s : State) (a : Nat) (bs : List Byte) : (memPut s a bs).pix = s.pix := rfl
@[simp] theorem memPut_video (s : State) (a : Nat) (bs : List Byte) : (memPut s a bs).video = s.video := rfl
@[simp] theorem memPut_beam (s : State) (a : Nat) (bs : List Byte) : (memPut s a bs).beam = s.beam := rfl
@[simp] theorem memPut_motors (s : State) (a : Nat) (bs : List Byte) : (memPut s a bs).motors = s.motors := rfl
@[simp] theorem memPut_rdc (s : State) (a : Nat) (bs : List Byte) : (memPut s a bs).rdc = s.rdc := rfl
@[simp] theorem memPut_loops (s : State) (a : Nat) (bs : List Byte) : (memPut s a bs).loops = s.loops := rfl
@[simp] theorem memPut_hv (s : State) (a : Nat) (bs : List Byte) : (memPut s a bs).hv = s.hv := rfl
@[simp] theorem memPut_fuser (s : State) (a : Nat) (bs : List Byte) : (memPut s a bs).fuser = s.fuser := rfl
@[simp] theorem memPut_outHold (s : State) (a : Nat) (bs : List Byte) : (memPut s a bs).outHold = s.outHold := rfl
@[simp] theorem memPut_vregen (s : State) (a : Nat) (bs : List Byte) : (memPut s a bs).vregen = s.vregen := rfl
@[simp] theorem memPut_sy (s : State) (a : Nat) (bs : List Byte) : (memPut s a bs).sy = s.sy := rfl
@[simp] theorem memPut_sySnap (s : State) (a : Nat) (bs : List Byte) : (memPut s a bs).sySnap = s.sySnap := rfl
@[simp] theorem memPut_thrCopy (s : State) (a : Nat) (bs : List Byte) : (memPut s a bs).thrCopy = s.thrCopy := rfl
@[simp] theorem memPut_adc (s : State) (a : Nat) (bs : List Byte) : (memPut s a bs).adc = s.adc := rfl
@[simp] theorem memPut_till (s : State) (a : Nat) (bs : List Byte) : (memPut s a bs).till = s.till := rfl
@[simp] theorem memPut_rtc (s : State) (a : Nat) (bs : List Byte) : (memPut s a bs).rtc = s.rtc := rfl
@[simp] theorem memPut_devtime (s : State) (a : Nat) (bs : List Byte) : (memPut s a bs).devtime = s.devtime := rfl
@[simp] theorem memPut_crypto (s : State) (a : Nat) (bs : List Byte) : (memPut s a bs).crypto = s.crypto := rfl
@[simp] theorem memPut_cluster (s : State) (a : Nat) (bs : List Byte) : (memPut s a bs).cluster = s.cluster := rfl
@[simp] theorem memPut_fabric (s : State) (a : Nat) (bs : List Byte) : (memPut s a bs).fabric = s.fabric := rfl
@[simp] theorem memPut_dramc (s : State) (a : Nat) (bs : List Byte) : (memPut s a bs).dramc = s.dramc := rfl
@[simp] theorem memPut_licApp (s : State) (a : Nat) (bs : List Byte) : (memPut s a bs).licApp = s.licApp := rfl
@[simp] theorem memPut_licKeep (s : State) (a : Nat) (bs : List Byte) : (memPut s a bs).licKeep = s.licKeep := rfl
@[simp] theorem memPut_bwApp (s : State) (a : Nat) (bs : List Byte) : (memPut s a bs).bwApp = s.bwApp := rfl
@[simp] theorem memPut_bwKeep (s : State) (a : Nat) (bs : List Byte) : (memPut s a bs).bwKeep = s.bwKeep := rfl
@[simp] theorem memPut_gpio (s : State) (a : Nat) (bs : List Byte) : (memPut s a bs).gpio = s.gpio := rfl
@[simp] theorem memPut_pincfg (s : State) (a : Nat) (bs : List Byte) : (memPut s a bs).pincfg = s.pincfg := rfl
@[simp] theorem memPut_spim (s : State) (a : Nat) (bs : List Byte) : (memPut s a bs).spim = s.spim := rfl
@[simp] theorem memPut_hspi (s : State) (a : Nat) (bs : List Byte) : (memPut s a bs).hspi = s.hspi := rfl
@[simp] theorem memPut_eth (s : State) (a : Nat) (bs : List Byte) : (memPut s a bs).eth = s.eth := rfl
@[simp] theorem memPut_xspi (s : State) (a : Nat) (bs : List Byte) : (memPut s a bs).xspi = s.xspi := rfl
@[simp] theorem memPut_sys (s : State) (a : Nat) (bs : List Byte) : (memPut s a bs).sys = s.sys := rfl
@[simp] theorem memPut_dbg (s : State) (a : Nat) (bs : List Byte) : (memPut s a bs).dbg = s.dbg := rfl
@[simp] theorem memPut_hold (s : State) (a : Nat) (bs : List Byte) : (memPut s a bs).hold = s.hold := rfl
@[simp] theorem memPut_tickPhase (s : State) (a : Nat) (bs : List Byte) : (memPut s a bs).tickPhase = s.tickPhase := rfl
@[simp] theorem memPut_ao32Acc (s : State) (a : Nat) (bs : List Byte) : (memPut s a bs).ao32Acc = s.ao32Acc := rfl
@[simp] theorem memPut_freeCtr (s : State) (a : Nat) (bs : List Byte) : (memPut s a bs).freeCtr = s.freeCtr := rfl
@[simp] theorem memPut_pending (s : State) (a : Nat) (bs : List Byte) : (memPut s a bs).pending = s.pending := rfl

/-! ## Falls -/

@[simp] theorem Falls_counters (x : Byte) (s : State) : (Falls x s).counters = s.counters := rfl
@[simp] theorem Falls_cntWindow (x : Byte) (s : State) : (Falls x s).cntWindow = s.cntWindow := rfl
@[simp] theorem Falls_windows (x : Byte) (s : State) : (Falls x s).windows = s.windows := rfl
@[simp] theorem Falls_docket (x : Byte) (s : State) : (Falls x s).docket = s.docket := rfl
@[simp] theorem Falls_dkStore (x : Byte) (s : State) : (Falls x s).dkStore = s.dkStore := rfl
@[simp] theorem Falls_sinov (x : Byte) (s : State) : (Falls x s).sinov = s.sinov := rfl
@[simp] theorem Falls_envg (x : Byte) (s : State) : (Falls x s).envg = s.envg := rfl
@[simp] theorem Falls_hdie (x : Byte) (s : State) : (Falls x s).hdie = s.hdie := rfl
@[simp] theorem Falls_link (x : Byte) (s : State) : (Falls x s).link = s.link := rfl
@[simp] theorem Falls_supply (x : Byte) (s : State) : (Falls x s).supply = s.supply := rfl
@[simp] theorem Falls_ps (x : Byte) (s : State) : (Falls x s).ps = s.ps := rfl
@[simp] theorem Falls_rst (x : Byte) (s : State) : (Falls x s).rst = s.rst := rfl
@[simp] theorem Falls_loader (x : Byte) (s : State) : (Falls x s).loader = s.loader := rfl
@[simp] theorem Falls_optshd (x : Byte) (s : State) : (Falls x s).optshd = s.optshd := rfl
@[simp] theorem Falls_clk (x : Byte) (s : State) : (Falls x s).clk = s.clk := rfl
@[simp] theorem Falls_pix (x : Byte) (s : State) : (Falls x s).pix = s.pix := rfl
@[simp] theorem Falls_video (x : Byte) (s : State) : (Falls x s).video = s.video := rfl
@[simp] theorem Falls_beam (x : Byte) (s : State) : (Falls x s).beam = s.beam := rfl
@[simp] theorem Falls_motors (x : Byte) (s : State) : (Falls x s).motors = s.motors := rfl
@[simp] theorem Falls_rdc (x : Byte) (s : State) : (Falls x s).rdc = s.rdc := rfl
@[simp] theorem Falls_loops (x : Byte) (s : State) : (Falls x s).loops = s.loops := rfl
@[simp] theorem Falls_hv (x : Byte) (s : State) : (Falls x s).hv = s.hv := rfl
@[simp] theorem Falls_fuser (x : Byte) (s : State) : (Falls x s).fuser = s.fuser := rfl
@[simp] theorem Falls_outHold (x : Byte) (s : State) : (Falls x s).outHold = s.outHold := rfl
@[simp] theorem Falls_vregen (x : Byte) (s : State) : (Falls x s).vregen = s.vregen := rfl
@[simp] theorem Falls_sy (x : Byte) (s : State) : (Falls x s).sy = s.sy := rfl
@[simp] theorem Falls_sySnap (x : Byte) (s : State) : (Falls x s).sySnap = s.sySnap := rfl
@[simp] theorem Falls_thrCopy (x : Byte) (s : State) : (Falls x s).thrCopy = s.thrCopy := rfl
@[simp] theorem Falls_adc (x : Byte) (s : State) : (Falls x s).adc = s.adc := rfl
@[simp] theorem Falls_till (x : Byte) (s : State) : (Falls x s).till = s.till := rfl
@[simp] theorem Falls_rtc (x : Byte) (s : State) : (Falls x s).rtc = s.rtc := rfl
@[simp] theorem Falls_devtime (x : Byte) (s : State) : (Falls x s).devtime = s.devtime := rfl
@[simp] theorem Falls_crypto (x : Byte) (s : State) : (Falls x s).crypto = s.crypto := rfl
@[simp] theorem Falls_cluster (x : Byte) (s : State) : (Falls x s).cluster = s.cluster := rfl
@[simp] theorem Falls_fabric (x : Byte) (s : State) : (Falls x s).fabric = s.fabric := rfl
@[simp] theorem Falls_dramc (x : Byte) (s : State) : (Falls x s).dramc = s.dramc := rfl
@[simp] theorem Falls_licApp (x : Byte) (s : State) : (Falls x s).licApp = s.licApp := rfl
@[simp] theorem Falls_licKeep (x : Byte) (s : State) : (Falls x s).licKeep = s.licKeep := rfl
@[simp] theorem Falls_bwApp (x : Byte) (s : State) : (Falls x s).bwApp = s.bwApp := rfl
@[simp] theorem Falls_bwKeep (x : Byte) (s : State) : (Falls x s).bwKeep = s.bwKeep := rfl
@[simp] theorem Falls_gpio (x : Byte) (s : State) : (Falls x s).gpio = s.gpio := rfl
@[simp] theorem Falls_pincfg (x : Byte) (s : State) : (Falls x s).pincfg = s.pincfg := rfl
@[simp] theorem Falls_spim (x : Byte) (s : State) : (Falls x s).spim = s.spim := rfl
@[simp] theorem Falls_hspi (x : Byte) (s : State) : (Falls x s).hspi = s.hspi := rfl
@[simp] theorem Falls_eth (x : Byte) (s : State) : (Falls x s).eth = s.eth := rfl
@[simp] theorem Falls_xspi (x : Byte) (s : State) : (Falls x s).xspi = s.xspi := rfl
@[simp] theorem Falls_sys (x : Byte) (s : State) : (Falls x s).sys = s.sys := rfl
@[simp] theorem Falls_dbg (x : Byte) (s : State) : (Falls x s).dbg = s.dbg := rfl
@[simp] theorem Falls_hold (x : Byte) (s : State) : (Falls x s).hold = s.hold := rfl
@[simp] theorem Falls_mem (x : Byte) (s : State) : (Falls x s).mem = s.mem := rfl
@[simp] theorem Falls_tickPhase (x : Byte) (s : State) : (Falls x s).tickPhase = s.tickPhase := rfl
@[simp] theorem Falls_ao32Acc (x : Byte) (s : State) : (Falls x s).ao32Acc = s.ao32Acc := rfl
@[simp] theorem Falls_freeCtr (x : Byte) (s : State) : (Falls x s).freeCtr = s.freeCtr := rfl
@[simp] theorem Falls_pending (x : Byte) (s : State) : (Falls x s).pending = s.pending := rfl

/-! ## What the updates write -/

@[simp] theorem cntMod_counters (n : Fin 8) (f : Counter → Counter) (s : State) :
    (cntMod n f s).counters = vmod s.counters n f := rfl
@[simp] theorem motMod_motors (k : Fin 6) (f : Motor → Motor) (s : State) :
    (motMod k f s).motors = vmod s.motors k f := rfl
@[simp] theorem loopMod_loops (n : Fin 32) (f : Loop → Loop) (s : State) :
    (loopMod n f s).loops.loops = vmod s.loops.loops n f := rfl
@[simp] theorem ethMod_eth (i : Fin 2) (f : Eth → Eth) (s : State) : (ethMod i f s).eth = vmod s.eth i f := rfl
@[simp] theorem csMod_cs (c : Fin 2) (f : HspiCs → HspiCs) (s : State) :
    (csMod c f s).hspi.cs = vmod s.hspi.cs c f := rfl
@[simp] theorem hartMod_harts (h : Fin 4) (f : Hart → Hart) (s : State) :
    (hartMod h f s).cluster.harts = vmod s.cluster.harts h f := rfl
@[simp] theorem setLit_ld (b : Fin 4) (v : Bool) (s : State) :
    (setLit b v s).beam.ld = vmod s.beam.ld b fun l => { l with lit := v } := rfl
@[simp] theorem wantRecord_wants (w : Want) (s : State) : (wantRecord w s).sinov.wants = s.sinov.wants ++ [w] := rfl
@[simp] theorem bwGet_bwSet (app : Bool) (b : Barrow) (s : State) : bwGet app (bwSet app b s) = b := by
  cases app <;> rfl
@[simp] theorem bwGet_bwSet_other (app : Bool) (b : Barrow) (s : State) :
    bwGet (!app) (bwSet app b s) = bwGet (!app) s := by cases app <;> rfl
@[simp] theorem licGet_licSet (app : Bool) (l : Lic) (s : State) : licGet app (licSet app l s) = l := by
  cases app <;> rfl
@[simp] theorem licGet_licSet_other (app : Bool) (l : Lic) (s : State) :
    licGet (!app) (licSet app l s) = licGet (!app) s := by cases app <;> rfl
@[simp] theorem memPut_mem (s : State) (a : Nat) (bs : List Byte) : (memPut s a bs).mem = s.mem.writeAll a bs := rfl

end Sys2Proof.Machine
end

