-- ==== Sys2Proof/Laws/Access.lean ====
section
/-! SUPPORT. What register accesses and command frames do, said once: a granted write is the register's own operation, a
refused one only an error response; a frame that is executed is its command's own meaning, and any other frame is left
or answered with the check that fails. -/

namespace Sys2Proof.Machine

/-! ## Register writes -/

/-- A granted write outside DEBUG is the bank's own operation on the register. -/
theorem regWrite_granted {m : Master} {b o : Nat} {v : Word} {s : State} (h : Granted m b o v s) (hb : b ≠ 0x30) :
    regWrite m b o v s = bankWrite m b o v [] s := by
  simp [regWrite, regWriteWith, hb, regWriteCore, h.1, h.2]

/-- A granted write of DEBUG is DEBUG's own operation. -/
theorem regWrite_debug {m : Master} {o : Nat} {v : Word} {s : State} (h : Granted m 0x30 o v s) :
    regWrite m 0x30 o v s = writeDebug m o v s := by
  simp [regWrite, regWriteWith, h.1]

/-- A write that the fabric refuses is an error response and nothing else. -/
theorem regWrite_error {m : Master} {b o : Nat} {v : Word} {e : ErrSource} {s : State}
    (h : writeVerdict m b o v s = .error e) : regWrite m b o v s = refuseWrite m b o e s := by
  simp [regWrite, regWriteWith, regWriteCore, h]

/-- A write to an offset that holds no register does nothing. -/
theorem regWrite_hole {m : Master} {b o : Nat} {v : Word} {s : State} (h : writeVerdict m b o v s = .go)
    (ho : regExists b o = false) (hb : b ≠ 0x30) : regWrite m b o v s = s := by
  simp [regWrite, regWriteWith, hb, regWriteCore, h, ho]

/-! ## Command frames -/

/-- A frame that Sinov executes runs its command on its payload. -/
theorem runFrame_executes {code : Nat} {sel : List Byte → Bool} {n : Fin 8} {run : List Byte → State → State} {s : State}
    (h : Executes code n s) (hs : sel (payload s n) = true) :
    runFrame code sel n run s = run (payload s n) s := by
  obtain ⟨h1, h2, h3, h4, r, hr, hm, ho⟩ := h
  unfold payload at hs
  have hm' : (minimalSet s && (!r.min || !minCounter n)) = false := by
    cases hq : minimalSet s
    · rfl
    · simp [hm hq]
  simp only [runFrame, h1, h2, h3, h4, hs, hr, hm', ho, decide_true, Bool.and_self, Bool.not_false, Bool.not_true,
    if_true, Bool.false_eq_true, if_false]
  rfl

/-- A frame that is not ready, or not of this command, is left as it is. -/
theorem runFrame_idle {code : Nat} {sel : List Byte → Bool} {n : Fin 8} {run : List Byte → State → State} {s : State}
    (h : frameReady s n = false ∨ reqCmd s.counters[n] ≠ code ∨ sinovRuns s = false ∨ tornGap s = true) :
    runFrame code sel n run s = s := by
  unfold runFrame
  rcases h with h | h | h | h <;> simp only [h, decide_false, Bool.false_and, Bool.and_false, Bool.false_eq_true,
    if_false, Bool.not_true]

/-- The checks of a command in their order: the first that fails answers, and with none failing the command runs. -/
theorem judged_eq (n : Fin 8) (cs : List (Bool × Status)) (run : State → State) (s : State) :
    judged n cs run s = (match firstFail cs with | some st => answer n st s | none => run s) := rfl

/-- A check that fails answers its frame. -/
theorem judged_fail {n : Fin 8} {st : Status} {cs : List (Bool × Status)} {run : State → State} {s : State} :
    judged n ((true, st) :: cs) run s = answer n st s := rfl

/-- A check that passes leaves the next ones. -/
theorem judged_pass {n : Fin 8} {st : Status} {cs : List (Bool × Status)} {run : State → State} {s : State} :
    judged n ((false, st) :: cs) run s = judged n cs run s := rfl

/-- With no check left the command runs. -/
theorem judged_run {n : Fin 8} {run : State → State} {s : State} : judged n [] run s = run s := rfl

/-- An answer is what `Answered` says. -/
theorem answerWith_answered (n : Fin 8) (st : Status) (g : BitVec 16) (p : List Byte) (s : State) :
    Answered n st g p s (answerWith n st g p s) := by
  unfold Answered answerWith afterReply cntMod vmod putReply
  by_cases h : s.counters[n].stage = .taken
  · simp only [if_pos h]
  · simp only [if_neg h]

end Sys2Proof.Machine
end

