-- ==== Sys2Proof/Laws/Faults.lean ====
section
/-! SUPPORT. What raising a fault does where it takes no action at once (R153-R155). -/

namespace Sys2Proof.Machine

/-- A bit set to the value it has. -/
theorem setBit_same {n : Nat} {w : BitVec n} {i : Nat} (h : w.getLsbD i = true) : setBit w i true = w := by
  ext j hj
  simp only [setBit, if_true, BitVec.getElem_or, BitVec.getElem_twoPow]
  by_cases e : i = j
  · subst e
    rw [← BitVec.getLsbD_eq_getElem hj, h]; simp
  · simp [show ¬j = i from fun h => e h.symm]

/-- A bit that is set reads 1. -/
theorem setBit_true_self {n : Nat} {w : BitVec n} {i : Nat} (h : i < n) : (setBit w i true).getLsbD i = true := by
  simp [setBit, h]

/-- The lapse of an admission clears no bit of the conditions but that of TILL_FULL, and sets none. -/
theorem lapseAdmission_present (s : State) :
    (lapseAdmission s).hub.present = s.hub.present ∨ (lapseAdmission s).hub.present = setBit s.hub.present 0xE2 false := by
  unfold lapseAdmission
  cases s.sinov.admission with
  | none => exact .inl rfl
  | some a =>
    show setBit s.hub.present 0xE2 (s.hub.present.getLsbD 0xE2 && decide (s.till.free = 0)) = _ ∨
      setBit s.hub.present 0xE2 (s.hub.present.getLsbD 0xE2 && decide (s.till.free = 0)) = _
    cases hp : s.hub.present.getLsbD 0xE2 with
    | false => exact .inr rfl
    | true =>
      cases decide (s.till.free = 0) with
      | false => exact .inr rfl
      | true => exact .inl (setBit_same hp)

/-- The lapse of an admission changes the admission, its reserved record and the condition of TILL_FULL only. -/
theorem lapseAdmission_frame (s : State) :
    lapseAdmission s = { s with
      sinov := { s.sinov with
        admission := (lapseAdmission s).sinov.admission, admitWait := (lapseAdmission s).sinov.admitWait }
      till := { s.till with rsv := (lapseAdmission s).till.rsv }
      hub := { s.hub with present := (lapseAdmission s).hub.present } } := by
  unfold lapseAdmission
  cases h : s.sinov.admission <;> simp [h]

/-- A raise with neither an escalation nor a page to spoil acts with class NOTE, with class GRACE, or not at all. -/
theorem raiseClass_noAction {f : Byte} {s : State} (h : NoAction f s) :
    raiseClass f s = none ∨ ∃ c, raiseClass f s = some c ∧ c.toNat < 2 := by
  unfold raiseClass
  by_cases hr : (faultRow f.toNat 0).isNone = true ∨ s.hub.raised.getLsbD f.toNat = true
  · exact .inl (if_pos hr)
  · rw [if_neg hr]
    exact .inr ⟨_, rfl, h.resolve_left fun x => hr (.inr x)⟩

/-- A raise with no escalation begins none. -/
theorem raiseAction_noAction {f : Byte} {s : State} (h : NoAction f s) : raiseAction f s = none := by
  unfold raiseAction
  rcases raiseClass_noAction h with e | ⟨c, e, hc⟩
  · rw [e]
  · rw [e]; exact if_neg (Nat.not_le.mpr hc)

/-- The bits of a raise alone. -/
theorem raiseBits_raisedOnly (f : Byte) (s : State) : RaisedOnly f s (raiseBits f s) :=
  ⟨⟨setBit_true_self f.isLt, setBit_true_self f.isLt⟩, rfl, rfl, .inl rfl, rfl, rfl⟩

/-- After a raise that takes no action the admission may lapse. -/
theorem lapse_raisedOnly {f : Byte} {s t : State} (h : RaisedOnly f s t) (hp : t.hub.present = s.hub.present) :
    RaisedOnly f s (lapseAdmission t) := by
  have hl := lapseAdmission_present t
  rw [hp] at hl
  rw [lapseAdmission_frame]
  obtain ⟨⟨h1, h1'⟩, h2, h3, -, h5, h6⟩ := h
  refine ⟨⟨h1, h1'⟩, h2, h3, hl, h5, ?_⟩
  rw [h6]

/-- A fault of the table that is mild only becomes RAISED and unacknowledged, and may lapse the admission. -/
theorem raiseFault_mild {f : Byte} {s : State} (hf : (faultRow f.toNat 0).isSome = true) (h : Mild f s) :
    RaisedOnly f s (raiseFault f s) := by
  obtain ⟨row, hrow⟩ := Option.isSome_iff_exists.mp hf
  obtain ⟨hn, hp⟩ := h
  have hs : (if spoilsAtOnce f true then spoilByFault f (raiseBits f s) else raiseBits f s) = raiseBits f s := by
    by_cases hx : spoilsAtOnce f true = true
    · rw [if_pos hx]; exact if_neg (by rw [show pageInFlight (raiseBits f s) = pageInFlight s from rfl, hp hx]; decide)
    · exact if_neg hx
  have hb := raiseBits_raisedOnly f s
  have e : raiseFault f s = raiseTimer f (raiseClass f s) (raiseBits f s) := by
    unfold raiseFault raiseWith
    simp only [hrow, raiseAction_noAction hn, hs]
  rw [e]
  unfold raiseTimer
  rcases raiseClass_noAction hn with ec | ⟨c, ec, hc⟩
  · rw [ec]; exact hb
  · rw [ec]
    dsimp only
    split
    · exact hb
    · exact lapse_raisedOnly (t := { raiseBits f s with
        hub := { (raiseBits f s).hub with timing := setBit (raiseBits f s).hub.timing f.toNat true } })
        ⟨hb.1, rfl, rfl, .inl rfl, rfl, rfl⟩ rfl
    · exact lapse_raisedOnly hb rfl

/-- A condition that rises, of a fault of the table that is mild, raises it. -/
theorem setCond_rises {f : Byte} {s : State} (hf : (faultRow f.toNat 0).isSome = true)
    (hp : s.hub.present.getLsbD f.toNat = false) (h : Mild f s) : RisesOnly f s (setCond f true s) := by
  unfold setCond
  rw [if_pos rfl, if_neg (by rw [hp]; decide)]
  exact raiseFault_mild hf ⟨h.1, h.2⟩

/-- A condition that falls falls. -/
theorem setCond_falls (f : Byte) (s : State) : setCond f false s = Falls f s := rfl

end Sys2Proof.Machine
end

