-- ==== Sys2Proof/Laws/Memory.lean ====
section
/-! SUPPORT. Memory: every operation keeps the canonical form, a read finds what was written and nothing else changes. -/

namespace Sys2Proof.Machine

/-- Every entry lies above an address. -/
def Mem.above (a : Nat) (m : Mem) : Prop := ∀ c ∈ m, a < c.1

theorem Mem.wf_cons {k : Nat} {b : Byte} {m : Mem} :
    Mem.wf ((k, b) :: m) = true ↔ b ≠ unlisted k ∧ Mem.above k m ∧ Mem.wf m = true := by
  induction m generalizing k b with
  | nil => simp [Mem.wf, Mem.above]
  | cons c m ih =>
    obtain ⟨k', b'⟩ := c
    have h := @ih k' b'
    constructor
    · intro hw
      simp only [Mem.wf, Bool.and_eq_true, bne_iff_ne, decide_eq_true_eq] at hw
      obtain ⟨⟨hb, hk⟩, hr⟩ := hw
      have hr' : Mem.wf ((k', b') :: m) = true := by simpa [Mem.wf] using hr
      refine ⟨hb, ?_, hr'⟩
      obtain ⟨_, ha, _⟩ := h.mp hr'
      intro c hc
      rcases List.mem_cons.mp hc with rfl | hc
      · exact hk
      · exact Nat.lt_trans hk (ha c hc)
    · rintro ⟨hb, ha, hr⟩
      have hk := ha (k', b') List.mem_cons_self
      have hr' := hr
      simp only [Mem.wf, Bool.and_eq_true, bne_iff_ne, decide_eq_true_eq] at hr' ⊢
      exact ⟨⟨hb, hk⟩, hr'⟩

theorem Mem.above_write {m : Mem} {a k : Nat} {b : Byte} (h : Mem.above k m) (hk : k < a) :
    Mem.above k (m.write a b) := by
  induction m with
  | nil => unfold Mem.write; split <;> simp_all [Mem.above]
  | cons c m ih =>
    obtain ⟨k', b'⟩ := c
    have hm : Mem.above k m := fun c hc => h c (List.mem_cons_of_mem _ hc)
    have hk' : k < k' := h (k', b') List.mem_cons_self
    have ih := ih hm
    unfold Mem.write
    intro c hc
    split at hc
    · split at hc
      · exact h c hc
      · rcases List.mem_cons.mp hc with rfl | hc
        · exact hk
        · exact h c hc
    · split at hc
      · split at hc
        · exact hm c hc
        · rcases List.mem_cons.mp hc with rfl | hc
          · exact hk
          · exact hm c hc
      · rcases List.mem_cons.mp hc with rfl | hc
        · exact hk'
        · exact ih c hc

/-- A write keeps the canonical form. -/
theorem Mem.write_wf {m : Mem} {a : Nat} {b : Byte} (h : m.wf = true) : (m.write a b).wf = true := by
  induction m with
  | nil =>
    unfold Mem.write
    split
    · rfl
    · rename_i hb; exact Mem.wf_cons.mpr ⟨hb, by simp [Mem.above], rfl⟩
  | cons c m ih =>
    obtain ⟨k, b'⟩ := c
    obtain ⟨hb', ha, hm⟩ := Mem.wf_cons.mp h
    unfold Mem.write
    split
    · rename_i hlt
      split
      · exact h
      · rename_i hb
        refine Mem.wf_cons.mpr ⟨hb, ?_, h⟩
        intro c hc
        rcases List.mem_cons.mp hc with rfl | hc
        · exact hlt
        · exact Nat.lt_trans hlt (ha c hc)
    · split
      · split
        · exact hm
        · rename_i hak hb; subst hak; exact Mem.wf_cons.mpr ⟨hb, ha, hm⟩
      · rename_i h1 h2
        exact Mem.wf_cons.mpr ⟨hb', Mem.above_write ha (by omega), ih hm⟩

/-- So do writes of several bytes. -/
theorem Mem.writeAll_wf {m : Mem} {a : Nat} {bs : List Byte} (h : m.wf = true) : (m.writeAll a bs).wf = true := by
  induction bs generalizing m a with
  | nil => exact h
  | cons b bs ih => exact ih (Mem.write_wf h)

/-- A range returned to its unlisted values leaves the canonical form. -/
theorem Mem.clearRange_wf {m : Mem} {lo hi : Nat} (h : m.wf = true) : (m.clearRange lo hi).wf = true := by
  induction m with
  | nil => rfl
  | cons c m ih =>
    obtain ⟨k, b⟩ := c
    obtain ⟨hb, ha, hm⟩ := Mem.wf_cons.mp h
    have ih := ih hm
    simp only [Mem.clearRange, List.filter_cons] at ih ⊢
    split
    · refine Mem.wf_cons.mpr ⟨hb, ?_, ih⟩
      intro c hc
      exact ha c (List.mem_filter.mp hc).1
    · exact ih

theorem Mem.above_scramble {m : Mem} {lo hi n k : Nat} (h : Mem.above k m) : Mem.above k (m.scramble lo hi n) := by
  intro c hc
  obtain ⟨d, hd, he⟩ := List.mem_filterMap.mp hc
  have hk := h d hd
  split at he
  · split at he
    · cases he
    · cases he; exact hk
  · cases he; exact hk

/-- Bytes that become free values leave the canonical form. -/
theorem Mem.scramble_wf {m : Mem} {lo hi n : Nat} (h : m.wf = true) : (m.scramble lo hi n).wf = true := by
  induction m with
  | nil => rfl
  | cons c m ih =>
    obtain ⟨k, b⟩ := c
    obtain ⟨hb, ha, hm⟩ := Mem.wf_cons.mp h
    have ih := ih hm
    have hab : Mem.above k (Mem.scramble m lo hi n) := Mem.above_scramble ha
    simp only [Mem.scramble, List.filterMap_cons] at ih hab ⊢
    split
    · exact ih
    · rename_i d hd
      split at hd
      · split at hd
        · cases hd
        · rename_i hf; cases hd; exact Mem.wf_cons.mpr ⟨hf, hab, ih⟩
      · cases hd; exact Mem.wf_cons.mpr ⟨hb, hab, ih⟩

/-- An address below every entry reads as unlisted. -/
theorem Mem.read_above {m : Mem} {a : Nat} (h : Mem.above a m) : m.read a = unlisted a := by
  induction m with
  | nil => rfl
  | cons c m ih =>
    obtain ⟨k, b⟩ := c
    have hk : a < k := h (k, b) List.mem_cons_self
    unfold Mem.read
    rw [if_neg (by omega)]
    exact ih fun c hc => h c (List.mem_cons_of_mem _ hc)

/-- A read of the address written gives the byte written. -/
theorem Mem.read_write_same {m : Mem} {a : Nat} {b : Byte} (h : m.wf = true) : (m.write a b).read a = b := by
  induction m with
  | nil => unfold Mem.write; split <;> simp_all [Mem.read]
  | cons c m ih =>
    obtain ⟨k, b'⟩ := c
    obtain ⟨_, ha, hm⟩ := Mem.wf_cons.mp h
    unfold Mem.write
    split
    · rename_i hlt
      split
      · rename_i hb
        rw [hb]
        refine Mem.read_above fun c hc => ?_
        rcases List.mem_cons.mp hc with rfl | hc
        · exact hlt
        · exact Nat.lt_trans hlt (ha c hc)
      · simp [Mem.read]
    · split
      · rename_i hak; subst hak
        split
        · rename_i hb; rw [hb]; exact Mem.read_above ha
        · simp [Mem.read]
      · rename_i h1 h2
        unfold Mem.read
        rw [if_neg (by omega)]
        exact ih hm

/-- Every other address reads as before. -/
theorem Mem.read_write_other {m : Mem} {a x : Nat} {b : Byte} (hx : x ≠ a) : (m.write a b).read x = m.read x := by
  induction m with
  | nil =>
    unfold Mem.write
    split
    · rfl
    · simp [Mem.read, Ne.symm hx]
  | cons c m ih =>
    obtain ⟨k, b'⟩ := c
    unfold Mem.write
    split
    · split
      · rfl
      · rw [Mem.read, if_neg (Ne.symm hx)]
    · split
      · rename_i h1 hak; subst hak
        split
        · conv => rhs; rw [Mem.read, if_neg (Ne.symm hx)]
        · rw [Mem.read, if_neg (Ne.symm hx), Mem.read, if_neg (Ne.symm hx)]
      · unfold Mem.read
        split
        · rfl
        · exact ih

/-- A write of several bytes leaves every address outside them as it was. -/
theorem Mem.read_writeAll_other {m : Mem} {a x : Nat} {bs : List Byte} (hx : x < a ∨ a + bs.length ≤ x) :
    (m.writeAll a bs).read x = m.read x := by
  induction bs generalizing m a with
  | nil => rfl
  | cons b bs ih =>
    simp only [List.length_cons] at hx
    show ((m.write a b).writeAll (a + 1) bs).read x = m.read x
    rw [ih (by omega), Mem.read_write_other (by omega)]

end Sys2Proof.Machine
end

