-- ==== Sys2Proof/Laws/Keeps.lean ====
section
/-! SUPPORT. What every operation of the model does with the queue and with memory: it leaves the queue alone and keeps
memory in its canonical form. `Keeps s t` says so of a state and its successor; the files beside this one have one lemma
per operation. -/

namespace Sys2Proof.Machine

/-- From s to t the queue stays and memory keeps its canonical form. -/
structure Keeps (s t : State) : Prop where
  pending : t.pending = s.pending
  mem : s.mem.wf = true → t.mem.wf = true

theorem Keeps.refl (s : State) : Keeps s s := ⟨rfl, id⟩

theorem Keeps.trans {s t u : State} (h : Keeps s t) (k : Keeps t u) : Keeps s u :=
  ⟨k.pending.trans h.pending, fun w => k.mem (h.mem w)⟩

theorem Keeps.ite {s a b : State} {c : Prop} [Decidable c] (h : c → Keeps s a) (k : ¬c → Keeps s b) :
    Keeps s (if c then a else b) := by
  split
  · exact h ‹_›
  · exact k ‹_›

theorem Keeps.dite {s : State} {c : Prop} [Decidable c] {a : c → State} {b : ¬c → State} (h : ∀ p, Keeps s (a p))
    (k : ∀ p, Keeps s (b p)) : Keeps s (if p : c then a p else b p) := by
  split
  · exact h _
  · exact k _

theorem Keeps.foldl {α : Type} {f : State → α → State} {l : List α} {s x : State} (hf : ∀ x a, Keeps s x → Keeps s (f x a))
    (h : Keeps s x) : Keeps s (l.foldl f x) := by
  induction l generalizing x with
  | nil => exact h
  | cons a l ih => exact ih (hf x a h)

theorem Keeps.idState {s x : State} (h : Keeps s x) : Keeps s (id x) := h

/-- A state built from x with its queue and its memory. -/
theorem Keeps.upd {s x : State}
    {a_counters : Vector Counter 8} {a_cntWindow : BitVec 7} {a_windows : List Window} {a_docket : Docket}
    {a_dkStore : DocketStore} {a_sinov : Sinov} {a_envg : EnvGuard} {a_hdie : HDie} {a_link : EngLink}
    {a_hub : FaultHub} {a_supply : Supply} {a_ps : PwrSeq} {a_rst : RstCtl} {a_loader : Loader}
    {a_optshd : Vector Byte 512} {a_clk : ClkGen} {a_pix : PixRamp} {a_video : Video} {a_beam : BeamUnit}
    {a_motors : Vector Motor 6} {a_rdc : Rdc} {a_loops : LoopEng} {a_hv : Hv} {a_fuser : Fuser}
    {a_outHold : OutHold} {a_vregen : Word} {a_sy : Steelyard} {a_sySnap : SySnap}
    {a_thrCopy : Vector (BitVec 16) 12} {a_adc : Adc} {a_till : Till} {a_rtc : Rtc} {a_devtime : BitVec 64}
    {a_crypto : Crypto} {a_cluster : Cluster} {a_fabric : Fabric} {a_dramc : Dramc} {a_licApp : Lic}
    {a_licKeep : Lic} {a_bwApp : Barrow} {a_bwKeep : Barrow} {a_gpio : Vector Gpio 4}
    {a_pincfg : Vector (BitVec 13) 120} {a_spim : Vector Spim 4} {a_hspi : Hspi} {a_eth : Vector Eth 2}
    {a_xspi : Xspi} {a_sys : SysCtl} {a_debug : Debug} {a_hold : List Holding}
    {a_tickPhase : BitVec 2} {a_ao32Acc : Nat} {a_freeCtr : Nat}
    (h : Keeps s x) :
    Keeps s (State.mk
      a_counters a_cntWindow a_windows a_docket a_dkStore a_sinov a_envg a_hdie a_link a_hub a_supply a_ps a_rst
      a_loader a_optshd a_clk a_pix a_video a_beam a_motors a_rdc a_loops a_hv a_fuser a_outHold a_vregen a_sy
      a_sySnap a_thrCopy a_adc a_till a_rtc a_devtime a_crypto a_cluster a_fabric a_dramc a_licApp a_licKeep a_bwApp
      a_bwKeep a_gpio a_pincfg a_spim a_hspi a_eth a_xspi a_sys a_debug a_hold x.mem a_tickPhase a_ao32Acc a_freeCtr
      x.pending) :=
  ⟨h.pending, h.mem⟩

/-- A state built from x with its queue and a memory of the canonical form. -/
theorem Keeps.updMem {s x : State}
    {a_counters : Vector Counter 8} {a_cntWindow : BitVec 7} {a_windows : List Window} {a_docket : Docket}
    {a_dkStore : DocketStore} {a_sinov : Sinov} {a_envg : EnvGuard} {a_hdie : HDie} {a_link : EngLink}
    {a_hub : FaultHub} {a_supply : Supply} {a_ps : PwrSeq} {a_rst : RstCtl} {a_loader : Loader}
    {a_optshd : Vector Byte 512} {a_clk : ClkGen} {a_pix : PixRamp} {a_video : Video} {a_beam : BeamUnit}
    {a_motors : Vector Motor 6} {a_rdc : Rdc} {a_loops : LoopEng} {a_hv : Hv} {a_fuser : Fuser}
    {a_outHold : OutHold} {a_vregen : Word} {a_sy : Steelyard} {a_sySnap : SySnap}
    {a_thrCopy : Vector (BitVec 16) 12} {a_adc : Adc} {a_till : Till} {a_rtc : Rtc} {a_devtime : BitVec 64}
    {a_crypto : Crypto} {a_cluster : Cluster} {a_fabric : Fabric} {a_dramc : Dramc} {a_licApp : Lic}
    {a_licKeep : Lic} {a_bwApp : Barrow} {a_bwKeep : Barrow} {a_gpio : Vector Gpio 4}
    {a_pincfg : Vector (BitVec 13) 120} {a_spim : Vector Spim 4} {a_hspi : Hspi} {a_eth : Vector Eth 2}
    {a_xspi : Xspi} {a_sys : SysCtl} {a_debug : Debug} {a_hold : List Holding} {a_mem : Mem}
    {a_tickPhase : BitVec 2} {a_ao32Acc : Nat} {a_freeCtr : Nat}
    (hm : x.mem.wf = true → a_mem.wf = true) (h : Keeps s x) :
    Keeps s (State.mk
      a_counters a_cntWindow a_windows a_docket a_dkStore a_sinov a_envg a_hdie a_link a_hub a_supply a_ps a_rst
      a_loader a_optshd a_clk a_pix a_video a_beam a_motors a_rdc a_loops a_hv a_fuser a_outHold a_vregen a_sy
      a_sySnap a_thrCopy a_adc a_till a_rtc a_devtime a_crypto a_cluster a_fabric a_dramc a_licApp a_licKeep a_bwApp
      a_bwKeep a_gpio a_pincfg a_spim a_hspi a_eth a_xspi a_sys a_debug a_hold a_mem a_tickPhase a_ao32Acc a_freeCtr
      x.pending) :=
  ⟨h.pending, fun w => hm (h.mem w)⟩

end Sys2Proof.Machine
end

