-- ==== Sys2Proof/Laws/KeepsOps.lean ====
section
/-! SUPPORT. One lemma per operation of Machine/ (Words, Lines, Ops, Clocks, Motor, Cache, Beam): each keeps the queue and the form of memory. -/

namespace Sys2Proof.Machine

/-! Machine/Words.lean -/

theorem keeps_takeBit {k0 : State} (s : State) (kh : Keeps k0 s) :
    Keeps k0 (takeBit s).2 := by
  unfold takeBit
  repeat' first
    | extract_lets
    | intro _
    | with_reducible assumption
    | fail_if_no_progress (with_reducible apply Keeps.upd)
    | split

theorem keeps_memPut {k0 : State} (s : State) (a : Nat) (bs : List Byte) (kh : Keeps k0 s) :
    Keeps k0 (memPut s a bs) := by
  unfold memPut
  repeat' first
    | extract_lets
    | intro _
    | with_reducible assumption
    | fail_if_no_progress (with_reducible apply Keeps.upd)
    | fail_if_no_progress (with_reducible refine Keeps.updMem (fun h => ?_) ?_)
    | with_reducible refine Mem.writeAll_wf ?_

/-! Machine/Lines.lean -/

theorem keeps_dropLine {k0 : State} (line : Nat) (s : State) (kh : Keeps k0 s) :
    Keeps k0 (dropLine line s) := by
  unfold dropLine
  repeat' first
    | extract_lets
    | intro _
    | with_reducible assumption
    | fail_if_no_progress (with_reducible apply Keeps.upd)
    | with_reducible refine Keeps.ite (fun _ => ?_) (fun _ => ?_)

theorem keeps_writeBack {k0 : State} (line : Nat) (s : State) (kh : Keeps k0 s) :
    Keeps k0 (writeBack line s) := by
  unfold writeBack
  repeat' first
    | extract_lets
    | intro _
    | with_reducible assumption
    | fail_if_no_progress (with_reducible apply Keeps.upd)
    | with_reducible apply keeps_memPut
    | with_reducible refine Keeps.ite (fun _ => ?_) (fun _ => ?_)

theorem keeps_markClean {k0 : State} (line : Nat) (s : State) (kh : Keeps k0 s) :
    Keeps k0 (markClean line s) := by
  unfold markClean
  repeat' first
    | extract_lets
    | intro _
    | with_reducible assumption
    | fail_if_no_progress (with_reducible apply Keeps.upd)
    | with_reducible refine Keeps.ite (fun _ => ?_) (fun _ => ?_)

theorem keeps_countWb {k0 : State} (line : Nat) (s : State) (kh : Keeps k0 s) :
    Keeps k0 (countWb line s) := by
  unfold countWb
  repeat' first
    | extract_lets
    | intro _
    | with_reducible assumption
    | fail_if_no_progress (with_reducible apply Keeps.upd)
    | with_reducible refine Keeps.ite (fun _ => ?_) (fun _ => ?_)

theorem keeps_ioWriteLine {k0 : State} (a : Nat) (bs : List Byte) (s : State) (kh : Keeps k0 s) :
    Keeps k0 (ioWriteLine a bs s) := by
  unfold ioWriteLine
  repeat' first
    | extract_lets
    | intro _
    | with_reducible assumption
    | fail_if_no_progress (with_reducible apply Keeps.upd)
    | with_reducible apply keeps_memPut
    | with_reducible apply keeps_dropLine
    | with_reducible apply keeps_writeBack

theorem keeps_ioWriteFuel {k0 : State} (fuel a : Nat) (bs : List Byte) (s : State) (kh : Keeps k0 s) :
    Keeps k0 (ioWriteFuel fuel a bs s) := by
  induction fuel generalizing a bs s with
  | zero => exact kh
  | succ n ih =>
    unfold ioWriteFuel
    split
    · exact kh
    · exact ih _ _ _ (keeps_ioWriteLine _ _ _ kh)

theorem keeps_ioWrite {k0 : State} (a : Nat) (bs : List Byte) (s : State) (kh : Keeps k0 s) :
    Keeps k0 (ioWrite a bs s) := by
  unfold ioWrite
  repeat' first
    | extract_lets
    | intro _
    | with_reducible assumption
    | fail_if_no_progress (with_reducible apply Keeps.upd)
    | with_reducible apply keeps_ioWriteFuel

theorem keeps_bwPut {k0 : State} (app : Bool) (a : Nat) (bs : List Byte) (s : State) (kh : Keeps k0 s) :
    Keeps k0 (bwPut app a bs s) := by
  unfold bwPut
  repeat' first
    | extract_lets
    | intro _
    | with_reducible assumption
    | fail_if_no_progress (with_reducible apply Keeps.upd)
    | with_reducible apply keeps_ioWrite
    | with_reducible apply keeps_memPut
    | with_reducible refine Keeps.ite (fun _ => ?_) (fun _ => ?_)

theorem keeps_bwSpill {k0 : State} (app : Bool) (c : BwChan) (s : State) (kh : Keeps k0 s) :
    Keeps k0 (bwSpill app c s) := by
  unfold bwSpill
  repeat' first
    | extract_lets
    | intro _
    | with_reducible assumption
    | fail_if_no_progress (with_reducible apply Keeps.upd)
    | with_reducible apply keeps_bwPut
    | with_reducible refine Keeps.ite (fun _ => ?_) (fun _ => ?_)

theorem keeps_bwSpillAll {k0 : State} (app : Bool) (b : Barrow) (s : State) (kh : Keeps k0 s) :
    Keeps k0 (bwSpillAll app b s) := by
  unfold bwSpillAll
  repeat' first
    | extract_lets
    | intro _
    | with_reducible assumption
    | fail_if_no_progress (with_reducible apply Keeps.upd)
    | with_reducible apply keeps_bwSpill
    | with_reducible refine Keeps.ite (fun _ => ?_) (fun _ => ?_)
    | with_reducible refine Keeps.foldl (fun _ _ _ => ?_) ?_

/-! Machine/Ops.lean -/

theorem keeps_blankBeams {k0 : State} (s : State) (kh : Keeps k0 s) :
    Keeps k0 (blankBeams s) := by
  unfold blankBeams
  repeat' first
    | extract_lets
    | intro _
    | with_reducible assumption
    | fail_if_no_progress (with_reducible apply Keeps.upd)
    | with_reducible refine Keeps.ite (fun _ => ?_) (fun _ => ?_)

theorem keeps_latchSpoil {k0 : State} (o : Outcome5) (f : Option Byte) (flags : Byte) (s : State) (kh : Keeps k0 s) :
    Keeps k0 (latchSpoil o f flags s) := by
  unfold latchSpoil
  repeat' first
    | extract_lets
    | intro _
    | with_reducible assumption
    | fail_if_no_progress (with_reducible apply Keeps.upd)
    | with_reducible apply keeps_blankBeams
    | with_reducible refine Keeps.ite (fun _ => ?_) (fun _ => ?_)
    | split

theorem keeps_closeDocket {k0 : State} (s : State) (kh : Keeps k0 s) :
    Keeps k0 (closeDocket s) := by
  unfold closeDocket
  repeat' first
    | extract_lets
    | intro _
    | with_reducible assumption
    | fail_if_no_progress (with_reducible apply Keeps.upd)
    | with_reducible refine Keeps.ite (fun _ => ?_) (fun _ => ?_)

theorem keeps_stageDocket {k0 : State} (rstCode : Byte) (s : State) (kh : Keeps k0 s) :
    Keeps k0 (stageDocket rstCode s) := by
  unfold stageDocket
  repeat' first
    | extract_lets
    | intro _
    | with_reducible assumption
    | fail_if_no_progress (with_reducible apply Keeps.upd)
    | with_reducible refine Keeps.ite (fun _ => ?_) (fun _ => ?_)

theorem keeps_stopMotors {k0 : State} (s : State) (kh : Keeps k0 s) :
    Keeps k0 (stopMotors s) := by
  unfold stopMotors
  repeat' first
    | extract_lets
    | intro _
    | with_reducible assumption
    | fail_if_no_progress (with_reducible apply Keeps.upd)

theorem keeps_dumpFollow {k0 : State} (s : State) (kh : Keeps k0 s) :
    Keeps k0 (dumpFollow s) := by
  unfold dumpFollow
  repeat' first
    | extract_lets
    | intro _
    | with_reducible assumption
    | fail_if_no_progress (with_reducible apply Keeps.upd)
    | with_reducible refine Keeps.ite (fun _ => ?_) (fun _ => ?_)

theorem keeps_drivesOff {k0 : State} (s : State) (kh : Keeps k0 s) :
    Keeps k0 (drivesOff s) := by
  unfold drivesOff
  repeat' first
    | extract_lets
    | intro _
    | with_reducible assumption
    | fail_if_no_progress (with_reducible apply Keeps.upd)

theorem keeps_cutOutputs {k0 : State} (s : State) (kh : Keeps k0 s) :
    Keeps k0 (cutOutputs s) := by
  unfold cutOutputs
  repeat' first
    | extract_lets
    | intro _
    | with_reducible assumption
    | fail_if_no_progress (with_reducible apply Keeps.upd)
    | with_reducible apply keeps_drivesOff
    | dsimp +zetaDelta only

theorem keeps_stopCause {k0 : State} (f : Byte) (s : State) (kh : Keeps k0 s) :
    Keeps k0 (stopCause f s) := by
  unfold stopCause
  repeat' first
    | extract_lets
    | intro _
    | with_reducible assumption
    | fail_if_no_progress (with_reducible apply Keeps.upd)

theorem keeps_safeStop {k0 : State} (s : State) (kh : Keeps k0 s) :
    Keeps k0 (safeStop s) := by
  unfold safeStop
  repeat' first
    | extract_lets
    | intro _
    | with_reducible assumption
    | fail_if_no_progress (with_reducible apply Keeps.upd)
    | with_reducible apply keeps_stopMotors
    | with_reducible apply keeps_drivesOff
    | with_reducible apply keeps_blankBeams
    | dsimp +zetaDelta only

theorem keeps_lapseAdmission {k0 : State} (s : State) (kh : Keeps k0 s) :
    Keeps k0 (lapseAdmission s) := by
  unfold lapseAdmission
  repeat' first
    | extract_lets
    | intro _
    | with_reducible assumption
    | fail_if_no_progress (with_reducible apply Keeps.upd)
    | split

theorem keeps_enterSafe {k0 : State} (s : State) (kh : Keeps k0 s) :
    Keeps k0 (enterSafe s) := by
  unfold enterSafe
  repeat' first
    | extract_lets
    | intro _
    | with_reducible assumption
    | fail_if_no_progress (with_reducible apply Keeps.upd)
    | with_reducible apply keeps_cutOutputs
    | dsimp +zetaDelta only

theorem keeps_resetBlockRegs {k0 : State} (b : Nat) (s : State) (kh : Keeps k0 s) : Keeps k0 (resetBlockRegs b s) := by
  unfold resetBlockRegs
  split
  all_goals first
    | exact kh
    | with_reducible exact Keeps.upd kh
    | with_reducible exact keeps_dumpFollow _ (Keeps.upd kh)
    | exact Keeps.updMem Mem.scramble_wf kh

theorem keeps_fenceOutputs {k0 : State} (b : Nat) (s : State) (kh : Keeps k0 s) :
    Keeps k0 (fenceOutputs b s) := by
  unfold fenceOutputs
  repeat' first
    | extract_lets
    | intro _
    | with_reducible assumption
    | fail_if_no_progress (with_reducible apply Keeps.upd)
    | with_reducible apply keeps_blankBeams
    | split

theorem keeps_blockFence {k0 : State} (b : Fin 24) (f : Option Byte) (s : State) (kh : Keeps k0 s) :
    Keeps k0 (blockFence b f s) := by
  unfold blockFence
  repeat' first
    | extract_lets
    | intro _
    | with_reducible assumption
    | fail_if_no_progress (with_reducible apply Keeps.upd)
    | with_reducible apply keeps_fenceOutputs
    | with_reducible apply keeps_bwSpillAll
    | with_reducible apply keeps_safeStop
    | with_reducible apply keeps_latchSpoil
    | with_reducible refine Keeps.ite (fun _ => ?_) (fun _ => ?_)
    | dsimp +zetaDelta only

theorem keeps_blockHold {k0 : State} (b : Fin 24) (s : State) (kh : Keeps k0 s) :
    Keeps k0 (blockHold b s) := by
  unfold blockHold
  repeat' first
    | extract_lets
    | intro _
    | with_reducible assumption
    | fail_if_no_progress (with_reducible apply Keeps.upd)

theorem keeps_blockStart {k0 : State} (b : Fin 24) (f : Option Byte) (s : State) (kh : Keeps k0 s) :
    Keeps k0 (blockStart b f s) := by
  unfold blockStart
  repeat' first
    | extract_lets
    | intro _
    | with_reducible assumption
    | fail_if_no_progress (with_reducible apply Keeps.upd)
    | with_reducible apply keeps_blockFence
    | with_reducible apply keeps_blockHold
    | with_reducible refine Keeps.ite (fun _ => ?_) (fun _ => ?_)
    | dsimp +zetaDelta only

theorem keeps_railsUp {k0 : State} (s : State) (kh : Keeps k0 s) :
    Keeps k0 (railsUp s) := by
  unfold railsUp
  repeat' first
    | extract_lets
    | intro _
    | with_reducible assumption
    | fail_if_no_progress (with_reducible apply Keeps.upd)
    | with_reducible refine Keeps.ite (fun _ => ?_) (fun _ => ?_)

theorem keeps_preAssert {k0 : State} (o : Outcome5) (f : Option Byte) (code : Byte) (s : State) (kh : Keeps k0 s) :
    Keeps k0 (preAssert o f code s) := by
  unfold preAssert
  repeat' first
    | extract_lets
    | intro _
    | with_reducible assumption
    | fail_if_no_progress (with_reducible apply Keeps.upd)
    | with_reducible apply keeps_enterSafe
    | with_reducible apply keeps_stageDocket
    | with_reducible apply keeps_closeDocket
    | with_reducible apply keeps_latchSpoil
    | with_reducible refine Keeps.ite (fun _ => ?_) (fun _ => ?_)
    | split
    | dsimp +zetaDelta only

theorem keeps_noteCause {k0 : State} (code : Byte) (kind : Option (BitVec 2)) (s : State) (kh : Keeps k0 s) :
    Keeps k0 (noteCause code kind s) := by
  unfold noteCause
  repeat' first
    | extract_lets
    | intro _
    | with_reducible assumption
    | fail_if_no_progress (with_reducible apply Keeps.upd)
    | with_reducible refine Keeps.ite (fun _ => ?_) (fun _ => ?_)

theorem keeps_reloadFhCfg {k0 : State} (s : State) (kh : Keeps k0 s) :
    Keeps k0 (reloadFhCfg s) := by
  unfold reloadFhCfg
  repeat' first
    | extract_lets
    | intro _
    | with_reducible assumption
    | fail_if_no_progress (with_reducible apply Keeps.upd)
    | with_reducible refine Keeps.ite (fun _ => ?_) (fun _ => ?_)
    | with_reducible refine Keeps.foldl (fun _ _ _ => ?_) ?_

theorem keeps_resetLogic {k0 : State} (s : State) (kh : Keeps k0 s) :
    Keeps k0 (resetLogic s) := by
  unfold resetLogic
  repeat' first
    | extract_lets
    | intro _
    | with_reducible assumption
    | fail_if_no_progress (with_reducible apply Keeps.upd)
    | with_reducible refine Keeps.ite (fun _ => ?_) (fun _ => ?_)

theorem keeps_undefBytes {k0 : State} (lo n : Nat) (s : State) (kh : Keeps k0 s) :
    Keeps k0 (undefBytes lo n s) := by
  unfold undefBytes
  repeat' first
    | extract_lets
    | intro _
    | with_reducible assumption
    | fail_if_no_progress (with_reducible apply Keeps.upd)
    | fail_if_no_progress (with_reducible refine Keeps.updMem (fun h => ?_) ?_)
    | with_reducible refine Mem.writeAll_wf ?_

theorem keeps_flashInterrupt {k0 : State} (s : State) (kh : Keeps k0 s) :
    Keeps k0 (flashInterrupt s) := by
  unfold flashInterrupt
  repeat' first
    | extract_lets
    | intro _
    | with_reducible assumption
    | fail_if_no_progress (with_reducible apply Keeps.upd)
    | with_reducible apply keeps_undefBytes
    | with_reducible refine Keeps.ite (fun _ => ?_) (fun _ => ?_)

theorem keeps_tearSlot {k0 : State} (rec : List Byte) (s : State) (kh : Keeps k0 s) :
    Keeps k0 (tearSlot rec s) := by
  unfold tearSlot
  repeat' first
    | extract_lets
    | intro _
    | with_reducible assumption
    | fail_if_no_progress (with_reducible apply Keeps.upd)
    | with_reducible apply keeps_memPut
    | with_reducible refine Keeps.ite (fun _ => ?_) (fun _ => ?_)
    | dsimp +zetaDelta only

theorem keeps_tearCommit {k0 : State} (s : State) (kh : Keeps k0 s) :
    Keeps k0 (tearCommit s) := by
  unfold tearCommit
  repeat' first
    | extract_lets
    | intro _
    | with_reducible assumption
    | fail_if_no_progress (with_reducible apply Keeps.upd)
    | with_reducible apply keeps_tearSlot
    | split

theorem keeps_tearRepair {k0 : State} (s : State) (kh : Keeps k0 s) : Keeps k0 (tearRepair s) := by
  unfold tearRepair
  split
  · exact Keeps.updMem Mem.writeAll_wf kh
  · exact kh

theorem keeps_tearOption {k0 : State} (s : State) (kh : Keeps k0 s) : Keeps k0 (tearOption s) := by
  unfold tearOption
  split
  · exact Keeps.updMem (fun w => Mem.writeAll_wf (Mem.writeAll_wf w)) kh
  · exact kh

theorem keeps_tearWrites {k0 : State} (s : State) (kh : Keeps k0 s) :
    Keeps k0 (tearWrites s) := by
  unfold tearWrites
  repeat' first
    | extract_lets
    | intro _
    | with_reducible assumption
    | fail_if_no_progress (with_reducible apply Keeps.upd)
    | with_reducible apply keeps_tearOption
    | with_reducible apply keeps_tearRepair
    | with_reducible apply keeps_tearCommit
    | with_reducible apply keeps_flashInterrupt

theorem keeps_loseMemories {k0 : State} (s : State) (kh : Keeps k0 s) :
    Keeps k0 (loseMemories s) := by
  unfold loseMemories
  repeat' first
    | extract_lets
    | intro _
    | with_reducible assumption
    | fail_if_no_progress (with_reducible apply Keeps.upd)
    | fail_if_no_progress (with_reducible refine Keeps.updMem (fun h => ?_) ?_)
    | with_reducible refine Mem.scramble_wf ?_
    | with_reducible refine Mem.clearRange_wf ?_

theorem keeps_warmGpd {k0 : State} (s : State) (kh : Keeps k0 s) :
    Keeps k0 (warmGpd s) := by
  unfold warmGpd
  repeat' first
    | extract_lets
    | intro _
    | with_reducible assumption
    | fail_if_no_progress (with_reducible apply Keeps.upd)
    | with_reducible refine Keeps.ite (fun _ => ?_) (fun _ => ?_)
    | with_reducible refine Keeps.foldl (fun _ _ _ => ?_) ?_

theorem keeps_allOff {k0 : State} (s : State) (kh : Keeps k0 s) :
    Keeps k0 (allOff s) := by
  unfold allOff
  repeat' first
    | extract_lets
    | intro _
    | with_reducible assumption
    | fail_if_no_progress (with_reducible apply Keeps.upd)

theorem keeps_systemReset {k0 : State} (o : Outcome5) (f : Option Byte) (code : Byte) (s : State) (kh : Keeps k0 s) :
    Keeps k0 (systemReset o f code s) := by
  unfold systemReset
  repeat' first
    | extract_lets
    | intro _
    | with_reducible assumption
    | fail_if_no_progress (with_reducible apply Keeps.upd)
    | with_reducible apply keeps_noteCause
    | with_reducible apply keeps_preAssert
    | with_reducible apply keeps_loseMemories
    | with_reducible apply keeps_tearWrites
    | with_reducible apply keeps_allOff
    | with_reducible apply keeps_resetLogic
    | with_reducible refine Keeps.ite (fun _ => ?_) (fun _ => ?_)
    | dsimp +zetaDelta only

theorem keeps_warmRails {k0 : State} (railFault : Bool) (s : State) (kh : Keeps k0 s) :
    Keeps k0 (warmRails railFault s) := by
  unfold warmRails
  repeat' first
    | extract_lets
    | intro _
    | with_reducible assumption
    | fail_if_no_progress (with_reducible apply Keeps.upd)
    | with_reducible refine Keeps.ite (fun _ => ?_) (fun _ => ?_)

theorem keeps_warmReset {k0 : State} (o : Outcome5) (f : Option Byte) (code : Byte) (s : State) (kh : Keeps k0 s) :
    Keeps k0 (warmReset o f code s) := by
  unfold warmReset
  repeat' first
    | extract_lets
    | intro _
    | with_reducible assumption
    | fail_if_no_progress (with_reducible apply Keeps.upd)
    | with_reducible apply keeps_noteCause
    | with_reducible apply keeps_preAssert
    | with_reducible apply keeps_loseMemories
    | with_reducible apply keeps_tearWrites
    | with_reducible apply keeps_reloadFhCfg
    | with_reducible apply keeps_warmGpd
    | with_reducible apply keeps_resetLogic
    | with_reducible apply keeps_railsUp
    | with_reducible apply keeps_warmRails
    | with_reducible refine Keeps.ite (fun _ => ?_) (fun _ => ?_)
    | dsimp +zetaDelta only

theorem keeps_assertReset {k0 : State} (kind : Nat) (o : Outcome5) (f : Option Byte) (code : Byte) (s : State) (kh : Keeps k0 s) :
    Keeps k0 (assertReset kind o f code s) := by
  unfold assertReset
  repeat' first
    | extract_lets
    | intro _
    | with_reducible assumption
    | fail_if_no_progress (with_reducible apply Keeps.upd)
    | with_reducible apply keeps_systemReset
    | with_reducible apply keeps_warmReset
    | with_reducible refine Keeps.ite (fun _ => ?_) (fun _ => ?_)

theorem keeps_clusterReset {k0 : State} (s : State) (kh : Keeps k0 s) :
    Keeps k0 (clusterReset s) := by
  unfold clusterReset
  repeat' first
    | extract_lets
    | intro _
    | with_reducible assumption
    | fail_if_no_progress (with_reducible apply Keeps.upd)
    | with_reducible apply keeps_blockStart
    | with_reducible apply keeps_noteCause
    | with_reducible refine Keeps.ite (fun _ => ?_) (fun _ => ?_)

theorem keeps_powerOnReset {k0 : State} (s : State) (kh : Keeps k0 s) : Keeps k0 (powerOnReset s) := by
  unfold powerOnReset
  have h := keeps_tearWrites s kh
  revert h
  generalize tearWrites s = x
  intro h
  exact Keeps.updMem (fun w => Mem.scramble_wf (Mem.scramble_wf (Mem.clearRange_wf w))) h

theorem keeps_wantRecord {k0 : State} (w : Want) (s : State) (kh : Keeps k0 s) :
    Keeps k0 (wantRecord w s) := by
  unfold wantRecord
  repeat' first
    | extract_lets
    | intro _
    | with_reducible assumption
    | fail_if_no_progress (with_reducible apply Keeps.upd)

theorem keeps_commitDocket {k0 : State} (s : State) (kh : Keeps k0 s) :
    Keeps k0 (commitDocket s) := by
  unfold commitDocket
  repeat' first
    | extract_lets
    | intro _
    | with_reducible assumption
    | fail_if_no_progress (with_reducible apply Keeps.upd)
    | with_reducible apply keeps_stageDocket
    | with_reducible apply keeps_wantRecord
    | with_reducible refine Keeps.ite (fun _ => ?_) (fun _ => ?_)
    | dsimp +zetaDelta only

theorem keeps_escRecord {k0 : State} (f : Byte) (act : BitVec 2) (s : State) (kh : Keeps k0 s) :
    Keeps k0 (escRecord f act s) := by
  unfold escRecord
  repeat' first
    | extract_lets
    | intro _
    | with_reducible assumption
    | fail_if_no_progress (with_reducible apply Keeps.upd)
    | with_reducible apply keeps_wantRecord
    | with_reducible refine Keeps.ite (fun _ => ?_) (fun _ => ?_)

theorem keeps_captureError {k0 : State} (a : Access) (src : ErrSource) (s : State) (kh : Keeps k0 s) :
    Keeps k0 (captureError a src s) := by
  unfold captureError
  repeat' first
    | extract_lets
    | intro _
    | with_reducible assumption
    | fail_if_no_progress (with_reducible apply Keeps.upd)
    | with_reducible refine Keeps.ite (fun _ => ?_) (fun _ => ?_)

theorem keeps_raiseBits {k0 : State} (f : Byte) (s : State) (kh : Keeps k0 s) :
    Keeps k0 (raiseBits f s) := by
  unfold raiseBits
  repeat' first
    | extract_lets
    | intro _
    | with_reducible assumption
    | fail_if_no_progress (with_reducible apply Keeps.upd)
    | with_reducible refine Keeps.ite (fun _ => ?_) (fun _ => ?_)

theorem keeps_raiseTimer {k0 : State} (f : Byte) (c : Option (BitVec 2)) (s : State) (kh : Keeps k0 s) :
    Keeps k0 (raiseTimer f c s) := by
  unfold raiseTimer
  repeat' first
    | extract_lets
    | intro _
    | with_reducible assumption
    | fail_if_no_progress (with_reducible apply Keeps.upd)
    | with_reducible apply keeps_lapseAdmission
    | split

theorem keeps_dropOuts {k0 : State} (b : Fin 24) (s : State) (kh : Keeps k0 s) :
    Keeps k0 (dropOuts b s) := by
  unfold dropOuts
  repeat' first
    | extract_lets
    | intro _
    | with_reducible assumption
    | fail_if_no_progress (with_reducible apply Keeps.upd)

theorem keeps_endOuts {k0 : State} (b : Fin 24) (s : State) (kh : Keeps k0 s) :
    Keeps k0 (endOuts b s) := by
  unfold endOuts
  repeat' first
    | extract_lets
    | intro _
    | with_reducible assumption
    | fail_if_no_progress (with_reducible apply Keeps.upd)
    | with_reducible apply keeps_captureError
    | with_reducible apply keeps_dropOuts
    | with_reducible apply keeps_raiseTimer
    | with_reducible apply keeps_raiseBits
    | with_reducible refine Keeps.foldl (fun _ _ _ => ?_) ?_
    | split
    | dsimp +zetaDelta only

theorem keeps_actSpoil {k0 : State} (fresh : Bool) (f : Byte) (s : State) (kh : Keeps k0 s) :
    Keeps k0 (actSpoil fresh f s) := by
  unfold actSpoil
  repeat' first
    | extract_lets
    | intro _
    | with_reducible assumption
    | fail_if_no_progress (with_reducible apply Keeps.upd)
    | with_reducible apply keeps_latchSpoil
    | with_reducible refine Keeps.ite (fun _ => ?_) (fun _ => ?_)

theorem keeps_escalateBy {k0 : State} (fresh : Bool) (f : Byte) (act : BitVec 2) (s : State) (kh : Keeps k0 s) :
    Keeps k0 (escalateBy fresh f act s) := by
  unfold escalateBy
  repeat' first
    | extract_lets
    | intro _
    | with_reducible assumption
    | fail_if_no_progress (with_reducible apply Keeps.upd)
    | with_reducible apply keeps_escRecord
    | with_reducible apply keeps_lapseAdmission
    | with_reducible apply keeps_stopCause
    | with_reducible apply keeps_safeStop
    | with_reducible apply keeps_actSpoil
    | with_reducible apply keeps_blockStart
    | with_reducible apply keeps_endOuts
    | with_reducible apply keeps_assertReset
    | with_reducible apply keeps_commitDocket
    | with_reducible apply keeps_closeDocket
    | with_reducible apply keeps_cutOutputs
    | with_reducible refine Keeps.ite (fun _ => ?_) (fun _ => ?_)
    | split
    | dsimp +zetaDelta only

theorem keeps_escalate {k0 : State} (f : Byte) (act : BitVec 2) (s : State) (kh : Keeps k0 s) :
    Keeps k0 (escalate f act s) := by
  unfold escalate
  repeat' first
    | extract_lets
    | intro _
    | with_reducible assumption
    | fail_if_no_progress (with_reducible apply Keeps.upd)
    | with_reducible apply keeps_escalateBy

theorem keeps_spoilByFault {k0 : State} (f : Byte) (s : State) (kh : Keeps k0 s) :
    Keeps k0 (spoilByFault f s) := by
  unfold spoilByFault
  repeat' first
    | extract_lets
    | intro _
    | with_reducible assumption
    | fail_if_no_progress (with_reducible apply Keeps.upd)
    | with_reducible apply keeps_stopCause
    | with_reducible apply keeps_safeStop
    | with_reducible apply keeps_latchSpoil
    | with_reducible apply keeps_commitDocket
    | with_reducible apply keeps_closeDocket
    | with_reducible refine Keeps.ite (fun _ => ?_) (fun _ => ?_)

theorem keeps_raiseWith {k0 : State} (eng : Bool) (f : Byte) (s : State) (kh : Keeps k0 s) :
    Keeps k0 (raiseWith eng f s) := by
  unfold raiseWith
  repeat' first
    | extract_lets
    | intro _
    | with_reducible assumption
    | fail_if_no_progress (with_reducible apply Keeps.upd)
    | with_reducible apply keeps_raiseBits
    | with_reducible apply keeps_raiseTimer
    | with_reducible apply keeps_spoilByFault
    | with_reducible apply keeps_escalate
    | with_reducible refine Keeps.ite (fun _ => ?_) (fun _ => ?_)
    | split
    | dsimp +zetaDelta only

theorem keeps_raiseFault {k0 : State} (f : Byte) (s : State) (kh : Keeps k0 s) :
    Keeps k0 (raiseFault f s) := by
  unfold raiseFault
  repeat' first
    | extract_lets
    | intro _
    | with_reducible assumption
    | fail_if_no_progress (with_reducible apply Keeps.upd)
    | with_reducible apply keeps_raiseWith

theorem keeps_takeActions {k0 : State} (fresh : Bool) (acts : List (Byte × BitVec 2)) (s : State) (kh : Keeps k0 s) :
    Keeps k0 (takeActions fresh acts s) := by
  unfold takeActions
  repeat' first
    | extract_lets
    | intro _
    | with_reducible assumption
    | fail_if_no_progress (with_reducible apply Keeps.upd)
    | with_reducible apply keeps_escalateBy
    | with_reducible apply keeps_stopCause
    | with_reducible refine Keeps.ite (fun _ => ?_) (fun _ => ?_)
    | with_reducible refine Keeps.foldl (fun _ _ _ => ?_) ?_
    | split
    | dsimp +zetaDelta only

theorem keeps_raiseAll {k0 : State} (fs : List Byte) (s : State) (kh : Keeps k0 s) :
    Keeps k0 (raiseAll fs s) := by
  unfold raiseAll
  repeat' first
    | extract_lets
    | intro _
    | with_reducible assumption
    | fail_if_no_progress (with_reducible apply Keeps.upd)
    | with_reducible apply keeps_raiseTimer
    | with_reducible apply keeps_raiseBits
    | with_reducible apply keeps_spoilByFault
    | with_reducible apply keeps_stopCause
    | with_reducible apply keeps_takeActions
    | with_reducible refine Keeps.ite (fun _ => ?_) (fun _ => ?_)
    | with_reducible refine Keeps.foldl (fun _ _ _ => ?_) ?_
    | split
    | dsimp +zetaDelta only

theorem keeps_setConds {k0 : State} (cs : List (Byte × Bool)) (s : State) (kh : Keeps k0 s) :
    Keeps k0 (setConds cs s) := by
  unfold setConds
  repeat' first
    | extract_lets
    | intro _
    | with_reducible assumption
    | fail_if_no_progress (with_reducible apply Keeps.upd)
    | with_reducible apply keeps_raiseAll
    | with_reducible refine Keeps.ite (fun _ => ?_) (fun _ => ?_)
    | with_reducible refine Keeps.foldl (fun _ _ _ => ?_) ?_
    | dsimp +zetaDelta only

theorem keeps_setCond {k0 : State} (f : Byte) (b : Bool) (s : State) (kh : Keeps k0 s) :
    Keeps k0 (setCond f b s) := by
  unfold setCond
  repeat' first
    | extract_lets
    | intro _
    | with_reducible assumption
    | fail_if_no_progress (with_reducible apply Keeps.upd)
    | with_reducible apply keeps_raiseFault
    | with_reducible refine Keeps.ite (fun _ => ?_) (fun _ => ?_)

theorem keeps_clearTrip {k0 : State} (f : Nat) (s : State) (kh : Keeps k0 s) :
    Keeps k0 (clearTrip f s) := by
  unfold clearTrip
  repeat' first
    | extract_lets
    | intro _
    | with_reducible assumption
    | fail_if_no_progress (with_reducible apply Keeps.upd)
    | with_reducible refine Keeps.ite (fun _ => ?_) (fun _ => ?_)

theorem keeps_hubAck {k0 : State} (f : Byte) (s : State) (kh : Keeps k0 s) :
    Keeps k0 (hubAck f s) := by
  unfold hubAck
  repeat' first
    | extract_lets
    | intro _
    | with_reducible assumption
    | fail_if_no_progress (with_reducible apply Keeps.upd)

theorem keeps_hubClear {k0 : State} (f : Byte) (s : State) (kh : Keeps k0 s) :
    Keeps k0 (hubClear f s) := by
  unfold hubClear
  repeat' first
    | extract_lets
    | intro _
    | with_reducible assumption
    | fail_if_no_progress (with_reducible apply Keeps.upd)
    | with_reducible apply keeps_clearTrip
    | with_reducible refine Keeps.ite (fun _ => ?_) (fun _ => ?_)

theorem keeps_errorResponse {k0 : State} (a : Access) (src : ErrSource) (s : State) (kh : Keeps k0 s) :
    Keeps k0 (errorResponse a src s) := by
  unfold errorResponse
  repeat' first
    | extract_lets
    | intro _
    | with_reducible assumption
    | fail_if_no_progress (with_reducible apply Keeps.upd)
    | with_reducible apply keeps_raiseFault
    | with_reducible apply keeps_captureError

theorem keeps_clearCapture {k0 : State} (s : State) (kh : Keeps k0 s) :
    Keeps k0 (clearCapture s) := by
  unfold clearCapture
  repeat' first
    | extract_lets
    | intro _
    | with_reducible assumption
    | fail_if_no_progress (with_reducible apply Keeps.upd)

theorem keeps_refuseWrite {k0 : State} (m : Master) (bank off : Nat) (src : ErrSource) (s : State) (kh : Keeps k0 s) :
    Keeps k0 (refuseWrite m bank off src s) := by
  unfold refuseWrite
  repeat' first
    | extract_lets
    | intro _
    | with_reducible assumption
    | fail_if_no_progress (with_reducible apply Keeps.upd)
    | with_reducible apply keeps_errorResponse

theorem keeps_refuseRead {k0 : State} (m : Master) (bank off : Nat) (src : ErrSource) (s : State) (kh : Keeps k0 s) :
    Keeps k0 (refuseRead m bank off src s) := by
  unfold refuseRead
  repeat' first
    | extract_lets
    | intro _
    | with_reducible assumption
    | fail_if_no_progress (with_reducible apply Keeps.upd)
    | with_reducible apply keeps_errorResponse

theorem keeps_refuseAll {k0 : State} (outs : List Access) (s : State) (kh : Keeps k0 s) :
    Keeps k0 (refuseAll outs s) := by
  unfold refuseAll
  repeat' first
    | extract_lets
    | intro _
    | with_reducible assumption
    | fail_if_no_progress (with_reducible apply Keeps.upd)
    | with_reducible apply keeps_errorResponse
    | with_reducible refine Keeps.foldl (fun _ _ _ => ?_) ?_

/-! Machine/Clocks.lean -/

theorem keeps_pllLost {k0 : State} (p : Fin 4) (s : State) (kh : Keeps k0 s) :
    Keeps k0 (pllLost p s) := by
  unfold pllLost
  repeat' first
    | extract_lets
    | intro _
    | with_reducible assumption
    | fail_if_no_progress (with_reducible apply Keeps.upd)
    | split

theorem keeps_pllUnlockOp {k0 : State} (p : Fin 4) (s : State) (kh : Keeps k0 s) :
    Keeps k0 (pllUnlockOp p s) := by
  unfold pllUnlockOp
  repeat' first
    | extract_lets
    | intro _
    | with_reducible assumption
    | fail_if_no_progress (with_reducible apply Keeps.upd)
    | with_reducible apply keeps_pllLost
    | with_reducible apply keeps_raiseFault
    | with_reducible refine Keeps.ite (fun _ => ?_) (fun _ => ?_)
    | dsimp +zetaDelta only

theorem keeps_resumePll {k0 : State} (p : Fin 4) (s : State) (kh : Keeps k0 s) :
    Keeps k0 (resumePll p s) := by
  unfold resumePll
  repeat' first
    | extract_lets
    | intro _
    | with_reducible assumption
    | fail_if_no_progress (with_reducible apply Keeps.upd)
    | with_reducible refine Keeps.ite (fun _ => ?_) (fun _ => ?_)
    | split
    | dsimp +zetaDelta only

theorem keeps_sinovPlls {k0 : State} (s : State) (kh : Keeps k0 s) :
    Keeps k0 (sinovPlls s) := by
  unfold sinovPlls
  repeat' first
    | extract_lets
    | intro _
    | with_reducible assumption
    | fail_if_no_progress (with_reducible apply Keeps.upd)
    | with_reducible apply keeps_resumePll
    | with_reducible refine Keeps.ite (fun _ => ?_) (fun _ => ?_)

theorem keeps_sinovPix {k0 : State} (s : State) (kh : Keeps k0 s) :
    Keeps k0 (sinovPix s) := by
  unfold sinovPix
  repeat' first
    | extract_lets
    | intro _
    | with_reducible assumption
    | fail_if_no_progress (with_reducible apply Keeps.upd)
    | with_reducible apply keeps_resumePll
    | with_reducible refine Keeps.ite (fun _ => ?_) (fun _ => ?_)

theorem keeps_pllLockOp {k0 : State} (p : Fin 4) (s : State) (kh : Keeps k0 s) :
    Keeps k0 (pllLockOp p s) := by
  unfold pllLockOp
  repeat' first
    | extract_lets
    | intro _
    | with_reducible assumption
    | fail_if_no_progress (with_reducible apply Keeps.upd)
    | with_reducible apply keeps_sinovPix
    | with_reducible apply keeps_sinovPlls
    | with_reducible refine Keeps.ite (fun _ => ?_) (fun _ => ?_)
    | dsimp +zetaDelta only

theorem keeps_clkResumeOp {k0 : State} (v : Word) (s : State) (kh : Keeps k0 s) :
    Keeps k0 (clkResumeOp v s) := by
  unfold clkResumeOp
  repeat' first
    | extract_lets
    | intro _
    | with_reducible assumption
    | fail_if_no_progress (with_reducible apply Keeps.upd)
    | with_reducible apply keeps_resumePll
    | with_reducible refine Keeps.ite (fun _ => ?_) (fun _ => ?_)
    | dsimp +zetaDelta only

theorem keeps_refLost {k0 : State} (s : State) (kh : Keeps k0 s) :
    Keeps k0 (refLost s) := by
  unfold refLost
  repeat' first
    | extract_lets
    | intro _
    | with_reducible assumption
    | fail_if_no_progress (with_reducible apply Keeps.upd)
    | with_reducible apply keeps_pllLost
    | with_reducible apply keeps_raiseAll
    | with_reducible refine Keeps.foldl (fun _ _ _ => ?_) ?_
    | dsimp +zetaDelta only

theorem keeps_refBack {k0 : State} (s : State) (kh : Keeps k0 s) :
    Keeps k0 (refBack s) := by
  unfold refBack
  repeat' first
    | extract_lets
    | intro _
    | with_reducible assumption
    | fail_if_no_progress (with_reducible apply Keeps.upd)
    | with_reducible apply keeps_setCond

theorem keeps_cpuDivOp {k0 : State} (v : Word) (s : State) (kh : Keeps k0 s) :
    Keeps k0 (cpuDivOp v s) := by
  unfold cpuDivOp
  repeat' first
    | extract_lets
    | intro _
    | with_reducible assumption
    | fail_if_no_progress (with_reducible apply Keeps.upd)
    | with_reducible refine Keeps.ite (fun _ => ?_) (fun _ => ?_)

theorem keeps_clkEvClear {k0 : State} (v : Word) (s : State) (kh : Keeps k0 s) :
    Keeps k0 (clkEvClear v s) := by
  unfold clkEvClear
  repeat' first
    | extract_lets
    | intro _
    | with_reducible assumption
    | fail_if_no_progress (with_reducible apply Keeps.upd)

theorem keeps_rampRetrigger {k0 : State} (s : State) (kh : Keeps k0 s) :
    Keeps k0 (rampRetrigger s) := by
  unfold rampRetrigger
  repeat' first
    | extract_lets
    | intro _
    | with_reducible assumption
    | fail_if_no_progress (with_reducible apply Keeps.upd)
    | with_reducible refine Keeps.ite (fun _ => ?_) (fun _ => ?_)

theorem keeps_rampNext {k0 : State} (s : State) (kh : Keeps k0 s) :
    Keeps k0 (rampNext s) := by
  unfold rampNext
  repeat' first
    | extract_lets
    | intro _
    | with_reducible assumption
    | fail_if_no_progress (with_reducible apply Keeps.upd)
    | with_reducible refine Keeps.ite (fun _ => ?_) (fun _ => ?_)

theorem keeps_prCtrlOp {k0 : State} (v : Word) (s : State) (kh : Keeps k0 s) :
    Keeps k0 (prCtrlOp v s) := by
  unfold prCtrlOp
  repeat' first
    | extract_lets
    | intro _
    | with_reducible assumption
    | fail_if_no_progress (with_reducible apply Keeps.upd)
    | with_reducible apply keeps_resumePll
    | with_reducible refine Keeps.ite (fun _ => ?_) (fun _ => ?_)
    | dsimp +zetaDelta only

theorem keeps_prNom {k0 : State} (v : Word) (s : State) (kh : Keeps k0 s) :
    Keeps k0 (prNom v s) := by
  unfold prNom
  repeat' first
    | extract_lets
    | intro _
    | with_reducible assumption
    | fail_if_no_progress (with_reducible apply Keeps.upd)
    | with_reducible refine Keeps.ite (fun _ => ?_) (fun _ => ?_)

theorem keeps_prNfrac {k0 : State} (v : Word) (s : State) (kh : Keeps k0 s) :
    Keeps k0 (prNfrac v s) := by
  unfold prNfrac
  repeat' first
    | extract_lets
    | intro _
    | with_reducible assumption
    | fail_if_no_progress (with_reducible apply Keeps.upd)
    | with_reducible refine Keeps.ite (fun _ => ?_) (fun _ => ?_)

theorem keeps_prSegs {k0 : State} (p : Fin 8) (v : Word) (s : State) (kh : Keeps k0 s) :
    Keeps k0 (prSegs p v s) := by
  unfold prSegs
  repeat' first
    | extract_lets
    | intro _
    | with_reducible assumption
    | fail_if_no_progress (with_reducible apply Keeps.upd)
    | with_reducible refine Keeps.ite (fun _ => ?_) (fun _ => ?_)

theorem keeps_prSeg {k0 : State} (p : Fin 8) (k : Fin 64) (v : BitVec 24) (s : State) (kh : Keeps k0 s) :
    Keeps k0 (prSeg p k v s) := by
  unfold prSeg
  repeat' first
    | extract_lets
    | intro _
    | with_reducible assumption
    | fail_if_no_progress (with_reducible apply Keeps.upd)
    | with_reducible refine Keeps.ite (fun _ => ?_) (fun _ => ?_)

/-! Machine/Motor.lean -/

theorem keeps_motMod {k0 : State} (k : Fin 6) (f : Motor → Motor) (s : State) (kh : Keeps k0 s) :
    Keeps k0 (motMod k f s) := by
  unfold motMod
  repeat' first
    | extract_lets
    | intro _
    | with_reducible assumption
    | fail_if_no_progress (with_reducible apply Keeps.upd)

theorem keeps_motStartOp {k0 : State} (k : Fin 6) (s : State) (kh : Keeps k0 s) :
    Keeps k0 (motStartOp k s) := by
  unfold motStartOp
  repeat' first
    | extract_lets
    | intro _
    | with_reducible assumption
    | fail_if_no_progress (with_reducible apply Keeps.upd)
    | with_reducible apply keeps_motMod
    | with_reducible refine Keeps.ite (fun _ => ?_) (fun _ => ?_)

theorem keeps_setStartDue {k0 : State} (k : Fin 6) (b : Bool) (s : State) (kh : Keeps k0 s) :
    Keeps k0 (setStartDue k b s) := by
  unfold setStartDue
  repeat' first
    | extract_lets
    | intro _
    | with_reducible assumption
    | fail_if_no_progress (with_reducible apply Keeps.upd)

theorem keeps_motStopOp {k0 : State} (k : Fin 6) (mode : BitVec 2) (s : State) (kh : Keeps k0 s) :
    Keeps k0 (motStopOp k mode s) := by
  unfold motStopOp
  repeat' first
    | extract_lets
    | intro _
    | with_reducible assumption
    | fail_if_no_progress (with_reducible apply Keeps.upd)
    | with_reducible apply keeps_motMod

theorem keeps_motCmd {k0 : State} (k : Fin 6) (v : Word) (s : State) (kh : Keeps k0 s) :
    Keeps k0 (motCmd k v s) := by
  unfold motCmd
  repeat' first
    | extract_lets
    | intro _
    | with_reducible assumption
    | fail_if_no_progress (with_reducible apply Keeps.upd)
    | with_reducible apply keeps_motStartOp
    | with_reducible apply keeps_motStopOp
    | with_reducible refine Keeps.ite (fun _ => ?_) (fun _ => ?_)
    | dsimp +zetaDelta only

theorem keeps_motCtrl {k0 : State} (k : Fin 6) (v : Word) (s : State) (kh : Keeps k0 s) :
    Keeps k0 (motCtrl k v s) := by
  unfold motCtrl
  repeat' first
    | extract_lets
    | intro _
    | with_reducible assumption
    | fail_if_no_progress (with_reducible apply Keeps.upd)
    | with_reducible apply keeps_dumpFollow
    | with_reducible apply keeps_motMod
    | with_reducible refine Keeps.ite (fun _ => ?_) (fun _ => ?_)

theorem keeps_motCurcfg {k0 : State} (k : Fin 6) (v : Word) (s : State) (kh : Keeps k0 s) :
    Keeps k0 (motCurcfg k v s) := by
  unfold motCurcfg
  repeat' first
    | extract_lets
    | intro _
    | with_reducible assumption
    | fail_if_no_progress (with_reducible apply Keeps.upd)
    | with_reducible apply keeps_motMod
    | with_reducible refine Keeps.ite (fun _ => ?_) (fun _ => ?_)

theorem keeps_alignEnd {k0 : State} (k : Fin 6) (s : State) (kh : Keeps k0 s) :
    Keeps k0 (alignEnd k s) := by
  unfold alignEnd
  repeat' first
    | extract_lets
    | intro _
    | with_reducible assumption
    | fail_if_no_progress (with_reducible apply Keeps.upd)
    | with_reducible apply keeps_motMod
    | with_reducible refine Keeps.ite (fun _ => ?_) (fun _ => ?_)

theorem keeps_posFault {k0 : State} (k : Fin 6) (s : State) (kh : Keeps k0 s) :
    Keeps k0 (posFault k s) := by
  unfold posFault
  repeat' first
    | extract_lets
    | intro _
    | with_reducible assumption
    | fail_if_no_progress (with_reducible apply Keeps.upd)
    | with_reducible apply keeps_motMod
    | with_reducible apply keeps_raiseFault
    | dsimp +zetaDelta only

theorem keeps_learnEnd {k0 : State} (k : Fin 6) (cpr : Nat) (s : State) (kh : Keeps k0 s) :
    Keeps k0 (learnEnd k cpr s) := by
  unfold learnEnd
  repeat' first
    | extract_lets
    | intro _
    | with_reducible assumption
    | fail_if_no_progress (with_reducible apply Keeps.upd)
    | with_reducible apply keeps_motMod
    | with_reducible apply keeps_posFault
    | with_reducible refine Keeps.ite (fun _ => ?_) (fun _ => ?_)

theorem keeps_rdcMark {k0 : State} (n : Fin 2) (good : Bool) (s : State) (kh : Keeps k0 s) :
    Keeps k0 (rdcMark n good s) := by
  unfold rdcMark
  repeat' first
    | extract_lets
    | intro _
    | with_reducible assumption
    | fail_if_no_progress (with_reducible apply Keeps.upd)

theorem keeps_resolverFault {k0 : State} (k : Fin 6) (s : State) (kh : Keeps k0 s) :
    Keeps k0 (resolverFault k s) := by
  unfold resolverFault
  repeat' first
    | extract_lets
    | intro _
    | with_reducible assumption
    | fail_if_no_progress (with_reducible apply Keeps.upd)
    | with_reducible apply keeps_rdcMark
    | with_reducible apply keeps_posFault
    | with_reducible refine Keeps.ite (fun _ => ?_) (fun _ => ?_)
    | dsimp +zetaDelta only

theorem keeps_rdcTake {k0 : State} (n : Fin 2) (d : Word) (r : ResSample) (s : State) (kh : Keeps k0 s) :
    Keeps k0 (rdcTake n d r s) := by
  unfold rdcTake
  repeat' first
    | extract_lets
    | intro _
    | with_reducible assumption
    | fail_if_no_progress (with_reducible apply Keeps.upd)
    | with_reducible refine Keeps.ite (fun _ => ?_) (fun _ => ?_)

theorem keeps_regMeasure {k0 : State} (k : Fin 6) (delta : Word) (pin : Option PinSample) (res : ResSample) (s : State) (kh : Keeps k0 s) :
    Keeps k0 (regMeasure k delta pin res s) := by
  unfold regMeasure
  repeat' first
    | extract_lets
    | intro _
    | with_reducible assumption
    | fail_if_no_progress (with_reducible apply Keeps.upd)
    | with_reducible apply keeps_motMod
    | with_reducible apply keeps_rdcTake
    | with_reducible apply keeps_rdcMark
    | with_reducible apply keeps_resolverFault
    | with_reducible refine Keeps.ite (fun _ => ?_) (fun _ => ?_)
    | dsimp +zetaDelta only

theorem keeps_regStep {k0 : State} (k : Fin 6) (rpm : BitVec 16) (s : State) (kh : Keeps k0 s) :
    Keeps k0 (regStep k rpm s) := by
  unfold regStep
  repeat' first
    | extract_lets
    | intro _
    | with_reducible assumption
    | fail_if_no_progress (with_reducible apply Keeps.upd)
    | with_reducible apply keeps_motMod
    | split

theorem keeps_speedLost {k0 : State} (k : Fin 6) (s : State) (kh : Keeps k0 s) :
    Keeps k0 (speedLost k s) := by
  unfold speedLost
  repeat' first
    | extract_lets
    | intro _
    | with_reducible assumption
    | fail_if_no_progress (with_reducible apply Keeps.upd)
    | with_reducible apply keeps_motMod

theorem keeps_pinStuck {k0 : State} (k : Fin 6) (s : State) (kh : Keeps k0 s) :
    Keeps k0 (pinStuck k s) := by
  unfold pinStuck
  repeat' first
    | extract_lets
    | intro _
    | with_reducible assumption
    | fail_if_no_progress (with_reducible apply Keeps.upd)
    | with_reducible apply keeps_motMod
    | with_reducible refine Keeps.ite (fun _ => ?_) (fun _ => ?_)

theorem keeps_toBrake {k0 : State} (k : Fin 6) (s : State) (kh : Keeps k0 s) :
    Keeps k0 (toBrake k s) := by
  unfold toBrake
  repeat' first
    | extract_lets
    | intro _
    | with_reducible assumption
    | fail_if_no_progress (with_reducible apply Keeps.upd)
    | with_reducible apply keeps_motMod
    | with_reducible refine Keeps.ite (fun _ => ?_) (fun _ => ?_)

theorem keeps_brakeEnd {k0 : State} (k : Fin 6) (s : State) (kh : Keeps k0 s) :
    Keeps k0 (brakeEnd k s) := by
  unfold brakeEnd
  repeat' first
    | extract_lets
    | intro _
    | with_reducible assumption
    | fail_if_no_progress (with_reducible apply Keeps.upd)
    | with_reducible apply keeps_motMod
    | with_reducible refine Keeps.ite (fun _ => ?_) (fun _ => ?_)

theorem keeps_backoffAll {k0 : State} (s : State) (kh : Keeps k0 s) :
    Keeps k0 (backoffAll s) := by
  unfold backoffAll
  repeat' first
    | extract_lets
    | intro _
    | with_reducible assumption
    | fail_if_no_progress (with_reducible apply Keeps.upd)

theorem keeps_mediaJam {k0 : State} (k : Fin 6) (s : State) (kh : Keeps k0 s) :
    Keeps k0 (mediaJam k s) := by
  unfold mediaJam
  repeat' first
    | extract_lets
    | intro _
    | with_reducible assumption
    | fail_if_no_progress (with_reducible apply Keeps.upd)
    | with_reducible apply keeps_raiseFault
    | with_reducible apply keeps_motMod
    | with_reducible refine Keeps.ite (fun _ => ?_) (fun _ => ?_)

theorem keeps_legRefresh {k0 : State} (k : Fin 6) (x : Fin 3) (s : State) (kh : Keeps k0 s) :
    Keeps k0 (legRefresh k x s) := by
  unfold legRefresh
  repeat' first
    | extract_lets
    | intro _
    | with_reducible assumption
    | fail_if_no_progress (with_reducible apply Keeps.upd)
    | with_reducible apply keeps_motMod
    | with_reducible refine Keeps.ite (fun _ => ?_) (fun _ => ?_)

theorem keeps_legRefreshEnd {k0 : State} (k : Fin 6) (x : Fin 3) (s : State) (kh : Keeps k0 s) :
    Keeps k0 (legRefreshEnd k x s) := by
  unfold legRefreshEnd
  repeat' first
    | extract_lets
    | intro _
    | with_reducible assumption
    | fail_if_no_progress (with_reducible apply Keeps.upd)
    | with_reducible apply keeps_motMod
    | with_reducible refine Keeps.ite (fun _ => ?_) (fun _ => ?_)

theorem keeps_pwmCycle {k0 : State} (k : Fin 6) (sh : List Int) (s : State) (kh : Keeps k0 s) :
    Keeps k0 (pwmCycle k sh s) := by
  unfold pwmCycle
  repeat' first
    | extract_lets
    | intro _
    | with_reducible assumption
    | fail_if_no_progress (with_reducible apply Keeps.upd)
    | with_reducible apply keeps_motMod
    | with_reducible refine Keeps.ite (fun _ => ?_) (fun _ => ?_)
    | dsimp +zetaDelta only

theorem keeps_vinSample {k0 : State} (mv : Nat) (s : State) (kh : Keeps k0 s) :
    Keeps k0 (vinSample mv s) := by
  unfold vinSample
  repeat' first
    | extract_lets
    | intro _
    | with_reducible assumption
    | fail_if_no_progress (with_reducible apply Keeps.upd)
    | with_reducible refine Keeps.ite (fun _ => ?_) (fun _ => ?_)

/-! Machine/Cache.lean -/

theorem keeps_cboClean {k0 : State} (addr : BitVec 40) (s : State) (kh : Keeps k0 s) :
    Keeps k0 (cboClean addr s) := by
  unfold cboClean
  repeat' first
    | extract_lets
    | intro _
    | with_reducible assumption
    | fail_if_no_progress (with_reducible apply Keeps.upd)
    | with_reducible apply keeps_markClean
    | with_reducible apply keeps_writeBack
    | with_reducible apply keeps_countWb

theorem keeps_cboFlush {k0 : State} (addr : BitVec 40) (s : State) (kh : Keeps k0 s) :
    Keeps k0 (cboFlush addr s) := by
  unfold cboFlush
  repeat' first
    | extract_lets
    | intro _
    | with_reducible assumption
    | fail_if_no_progress (with_reducible apply Keeps.upd)
    | with_reducible apply keeps_dropLine
    | with_reducible apply keeps_writeBack
    | with_reducible apply keeps_countWb

theorem keeps_cboInval {k0 : State} (addr : BitVec 40) (s : State) (kh : Keeps k0 s) :
    Keeps k0 (cboInval addr s) := by
  unfold cboInval
  repeat' first
    | extract_lets
    | intro _
    | with_reducible assumption
    | fail_if_no_progress (with_reducible apply Keeps.upd)
    | with_reducible apply keeps_dropLine

theorem keeps_cboAccess {k0 : State} (h : Fin 4) (addr : BitVec 40) (f : State → State) (s : State) (hf : ∀ y, Keeps k0 y → Keeps k0 (f y)) (kh : Keeps k0 s) :
    Keeps k0 (cboAccess h addr f s) := by
  unfold cboAccess
  repeat' first
    | extract_lets
    | intro _
    | with_reducible apply hf
    | with_reducible assumption
    | fail_if_no_progress (with_reducible apply Keeps.upd)
    | with_reducible apply keeps_errorResponse
    | with_reducible refine Keeps.ite (fun _ => ?_) (fun _ => ?_)

theorem keeps_l2CntClr {k0 : State} (v : Word) (s : State) (kh : Keeps k0 s) :
    Keeps k0 (l2CntClr v s) := by
  unfold l2CntClr
  repeat' first
    | extract_lets
    | intro _
    | with_reducible assumption
    | fail_if_no_progress (with_reducible apply Keeps.upd)
    | with_reducible refine Keeps.ite (fun _ => ?_) (fun _ => ?_)

theorem keeps_l2Maint {k0 : State} (op : BitVec 2) (s : State) (kh : Keeps k0 s) :
    Keeps k0 (l2Maint op s) := by
  unfold l2Maint
  repeat' first
    | extract_lets
    | intro _
    | with_reducible assumption
    | fail_if_no_progress (with_reducible apply Keeps.upd)
    | with_reducible refine Keeps.ite (fun _ => ?_) (fun _ => ?_)

theorem keeps_l2Done {k0 : State} (s : State) (kh : Keeps k0 s) :
    Keeps k0 (l2Done s) := by
  unfold l2Done
  repeat' first
    | extract_lets
    | intro _
    | with_reducible assumption
    | fail_if_no_progress (with_reducible apply Keeps.upd)
    | with_reducible apply keeps_markClean
    | with_reducible apply keeps_writeBack
    | with_reducible apply keeps_countWb
    | with_reducible apply keeps_dropLine
    | with_reducible refine Keeps.ite (fun _ => ?_) (fun _ => ?_)
    | with_reducible refine Keeps.foldl (fun _ _ _ => ?_) ?_
    | split
    | dsimp +zetaDelta only

theorem keeps_l2Fill {k0 : State} (line : Nat) (s : State) (kh : Keeps k0 s) :
    Keeps k0 (l2Fill line s) := by
  unfold l2Fill
  repeat' first
    | extract_lets
    | intro _
    | with_reducible assumption
    | fail_if_no_progress (with_reducible apply Keeps.upd)
    | split

theorem keeps_recallLine {k0 : State} (line : Nat) (s : State) (kh : Keeps k0 s) :
    Keeps k0 (recallLine line s) := by
  unfold recallLine
  repeat' first
    | extract_lets
    | intro _
    | with_reducible assumption
    | fail_if_no_progress (with_reducible apply Keeps.upd)
    | with_reducible refine Keeps.ite (fun _ => ?_) (fun _ => ?_)

theorem keeps_l1Put {k0 : State} (c : Fin 4) (l : L1Line) (s : State) (kh : Keeps k0 s) :
    Keeps k0 (l1Put c l s) := by
  unfold l1Put
  repeat' first
    | extract_lets
    | intro _
    | with_reducible assumption
    | fail_if_no_progress (with_reducible apply Keeps.upd)

theorem keeps_l2Dir {k0 : State} (line : Nat) (owner : Option (Fin 4)) (sharers : BitVec 4) (s : State) (kh : Keeps k0 s) :
    Keeps k0 (l2Dir line owner sharers s) := by
  unfold l2Dir
  repeat' first
    | extract_lets
    | intro _
    | with_reducible assumption
    | fail_if_no_progress (with_reducible apply Keeps.upd)
    | with_reducible refine Keeps.ite (fun _ => ?_) (fun _ => ?_)

theorem keeps_lineError {k0 : State} (c : Fin 4) (line : Nat) (kind : BitVec 2) (e : ErrSource) (s : State) (kh : Keeps k0 s) :
    Keeps k0 (lineError c line kind e s) := by
  unfold lineError
  repeat' first
    | extract_lets
    | intro _
    | with_reducible assumption
    | fail_if_no_progress (with_reducible apply Keeps.upd)
    | with_reducible apply keeps_errorResponse

theorem keeps_serveReq {k0 : State} (r : CohReq) (s : State) (kh : Keeps k0 s) :
    Keeps k0 (serveReq r s) := by
  unfold serveReq
  repeat' first
    | extract_lets
    | intro _
    | with_reducible assumption
    | fail_if_no_progress (with_reducible apply Keeps.upd)
    | with_reducible apply keeps_ioWrite
    | with_reducible apply keeps_ioWriteLine
    | with_reducible apply keeps_errorResponse
    | with_reducible apply keeps_lineError
    | with_reducible apply keeps_recallLine
    | with_reducible apply keeps_l2Fill
    | with_reducible apply keeps_l1Put
    | with_reducible apply keeps_l2Dir
    | with_reducible refine Keeps.ite (fun _ => ?_) (fun _ => ?_)
    | with_reducible refine Keeps.foldl (fun _ _ _ => ?_) ?_
    | split
    | dsimp +zetaDelta only

theorem keeps_coherenceTurn {k0 : State} (bank : Fin 4) (reqs : List CohReq) (s : State) (kh : Keeps k0 s) :
    Keeps k0 (coherenceTurn bank reqs s) := by
  unfold coherenceTurn
  repeat' first
    | extract_lets
    | intro _
    | with_reducible assumption
    | fail_if_no_progress (with_reducible apply Keeps.upd)
    | with_reducible apply keeps_serveReq
    | with_reducible refine Keeps.ite (fun _ => ?_) (fun _ => ?_)
    | with_reducible refine Keeps.foldl (fun _ _ _ => ?_) ?_
    | dsimp +zetaDelta only

theorem keeps_drainCore {k0 : State} (c : Fin 4) (s : State) (kh : Keeps k0 s) :
    Keeps k0 (drainCore c s) := by
  unfold drainCore
  repeat' first
    | extract_lets
    | intro _
    | with_reducible assumption
    | fail_if_no_progress (with_reducible apply Keeps.upd)
    | with_reducible refine Keeps.ite (fun _ => ?_) (fun _ => ?_)
    | split

theorem keeps_drainBank {k0 : State} (b : Fin 4) (s : State) (kh : Keeps k0 s) :
    Keeps k0 (drainBank b s) := by
  unfold drainBank
  repeat' first
    | extract_lets
    | intro _
    | with_reducible assumption
    | fail_if_no_progress (with_reducible apply Keeps.upd)
    | with_reducible apply keeps_dropLine
    | with_reducible apply keeps_writeBack
    | with_reducible apply keeps_countWb
    | with_reducible refine Keeps.ite (fun _ => ?_) (fun _ => ?_)
    | with_reducible refine Keeps.foldl (fun _ _ _ => ?_) ?_

/-! Machine/Beam.lean -/

theorem keeps_burstFail {k0 : State} (l : LineSlot) (s : State) (kh : Keeps k0 s) :
    Keeps k0 (burstFail l s) := by
  unfold burstFail
  repeat' first
    | extract_lets
    | intro _
    | with_reducible assumption
    | fail_if_no_progress (with_reducible apply Keeps.upd)
    | with_reducible apply keeps_errorResponse
    | with_reducible refine Keeps.ite (fun _ => ?_) (fun _ => ?_)

theorem keeps_useGrant {k0 : State} (s : State) (kh : Keeps k0 s) :
    Keeps k0 (useGrant s) := by
  unfold useGrant
  repeat' first
    | extract_lets
    | intro _
    | with_reducible assumption
    | fail_if_no_progress (with_reducible apply Keeps.upd)

theorem keeps_burst {k0 : State} (s : State) (kh : Keeps k0 s) :
    Keeps k0 (burst s) := by
  unfold burst
  repeat' first
    | extract_lets
    | intro _
    | with_reducible assumption
    | fail_if_no_progress (with_reducible apply Keeps.upd)
    | with_reducible apply keeps_useGrant
    | with_reducible apply keeps_burstFail
    | with_reducible refine Keeps.ite (fun _ => ?_) (fun _ => ?_)
    | split
    | dsimp +zetaDelta only

theorem keeps_burstError {k0 : State} (s : State) (kh : Keeps k0 s) :
    Keeps k0 (burstError s) := by
  unfold burstError
  repeat' first
    | extract_lets
    | intro _
    | with_reducible assumption
    | fail_if_no_progress (with_reducible apply Keeps.upd)
    | with_reducible apply keeps_useGrant
    | with_reducible apply keeps_burstFail
    | with_reducible refine Keeps.ite (fun _ => ?_) (fun _ => ?_)
    | split
    | dsimp +zetaDelta only

theorem keeps_vfCtrl {k0 : State} (v : Word) (s : State) (kh : Keeps k0 s) :
    Keeps k0 (vfCtrl v s) := by
  unfold vfCtrl
  repeat' first
    | extract_lets
    | intro _
    | with_reducible assumption
    | fail_if_no_progress (with_reducible apply Keeps.upd)
    | with_reducible refine Keeps.ite (fun _ => ?_) (fun _ => ?_)

theorem keeps_vfField {k0 : State} (f : Video → Video) (s : State) (kh : Keeps k0 s) :
    Keeps k0 (vfField f s) := by
  unfold vfField
  repeat' first
    | extract_lets
    | intro _
    | with_reducible assumption
    | fail_if_no_progress (with_reducible apply Keeps.upd)
    | with_reducible refine Keeps.ite (fun _ => ?_) (fun _ => ?_)

theorem keeps_vfEvClear {k0 : State} (v : Word) (s : State) (kh : Keeps k0 s) :
    Keeps k0 (vfEvClear v s) := by
  unfold vfEvClear
  repeat' first
    | extract_lets
    | intro _
    | with_reducible assumption
    | fail_if_no_progress (with_reducible apply Keeps.upd)

theorem keeps_videoArm {k0 : State} (s : State) (kh : Keeps k0 s) :
    Keeps k0 (videoArm s) := by
  unfold videoArm
  repeat' first
    | extract_lets
    | intro _
    | with_reducible assumption
    | fail_if_no_progress (with_reducible apply Keeps.upd)
    | with_reducible refine Keeps.ite (fun _ => ?_) (fun _ => ?_)

theorem keeps_setLit {k0 : State} (b : Fin 4) (v : Bool) (s : State) (kh : Keeps k0 s) :
    Keeps k0 (setLit b v s) := by
  unfold setLit
  repeat' first
    | extract_lets
    | intro _
    | with_reducible assumption
    | fail_if_no_progress (with_reducible apply Keeps.upd)

theorem keeps_bmCtrl {k0 : State} (v : Word) (s : State) (kh : Keeps k0 s) :
    Keeps k0 (bmCtrl v s) := by
  unfold bmCtrl
  repeat' first
    | extract_lets
    | intro _
    | with_reducible assumption
    | fail_if_no_progress (with_reducible apply Keeps.upd)
    | with_reducible refine Keeps.ite (fun _ => ?_) (fun _ => ?_)

theorem keeps_bmField {k0 : State} (f : BeamUnit → BeamUnit) (s : State) (kh : Keeps k0 s) :
    Keeps k0 (bmField f s) := by
  unfold bmField
  repeat' first
    | extract_lets
    | intro _
    | with_reducible assumption
    | fail_if_no_progress (with_reducible apply Keeps.upd)
    | with_reducible refine Keeps.ite (fun _ => ?_) (fun _ => ?_)

theorem keeps_bmLdCfg {k0 : State} (b : Fin 4) (v : Word) (s : State) (kh : Keeps k0 s) :
    Keeps k0 (bmLdCfg b v s) := by
  unfold bmLdCfg
  repeat' first
    | extract_lets
    | intro _
    | with_reducible assumption
    | fail_if_no_progress (with_reducible apply Keeps.upd)
    | with_reducible apply keeps_bmField

theorem keeps_bmCeilReq {k0 : State} (b : Fin 4) (v : BitVec 11) (s : State) (kh : Keeps k0 s) :
    Keeps k0 (bmCeilReq b v s) := by
  unfold bmCeilReq
  repeat' first
    | extract_lets
    | intro _
    | with_reducible assumption
    | fail_if_no_progress (with_reducible apply Keeps.upd)

theorem keeps_bmDrive {k0 : State} (b : Fin 4) (v : BitVec 11) (s : State) (kh : Keeps k0 s) :
    Keeps k0 (bmDrive b v s) := by
  unfold bmDrive
  repeat' first
    | extract_lets
    | intro _
    | with_reducible assumption
    | fail_if_no_progress (with_reducible apply Keeps.upd)
    | with_reducible apply keeps_bmField
    | with_reducible refine Keeps.ite (fun _ => ?_) (fun _ => ?_)

theorem keeps_bmDelay {k0 : State} (b : Fin 4) (v : BitVec 16) (s : State) (kh : Keeps k0 s) :
    Keeps k0 (bmDelay b v s) := by
  unfold bmDelay
  repeat' first
    | extract_lets
    | intro _
    | with_reducible assumption
    | fail_if_no_progress (with_reducible apply Keeps.upd)
    | with_reducible apply keeps_bmField
    | with_reducible refine Keeps.ite (fun _ => ?_) (fun _ => ?_)

theorem keeps_bmEvClear {k0 : State} (v : Word) (s : State) (kh : Keeps k0 s) :
    Keeps k0 (bmEvClear v s) := by
  unfold bmEvClear
  repeat' first
    | extract_lets
    | intro _
    | with_reducible assumption
    | fail_if_no_progress (with_reducible apply Keeps.upd)

theorem keeps_interlockOpen {k0 : State} (s : State) (kh : Keeps k0 s) :
    Keeps k0 (interlockOpen s) := by
  unfold interlockOpen
  repeat' first
    | extract_lets
    | intro _
    | with_reducible assumption
    | fail_if_no_progress (with_reducible apply Keeps.upd)
    | with_reducible apply keeps_raiseFault

theorem keeps_beamArm {k0 : State} (s : State) (kh : Keeps k0 s) :
    Keeps k0 (beamArm s) := by
  unfold beamArm
  repeat' first
    | extract_lets
    | intro _
    | with_reducible assumption
    | fail_if_no_progress (with_reducible apply Keeps.upd)
    | with_reducible apply keeps_interlockOpen
    | with_reducible refine Keeps.ite (fun _ => ?_) (fun _ => ?_)
    | dsimp +zetaDelta only

theorem keeps_bdMiss {k0 : State} (s : State) (kh : Keeps k0 s) :
    Keeps k0 (bdMiss s) := by
  unfold bdMiss
  repeat' first
    | extract_lets
    | intro _
    | with_reducible assumption
    | fail_if_no_progress (with_reducible apply Keeps.upd)
    | with_reducible apply keeps_raiseFault

theorem keeps_gateOpen {k0 : State} (s : State) (kh : Keeps k0 s) :
    Keeps k0 (gateOpen s) := by
  unfold gateOpen
  repeat' first
    | extract_lets
    | intro _
    | with_reducible assumption
    | fail_if_no_progress (with_reducible apply Keeps.upd)
    | with_reducible apply keeps_setLit
    | with_reducible refine Keeps.ite (fun _ => ?_) (fun _ => ?_)
    | split

theorem keeps_gateClose {k0 : State} (s : State) (kh : Keeps k0 s) :
    Keeps k0 (gateClose s) := by
  unfold gateClose
  repeat' first
    | extract_lets
    | intro _
    | with_reducible assumption
    | fail_if_no_progress (with_reducible apply Keeps.upd)
    | with_reducible apply keeps_setLit
    | with_reducible apply keeps_bdMiss
    | with_reducible refine Keeps.ite (fun _ => ?_) (fun _ => ?_)
    | split

theorem keeps_pulseStart {k0 : State} (s : State) (kh : Keeps k0 s) :
    Keeps k0 (pulseStart s) := by
  unfold pulseStart
  repeat' first
    | extract_lets
    | intro _
    | with_reducible assumption
    | fail_if_no_progress (with_reducible apply Keeps.upd)
    | with_reducible apply keeps_setLit
    | with_reducible refine Keeps.ite (fun _ => ?_) (fun _ => ?_)

theorem keeps_pulseEnd {k0 : State} (s : State) (kh : Keeps k0 s) :
    Keeps k0 (pulseEnd s) := by
  unfold pulseEnd
  repeat' first
    | extract_lets
    | intro _
    | with_reducible assumption
    | fail_if_no_progress (with_reducible apply Keeps.upd)
    | with_reducible apply keeps_setLit
    | with_reducible refine Keeps.ite (fun _ => ?_) (fun _ => ?_)

theorem keeps_facetStart {k0 : State} (s : State) (kh : Keeps k0 s) :
    Keeps k0 (facetStart s) := by
  unfold facetStart
  repeat' first
    | extract_lets
    | intro _
    | with_reducible assumption
    | fail_if_no_progress (with_reducible apply Keeps.upd)
    | with_reducible refine Keeps.ite (fun _ => ?_) (fun _ => ?_)

theorem keeps_edgeAccept {k0 : State} (e : BdEdge) (mons : List (BitVec 12)) (s : State) (kh : Keeps k0 s) :
    Keeps k0 (edgeAccept e mons s) := by
  unfold edgeAccept
  repeat' first
    | extract_lets
    | intro _
    | with_reducible assumption
    | fail_if_no_progress (with_reducible apply Keeps.upd)
    | with_reducible apply keeps_rampRetrigger
    | with_reducible apply keeps_setLit
    | with_reducible apply keeps_facetStart
    | with_reducible refine Keeps.ite (fun _ => ?_) (fun _ => ?_)
    | dsimp +zetaDelta only

theorem keeps_edgeExtra {k0 : State} (s : State) (kh : Keeps k0 s) :
    Keeps k0 (edgeExtra s) := by
  unfold edgeExtra
  repeat' first
    | extract_lets
    | intro _
    | with_reducible assumption
    | fail_if_no_progress (with_reducible apply Keeps.upd)
    | with_reducible refine Keeps.ite (fun _ => ?_) (fun _ => ?_)

theorem keeps_checkFail {k0 : State} (s : State) (kh : Keeps k0 s) :
    Keeps k0 (checkFail s) := by
  unfold checkFail
  repeat' first
    | extract_lets
    | intro _
    | with_reducible assumption
    | fail_if_no_progress (with_reducible apply Keeps.upd)
    | with_reducible apply keeps_bdMiss
    | with_reducible refine Keeps.ite (fun _ => ?_) (fun _ => ?_)

theorem keeps_underrun {k0 : State} (s : State) (kh : Keeps k0 s) :
    Keeps k0 (underrun s) := by
  unfold underrun
  repeat' first
    | extract_lets
    | intro _
    | with_reducible assumption
    | fail_if_no_progress (with_reducible apply Keeps.upd)
    | with_reducible apply keeps_raiseFault
    | with_reducible apply keeps_blankBeams

theorem keeps_lineDue {k0 : State} (s : State) (kh : Keeps k0 s) :
    Keeps k0 (lineDue s) := by
  unfold lineDue
  repeat' first
    | extract_lets
    | intro _
    | with_reducible assumption
    | fail_if_no_progress (with_reducible apply Keeps.upd)
    | with_reducible apply keeps_underrun
    | with_reducible refine Keeps.ite (fun _ => ?_) (fun _ => ?_)
    | split
    | dsimp +zetaDelta only

theorem keeps_facetRelease {k0 : State} (s : State) (kh : Keeps k0 s) :
    Keeps k0 (facetRelease s) := by
  unfold facetRelease
  repeat' first
    | extract_lets
    | intro _
    | with_reducible assumption
    | fail_if_no_progress (with_reducible apply Keeps.upd)
    | with_reducible refine Keeps.ite (fun _ => ?_) (fun _ => ?_)

theorem keeps_ldilLow {k0 : State} (s : State) (kh : Keeps k0 s) :
    Keeps k0 (ldilLow s) := by
  unfold ldilLow
  repeat' first
    | extract_lets
    | intro _
    | with_reducible assumption
    | fail_if_no_progress (with_reducible apply Keeps.upd)
    | with_reducible apply keeps_interlockOpen
    | with_reducible refine Keeps.ite (fun _ => ?_) (fun _ => ?_)
    | dsimp +zetaDelta only

theorem keeps_ldilHigh {k0 : State} (s : State) (kh : Keeps k0 s) :
    Keeps k0 (ldilHigh s) := by
  unfold ldilHigh
  repeat' first
    | extract_lets
    | intro _
    | with_reducible assumption
    | fail_if_no_progress (with_reducible apply Keeps.upd)

theorem keeps_diagPulse {k0 : State} (b : Fin 4) (s : State) (kh : Keeps k0 s) :
    Keeps k0 (diagPulse b s) := by
  unfold diagPulse
  repeat' first
    | extract_lets
    | intro _
    | with_reducible assumption
    | fail_if_no_progress (with_reducible apply Keeps.upd)
    | with_reducible refine Keeps.ite (fun _ => ?_) (fun _ => ?_)
    | split

end Sys2Proof.Machine
end

