-- ==== Sys2Proof/Laws/KeepsUnits.lean ====
section
/-! SUPPORT. One lemma per operation of Machine/ (Gpio, Loops, Link, Steelyard, Tally, Apply, Ledger, Crypto, Barrow, Clock32): each keeps the queue and the form of memory. -/

namespace Sys2Proof.Machine

/-! Machine/Gpio.lean -/

theorem keeps_withEdges {k0 : State} (b : Fin 4) (f : State → State) (s : State) (hf : ∀ y, Keeps k0 y → Keeps k0 (f y)) (kh : Keeps k0 s) :
    Keeps k0 (withEdges b f s) := by
  unfold withEdges
  repeat' first
    | extract_lets
    | intro _
    | with_reducible apply hf
    | with_reducible assumption
    | fail_if_no_progress (with_reducible apply Keeps.upd)

theorem keeps_setLatch {k0 : State} (b : Fin 4) (v : Word) (s : State) (kh : Keeps k0 s) :
    Keeps k0 (setLatch b v s) := by
  unfold setLatch
  repeat' first
    | extract_lets
    | intro _
    | with_reducible assumption
    | fail_if_no_progress (with_reducible apply Keeps.upd)
    | with_reducible apply keeps_withEdges

theorem keeps_outVal {k0 : State} (b : Fin 4) (v : Word) (s : State) (kh : Keeps k0 s) :
    Keeps k0 (outVal b v s) := by
  unfold outVal
  repeat' first
    | extract_lets
    | intro _
    | with_reducible assumption
    | fail_if_no_progress (with_reducible apply Keeps.upd)
    | with_reducible apply keeps_setLatch

theorem keeps_outSetBits {k0 : State} (b : Fin 4) (v : Word) (s : State) (kh : Keeps k0 s) :
    Keeps k0 (outSetBits b v s) := by
  unfold outSetBits
  repeat' first
    | extract_lets
    | intro _
    | with_reducible assumption
    | fail_if_no_progress (with_reducible apply Keeps.upd)
    | with_reducible apply keeps_setLatch

theorem keeps_outClrBits {k0 : State} (b : Fin 4) (v : Word) (s : State) (kh : Keeps k0 s) :
    Keeps k0 (outClrBits b v s) := by
  unfold outClrBits
  repeat' first
    | extract_lets
    | intro _
    | with_reducible assumption
    | fail_if_no_progress (with_reducible apply Keeps.upd)
    | with_reducible apply keeps_setLatch

theorem keeps_outTglBits {k0 : State} (b : Fin 4) (v : Word) (s : State) (kh : Keeps k0 s) :
    Keeps k0 (outTglBits b v s) := by
  unfold outTglBits
  repeat' first
    | extract_lets
    | intro _
    | with_reducible assumption
    | fail_if_no_progress (with_reducible apply Keeps.upd)
    | with_reducible apply keeps_setLatch

theorem keeps_irqCfgWrite {k0 : State} (b : Fin 4) (n : Fin 4) (v : Word) (s : State) (kh : Keeps k0 s) :
    Keeps k0 (irqCfgWrite b n v s) := by
  unfold irqCfgWrite
  repeat' first
    | extract_lets
    | intro _
    | with_reducible assumption
    | fail_if_no_progress (with_reducible apply Keeps.upd)
    | with_reducible refine Keeps.ite (fun _ => ?_) (fun _ => ?_)
    | with_reducible refine Keeps.foldl (fun _ _ _ => ?_) ?_

theorem keeps_evtClear {k0 : State} (b : Fin 4) (v : Word) (s : State) (kh : Keeps k0 s) :
    Keeps k0 (evtClear b v s) := by
  unfold evtClear
  repeat' first
    | extract_lets
    | intro _
    | with_reducible assumption
    | fail_if_no_progress (with_reducible apply Keeps.upd)

theorem keeps_pincfgWrite {k0 : State} (p : Nat) (v : Word) (s : State) (kh : Keeps k0 s) :
    Keeps k0 (pincfgWrite p v s) := by
  unfold pincfgWrite
  repeat' first
    | extract_lets
    | intro _
    | with_reducible assumption
    | fail_if_no_progress (with_reducible apply Keeps.upd)
    | with_reducible apply keeps_withEdges
    | with_reducible refine Keeps.ite (fun _ => ?_) (fun _ => ?_)

theorem keeps_lockKey {k0 : State} (m : Master) (b : Fin 4) (v : Word) (s : State) (kh : Keeps k0 s) :
    Keeps k0 (lockKey m b v s) := by
  unfold lockKey
  repeat' first
    | extract_lets
    | intro _
    | with_reducible assumption
    | fail_if_no_progress (with_reducible apply Keeps.upd)
    | with_reducible refine Keeps.ite (fun _ => ?_) (fun _ => ?_)

theorem keeps_lockMask {k0 : State} (m : Master) (b : Fin 4) (v : Word) (s : State) (kh : Keeps k0 s) :
    Keeps k0 (lockMask m b v s) := by
  unfold lockMask
  repeat' first
    | extract_lets
    | intro _
    | with_reducible assumption
    | fail_if_no_progress (with_reducible apply Keeps.upd)
    | with_reducible refine Keeps.ite (fun _ => ?_) (fun _ => ?_)

theorem keeps_padChange {k0 : State} (b : Fin 4) (pin : Fin 32) (level : Bool) (s : State) (kh : Keeps k0 s) :
    Keeps k0 (padChange b pin level s) := by
  unfold padChange
  repeat' first
    | extract_lets
    | intro _
    | with_reducible assumption
    | fail_if_no_progress (with_reducible apply Keeps.upd)
    | with_reducible apply keeps_withEdges
    | with_reducible refine Keeps.ite (fun _ => ?_) (fun _ => ?_)

theorem keeps_gpioOff {k0 : State} (b : Fin 4) (s : State) (kh : Keeps k0 s) :
    Keeps k0 (gpioOff b s) := by
  unfold gpioOff
  repeat' first
    | extract_lets
    | intro _
    | with_reducible assumption
    | fail_if_no_progress (with_reducible apply Keeps.upd)
    | with_reducible refine Keeps.ite (fun _ => ?_) (fun _ => ?_)

/-! Machine/Loops.lean -/

theorem keeps_loopMod {k0 : State} (n : Fin 32) (f : Loop → Loop) (s : State) (kh : Keeps k0 s) :
    Keeps k0 (loopMod n f s) := by
  unfold loopMod
  repeat' first
    | extract_lets
    | intro _
    | with_reducible assumption
    | fail_if_no_progress (with_reducible apply Keeps.upd)

theorem keeps_loopModPin {k0 : State} (n : Fin 32) (f : Loop → Loop) (s : State) (kh : Keeps k0 s) :
    Keeps k0 (loopModPin n f s) := by
  unfold loopModPin
  repeat' first
    | extract_lets
    | intro _
    | with_reducible assumption
    | fail_if_no_progress (with_reducible apply Keeps.upd)
    | with_reducible apply keeps_withEdges
    | with_reducible apply keeps_loopMod

theorem keeps_leCommit {k0 : State} (s : State) (kh : Keeps k0 s) :
    Keeps k0 (leCommit s) := by
  unfold leCommit
  repeat' first
    | extract_lets
    | intro _
    | with_reducible assumption
    | fail_if_no_progress (with_reducible apply Keeps.upd)
    | with_reducible refine Keeps.ite (fun _ => ?_) (fun _ => ?_)
    | split
    | dsimp +zetaDelta only

theorem keeps_heaterStop {k0 : State} (h : Fin 2) (s : State) (kh : Keeps k0 s) :
    Keeps k0 (heaterStop h s) := by
  unfold heaterStop
  repeat' first
    | extract_lets
    | intro _
    | with_reducible assumption
    | fail_if_no_progress (with_reducible apply Keeps.upd)
    | with_reducible refine Keeps.ite (fun _ => ?_) (fun _ => ?_)

theorem keeps_heaterFollow {k0 : State} (h : Fin 2) (s : State) (kh : Keeps k0 s) :
    Keeps k0 (heaterFollow h s) := by
  unfold heaterFollow
  repeat' first
    | extract_lets
    | intro _
    | with_reducible assumption
    | fail_if_no_progress (with_reducible apply Keeps.upd)
    | with_reducible apply keeps_heaterStop
    | with_reducible refine Keeps.ite (fun _ => ?_) (fun _ => ?_)

theorem keeps_schedApply {k0 : State} (s : State) (kh : Keeps k0 s) :
    Keeps k0 (schedApply s) := by
  unfold schedApply
  repeat' first
    | extract_lets
    | intro _
    | with_reducible assumption
    | fail_if_no_progress (with_reducible apply Keeps.upd)
    | with_reducible apply keeps_withEdges
    | with_reducible apply keeps_heaterFollow
    | with_reducible refine Keeps.ite (fun _ => ?_) (fun _ => ?_)
    | dsimp +zetaDelta only

theorem keeps_apcSample {k0 : State} (b : Fin 4) (valid : Bool) (s : State) (kh : Keeps k0 s) :
    Keeps k0 (apcSample b valid s) := by
  unfold apcSample
  repeat' first
    | extract_lets
    | intro _
    | with_reducible assumption
    | fail_if_no_progress (with_reducible apply Keeps.upd)
    | with_reducible apply keeps_loopMod
    | with_reducible refine Keeps.ite (fun _ => ?_) (fun _ => ?_)

theorem keeps_loopSample {k0 : State} (n : Fin 32) (s : State) (kh : Keeps k0 s) :
    Keeps k0 (loopSample n s) := by
  unfold loopSample
  repeat' first
    | extract_lets
    | intro _
    | with_reducible assumption
    | fail_if_no_progress (with_reducible apply Keeps.upd)
    | with_reducible apply keeps_apcSample
    | with_reducible apply keeps_loopModPin
    | with_reducible apply keeps_heaterFollow
    | with_reducible refine Keeps.ite (fun _ => ?_) (fun _ => ?_)
    | dsimp +zetaDelta only

theorem keeps_dwellEnd {k0 : State} (n : Fin 32) (s : State) (kh : Keeps k0 s) :
    Keeps k0 (dwellEnd n s) := by
  unfold dwellEnd
  repeat' first
    | extract_lets
    | intro _
    | with_reducible assumption
    | fail_if_no_progress (with_reducible apply Keeps.upd)
    | with_reducible apply keeps_loopMod

theorem keeps_leCtrl {k0 : State} (v : Word) (s : State) (kh : Keeps k0 s) :
    Keeps k0 (leCtrl v s) := by
  unfold leCtrl
  repeat' first
    | extract_lets
    | intro _
    | with_reducible assumption
    | fail_if_no_progress (with_reducible apply Keeps.upd)
    | with_reducible apply keeps_withEdges
    | with_reducible apply keeps_heaterFollow
    | with_reducible refine Keeps.ite (fun _ => ?_) (fun _ => ?_)
    | dsimp +zetaDelta only

theorem keeps_lpCfg {k0 : State} (n : Fin 32) (v : Word) (s : State) (kh : Keeps k0 s) :
    Keeps k0 (lpCfg n v s) := by
  unfold lpCfg
  repeat' first
    | extract_lets
    | intro _
    | with_reducible assumption
    | fail_if_no_progress (with_reducible apply Keeps.upd)
    | with_reducible apply keeps_loopModPin
    | with_reducible refine Keeps.ite (fun _ => ?_) (fun _ => ?_)

theorem keeps_heaterStart {k0 : State} (h : Fin 2) (s : State) (kh : Keeps k0 s) :
    Keeps k0 (heaterStart h s) := by
  unfold heaterStart
  repeat' first
    | extract_lets
    | intro _
    | with_reducible assumption
    | fail_if_no_progress (with_reducible apply Keeps.upd)
    | with_reducible refine Keeps.ite (fun _ => ?_) (fun _ => ?_)
    | split

theorem keeps_heaterEnd {k0 : State} (h : Fin 2) (mean : BitVec 16) (s : State) (kh : Keeps k0 s) :
    Keeps k0 (heaterEnd h mean s) := by
  unfold heaterEnd
  repeat' first
    | extract_lets
    | intro _
    | with_reducible assumption
    | fail_if_no_progress (with_reducible apply Keeps.upd)
    | with_reducible refine Keeps.ite (fun _ => ?_) (fun _ => ?_)

theorem keeps_fuDutyReq {k0 : State} (v : Word) (s : State) (kh : Keeps k0 s) :
    Keeps k0 (fuDutyReq v s) := by
  unfold fuDutyReq
  repeat' first
    | extract_lets
    | intro _
    | with_reducible assumption
    | fail_if_no_progress (with_reducible apply Keeps.upd)
    | with_reducible refine Keeps.ite (fun _ => ?_) (fun _ => ?_)

theorem keeps_fuCtrl {k0 : State} (v : Word) (s : State) (kh : Keeps k0 s) :
    Keeps k0 (fuCtrl v s) := by
  unfold fuCtrl
  repeat' first
    | extract_lets
    | intro _
    | with_reducible assumption
    | fail_if_no_progress (with_reducible apply Keeps.upd)
    | with_reducible apply keeps_heaterStop
    | with_reducible refine Keeps.ite (fun _ => ?_) (fun _ => ?_)
    | dsimp +zetaDelta only

/-! Machine/Link.lean -/

theorem keeps_controlOp {k0 : State} (crcOk : Bool) (seq : BitVec 16) (s : State) (kh : Keeps k0 s) :
    Keeps k0 (controlOp crcOk seq s) := by
  unfold controlOp
  repeat' first
    | extract_lets
    | intro _
    | with_reducible assumption
    | fail_if_no_progress (with_reducible apply Keeps.upd)
    | with_reducible apply keeps_raiseFault
    | with_reducible refine Keeps.ite (fun _ => ?_) (fun _ => ?_)

theorem keeps_linkLoss {k0 : State} (s : State) (kh : Keeps k0 s) :
    Keeps k0 (linkLoss s) := by
  unfold linkLoss
  repeat' first
    | extract_lets
    | intro _
    | with_reducible assumption
    | fail_if_no_progress (with_reducible apply Keeps.upd)
    | with_reducible apply keeps_setCond

theorem keeps_statusConds {k0 : State} (present : BitVec 16) (s : State) (kh : Keeps k0 s) :
    Keeps k0 (statusConds present s) := by
  unfold statusConds
  repeat' first
    | extract_lets
    | intro _
    | with_reducible assumption
    | fail_if_no_progress (with_reducible apply Keeps.upd)
    | with_reducible apply keeps_setConds

theorem keeps_statusAdc {k0 : State} (vals : List (Fin 36 × Word × Bool)) (s : State) (kh : Keeps k0 s) :
    Keeps k0 (statusAdc vals s) := by
  unfold statusAdc
  repeat' first
    | extract_lets
    | intro _
    | with_reducible assumption
    | fail_if_no_progress (with_reducible apply Keeps.upd)
    | with_reducible refine Keeps.ite (fun _ => ?_) (fun _ => ?_)
    | with_reducible refine Keeps.foldl (fun _ _ _ => ?_) ?_
    | dsimp +zetaDelta only

theorem keeps_statusOp {k0 : State} (crcOk : Bool) (seq : BitVec 16) (body : StatusBody) (s : State) (kh : Keeps k0 s) :
    Keeps k0 (statusOp crcOk seq body s) := by
  unfold statusOp
  repeat' first
    | extract_lets
    | intro _
    | with_reducible assumption
    | fail_if_no_progress (with_reducible apply Keeps.upd)
    | with_reducible apply keeps_statusAdc
    | with_reducible apply keeps_statusConds
    | with_reducible apply keeps_linkLoss
    | with_reducible apply keeps_raiseFault
    | with_reducible refine Keeps.ite (fun _ => ?_) (fun _ => ?_)
    | dsimp +zetaDelta only

theorem keeps_linkRecovered {k0 : State} (s : State) (kh : Keeps k0 s) :
    Keeps k0 (linkRecovered s) := by
  unfold linkRecovered
  repeat' first
    | extract_lets
    | intro _
    | with_reducible assumption
    | fail_if_no_progress (with_reducible apply Keeps.upd)
    | with_reducible apply keeps_setCond

theorem keeps_linkRestored {k0 : State} (s : State) (kh : Keeps k0 s) :
    Keeps k0 (linkRestored s) := by
  unfold linkRestored
  repeat' first
    | extract_lets
    | intro _
    | with_reducible assumption
    | fail_if_no_progress (with_reducible apply Keeps.upd)

theorem keeps_safeExitOp {k0 : State} (s : State) (kh : Keeps k0 s) :
    Keeps k0 (safeExitOp s) := by
  unfold safeExitOp
  repeat' first
    | extract_lets
    | intro _
    | with_reducible assumption
    | fail_if_no_progress (with_reducible apply Keeps.upd)
    | with_reducible refine Keeps.ite (fun _ => ?_) (fun _ => ?_)

theorem keeps_hdieReset {k0 : State} (s : State) (kh : Keeps k0 s) :
    Keeps k0 (hdieReset s) := by
  unfold hdieReset
  repeat' first
    | extract_lets
    | intro _
    | with_reducible assumption
    | fail_if_no_progress (with_reducible apply Keeps.upd)
    | with_reducible apply keeps_enterSafe
    | with_reducible apply keeps_raiseFault
    | dsimp +zetaDelta only

theorem keeps_markTrip {k0 : State} (i : Nat) (s : State) (kh : Keeps k0 s) :
    Keeps k0 (markTrip i s) := by
  unfold markTrip
  repeat' first
    | extract_lets
    | intro _
    | with_reducible assumption
    | fail_if_no_progress (with_reducible apply Keeps.upd)

theorem keeps_darkBeams {k0 : State} (mask : BitVec 4) (s : State) (kh : Keeps k0 s) :
    Keeps k0 (darkBeams mask s) := by
  unfold darkBeams
  repeat' first
    | extract_lets
    | intro _
    | with_reducible assumption
    | fail_if_no_progress (with_reducible apply Keeps.upd)
    | with_reducible refine Keeps.ite (fun _ => ?_) (fun _ => ?_)

theorem keeps_ldTrip {k0 : State} (b : Fin 4) (s : State) (kh : Keeps k0 s) :
    Keeps k0 (ldTrip b s) := by
  unfold ldTrip
  repeat' first
    | extract_lets
    | intro _
    | with_reducible assumption
    | fail_if_no_progress (with_reducible apply Keeps.upd)
    | with_reducible apply keeps_markTrip
    | with_reducible apply keeps_darkBeams
    | with_reducible apply keeps_setCond
    | dsimp +zetaDelta only

theorem keeps_onTimeTrip {k0 : State} (s : State) (kh : Keeps k0 s) :
    Keeps k0 (onTimeTrip s) := by
  unfold onTimeTrip
  repeat' first
    | extract_lets
    | intro _
    | with_reducible assumption
    | fail_if_no_progress (with_reducible apply Keeps.upd)
    | with_reducible apply keeps_raiseFault
    | with_reducible apply keeps_markTrip
    | with_reducible apply keeps_darkBeams

theorem keeps_dutyHold {k0 : State} (h : Fin 2) (s : State) (kh : Keeps k0 s) :
    Keeps k0 (dutyHold h s) := by
  unfold dutyHold
  repeat' first
    | extract_lets
    | intro _
    | with_reducible assumption
    | fail_if_no_progress (with_reducible apply Keeps.upd)

theorem keeps_heatersOff {k0 : State} (s : State) (kh : Keeps k0 s) :
    Keeps k0 (heatersOff s) := by
  unfold heatersOff
  repeat' first
    | extract_lets
    | intro _
    | with_reducible assumption
    | fail_if_no_progress (with_reducible apply Keeps.upd)

theorem keeps_stuckTrip {k0 : State} (h : Fin 2) (s : State) (kh : Keeps k0 s) :
    Keeps k0 (stuckTrip h s) := by
  unfold stuckTrip
  repeat' first
    | extract_lets
    | intro _
    | with_reducible assumption
    | fail_if_no_progress (with_reducible apply Keeps.upd)
    | with_reducible apply keeps_setCond
    | with_reducible apply keeps_markTrip
    | with_reducible apply keeps_heatersOff

theorem keeps_tsfOp {k0 : State} (mv : BitVec 12) (s : State) (kh : Keeps k0 s) :
    Keeps k0 (tsfOp mv s) := by
  unfold tsfOp
  repeat' first
    | extract_lets
    | intro _
    | with_reducible assumption
    | fail_if_no_progress (with_reducible apply Keeps.upd)
    | with_reducible apply keeps_setCond
    | with_reducible apply keeps_markTrip
    | with_reducible apply keeps_heatersOff
    | with_reducible refine Keeps.ite (fun _ => ?_) (fun _ => ?_)
    | dsimp +zetaDelta only

theorem keeps_phaseTrip {k0 : State} (k : Fin 6) (s : State) (kh : Keeps k0 s) :
    Keeps k0 (phaseTrip k s) := by
  unfold phaseTrip
  repeat' first
    | extract_lets
    | intro _
    | with_reducible assumption
    | fail_if_no_progress (with_reducible apply Keeps.upd)
    | with_reducible apply keeps_motMod
    | with_reducible apply keeps_raiseFault
    | with_reducible apply keeps_markTrip
    | with_reducible refine Keeps.ite (fun _ => ?_) (fun _ => ?_)
    | dsimp +zetaDelta only

theorem keeps_hvTrip {k0 : State} (c : Fin 3) (s : State) (kh : Keeps k0 s) :
    Keeps k0 (hvTrip c s) := by
  unfold hvTrip
  repeat' first
    | extract_lets
    | intro _
    | with_reducible assumption
    | fail_if_no_progress (with_reducible apply Keeps.upd)
    | with_reducible apply keeps_setCond
    | with_reducible apply keeps_markTrip

theorem keeps_speedTrip {k0 : State} (k : Fin 6) (s : State) (kh : Keeps k0 s) :
    Keeps k0 (speedTrip k s) := by
  unfold speedTrip
  repeat' first
    | extract_lets
    | intro _
    | with_reducible assumption
    | fail_if_no_progress (with_reducible apply Keeps.upd)
    | with_reducible apply keeps_motMod
    | with_reducible apply keeps_setCond
    | with_reducible apply keeps_markTrip
    | with_reducible refine Keeps.ite (fun _ => ?_) (fun _ => ?_)
    | dsimp +zetaDelta only

theorem keeps_hvInhibit {k0 : State} (c : Fin 3) (on : Bool) (s : State) (kh : Keeps k0 s) :
    Keeps k0 (hvInhibit c on s) := by
  unfold hvInhibit
  repeat' first
    | extract_lets
    | intro _
    | with_reducible assumption
    | fail_if_no_progress (with_reducible apply Keeps.upd)

theorem keeps_graceEnd {k0 : State} (f : Byte) (s : State) (kh : Keeps k0 s) :
    Keeps k0 (graceEnd f s) := by
  unfold graceEnd
  repeat' first
    | extract_lets
    | intro _
    | with_reducible assumption
    | fail_if_no_progress (with_reducible apply Keeps.upd)
    | with_reducible apply keeps_escalate
    | with_reducible refine Keeps.ite (fun _ => ?_) (fun _ => ?_)

theorem keeps_safeStopEnd {k0 : State} (s : State) (kh : Keeps k0 s) :
    Keeps k0 (safeStopEnd s) := by
  unfold safeStopEnd
  repeat' first
    | extract_lets
    | intro _
    | with_reducible assumption
    | fail_if_no_progress (with_reducible apply Keeps.upd)
    | with_reducible apply keeps_commitDocket
    | with_reducible apply keeps_closeDocket
    | with_reducible refine Keeps.ite (fun _ => ?_) (fun _ => ?_)

theorem keeps_safeStopLate {k0 : State} (s : State) (kh : Keeps k0 s) :
    Keeps k0 (safeStopLate s) := by
  unfold safeStopLate
  repeat' first
    | extract_lets
    | intro _
    | with_reducible assumption
    | fail_if_no_progress (with_reducible apply Keeps.upd)
    | with_reducible apply keeps_commitDocket
    | with_reducible apply keeps_closeDocket
    | with_reducible refine Keeps.ite (fun _ => ?_) (fun _ => ?_)

theorem keeps_loaderFail {k0 : State} (s : State) (kh : Keeps k0 s) :
    Keeps k0 (loaderFail s) := by
  unfold loaderFail
  repeat' first
    | extract_lets
    | intro _
    | with_reducible assumption
    | fail_if_no_progress (with_reducible apply Keeps.upd)
    | with_reducible apply keeps_assertReset
    | with_reducible refine Keeps.ite (fun _ => ?_) (fun _ => ?_)
    | dsimp +zetaDelta only

theorem keeps_parityOp {k0 : State} (bad : Option (BitVec 8 × BitVec 16)) (s : State) (kh : Keeps k0 s) :
    Keeps k0 (parityOp bad s) := by
  unfold parityOp
  repeat' first
    | extract_lets
    | intro _
    | with_reducible assumption
    | fail_if_no_progress (with_reducible apply Keeps.upd)
    | with_reducible apply keeps_loaderFail
    | with_reducible apply keeps_assertReset
    | with_reducible refine Keeps.ite (fun _ => ?_) (fun _ => ?_)
    | split

/-! Machine/Steelyard.lean -/

theorem keeps_tsRead {k0 : State} (readings : List (Nat × Nat)) (s : State) (kh : Keeps k0 s) :
    Keeps k0 (tsRead readings s) := by
  unfold tsRead
  repeat' first
    | extract_lets
    | intro _
    | with_reducible assumption
    | fail_if_no_progress (with_reducible apply Keeps.upd)
    | with_reducible apply keeps_setCond
    | with_reducible refine Keeps.ite (fun _ => ?_) (fun _ => ?_)
    | with_reducible refine Keeps.foldl (fun _ _ _ => ?_) ?_
    | split
    | with_reducible apply Keeps.idState
    | dsimp +zetaDelta only

theorem keeps_disagreeCond {k0 : State} (s : State) (kh : Keeps k0 s) :
    Keeps k0 (disagreeCond s) := by
  unfold disagreeCond
  repeat' first
    | extract_lets
    | intro _
    | with_reducible assumption
    | fail_if_no_progress (with_reducible apply Keeps.upd)
    | with_reducible apply keeps_setCond

theorem keeps_disagreeSet {k0 : State} (t : Fin 8) (s : State) (kh : Keeps k0 s) :
    Keeps k0 (disagreeSet t s) := by
  unfold disagreeSet
  repeat' first
    | extract_lets
    | intro _
    | with_reducible assumption
    | fail_if_no_progress (with_reducible apply Keeps.upd)
    | with_reducible apply keeps_disagreeCond
    | with_reducible refine Keeps.ite (fun _ => ?_) (fun _ => ?_)

theorem keeps_disagreeClear {k0 : State} (t : Fin 8) (s : State) (kh : Keeps k0 s) :
    Keeps k0 (disagreeClear t s) := by
  unfold disagreeClear
  repeat' first
    | extract_lets
    | intro _
    | with_reducible assumption
    | fail_if_no_progress (with_reducible apply Keeps.upd)
    | with_reducible apply keeps_disagreeCond
    | with_reducible refine Keeps.ite (fun _ => ?_) (fun _ => ?_)

theorem keeps_refreshTreq {k0 : State} (t : Fin 12) (s : State) (kh : Keeps k0 s) :
    Keeps k0 (refreshTreq t s) := by
  unfold refreshTreq
  repeat' first
    | extract_lets
    | intro _
    | with_reducible assumption
    | fail_if_no_progress (with_reducible apply Keeps.upd)

theorem keeps_thrEval {k0 : State} (t : Fin 12) (s : State) (kh : Keeps k0 s) :
    Keeps k0 (thrEval t s) := by
  unfold thrEval
  repeat' first
    | extract_lets
    | intro _
    | with_reducible assumption
    | fail_if_no_progress (with_reducible apply Keeps.upd)
    | with_reducible apply keeps_raiseFault
    | with_reducible refine Keeps.ite (fun _ => ?_) (fun _ => ?_)
    | dsimp +zetaDelta only

theorem keeps_thrPublish {k0 : State} (s : State) (kh : Keeps k0 s) :
    Keeps k0 (thrPublish s) := by
  unfold thrPublish
  repeat' first
    | extract_lets
    | intro _
    | with_reducible assumption
    | fail_if_no_progress (with_reducible apply Keeps.upd)
    | with_reducible refine Keeps.ite (fun _ => ?_) (fun _ => ?_)

theorem keeps_forecastStart {k0 : State} (s : State) (kh : Keeps k0 s) :
    Keeps k0 (forecastStart s) := by
  unfold forecastStart
  repeat' first
    | extract_lets
    | intro _
    | with_reducible assumption
    | fail_if_no_progress (with_reducible apply Keeps.upd)
    | with_reducible refine Keeps.ite (fun _ => ?_) (fun _ => ?_)

theorem keeps_evaluate {k0 : State} (meas : List Nat) (s : State) (kh : Keeps k0 s) :
    Keeps k0 (evaluate meas s) := by
  unfold evaluate
  repeat' first
    | extract_lets
    | intro _
    | with_reducible assumption
    | fail_if_no_progress (with_reducible apply Keeps.upd)
    | with_reducible apply keeps_thrEval
    | with_reducible apply keeps_forecastStart
    | with_reducible apply keeps_thrPublish
    | with_reducible apply keeps_setCond
    | with_reducible refine Keeps.ite (fun _ => ?_) (fun _ => ?_)
    | with_reducible refine Keeps.foldl (fun _ _ _ => ?_) ?_
    | dsimp +zetaDelta only

theorem keeps_thrDwellEnd {k0 : State} (t : Fin 12) (s : State) (kh : Keeps k0 s) :
    Keeps k0 (thrDwellEnd t s) := by
  unfold thrDwellEnd
  repeat' first
    | extract_lets
    | intro _
    | with_reducible assumption
    | fail_if_no_progress (with_reducible apply Keeps.upd)

theorem keeps_modelStop {k0 : State} (s : State) (kh : Keeps k0 s) :
    Keeps k0 (modelStop s) := by
  unfold modelStop
  repeat' first
    | extract_lets
    | intro _
    | with_reducible assumption
    | fail_if_no_progress (with_reducible apply Keeps.upd)
    | with_reducible apply keeps_setCond

theorem keeps_syCtrl {k0 : State} (v : Word) (s : State) (kh : Keeps k0 s) :
    Keeps k0 (syCtrl v s) := by
  unfold syCtrl
  repeat' first
    | extract_lets
    | intro _
    | with_reducible assumption
    | fail_if_no_progress (with_reducible apply Keeps.upd)
    | with_reducible apply keeps_modelStop
    | with_reducible refine Keeps.ite (fun _ => ?_) (fun _ => ?_)
    | split
    | dsimp +zetaDelta only

theorem keeps_syField {k0 : State} (f : Steelyard → Steelyard) (s : State) (kh : Keeps k0 s) :
    Keeps k0 (syField f s) := by
  unfold syField
  repeat' first
    | extract_lets
    | intro _
    | with_reducible assumption
    | fail_if_no_progress (with_reducible apply Keeps.upd)
    | with_reducible refine Keeps.ite (fun _ => ?_) (fun _ => ?_)

theorem keeps_fcGo {k0 : State} (s : State) (kh : Keeps k0 s) :
    Keeps k0 (fcGo s) := by
  unfold fcGo
  repeat' first
    | extract_lets
    | intro _
    | with_reducible assumption
    | fail_if_no_progress (with_reducible apply Keeps.upd)
    | with_reducible refine Keeps.ite (fun _ => ?_) (fun _ => ?_)

theorem keeps_fcDone {k0 : State} (s : State) (kh : Keeps k0 s) :
    Keeps k0 (fcDone s) := by
  unfold fcDone
  repeat' first
    | extract_lets
    | intro _
    | with_reducible assumption
    | fail_if_no_progress (with_reducible apply Keeps.upd)
    | with_reducible refine Keeps.ite (fun _ => ?_) (fun _ => ?_)
    | dsimp +zetaDelta only

theorem keeps_hdieHot {k0 : State} (above : Bool) (s : State) (kh : Keeps k0 s) :
    Keeps k0 (hdieHot above s) := by
  unfold hdieHot
  repeat' first
    | extract_lets
    | intro _
    | with_reducible assumption
    | fail_if_no_progress (with_reducible apply Keeps.upd)
    | with_reducible apply keeps_setCond

theorem keeps_writeNode {k0 : State} (n : Fin 16) (off : Nat) (v : Word) (s : State) (kh : Keeps k0 s) :
    Keeps k0 (writeNode n off v s) := by
  unfold writeNode
  repeat' first
    | extract_lets
    | intro _
    | with_reducible assumption
    | fail_if_no_progress (with_reducible apply Keeps.upd)
    | with_reducible apply keeps_syField
    | split

theorem keeps_fcField {k0 : State} (f : Forecast → Forecast) (s : State) (kh : Keeps k0 s) :
    Keeps k0 (fcField f s) := by
  unfold fcField
  repeat' first
    | extract_lets
    | intro _
    | with_reducible assumption
    | fail_if_no_progress (with_reducible apply Keeps.upd)
    | with_reducible refine Keeps.ite (fun _ => ?_) (fun _ => ?_)

theorem keeps_thrField {k0 : State} (t : Fin 12) (f : Throttle → Throttle) (s : State) (kh : Keeps k0 s) :
    Keeps k0 (thrField t f s) := by
  unfold thrField
  repeat' first
    | extract_lets
    | intro _
    | with_reducible assumption
    | fail_if_no_progress (with_reducible apply Keeps.upd)

theorem keeps_writeSteelyard {k0 : State} (off : Nat) (v : Word) (s : State) (kh : Keeps k0 s) :
    Keeps k0 (writeSteelyard off v s) := by
  unfold writeSteelyard
  repeat' first
    | extract_lets
    | intro _
    | with_reducible assumption
    | fail_if_no_progress (with_reducible apply Keeps.upd)
    | with_reducible apply keeps_syCtrl
    | with_reducible apply keeps_fcGo
    | with_reducible apply keeps_fcField
    | with_reducible apply keeps_writeNode
    | with_reducible apply keeps_syField
    | with_reducible apply keeps_thrField
    | with_reducible refine Keeps.ite (fun _ => ?_) (fun _ => ?_)
    | split

theorem keeps_thermalTable {k0 : State} (s : State) (kh : Keeps k0 s) :
    Keeps k0 (thermalTable s) := by
  unfold thermalTable
  repeat' first
    | extract_lets
    | intro _
    | with_reducible assumption
    | fail_if_no_progress (with_reducible apply Keeps.upd)
    | with_reducible apply keeps_writeSteelyard
    | with_reducible refine Keeps.ite (fun _ => ?_) (fun _ => ?_)
    | with_reducible refine Keeps.foldl (fun _ _ _ => ?_) ?_
    | dsimp +zetaDelta only

/-! Machine/Tally.lean -/

theorem keeps_armClose {k0 : State} (um : Nat) (s : State) (kh : Keeps k0 s) :
    Keeps k0 (armClose um s) := by
  unfold armClose
  repeat' first
    | extract_lets
    | intro _
    | with_reducible assumption
    | fail_if_no_progress (with_reducible apply Keeps.upd)
    | with_reducible apply keeps_motMod
    | with_reducible refine Keeps.ite (fun _ => ?_) (fun _ => ?_)

theorem keeps_dkArmOp {k0 : State} (s : State) (kh : Keeps k0 s) :
    Keeps k0 (dkArmOp s) := by
  unfold dkArmOp
  repeat' first
    | extract_lets
    | intro _
    | with_reducible assumption
    | fail_if_no_progress (with_reducible apply Keeps.upd)
    | with_reducible apply keeps_lapseAdmission
    | with_reducible apply keeps_beamArm
    | with_reducible apply keeps_videoArm
    | with_reducible refine Keeps.ite (fun _ => ?_) (fun _ => ?_)
    | split
    | dsimp +zetaDelta only

theorem keeps_hostSpoil {k0 : State} (s : State) (kh : Keeps k0 s) :
    Keeps k0 (hostSpoil s) := by
  unfold hostSpoil
  repeat' first
    | extract_lets
    | intro _
    | with_reducible assumption
    | fail_if_no_progress (with_reducible apply Keeps.upd)
    | with_reducible apply keeps_latchSpoil
    | with_reducible apply keeps_armClose
    | with_reducible refine Keeps.ite (fun _ => ?_) (fun _ => ?_)
    | dsimp +zetaDelta only

theorem keeps_dkSpoilOp {k0 : State} (s : State) (kh : Keeps k0 s) :
    Keeps k0 (dkSpoilOp s) := by
  unfold dkSpoilOp
  repeat' first
    | extract_lets
    | intro _
    | with_reducible assumption
    | fail_if_no_progress (with_reducible apply Keeps.upd)
    | with_reducible apply keeps_hostSpoil
    | with_reducible refine Keeps.ite (fun _ => ?_) (fun _ => ?_)
    | dsimp +zetaDelta only

theorem keeps_dkCloseOp {k0 : State} (s : State) (kh : Keeps k0 s) :
    Keeps k0 (dkCloseOp s) := by
  unfold dkCloseOp
  repeat' first
    | extract_lets
    | intro _
    | with_reducible assumption
    | fail_if_no_progress (with_reducible apply Keeps.upd)
    | with_reducible apply keeps_commitDocket
    | with_reducible apply keeps_closeDocket

theorem keeps_dkReleaseOp {k0 : State} (s : State) (kh : Keeps k0 s) :
    Keeps k0 (dkReleaseOp s) := by
  unfold dkReleaseOp
  repeat' first
    | extract_lets
    | intro _
    | with_reducible assumption
    | fail_if_no_progress (with_reducible apply Keeps.upd)
    | split

theorem keeps_dkCtrl {k0 : State} (v : Word) (s : State) (kh : Keeps k0 s) :
    Keeps k0 (dkCtrl v s) := by
  unfold dkCtrl
  repeat' first
    | extract_lets
    | intro _
    | with_reducible assumption
    | fail_if_no_progress (with_reducible apply Keeps.upd)
    | with_reducible apply keeps_dkArmOp
    | with_reducible apply keeps_dkSpoilOp
    | with_reducible apply keeps_dkCloseOp
    | with_reducible apply keeps_dkReleaseOp
    | with_reducible refine Keeps.ite (fun _ => ?_) (fun _ => ?_)
    | dsimp +zetaDelta only

theorem keeps_dkPlanned {k0 : State} (v : Word) (s : State) (kh : Keeps k0 s) :
    Keeps k0 (dkPlanned v s) := by
  unfold dkPlanned
  repeat' first
    | extract_lets
    | intro _
    | with_reducible assumption
    | fail_if_no_progress (with_reducible apply Keeps.upd)
    | split

theorem keeps_dkCfg {k0 : State} (v : Word) (s : State) (kh : Keeps k0 s) :
    Keeps k0 (dkCfg v s) := by
  unfold dkCfg
  repeat' first
    | extract_lets
    | intro _
    | with_reducible assumption
    | fail_if_no_progress (with_reducible apply Keeps.upd)
    | with_reducible refine Keeps.ite (fun _ => ?_) (fun _ => ?_)
    | split

theorem keeps_facetEndOp {k0 : State} (s : State) (kh : Keeps k0 s) :
    Keeps k0 (facetEndOp s) := by
  unfold facetEndOp
  repeat' first
    | extract_lets
    | intro _
    | with_reducible assumption
    | fail_if_no_progress (with_reducible apply Keeps.upd)
    | with_reducible apply keeps_facetRelease
    | with_reducible apply keeps_hostSpoil
    | with_reducible apply keeps_armClose
    | with_reducible refine Keeps.ite (fun _ => ?_) (fun _ => ?_)
    | dsimp +zetaDelta only

theorem keeps_formStart {k0 : State} (s : State) (kh : Keeps k0 s) :
    Keeps k0 (formStart s) := by
  unfold formStart
  repeat' first
    | extract_lets
    | intro _
    | with_reducible assumption
    | fail_if_no_progress (with_reducible apply Keeps.upd)
    | with_reducible apply keeps_armClose
    | with_reducible apply keeps_bdMiss
    | with_reducible refine Keeps.ite (fun _ => ?_) (fun _ => ?_)
    | dsimp +zetaDelta only

theorem keeps_compare0 {k0 : State} (k : Fin 6) (s : State) (kh : Keeps k0 s) :
    Keeps k0 (compare0 k s) := by
  unfold compare0
  repeat' first
    | extract_lets
    | intro _
    | with_reducible assumption
    | fail_if_no_progress (with_reducible apply Keeps.upd)
    | with_reducible apply keeps_motMod
    | with_reducible apply keeps_formStart
    | with_reducible refine Keeps.ite (fun _ => ?_) (fun _ => ?_)
    | dsimp +zetaDelta only

theorem keeps_topOfForm {k0 : State} (s : State) (kh : Keeps k0 s) :
    Keeps k0 (topOfForm s) := by
  unfold topOfForm
  repeat' first
    | extract_lets
    | intro _
    | with_reducible assumption
    | fail_if_no_progress (with_reducible apply Keeps.upd)
    | with_reducible apply keeps_compare0

theorem keeps_stopPageMotors {k0 : State} (s : State) (kh : Keeps k0 s) :
    Keeps k0 (stopPageMotors s) := by
  unfold stopPageMotors
  repeat' first
    | extract_lets
    | intro _
    | with_reducible assumption
    | fail_if_no_progress (with_reducible apply Keeps.upd)
    | with_reducible refine Keeps.ite (fun _ => ?_) (fun _ => ?_)

theorem keeps_pageCloses {k0 : State} (s : State) (kh : Keeps k0 s) :
    Keeps k0 (pageCloses s) := by
  unfold pageCloses
  repeat' first
    | extract_lets
    | intro _
    | with_reducible assumption
    | fail_if_no_progress (with_reducible apply Keeps.upd)
    | with_reducible apply keeps_stopPageMotors
    | with_reducible apply keeps_dkCloseOp
    | with_reducible refine Keeps.ite (fun _ => ?_) (fun _ => ?_)
    | dsimp +zetaDelta only

theorem keeps_compare1 {k0 : State} (k : Fin 6) (s : State) (kh : Keeps k0 s) :
    Keeps k0 (compare1 k s) := by
  unfold compare1
  repeat' first
    | extract_lets
    | intro _
    | with_reducible assumption
    | fail_if_no_progress (with_reducible apply Keeps.upd)
    | with_reducible apply keeps_motMod
    | with_reducible apply keeps_pageCloses
    | with_reducible refine Keeps.ite (fun _ => ?_) (fun _ => ?_)
    | dsimp +zetaDelta only

theorem keeps_closePointOp {k0 : State} (s : State) (kh : Keeps k0 s) :
    Keeps k0 (closePointOp s) := by
  unfold closePointOp
  repeat' first
    | extract_lets
    | intro _
    | with_reducible assumption
    | fail_if_no_progress (with_reducible apply Keeps.upd)
    | with_reducible apply keeps_compare1

theorem keeps_comparesPassed {k0 : State} (k : Fin 6) (old : Word) (s : State) (kh : Keeps k0 s) :
    Keeps k0 (comparesPassed k old s) := by
  unfold comparesPassed
  repeat' first
    | extract_lets
    | intro _
    | with_reducible assumption
    | fail_if_no_progress (with_reducible apply Keeps.upd)
    | with_reducible apply keeps_compare0
    | with_reducible apply keeps_compare1
    | with_reducible refine Keeps.ite (fun _ => ?_) (fun _ => ?_)
    | dsimp +zetaDelta only

theorem keeps_regTick {k0 : State} (k : Fin 6) (rpm : BitVec 16) (delta : Word) (inputs : MotInputs) (s : State) (kh : Keeps k0 s) :
    Keeps k0 (regTick k rpm delta inputs s) := by
  unfold regTick
  repeat' first
    | extract_lets
    | intro _
    | with_reducible assumption
    | fail_if_no_progress (with_reducible apply Keeps.upd)
    | with_reducible apply keeps_regStep
    | with_reducible apply keeps_comparesPassed
    | with_reducible apply keeps_regMeasure

/-! Machine/Apply.lean -/

theorem keeps_motorWrite {k0 : State} (k : Fin 6) (c : MotorCfg) (s : State) (kh : Keeps k0 s) :
    Keeps k0 (motorWrite k c s) := by
  unfold motorWrite
  repeat' first
    | extract_lets
    | intro _
    | with_reducible assumption
    | fail_if_no_progress (with_reducible apply Keeps.upd)
    | with_reducible apply keeps_motCtrl
    | with_reducible apply keeps_motCurcfg
    | with_reducible apply keeps_motMod
    | with_reducible refine Keeps.ite (fun _ => ?_) (fun _ => ?_)
    | dsimp +zetaDelta only

theorem keeps_motorRun {k0 : State} (k : Fin 6) (c : MotorCfg) (s : State) (kh : Keeps k0 s) :
    Keeps k0 (motorRun k c s) := by
  unfold motorRun
  repeat' first
    | extract_lets
    | intro _
    | with_reducible assumption
    | fail_if_no_progress (with_reducible apply Keeps.upd)
    | with_reducible apply keeps_setStartDue
    | with_reducible apply keeps_motStartOp
    | with_reducible apply keeps_motMod
    | with_reducible refine Keeps.ite (fun _ => ?_) (fun _ => ?_)
    | dsimp +zetaDelta only

theorem keeps_loopWrite {k0 : State} (n : Fin 32) (fresh en : Bool) (plog : BitVec 4) (setp band : Word) (dwell : Nat) (f : Loop → Loop) (s : State) (kh : Keeps k0 s) :
    Keeps k0 (loopWrite n fresh en plog setp band dwell f s) := by
  unfold loopWrite
  repeat' first
    | extract_lets
    | intro _
    | with_reducible assumption
    | fail_if_no_progress (with_reducible apply Keeps.upd)
    | with_reducible apply keeps_loopModPin
    | with_reducible refine Keeps.ite (fun _ => ?_) (fun _ => ?_)

theorem keeps_loopsGo {k0 : State} (s : State) (kh : Keeps k0 s) :
    Keeps k0 (loopsGo s) := by
  unfold loopsGo
  repeat' first
    | extract_lets
    | intro _
    | with_reducible assumption
    | fail_if_no_progress (with_reducible apply Keeps.upd)
    | with_reducible apply keeps_leCommit

theorem keeps_applyLoop {k0 : State} (fresh : Bool) (n : Fin 32) (c : LoopCfg) (s : State) (kh : Keeps k0 s) :
    Keeps k0 (applyLoop fresh n c s) := by
  unfold applyLoop
  repeat' first
    | extract_lets
    | intro _
    | with_reducible assumption
    | fail_if_no_progress (with_reducible apply Keeps.upd)
    | with_reducible apply keeps_loopWrite

theorem keeps_applyHv {k0 : State} (c : Fin 3) (h : HvCfg) (s : State) (kh : Keeps k0 s) :
    Keeps k0 (applyHv c h s) := by
  unfold applyHv
  repeat' first
    | extract_lets
    | intro _
    | with_reducible assumption
    | fail_if_no_progress (with_reducible apply Keeps.upd)
    | with_reducible apply keeps_loopWrite
    | with_reducible refine Keeps.ite (fun _ => ?_) (fun _ => ?_)
    | with_reducible apply Keeps.idState
    | dsimp +zetaDelta only

theorem keeps_applyFuser {k0 : State} (f : FuserCfg) (s : State) (kh : Keeps k0 s) :
    Keeps k0 (applyFuser f s) := by
  unfold applyFuser
  repeat' first
    | extract_lets
    | intro _
    | with_reducible assumption
    | fail_if_no_progress (with_reducible apply Keeps.upd)
    | with_reducible apply keeps_loopWrite
    | with_reducible apply keeps_heaterFollow
    | with_reducible apply keeps_fuDutyReq
    | with_reducible apply keeps_fuCtrl
    | with_reducible refine Keeps.ite (fun _ => ?_) (fun _ => ?_)
    | with_reducible apply Keeps.idState
    | dsimp +zetaDelta only

theorem keeps_applyLaser {k0 : State} (b : Fin 4) (c : LaserCfg) (s : State) (kh : Keeps k0 s) :
    Keeps k0 (applyLaser b c s) := by
  unfold applyLaser
  repeat' first
    | extract_lets
    | intro _
    | with_reducible assumption
    | fail_if_no_progress (with_reducible apply Keeps.upd)
    | with_reducible apply keeps_bmLdCfg
    | with_reducible apply keeps_loopWrite
    | with_reducible apply keeps_bmDelay
    | with_reducible apply keeps_bmCeilReq
    | with_reducible apply keeps_bmDrive
    | with_reducible refine Keeps.ite (fun _ => ?_) (fun _ => ?_)
    | with_reducible apply Keeps.idState
    | dsimp +zetaDelta only

theorem keeps_applyProfile {k0 : State} (p : Fin 8) (segs : List (BitVec 24)) (s : State) (kh : Keeps k0 s) :
    Keeps k0 (applyProfile p segs s) := by
  unfold applyProfile
  repeat' first
    | extract_lets
    | intro _
    | with_reducible assumption
    | fail_if_no_progress (with_reducible apply Keeps.upd)
    | with_reducible apply keeps_prSeg
    | with_reducible apply keeps_prSegs
    | with_reducible refine Keeps.foldl (fun _ _ _ => ?_) ?_
    | dsimp +zetaDelta only

theorem keeps_refreshAll {k0 : State} (s : State) (kh : Keeps k0 s) :
    Keeps k0 (refreshAll s) := by
  unfold refreshAll
  repeat' first
    | extract_lets
    | intro _
    | with_reducible assumption
    | fail_if_no_progress (with_reducible apply Keeps.upd)
    | with_reducible apply keeps_refreshTreq
    | with_reducible refine Keeps.foldl (fun _ _ _ => ?_) ?_

theorem keeps_withCfg {k0 : State} {α : Type} (o : Option α) (f : α → State → State) (s : State) (hf : ∀ y0 y, Keeps k0 y → Keeps k0 (f y0 y)) (kh : Keeps k0 s) :
    Keeps k0 (withCfg o f s) := by
  unfold withCfg
  repeat' first
    | extract_lets
    | intro _
    | with_reducible apply hf
    | with_reducible assumption
    | fail_if_no_progress (with_reducible apply Keeps.upd)
    | split

theorem keeps_rdcFollow {k0 : State} (s : State) (kh : Keeps k0 s) :
    Keeps k0 (rdcFollow s) := by
  unfold rdcFollow
  repeat' first
    | extract_lets
    | intro _
    | with_reducible assumption
    | fail_if_no_progress (with_reducible apply Keeps.upd)
    | with_reducible refine Keeps.ite (fun _ => ?_) (fun _ => ?_)
    | split

theorem keeps_applyMotor {k0 : State} (k : Fin 6) (c : MotorCfg) (s : State) (kh : Keeps k0 s) :
    Keeps k0 (applyMotor k c s) := by
  unfold applyMotor
  repeat' first
    | extract_lets
    | intro _
    | with_reducible assumption
    | fail_if_no_progress (with_reducible apply Keeps.upd)
    | with_reducible apply keeps_rdcFollow
    | with_reducible apply keeps_motorWrite
    | with_reducible apply keeps_motorRun
    | with_reducible refine Keeps.ite (fun _ => ?_) (fun _ => ?_)
    | dsimp +zetaDelta only

theorem keeps_applyAll {k0 : State} (fresh : Bool) (s : State) (kh : Keeps k0 s) :
    Keeps k0 (applyAll fresh s) := by
  unfold applyAll
  repeat' first
    | extract_lets
    | intro _
    | with_reducible assumption
    | fail_if_no_progress (with_reducible apply Keeps.upd)
    | with_reducible apply keeps_withCfg
    | with_reducible apply keeps_applyProfile
    | with_reducible apply keeps_applyLoop
    | with_reducible apply keeps_applyHv
    | with_reducible apply keeps_applyFuser
    | with_reducible apply keeps_applyLaser
    | with_reducible apply keeps_applyMotor
    | with_reducible apply keeps_refreshAll
    | with_reducible apply keeps_loopsGo
    | with_reducible refine Keeps.foldl (fun _ _ _ => ?_) ?_
    | dsimp +zetaDelta only

theorem keeps_reapply {k0 : State} (s : State) (kh : Keeps k0 s) :
    Keeps k0 (reapply s) := by
  unfold reapply
  repeat' first
    | extract_lets
    | intro _
    | with_reducible assumption
    | fail_if_no_progress (with_reducible apply Keeps.upd)
    | with_reducible apply keeps_applyAll
    | with_reducible refine Keeps.ite (fun _ => ?_) (fun _ => ?_)

theorem keeps_diagEnd {k0 : State} (o : Fin 16) (s : State) (kh : Keeps k0 s) :
    Keeps k0 (diagEnd o s) := by
  unfold diagEnd
  repeat' first
    | extract_lets
    | intro _
    | with_reducible assumption
    | fail_if_no_progress (with_reducible apply Keeps.upd)
    | with_reducible apply keeps_motMod
    | with_reducible apply keeps_heaterFollow
    | with_reducible refine Keeps.ite (fun _ => ?_) (fun _ => ?_)
    | dsimp +zetaDelta only

theorem keeps_modeChange {k0 : State} (s : State) (kh : Keeps k0 s) :
    Keeps k0 (modeChange s) := by
  unfold modeChange
  repeat' first
    | extract_lets
    | intro _
    | with_reducible assumption
    | fail_if_no_progress (with_reducible apply Keeps.upd)
    | with_reducible apply keeps_lapseAdmission
    | dsimp +zetaDelta only

theorem keeps_enterReady {k0 : State} (s : State) (kh : Keeps k0 s) :
    Keeps k0 (enterReady s) := by
  unfold enterReady
  repeat' first
    | extract_lets
    | intro _
    | with_reducible assumption
    | fail_if_no_progress (with_reducible apply Keeps.upd)
    | with_reducible apply keeps_applyAll
    | with_reducible apply keeps_sinovPix
    | with_reducible apply keeps_modeChange

theorem keeps_enterService {k0 : State} (s : State) (kh : Keeps k0 s) :
    Keeps k0 (enterService s) := by
  unfold enterService
  repeat' first
    | extract_lets
    | intro _
    | with_reducible assumption
    | fail_if_no_progress (with_reducible apply Keeps.upd)
    | with_reducible apply keeps_modeChange
    | with_reducible apply keeps_stopMotors
    | with_reducible apply keeps_heaterStop
    | dsimp +zetaDelta only

theorem keeps_enterDormant {k0 : State} (s : State) (kh : Keeps k0 s) :
    Keeps k0 (enterDormant s) := by
  unfold enterDormant
  repeat' first
    | extract_lets
    | intro _
    | with_reducible assumption
    | fail_if_no_progress (with_reducible apply Keeps.upd)
    | with_reducible apply keeps_modeChange
    | with_reducible apply keeps_stopMotors
    | with_reducible apply keeps_heaterStop
    | dsimp +zetaDelta only

theorem keeps_safeExitApply {k0 : State} (s : State) (kh : Keeps k0 s) :
    Keeps k0 (safeExitApply s) := by
  unfold safeExitApply
  repeat' first
    | extract_lets
    | intro _
    | with_reducible assumption
    | fail_if_no_progress (with_reducible apply Keeps.upd)
    | with_reducible apply keeps_safeExitOp
    | with_reducible apply keeps_applyAll
    | with_reducible refine Keeps.ite (fun _ => ?_) (fun _ => ?_)
    | dsimp +zetaDelta only

theorem keeps_brakeRest {k0 : State} (k : Fin 6) (s : State) (kh : Keeps k0 s) :
    Keeps k0 (brakeRest k s) := by
  unfold brakeRest
  repeat' first
    | extract_lets
    | intro _
    | with_reducible assumption
    | fail_if_no_progress (with_reducible apply Keeps.upd)
    | with_reducible apply keeps_brakeEnd
    | with_reducible apply keeps_applyMotor
    | with_reducible apply keeps_motStartOp
    | with_reducible apply keeps_setStartDue
    | with_reducible refine Keeps.ite (fun _ => ?_) (fun _ => ?_)
    | split
    | dsimp +zetaDelta only

/-! Machine/Ledger.lean -/

theorem keeps_tillSync {k0 : State} (s : State) (kh : Keeps k0 s) :
    Keeps k0 (tillSync s) := by
  unfold tillSync
  repeat' first
    | extract_lets
    | intro _
    | with_reducible assumption
    | fail_if_no_progress (with_reducible apply Keeps.upd)
    | with_reducible apply keeps_setCond
    | with_reducible refine Keeps.ite (fun _ => ?_) (fun _ => ?_)
    | dsimp +zetaDelta only

theorem keeps_tillStart {k0 : State} (rsvOk : Bool) (s : State) (kh : Keeps k0 s) :
    Keeps k0 (tillStart rsvOk s) := by
  unfold tillStart
  repeat' first
    | extract_lets
    | intro _
    | with_reducible assumption
    | fail_if_no_progress (with_reducible apply Keeps.upd)
    | with_reducible refine Keeps.ite (fun _ => ?_) (fun _ => ?_)

theorem keeps_tillRelease {k0 : State} (rsvOk : Bool) (s : State) (kh : Keeps k0 s) :
    Keeps k0 (tillRelease rsvOk s) := by
  unfold tillRelease
  repeat' first
    | extract_lets
    | intro _
    | with_reducible assumption
    | fail_if_no_progress (with_reducible apply Keeps.upd)
    | with_reducible refine Keeps.ite (fun _ => ?_) (fun _ => ?_)

theorem keeps_recordDone {k0 : State} (rec : List Byte) (s : State) (kh : Keeps k0 s) :
    Keeps k0 (recordDone rec s) := by
  unfold recordDone
  repeat' first
    | extract_lets
    | intro _
    | with_reducible assumption
    | fail_if_no_progress (with_reducible apply Keeps.upd)
    | with_reducible apply keeps_memPut
    | dsimp +zetaDelta only

theorem keeps_countTorn {k0 : State} (s : State) (kh : Keeps k0 s) :
    Keeps k0 (countTorn s) := by
  unfold countTorn
  repeat' first
    | extract_lets
    | intro _
    | with_reducible assumption
    | fail_if_no_progress (with_reducible apply Keeps.upd)
    | with_reducible apply keeps_raiseFault
    | with_reducible refine Keeps.ite (fun _ => ?_) (fun _ => ?_)

theorem keeps_recordTorn {k0 : State} (s : State) (kh : Keeps k0 s) :
    Keeps k0 (recordTorn s) := by
  unfold recordTorn
  repeat' first
    | extract_lets
    | intro _
    | with_reducible assumption
    | fail_if_no_progress (with_reducible apply Keeps.upd)
    | with_reducible apply keeps_memPut
    | with_reducible apply keeps_tillSync
    | with_reducible apply keeps_countTorn
    | dsimp +zetaDelta only

theorem keeps_releaseEffect {k0 : State} (upto : BitVec 64) (base : List Byte) (s : State) (kh : Keeps k0 s) :
    Keeps k0 (releaseEffect upto base s) := by
  unfold releaseEffect
  repeat' first
    | extract_lets
    | intro _
    | with_reducible assumption
    | fail_if_no_progress (with_reducible apply Keeps.upd)

theorem keeps_engineDone {k0 : State} (ok : Bool) (s : State) (kh : Keeps k0 s) :
    Keeps k0 (engineDone ok s) := by
  unfold engineDone
  repeat' first
    | extract_lets
    | intro _
    | with_reducible assumption
    | fail_if_no_progress (with_reducible apply Keeps.upd)
    | with_reducible apply keeps_tillSync
    | with_reducible apply keeps_recordDone
    | with_reducible apply keeps_recordTorn
    | with_reducible apply keeps_releaseEffect
    | with_reducible refine Keeps.ite (fun _ => ?_) (fun _ => ?_)
    | split

theorem keeps_classifyNext {k0 : State} (s : State) (kh : Keeps k0 s) :
    Keeps k0 (classifyNext s) := by
  unfold classifyNext
  repeat' first
    | extract_lets
    | intro _
    | with_reducible assumption
    | fail_if_no_progress (with_reducible apply Keeps.upd)
    | with_reducible apply keeps_releaseEffect
    | with_reducible apply keeps_countTorn
    | with_reducible refine Keeps.ite (fun _ => ?_) (fun _ => ?_)
    | dsimp +zetaDelta only

theorem keeps_scanStart {k0 : State} (s : State) (kh : Keeps k0 s) :
    Keeps k0 (scanStart s) := by
  unfold scanStart
  repeat' first
    | extract_lets
    | intro _
    | with_reducible assumption
    | fail_if_no_progress (with_reducible apply Keeps.upd)
    | with_reducible refine Keeps.ite (fun _ => ?_) (fun _ => ?_)

theorem keeps_scanEnd {k0 : State} (s : State) (kh : Keeps k0 s) :
    Keeps k0 (scanEnd s) := by
  unfold scanEnd
  repeat' first
    | extract_lets
    | intro _
    | with_reducible assumption
    | fail_if_no_progress (with_reducible apply Keeps.upd)
    | with_reducible apply keeps_tillSync
    | with_reducible apply keeps_classifyNext
    | with_reducible apply keeps_raiseFault
    | with_reducible refine Keeps.ite (fun _ => ?_) (fun _ => ?_)
    | dsimp +zetaDelta only

theorem keeps_pointersKept {k0 : State} (s : State) (kh : Keeps k0 s) :
    Keeps k0 (pointersKept s) := by
  unfold pointersKept
  repeat' first
    | extract_lets
    | intro _
    | with_reducible assumption
    | fail_if_no_progress (with_reducible apply Keeps.upd)
    | with_reducible apply keeps_tillSync
    | with_reducible apply keeps_classifyNext

theorem keeps_chainBreakOp {k0 : State} (s : State) (kh : Keeps k0 s) :
    Keeps k0 (chainBreakOp s) := by
  unfold chainBreakOp
  repeat' first
    | extract_lets
    | intro _
    | with_reducible assumption
    | fail_if_no_progress (with_reducible apply Keeps.upd)
    | with_reducible apply keeps_raiseFault
    | with_reducible refine Keeps.ite (fun _ => ?_) (fun _ => ?_)
    | split

theorem keeps_walkDoneOp {k0 : State} (s : State) (kh : Keeps k0 s) :
    Keeps k0 (walkDoneOp s) := by
  unfold walkDoneOp
  repeat' first
    | extract_lets
    | intro _
    | with_reducible assumption
    | fail_if_no_progress (with_reducible apply Keeps.upd)
    | with_reducible refine Keeps.ite (fun _ => ?_) (fun _ => ?_)

theorem keeps_tlRsv {k0 : State} (v : Word) (s : State) (kh : Keeps k0 s) :
    Keeps k0 (tlRsv v s) := by
  unfold tlRsv
  repeat' first
    | extract_lets
    | intro _
    | with_reducible assumption
    | fail_if_no_progress (with_reducible apply Keeps.upd)
    | with_reducible apply keeps_tillSync
    | with_reducible refine Keeps.ite (fun _ => ?_) (fun _ => ?_)

theorem keeps_tlMeta2 {k0 : State} (v : Word) (s : State) (kh : Keeps k0 s) :
    Keeps k0 (tlMeta2 v s) := by
  unfold tlMeta2
  repeat' first
    | extract_lets
    | intro _
    | with_reducible assumption
    | fail_if_no_progress (with_reducible apply Keeps.upd)
    | with_reducible refine Keeps.ite (fun _ => ?_) (fun _ => ?_)

/-! Machine/Crypto.lean -/

theorem keeps_shaCtrlOp {k0 : State} (v : Word) (s : State) (kh : Keeps k0 s) :
    Keeps k0 (shaCtrlOp v s) := by
  unfold shaCtrlOp
  repeat' first
    | extract_lets
    | intro _
    | with_reducible assumption
    | fail_if_no_progress (with_reducible apply Keeps.upd)
    | with_reducible refine Keeps.ite (fun _ => ?_) (fun _ => ?_)

theorem keeps_shaDataOp {k0 : State} (v : Word) (s : State) (kh : Keeps k0 s) :
    Keeps k0 (shaDataOp v s) := by
  unfold shaDataOp
  repeat' first
    | extract_lets
    | intro _
    | with_reducible assumption
    | fail_if_no_progress (with_reducible apply Keeps.upd)
    | with_reducible refine Keeps.ite (fun _ => ?_) (fun _ => ?_)

theorem keeps_shaEnd {k0 : State} (s : State) (kh : Keeps k0 s) :
    Keeps k0 (shaEnd s) := by
  unfold shaEnd
  repeat' first
    | extract_lets
    | intro _
    | with_reducible assumption
    | fail_if_no_progress (with_reducible apply Keeps.upd)
    | with_reducible refine Keeps.ite (fun _ => ?_) (fun _ => ?_)

theorem keeps_signCtrl {k0 : State} (v : Word) (s : State) (kh : Keeps k0 s) :
    Keeps k0 (signCtrl v s) := by
  unfold signCtrl
  repeat' first
    | extract_lets
    | intro _
    | with_reducible assumption
    | fail_if_no_progress (with_reducible apply Keeps.upd)
    | with_reducible refine Keeps.ite (fun _ => ?_) (fun _ => ?_)

theorem keeps_signEnd {k0 : State} (s : State) (kh : Keeps k0 s) :
    Keeps k0 (signEnd s) := by
  unfold signEnd
  repeat' first
    | extract_lets
    | intro _
    | with_reducible assumption
    | fail_if_no_progress (with_reducible apply Keeps.upd)
    | with_reducible refine Keeps.ite (fun _ => ?_) (fun _ => ?_)
    | dsimp +zetaDelta only

theorem keeps_measExtend {k0 : State} (n : Fin 8) (d : BitVec 256) (s : State) (kh : Keeps k0 s) :
    Keeps k0 (measExtend n d s) := by
  unfold measExtend
  repeat' first
    | extract_lets
    | intro _
    | with_reducible assumption
    | fail_if_no_progress (with_reducible apply Keeps.upd)
    | with_reducible refine Keeps.ite (fun _ => ?_) (fun _ => ?_)

theorem keeps_mextCmd {k0 : State} (v : Word) (s : State) (kh : Keeps k0 s) :
    Keeps k0 (mextCmd v s) := by
  unfold mextCmd
  repeat' first
    | extract_lets
    | intro _
    | with_reducible assumption
    | fail_if_no_progress (with_reducible apply Keeps.upd)
    | with_reducible apply keeps_measExtend
    | with_reducible refine Keeps.ite (fun _ => ?_) (fun _ => ?_)

/-! Machine/Barrow.lean -/

theorem keeps_bwSet {k0 : State} (app : Bool) (b : Barrow) (s : State) (kh : Keeps k0 s) :
    Keeps k0 (bwSet app b s) := by
  unfold bwSet
  repeat' first
    | extract_lets
    | intro _
    | with_reducible assumption
    | fail_if_no_progress (with_reducible apply Keeps.upd)
    | with_reducible refine Keeps.ite (fun _ => ?_) (fun _ => ?_)

theorem keeps_chanMod {k0 : State} (app : Bool) (ch : Fin 16) (f : BwChan → BwChan) (s : State) (kh : Keeps k0 s) :
    Keeps k0 (chanMod app ch f s) := by
  unfold chanMod
  repeat' first
    | extract_lets
    | intro _
    | with_reducible assumption
    | fail_if_no_progress (with_reducible apply Keeps.upd)
    | with_reducible apply keeps_bwSet

theorem keeps_bwCtrl {k0 : State} (app : Bool) (ch : Fin 16) (v : Word) (s : State) (kh : Keeps k0 s) :
    Keeps k0 (bwCtrl app ch v s) := by
  unfold bwCtrl
  repeat' first
    | extract_lets
    | intro _
    | with_reducible assumption
    | fail_if_no_progress (with_reducible apply Keeps.upd)
    | with_reducible apply keeps_chanMod

theorem keeps_bwStopAllOp {k0 : State} (app : Bool) (v : Word) (s : State) (kh : Keeps k0 s) :
    Keeps k0 (bwStopAllOp app v s) := by
  unfold bwStopAllOp
  repeat' first
    | extract_lets
    | intro _
    | with_reducible assumption
    | fail_if_no_progress (with_reducible apply Keeps.upd)
    | with_reducible apply keeps_bwSet
    | with_reducible refine Keeps.ite (fun _ => ?_) (fun _ => ?_)

theorem keeps_chanFail {k0 : State} (app : Bool) (ch : Fin 16) (onWrite : Bool) (s : State) (kh : Keeps k0 s) :
    Keeps k0 (chanFail app ch onWrite s) := by
  unfold chanFail
  repeat' first
    | extract_lets
    | intro _
    | with_reducible assumption
    | fail_if_no_progress (with_reducible apply Keeps.upd)
    | with_reducible apply keeps_bwSpill
    | with_reducible apply keeps_chanMod
    | with_reducible apply keeps_errorResponse
    | with_reducible refine Keeps.ite (fun _ => ?_) (fun _ => ?_)
    | dsimp +zetaDelta only

theorem keeps_chanRequest {k0 : State} (app : Bool) (ch : Fin 16) (s : State) (kh : Keeps k0 s) :
    Keeps k0 (chanRequest app ch s) := by
  unfold chanRequest
  repeat' first
    | extract_lets
    | intro _
    | with_reducible assumption
    | fail_if_no_progress (with_reducible apply Keeps.upd)
    | with_reducible apply keeps_chanFail
    | with_reducible apply keeps_chanMod
    | with_reducible apply keeps_bwPut
    | with_reducible apply keeps_bwSpill
    | with_reducible refine Keeps.ite (fun _ => ?_) (fun _ => ?_)
    | split
    | dsimp +zetaDelta only

theorem keeps_chanReg {k0 : State} (app : Bool) (ch : Fin 16) (f : BwChan → BwChan) (s : State) (kh : Keeps k0 s) :
    Keeps k0 (chanReg app ch f s) := by
  unfold chanReg
  repeat' first
    | extract_lets
    | intro _
    | with_reducible assumption
    | fail_if_no_progress (with_reducible apply Keeps.upd)
    | with_reducible apply keeps_chanMod
    | with_reducible refine Keeps.ite (fun _ => ?_) (fun _ => ?_)

theorem keeps_chanClear {k0 : State} (app : Bool) (ch : Fin 16) (v : Word) (s : State) (kh : Keeps k0 s) :
    Keeps k0 (chanClear app ch v s) := by
  unfold chanClear
  repeat' first
    | extract_lets
    | intro _
    | with_reducible assumption
    | fail_if_no_progress (with_reducible apply Keeps.upd)
    | with_reducible apply keeps_chanMod

theorem keeps_barrowOff {k0 : State} (s : State) (kh : Keeps k0 s) :
    Keeps k0 (barrowOff s) := by
  unfold barrowOff
  repeat' first
    | extract_lets
    | intro _
    | with_reducible assumption
    | fail_if_no_progress (with_reducible apply Keeps.upd)
    | with_reducible apply keeps_bwSpillAll

/-! Machine/Clock32.lean -/

theorem keeps_lostSync {k0 : State} (s : State) (kh : Keeps k0 s) :
    Keeps k0 (lostSync s) := by
  unfold lostSync
  repeat' first
    | extract_lets
    | intro _
    | with_reducible assumption
    | fail_if_no_progress (with_reducible apply Keeps.upd)
    | with_reducible apply keeps_setCond

theorem keeps_timeSnap {k0 : State} (v : Word) (s : State) (kh : Keeps k0 s) :
    Keeps k0 (timeSnap v s) := by
  unfold timeSnap
  repeat' first
    | extract_lets
    | intro _
    | with_reducible assumption
    | fail_if_no_progress (with_reducible apply Keeps.upd)
    | with_reducible refine Keeps.ite (fun _ => ?_) (fun _ => ?_)

theorem keeps_timeApply {k0 : State} (v : Word) (s : State) (kh : Keeps k0 s) :
    Keeps k0 (timeApply v s) := by
  unfold timeApply
  repeat' first
    | extract_lets
    | intro _
    | with_reducible assumption
    | fail_if_no_progress (with_reducible apply Keeps.upd)
    | with_reducible refine Keeps.ite (fun _ => ?_) (fun _ => ?_)

theorem keeps_applyEdge {k0 : State} (s : State) (kh : Keeps k0 s) :
    Keeps k0 (applyEdge s) := by
  unfold applyEdge
  repeat' first
    | extract_lets
    | intro _
    | with_reducible assumption
    | fail_if_no_progress (with_reducible apply Keeps.upd)
    | with_reducible refine Keeps.ite (fun _ => ?_) (fun _ => ?_)

theorem keeps_timeSet {k0 : State} (hi : Bool) (v : Word) (s : State) (kh : Keeps k0 s) :
    Keeps k0 (timeSet hi v s) := by
  unfold timeSet
  repeat' first
    | extract_lets
    | intro _
    | with_reducible assumption
    | fail_if_no_progress (with_reducible apply Keeps.upd)
    | with_reducible refine Keeps.ite (fun _ => ?_) (fun _ => ?_)

theorem keeps_alarmSet {k0 : State} (hi : Bool) (v : Word) (s : State) (kh : Keeps k0 s) :
    Keeps k0 (alarmSet hi v s) := by
  unfold alarmSet
  repeat' first
    | extract_lets
    | intro _
    | with_reducible assumption
    | fail_if_no_progress (with_reducible apply Keeps.upd)
    | with_reducible refine Keeps.ite (fun _ => ?_) (fun _ => ?_)

theorem keeps_alarmCtrl {k0 : State} (v : Word) (s : State) (kh : Keeps k0 s) :
    Keeps k0 (alarmCtrl v s) := by
  unfold alarmCtrl
  repeat' first
    | extract_lets
    | intro _
    | with_reducible assumption
    | fail_if_no_progress (with_reducible apply Keeps.upd)

theorem keeps_timeStatusClear {k0 : State} (v : Word) (s : State) (kh : Keeps k0 s) :
    Keeps k0 (timeStatusClear v s) := by
  unfold timeStatusClear
  repeat' first
    | extract_lets
    | intro _
    | with_reducible assumption
    | fail_if_no_progress (with_reducible apply Keeps.upd)
    | with_reducible refine Keeps.ite (fun _ => ?_) (fun _ => ?_)

theorem keeps_timeLostClr {k0 : State} (v : Word) (s : State) (kh : Keeps k0 s) :
    Keeps k0 (timeLostClr v s) := by
  unfold timeLostClr
  repeat' first
    | extract_lets
    | intro _
    | with_reducible assumption
    | fail_if_no_progress (with_reducible apply Keeps.upd)
    | with_reducible apply keeps_lostSync
    | with_reducible refine Keeps.ite (fun _ => ?_) (fun _ => ?_)

theorem keeps_secondOp {k0 : State} (s : State) (kh : Keeps k0 s) :
    Keeps k0 (secondOp s) := by
  unfold secondOp
  repeat' first
    | extract_lets
    | intro _
    | with_reducible assumption
    | fail_if_no_progress (with_reducible apply Keeps.upd)
    | with_reducible apply keeps_applyEdge
    | with_reducible refine Keeps.ite (fun _ => ?_) (fun _ => ?_)

theorem keeps_dormantWake {k0 : State} (i : Nat) (s : State) (kh : Keeps k0 s) :
    Keeps k0 (dormantWake i s) := by
  unfold dormantWake
  repeat' first
    | extract_lets
    | intro _
    | with_reducible assumption
    | fail_if_no_progress (with_reducible apply Keeps.upd)
    | with_reducible apply keeps_assertReset
    | with_reducible refine Keeps.ite (fun _ => ?_) (fun _ => ?_)

theorem keeps_alarmFire {k0 : State} (s : State) (kh : Keeps k0 s) :
    Keeps k0 (alarmFire s) := by
  unfold alarmFire
  repeat' first
    | extract_lets
    | intro _
    | with_reducible assumption
    | fail_if_no_progress (with_reducible apply Keeps.upd)
    | with_reducible apply keeps_dormantWake
    | with_reducible refine Keeps.ite (fun _ => ?_) (fun _ => ?_)

theorem keeps_vretLoss {k0 : State} (s : State) (kh : Keeps k0 s) :
    Keeps k0 (vretLoss s) := by
  unfold vretLoss
  repeat' first
    | extract_lets
    | intro _
    | with_reducible assumption
    | fail_if_no_progress (with_reducible apply Keeps.upd)
    | with_reducible apply keeps_lostSync
    | with_reducible refine Keeps.ite (fun _ => ?_) (fun _ => ?_)

theorem keeps_timeRestart {k0 : State} (s : State) (kh : Keeps k0 s) :
    Keeps k0 (timeRestart s) := by
  unfold timeRestart
  repeat' first
    | extract_lets
    | intro _
    | with_reducible assumption
    | fail_if_no_progress (with_reducible apply Keeps.upd)
    | with_reducible apply keeps_lostSync

theorem keeps_lossApply {k0 : State} (s : State) (kh : Keeps k0 s) :
    Keeps k0 (lossApply s) := by
  unfold lossApply
  repeat' first
    | extract_lets
    | intro _
    | with_reducible assumption
    | fail_if_no_progress (with_reducible apply Keeps.upd)
    | with_reducible apply keeps_timeRestart
    | with_reducible refine Keeps.ite (fun _ => ?_) (fun _ => ?_)

theorem keeps_ao32StopOp {k0 : State} (s : State) (kh : Keeps k0 s) :
    Keeps k0 (ao32StopOp s) := by
  unfold ao32StopOp
  repeat' first
    | extract_lets
    | intro _
    | with_reducible assumption
    | fail_if_no_progress (with_reducible apply Keeps.upd)
    | with_reducible apply keeps_setCond
    | with_reducible apply keeps_lostSync
    | dsimp +zetaDelta only

theorem keeps_ao32Restart {k0 : State} (s : State) (kh : Keeps k0 s) :
    Keeps k0 (ao32Restart s) := by
  unfold ao32Restart
  repeat' first
    | extract_lets
    | intro _
    | with_reducible assumption
    | fail_if_no_progress (with_reducible apply Keeps.upd)
    | with_reducible apply keeps_setCond

end Sys2Proof.Machine
end

