-- ==== Sys2Proof/Laws/KeepsCommands.lean ====
section
/-! SUPPORT. One lemma per operation of Machine/ (Fabric, Power, Reset, Xspi, Loader, Mailbox, Records, Frames, Admission, Commands): each keeps the queue and the form of memory. -/

namespace Sys2Proof.Machine

/-! Machine/Fabric.lean -/

theorem keeps_traceCapture {k0 : State} (r : WheelReq) (s : State) (kh : Keeps k0 s) :
    Keeps k0 (traceCapture r s) := by
  unfold traceCapture
  repeat' first
    | extract_lets
    | intro _
    | with_reducible assumption
    | fail_if_no_progress (with_reducible apply Keeps.upd)
    | with_reducible refine Keeps.ite (fun _ => ?_) (fun _ => ?_)
    | dsimp +zetaDelta only

theorem keeps_traceClear {k0 : State} (v : Word) (s : State) (kh : Keeps k0 s) :
    Keeps k0 (traceClear v s) := by
  unfold traceClear
  repeat' first
    | extract_lets
    | intro _
    | with_reducible assumption
    | fail_if_no_progress (with_reducible apply Keeps.upd)
    | with_reducible refine Keeps.ite (fun _ => ?_) (fun _ => ?_)

theorem keeps_grantBurst {k0 : State} (r : WheelReq) (s : State) (kh : Keeps k0 s) :
    Keeps k0 (grantBurst r s) := by
  unfold grantBurst
  repeat' first
    | extract_lets
    | intro _
    | with_reducible assumption
    | fail_if_no_progress (with_reducible apply Keeps.upd)
    | with_reducible refine Keeps.ite (fun _ => ?_) (fun _ => ?_)

theorem keeps_serveGrant {k0 : State} (r : WheelReq) (s : State) (kh : Keeps k0 s) :
    Keeps k0 (serveGrant r s) := by
  unfold serveGrant
  repeat' first
    | extract_lets
    | intro _
    | with_reducible assumption
    | fail_if_no_progress (with_reducible apply Keeps.upd)
    | with_reducible apply keeps_errorResponse
    | with_reducible refine Keeps.ite (fun _ => ?_) (fun _ => ?_)

theorem keeps_parityEnd {k0 : State} (r : WheelReq) (s : State) (kh : Keeps k0 s) :
    Keeps k0 (parityEnd r s) := by
  unfold parityEnd
  repeat' first
    | extract_lets
    | intro _
    | with_reducible assumption
    | fail_if_no_progress (with_reducible apply Keeps.upd)
    | with_reducible apply keeps_raiseFault
    | with_reducible apply keeps_errorResponse

theorem keeps_wheelSlot {k0 : State} (reqs : List WheelReq) (s : State) (kh : Keeps k0 s) :
    Keeps k0 (wheelSlot reqs s) := by
  unfold wheelSlot
  repeat' first
    | extract_lets
    | intro _
    | with_reducible assumption
    | fail_if_no_progress (with_reducible apply Keeps.upd)
    | with_reducible apply keeps_parityEnd
    | with_reducible apply keeps_errorResponse
    | with_reducible apply keeps_grantBurst
    | with_reducible apply keeps_serveGrant
    | with_reducible apply keeps_traceCapture
    | with_reducible refine Keeps.foldl (fun _ _ _ => ?_) ?_
    | split
    | dsimp +zetaDelta only

theorem keeps_setAllot {k0 : State} (v e : BitVec 7) (s : State) (kh : Keeps k0 s) :
    Keeps k0 (setAllot v e s) := by
  unfold setAllot
  repeat' first
    | extract_lets
    | intro _
    | with_reducible assumption
    | fail_if_no_progress (with_reducible apply Keeps.upd)
    | with_reducible refine Keeps.ite (fun _ => ?_) (fun _ => ?_)

theorem keeps_applyAllot {k0 : State} (s : State) (kh : Keeps k0 s) :
    Keeps k0 (applyAllot s) := by
  unfold applyAllot
  repeat' first
    | extract_lets
    | intro _
    | with_reducible assumption
    | fail_if_no_progress (with_reducible apply Keeps.upd)
    | with_reducible refine Keeps.ite (fun _ => ?_) (fun _ => ?_)

theorem keeps_fabCntClr {k0 : State} (v : Word) (s : State) (kh : Keeps k0 s) :
    Keeps k0 (fabCntClr v s) := by
  unfold fabCntClr
  repeat' first
    | extract_lets
    | intro _
    | with_reducible assumption
    | fail_if_no_progress (with_reducible apply Keeps.upd)
    | with_reducible refine Keeps.ite (fun _ => ?_) (fun _ => ?_)

theorem keeps_drCntClr {k0 : State} (v : Word) (s : State) (kh : Keeps k0 s) :
    Keeps k0 (drCntClr v s) := by
  unfold drCntClr
  repeat' first
    | extract_lets
    | intro _
    | with_reducible assumption
    | fail_if_no_progress (with_reducible apply Keeps.upd)
    | with_reducible refine Keeps.ite (fun _ => ?_) (fun _ => ?_)

theorem keeps_dramRefresh {k0 : State} (s : State) (kh : Keeps k0 s) :
    Keeps k0 (dramRefresh s) := by
  unfold dramRefresh
  repeat' first
    | extract_lets
    | intro _
    | with_reducible assumption
    | fail_if_no_progress (with_reducible apply Keeps.upd)
    | with_reducible refine Keeps.ite (fun _ => ?_) (fun _ => ?_)

theorem keeps_dramTrained {k0 : State} (ok : Bool) (s : State) (kh : Keeps k0 s) :
    Keeps k0 (dramTrained ok s) := by
  unfold dramTrained
  repeat' first
    | extract_lets
    | intro _
    | with_reducible assumption
    | fail_if_no_progress (with_reducible apply Keeps.upd)
    | with_reducible apply keeps_setCond
    | with_reducible refine Keeps.ite (fun _ => ?_) (fun _ => ?_)

/-! Machine/Power.lean -/

theorem keeps_domainLost {k0 : State} (d : Nat) (s : State) (kh : Keeps k0 s) : Keeps k0 (domainLost d s) := by
  unfold domainLost
  repeat' refine Keeps.ite (fun _ => ?_) (fun _ => ?_)
  all_goals try split
  all_goals first
    | with_reducible exact kh
    | with_reducible exact keeps_resetBlockRegs _ _ kh
    | with_reducible exact Keeps.upd kh
    | exact Keeps.updMem Mem.scramble_wf kh
    | exact keeps_resetBlockRegs _ _ (Keeps.upd kh)
    | exact keeps_resetBlockRegs _ _ (keeps_resetBlockRegs _ _ (keeps_resetBlockRegs _ _ kh))
    | exact keeps_resetBlockRegs _ _ (keeps_resetBlockRegs _ _ (keeps_resetBlockRegs _ _ (keeps_flashInterrupt _ kh)))

theorem keeps_dropTarget {k0 : State} (t : Nat) (s : State) (kh : Keeps k0 s) :
    Keeps k0 (dropTarget t s) := by
  unfold dropTarget
  repeat' first
    | extract_lets
    | intro _
    | with_reducible assumption
    | fail_if_no_progress (with_reducible apply Keeps.upd)
    | with_reducible apply keeps_domainLost
    | with_reducible refine Keeps.ite (fun _ => ?_) (fun _ => ?_)
    | dsimp +zetaDelta only

theorem keeps_flushTarget {k0 : State} (t : Nat) (s : State) (kh : Keeps k0 s) :
    Keeps k0 (flushTarget t s) := by
  unfold flushTarget
  repeat' first
    | extract_lets
    | intro _
    | with_reducible assumption
    | fail_if_no_progress (with_reducible apply Keeps.upd)
    | with_reducible apply keeps_drainCore
    | with_reducible apply keeps_drainBank
    | with_reducible apply keeps_barrowOff
    | with_reducible refine Keeps.ite (fun _ => ?_) (fun _ => ?_)

theorem keeps_offTarget {k0 : State} (t : Nat) (s : State) (kh : Keeps k0 s) :
    Keeps k0 (offTarget t s) := by
  unfold offTarget
  repeat' first
    | extract_lets
    | intro _
    | with_reducible assumption
    | fail_if_no_progress (with_reducible apply Keeps.upd)
    | with_reducible apply keeps_dropTarget
    | with_reducible apply keeps_flushTarget
    | with_reducible refine Keeps.foldl (fun _ _ _ => ?_) ?_

theorem keeps_switchClose {k0 : State} (d : Nat) (s : State) (kh : Keeps k0 s) :
    Keeps k0 (switchClose d s) := by
  unfold switchClose
  repeat' first
    | extract_lets
    | intro _
    | with_reducible assumption
    | fail_if_no_progress (with_reducible apply Keeps.upd)
    | with_reducible refine Keeps.ite (fun _ => ?_) (fun _ => ?_)

theorem keeps_startRun {k0 : State} (s : State) (kh : Keeps k0 s) :
    Keeps k0 (startRun s) := by
  unfold startRun
  repeat' first
    | extract_lets
    | intro _
    | with_reducible assumption
    | fail_if_no_progress (with_reducible apply Keeps.upd)
    | with_reducible apply keeps_railsUp

theorem keeps_becameGood {k0 : State} (s : State) (kh : Keeps k0 s) :
    Keeps k0 (becameGood s) := by
  unfold becameGood
  repeat' first
    | extract_lets
    | intro _
    | with_reducible assumption
    | fail_if_no_progress (with_reducible apply Keeps.upd)
    | with_reducible apply keeps_railsUp
    | with_reducible apply keeps_startRun
    | with_reducible refine Keeps.ite (fun _ => ?_) (fun _ => ?_)
    | dsimp +zetaDelta only

theorem keeps_domGood {k0 : State} (d : Nat) (s : State) (kh : Keeps k0 s) :
    Keeps k0 (domGood d s) := by
  unfold domGood
  repeat' first
    | extract_lets
    | intro _
    | with_reducible assumption
    | fail_if_no_progress (with_reducible apply Keeps.upd)
    | with_reducible apply keeps_becameGood
    | with_reducible refine Keeps.ite (fun _ => ?_) (fun _ => ?_)

theorem keeps_setRail {k0 : State} (r : Fin 12) (x : RailState) (s : State) (kh : Keeps k0 s) :
    Keeps k0 (setRail r x s) := by
  unfold setRail
  repeat' first
    | extract_lets
    | intro _
    | with_reducible assumption
    | fail_if_no_progress (with_reducible apply Keeps.upd)

theorem keeps_setSeqpg {k0 : State} (r : Fin 12) (b : Bool) (s : State) (kh : Keeps k0 s) :
    Keeps k0 (setSeqpg r b s) := by
  unfold setSeqpg
  repeat' first
    | extract_lets
    | intro _
    | with_reducible assumption
    | fail_if_no_progress (with_reducible apply Keeps.upd)

theorem keeps_seqpgUp {k0 : State} (r : Fin 12) (s : State) (kh : Keeps k0 s) :
    Keeps k0 (seqpgUp r s) := by
  unfold seqpgUp
  repeat' first
    | extract_lets
    | intro _
    | with_reducible assumption
    | fail_if_no_progress (with_reducible apply Keeps.upd)
    | with_reducible apply keeps_setSeqpg
    | with_reducible apply keeps_setRail
    | with_reducible refine Keeps.ite (fun _ => ?_) (fun _ => ?_)
    | dsimp +zetaDelta only

theorem keeps_railUp {k0 : State} (r : Fin 12) (s : State) (kh : Keeps k0 s) :
    Keeps k0 (railUp r s) := by
  unfold railUp
  repeat' first
    | extract_lets
    | intro _
    | with_reducible assumption
    | fail_if_no_progress (with_reducible apply Keeps.upd)
    | with_reducible apply keeps_setRail
    | with_reducible apply keeps_becameGood
    | with_reducible refine Keeps.ite (fun _ => ?_) (fun _ => ?_)
    | dsimp +zetaDelta only

theorem keeps_domFail {k0 : State} (d : Nat) (s : State) (kh : Keeps k0 s) :
    Keeps k0 (domFail d s) := by
  unfold domFail
  repeat' first
    | extract_lets
    | intro _
    | with_reducible assumption
    | fail_if_no_progress (with_reducible apply Keeps.upd)
    | with_reducible apply keeps_offTarget
    | with_reducible apply keeps_raiseWith
    | dsimp +zetaDelta only

theorem keeps_railFails {k0 : State} (r : Fin 12) (s : State) (kh : Keeps k0 s) :
    Keeps k0 (railFails r s) := by
  unfold railFails
  repeat' first
    | extract_lets
    | intro _
    | with_reducible assumption
    | fail_if_no_progress (with_reducible apply Keeps.upd)
    | with_reducible apply keeps_setRail
    | with_reducible apply keeps_offTarget
    | with_reducible apply keeps_raiseWith
    | dsimp +zetaDelta only

theorem keeps_domLate {k0 : State} (d : Nat) (s : State) (kh : Keeps k0 s) :
    Keeps k0 (domLate d s) := by
  unfold domLate
  repeat' first
    | extract_lets
    | intro _
    | with_reducible assumption
    | fail_if_no_progress (with_reducible apply Keeps.upd)
    | with_reducible apply keeps_domFail
    | with_reducible refine Keeps.ite (fun _ => ?_) (fun _ => ?_)

theorem keeps_domDrop {k0 : State} (d : Nat) (s : State) (kh : Keeps k0 s) :
    Keeps k0 (domDrop d s) := by
  unfold domDrop
  repeat' first
    | extract_lets
    | intro _
    | with_reducible assumption
    | fail_if_no_progress (with_reducible apply Keeps.upd)
    | with_reducible apply keeps_domFail
    | with_reducible refine Keeps.ite (fun _ => ?_) (fun _ => ?_)

theorem keeps_railLate {k0 : State} (r : Fin 12) (s : State) (kh : Keeps k0 s) :
    Keeps k0 (railLate r s) := by
  unfold railLate
  repeat' first
    | extract_lets
    | intro _
    | with_reducible assumption
    | fail_if_no_progress (with_reducible apply Keeps.upd)
    | with_reducible apply keeps_railFails
    | with_reducible refine Keeps.ite (fun _ => ?_) (fun _ => ?_)

theorem keeps_seqpgDown {k0 : State} (r : Fin 12) (s : State) (kh : Keeps k0 s) :
    Keeps k0 (seqpgDown r s) := by
  unfold seqpgDown
  repeat' first
    | extract_lets
    | intro _
    | with_reducible assumption
    | fail_if_no_progress (with_reducible apply Keeps.upd)
    | with_reducible apply keeps_setSeqpg
    | with_reducible apply keeps_railFails
    | with_reducible apply keeps_setRail
    | with_reducible refine Keeps.ite (fun _ => ?_) (fun _ => ?_)
    | split
    | dsimp +zetaDelta only

theorem keeps_domUnwanted {k0 : State} (d : Nat) (s : State) (kh : Keeps k0 s) :
    Keeps k0 (domUnwanted d s) := by
  unfold domUnwanted
  repeat' first
    | extract_lets
    | intro _
    | with_reducible assumption
    | fail_if_no_progress (with_reducible apply Keeps.upd)
    | with_reducible apply keeps_offTarget
    | with_reducible refine Keeps.ite (fun _ => ?_) (fun _ => ?_)

theorem keeps_psReq {k0 : State} (hi : Bool) (v : Word) (s : State) (kh : Keeps k0 s) :
    Keeps k0 (psReq hi v s) := by
  unfold psReq
  repeat' first
    | extract_lets
    | intro _
    | with_reducible assumption
    | fail_if_no_progress (with_reducible apply Keeps.upd)
    | with_reducible refine Keeps.ite (fun _ => ?_) (fun _ => ?_)

theorem keeps_psFailClr {k0 : State} (which : PsFailReg) (v : Word) (s : State) (kh : Keeps k0 s) :
    Keeps k0 (psFailClr which v s) := by
  unfold psFailClr
  repeat' first
    | extract_lets
    | intro _
    | with_reducible assumption
    | fail_if_no_progress (with_reducible apply Keeps.upd)
    | with_reducible apply keeps_railsUp
    | with_reducible refine Keeps.ite (fun _ => ?_) (fun _ => ?_)
    | split

theorem keeps_bootStart {k0 : State} (s : State) (kh : Keeps k0 s) :
    Keeps k0 (bootStart s) := by
  unfold bootStart
  repeat' first
    | extract_lets
    | intro _
    | with_reducible assumption
    | fail_if_no_progress (with_reducible apply Keeps.upd)
    | with_reducible apply keeps_railsUp
    | with_reducible apply keeps_loaderFail
    | with_reducible refine Keeps.ite (fun _ => ?_) (fun _ => ?_)

theorem keeps_startSupply {k0 : State} (s : State) (kh : Keeps k0 s) :
    Keeps k0 (startSupply s) := by
  unfold startSupply
  repeat' first
    | extract_lets
    | intro _
    | with_reducible assumption
    | fail_if_no_progress (with_reducible apply Keeps.upd)

theorem keeps_softDone {k0 : State} (s : State) (kh : Keeps k0 s) :
    Keeps k0 (softDone s) := by
  unfold softDone
  repeat' first
    | extract_lets
    | intro _
    | with_reducible assumption
    | fail_if_no_progress (with_reducible apply Keeps.upd)
    | with_reducible refine Keeps.ite (fun _ => ?_) (fun _ => ?_)

theorem keeps_vauxUp {k0 : State} (s : State) (kh : Keeps k0 s) :
    Keeps k0 (vauxUp s) := by
  unfold vauxUp
  repeat' first
    | extract_lets
    | intro _
    | with_reducible assumption
    | fail_if_no_progress (with_reducible apply Keeps.upd)
    | with_reducible apply keeps_setCond
    | with_reducible refine Keeps.ite (fun _ => ?_) (fun _ => ?_)

theorem keeps_aoRelease {k0 : State} (s : State) (kh : Keeps k0 s) :
    Keeps k0 (aoRelease s) := by
  unfold aoRelease
  repeat' first
    | extract_lets
    | intro _
    | with_reducible assumption
    | fail_if_no_progress (with_reducible apply Keeps.upd)
    | with_reducible apply keeps_powerOnReset
    | with_reducible apply keeps_bootStart
    | with_reducible refine Keeps.ite (fun _ => ?_) (fun _ => ?_)
    | dsimp +zetaDelta only

theorem keeps_brownOutOp {k0 : State} (s : State) (kh : Keeps k0 s) :
    Keeps k0 (brownOutOp s) := by
  unfold brownOutOp
  repeat' first
    | extract_lets
    | intro _
    | with_reducible assumption
    | fail_if_no_progress (with_reducible apply Keeps.upd)
    | with_reducible apply keeps_systemReset
    | with_reducible apply keeps_softDone
    | with_reducible refine Keeps.ite (fun _ => ?_) (fun _ => ?_)
    | dsimp +zetaDelta only

theorem keeps_vinHighOp {k0 : State} (above : Bool) (s : State) (kh : Keeps k0 s) :
    Keeps k0 (vinHighOp above s) := by
  unfold vinHighOp
  repeat' first
    | extract_lets
    | intro _
    | with_reducible assumption
    | fail_if_no_progress (with_reducible apply Keeps.upd)
    | with_reducible apply keeps_setCond

theorem keeps_regenUp {k0 : State} (s : State) (kh : Keeps k0 s) :
    Keeps k0 (regenUp s) := by
  unfold regenUp
  repeat' first
    | extract_lets
    | intro _
    | with_reducible assumption
    | fail_if_no_progress (with_reducible apply Keeps.upd)
    | with_reducible apply keeps_backoffAll
    | with_reducible apply keeps_raiseFault
    | with_reducible refine Keeps.ite (fun _ => ?_) (fun _ => ?_)
    | dsimp +zetaDelta only

theorem keeps_regenDown {k0 : State} (s : State) (kh : Keeps k0 s) :
    Keeps k0 (regenDown s) := by
  unfold regenDown
  repeat' first
    | extract_lets
    | intro _
    | with_reducible assumption
    | fail_if_no_progress (with_reducible apply Keeps.upd)

theorem keeps_vauxLowOp {k0 : State} (below : Bool) (s : State) (kh : Keeps k0 s) :
    Keeps k0 (vauxLowOp below s) := by
  unfold vauxLowOp
  repeat' first
    | extract_lets
    | intro _
    | with_reducible assumption
    | fail_if_no_progress (with_reducible apply Keeps.upd)
    | with_reducible apply keeps_setCond
    | with_reducible refine Keeps.ite (fun _ => ?_) (fun _ => ?_)
    | dsimp +zetaDelta only

theorem keeps_toVbkp {k0 : State} (s : State) (kh : Keeps k0 s) :
    Keeps k0 (toVbkp s) := by
  unfold toVbkp
  repeat' first
    | extract_lets
    | intro _
    | with_reducible assumption
    | fail_if_no_progress (with_reducible apply Keeps.upd)

theorem keeps_toVaux {k0 : State} (s : State) (kh : Keeps k0 s) :
    Keeps k0 (toVaux s) := by
  unfold toVaux
  repeat' first
    | extract_lets
    | intro _
    | with_reducible assumption
    | fail_if_no_progress (with_reducible apply Keeps.upd)
    | with_reducible apply keeps_lossApply

theorem keeps_vbkpOp {k0 : State} (below : Bool) (s : State) (kh : Keeps k0 s) :
    Keeps k0 (vbkpOp below s) := by
  unfold vbkpOp
  repeat' first
    | extract_lets
    | intro _
    | with_reducible assumption
    | fail_if_no_progress (with_reducible apply Keeps.upd)
    | with_reducible apply keeps_setCond

theorem keeps_monitor {k0 : State} (vin vaux : BitVec 16) (s : State) (kh : Keeps k0 s) :
    Keeps k0 (monitor vin vaux s) := by
  unfold monitor
  repeat' first
    | extract_lets
    | intro _
    | with_reducible assumption
    | fail_if_no_progress (with_reducible apply Keeps.upd)

theorem keeps_average {k0 : State} (s : State) (kh : Keeps k0 s) :
    Keeps k0 (average s) := by
  unfold average
  repeat' first
    | extract_lets
    | intro _
    | with_reducible assumption
    | fail_if_no_progress (with_reducible apply Keeps.upd)
    | with_reducible refine Keeps.ite (fun _ => ?_) (fun _ => ?_)

theorem keeps_aoLost {k0 : State} (s : State) (kh : Keeps k0 s) :
    Keeps k0 (aoLost s) := by
  unfold aoLost
  repeat' first
    | extract_lets
    | intro _
    | with_reducible assumption
    | fail_if_no_progress (with_reducible apply Keeps.upd)
    | with_reducible apply keeps_powerOnReset
    | with_reducible refine Keeps.ite (fun _ => ?_) (fun _ => ?_)
    | dsimp +zetaDelta only

theorem keeps_sleepCheck {k0 : State} (s : State) (kh : Keeps k0 s) :
    Keeps k0 (sleepCheck s) := by
  unfold sleepCheck
  repeat' first
    | extract_lets
    | intro _
    | with_reducible assumption
    | fail_if_no_progress (with_reducible apply Keeps.upd)
    | with_reducible refine Keeps.ite (fun _ => ?_) (fun _ => ?_)

theorem keeps_wantFirst {k0 : State} (w : Want) (s : State) (kh : Keeps k0 s) :
    Keeps k0 (wantFirst w s) := by
  unfold wantFirst
  repeat' first
    | extract_lets
    | intro _
    | with_reducible assumption
    | fail_if_no_progress (with_reducible apply Keeps.upd)
    | with_reducible refine Keeps.ite (fun _ => ?_) (fun _ => ?_)
    | split

theorem keeps_pfwCut {k0 : State} (s : State) (kh : Keeps k0 s) :
    Keeps k0 (pfwCut s) := by
  unfold pfwCut
  repeat' first
    | extract_lets
    | intro _
    | with_reducible assumption
    | fail_if_no_progress (with_reducible apply Keeps.upd)
    | with_reducible apply keeps_cutOutputs
    | with_reducible refine Keeps.ite (fun _ => ?_) (fun _ => ?_)
    | dsimp +zetaDelta only

theorem keeps_pfwOp {k0 : State} (s : State) (kh : Keeps k0 s) :
    Keeps k0 (pfwOp s) := by
  unfold pfwOp
  repeat' first
    | extract_lets
    | intro _
    | with_reducible assumption
    | fail_if_no_progress (with_reducible apply Keeps.upd)
    | with_reducible apply keeps_raiseFault
    | with_reducible apply keeps_pfwCut
    | with_reducible apply keeps_stageDocket
    | with_reducible apply keeps_closeDocket
    | with_reducible apply keeps_wantFirst
    | with_reducible refine Keeps.ite (fun _ => ?_) (fun _ => ?_)
    | dsimp +zetaDelta only

theorem keeps_tpfwOp {k0 : State} (s : State) (kh : Keeps k0 s) :
    Keeps k0 (tpfwOp s) := by
  unfold tpfwOp
  repeat' first
    | extract_lets
    | intro _
    | with_reducible assumption
    | fail_if_no_progress (with_reducible apply Keeps.upd)
    | with_reducible refine Keeps.ite (fun _ => ?_) (fun _ => ?_)

theorem keeps_entryDue {k0 : State} (t : Nat) (s : State) (kh : Keeps k0 s) :
    Keeps k0 (entryDue t s) := by
  unfold entryDue
  repeat' first
    | extract_lets
    | intro _
    | with_reducible assumption
    | fail_if_no_progress (with_reducible apply Keeps.upd)
    | with_reducible apply keeps_sleepCheck
    | with_reducible apply keeps_offTarget
    | with_reducible refine Keeps.ite (fun _ => ?_) (fun _ => ?_)

theorem keeps_totalOff {k0 : State} (s : State) (kh : Keeps k0 s) :
    Keeps k0 (totalOff s) := by
  unfold totalOff
  repeat' first
    | extract_lets
    | intro _
    | with_reducible assumption
    | fail_if_no_progress (with_reducible apply Keeps.upd)
    | with_reducible apply keeps_dropTarget
    | with_reducible refine Keeps.foldl (fun _ _ _ => ?_) ?_
    | dsimp +zetaDelta only

theorem keeps_deferralEnd {k0 : State} (s : State) (kh : Keeps k0 s) :
    Keeps k0 (deferralEnd s) := by
  unfold deferralEnd
  repeat' first
    | extract_lets
    | intro _
    | with_reducible assumption
    | fail_if_no_progress (with_reducible apply Keeps.upd)
    | with_reducible apply keeps_offTarget
    | with_reducible apply keeps_totalOff
    | with_reducible refine Keeps.foldl (fun _ _ _ => ?_) ?_
    | split

theorem keeps_vinBack {k0 : State} (s : State) (kh : Keeps k0 s) :
    Keeps k0 (vinBack s) := by
  unfold vinBack
  repeat' first
    | extract_lets
    | intro _
    | with_reducible assumption
    | fail_if_no_progress (with_reducible apply Keeps.upd)
    | with_reducible apply keeps_bootStart
    | with_reducible apply keeps_systemReset
    | with_reducible refine Keeps.ite (fun _ => ?_) (fun _ => ?_)

theorem keeps_haltOp {k0 : State} (s : State) (kh : Keeps k0 s) :
    Keeps k0 (haltOp s) := by
  unfold haltOp
  repeat' first
    | extract_lets
    | intro _
    | with_reducible assumption
    | fail_if_no_progress (with_reducible apply Keeps.upd)
    | with_reducible apply keeps_totalOff
    | with_reducible refine Keeps.ite (fun _ => ?_) (fun _ => ?_)
    | dsimp +zetaDelta only

theorem keeps_sleepStart {k0 : State} (s : State) (kh : Keeps k0 s) :
    Keeps k0 (sleepStart s) := by
  unfold sleepStart
  repeat' first
    | extract_lets
    | intro _
    | with_reducible assumption
    | fail_if_no_progress (with_reducible apply Keeps.upd)
    | with_reducible refine Keeps.ite (fun _ => ?_) (fun _ => ?_)
    | split

theorem keeps_domainGood {k0 : State} (d : Nat) (s : State) (kh : Keeps k0 s) :
    Keeps k0 (domainGood d s) := by
  unfold domainGood
  repeat' first
    | extract_lets
    | intro _
    | with_reducible assumption
    | fail_if_no_progress (with_reducible apply Keeps.upd)
    | with_reducible apply keeps_thermalTable
    | with_reducible apply keeps_domGood
    | with_reducible refine Keeps.ite (fun _ => ?_) (fun _ => ?_)

/-! Machine/Reset.lean -/

theorem keeps_systemCause {k0 : State} (o : Outcome5) (code : Byte) (s : State) (kh : Keeps k0 s) :
    Keeps k0 (systemCause o code s) := by
  unfold systemCause
  repeat' first
    | extract_lets
    | intro _
    | with_reducible assumption
    | fail_if_no_progress (with_reducible apply Keeps.upd)
    | with_reducible apply keeps_assertReset
    | with_reducible refine Keeps.ite (fun _ => ?_) (fun _ => ?_)

theorem keeps_nrstReset {k0 : State} (s : State) (kh : Keeps k0 s) :
    Keeps k0 (nrstReset s) := by
  unfold nrstReset
  repeat' first
    | extract_lets
    | intro _
    | with_reducible assumption
    | fail_if_no_progress (with_reducible apply Keeps.upd)
    | with_reducible apply keeps_systemReset
    | with_reducible apply keeps_assertReset
    | with_reducible refine Keeps.ite (fun _ => ?_) (fun _ => ?_)

theorem keeps_nrst {k0 : State} (ns : Nat) (s : State) (kh : Keeps k0 s) :
    Keeps k0 (nrst ns s) := by
  unfold nrst
  repeat' first
    | extract_lets
    | intro _
    | with_reducible assumption
    | fail_if_no_progress (with_reducible apply Keeps.upd)
    | with_reducible apply keeps_nrstReset
    | with_reducible apply keeps_takeBit
    | with_reducible refine Keeps.ite (fun _ => ?_) (fun _ => ?_)
    | dsimp +zetaDelta only

theorem keeps_offTimeEnd {k0 : State} (s : State) (kh : Keeps k0 s) :
    Keeps k0 (offTimeEnd s) := by
  unfold offTimeEnd
  repeat' first
    | extract_lets
    | intro _
    | with_reducible assumption
    | fail_if_no_progress (with_reducible apply Keeps.upd)
    | with_reducible apply keeps_bootStart
    | with_reducible refine Keeps.ite (fun _ => ?_) (fun _ => ?_)

theorem keeps_kwdgExpire {k0 : State} (s : State) (kh : Keeps k0 s) :
    Keeps k0 (kwdgExpire s) := by
  unfold kwdgExpire
  repeat' first
    | extract_lets
    | intro _
    | with_reducible assumption
    | fail_if_no_progress (with_reducible apply Keeps.upd)
    | with_reducible apply keeps_assertReset
    | with_reducible refine Keeps.ite (fun _ => ?_) (fun _ => ?_)

theorem keeps_kwdgKick {k0 : State} (v : Word) (s : State) (kh : Keeps k0 s) :
    Keeps k0 (kwdgKick v s) := by
  unfold kwdgKick
  repeat' first
    | extract_lets
    | intro _
    | with_reducible assumption
    | fail_if_no_progress (with_reducible apply Keeps.upd)
    | with_reducible apply keeps_kwdgExpire
    | with_reducible refine Keeps.ite (fun _ => ?_) (fun _ => ?_)

theorem keeps_awdgExpire {k0 : State} (s : State) (kh : Keeps k0 s) :
    Keeps k0 (awdgExpire s) := by
  unfold awdgExpire
  repeat' first
    | extract_lets
    | intro _
    | with_reducible assumption
    | fail_if_no_progress (with_reducible apply Keeps.upd)
    | with_reducible apply keeps_clusterReset
    | with_reducible apply keeps_refuseAll
    | with_reducible apply keeps_dropOuts
    | with_reducible refine Keeps.ite (fun _ => ?_) (fun _ => ?_)
    | dsimp +zetaDelta only

theorem keeps_awdgCfg {k0 : State} (v : Word) (s : State) (kh : Keeps k0 s) :
    Keeps k0 (awdgCfg v s) := by
  unfold awdgCfg
  repeat' first
    | extract_lets
    | intro _
    | with_reducible assumption
    | fail_if_no_progress (with_reducible apply Keeps.upd)
    | with_reducible refine Keeps.ite (fun _ => ?_) (fun _ => ?_)

theorem keeps_rstReqOp {k0 : State} (v : Word) (s : State) (kh : Keeps k0 s) :
    Keeps k0 (rstReqOp v s) := by
  unfold rstReqOp
  repeat' first
    | extract_lets
    | intro _
    | with_reducible assumption
    | fail_if_no_progress (with_reducible apply Keeps.upd)
    | with_reducible apply keeps_systemCause
    | with_reducible apply keeps_assertReset
    | with_reducible refine Keeps.ite (fun _ => ?_) (fun _ => ?_)
    | split

theorem keeps_resetCmd {k0 : State} (s : State) (kh : Keeps k0 s) :
    Keeps k0 (resetCmd s) := by
  unfold resetCmd
  repeat' first
    | extract_lets
    | intro _
    | with_reducible assumption
    | fail_if_no_progress (with_reducible apply Keeps.upd)
    | with_reducible apply keeps_assertReset
    | with_reducible apply keeps_systemCause
    | with_reducible refine Keeps.ite (fun _ => ?_) (fun _ => ?_)
    | split
    | dsimp +zetaDelta only

theorem keeps_doubleBit {k0 : State} (ofs : BitVec 18) (s : State) (kh : Keeps k0 s) :
    Keeps k0 (doubleBit ofs s) := by
  unfold doubleBit
  repeat' first
    | extract_lets
    | intro _
    | with_reducible assumption
    | fail_if_no_progress (with_reducible apply Keeps.upd)
    | with_reducible apply keeps_assertReset
    | with_reducible refine Keeps.ite (fun _ => ?_) (fun _ => ?_)

theorem keeps_blkReq {k0 : State} (v : Word) (outs : List Access) (s : State) (kh : Keeps k0 s) :
    Keeps k0 (blkReq v outs s) := by
  unfold blkReq
  repeat' first
    | extract_lets
    | intro _
    | with_reducible assumption
    | fail_if_no_progress (with_reducible apply Keeps.upd)
    | with_reducible apply keeps_blockStart
    | with_reducible apply keeps_refuseAll
    | with_reducible apply keeps_dropOuts
    | with_reducible refine Keeps.ite (fun _ => ?_) (fun _ => ?_)
    | dsimp +zetaDelta only

theorem keeps_drainDone {k0 : State} (b : Fin 24) (s : State) (kh : Keeps k0 s) :
    Keeps k0 (drainDone b s) := by
  unfold drainDone
  repeat' first
    | extract_lets
    | intro _
    | with_reducible assumption
    | fail_if_no_progress (with_reducible apply Keeps.upd)
    | with_reducible apply keeps_blockHold
    | with_reducible refine Keeps.ite (fun _ => ?_) (fun _ => ?_)

theorem keeps_drainTimeout {k0 : State} (b : Fin 24) (outs : List Access) (s : State) (kh : Keeps k0 s) :
    Keeps k0 (drainTimeout b outs s) := by
  unfold drainTimeout
  repeat' first
    | extract_lets
    | intro _
    | with_reducible assumption
    | fail_if_no_progress (with_reducible apply Keeps.upd)
    | with_reducible apply keeps_refuseAll
    | with_reducible apply keeps_blockHold
    | with_reducible apply keeps_dropOuts
    | with_reducible apply keeps_raiseFault
    | with_reducible refine Keeps.ite (fun _ => ?_) (fun _ => ?_)
    | dsimp +zetaDelta only

theorem keeps_lasersWait {k0 : State} (b : Nat) (s : State) (kh : Keeps k0 s) :
    Keeps k0 (lasersWait b s) := by
  unfold lasersWait
  repeat' first
    | extract_lets
    | intro _
    | with_reducible assumption
    | fail_if_no_progress (with_reducible apply Keeps.upd)
    | with_reducible refine Keeps.ite (fun _ => ?_) (fun _ => ?_)

theorem keeps_blockFree {k0 : State} (b : Fin 24) (s : State) (kh : Keeps k0 s) :
    Keeps k0 (blockFree b s) := by
  unfold blockFree
  repeat' first
    | extract_lets
    | intro _
    | with_reducible assumption
    | fail_if_no_progress (with_reducible apply Keeps.upd)
    | with_reducible apply keeps_lasersWait
    | with_reducible apply keeps_resetBlockRegs
    | with_reducible apply keeps_thermalTable
    | with_reducible refine Keeps.ite (fun _ => ?_) (fun _ => ?_)
    | dsimp +zetaDelta only

theorem keeps_holdRelease {k0 : State} (s : State) (kh : Keeps k0 s) :
    Keeps k0 (holdRelease s) := by
  unfold holdRelease
  repeat' first
    | extract_lets
    | intro _
    | with_reducible assumption
    | fail_if_no_progress (with_reducible apply Keeps.upd)
    | with_reducible refine Keeps.ite (fun _ => ?_) (fun _ => ?_)
    | dsimp +zetaDelta only

theorem keeps_rstRel {k0 : State} (v : Word) (s : State) (kh : Keeps k0 s) :
    Keeps k0 (rstRel v s) := by
  unfold rstRel
  repeat' first
    | extract_lets
    | intro _
    | with_reducible assumption
    | fail_if_no_progress (with_reducible apply Keeps.upd)
    | with_reducible apply keeps_holdRelease
    | with_reducible refine Keeps.ite (fun _ => ?_) (fun _ => ?_)
    | dsimp +zetaDelta only

theorem keeps_socpllWait {k0 : State} (s : State) (kh : Keeps k0 s) :
    Keeps k0 (socpllWait s) := by
  unfold socpllWait
  repeat' first
    | extract_lets
    | intro _
    | with_reducible assumption
    | fail_if_no_progress (with_reducible apply Keeps.upd)
    | with_reducible apply keeps_resumePll
    | with_reducible refine Keeps.ite (fun _ => ?_) (fun _ => ?_)

/-! Machine/Xspi.lean -/

theorem keeps_xsCmd {k0 : State} (m : Master) (op : BitVec 2) (s : State) (kh : Keeps k0 s) :
    Keeps k0 (xsCmd m op s) := by
  unfold xsCmd
  repeat' first
    | extract_lets
    | intro _
    | with_reducible assumption
    | fail_if_no_progress (with_reducible apply Keeps.upd)
    | with_reducible apply keeps_refuseWrite
    | with_reducible refine Keeps.ite (fun _ => ?_) (fun _ => ?_)
    | split

theorem keeps_flashProgram {k0 : State} (ofs : Nat) (bs : List Byte) (s : State) (kh : Keeps k0 s) :
    Keeps k0 (flashProgram ofs bs s) := by
  unfold flashProgram
  repeat' first
    | extract_lets
    | intro _
    | with_reducible assumption
    | fail_if_no_progress (with_reducible apply Keeps.upd)
    | with_reducible apply keeps_memPut
    | with_reducible refine Keeps.foldl (fun _ _ _ => ?_) ?_
    | dsimp +zetaDelta only

theorem keeps_flashErase {k0 : State} (ofs : Nat) (s : State) (kh : Keeps k0 s) :
    Keeps k0 (flashErase ofs s) := by
  unfold flashErase
  repeat' first
    | extract_lets
    | intro _
    | with_reducible assumption
    | fail_if_no_progress (with_reducible apply Keeps.upd)
    | fail_if_no_progress (with_reducible refine Keeps.updMem (fun h => ?_) ?_)
    | with_reducible refine Mem.clearRange_wf ?_

theorem keeps_xsEnd {k0 : State} (ok : Bool) (s : State) (kh : Keeps k0 s) :
    Keeps k0 (xsEnd ok s) := by
  unfold xsEnd
  repeat' first
    | extract_lets
    | intro _
    | with_reducible assumption
    | fail_if_no_progress (with_reducible apply Keeps.upd)
    | with_reducible apply keeps_flashErase
    | with_reducible apply keeps_flashProgram
    | with_reducible apply keeps_flashInterrupt
    | with_reducible refine Keeps.ite (fun _ => ?_) (fun _ => ?_)
    | dsimp +zetaDelta only

theorem keeps_xsSuspend {k0 : State} (s : State) (kh : Keeps k0 s) :
    Keeps k0 (xsSuspend s) := by
  unfold xsSuspend
  repeat' first
    | extract_lets
    | intro _
    | with_reducible assumption
    | fail_if_no_progress (with_reducible apply Keeps.upd)
    | with_reducible refine Keeps.ite (fun _ => ?_) (fun _ => ?_)

/-! Machine/Loader.lean -/

theorem keeps_loadRecord {k0 : State} (bs : List Byte) (s : State) (kh : Keeps k0 s) :
    Keeps k0 (loadRecord bs s) := by
  unfold loadRecord
  repeat' first
    | extract_lets
    | intro _
    | with_reducible assumption
    | fail_if_no_progress (with_reducible apply Keeps.upd)
    | with_reducible apply keeps_reloadFhCfg
    | with_reducible refine Keeps.ite (fun _ => ?_) (fun _ => ?_)
    | dsimp +zetaDelta only

theorem keeps_applyRecord {k0 : State} (bs : List Byte) (copy : BitVec 2) (st : BitVec 2) (outcome : Option Byte) (verifyOk : Bool) (s : State) (kh : Keeps k0 s) :
    Keeps k0 (applyRecord bs copy st outcome verifyOk s) := by
  unfold applyRecord
  repeat' first
    | extract_lets
    | intro _
    | with_reducible assumption
    | fail_if_no_progress (with_reducible apply Keeps.upd)
    | with_reducible apply keeps_loadRecord
    | with_reducible apply keeps_loaderFail
    | with_reducible refine Keeps.ite (fun _ => ?_) (fun _ => ?_)
    | dsimp +zetaDelta only

theorem keeps_applyRom {k0 : State} (st : BitVec 2) (outcome : Option Byte) (verifyOk : Bool) (s : State) (kh : Keeps k0 s) :
    Keeps k0 (applyRom st outcome verifyOk s) := by
  unfold applyRom
  repeat' first
    | extract_lets
    | intro _
    | with_reducible assumption
    | fail_if_no_progress (with_reducible apply Keeps.upd)
    | with_reducible apply keeps_applyRecord

theorem keeps_entryReady {k0 : State} (optrec readErrA readErrB verifyOk : Bool) (s : State) (kh : Keeps k0 s) :
    Keeps k0 (entryReady optrec readErrA readErrB verifyOk s) := by
  unfold entryReady
  repeat' first
    | extract_lets
    | intro _
    | with_reducible assumption
    | fail_if_no_progress (with_reducible apply Keeps.upd)
    | with_reducible apply keeps_applyRecord
    | with_reducible apply keeps_applyRom
    | with_reducible refine Keeps.ite (fun _ => ?_) (fun _ => ?_)
    | dsimp +zetaDelta only

theorem keeps_repairDone {k0 : State} (same verifyOk : Bool) (s : State) (kh : Keeps k0 s) :
    Keeps k0 (repairDone same verifyOk s) := by
  unfold repairDone
  split
  · extract_lets
    split
    · exact keeps_applyRecord _ _ _ _ _ _ (Keeps.updMem Mem.writeAll_wf (Keeps.upd kh))
    · exact keeps_applyRom _ _ _ _ (Keeps.updMem Mem.writeAll_wf (Keeps.upd kh))
  · exact kh

theorem keeps_entryTimeout {k0 : State} (verifyOk : Bool) (s : State) (kh : Keeps k0 s) :
    Keeps k0 (entryTimeout verifyOk s) := by
  unfold entryTimeout
  repeat' first
    | extract_lets
    | intro _
    | with_reducible assumption
    | fail_if_no_progress (with_reducible apply Keeps.upd)
    | with_reducible apply keeps_applyRom
    | with_reducible refine Keeps.ite (fun _ => ?_) (fun _ => ?_)

theorem keeps_loadLimit {k0 : State} (verifyOk : Bool) (s : State) (kh : Keeps k0 s) :
    Keeps k0 (loadLimit verifyOk s) := by
  unfold loadLimit
  repeat' first
    | extract_lets
    | intro _
    | with_reducible assumption
    | fail_if_no_progress (with_reducible apply Keeps.upd)
    | with_reducible apply keeps_applyRom
    | with_reducible refine Keeps.ite (fun _ => ?_) (fun _ => ?_)

theorem keeps_loaderDone {k0 : State} (s : State) (kh : Keeps k0 s) :
    Keeps k0 (loaderDone s) := by
  unfold loaderDone
  repeat' first
    | extract_lets
    | intro _
    | with_reducible assumption
    | fail_if_no_progress (with_reducible apply Keeps.upd)
    | with_reducible apply keeps_setCond
    | with_reducible apply keeps_raiseFault
    | with_reducible apply keeps_startRun
    | with_reducible refine Keeps.ite (fun _ => ?_) (fun _ => ?_)
    | split
    | dsimp +zetaDelta only

theorem keeps_envAck {k0 : State} (s : State) (kh : Keeps k0 s) :
    Keeps k0 (envAck s) := by
  unfold envAck
  repeat' first
    | extract_lets
    | intro _
    | with_reducible assumption
    | fail_if_no_progress (with_reducible apply Keeps.upd)
    | with_reducible apply keeps_loaderDone
    | with_reducible refine Keeps.ite (fun _ => ?_) (fun _ => ?_)

theorem keeps_envTimeout {k0 : State} (s : State) (kh : Keeps k0 s) :
    Keeps k0 (envTimeout s) := by
  unfold envTimeout
  repeat' first
    | extract_lets
    | intro _
    | with_reducible assumption
    | fail_if_no_progress (with_reducible apply Keeps.upd)
    | with_reducible apply keeps_loaderDone
    | with_reducible apply keeps_raiseFault
    | with_reducible refine Keeps.ite (fun _ => ?_) (fun _ => ?_)

theorem keeps_measure0 {k0 : State} (s : State) (k : Option (Nat × Nat)) (kh : Keeps k0 s) :
    Keeps k0 (measure0 s k) := by
  unfold measure0
  repeat' first
    | extract_lets
    | intro _
    | with_reducible assumption
    | fail_if_no_progress (with_reducible apply Keeps.upd)
    | with_reducible apply keeps_measExtend
    | with_reducible apply keeps_raiseFault
    | with_reducible refine Keeps.ite (fun _ => ?_) (fun _ => ?_)
    | split
    | dsimp +zetaDelta only

theorem keeps_keeperFree {k0 : State} (s : State) (kh : Keeps k0 s) : Keeps k0 (keeperFree s) := by
  unfold keeperFree
  split
  · extract_lets dflt d sel k b0
    have h0 : Keeps k0 b0.2 := keeps_takeBit _ (Keeps.updMem Mem.clearRange_wf kh)
    clear_value b0
    with_reducible apply keeps_measExtend
    with_reducible apply keeps_measure0
    with_reducible apply Keeps.upd
    exact keeps_takeBit _ h0
  · exact kh


/-! Machine/Mailbox.lean -/

theorem keeps_cntMod {k0 : State} (n : Fin 8) (f : Counter → Counter) (s : State) (kh : Keeps k0 s) :
    Keeps k0 (cntMod n f s) := by
  unfold cntMod
  repeat' first
    | extract_lets
    | intro _
    | with_reducible assumption
    | fail_if_no_progress (with_reducible apply Keeps.upd)

theorem keeps_answerWith {k0 : State} (n : Fin 8) (st : Status) (progress : BitVec 16) (payload : List Byte) (s : State) (kh : Keeps k0 s) :
    Keeps k0 (answerWith n st progress payload s) := by
  unfold answerWith
  repeat' first
    | extract_lets
    | intro _
    | with_reducible assumption
    | fail_if_no_progress (with_reducible apply Keeps.upd)
    | with_reducible apply keeps_cntMod

theorem keeps_answer {k0 : State} (n : Fin 8) (st : Status) (s : State) (kh : Keeps k0 s) :
    Keeps k0 (answer n st s) := by
  unfold answer
  repeat' first
    | extract_lets
    | intro _
    | with_reducible assumption
    | fail_if_no_progress (with_reducible apply Keeps.upd)
    | with_reducible apply keeps_answerWith

theorem keeps_answerOk {k0 : State} (n : Fin 8) (payload : List Byte) (s : State) (kh : Keeps k0 s) :
    Keeps k0 (answerOk n payload s) := by
  unfold answerOk
  repeat' first
    | extract_lets
    | intro _
    | with_reducible assumption
    | fail_if_no_progress (with_reducible apply Keeps.upd)
    | with_reducible apply keeps_answerWith

theorem keeps_answerFrameErr {k0 : State} (n : Fin 8) (s : State) (kh : Keeps k0 s) :
    Keeps k0 (answerFrameErr n s) := by
  unfold answerFrameErr
  repeat' first
    | extract_lets
    | intro _
    | with_reducible assumption
    | fail_if_no_progress (with_reducible apply Keeps.upd)
    | with_reducible apply keeps_cntMod

theorem keeps_staleSync {k0 : State} (s : State) (kh : Keeps k0 s) :
    Keeps k0 (staleSync s) := by
  unfold staleSync
  repeat' first
    | extract_lets
    | intro _
    | with_reducible assumption
    | fail_if_no_progress (with_reducible apply Keeps.upd)
    | with_reducible apply keeps_setCond

theorem keeps_ringOp {k0 : State} (n : Fin 8) (s : State) (kh : Keeps k0 s) :
    Keeps k0 (ringOp n s) := by
  unfold ringOp
  repeat' first
    | extract_lets
    | intro _
    | with_reducible assumption
    | fail_if_no_progress (with_reducible apply Keeps.upd)
    | with_reducible apply keeps_cntMod
    | split

theorem keeps_abandonOp {k0 : State} (n : Fin 8) (s : State) (kh : Keeps k0 s) :
    Keeps k0 (abandonOp n s) := by
  unfold abandonOp
  repeat' first
    | extract_lets
    | intro _
    | with_reducible assumption
    | fail_if_no_progress (with_reducible apply Keeps.upd)
    | with_reducible apply keeps_staleSync
    | with_reducible apply keeps_cntMod
    | with_reducible refine Keeps.ite (fun _ => ?_) (fun _ => ?_)

theorem keeps_ackOp {k0 : State} (n : Fin 8) (s : State) (kh : Keeps k0 s) :
    Keeps k0 (ackOp n s) := by
  unfold ackOp
  repeat' first
    | extract_lets
    | intro _
    | with_reducible assumption
    | fail_if_no_progress (with_reducible apply Keeps.upd)
    | with_reducible apply keeps_cntMod
    | with_reducible refine Keeps.ite (fun _ => ?_) (fun _ => ?_)

theorem keeps_doorbell {k0 : State} (n : Fin 8) (v : Word) (s : State) (kh : Keeps k0 s) :
    Keeps k0 (doorbell n v s) := by
  unfold doorbell
  repeat' first
    | extract_lets
    | intro _
    | with_reducible assumption
    | fail_if_no_progress (with_reducible apply Keeps.upd)
    | with_reducible apply keeps_ringOp
    | with_reducible apply keeps_abandonOp
    | with_reducible apply keeps_ackOp
    | with_reducible refine Keeps.ite (fun _ => ?_) (fun _ => ?_)
    | dsimp +zetaDelta only

theorem keeps_joinWindow {k0 : State} (r : Resource) (n : Fin 8) (s : State) (kh : Keeps k0 s) :
    Keeps k0 (joinWindow r n s) := by
  unfold joinWindow
  repeat' first
    | extract_lets
    | intro _
    | with_reducible assumption
    | fail_if_no_progress (with_reducible apply Keeps.upd)
    | with_reducible apply keeps_cntMod
    | with_reducible refine Keeps.ite (fun _ => ?_) (fun _ => ?_)
    | dsimp +zetaDelta only

theorem keeps_queueFrame {k0 : State} (n : Fin 8) (s : State) (kh : Keeps k0 s) :
    Keeps k0 (queueFrame n s) := by
  unfold queueFrame
  repeat' first
    | extract_lets
    | intro _
    | with_reducible assumption
    | fail_if_no_progress (with_reducible apply Keeps.upd)

theorem keeps_sortFrame_sort2 {k0 : State} (n : Fin 8) (s : State) (kh : Keeps k0 s) :
    Keeps k0 (sortFrame.sort2 n s) := by
  unfold sortFrame.sort2
  repeat' first
    | extract_lets
    | intro _
    | with_reducible assumption
    | fail_if_no_progress (with_reducible apply Keeps.upd)
    | with_reducible apply keeps_answer
    | with_reducible apply keeps_joinWindow
    | with_reducible apply keeps_queueFrame
    | with_reducible apply keeps_cntMod
    | with_reducible refine Keeps.ite (fun _ => ?_) (fun _ => ?_)
    | split

theorem keeps_sortFrame {k0 : State} (n : Fin 8) (s : State) (kh : Keeps k0 s) :
    Keeps k0 (sortFrame n s) := by
  unfold sortFrame
  repeat' first
    | extract_lets
    | intro _
    | with_reducible assumption
    | fail_if_no_progress (with_reducible apply Keeps.upd)
    | with_reducible apply keeps_cntMod
    | with_reducible apply keeps_sortFrame_sort2
    | with_reducible refine Keeps.ite (fun _ => ?_) (fun _ => ?_)
    | split
    | dsimp +zetaDelta only

theorem keeps_takeOp {k0 : State} (n : Fin 8) (s : State) (kh : Keeps k0 s) :
    Keeps k0 (takeOp n s) := by
  unfold takeOp
  repeat' first
    | extract_lets
    | intro _
    | with_reducible assumption
    | fail_if_no_progress (with_reducible apply Keeps.upd)
    | with_reducible apply keeps_staleSync
    | with_reducible apply keeps_cntMod
    | with_reducible apply keeps_sortFrame
    | with_reducible apply keeps_answerFrameErr
    | with_reducible refine Keeps.ite (fun _ => ?_) (fun _ => ?_)
    | dsimp +zetaDelta only

theorem keeps_doneOp {k0 : State} (n : Fin 8) (s : State) (kh : Keeps k0 s) :
    Keeps k0 (doneOp n s) := by
  unfold doneOp
  repeat' first
    | extract_lets
    | intro _
    | with_reducible assumption
    | fail_if_no_progress (with_reducible apply Keeps.upd)
    | with_reducible apply keeps_cntMod
    | with_reducible refine Keeps.ite (fun _ => ?_) (fun _ => ?_)

theorem keeps_cntBits {k0 : State} (f : Fin 8 → State → State) (v : Word) (s : State) (hf : ∀ y0 y, Keeps k0 y → Keeps k0 (f y0 y)) (kh : Keeps k0 s) :
    Keeps k0 (cntBits f v s) := by
  unfold cntBits
  repeat' first
    | extract_lets
    | intro _
    | with_reducible apply hf
    | with_reducible assumption
    | fail_if_no_progress (with_reducible apply Keeps.upd)
    | with_reducible refine Keeps.ite (fun _ => ?_) (fun _ => ?_)
    | with_reducible refine Keeps.foldl (fun _ _ _ => ?_) ?_

theorem keeps_cntStatusClear {k0 : State} (n : Fin 8) (v : Word) (s : State) (kh : Keeps k0 s) :
    Keeps k0 (cntStatusClear n v s) := by
  unfold cntStatusClear
  repeat' first
    | extract_lets
    | intro _
    | with_reducible assumption
    | fail_if_no_progress (with_reducible apply Keeps.upd)
    | with_reducible apply keeps_cntMod

theorem keeps_staleOp {k0 : State} (n : Fin 8) (s : State) (kh : Keeps k0 s) :
    Keeps k0 (staleOp n s) := by
  unfold staleOp
  repeat' first
    | extract_lets
    | intro _
    | with_reducible assumption
    | fail_if_no_progress (with_reducible apply Keeps.upd)
    | with_reducible apply keeps_staleSync
    | with_reducible apply keeps_cntMod
    | with_reducible refine Keeps.ite (fun _ => ?_) (fun _ => ?_)

theorem keeps_badFramesOp {k0 : State} (n : Fin 8) (s : State) (kh : Keeps k0 s) :
    Keeps k0 (badFramesOp n s) := by
  unfold badFramesOp
  repeat' first
    | extract_lets
    | intro _
    | with_reducible assumption
    | fail_if_no_progress (with_reducible apply Keeps.upd)
    | with_reducible apply keeps_raiseFault
    | with_reducible apply keeps_cntMod
    | with_reducible refine Keeps.ite (fun _ => ?_) (fun _ => ?_)

theorem keeps_closeWindow {k0 : State} (r : Resource) (s : State) (kh : Keeps k0 s) :
    Keeps k0 (closeWindow r s) := by
  unfold closeWindow
  repeat' first
    | extract_lets
    | intro _
    | with_reducible assumption
    | fail_if_no_progress (with_reducible apply Keeps.upd)
    | with_reducible apply keeps_cntMod
    | with_reducible apply keeps_answer
    | with_reducible refine Keeps.ite (fun _ => ?_) (fun _ => ?_)
    | with_reducible refine Keeps.foldl (fun _ _ _ => ?_) ?_
    | split
    | dsimp +zetaDelta only

/-! Machine/Records.lean -/

theorem keeps_sealMeasure {k0 : State} (s : State) (kh : Keeps k0 s) :
    Keeps k0 (sealMeasure s) := by
  unfold sealMeasure
  repeat' first
    | extract_lets
    | intro _
    | with_reducible assumption
    | fail_if_no_progress (with_reducible apply Keeps.upd)
    | with_reducible apply keeps_measExtend

theorem keeps_docketDone {k0 : State} (s : State) (kh : Keeps k0 s) :
    Keeps k0 (docketDone s) := by
  unfold docketDone
  repeat' first
    | extract_lets
    | intro _
    | with_reducible assumption
    | fail_if_no_progress (with_reducible apply Keeps.upd)
    | with_reducible apply keeps_dkReleaseOp
    | with_reducible apply keeps_tillSync
    | with_reducible apply keeps_sinovPix
    | with_reducible apply keeps_modeChange
    | with_reducible apply keeps_reapply
    | with_reducible apply keeps_deferralEnd
    | with_reducible refine Keeps.ite (fun _ => ?_) (fun _ => ?_)
    | dsimp +zetaDelta only

theorem keeps_selectSlot {k0 : State} (app : Bool) (s : State) (kh : Keeps k0 s) :
    Keeps k0 (selectSlot app s) := by
  unfold selectSlot
  repeat' first
    | extract_lets
    | intro _
    | with_reducible assumption
    | fail_if_no_progress (with_reducible apply Keeps.upd)
    | with_reducible apply keeps_memPut
    | with_reducible apply keeps_flashErase
    | with_reducible refine Keeps.ite (fun _ => ?_) (fun _ => ?_)
    | split
    | dsimp +zetaDelta only

theorem keeps_optionCopies {k0 : State} (copies : Nat) (bs : List Byte) (s : State) (kh : Keeps k0 s) :
    Keeps k0 (optionCopies copies bs s) := by
  unfold optionCopies
  repeat' first
    | extract_lets
    | intro _
    | with_reducible assumption
    | fail_if_no_progress (with_reducible apply Keeps.upd)
    | with_reducible apply keeps_memPut
    | with_reducible refine Keeps.ite (fun _ => ?_) (fun _ => ?_)
    | dsimp +zetaDelta only

theorem keeps_timeLostRecord {k0 : State} (s : State) (kh : Keeps k0 s) :
    Keeps k0 (timeLostRecord s) := by
  unfold timeLostRecord
  repeat' first
    | extract_lets
    | intro _
    | with_reducible assumption
    | fail_if_no_progress (with_reducible apply Keeps.upd)
    | with_reducible apply keeps_wantRecord
    | with_reducible refine Keeps.ite (fun _ => ?_) (fun _ => ?_)
    | dsimp +zetaDelta only

theorem keeps_setMode {k0 : State} (s : State) (kh : Keeps k0 s) :
    Keeps k0 (setMode s) := by
  unfold setMode
  repeat' first
    | extract_lets
    | intro _
    | with_reducible assumption
    | fail_if_no_progress (with_reducible apply Keeps.upd)
    | with_reducible apply keeps_timeLostRecord
    | with_reducible apply keeps_thermalTable
    | with_reducible apply keeps_wantRecord
    | with_reducible refine Keeps.ite (fun _ => ?_) (fun _ => ?_)
    | dsimp +zetaDelta only

theorem keeps_sleepGo {k0 : State} (wake : BitVec 3) (alarm : BitVec 48) (s : State) (kh : Keeps k0 s) :
    Keeps k0 (sleepGo wake alarm s) := by
  unfold sleepGo
  repeat' first
    | extract_lets
    | intro _
    | with_reducible assumption
    | fail_if_no_progress (with_reducible apply Keeps.upd)
    | with_reducible apply keeps_enterDormant
    | dsimp +zetaDelta only

theorem keeps_runCont {k0 : State} (c : Cont) (s : State) (kh : Keeps k0 s) :
    Keeps k0 (runCont c s) := by
  unfold runCont
  repeat' first
    | extract_lets
    | intro _
    | with_reducible assumption
    | fail_if_no_progress (with_reducible apply Keeps.upd)
    | with_reducible apply keeps_answerOk
    | with_reducible apply keeps_answer
    | with_reducible apply keeps_enterReady
    | with_reducible apply keeps_sealMeasure
    | with_reducible apply keeps_enterService
    | with_reducible apply keeps_sleepGo
    | with_reducible apply keeps_docketDone
    | with_reducible apply keeps_setMode
    | with_reducible apply keeps_optionCopies
    | with_reducible apply keeps_deferralEnd
    | with_reducible refine Keeps.ite (fun _ => ?_) (fun _ => ?_)
    | split

theorem keeps_popWant {k0 : State} (s : State) (kh : Keeps k0 s) :
    Keeps k0 (popWant s) := by
  unfold popWant
  repeat' first
    | extract_lets
    | intro _
    | with_reducible assumption
    | fail_if_no_progress (with_reducible apply Keeps.upd)

theorem keeps_stageWant {k0 : State} (w : Want) (s : State) (kh : Keeps k0 s) :
    Keeps k0 (stageWant w s) := by
  unfold stageWant
  repeat' first
    | extract_lets
    | intro _
    | with_reducible assumption
    | fail_if_no_progress (with_reducible apply Keeps.upd)
    | with_reducible refine Keeps.ite (fun _ => ?_) (fun _ => ?_)

theorem keeps_giveUp {k0 : State} (w : Want) (s : State) (kh : Keeps k0 s) :
    Keeps k0 (giveUp w s) := by
  unfold giveUp
  repeat' first
    | extract_lets
    | intro _
    | with_reducible assumption
    | fail_if_no_progress (with_reducible apply Keeps.upd)
    | with_reducible apply keeps_runCont
    | with_reducible apply keeps_popWant
    | with_reducible refine Keeps.ite (fun _ => ?_) (fun _ => ?_)

theorem keeps_commitCmd {k0 : State} (rsvOk : Bool) (s : State) (kh : Keeps k0 s) :
    Keeps k0 (commitCmd rsvOk s) := by
  unfold commitCmd
  repeat' first
    | extract_lets
    | intro _
    | with_reducible assumption
    | fail_if_no_progress (with_reducible apply Keeps.upd)
    | with_reducible apply keeps_tillStart
    | with_reducible apply keeps_stageWant
    | with_reducible apply keeps_giveUp
    | with_reducible refine Keeps.ite (fun _ => ?_) (fun _ => ?_)
    | split
    | dsimp +zetaDelta only

theorem keeps_releaseCmd {k0 : State} (rsvOk : Bool) (s : State) (kh : Keeps k0 s) :
    Keeps k0 (releaseCmd rsvOk s) := by
  unfold releaseCmd
  repeat' first
    | extract_lets
    | intro _
    | with_reducible assumption
    | fail_if_no_progress (with_reducible apply Keeps.upd)
    | with_reducible apply keeps_tillRelease
    | with_reducible apply keeps_stageWant
    | with_reducible apply keeps_giveUp
    | with_reducible refine Keeps.ite (fun _ => ?_) (fun _ => ?_)
    | split
    | dsimp +zetaDelta only

theorem keeps_tlCmd {k0 : State} (v : Word) (s : State) (kh : Keeps k0 s) :
    Keeps k0 (tlCmd v s) := by
  unfold tlCmd
  repeat' first
    | extract_lets
    | intro _
    | with_reducible assumption
    | fail_if_no_progress (with_reducible apply Keeps.upd)
    | with_reducible apply keeps_commitCmd
    | with_reducible apply keeps_releaseCmd
    | with_reducible apply keeps_scanStart
    | split

theorem keeps_afterTorn {k0 : State} (seq : BitVec 64) (w : Want) (s : State) (kh : Keeps k0 s) :
    Keeps k0 (afterTorn seq w s) := by
  unfold afterTorn
  repeat' first
    | extract_lets
    | intro _
    | with_reducible assumption
    | fail_if_no_progress (with_reducible apply Keeps.upd)
    | with_reducible apply keeps_runCont
    | with_reducible apply keeps_popWant
    | with_reducible refine Keeps.ite (fun _ => ?_) (fun _ => ?_)

theorem keeps_offRecord {k0 : State} (s : State) (kh : Keeps k0 s) :
    Keeps k0 (offRecord s) := by
  unfold offRecord
  repeat' first
    | extract_lets
    | intro _
    | with_reducible assumption
    | fail_if_no_progress (with_reducible apply Keeps.upd)
    | with_reducible apply keeps_deferralEnd
    | with_reducible refine Keeps.ite (fun _ => ?_) (fun _ => ?_)

theorem keeps_wantDone {k0 : State} (ok : Bool) (seq : BitVec 64) (s : State) (kh : Keeps k0 s) :
    Keeps k0 (wantDone ok seq s) := by
  unfold wantDone
  repeat' first
    | extract_lets
    | intro _
    | with_reducible assumption
    | fail_if_no_progress (with_reducible apply Keeps.upd)
    | with_reducible apply keeps_offRecord
    | with_reducible apply keeps_runCont
    | with_reducible apply keeps_popWant
    | with_reducible apply keeps_afterTorn
    | with_reducible refine Keeps.ite (fun _ => ?_) (fun _ => ?_)
    | split
    | dsimp +zetaDelta only

theorem keeps_commitDone {k0 : State} (ok : Bool) (s : State) (kh : Keeps k0 s) :
    Keeps k0 (commitDone ok s) := by
  unfold commitDone
  repeat' first
    | extract_lets
    | intro _
    | with_reducible assumption
    | fail_if_no_progress (with_reducible apply Keeps.upd)
    | with_reducible apply keeps_wantDone
    | with_reducible apply keeps_engineDone
    | with_reducible refine Keeps.ite (fun _ => ?_) (fun _ => ?_)

theorem keeps_releaseDone {k0 : State} (s : State) (kh : Keeps k0 s) :
    Keeps k0 (releaseDone s) := by
  unfold releaseDone
  repeat' first
    | extract_lets
    | intro _
    | with_reducible assumption
    | fail_if_no_progress (with_reducible apply Keeps.upd)
    | with_reducible apply keeps_wantDone
    | with_reducible apply keeps_engineDone
    | with_reducible refine Keeps.ite (fun _ => ?_) (fun _ => ?_)

theorem keeps_stopTill {k0 : State} (s : State) (kh : Keeps k0 s) :
    Keeps k0 (stopTill s) := by
  unfold stopTill
  repeat' first
    | extract_lets
    | intro _
    | with_reducible assumption
    | fail_if_no_progress (with_reducible apply Keeps.upd)
    | with_reducible apply keeps_tillSync
    | with_reducible apply keeps_runCont
    | with_reducible refine Keeps.ite (fun _ => ?_) (fun _ => ?_)
    | with_reducible refine Keeps.foldl (fun _ _ _ => ?_) ?_
    | dsimp +zetaDelta only

theorem keeps_timeEdge {k0 : State} (f : State → State) (s : State) (hf : ∀ y, Keeps k0 y → Keeps k0 (f y)) (kh : Keeps k0 s) :
    Keeps k0 (timeEdge f s) := by
  unfold timeEdge
  repeat' first
    | extract_lets
    | intro _
    | with_reducible apply hf
    | with_reducible assumption
    | fail_if_no_progress (with_reducible apply Keeps.upd)
    | with_reducible apply keeps_wantRecord
    | with_reducible refine Keeps.ite (fun _ => ?_) (fun _ => ?_)
    | split

theorem keeps_ao32Lost {k0 : State} (s : State) (kh : Keeps k0 s) :
    Keeps k0 (ao32Lost s) := by
  unfold ao32Lost
  repeat' first
    | extract_lets
    | intro _
    | with_reducible assumption
    | fail_if_no_progress (with_reducible apply Keeps.upd)
    | with_reducible apply keeps_ao32StopOp
    | with_reducible apply keeps_timeLostRecord
    | with_reducible refine Keeps.ite (fun _ => ?_) (fun _ => ?_)
    | dsimp +zetaDelta only

/-! Machine/Frames.lean -/

theorem keeps_runFrame {k0 : State} (code : Nat) (sel : List Byte → Bool) (n : Fin 8) (run : List Byte → State → State) (s : State) (hrun : ∀ y0 y, Keeps k0 y → Keeps k0 (run y0 y)) (kh : Keeps k0 s) :
    Keeps k0 (runFrame code sel n run s) := by
  unfold runFrame
  repeat' first
    | extract_lets
    | intro _
    | with_reducible apply hrun
    | with_reducible assumption
    | fail_if_no_progress (with_reducible apply Keeps.upd)
    | with_reducible apply keeps_answer
    | with_reducible refine Keeps.ite (fun _ => ?_) (fun _ => ?_)
    | split

theorem keeps_judged {k0 : State} (n : Fin 8) (cs : List (Bool × Status)) (run : State → State) (s : State) (hrun : ∀ y, Keeps k0 y → Keeps k0 (run y)) (kh : Keeps k0 s) :
    Keeps k0 (judged n cs run s) := by
  unfold judged
  repeat' first
    | extract_lets
    | intro _
    | with_reducible apply hrun
    | with_reducible assumption
    | fail_if_no_progress (with_reducible apply Keeps.upd)
    | with_reducible apply keeps_answer
    | split

theorem keeps_setRunning {k0 : State} (n : Fin 8) (s : State) (kh : Keeps k0 s) :
    Keeps k0 (setRunning n s) := by
  unfold setRunning
  repeat' first
    | extract_lets
    | intro _
    | with_reducible assumption
    | fail_if_no_progress (with_reducible apply Keeps.upd)
    | with_reducible apply keeps_cntMod

theorem keeps_writeRecord {k0 : State} (n : Fin 8) (typ subtype : BitVec 16) (body : List Byte) (cont : Cont) (s : State) (kh : Keeps k0 s) :
    Keeps k0 (writeRecord n typ subtype body cont s) := by
  unfold writeRecord
  repeat' first
    | extract_lets
    | intro _
    | with_reducible assumption
    | fail_if_no_progress (with_reducible apply Keeps.upd)
    | with_reducible apply keeps_wantRecord
    | with_reducible apply keeps_setRunning

/-! Machine/Admission.lean -/

theorem keeps_startForecast {k0 : State} (d : Desc) (s : State) (kh : Keeps k0 s) :
    Keeps k0 (startForecast d s) := by
  unfold startForecast
  repeat' first
    | extract_lets
    | intro _
    | with_reducible assumption
    | fail_if_no_progress (with_reducible apply Keeps.upd)
    | with_reducible apply keeps_fcGo

theorem keeps_decideAdmit {k0 : State} (n : Fin 8) (desc : List Byte) (lapsed : Bool) (cs : List (List Item)) (s : State) (kh : Keeps k0 s) :
    Keeps k0 (decideAdmit n desc lapsed cs s) := by
  unfold decideAdmit
  repeat' first
    | extract_lets
    | intro _
    | with_reducible assumption
    | fail_if_no_progress (with_reducible apply Keeps.upd)
    | with_reducible apply keeps_answerWith
    | with_reducible apply keeps_tillSync
    | with_reducible apply keeps_answerOk
    | with_reducible apply keeps_lapseAdmission
    | with_reducible refine Keeps.ite (fun _ => ?_) (fun _ => ?_)
    | dsimp +zetaDelta only

theorem keeps_admitNow {k0 : State} (n : Fin 8) (p : List Byte) (s : State) (kh : Keeps k0 s) :
    Keeps k0 (admitNow n p s) := by
  unfold admitNow
  repeat' first
    | extract_lets
    | intro _
    | with_reducible assumption
    | fail_if_no_progress (with_reducible apply Keeps.upd)
    | with_reducible apply keeps_tillSync
    | with_reducible apply keeps_lapseAdmission
    | with_reducible apply keeps_answer
    | with_reducible apply keeps_decideAdmit
    | with_reducible apply keeps_setRunning
    | with_reducible apply keeps_startForecast
    | with_reducible refine Keeps.ite (fun _ => ?_) (fun _ => ?_)
    | dsimp +zetaDelta only

theorem keeps_admitCmd {k0 : State} (n : Fin 8) (p : List Byte) (s : State) (kh : Keeps k0 s) :
    Keeps k0 (admitCmd n p s) := by
  unfold admitCmd
  repeat' first
    | extract_lets
    | intro _
    | with_reducible assumption
    | fail_if_no_progress (with_reducible apply Keeps.upd)
    | with_reducible apply keeps_admitNow
    | with_reducible refine Keeps.ite (fun _ => ?_) (fun _ => ?_)

theorem keeps_forecastEnd {k0 : State} (s : State) (kh : Keeps k0 s) :
    Keeps k0 (forecastEnd s) := by
  unfold forecastEnd
  repeat' first
    | extract_lets
    | intro _
    | with_reducible assumption
    | fail_if_no_progress (with_reducible apply Keeps.upd)
    | with_reducible apply keeps_fcDone
    | with_reducible apply keeps_answer
    | with_reducible apply keeps_decideAdmit
    | with_reducible refine Keeps.ite (fun _ => ?_) (fun _ => ?_)
    | split
    | dsimp +zetaDelta only

theorem keeps_pageRegisters {k0 : State} (d : Desc) (s : State) (kh : Keeps k0 s) :
    Keeps k0 (pageRegisters d s) := by
  unfold pageRegisters
  repeat' first
    | extract_lets
    | intro _
    | with_reducible assumption
    | fail_if_no_progress (with_reducible apply Keeps.upd)
    | with_reducible apply keeps_prNfrac
    | with_reducible apply keeps_prNom
    | with_reducible apply keeps_prCtrlOp
    | dsimp +zetaDelta only

theorem keeps_pageMotors {k0 : State} (d : Desc) (s : State) (kh : Keeps k0 s) :
    Keeps k0 (pageMotors d s) := by
  unfold pageMotors
  repeat' first
    | extract_lets
    | intro _
    | with_reducible assumption
    | fail_if_no_progress (with_reducible apply Keeps.upd)
    | with_reducible apply keeps_motMod
    | with_reducible apply keeps_motStartOp
    | with_reducible apply keeps_setStartDue
    | with_reducible refine Keeps.ite (fun _ => ?_) (fun _ => ?_)
    | with_reducible refine Keeps.foldl (fun _ _ _ => ?_) ?_
    | dsimp +zetaDelta only

theorem keeps_startPage {k0 : State} (n : Fin 8) (a : Admission) (s : State) (kh : Keeps k0 s) :
    Keeps k0 (startPage n a s) := by
  unfold startPage
  repeat' first
    | extract_lets
    | intro _
    | with_reducible assumption
    | fail_if_no_progress (with_reducible apply Keeps.upd)
    | with_reducible apply keeps_dkReleaseOp
    | with_reducible apply keeps_dkCfg
    | with_reducible apply keeps_dkPlanned
    | with_reducible apply keeps_pageMotors
    | with_reducible apply keeps_pageRegisters
    | with_reducible apply keeps_answer
    | with_reducible apply keeps_dkArmOp
    | dsimp +zetaDelta only

theorem keeps_startCmd {k0 : State} (n : Fin 8) (p : List Byte) (s : State) (kh : Keeps k0 s) :
    Keeps k0 (startCmd n p s) := by
  unfold startCmd
  repeat' first
    | extract_lets
    | intro _
    | with_reducible assumption
    | fail_if_no_progress (with_reducible apply Keeps.upd)
    | with_reducible apply keeps_answer
    | with_reducible apply keeps_answerWith
    | with_reducible apply keeps_tillSync
    | with_reducible apply keeps_lapseAdmission
    | with_reducible apply keeps_startPage
    | with_reducible refine Keeps.ite (fun _ => ?_) (fun _ => ?_)
    | split

theorem keeps_spoilCmd {k0 : State} (n : Fin 8) (p : List Byte) (s : State) (kh : Keeps k0 s) :
    Keeps k0 (spoilCmd n p s) := by
  unfold spoilCmd
  repeat' first
    | extract_lets
    | intro _
    | with_reducible assumption
    | fail_if_no_progress (with_reducible apply Keeps.upd)
    | with_reducible apply keeps_judged
    | with_reducible apply keeps_answer
    | with_reducible apply keeps_dkSpoilOp
    | with_reducible refine Keeps.ite (fun _ => ?_) (fun _ => ?_)
    | split
    | dsimp +zetaDelta only

/-! Machine/Commands.lean -/

theorem keeps_query {k0 : State} (n : Fin 8) (p : List Byte) (reply : List Byte) (s : State) (kh : Keeps k0 s) :
    Keeps k0 (query n p reply s) := by
  unfold query
  repeat' first
    | extract_lets
    | intro _
    | with_reducible assumption
    | fail_if_no_progress (with_reducible apply Keeps.upd)
    | with_reducible apply keeps_judged
    | with_reducible apply keeps_answerOk

theorem keeps_sealCmd {k0 : State} (n : Fin 8) (p : List Byte) (s : State) (kh : Keeps k0 s) :
    Keeps k0 (sealCmd n p s) := by
  unfold sealCmd
  repeat' first
    | extract_lets
    | intro _
    | with_reducible assumption
    | fail_if_no_progress (with_reducible apply Keeps.upd)
    | with_reducible apply keeps_judged
    | with_reducible apply keeps_sealMeasure
    | with_reducible apply keeps_writeRecord

theorem keeps_unsealCmd {k0 : State} (n : Fin 8) (p : List Byte) (s : State) (kh : Keeps k0 s) :
    Keeps k0 (unsealCmd n p s) := by
  unfold unsealCmd
  repeat' first
    | extract_lets
    | intro _
    | with_reducible assumption
    | fail_if_no_progress (with_reducible apply Keeps.upd)
    | with_reducible apply keeps_judged
    | with_reducible apply keeps_writeRecord
    | with_reducible refine Keeps.ite (fun _ => ?_) (fun _ => ?_)

theorem keeps_sleepCmd {k0 : State} (n : Fin 8) (p : List Byte) (s : State) (kh : Keeps k0 s) :
    Keeps k0 (sleepCmd n p s) := by
  unfold sleepCmd
  repeat' first
    | extract_lets
    | intro _
    | with_reducible assumption
    | fail_if_no_progress (with_reducible apply Keeps.upd)
    | with_reducible apply keeps_judged
    | with_reducible apply keeps_writeRecord
    | split

theorem keeps_resetCmdFrame {k0 : State} (n : Fin 8) (p : List Byte) (s : State) (kh : Keeps k0 s) :
    Keeps k0 (resetCmdFrame n p s) := by
  unfold resetCmdFrame
  repeat' first
    | extract_lets
    | intro _
    | with_reducible assumption
    | fail_if_no_progress (with_reducible apply Keeps.upd)
    | with_reducible apply keeps_judged
    | with_reducible apply keeps_answer

theorem keeps_throttleCmd {k0 : State} (n : Fin 8) (p : List Byte) (s : State) (kh : Keeps k0 s) :
    Keeps k0 (throttleCmd n p s) := by
  unfold throttleCmd
  repeat' first
    | extract_lets
    | intro _
    | with_reducible assumption
    | fail_if_no_progress (with_reducible apply Keeps.upd)
    | with_reducible apply keeps_judged
    | with_reducible apply keeps_lapseAdmission
    | with_reducible apply keeps_refreshTreq
    | with_reducible apply keeps_answerOk
    | with_reducible refine Keeps.ite (fun _ => ?_) (fun _ => ?_)
    | split
    | dsimp +zetaDelta only

theorem keeps_tableCmd {k0 : State} (n : Fin 8) (p : List Byte) (s : State) (kh : Keeps k0 s) :
    Keeps k0 (tableCmd n p s) := by
  unfold tableCmd
  repeat' first
    | extract_lets
    | intro _
    | with_reducible assumption
    | fail_if_no_progress (with_reducible apply Keeps.upd)
    | with_reducible apply keeps_judged
    | with_reducible apply keeps_answer
    | with_reducible apply keeps_lapseAdmission

theorem keeps_ackCmd {k0 : State} (n : Fin 8) (p : List Byte) (s : State) (kh : Keeps k0 s) :
    Keeps k0 (ackCmd n p s) := by
  unfold ackCmd
  repeat' first
    | extract_lets
    | intro _
    | with_reducible assumption
    | fail_if_no_progress (with_reducible apply Keeps.upd)
    | with_reducible apply keeps_judged
    | with_reducible apply keeps_answer
    | with_reducible apply keeps_hubAck

theorem keeps_clearCmd {k0 : State} (n : Fin 8) (p : List Byte) (s : State) (kh : Keeps k0 s) :
    Keeps k0 (clearCmd n p s) := by
  unfold clearCmd
  repeat' first
    | extract_lets
    | intro _
    | with_reducible assumption
    | fail_if_no_progress (with_reducible apply Keeps.upd)
    | with_reducible apply keeps_judged
    | with_reducible apply keeps_reapply
    | with_reducible apply keeps_hubClear
    | with_reducible apply keeps_answer
    | with_reducible apply keeps_writeRecord
    | with_reducible refine Keeps.ite (fun _ => ?_) (fun _ => ?_)
    | dsimp +zetaDelta only

theorem keeps_fhCfgWrite {k0 : State} (f : Byte) (v : Word) (s : State) (kh : Keeps k0 s) :
    Keeps k0 (fhCfgWrite f v s) := by
  unfold fhCfgWrite
  repeat' first
    | extract_lets
    | intro _
    | with_reducible assumption
    | fail_if_no_progress (with_reducible apply Keeps.upd)
    | with_reducible refine Keeps.ite (fun _ => ?_) (fun _ => ?_)
    | split
    | dsimp +zetaDelta only

theorem keeps_classCmd {k0 : State} (n : Fin 8) (p : List Byte) (s : State) (kh : Keeps k0 s) :
    Keeps k0 (classCmd n p s) := by
  unfold classCmd
  repeat' first
    | extract_lets
    | intro _
    | with_reducible assumption
    | fail_if_no_progress (with_reducible apply Keeps.upd)
    | with_reducible apply keeps_judged
    | with_reducible apply keeps_answer
    | with_reducible apply keeps_fhCfgWrite
    | with_reducible refine Keeps.ite (fun _ => ?_) (fun _ => ?_)
    | split
    | dsimp +zetaDelta only

theorem keeps_tillReadCmd {k0 : State} (n : Fin 8) (p : List Byte) (s : State) (kh : Keeps k0 s) :
    Keeps k0 (tillReadCmd n p s) := by
  unfold tillReadCmd
  repeat' first
    | extract_lets
    | intro _
    | with_reducible assumption
    | fail_if_no_progress (with_reducible apply Keeps.upd)
    | with_reducible apply keeps_judged
    | with_reducible apply keeps_answerOk
    | with_reducible refine Keeps.ite (fun _ => ?_) (fun _ => ?_)

theorem keeps_tillAppendCmd {k0 : State} (n : Fin 8) (p : List Byte) (s : State) (kh : Keeps k0 s) :
    Keeps k0 (tillAppendCmd n p s) := by
  unfold tillAppendCmd
  repeat' first
    | extract_lets
    | intro _
    | with_reducible assumption
    | fail_if_no_progress (with_reducible apply Keeps.upd)
    | with_reducible apply keeps_judged
    | with_reducible apply keeps_writeRecord

theorem keeps_tillReleaseCmd {k0 : State} (n : Fin 8) (p : List Byte) (s : State) (kh : Keeps k0 s) :
    Keeps k0 (tillReleaseCmd n p s) := by
  unfold tillReleaseCmd
  repeat' first
    | extract_lets
    | intro _
    | with_reducible assumption
    | fail_if_no_progress (with_reducible apply Keeps.upd)
    | with_reducible apply keeps_judged
    | with_reducible apply keeps_wantRecord
    | with_reducible apply keeps_setRunning

theorem keeps_timeGetCmd {k0 : State} (n : Fin 8) (p : List Byte) (s : State) (kh : Keeps k0 s) :
    Keeps k0 (timeGetCmd n p s) := by
  unfold timeGetCmd
  repeat' first
    | extract_lets
    | intro _
    | with_reducible assumption
    | fail_if_no_progress (with_reducible apply Keeps.upd)
    | with_reducible apply keeps_judged
    | with_reducible apply keeps_timeSnap
    | with_reducible apply keeps_answerOk
    | dsimp +zetaDelta only

theorem keeps_timeSetCmd {k0 : State} (n : Fin 8) (p : List Byte) (s : State) (kh : Keeps k0 s) :
    Keeps k0 (timeSetCmd n p s) := by
  unfold timeSetCmd
  repeat' first
    | extract_lets
    | intro _
    | with_reducible assumption
    | fail_if_no_progress (with_reducible apply Keeps.upd)
    | with_reducible apply keeps_judged
    | with_reducible apply keeps_timeApply
    | with_reducible apply keeps_setRunning
    | dsimp +zetaDelta only

theorem keeps_lostClearCmd {k0 : State} (n : Fin 8) (p : List Byte) (s : State) (kh : Keeps k0 s) :
    Keeps k0 (lostClearCmd n p s) := by
  unfold lostClearCmd
  repeat' first
    | extract_lets
    | intro _
    | with_reducible assumption
    | fail_if_no_progress (with_reducible apply Keeps.upd)
    | with_reducible apply keeps_judged
    | with_reducible apply keeps_writeRecord
    | with_reducible apply keeps_timeLostClr
    | with_reducible apply Keeps.idState

theorem keeps_measureCmd {k0 : State} (n : Fin 8) (p : List Byte) (s : State) (kh : Keeps k0 s) :
    Keeps k0 (measureCmd n p s) := by
  unfold measureCmd
  repeat' first
    | extract_lets
    | intro _
    | with_reducible assumption
    | fail_if_no_progress (with_reducible apply Keeps.upd)
    | with_reducible apply keeps_judged
    | with_reducible apply keeps_answerOk
    | dsimp +zetaDelta only

theorem keeps_quoteCmd {k0 : State} (n : Fin 8) (p : List Byte) (s : State) (kh : Keeps k0 s) :
    Keeps k0 (quoteCmd n p s) := by
  unfold quoteCmd
  repeat' first
    | extract_lets
    | intro _
    | with_reducible assumption
    | fail_if_no_progress (with_reducible apply Keeps.upd)
    | with_reducible apply keeps_judged
    | with_reducible apply keeps_answerOk
    | dsimp +zetaDelta only

end Sys2Proof.Machine
end

