-- ==== Sys2Proof/Laws/KeepsRows.lean ====
section
/-! SUPPORT. One lemma per operation of Machine/ (Configure, Tick, Eth, DebugModule, Lic, Service, Spi, RegWrite, Access, Debug, Hspi, PowerUp, RegRows): each keeps the queue and the form of memory. -/

namespace Sys2Proof.Machine

/-! Machine/Configure.lean -/

theorem keeps_configure {k0 : State} (n : Fin 8) (store apply : State → State) (s : State) (hstore : ∀ y, Keeps k0 y → Keeps k0 (store y)) (happly : ∀ y, Keeps k0 y → Keeps k0 (apply y)) (kh : Keeps k0 s) :
    Keeps k0 (configure n store apply s) := by
  unfold configure
  repeat' first
    | extract_lets
    | intro _
    | with_reducible apply hstore
    | with_reducible apply happly
    | with_reducible assumption
    | fail_if_no_progress (with_reducible apply Keeps.upd)
    | with_reducible apply keeps_lapseAdmission
    | with_reducible apply keeps_refreshAll
    | with_reducible apply keeps_answer
    | with_reducible refine Keeps.ite (fun _ => ?_) (fun _ => ?_)
    | dsimp +zetaDelta only

theorem keeps_profileCmd {k0 : State} (n : Fin 8) (p : List Byte) (s : State) (kh : Keeps k0 s) :
    Keeps k0 (profileCmd n p s) := by
  unfold profileCmd
  repeat' first
    | extract_lets
    | intro _
    | with_reducible assumption
    | fail_if_no_progress (with_reducible apply Keeps.upd)
    | with_reducible apply keeps_judged
    | with_reducible apply keeps_configure
    | with_reducible apply keeps_applyProfile

theorem keeps_motorCmd {k0 : State} (n : Fin 8) (p : List Byte) (s : State) (kh : Keeps k0 s) :
    Keeps k0 (motorCmd n p s) := by
  unfold motorCmd
  repeat' first
    | extract_lets
    | intro _
    | with_reducible assumption
    | fail_if_no_progress (with_reducible apply Keeps.upd)
    | with_reducible apply keeps_judged
    | with_reducible apply keeps_configure
    | with_reducible apply keeps_rdcFollow
    | with_reducible apply keeps_applyMotor
    | split

theorem keeps_stopCmd {k0 : State} (n : Fin 8) (p : List Byte) (s : State) (kh : Keeps k0 s) :
    Keeps k0 (stopCmd n p s) := by
  unfold stopCmd
  repeat' first
    | extract_lets
    | intro _
    | with_reducible assumption
    | fail_if_no_progress (with_reducible apply Keeps.upd)
    | with_reducible apply keeps_judged
    | with_reducible apply keeps_configure
    | with_reducible apply keeps_motStopOp
    | with_reducible apply Keeps.idState

theorem keeps_storeCfg {k0 : State} (f : Sinov → Sinov) (s : State) (kh : Keeps k0 s) :
    Keeps k0 (storeCfg f s) := by
  unfold storeCfg
  repeat' first
    | extract_lets
    | intro _
    | with_reducible assumption
    | fail_if_no_progress (with_reducible apply Keeps.upd)

theorem keeps_loopCmd {k0 : State} (n : Fin 8) (p : List Byte) (s : State) (kh : Keeps k0 s) :
    Keeps k0 (loopCmd n p s) := by
  unfold loopCmd
  repeat' first
    | extract_lets
    | intro _
    | with_reducible assumption
    | fail_if_no_progress (with_reducible apply Keeps.upd)
    | with_reducible apply keeps_judged
    | with_reducible apply keeps_configure
    | with_reducible apply keeps_storeCfg
    | with_reducible apply keeps_loopsGo
    | with_reducible apply keeps_applyLoop
    | split

theorem keeps_hvCmd {k0 : State} (n : Fin 8) (p : List Byte) (s : State) (kh : Keeps k0 s) :
    Keeps k0 (hvCmd n p s) := by
  unfold hvCmd
  repeat' first
    | extract_lets
    | intro _
    | with_reducible assumption
    | fail_if_no_progress (with_reducible apply Keeps.upd)
    | with_reducible apply keeps_judged
    | with_reducible apply keeps_configure
    | with_reducible apply keeps_storeCfg
    | with_reducible apply keeps_loopsGo
    | with_reducible apply keeps_applyHv
    | with_reducible refine Keeps.ite (fun _ => ?_) (fun _ => ?_)
    | split

theorem keeps_fuserCmd {k0 : State} (n : Fin 8) (p : List Byte) (s : State) (kh : Keeps k0 s) :
    Keeps k0 (fuserCmd n p s) := by
  unfold fuserCmd
  repeat' first
    | extract_lets
    | intro _
    | with_reducible assumption
    | fail_if_no_progress (with_reducible apply Keeps.upd)
    | with_reducible apply keeps_judged
    | with_reducible apply keeps_configure
    | with_reducible apply keeps_storeCfg
    | with_reducible apply keeps_loopsGo
    | with_reducible apply keeps_applyFuser
    | split

theorem keeps_laserCmd {k0 : State} (n : Fin 8) (p : List Byte) (s : State) (kh : Keeps k0 s) :
    Keeps k0 (laserCmd n p s) := by
  unfold laserCmd
  repeat' first
    | extract_lets
    | intro _
    | with_reducible assumption
    | fail_if_no_progress (with_reducible apply Keeps.upd)
    | with_reducible apply keeps_judged
    | with_reducible apply keeps_configure
    | with_reducible apply keeps_storeCfg
    | with_reducible apply keeps_loopsGo
    | with_reducible apply keeps_applyLaser

theorem keeps_fabricCmd {k0 : State} (n : Fin 8) (p : List Byte) (s : State) (kh : Keeps k0 s) :
    Keeps k0 (fabricCmd n p s) := by
  unfold fabricCmd
  repeat' first
    | extract_lets
    | intro _
    | with_reducible assumption
    | fail_if_no_progress (with_reducible apply Keeps.upd)
    | with_reducible apply keeps_judged
    | with_reducible apply keeps_configure
    | with_reducible apply keeps_setAllot
    | with_reducible apply Keeps.idState

/-! Machine/Tick.lean -/

theorem keeps_idleTick {k0 : State} (s : State) (kh : Keeps k0 s) :
    Keeps k0 (idleTick s) := by
  unfold idleTick
  repeat' first
    | extract_lets
    | intro _
    | with_reducible assumption
    | fail_if_no_progress (with_reducible apply Keeps.upd)
    | with_reducible refine Keeps.ite (fun _ => ?_) (fun _ => ?_)
    | dsimp +zetaDelta only

/-! Machine/Eth.lean -/

theorem keeps_ethMod {k0 : State} (i : Fin 2) (f : Eth → Eth) (s : State) (kh : Keeps k0 s) :
    Keeps k0 (ethMod i f s) := by
  unfold ethMod
  repeat' first
    | extract_lets
    | intro _
    | with_reducible assumption
    | fail_if_no_progress (with_reducible apply Keeps.upd)

theorem keeps_ethCtrl {k0 : State} (i : Fin 2) (v : Word) (s : State) (kh : Keeps k0 s) :
    Keeps k0 (ethCtrl i v s) := by
  unfold ethCtrl
  repeat' first
    | extract_lets
    | intro _
    | with_reducible assumption
    | fail_if_no_progress (with_reducible apply Keeps.upd)
    | with_reducible apply keeps_ethMod
    | with_reducible refine Keeps.ite (fun _ => ?_) (fun _ => ?_)

theorem keeps_ethBusFail {k0 : State} (i : Fin 2) (rx abort : Bool) (addr : Nat) (s : State) (kh : Keeps k0 s) :
    Keeps k0 (ethBusFail i rx abort addr s) := by
  unfold ethBusFail
  repeat' first
    | extract_lets
    | intro _
    | with_reducible assumption
    | fail_if_no_progress (with_reducible apply Keeps.upd)
    | with_reducible apply keeps_ethMod
    | with_reducible apply keeps_errorResponse
    | with_reducible refine Keeps.ite (fun _ => ?_) (fun _ => ?_)
    | dsimp +zetaDelta only

theorem keeps_ethTx {k0 : State} (i : Fin 2) (s : State) (kh : Keeps k0 s) :
    Keeps k0 (ethTx i s) := by
  unfold ethTx
  repeat' first
    | extract_lets
    | intro _
    | with_reducible assumption
    | fail_if_no_progress (with_reducible apply Keeps.upd)
    | with_reducible apply keeps_ethBusFail
    | with_reducible apply keeps_ethMod
    | with_reducible apply keeps_ioWrite
    | with_reducible refine Keeps.ite (fun _ => ?_) (fun _ => ?_)
    | dsimp +zetaDelta only

theorem keeps_ethRx {k0 : State} (i : Fin 2) (f : List Byte) (fcsOk : Bool) (s : State) (kh : Keeps k0 s) :
    Keeps k0 (ethRx i f fcsOk s) := by
  unfold ethRx
  repeat' first
    | extract_lets
    | intro _
    | with_reducible assumption
    | fail_if_no_progress (with_reducible apply Keeps.upd)
    | with_reducible apply keeps_ethMod
    | with_reducible apply keeps_ethBusFail
    | with_reducible apply keeps_ioWrite
    | with_reducible refine Keeps.ite (fun _ => ?_) (fun _ => ?_)
    | dsimp +zetaDelta only

theorem keeps_ptpSetOp {k0 : State} (i : Fin 2) (s : State) (kh : Keeps k0 s) :
    Keeps k0 (ptpSetOp i s) := by
  unfold ptpSetOp
  repeat' first
    | extract_lets
    | intro _
    | with_reducible assumption
    | fail_if_no_progress (with_reducible apply Keeps.upd)
    | with_reducible apply keeps_ethMod
    | with_reducible refine Keeps.ite (fun _ => ?_) (fun _ => ?_)

theorem keeps_ptpStepOp {k0 : State} (i : Fin 2) (s : State) (kh : Keeps k0 s) :
    Keeps k0 (ptpStepOp i s) := by
  unfold ptpStepOp
  repeat' first
    | extract_lets
    | intro _
    | with_reducible assumption
    | fail_if_no_progress (with_reducible apply Keeps.upd)
    | with_reducible apply keeps_ethMod
    | with_reducible refine Keeps.ite (fun _ => ?_) (fun _ => ?_)

theorem keeps_ptpCmd {k0 : State} (i : Fin 2) (v : Word) (s : State) (kh : Keeps k0 s) :
    Keeps k0 (ptpCmd i v s) := by
  unfold ptpCmd
  repeat' first
    | extract_lets
    | intro _
    | with_reducible assumption
    | fail_if_no_progress (with_reducible apply Keeps.upd)
    | with_reducible apply keeps_ptpSetOp
    | with_reducible apply keeps_ptpStepOp
    | split

theorem keeps_ppsSet {k0 : State} (i : Fin 2) (b : Bool) (s : State) (kh : Keeps k0 s) :
    Keeps k0 (ppsSet i b s) := by
  unfold ppsSet
  repeat' first
    | extract_lets
    | intro _
    | with_reducible assumption
    | fail_if_no_progress (with_reducible apply Keeps.upd)
    | with_reducible apply keeps_withEdges
    | with_reducible apply keeps_ethMod
    | with_reducible refine Keeps.ite (fun _ => ?_) (fun _ => ?_)

theorem keeps_tsCapture {k0 : State} (i : Fin 2) (s : State) (kh : Keeps k0 s) :
    Keeps k0 (tsCapture i s) := by
  unfold tsCapture
  repeat' first
    | extract_lets
    | intro _
    | with_reducible assumption
    | fail_if_no_progress (with_reducible apply Keeps.upd)
    | with_reducible apply keeps_ethMod
    | with_reducible refine Keeps.ite (fun _ => ?_) (fun _ => ?_)

theorem keeps_mdioStart {k0 : State} (i : Fin 2) (v : Word) (s : State) (kh : Keeps k0 s) :
    Keeps k0 (mdioStart i v s) := by
  unfold mdioStart
  repeat' first
    | extract_lets
    | intro _
    | with_reducible assumption
    | fail_if_no_progress (with_reducible apply Keeps.upd)
    | with_reducible apply keeps_ethMod
    | with_reducible refine Keeps.ite (fun _ => ?_) (fun _ => ?_)

theorem keeps_mdioEnd {k0 : State} (i : Fin 2) (data : BitVec 16) (s : State) (kh : Keeps k0 s) :
    Keeps k0 (mdioEnd i data s) := by
  unfold mdioEnd
  repeat' first
    | extract_lets
    | intro _
    | with_reducible assumption
    | fail_if_no_progress (with_reducible apply Keeps.upd)
    | with_reducible apply keeps_ethMod
    | with_reducible refine Keeps.ite (fun _ => ?_) (fun _ => ?_)

/-! Machine/DebugModule.lean -/

theorem keeps_dmiPut {k0 : State} (a : Nat) (v : Word) (s : State) (kh : Keeps k0 s) :
    Keeps k0 (dmiPut a v s) := by
  unfold dmiPut
  repeat' first
    | extract_lets
    | intro _
    | with_reducible assumption
    | fail_if_no_progress (with_reducible apply Keeps.upd)

theorem keeps_hartMod {k0 : State} (h : Fin 4) (f : Hart → Hart) (s : State) (kh : Keeps k0 s) :
    Keeps k0 (hartMod h f s) := by
  unfold hartMod
  repeat' first
    | extract_lets
    | intro _
    | with_reducible assumption
    | fail_if_no_progress (with_reducible apply Keeps.upd)

theorem keeps_haltRequested {k0 : State} (s : State) (kh : Keeps k0 s) :
    Keeps k0 (haltRequested s) := by
  unfold haltRequested
  repeat' first
    | extract_lets
    | intro _
    | with_reducible assumption
    | fail_if_no_progress (with_reducible apply Keeps.upd)
    | with_reducible apply keeps_hartMod
    | with_reducible refine Keeps.ite (fun _ => ?_) (fun _ => ?_)
    | with_reducible refine Keeps.foldl (fun _ _ _ => ?_) ?_

theorem keeps_hartResume {k0 : State} (h : Fin 4) (s : State) (kh : Keeps k0 s) :
    Keeps k0 (hartResume h s) := by
  unfold hartResume
  repeat' first
    | extract_lets
    | intro _
    | with_reducible assumption
    | fail_if_no_progress (with_reducible apply Keeps.upd)
    | with_reducible apply keeps_hartMod
    | with_reducible refine Keeps.ite (fun _ => ?_) (fun _ => ?_)

theorem keeps_dmControl {k0 : State} (v : Word) (s : State) (kh : Keeps k0 s) :
    Keeps k0 (dmControl v s) := by
  unfold dmControl
  repeat' first
    | extract_lets
    | intro _
    | with_reducible assumption
    | fail_if_no_progress (with_reducible apply Keeps.upd)
    | with_reducible apply keeps_dmiPut
    | with_reducible apply keeps_haltRequested
    | with_reducible apply keeps_hartResume
    | with_reducible refine Keeps.ite (fun _ => ?_) (fun _ => ?_)
    | split
    | dsimp +zetaDelta only

theorem keeps_cmdErr {k0 : State} (e : BitVec 3) (s : State) (kh : Keeps k0 s) :
    Keeps k0 (cmdErr e s) := by
  unfold cmdErr
  repeat' first
    | extract_lets
    | intro _
    | with_reducible assumption
    | fail_if_no_progress (with_reducible apply Keeps.upd)
    | with_reducible apply keeps_dmiPut

theorem keeps_dmArgPut {k0 : State} (k : Nat) (v : BitVec 64) (s : State) (kh : Keeps k0 s) :
    Keeps k0 (dmArgPut k v s) := by
  unfold dmArgPut
  repeat' first
    | extract_lets
    | intro _
    | with_reducible assumption
    | fail_if_no_progress (with_reducible apply Keeps.upd)
    | with_reducible apply keeps_dmiPut

/-! Machine/Lic.lean -/

theorem keeps_licSync {k0 : State} (s : State) (kh : Keeps k0 s) :
    Keeps k0 (licSync s) := by
  unfold licSync
  repeat' first
    | extract_lets
    | intro _
    | with_reducible assumption
    | fail_if_no_progress (with_reducible apply Keeps.upd)

theorem keeps_licSet {k0 : State} (app : Bool) (l : Lic) (s : State) (kh : Keeps k0 s) :
    Keeps k0 (licSet app l s) := by
  unfold licSet
  repeat' first
    | extract_lets
    | intro _
    | with_reducible assumption
    | fail_if_no_progress (with_reducible apply Keeps.upd)
    | with_reducible refine Keeps.ite (fun _ => ?_) (fun _ => ?_)

theorem keeps_ctxChange {k0 : State} (app : Bool) (c : Fin 8) (f : Lic → LicCtx → LicCtx) (s : State) (kh : Keeps k0 s) :
    Keeps k0 (ctxChange app c f s) := by
  unfold ctxChange
  repeat' first
    | extract_lets
    | intro _
    | with_reducible assumption
    | fail_if_no_progress (with_reducible apply Keeps.upd)
    | with_reducible apply keeps_licSync
    | with_reducible apply keeps_licSet
    | dsimp +zetaDelta only

theorem keeps_ctxEnterOp {k0 : State} (app : Bool) (c : Fin 8) (id : BitVec 10) (s : State) (kh : Keeps k0 s) :
    Keeps k0 (ctxEnterOp app c id s) := by
  unfold ctxEnterOp
  repeat' first
    | extract_lets
    | intro _
    | with_reducible assumption
    | fail_if_no_progress (with_reducible apply Keeps.upd)
    | with_reducible apply keeps_ctxChange
    | with_reducible refine Keeps.ite (fun _ => ?_) (fun _ => ?_)
    | split

theorem keeps_ctxExitOp {k0 : State} (app : Bool) (c : Fin 8) (v : Word) (s : State) (kh : Keeps k0 s) :
    Keeps k0 (ctxExitOp app c v s) := by
  unfold ctxExitOp
  repeat' first
    | extract_lets
    | intro _
    | with_reducible assumption
    | fail_if_no_progress (with_reducible apply Keeps.upd)
    | with_reducible apply keeps_ctxChange
    | with_reducible refine Keeps.ite (fun _ => ?_) (fun _ => ?_)
    | split

theorem keeps_swiSet {k0 : State} (app : Bool) (v : Word) (s : State) (kh : Keeps k0 s) :
    Keeps k0 (swiSet app v s) := by
  unfold swiSet
  repeat' first
    | extract_lets
    | intro _
    | with_reducible assumption
    | fail_if_no_progress (with_reducible apply Keeps.upd)
    | with_reducible apply keeps_licSync
    | with_reducible apply keeps_licSet
    | with_reducible refine Keeps.ite (fun _ => ?_) (fun _ => ?_)

theorem keeps_swiClear {k0 : State} (app : Bool) (v : Word) (s : State) (kh : Keeps k0 s) :
    Keeps k0 (swiClear app v s) := by
  unfold swiClear
  repeat' first
    | extract_lets
    | intro _
    | with_reducible assumption
    | fail_if_no_progress (with_reducible apply Keeps.upd)
    | with_reducible apply keeps_licSync
    | with_reducible apply keeps_licSet

theorem keeps_cmpWrite {k0 : State} (app : Bool) (h : Fin 4) (hi : Bool) (v : Word) (s : State) (kh : Keeps k0 s) :
    Keeps k0 (cmpWrite app h hi v s) := by
  unfold cmpWrite
  repeat' first
    | extract_lets
    | intro _
    | with_reducible assumption
    | fail_if_no_progress (with_reducible apply Keeps.upd)
    | with_reducible apply keeps_licSet
    | with_reducible refine Keeps.ite (fun _ => ?_) (fun _ => ?_)

theorem keeps_prisplitWrite {k0 : State} (app : Bool) (v : Word) (s : State) (kh : Keeps k0 s) :
    Keeps k0 (prisplitWrite app v s) := by
  unfold prisplitWrite
  repeat' first
    | extract_lets
    | intro _
    | with_reducible assumption
    | fail_if_no_progress (with_reducible apply Keeps.upd)
    | with_reducible apply keeps_licSync
    | with_reducible apply keeps_licSet
    | with_reducible refine Keeps.ite (fun _ => ?_) (fun _ => ?_)

theorem keeps_prioWrite {k0 : State} (app : Bool) (n : Nat) (v : Word) (s : State) (kh : Keeps k0 s) :
    Keeps k0 (prioWrite app n v s) := by
  unfold prioWrite
  repeat' first
    | extract_lets
    | intro _
    | with_reducible assumption
    | fail_if_no_progress (with_reducible apply Keeps.upd)
    | with_reducible apply keeps_licSync
    | with_reducible apply keeps_licSet
    | with_reducible refine Keeps.foldl (fun _ _ _ => ?_) ?_

theorem keeps_ctxEnWrite {k0 : State} (app : Bool) (c : Fin 8) (w : Nat) (v : Word) (s : State) (kh : Keeps k0 s) :
    Keeps k0 (ctxEnWrite app c w v s) := by
  unfold ctxEnWrite
  repeat' first
    | extract_lets
    | intro _
    | with_reducible assumption
    | fail_if_no_progress (with_reducible apply Keeps.upd)
    | with_reducible apply keeps_ctxChange

theorem keeps_ctxThreshWrite {k0 : State} (app : Bool) (c : Fin 8) (v : Word) (s : State) (kh : Keeps k0 s) :
    Keeps k0 (ctxThreshWrite app c v s) := by
  unfold ctxThreshWrite
  repeat' first
    | extract_lets
    | intro _
    | with_reducible assumption
    | fail_if_no_progress (with_reducible apply Keeps.upd)
    | with_reducible apply keeps_ctxChange

theorem keeps_ctxErrClear {k0 : State} (app : Bool) (c : Fin 8) (v : Word) (s : State) (kh : Keeps k0 s) :
    Keeps k0 (ctxErrClear app c v s) := by
  unfold ctxErrClear
  repeat' first
    | extract_lets
    | intro _
    | with_reducible assumption
    | fail_if_no_progress (with_reducible apply Keeps.upd)
    | with_reducible apply keeps_ctxChange

theorem keeps_msipWrite {k0 : State} (app : Bool) (h : Nat) (v : Word) (s : State) (kh : Keeps k0 s) :
    Keeps k0 (msipWrite app h v s) := by
  unfold msipWrite
  repeat' first
    | extract_lets
    | intro _
    | with_reducible assumption
    | fail_if_no_progress (with_reducible apply Keeps.upd)
    | with_reducible apply keeps_licSet

theorem keeps_timerFire {k0 : State} (app : Bool) (h : Fin 4) (s : State) (kh : Keeps k0 s) :
    Keeps k0 (timerFire app h s) := by
  unfold timerFire
  repeat' first
    | extract_lets
    | intro _
    | with_reducible assumption
    | fail_if_no_progress (with_reducible apply Keeps.upd)
    | with_reducible apply keeps_licSet
    | with_reducible refine Keeps.ite (fun _ => ?_) (fun _ => ?_)

/-! Machine/Service.lean -/

theorem keeps_fwSet {k0 : State} (i : Fin 2) (x : FwStage) (s : State) (kh : Keeps k0 s) :
    Keeps k0 (fwSet i x s) := by
  unfold fwSet
  repeat' first
    | extract_lets
    | intro _
    | with_reducible assumption
    | fail_if_no_progress (with_reducible apply Keeps.upd)
    | with_reducible refine Keeps.ite (fun _ => ?_) (fun _ => ?_)

theorem keeps_fwRefuse {k0 : State} (n : Fin 8) (bad : Bool) (v : Nat) (run : State → State) (s : State) (hrun : ∀ y, Keeps k0 y → Keeps k0 (run y)) (kh : Keeps k0 s) :
    Keeps k0 (fwRefuse n bad v run s) := by
  unfold fwRefuse
  repeat' first
    | extract_lets
    | intro _
    | with_reducible apply hrun
    | with_reducible assumption
    | fail_if_no_progress (with_reducible apply Keeps.upd)
    | with_reducible apply keeps_answerWith
    | with_reducible apply keeps_answer
    | with_reducible refine Keeps.ite (fun _ => ?_) (fun _ => ?_)

theorem keeps_eraseSectors {k0 : State} (base a b : Nat) (s : State) (kh : Keeps k0 s) :
    Keeps k0 (eraseSectors base a b s) := by
  unfold eraseSectors
  repeat' first
    | extract_lets
    | intro _
    | with_reducible assumption
    | fail_if_no_progress (with_reducible apply Keeps.upd)
    | with_reducible apply keeps_flashErase
    | with_reducible refine Keeps.foldl (fun _ _ _ => ?_) ?_

theorem keeps_fwBegin {k0 : State} (n : Fin 8) (erased : Nat) (p : List Byte) (s : State) (kh : Keeps k0 s) :
    Keeps k0 (fwBegin n erased p s) := by
  unfold fwBegin
  repeat' first
    | extract_lets
    | intro _
    | with_reducible assumption
    | fail_if_no_progress (with_reducible apply Keeps.upd)
    | with_reducible apply keeps_fwRefuse
    | with_reducible apply keeps_eraseSectors
    | with_reducible apply keeps_fwSet
    | with_reducible apply keeps_answerOk
    | with_reducible apply keeps_answerWith
    | with_reducible refine Keeps.ite (fun _ => ?_) (fun _ => ?_)
    | split
    | dsimp +zetaDelta only

theorem keeps_flashPut {k0 : State} (ofs : Nat) (bs : List Byte) (s : State) (kh : Keeps k0 s) :
    Keeps k0 (flashPut ofs bs s) := by
  unfold flashPut
  repeat' first
    | extract_lets
    | intro _
    | with_reducible assumption
    | fail_if_no_progress (with_reducible apply Keeps.upd)
    | with_reducible apply keeps_memPut
    | with_reducible refine Keeps.foldl (fun _ _ _ => ?_) ?_
    | dsimp +zetaDelta only

theorem keeps_fwData {k0 : State} (n : Fin 8) (done : Nat) (p : List Byte) (s : State) (kh : Keeps k0 s) :
    Keeps k0 (fwData n done p s) := by
  unfold fwData
  repeat' first
    | extract_lets
    | intro _
    | with_reducible assumption
    | fail_if_no_progress (with_reducible apply Keeps.upd)
    | with_reducible apply keeps_fwRefuse
    | with_reducible apply keeps_flashPut
    | with_reducible apply keeps_fwSet
    | with_reducible apply keeps_answerOk
    | with_reducible apply keeps_answerWith
    | with_reducible refine Keeps.ite (fun _ => ?_) (fun _ => ?_)
    | split
    | dsimp +zetaDelta only

theorem keeps_fwVerifyCmd {k0 : State} (n : Fin 8) (p : List Byte) (s : State) (kh : Keeps k0 s) :
    Keeps k0 (fwVerifyCmd n p s) := by
  unfold fwVerifyCmd
  repeat' first
    | extract_lets
    | intro _
    | with_reducible assumption
    | fail_if_no_progress (with_reducible apply Keeps.upd)
    | with_reducible apply keeps_judged
    | with_reducible apply keeps_fwSet
    | with_reducible apply keeps_answerOk
    | with_reducible refine Keeps.ite (fun _ => ?_) (fun _ => ?_)
    | split
    | dsimp +zetaDelta only

theorem keeps_fwCommitCmd {k0 : State} (n : Fin 8) (p : List Byte) (s : State) (kh : Keeps k0 s) :
    Keeps k0 (fwCommitCmd n p s) := by
  unfold fwCommitCmd
  repeat' first
    | extract_lets
    | intro _
    | with_reducible assumption
    | fail_if_no_progress (with_reducible apply Keeps.upd)
    | with_reducible apply keeps_judged
    | with_reducible apply keeps_writeRecord

theorem keeps_optOpenCmd {k0 : State} (n : Fin 8) (p : List Byte) (s : State) (kh : Keeps k0 s) :
    Keeps k0 (optOpenCmd n p s) := by
  unfold optOpenCmd
  repeat' first
    | extract_lets
    | intro _
    | with_reducible assumption
    | fail_if_no_progress (with_reducible apply Keeps.upd)
    | with_reducible apply keeps_judged
    | with_reducible apply keeps_answerOk

theorem keeps_optLoadCmd {k0 : State} (n : Fin 8) (p : List Byte) (s : State) (kh : Keeps k0 s) :
    Keeps k0 (optLoadCmd n p s) := by
  unfold optLoadCmd
  repeat' first
    | extract_lets
    | intro _
    | with_reducible assumption
    | fail_if_no_progress (with_reducible apply Keeps.upd)
    | with_reducible apply keeps_judged
    | with_reducible apply keeps_answerOk
    | with_reducible refine Keeps.ite (fun _ => ?_) (fun _ => ?_)
    | with_reducible refine Keeps.foldl (fun _ _ _ => ?_) ?_
    | split

theorem keeps_optCommitCmd {k0 : State} (n : Fin 8) (p : List Byte) (s : State) (kh : Keeps k0 s) :
    Keeps k0 (optCommitCmd n p s) := by
  unfold optCommitCmd
  repeat' first
    | extract_lets
    | intro _
    | with_reducible assumption
    | fail_if_no_progress (with_reducible apply Keeps.upd)
    | with_reducible apply keeps_judged
    | with_reducible apply keeps_writeRecord
    | with_reducible apply keeps_optionCopies

theorem keeps_slotFinish {k0 : State} (n : Fin 8) (s : State) (kh : Keeps k0 s) :
    Keeps k0 (slotFinish n s) := by
  unfold slotFinish
  repeat' first
    | extract_lets
    | intro _
    | with_reducible assumption
    | fail_if_no_progress (with_reducible apply Keeps.upd)
    | with_reducible apply keeps_answerOk
    | with_reducible apply keeps_selectSlot
    | split

theorem keeps_copiesFinish {k0 : State} (n : Fin 8) (copies : Nat) (s : State) (kh : Keeps k0 s) :
    Keeps k0 (copiesFinish n copies s) := by
  unfold copiesFinish
  repeat' first
    | extract_lets
    | intro _
    | with_reducible assumption
    | fail_if_no_progress (with_reducible apply Keeps.upd)
    | with_reducible apply keeps_optionCopies
    | with_reducible apply keeps_answerWith
    | with_reducible apply keeps_answerOk
    | with_reducible refine Keeps.ite (fun _ => ?_) (fun _ => ?_)
    | split
    | dsimp +zetaDelta only

theorem keeps_diagStart {k0 : State} (o : Fin 16) (level : Nat) (s : State) (kh : Keeps k0 s) :
    Keeps k0 (diagStart o level s) := by
  unfold diagStart
  repeat' first
    | extract_lets
    | intro _
    | with_reducible assumption
    | fail_if_no_progress (with_reducible apply Keeps.upd)
    | with_reducible apply keeps_motStartOp
    | with_reducible apply keeps_motorWrite
    | with_reducible apply keeps_motMod
    | with_reducible refine Keeps.ite (fun _ => ?_) (fun _ => ?_)
    | split
    | dsimp +zetaDelta only

theorem keeps_diagCmd {k0 : State} (n : Fin 8) (p : List Byte) (s : State) (kh : Keeps k0 s) :
    Keeps k0 (diagCmd n p s) := by
  unfold diagCmd
  repeat' first
    | extract_lets
    | intro _
    | with_reducible assumption
    | fail_if_no_progress (with_reducible apply Keeps.upd)
    | with_reducible apply keeps_judged
    | with_reducible apply keeps_answer
    | with_reducible apply keeps_diagEnd
    | with_reducible apply keeps_diagStart
    | with_reducible refine Keeps.ite (fun _ => ?_) (fun _ => ?_)
    | split

theorem keeps_diagReadCmd {k0 : State} (n : Fin 8) (p : List Byte) (s : State) (kh : Keeps k0 s) :
    Keeps k0 (diagReadCmd n p s) := by
  unfold diagReadCmd
  repeat' first
    | extract_lets
    | intro _
    | with_reducible assumption
    | fail_if_no_progress (with_reducible apply Keeps.upd)
    | with_reducible apply keeps_judged
    | with_reducible apply keeps_answerOk

/-! Machine/Spi.lean -/

theorem keeps_spiMod {k0 : State} (i : Fin 4) (f : Spim → Spim) (s : State) (kh : Keeps k0 s) :
    Keeps k0 (spiMod i f s) := by
  unfold spiMod
  repeat' first
    | extract_lets
    | intro _
    | with_reducible assumption
    | fail_if_no_progress (with_reducible apply Keeps.upd)
    | with_reducible apply keeps_withEdges
    | with_reducible refine Keeps.ite (fun _ => ?_) (fun _ => ?_)

theorem keeps_spiCtrl {k0 : State} (i : Fin 4) (v : Word) (s : State) (kh : Keeps k0 s) :
    Keeps k0 (spiCtrl i v s) := by
  unfold spiCtrl
  repeat' first
    | extract_lets
    | intro _
    | with_reducible assumption
    | fail_if_no_progress (with_reducible apply Keeps.upd)
    | with_reducible apply keeps_spiMod
    | with_reducible refine Keeps.ite (fun _ => ?_) (fun _ => ?_)

theorem keeps_spiClk {k0 : State} (i : Fin 4) (v : Word) (s : State) (kh : Keeps k0 s) :
    Keeps k0 (spiClk i v s) := by
  unfold spiClk
  repeat' first
    | extract_lets
    | intro _
    | with_reducible assumption
    | fail_if_no_progress (with_reducible apply Keeps.upd)
    | with_reducible refine Keeps.ite (fun _ => ?_) (fun _ => ?_)

theorem keeps_spiTx {k0 : State} (i : Fin 4) (v : Word) (s : State) (kh : Keeps k0 s) :
    Keeps k0 (spiTx i v s) := by
  unfold spiTx
  repeat' first
    | extract_lets
    | intro _
    | with_reducible assumption
    | fail_if_no_progress (with_reducible apply Keeps.upd)
    | with_reducible apply keeps_spiMod
    | with_reducible refine Keeps.ite (fun _ => ?_) (fun _ => ?_)

theorem keeps_spiRxPop {k0 : State} (i : Fin 4) (s : State) (kh : Keeps k0 s) :
    Keeps k0 (spiRxPop i s) := by
  unfold spiRxPop
  repeat' first
    | extract_lets
    | intro _
    | with_reducible assumption
    | fail_if_no_progress (with_reducible apply Keeps.upd)

theorem keeps_spiGoOp {k0 : State} (i : Fin 4) (v : Word) (s : State) (kh : Keeps k0 s) :
    Keeps k0 (spiGoOp i v s) := by
  unfold spiGoOp
  repeat' first
    | extract_lets
    | intro _
    | with_reducible assumption
    | fail_if_no_progress (with_reducible apply Keeps.upd)
    | with_reducible apply keeps_spiMod
    | with_reducible refine Keeps.ite (fun _ => ?_) (fun _ => ?_)

theorem keeps_spiRawEnd {k0 : State} (i : Fin 4) (rx : List Word) (s : State) (kh : Keeps k0 s) :
    Keeps k0 (spiRawEnd i rx s) := by
  unfold spiRawEnd
  repeat' first
    | extract_lets
    | intro _
    | with_reducible assumption
    | fail_if_no_progress (with_reducible apply Keeps.upd)
    | with_reducible apply keeps_spiMod
    | with_reducible refine Keeps.ite (fun _ => ?_) (fun _ => ?_)
    | with_reducible refine Keeps.foldl (fun _ _ _ => ?_) ?_

theorem keeps_spiSafeEnd {k0 : State} (i : Fin 4) (rx : List Byte) (nbits : Nat) (s : State) (kh : Keeps k0 s) :
    Keeps k0 (spiSafeEnd i rx nbits s) := by
  unfold spiSafeEnd
  repeat' first
    | extract_lets
    | intro _
    | with_reducible assumption
    | fail_if_no_progress (with_reducible apply Keeps.upd)
    | with_reducible apply keeps_spiMod
    | with_reducible refine Keeps.ite (fun _ => ?_) (fun _ => ?_)

theorem keeps_spiEvClear {k0 : State} (i : Fin 4) (v : Word) (s : State) (kh : Keeps k0 s) :
    Keeps k0 (spiEvClear i v s) := by
  unfold spiEvClear
  repeat' first
    | extract_lets
    | intro _
    | with_reducible assumption
    | fail_if_no_progress (with_reducible apply Keeps.upd)

/-! Machine/RegWrite.lean -/

theorem keeps_writeSysctl {k0 : State} (off : Nat) (v : Word) (s : State) (kh : Keeps k0 s) :
    Keeps k0 (writeSysctl off v s) := by
  unfold writeSysctl
  repeat' first
    | extract_lets
    | intro _
    | with_reducible assumption
    | fail_if_no_progress (with_reducible apply Keeps.upd)
    | with_reducible refine Keeps.ite (fun _ => ?_) (fun _ => ?_)
    | split

theorem keeps_writePwrseq {k0 : State} (off : Nat) (v : Word) (s : State) (kh : Keeps k0 s) :
    Keeps k0 (writePwrseq off v s) := by
  unfold writePwrseq
  repeat' first
    | extract_lets
    | intro _
    | with_reducible assumption
    | fail_if_no_progress (with_reducible apply Keeps.upd)
    | with_reducible apply keeps_psFailClr
    | with_reducible apply keeps_psReq
    | with_reducible refine Keeps.ite (fun _ => ?_) (fun _ => ?_)
    | split

theorem keeps_appMeasure {k0 : State} (s : State) (kh : Keeps k0 s) :
    Keeps k0 (appMeasure s) := by
  unfold appMeasure
  repeat' first
    | extract_lets
    | intro _
    | with_reducible assumption
    | fail_if_no_progress (with_reducible apply Keeps.upd)
    | with_reducible apply keeps_measExtend
    | with_reducible apply keeps_wantRecord
    | with_reducible refine Keeps.ite (fun _ => ?_) (fun _ => ?_)
    | split
    | dsimp +zetaDelta only

theorem keeps_relWrite {k0 : State} (m : Master) (v : Word) (s : State) (kh : Keeps k0 s) :
    Keeps k0 (relWrite m v s) := by
  unfold relWrite
  repeat' first
    | extract_lets
    | intro _
    | with_reducible assumption
    | fail_if_no_progress (with_reducible apply Keeps.upd)
    | with_reducible apply keeps_appMeasure
    | with_reducible apply keeps_haltRequested
    | with_reducible apply keeps_rstRel
    | with_reducible refine Keeps.ite (fun _ => ?_) (fun _ => ?_)
    | dsimp +zetaDelta only

theorem keeps_writeRstctl {k0 : State} (m : Master) (off : Nat) (v : Word) (outs : List Access) (s : State) (kh : Keeps k0 s) :
    Keeps k0 (writeRstctl m off v outs s) := by
  unfold writeRstctl
  repeat' first
    | extract_lets
    | intro _
    | with_reducible assumption
    | fail_if_no_progress (with_reducible apply Keeps.upd)
    | with_reducible apply keeps_rstReqOp
    | with_reducible apply keeps_blkReq
    | with_reducible apply keeps_relWrite
    | with_reducible apply keeps_kwdgKick
    | with_reducible apply keeps_awdgCfg
    | split

theorem keeps_writeClkgen {k0 : State} (off : Nat) (v : Word) (s : State) (kh : Keeps k0 s) :
    Keeps k0 (writeClkgen off v s) := by
  unfold writeClkgen
  repeat' first
    | extract_lets
    | intro _
    | with_reducible assumption
    | fail_if_no_progress (with_reducible apply Keeps.upd)
    | with_reducible apply keeps_clkEvClear
    | with_reducible apply keeps_cpuDivOp
    | with_reducible apply keeps_clkResumeOp
    | split

theorem keeps_writePixramp {k0 : State} (off : Nat) (v : Word) (s : State) (kh : Keeps k0 s) :
    Keeps k0 (writePixramp off v s) := by
  unfold writePixramp
  repeat' first
    | extract_lets
    | intro _
    | with_reducible assumption
    | fail_if_no_progress (with_reducible apply Keeps.upd)
    | with_reducible apply keeps_prCtrlOp
    | with_reducible apply keeps_prNom
    | with_reducible apply keeps_prNfrac
    | with_reducible apply keeps_prSegs
    | with_reducible apply keeps_prSeg
    | with_reducible refine Keeps.ite (fun _ => ?_) (fun _ => ?_)
    | split

theorem keeps_hubClearOp {k0 : State} (f : Byte) (s : State) (kh : Keeps k0 s) :
    Keeps k0 (hubClearOp f s) := by
  unfold hubClearOp
  repeat' first
    | extract_lets
    | intro _
    | with_reducible assumption
    | fail_if_no_progress (with_reducible apply Keeps.upd)
    | with_reducible apply keeps_reapply
    | with_reducible apply keeps_hubClear

theorem keeps_hubCmd {k0 : State} (v : Word) (s : State) (kh : Keeps k0 s) :
    Keeps k0 (hubCmd v s) := by
  unfold hubCmd
  repeat' first
    | extract_lets
    | intro _
    | with_reducible assumption
    | fail_if_no_progress (with_reducible apply Keeps.upd)
    | with_reducible apply keeps_hubAck
    | with_reducible apply keeps_hubClearOp
    | with_reducible apply keeps_raiseFault
    | with_reducible refine Keeps.ite (fun _ => ?_) (fun _ => ?_)
    | split

theorem keeps_writeFaulthub {k0 : State} (off : Nat) (v : Word) (s : State) (kh : Keeps k0 s) :
    Keeps k0 (writeFaulthub off v s) := by
  unfold writeFaulthub
  repeat' first
    | extract_lets
    | intro _
    | with_reducible assumption
    | fail_if_no_progress (with_reducible apply Keeps.upd)
    | with_reducible apply keeps_hubCmd
    | with_reducible apply keeps_clearCapture
    | with_reducible apply keeps_fhCfgWrite
    | with_reducible refine Keeps.ite (fun _ => ?_) (fun _ => ?_)
    | split

theorem keeps_cntIrqen {k0 : State} (n : Fin 8) (v : Word) (s : State) (kh : Keeps k0 s) :
    Keeps k0 (cntIrqen n v s) := by
  unfold cntIrqen
  repeat' first
    | extract_lets
    | intro _
    | with_reducible assumption
    | fail_if_no_progress (with_reducible apply Keeps.upd)
    | with_reducible apply keeps_cntMod

theorem keeps_cntWord {k0 : State} (m : Master) (n : Fin 8) (off : Nat) (v : Word) (s : State) (kh : Keeps k0 s) :
    Keeps k0 (cntWord m n off v s) := by
  unfold cntWord
  repeat' first
    | extract_lets
    | intro _
    | with_reducible assumption
    | fail_if_no_progress (with_reducible apply Keeps.upd)
    | with_reducible apply keeps_cntMod
    | with_reducible apply keeps_refuseWrite
    | with_reducible refine Keeps.ite (fun _ => ?_) (fun _ => ?_)

theorem keeps_writeCounters {k0 : State} (m : Master) (off : Nat) (v : Word) (s : State) (kh : Keeps k0 s) :
    Keeps k0 (writeCounters m off v s) := by
  unfold writeCounters
  repeat' first
    | extract_lets
    | intro _
    | with_reducible assumption
    | fail_if_no_progress (with_reducible apply Keeps.upd)
    | with_reducible apply keeps_cntBits
    | with_reducible apply keeps_takeOp
    | with_reducible apply keeps_doneOp
    | with_reducible apply keeps_doorbell
    | with_reducible apply keeps_cntStatusClear
    | with_reducible apply keeps_cntIrqen
    | with_reducible apply keeps_cntWord
    | with_reducible refine Keeps.ite (fun _ => ?_) (fun _ => ?_)
    | split

theorem keeps_writeDocket {k0 : State} (off : Nat) (v : Word) (s : State) (kh : Keeps k0 s) :
    Keeps k0 (writeDocket off v s) := by
  unfold writeDocket
  repeat' first
    | extract_lets
    | intro _
    | with_reducible assumption
    | fail_if_no_progress (with_reducible apply Keeps.upd)
    | with_reducible apply keeps_dkCtrl
    | with_reducible apply keeps_dkPlanned
    | with_reducible apply keeps_dkCfg
    | split

theorem keeps_writeCtx {k0 : State} (app : Bool) (c : Fin 8) (off : Nat) (v : Word) (s : State) (kh : Keeps k0 s) :
    Keeps k0 (writeCtx app c off v s) := by
  unfold writeCtx
  repeat' first
    | extract_lets
    | intro _
    | with_reducible assumption
    | fail_if_no_progress (with_reducible apply Keeps.upd)
    | with_reducible apply keeps_ctxThreshWrite
    | with_reducible apply keeps_ctxEnterOp
    | with_reducible apply keeps_ctxExitOp
    | with_reducible apply keeps_ctxErrClear
    | with_reducible apply keeps_ctxEnWrite
    | with_reducible refine Keeps.ite (fun _ => ?_) (fun _ => ?_)
    | split

theorem keeps_writeLic {k0 : State} (app : Bool) (off : Nat) (v : Word) (s : State) (kh : Keeps k0 s) :
    Keeps k0 (writeLic app off v s) := by
  unfold writeLic
  repeat' first
    | extract_lets
    | intro _
    | with_reducible assumption
    | fail_if_no_progress (with_reducible apply Keeps.upd)
    | with_reducible apply keeps_prisplitWrite
    | with_reducible apply keeps_swiSet
    | with_reducible apply keeps_swiClear
    | with_reducible apply keeps_prioWrite
    | with_reducible apply keeps_cmpWrite
    | with_reducible apply keeps_msipWrite
    | with_reducible apply keeps_writeCtx
    | with_reducible refine Keeps.ite (fun _ => ?_) (fun _ => ?_)
    | split

theorem keeps_writeChan {k0 : State} (app : Bool) (ch : Fin 16) (off : Nat) (v : Word) (s : State) (kh : Keeps k0 s) :
    Keeps k0 (writeChan app ch off v s) := by
  unfold writeChan
  repeat' first
    | extract_lets
    | intro _
    | with_reducible assumption
    | fail_if_no_progress (with_reducible apply Keeps.upd)
    | with_reducible apply keeps_chanReg
    | with_reducible apply keeps_bwCtrl
    | with_reducible apply keeps_chanClear
    | split

theorem keeps_writeBarrow {k0 : State} (app : Bool) (off : Nat) (v : Word) (s : State) (kh : Keeps k0 s) :
    Keeps k0 (writeBarrow app off v s) := by
  unfold writeBarrow
  repeat' first
    | extract_lets
    | intro _
    | with_reducible assumption
    | fail_if_no_progress (with_reducible apply Keeps.upd)
    | with_reducible apply keeps_bwStopAllOp
    | with_reducible apply keeps_writeChan
    | with_reducible refine Keeps.ite (fun _ => ?_) (fun _ => ?_)
    | split

theorem keeps_writeFabric {k0 : State} (off : Nat) (v : Word) (s : State) (kh : Keeps k0 s) :
    Keeps k0 (writeFabric off v s) := by
  unfold writeFabric
  repeat' first
    | extract_lets
    | intro _
    | with_reducible assumption
    | fail_if_no_progress (with_reducible apply Keeps.upd)
    | with_reducible apply keeps_setAllot
    | with_reducible apply keeps_fabCntClr
    | split

theorem keeps_writeL2dir {k0 : State} (off : Nat) (v : Word) (s : State) (kh : Keeps k0 s) :
    Keeps k0 (writeL2dir off v s) := by
  unfold writeL2dir
  repeat' first
    | extract_lets
    | intro _
    | with_reducible assumption
    | fail_if_no_progress (with_reducible apply Keeps.upd)
    | with_reducible apply keeps_l2Maint
    | with_reducible apply keeps_l2CntClr
    | split

theorem keeps_writeDramc {k0 : State} (off : Nat) (v : Word) (s : State) (kh : Keeps k0 s) :
    Keeps k0 (writeDramc off v s) := by
  unfold writeDramc
  repeat' first
    | extract_lets
    | intro _
    | with_reducible assumption
    | fail_if_no_progress (with_reducible apply Keeps.upd)
    | with_reducible apply keeps_drCntClr
    | split

theorem keeps_writeVideo {k0 : State} (off : Nat) (v : Word) (s : State) (kh : Keeps k0 s) :
    Keeps k0 (writeVideo off v s) := by
  unfold writeVideo
  repeat' first
    | extract_lets
    | intro _
    | with_reducible assumption
    | fail_if_no_progress (with_reducible apply Keeps.upd)
    | with_reducible apply keeps_vfCtrl
    | with_reducible apply keeps_vfField
    | with_reducible apply keeps_vfEvClear
    | with_reducible refine Keeps.ite (fun _ => ?_) (fun _ => ?_)
    | split

theorem keeps_writeBeam {k0 : State} (off : Nat) (v : Word) (s : State) (kh : Keeps k0 s) :
    Keeps k0 (writeBeam off v s) := by
  unfold writeBeam
  repeat' first
    | extract_lets
    | intro _
    | with_reducible assumption
    | fail_if_no_progress (with_reducible apply Keeps.upd)
    | with_reducible apply keeps_bmCtrl
    | with_reducible apply keeps_bmField
    | with_reducible apply keeps_bmEvClear
    | with_reducible apply keeps_bmDelay
    | with_reducible apply keeps_bmLdCfg
    | with_reducible apply keeps_bmCeilReq
    | with_reducible apply keeps_bmDrive
    | with_reducible refine Keeps.ite (fun _ => ?_) (fun _ => ?_)
    | split

theorem keeps_writeMotor {k0 : State} (k : Fin 6) (off : Nat) (v : Word) (s : State) (kh : Keeps k0 s) :
    Keeps k0 (writeMotor k off v s) := by
  unfold writeMotor
  repeat' first
    | extract_lets
    | intro _
    | with_reducible assumption
    | fail_if_no_progress (with_reducible apply Keeps.upd)
    | with_reducible apply keeps_motCtrl
    | with_reducible apply keeps_motCmd
    | with_reducible apply keeps_motMod
    | with_reducible apply keeps_motCurcfg
    | with_reducible refine Keeps.ite (fun _ => ?_) (fun _ => ?_)
    | split

theorem keeps_writeRdc {k0 : State} (off : Nat) (v : Word) (s : State) (kh : Keeps k0 s) :
    Keeps k0 (writeRdc off v s) := by
  unfold writeRdc
  repeat' first
    | extract_lets
    | intro _
    | with_reducible assumption
    | fail_if_no_progress (with_reducible apply Keeps.upd)
    | split

theorem keeps_writeLoop {k0 : State} (n : Fin 32) (off : Nat) (v : Word) (s : State) (kh : Keeps k0 s) :
    Keeps k0 (writeLoop n off v s) := by
  unfold writeLoop
  repeat' first
    | extract_lets
    | intro _
    | with_reducible assumption
    | fail_if_no_progress (with_reducible apply Keeps.upd)
    | with_reducible apply keeps_lpCfg
    | with_reducible apply keeps_loopMod
    | split

theorem keeps_writeLoopeng {k0 : State} (off : Nat) (v : Word) (s : State) (kh : Keeps k0 s) :
    Keeps k0 (writeLoopeng off v s) := by
  unfold writeLoopeng
  repeat' first
    | extract_lets
    | intro _
    | with_reducible assumption
    | fail_if_no_progress (with_reducible apply Keeps.upd)
    | with_reducible apply keeps_leCtrl
    | with_reducible apply keeps_leCommit
    | with_reducible apply keeps_writeLoop
    | with_reducible refine Keeps.ite (fun _ => ?_) (fun _ => ?_)
    | split

theorem keeps_writeHv {k0 : State} (off : Nat) (v : Word) (s : State) (kh : Keeps k0 s) :
    Keeps k0 (writeHv off v s) := by
  unfold writeHv
  repeat' first
    | extract_lets
    | intro _
    | with_reducible assumption
    | fail_if_no_progress (with_reducible apply Keeps.upd)
    | split

theorem keeps_writeFuser {k0 : State} (off : Nat) (v : Word) (s : State) (kh : Keeps k0 s) :
    Keeps k0 (writeFuser off v s) := by
  unfold writeFuser
  repeat' first
    | extract_lets
    | intro _
    | with_reducible assumption
    | fail_if_no_progress (with_reducible apply Keeps.upd)
    | with_reducible apply keeps_fuCtrl
    | with_reducible apply keeps_fuDutyReq
    | split

theorem keeps_writeTill {k0 : State} (off : Nat) (v : Word) (s : State) (kh : Keeps k0 s) :
    Keeps k0 (writeTill off v s) := by
  unfold writeTill
  repeat' first
    | extract_lets
    | intro _
    | with_reducible assumption
    | fail_if_no_progress (with_reducible apply Keeps.upd)
    | with_reducible apply keeps_tlCmd
    | with_reducible apply keeps_tlRsv
    | with_reducible apply keeps_tlMeta2
    | with_reducible refine Keeps.ite (fun _ => ?_) (fun _ => ?_)
    | split

theorem keeps_writeRtc {k0 : State} (off : Nat) (v : Word) (s : State) (kh : Keeps k0 s) :
    Keeps k0 (writeRtc off v s) := by
  unfold writeRtc
  repeat' first
    | extract_lets
    | intro _
    | with_reducible assumption
    | fail_if_no_progress (with_reducible apply Keeps.upd)
    | with_reducible apply keeps_timeStatusClear
    | with_reducible apply keeps_timeSnap
    | with_reducible apply keeps_timeSet
    | with_reducible apply keeps_timeApply
    | with_reducible apply keeps_timeLostClr
    | with_reducible apply keeps_alarmSet
    | with_reducible apply keeps_alarmCtrl
    | split

theorem keeps_writeCrypto {k0 : State} (off : Nat) (v : Word) (s : State) (kh : Keeps k0 s) :
    Keeps k0 (writeCrypto off v s) := by
  unfold writeCrypto
  repeat' first
    | extract_lets
    | intro _
    | with_reducible assumption
    | fail_if_no_progress (with_reducible apply Keeps.upd)
    | with_reducible apply keeps_shaCtrlOp
    | with_reducible apply keeps_shaDataOp
    | with_reducible apply keeps_signCtrl
    | with_reducible apply keeps_mextCmd
    | with_reducible refine Keeps.ite (fun _ => ?_) (fun _ => ?_)
    | split

theorem keeps_lockSeqClear {k0 : State} (b : Fin 4) (v : Word) (s : State) (kh : Keeps k0 s) :
    Keeps k0 (lockSeqClear b v s) := by
  unfold lockSeqClear
  repeat' first
    | extract_lets
    | intro _
    | with_reducible assumption
    | fail_if_no_progress (with_reducible apply Keeps.upd)

theorem keeps_writeGpio {k0 : State} (m : Master) (b : Fin 4) (off : Nat) (v : Word) (s : State) (kh : Keeps k0 s) :
    Keeps k0 (writeGpio m b off v s) := by
  unfold writeGpio
  repeat' first
    | extract_lets
    | intro _
    | with_reducible assumption
    | fail_if_no_progress (with_reducible apply Keeps.upd)
    | with_reducible apply keeps_outVal
    | with_reducible apply keeps_outSetBits
    | with_reducible apply keeps_outClrBits
    | with_reducible apply keeps_outTglBits
    | with_reducible apply keeps_irqCfgWrite
    | with_reducible apply keeps_evtClear
    | with_reducible apply keeps_lockKey
    | with_reducible apply keeps_lockMask
    | with_reducible apply keeps_lockSeqClear
    | split

theorem keeps_writeSpim {k0 : State} (i : Fin 4) (off : Nat) (v : Word) (s : State) (kh : Keeps k0 s) :
    Keeps k0 (writeSpim i off v s) := by
  unfold writeSpim
  repeat' first
    | extract_lets
    | intro _
    | with_reducible assumption
    | fail_if_no_progress (with_reducible apply Keeps.upd)
    | with_reducible apply keeps_spiCtrl
    | with_reducible apply keeps_spiClk
    | with_reducible apply keeps_spiEvClear
    | with_reducible apply keeps_spiTx
    | with_reducible apply keeps_spiGoOp
    | with_reducible refine Keeps.ite (fun _ => ?_) (fun _ => ?_)
    | split

theorem keeps_writeHspi {k0 : State} (off : Nat) (v : Word) (s : State) (kh : Keeps k0 s) :
    Keeps k0 (writeHspi off v s) := by
  unfold writeHspi
  repeat' first
    | extract_lets
    | intro _
    | with_reducible assumption
    | fail_if_no_progress (with_reducible apply Keeps.upd)
    | split

theorem keeps_ethAddrWrite {k0 : State} (i : Fin 2) (k : Nat) (v : Word) (s : State) (kh : Keeps k0 s) :
    Keeps k0 (ethAddrWrite i k v s) := by
  unfold ethAddrWrite
  repeat' first
    | extract_lets
    | intro _
    | with_reducible assumption
    | fail_if_no_progress (with_reducible apply Keeps.upd)
    | with_reducible apply keeps_ethMod
    | with_reducible refine Keeps.ite (fun _ => ?_) (fun _ => ?_)

theorem keeps_writeEth {k0 : State} (i : Fin 2) (off : Nat) (v : Word) (s : State) (kh : Keeps k0 s) :
    Keeps k0 (writeEth i off v s) := by
  unfold writeEth
  repeat' first
    | extract_lets
    | intro _
    | with_reducible assumption
    | fail_if_no_progress (with_reducible apply Keeps.upd)
    | with_reducible apply keeps_ethCtrl
    | with_reducible apply keeps_ethMod
    | with_reducible apply keeps_mdioStart
    | with_reducible apply keeps_ptpCmd
    | with_reducible apply keeps_ethAddrWrite
    | with_reducible refine Keeps.ite (fun _ => ?_) (fun _ => ?_)
    | split

theorem keeps_writeXspi {k0 : State} (m : Master) (off : Nat) (v : Word) (s : State) (kh : Keeps k0 s) :
    Keeps k0 (writeXspi m off v s) := by
  unfold writeXspi
  repeat' first
    | extract_lets
    | intro _
    | with_reducible assumption
    | fail_if_no_progress (with_reducible apply Keeps.upd)
    | with_reducible apply keeps_xsCmd
    | with_reducible refine Keeps.ite (fun _ => ?_) (fun _ => ?_)
    | split

theorem keeps_bankWrite {k0 : State} (m : Master) (bank off : Nat) (v : Word) (outs : List Access) (s : State) (kh : Keeps k0 s) :
    Keeps k0 (bankWrite m bank off v outs s) := by
  unfold bankWrite
  repeat' first
    | extract_lets
    | intro _
    | with_reducible assumption
    | fail_if_no_progress (with_reducible apply Keeps.upd)
    | with_reducible apply keeps_writeSysctl
    | with_reducible apply keeps_writePwrseq
    | with_reducible apply keeps_writeRstctl
    | with_reducible apply keeps_writeClkgen
    | with_reducible apply keeps_writePixramp
    | with_reducible apply keeps_writeFaulthub
    | with_reducible apply keeps_writeCounters
    | with_reducible apply keeps_writeLic
    | with_reducible apply keeps_writeBarrow
    | with_reducible apply keeps_writeFabric
    | with_reducible apply keeps_writeL2dir
    | with_reducible apply keeps_writeDramc
    | with_reducible apply keeps_writeVideo
    | with_reducible apply keeps_writeBeam
    | with_reducible apply keeps_writeMotor
    | with_reducible apply keeps_writeRdc
    | with_reducible apply keeps_writeLoopeng
    | with_reducible apply keeps_writeHv
    | with_reducible apply keeps_writeFuser
    | with_reducible apply keeps_writeSteelyard
    | with_reducible apply keeps_writeTill
    | with_reducible apply keeps_writeRtc
    | with_reducible apply keeps_writeCrypto
    | with_reducible apply keeps_writeGpio
    | with_reducible apply keeps_pincfgWrite
    | with_reducible apply keeps_writeSpim
    | with_reducible apply keeps_writeHspi
    | with_reducible apply keeps_writeEth
    | with_reducible apply keeps_writeXspi
    | with_reducible apply keeps_writeDocket
    | split

/-! Machine/Access.lean -/

theorem keeps_regWriteCore {k0 : State} (m : Master) (bank off : Nat) (v : Word) (outs : List Access) (s : State) (kh : Keeps k0 s) :
    Keeps k0 (regWriteCore m bank off v outs s) := by
  unfold regWriteCore
  repeat' first
    | extract_lets
    | intro _
    | with_reducible assumption
    | fail_if_no_progress (with_reducible apply Keeps.upd)
    | with_reducible apply keeps_refuseWrite
    | with_reducible apply keeps_bankWrite
    | with_reducible refine Keeps.ite (fun _ => ?_) (fun _ => ?_)
    | split

theorem keeps_holdPair {k0 : State} (m : Master) (bank off : Nat) (f : Nat → Word) (s : State) (kh : Keeps k0 s) :
    Keeps k0 (holdPair m bank off f s) := by
  unfold holdPair
  repeat' first
    | extract_lets
    | intro _
    | with_reducible assumption
    | fail_if_no_progress (with_reducible apply Keeps.upd)
    | with_reducible refine Keeps.foldl (fun _ _ _ => ?_) ?_
    | dsimp +zetaDelta only

theorem keeps_dropCopy {k0 : State} (m : Master) (bank off : Nat) (s : State) (kh : Keeps k0 s) :
    Keeps k0 (dropCopy m bank off s) := by
  unfold dropCopy
  repeat' first
    | extract_lets
    | intro _
    | with_reducible assumption
    | fail_if_no_progress (with_reducible apply Keeps.upd)

theorem keeps_readEffect {k0 : State} (bank off : Nat) (s : State) (kh : Keeps k0 s) :
    Keeps k0 (readEffect bank off s) := by
  unfold readEffect
  repeat' first
    | extract_lets
    | intro _
    | with_reducible assumption
    | fail_if_no_progress (with_reducible apply Keeps.upd)
    | with_reducible apply keeps_cntMod
    | with_reducible apply keeps_spiRxPop
    | with_reducible refine Keeps.ite (fun _ => ?_) (fun _ => ?_)

theorem keeps_readThrough {k0 : State} (m : Master) (bank off : Nat) (s : State) (kh : Keeps k0 s) :
    Keeps k0 (readThrough m bank off s).2 := by
  unfold readThrough
  repeat' first
    | extract_lets
    | intro _
    | with_reducible assumption
    | fail_if_no_progress (with_reducible apply Keeps.upd)
    | with_reducible apply keeps_dropCopy
    | with_reducible apply keeps_readEffect
    | with_reducible apply keeps_holdPair
    | split

theorem keeps_regRead {k0 : State} (m : Master) (bank off : Nat) (s : State) (kh : Keeps k0 s) :
    Keeps k0 (regRead m bank off s).2 := by
  unfold regRead
  repeat' first
    | extract_lets
    | intro _
    | with_reducible assumption
    | fail_if_no_progress (with_reducible apply Keeps.upd)
    | with_reducible apply keeps_refuseRead
    | with_reducible apply keeps_resetBlockRegs
    | with_reducible apply keeps_holdPair
    | with_reducible apply keeps_readThrough
    | split
    | dsimp +zetaDelta only

/-! Machine/Debug.lean -/

theorem keeps_accessRegister {k0 : State} (cmd : Word) (h : Fin 4) (s : State) (kh : Keeps k0 s) :
    Keeps k0 (accessRegister cmd h s) := by
  unfold accessRegister
  repeat' first
    | extract_lets
    | intro _
    | with_reducible assumption
    | fail_if_no_progress (with_reducible apply Keeps.upd)
    | with_reducible apply keeps_cmdErr
    | with_reducible apply keeps_hartMod
    | with_reducible apply keeps_dmArgPut
    | with_reducible apply keeps_dmiPut
    | with_reducible refine Keeps.ite (fun _ => ?_) (fun _ => ?_)

theorem Keeps.pairIte {s : State} {α β : Type} {p : Prop} [Decidable p] {g : α → β} {r : α × State} {x : β} {q : State}
    (h : Keeps s r.2) (k : Keeps s q) : Keeps s (if p then (let y := r; (g y.1, y.2)) else (x, q)).2 := by
  split
  · exact h
  · exact k

theorem keeps_coreLoad {k0 : State} (h : Fin 4) (a n : Nat) (s : State) (kh : Keeps k0 s) :
    Keeps k0 (coreLoad h a n s).2 := by
  unfold coreLoad
  split
  case h_4 => with_reducible exact Keeps.pairIte (keeps_regRead _ _ _ _ kh) (keeps_errorResponse _ _ _ kh)
  case h_5 => with_reducible exact keeps_errorResponse _ _ _ kh
  all_goals split
  all_goals first
    | with_reducible exact kh
    | (split <;> with_reducible exact keeps_serveReq _ _ kh)

theorem keeps_coreStore {k0 : State} (h : Fin 4) (a : Nat) (bs : List Byte) (s : State) (kh : Keeps k0 s) :
    Keeps k0 (coreStore h a bs s).2 := by
  unfold coreStore
  repeat' first
    | extract_lets
    | intro _
    | with_reducible assumption
    | fail_if_no_progress (with_reducible apply Keeps.upd)
    | with_reducible apply keeps_serveReq
    | with_reducible apply keeps_regWriteCore
    | with_reducible apply keeps_errorResponse
    | with_reducible refine Keeps.ite (fun _ => ?_) (fun _ => ?_)
    | split

theorem keeps_accessMemory {k0 : State} (cmd : Word) (h : Fin 4) (s : State) (kh : Keeps k0 s) :
    Keeps k0 (accessMemory cmd h s) := by
  unfold accessMemory
  repeat' first
    | extract_lets
    | intro _
    | with_reducible assumption
    | fail_if_no_progress (with_reducible apply Keeps.upd)
    | with_reducible apply keeps_dmArgPut
    | with_reducible apply keeps_cmdErr
    | with_reducible apply keeps_errorResponse
    | with_reducible apply keeps_coreStore
    | with_reducible apply keeps_coreLoad
    | with_reducible apply keeps_dmiPut
    | with_reducible refine Keeps.ite (fun _ => ?_) (fun _ => ?_)
    | split
    | dsimp +zetaDelta only

theorem keeps_dmCommand_onHart {k0 : State} (f : Fin 4 → State → State) (s : State) (hf : ∀ y0 y, Keeps k0 y → Keeps k0 (f y0 y)) (kh : Keeps k0 s) :
    Keeps k0 (dmCommand.onHart f s) := by
  unfold dmCommand.onHart
  repeat' first
    | extract_lets
    | intro _
    | with_reducible apply hf
    | with_reducible assumption
    | fail_if_no_progress (with_reducible apply Keeps.upd)
    | with_reducible apply keeps_cmdErr
    | with_reducible refine Keeps.ite (fun _ => ?_) (fun _ => ?_)
    | split

theorem keeps_dmCommand {k0 : State} (v : Word) (s : State) (kh : Keeps k0 s) :
    Keeps k0 (dmCommand v s) := by
  unfold dmCommand
  repeat' first
    | extract_lets
    | intro _
    | with_reducible assumption
    | fail_if_no_progress (with_reducible apply Keeps.upd)
    | with_reducible apply keeps_dmCommand_onHart
    | with_reducible apply keeps_accessRegister
    | with_reducible apply keeps_accessMemory
    | with_reducible apply keeps_cmdErr
    | with_reducible refine Keeps.ite (fun _ => ?_) (fun _ => ?_)
    | split

theorem keeps_dmiWrite {k0 : State} (m : Master) (a : Nat) (v : Word) (s : State) (kh : Keeps k0 s) :
    Keeps k0 (dmiWrite m a v s) := by
  unfold dmiWrite
  repeat' first
    | extract_lets
    | intro _
    | with_reducible assumption
    | fail_if_no_progress (with_reducible apply Keeps.upd)
    | with_reducible apply keeps_systemCause
    | with_reducible apply keeps_dmControl
    | with_reducible apply keeps_dmiPut
    | with_reducible apply keeps_dmCommand
    | with_reducible refine Keeps.ite (fun _ => ?_) (fun _ => ?_)

theorem keeps_writeDebug {k0 : State} (m : Master) (off : Nat) (v : Word) (s : State) (kh : Keeps k0 s) :
    Keeps k0 (writeDebug m off v s) := by
  unfold writeDebug
  repeat' first
    | extract_lets
    | intro _
    | with_reducible assumption
    | fail_if_no_progress (with_reducible apply Keeps.upd)
    | with_reducible apply keeps_traceClear
    | with_reducible apply keeps_dmiWrite
    | with_reducible refine Keeps.ite (fun _ => ?_) (fun _ => ?_)
    | split

theorem keeps_regWriteWith {k0 : State} (m : Master) (bank off : Nat) (v : Word) (outs : List Access) (s : State) (kh : Keeps k0 s) :
    Keeps k0 (regWriteWith m bank off v outs s) := by
  unfold regWriteWith
  repeat' first
    | extract_lets
    | intro _
    | with_reducible assumption
    | fail_if_no_progress (with_reducible apply Keeps.upd)
    | with_reducible apply keeps_writeDebug
    | with_reducible apply keeps_regWriteCore
    | with_reducible refine Keeps.ite (fun _ => ?_) (fun _ => ?_)

theorem keeps_regWrite {k0 : State} (m : Master) (bank off : Nat) (v : Word) (s : State) (kh : Keeps k0 s) :
    Keeps k0 (regWrite m bank off v s) := by
  unfold regWrite
  repeat' first
    | extract_lets
    | intro _
    | with_reducible assumption
    | fail_if_no_progress (with_reducible apply Keeps.upd)
    | with_reducible apply keeps_regWriteWith

theorem keeps_addrWrite {k0 : State} (m : Master) (addr : BitVec 40) (size : BitVec 3) (v : Word) (s : State) (kh : Keeps k0 s) :
    Keeps k0 (addrWrite m addr size v s) := by
  unfold addrWrite
  repeat' first
    | extract_lets
    | intro _
    | with_reducible assumption
    | fail_if_no_progress (with_reducible apply Keeps.upd)
    | with_reducible apply keeps_errorResponse
    | with_reducible apply keeps_regWrite
    | with_reducible refine Keeps.ite (fun _ => ?_) (fun _ => ?_)
    | dsimp +zetaDelta only

/-! Machine/Hspi.lean -/

theorem keeps_csMod {k0 : State} (c : Fin 2) (f : HspiCs → HspiCs) (s : State) (kh : Keeps k0 s) :
    Keeps k0 (csMod c f s) := by
  unfold csMod
  repeat' first
    | extract_lets
    | intro _
    | with_reducible assumption
    | fail_if_no_progress (with_reducible apply Keeps.upd)

theorem keeps_takeFree {k0 : State} (n : Nat) (s : State) (kh : Keeps k0 s) :
    Keeps k0 (takeFree n s) := by
  unfold takeFree
  repeat' first
    | extract_lets
    | intro _
    | with_reducible assumption
    | fail_if_no_progress (with_reducible apply Keeps.upd)

theorem keeps_portWrite {k0 : State} (c : Fin 2) (ofs : Nat) (data : List Byte) (s : State) (kh : Keeps k0 s) :
    Keeps k0 (portWrite c ofs data s) := by
  unfold portWrite
  repeat' first
    | extract_lets
    | intro _
    | with_reducible assumption
    | fail_if_no_progress (with_reducible apply Keeps.upd)
    | with_reducible apply keeps_cntMod
    | with_reducible refine Keeps.ite (fun _ => ?_) (fun _ => ?_)

theorem keeps_hostWrite {k0 : State} (c : Fin 2) (ofs : Byte) (data : List Byte) (s : State) (kh : Keeps k0 s) :
    Keeps k0 (hostWrite c ofs data s) := by
  unfold hostWrite
  repeat' first
    | extract_lets
    | intro _
    | with_reducible assumption
    | fail_if_no_progress (with_reducible apply Keeps.upd)
    | with_reducible apply keeps_csMod
    | with_reducible apply keeps_portWrite
    | with_reducible refine Keeps.ite (fun _ => ?_) (fun _ => ?_)

theorem keeps_hostBell {k0 : State} (c : Fin 2) (v : Byte) (s : State) (kh : Keeps k0 s) :
    Keeps k0 (hostBell c v s) := by
  unfold hostBell
  repeat' first
    | extract_lets
    | intro _
    | with_reducible assumption
    | fail_if_no_progress (with_reducible apply Keeps.upd)
    | with_reducible apply keeps_csMod
    | with_reducible apply keeps_doorbell
    | with_reducible refine Keeps.ite (fun _ => ?_) (fun _ => ?_)

theorem keeps_sendFrame {k0 : State} (c : Fin 2) (s : State) (kh : Keeps k0 s) :
    Keeps k0 (sendFrame c s) := by
  unfold sendFrame
  repeat' first
    | extract_lets
    | intro _
    | with_reducible assumption
    | fail_if_no_progress (with_reducible apply Keeps.upd)
    | with_reducible apply keeps_takeFree
    | with_reducible apply keeps_csMod

theorem keeps_badFrame {k0 : State} (c : Fin 2) (s : State) (kh : Keeps k0 s) :
    Keeps k0 (badFrame c s) := by
  unfold badFrame
  repeat' first
    | extract_lets
    | intro _
    | with_reducible assumption
    | fail_if_no_progress (with_reducible apply Keeps.upd)
    | with_reducible apply keeps_csMod
    | with_reducible apply keeps_raiseFault
    | dsimp +zetaDelta only

theorem keeps_goodFrame {k0 : State} (c : Fin 2) (rx : List Byte) (s : State) (kh : Keeps k0 s) :
    Keeps k0 (goodFrame c rx s) := by
  unfold goodFrame
  repeat' first
    | extract_lets
    | intro _
    | with_reducible assumption
    | fail_if_no_progress (with_reducible apply Keeps.upd)
    | with_reducible apply keeps_csMod
    | with_reducible apply keeps_hostWrite
    | with_reducible apply keeps_hostBell
    | with_reducible refine Keeps.ite (fun _ => ?_) (fun _ => ?_)
    | dsimp +zetaDelta only

theorem keeps_safeExchange {k0 : State} (c : Fin 2) (rx : List Byte) (s : State) (kh : Keeps k0 s) :
    Keeps k0 (safeExchange c rx s) := by
  unfold safeExchange
  repeat' first
    | extract_lets
    | intro _
    | with_reducible assumption
    | fail_if_no_progress (with_reducible apply Keeps.upd)
    | with_reducible apply keeps_badFrame
    | with_reducible apply keeps_sendFrame
    | with_reducible apply keeps_goodFrame
    | with_reducible refine Keeps.ite (fun _ => ?_) (fun _ => ?_)

theorem keeps_portMisaligned {k0 : State} (ofs : Nat) (kind : BitVec 2) (s : State) (kh : Keeps k0 s) :
    Keeps k0 (portMisaligned ofs kind s) := by
  unfold portMisaligned
  repeat' first
    | extract_lets
    | intro _
    | with_reducible assumption
    | fail_if_no_progress (with_reducible apply Keeps.upd)
    | with_reducible apply keeps_errorResponse

theorem keeps_rawOp {k0 : State} (rx : List Byte) (s : State) (kh : Keeps k0 s) :
    Keeps k0 (rawOp rx s).2 := by
  unfold rawOp
  repeat' first
    | extract_lets
    | intro _
    | with_reducible assumption
    | fail_if_no_progress (with_reducible apply Keeps.upd)
    | with_reducible apply keeps_hostWrite
    | with_reducible apply keeps_takeFree
    | with_reducible apply keeps_hostBell
    | with_reducible apply keeps_regRead
    | with_reducible apply keeps_portMisaligned
    | with_reducible apply keeps_regWrite
    | with_reducible refine Keeps.ite (fun _ => ?_) (fun _ => ?_)
    | split
    | dsimp +zetaDelta only

theorem keeps_rawExchange {k0 : State} (rx : List Byte) (s : State) (kh : Keeps k0 s) :
    Keeps k0 (rawExchange rx s) := by
  unfold rawExchange
  repeat' first
    | extract_lets
    | intro _
    | with_reducible assumption
    | fail_if_no_progress (with_reducible apply Keeps.upd)
    | with_reducible apply keeps_rawOp
    | with_reducible apply keeps_csMod
    | with_reducible refine Keeps.ite (fun _ => ?_) (fun _ => ?_)
    | dsimp +zetaDelta only

theorem keeps_transact {k0 : State} (c : Fin 2) (rx : List Byte) (s : State) (kh : Keeps k0 s) :
    Keeps k0 (transact c rx s) := by
  unfold transact
  repeat' first
    | extract_lets
    | intro _
    | with_reducible assumption
    | fail_if_no_progress (with_reducible apply Keeps.upd)
    | with_reducible apply keeps_safeExchange
    | with_reducible apply keeps_rawExchange
    | with_reducible apply keeps_dormantWake
    | with_reducible refine Keeps.ite (fun _ => ?_) (fun _ => ?_)

theorem keeps_spoiltFrame {k0 : State} (c : Fin 2) (s : State) (kh : Keeps k0 s) :
    Keeps k0 (spoiltFrame c s) := by
  unfold spoiltFrame
  repeat' first
    | extract_lets
    | intro _
    | with_reducible assumption
    | fail_if_no_progress (with_reducible apply Keeps.upd)
    | with_reducible apply keeps_badFrame
    | with_reducible apply keeps_sendFrame
    | with_reducible apply keeps_dormantWake
    | with_reducible refine Keeps.ite (fun _ => ?_) (fun _ => ?_)

theorem keeps_csClash {k0 : State} (s : State) (kh : Keeps k0 s) :
    Keeps k0 (csClash s) := by
  unfold csClash
  repeat' first
    | extract_lets
    | intro _
    | with_reducible assumption
    | fail_if_no_progress (with_reducible apply Keeps.upd)
    | with_reducible apply keeps_csMod
    | with_reducible apply keeps_badFrame
    | with_reducible apply keeps_dormantWake
    | with_reducible refine Keeps.ite (fun _ => ?_) (fun _ => ?_)
    | dsimp +zetaDelta only

theorem keeps_cfgApply {k0 : State} (s : State) (kh : Keeps k0 s) :
    Keeps k0 (cfgApply s) := by
  unfold cfgApply
  repeat' first
    | extract_lets
    | intro _
    | with_reducible assumption
    | fail_if_no_progress (with_reducible apply Keeps.upd)
    | with_reducible apply keeps_csMod
    | split
    | dsimp +zetaDelta only

/-! Machine/PowerUp.lean -/

theorem keeps_sinovStart {k0 : State} (s : State) (kh : Keeps k0 s) :
    Keeps k0 (sinovStart s) := by
  unfold sinovStart
  repeat' first
    | extract_lets
    | intro _
    | with_reducible assumption
    | fail_if_no_progress (with_reducible apply Keeps.upd)
    | with_reducible apply keeps_sinovPlls

theorem keeps_docketFirst {k0 : State} (s : State) (kh : Keeps k0 s) :
    Keeps k0 (docketFirst s) := by
  unfold docketFirst
  repeat' first
    | extract_lets
    | intro _
    | with_reducible assumption
    | fail_if_no_progress (with_reducible apply Keeps.upd)
    | with_reducible apply keeps_wantRecord
    | with_reducible apply keeps_tillSync
    | with_reducible refine Keeps.ite (fun _ => ?_) (fun _ => ?_)

theorem keeps_powerUpRecord {k0 : State} (s : State) (kh : Keeps k0 s) :
    Keeps k0 (powerUpRecord s) := by
  unfold powerUpRecord
  repeat' first
    | extract_lets
    | intro _
    | with_reducible assumption
    | fail_if_no_progress (with_reducible apply Keeps.upd)
    | with_reducible apply keeps_wantRecord
    | with_reducible apply keeps_setMode
    | with_reducible refine Keeps.ite (fun _ => ?_) (fun _ => ?_)

theorem keeps_powerUpRecords {k0 : State} (s : State) (kh : Keeps k0 s) :
    Keeps k0 (powerUpRecords s) := by
  unfold powerUpRecords
  repeat' first
    | extract_lets
    | intro _
    | with_reducible assumption
    | fail_if_no_progress (with_reducible apply Keeps.upd)
    | with_reducible apply keeps_powerUpRecord
    | with_reducible apply keeps_docketFirst
    | with_reducible apply keeps_sinovStart

theorem keeps_powerUp {k0 : State} (s : State) (kh : Keeps k0 s) :
    Keeps k0 (powerUp s) := by
  unfold powerUp
  repeat' first
    | extract_lets
    | intro _
    | with_reducible assumption
    | fail_if_no_progress (with_reducible apply Keeps.upd)
    | with_reducible apply keeps_setMode
    | with_reducible apply keeps_sinovStart
    | with_reducible apply keeps_scanStart
    | with_reducible apply keeps_powerUpRecords
    | with_reducible apply keeps_pointersKept
    | with_reducible refine Keeps.ite (fun _ => ?_) (fun _ => ?_)

theorem keeps_scanDone {k0 : State} (s : State) (kh : Keeps k0 s) :
    Keeps k0 (scanDone s) := by
  unfold scanDone
  repeat' first
    | extract_lets
    | intro _
    | with_reducible assumption
    | fail_if_no_progress (with_reducible apply Keeps.upd)
    | with_reducible apply keeps_scanEnd
    | with_reducible apply keeps_powerUpRecords
    | with_reducible refine Keeps.ite (fun _ => ?_) (fun _ => ?_)
    | dsimp +zetaDelta only

/-! Machine/RegRows.lean -/

theorem keeps_addrRead {k0 : State} (m : Master) (addr : BitVec 40) (s : State) (kh : Keeps k0 s) :
    Keeps k0 (addrRead m addr s) := by
  unfold addrRead
  repeat' first
    | extract_lets
    | intro _
    | with_reducible assumption
    | fail_if_no_progress (with_reducible apply Keeps.upd)
    | with_reducible apply keeps_errorResponse
    | with_reducible apply keeps_regRead
    | with_reducible refine Keeps.ite (fun _ => ?_) (fun _ => ?_)
    | dsimp +zetaDelta only

theorem keeps_heldGoOn {k0 : State} (b : Fin 24) (s : State) (kh : Keeps k0 s) :
    Keeps k0 (heldGoOn b s) := by
  unfold heldGoOn
  repeat' first
    | extract_lets
    | intro _
    | with_reducible assumption
    | fail_if_no_progress (with_reducible apply Keeps.upd)
    | with_reducible apply keeps_regWrite
    | with_reducible refine Keeps.foldl (fun _ _ _ => ?_) ?_
    | dsimp +zetaDelta only

theorem keeps_blockRelease {k0 : State} (b : Fin 24) (s : State) (kh : Keeps k0 s) :
    Keeps k0 (blockRelease b s) := by
  unfold blockRelease
  repeat' first
    | extract_lets
    | intro _
    | with_reducible assumption
    | fail_if_no_progress (with_reducible apply Keeps.upd)
    | with_reducible apply keeps_heldGoOn
    | with_reducible apply keeps_blockFree
    | with_reducible refine Keeps.ite (fun _ => ?_) (fun _ => ?_)

end Sys2Proof.Machine
end

