-- ==== Sys2Proof/WellFormed.lean ====
section
/-! DEFINITION. Which commands are well formed: operands that name something the device has, and samples of the number
the device takes. An ill-formed command names an offset that holds no register (R18) or carries missing samples. -/

namespace Sys2Proof

/-- BARROW_KEEP has channels 0-7 (R432). -/
def chanOk (app : Bool) (ch : Fin 16) : Bool := app || decide (ch.val < 8)

/-- LIC_KEEP has context 0 and timer 0 only (R425). -/
def ctxOk (app : Bool) (c : Nat) : Bool := app || decide (c = 0)

/-- GPD has 24 pins (R440). -/
def pinOk (b : Fin 4) (pin : Fin 32) : Bool := decide (b.val < 3) || decide (pin.val < 24)

/-- HSPI_nCS1 carries safe frames only (R466); a safe frame of L bytes carries at most 58 data bytes (R458, R468). -/
def hspiOk (cs : Fin 2) (alive : Option (BitVec 4)) (n : Nat) : Bool :=
  match alive with
  | some _ => decide (n ≤ 58)
  | none => decide (cs = 0)

/-- A command is well formed. -/
def Instr.wf : Instr → Bool
  | .barrowStart _ app ch _ | .barrowStop _ app ch _ => chanOk app ch
  | .barrowRequestDone app ch | .barrowErrorResponse app ch _ => chanOk app ch
  | .ctxEnter _ app c _ | .ctxExit _ app c _ => ctxOk app c.val
  | .mtimecmpWrite _ app h _ _ => ctxOk app h.val
  | .mtimerFire app h => ctxOk app h.val
  | .gpioPinChange b pin _ => pinOk b pin
  | .domainSwitchClose d | .domainGood d | .domainGoodTimeout d | .domainPgDrop d | .domainSwitchOff d =>
    decide (2 ≤ d.val)
  | .bdEdgeAccept _ mons => decide (mons.length = 4)
  | .ckPwmCycle _ shunts => decide (shunts.length = 3)
  | .tsSample readings => decide (readings.length = 8)
  | .syEvaluation meas => decide (meas.length = 12)
  | .hspiWriteReq cs alive _ data => hspiOk cs alive data.length
  | .hspiReadRpl cs alive _ n => hspiOk cs alive n
  | .hspiDoorbell cs alive _ => hspiOk cs alive 0
  | .ethRxFrame _ frame _ => decide (14 ≤ frame.length)
  | .spiSafeFrameDone _ rx bits => decide (bits ≤ 8 * rx.length)
  | .ring .. | .abandon .. | .ack .. | .cntTake .. | .cntDone .. | .cntFerrRead .. | .counterStale ..
  | .cntBadFrames .. | .conflictWindowClose .. | .getInfo .. | .getMode .. | .sealPlan .. | .unsealPlan .. | .sleep ..
  | .reset .. | .getResetCause .. | .admitPage .. | .startPage .. | .spoilPage .. | .getDocket ..
  | .setFacetProfile .. | .setMotor .. | .motorStop .. | .setLoop .. | .setHv .. | .setFuser .. | .setLaser ..
  | .setFabric .. | .getSteelyard .. | .setThrottle .. | .getRails .. | .setShutdownTable .. | .getFaults ..
  | .ackFault .. | .clearFault .. | .setFaultClass .. | .tillRead .. | .tillAppend .. | .tillStatus ..
  | .tillRelease .. | .timeGet .. | .timeSet .. | .timeLostClear .. | .measureGet .. | .quote .. | .fwStageBegin ..
  | .fwStageData .. | .fwVerify .. | .fwCommit .. | .optionWriteOpen .. | .optionWriteLoad .. | .optionWriteCommit ..
  | .diagOutput .. | .diagRead .. | .admissionLapse .. | .diagOutputStop .. | .resetCmdAssert .. | .sleepPowerDown ..
  | .dkArm .. | .dkSpoil .. | .dkClose .. | .dkRelease .. | .facetEnd .. | .topOfForm .. | .closePoint ..
  | .safeStopComplete .. | .safeStopTimeout .. | .controlFrame .. | .statusFrame .. | .safeExit ..
  | .hdieLinkRestored .. | .hdieLinkTimeout .. | .englinkLoss .. | .englinkRecovered .. | .hdieSelfReset ..
  | .fwdClockLow .. | .engRel .. | .ldCurrentTrip .. | .ldOntimeTrip .. | .htrDutyHold .. | .htrStuckTrip ..
  | .tsfTrip .. | .phaseCurrentTrip .. | .hvOvervoltTrip .. | .overspeedTrip .. | .graceExpire .. | .fhAck ..
  | .fhClear .. | .fhRaise .. | .feClear .. | .parityScan .. | .vinStart .. | .softStartDone .. | .vauxGood ..
  | .aoPorRelease .. | .brownOut .. | .pfw .. | .vinHighCross .. | .vregenRise .. | .vregenFall .. | .vauxLowCross ..
  | .aoSwitchToVbkp .. | .aoSwitchToVaux .. | .vbkpLowCross .. | .vinMonitorSample .. | .vinAvgUpdate ..
  | .seqpgRise .. | .railSettled .. | .railTimeout .. | .seqpgDrop .. | .psReqWrite .. | .psFailClear ..
  | .tpfwExpire .. | .shutdownEntryDue .. | .trecExpire .. | .vinRestored .. | .seqHalt .. | .nrstPulse ..
  | .resetOffTimeEnd .. | .keeperWatchdogExpire .. | .rstKwdgKick .. | .appWatchdogExpire .. | .rstAwdgKick ..
  | .rstReq .. | .debugReset .. | .rstBlkReq .. | .blockDrainDone .. | .blockDrainTimeout .. | .blockResetRelease ..
  | .loaderEntryReady .. | .loaderEntryTimeout .. | .loaderRepairDone .. | .loaderEnvXferAck ..
  | .loaderEnvXferTimeout .. | .loadFailsLimit .. | .keeperRelease .. | .bootSocpllWaitEnd .. | .sinovPowerUp ..
  | .coreRelease .. | .holdRel .. | .ksramDoubleBit .. | .ksramSingleBit .. | .pllUnlock .. | .pllLock ..
  | .ckrefLoss .. | .ckrefReturn .. | .clkResume .. | .pixrampResume .. | .cpuDivWrite .. | .ao32Stop ..
  | .rampSegmentEnd .. | .prCtrlWrite .. | .bdEdgeExtra .. | .bdCheckTimeout .. | .bdGateClose .. | .acqPulseStart ..
  | .lineDueCheck .. | .ldilFall .. | .diagLaserPulse .. | .beamEnWrite .. | .videoEnWrite .. | .videoBurstDone ..
  | .videoBurstError .. | .motStart .. | .motStop .. | .speedRegTick .. | .alignDone .. | .learnDone ..
  | .zEdgeMisplaced .. | .encoderAbError .. | .resolverOutOfRange .. | .stallDetected .. | .bootstrapLow ..
  | .highSideMaxOn .. | .bootstrapRefreshEnd .. | .brakeEntry .. | .brakeToOff .. | .atSpeedLoss .. | .cmdPinStuck ..
  | .mediaJamDetect .. | .hdieVinSample .. | .loopSlotSample .. | .leCommitGo .. | .scheduleApply ..
  | .loopDwellExpire .. | .heaterPeriodStart .. | .heaterConductionEnd .. | .throttleDwellExpire ..
  | .sensorDisagreeSet .. | .sensorDisagreeClear .. | .syEnable .. | .forecastGo .. | .forecastDone ..
  | .hdieHotCross .. | .tlCommitOp .. | .tlCommitDone .. | .tillStopped .. | .tlReleaseOp .. | .tlReleaseDone ..
  | .tlScanOp .. | .tlScanDone .. | .chainBreakFound .. | .chainWalkDone .. | .pairLoRead .. | .timeSnapGo ..
  | .timeApplyGo .. | .timeApplyEdge .. | .timeLostClrGo .. | .rtcSecond .. | .rtcAlarmFire .. | .vretCross ..
  | .bkpPowerOn .. | .shaStart .. | .shaData .. | .shaFinal .. | .shaDone .. | .sign .. | .verify .. | .signDone ..
  | .mextGo .. | .cboClean .. | .cboFlush .. | .cboInval .. | .l2CleanAll .. | .l2FlushAll .. | .l2InvalAll ..
  | .l2MaintDone .. | .l2CntClr .. | .coherenceTurn .. | .wheelSlot .. | .allotmentApply .. | .fabCntClr ..
  | .drCntClr .. | .dramRefresh .. | .dramTrainDone .. | .licLevelChange .. | .licSwiSet .. | .licSwiClear ..
  | .bwStopall .. | .outValWrite .. | .outSet .. | .outClr .. | .outTgl .. | .lockKeyWrite .. | .lockMaskWrite ..
  | .wakePin .. | .spiCtrlWrite .. | .spiTxWrite .. | .spiRxRead .. | .spiGo .. | .spiRawDone .. | .hspiRegRead ..
  | .hspiRegWrite .. | .hspiNop .. | .hspiBadFrame .. | .hspiClash .. | .hsCfgApply .. | .hspiWake ..
  | .ethCtrlWrite .. | .ethTxFrame .. | .ethBusError .. | .ptpSet .. | .ptpStep .. | .ppsRise .. | .ppsFall ..
  | .tscapEdge .. | .mdioFrame .. | .mdioDone .. | .xsErase64k .. | .xsProgram .. | .xsOpDone .. | .xsReadSuspend ..
  | .trcClr .. | .dmiAccessRegister .. | .dmiAccessMemory .. | .registerWrite .. | .ldilRise .. | .bdGateOpen ..
  | .acqPulseEnd .. | .ckAo32Restart .. | .vddAoInvalid .. | .hvEnvelopeInhibit .. => true

end Sys2Proof
end

