-- ==== Sys2Proof/Laws/PerInstr.lean ====
section
/-! SUPPORT. The per-command family WellFormed: whatever the operands of a command, the same command has operands with
which it is well formed, so that no check of WellFormed.lean shuts a row of the table out. One lemma per command. -/

namespace Sys2Proof.Laws.WellFormed

/-- The command has a well-formed instance of its own row. -/
def Statement (i : Instr) : Prop := ∃ j : Instr, j.wf = true ∧ j.ctorIdx = i.ctorIdx

theorem ring (m : Master) (n : Fin 8) (v : Word) : Statement (.ring m n v) := ⟨.ring m n v, rfl, rfl⟩
theorem abandon (m : Master) (n : Fin 8) (v : Word) : Statement (.abandon m n v) := ⟨.abandon m n v, rfl, rfl⟩
theorem ack (m : Master) (n : Fin 8) (v : Word) : Statement (.ack m n v) := ⟨.ack m n v, rfl, rfl⟩
theorem cntTake (m : Master) (n : Fin 8) : Statement (.cntTake m n) := ⟨.cntTake m n, rfl, rfl⟩
theorem cntDone (m : Master) (n : Fin 8) : Statement (.cntDone m n) := ⟨.cntDone m n, rfl, rfl⟩
theorem cntFerrRead (m : Master) (n : Fin 8) : Statement (.cntFerrRead m n) := ⟨.cntFerrRead m n, rfl, rfl⟩
theorem counterStale (n : Fin 8) : Statement (.counterStale n) := ⟨.counterStale n, rfl, rfl⟩
theorem cntBadFrames (n : Fin 8) : Statement (.cntBadFrames n) := ⟨.cntBadFrames n, rfl, rfl⟩
theorem conflictWindowClose (r : Resource) : Statement (.conflictWindowClose r) := ⟨.conflictWindowClose r, rfl, rfl⟩
theorem getInfo (n : Fin 8) : Statement (.getInfo n) := ⟨.getInfo n, rfl, rfl⟩
theorem getMode (n : Fin 8) : Statement (.getMode n) := ⟨.getMode n, rfl, rfl⟩
theorem sealPlan (n : Fin 8) : Statement (.sealPlan n) := ⟨.sealPlan n, rfl, rfl⟩
theorem unsealPlan (n : Fin 8) : Statement (.unsealPlan n) := ⟨.unsealPlan n, rfl, rfl⟩
theorem sleep (n : Fin 8) : Statement (.sleep n) := ⟨.sleep n, rfl, rfl⟩
theorem reset (n : Fin 8) : Statement (.reset n) := ⟨.reset n, rfl, rfl⟩
theorem getResetCause (n : Fin 8) : Statement (.getResetCause n) := ⟨.getResetCause n, rfl, rfl⟩
theorem admitPage (n : Fin 8) : Statement (.admitPage n) := ⟨.admitPage n, rfl, rfl⟩
theorem startPage (n : Fin 8) : Statement (.startPage n) := ⟨.startPage n, rfl, rfl⟩
theorem spoilPage (n : Fin 8) : Statement (.spoilPage n) := ⟨.spoilPage n, rfl, rfl⟩
theorem getDocket (n : Fin 8) : Statement (.getDocket n) := ⟨.getDocket n, rfl, rfl⟩
theorem setFacetProfile (n : Fin 8) : Statement (.setFacetProfile n) := ⟨.setFacetProfile n, rfl, rfl⟩
theorem setMotor (n : Fin 8) : Statement (.setMotor n) := ⟨.setMotor n, rfl, rfl⟩
theorem motorStop (n : Fin 8) : Statement (.motorStop n) := ⟨.motorStop n, rfl, rfl⟩
theorem setLoop (n : Fin 8) : Statement (.setLoop n) := ⟨.setLoop n, rfl, rfl⟩
theorem setHv (n : Fin 8) : Statement (.setHv n) := ⟨.setHv n, rfl, rfl⟩
theorem setFuser (n : Fin 8) : Statement (.setFuser n) := ⟨.setFuser n, rfl, rfl⟩
theorem setLaser (n : Fin 8) : Statement (.setLaser n) := ⟨.setLaser n, rfl, rfl⟩
theorem setFabric (n : Fin 8) : Statement (.setFabric n) := ⟨.setFabric n, rfl, rfl⟩
theorem getSteelyard (n : Fin 8) : Statement (.getSteelyard n) := ⟨.getSteelyard n, rfl, rfl⟩
theorem setThrottle (n : Fin 8) : Statement (.setThrottle n) := ⟨.setThrottle n, rfl, rfl⟩
theorem getRails (n : Fin 8) : Statement (.getRails n) := ⟨.getRails n, rfl, rfl⟩
theorem setShutdownTable (n : Fin 8) : Statement (.setShutdownTable n) := ⟨.setShutdownTable n, rfl, rfl⟩
theorem getFaults (n : Fin 8) : Statement (.getFaults n) := ⟨.getFaults n, rfl, rfl⟩
theorem ackFault (n : Fin 8) : Statement (.ackFault n) := ⟨.ackFault n, rfl, rfl⟩
theorem clearFault (n : Fin 8) : Statement (.clearFault n) := ⟨.clearFault n, rfl, rfl⟩
theorem setFaultClass (n : Fin 8) : Statement (.setFaultClass n) := ⟨.setFaultClass n, rfl, rfl⟩
theorem tillRead (n : Fin 8) : Statement (.tillRead n) := ⟨.tillRead n, rfl, rfl⟩
theorem tillAppend (n : Fin 8) : Statement (.tillAppend n) := ⟨.tillAppend n, rfl, rfl⟩
theorem tillStatus (n : Fin 8) : Statement (.tillStatus n) := ⟨.tillStatus n, rfl, rfl⟩
theorem tillRelease (n : Fin 8) : Statement (.tillRelease n) := ⟨.tillRelease n, rfl, rfl⟩
theorem timeGet (n : Fin 8) : Statement (.timeGet n) := ⟨.timeGet n, rfl, rfl⟩
theorem timeSet (n : Fin 8) : Statement (.timeSet n) := ⟨.timeSet n, rfl, rfl⟩
theorem timeLostClear (n : Fin 8) : Statement (.timeLostClear n) := ⟨.timeLostClear n, rfl, rfl⟩
theorem measureGet (n : Fin 8) : Statement (.measureGet n) := ⟨.measureGet n, rfl, rfl⟩
theorem quote (n : Fin 8) : Statement (.quote n) := ⟨.quote n, rfl, rfl⟩
theorem fwStageBegin (n : Fin 8) (erased : Nat) : Statement (.fwStageBegin n erased) := ⟨.fwStageBegin n erased, rfl, rfl⟩
theorem fwStageData (n : PieceDone) : Statement (.fwStageData n) := ⟨.fwStageData n, rfl, rfl⟩
theorem fwVerify (n : Fin 8) : Statement (.fwVerify n) := ⟨.fwVerify n, rfl, rfl⟩
theorem fwCommit (n : Fin 8) : Statement (.fwCommit n) := ⟨.fwCommit n, rfl, rfl⟩
theorem optionWriteOpen (n : Fin 8) : Statement (.optionWriteOpen n) := ⟨.optionWriteOpen n, rfl, rfl⟩
theorem optionWriteLoad (n : Fin 8) : Statement (.optionWriteLoad n) := ⟨.optionWriteLoad n, rfl, rfl⟩
theorem optionWriteCommit (n : Fin 8) (copies : Nat) : Statement (.optionWriteCommit n copies) :=
  ⟨.optionWriteCommit n copies, rfl, rfl⟩
theorem diagOutput (n : Fin 8) : Statement (.diagOutput n) := ⟨.diagOutput n, rfl, rfl⟩
theorem diagRead (n : Fin 8) : Statement (.diagRead n) := ⟨.diagRead n, rfl, rfl⟩
theorem admissionLapse : Statement .admissionLapse := ⟨.admissionLapse, rfl, rfl⟩
theorem diagOutputStop (out : Fin 16) : Statement (.diagOutputStop out) := ⟨.diagOutputStop out, rfl, rfl⟩
theorem resetCmdAssert : Statement .resetCmdAssert := ⟨.resetCmdAssert, rfl, rfl⟩
theorem sleepPowerDown : Statement .sleepPowerDown := ⟨.sleepPowerDown, rfl, rfl⟩
theorem dkArm (m : Master) : Statement (.dkArm m) := ⟨.dkArm m, rfl, rfl⟩
theorem dkSpoil (m : Master) : Statement (.dkSpoil m) := ⟨.dkSpoil m, rfl, rfl⟩
theorem dkClose (m : Master) : Statement (.dkClose m) := ⟨.dkClose m, rfl, rfl⟩
theorem dkRelease (m : Master) : Statement (.dkRelease m) := ⟨.dkRelease m, rfl, rfl⟩
theorem facetEnd : Statement .facetEnd := ⟨.facetEnd, rfl, rfl⟩
theorem topOfForm : Statement .topOfForm := ⟨.topOfForm, rfl, rfl⟩
theorem closePoint : Statement .closePoint := ⟨.closePoint, rfl, rfl⟩
theorem safeStopComplete : Statement .safeStopComplete := ⟨.safeStopComplete, rfl, rfl⟩
theorem safeStopTimeout : Statement .safeStopTimeout := ⟨.safeStopTimeout, rfl, rfl⟩
theorem controlFrame (crcOk : Bool) (seq : BitVec 16) : Statement (.controlFrame crcOk seq) :=
  ⟨.controlFrame crcOk seq, rfl, rfl⟩
theorem statusFrame (crcOk : Bool) (seq : BitVec 16) (body : StatusBody) : Statement (.statusFrame crcOk seq body) :=
  ⟨.statusFrame crcOk seq body, rfl, rfl⟩
theorem safeExit : Statement .safeExit := ⟨.safeExit, rfl, rfl⟩
theorem hdieLinkRestored : Statement .hdieLinkRestored := ⟨.hdieLinkRestored, rfl, rfl⟩
theorem hdieLinkTimeout : Statement .hdieLinkTimeout := ⟨.hdieLinkTimeout, rfl, rfl⟩
theorem englinkLoss : Statement .englinkLoss := ⟨.englinkLoss, rfl, rfl⟩
theorem englinkRecovered : Statement .englinkRecovered := ⟨.englinkRecovered, rfl, rfl⟩
theorem hdieSelfReset : Statement .hdieSelfReset := ⟨.hdieSelfReset, rfl, rfl⟩
theorem fwdClockLow : Statement .fwdClockLow := ⟨.fwdClockLow, rfl, rfl⟩
theorem engRel (m : Master) : Statement (.engRel m) := ⟨.engRel m, rfl, rfl⟩
theorem ldCurrentTrip (b : Fin 4) : Statement (.ldCurrentTrip b) := ⟨.ldCurrentTrip b, rfl, rfl⟩
theorem ldOntimeTrip (b : Fin 4) : Statement (.ldOntimeTrip b) := ⟨.ldOntimeTrip b, rfl, rfl⟩
theorem htrDutyHold (h : Fin 2) : Statement (.htrDutyHold h) := ⟨.htrDutyHold h, rfl, rfl⟩
theorem htrStuckTrip (h : Fin 2) : Statement (.htrStuckTrip h) := ⟨.htrStuckTrip h, rfl, rfl⟩
theorem tsfTrip (mv : BitVec 12) : Statement (.tsfTrip mv) := ⟨.tsfTrip mv, rfl, rfl⟩
theorem phaseCurrentTrip (k : Fin 6) : Statement (.phaseCurrentTrip k) := ⟨.phaseCurrentTrip k, rfl, rfl⟩
theorem hvOvervoltTrip (c : Fin 3) : Statement (.hvOvervoltTrip c) := ⟨.hvOvervoltTrip c, rfl, rfl⟩
theorem overspeedTrip (k : Fin 6) : Statement (.overspeedTrip k) := ⟨.overspeedTrip k, rfl, rfl⟩
theorem graceExpire (f : BitVec 8) : Statement (.graceExpire f) := ⟨.graceExpire f, rfl, rfl⟩
theorem fhAck (m : Master) (f : BitVec 8) : Statement (.fhAck m f) := ⟨.fhAck m f, rfl, rfl⟩
theorem fhClear (m : Master) (f : BitVec 8) : Statement (.fhClear m f) := ⟨.fhClear m f, rfl, rfl⟩
theorem fhRaise (m : Master) (f : BitVec 8) : Statement (.fhRaise m f) := ⟨.fhRaise m f, rfl, rfl⟩
theorem feClear (m : Master) : Statement (.feClear m) := ⟨.feClear m, rfl, rfl⟩
theorem parityScan (bad : Option (BitVec 8 × BitVec 16)) : Statement (.parityScan bad) := ⟨.parityScan bad, rfl, rfl⟩
theorem vinStart : Statement .vinStart := ⟨.vinStart, rfl, rfl⟩
theorem softStartDone : Statement .softStartDone := ⟨.softStartDone, rfl, rfl⟩
theorem vauxGood : Statement .vauxGood := ⟨.vauxGood, rfl, rfl⟩
theorem aoPorRelease : Statement .aoPorRelease := ⟨.aoPorRelease, rfl, rfl⟩
theorem brownOut : Statement .brownOut := ⟨.brownOut, rfl, rfl⟩
theorem pfw : Statement .pfw := ⟨.pfw, rfl, rfl⟩
theorem vinHighCross (above : Bool) : Statement (.vinHighCross above) := ⟨.vinHighCross above, rfl, rfl⟩
theorem vregenRise : Statement .vregenRise := ⟨.vregenRise, rfl, rfl⟩
theorem vregenFall : Statement .vregenFall := ⟨.vregenFall, rfl, rfl⟩
theorem vauxLowCross (below : Bool) : Statement (.vauxLowCross below) := ⟨.vauxLowCross below, rfl, rfl⟩
theorem aoSwitchToVbkp : Statement .aoSwitchToVbkp := ⟨.aoSwitchToVbkp, rfl, rfl⟩
theorem aoSwitchToVaux : Statement .aoSwitchToVaux := ⟨.aoSwitchToVaux, rfl, rfl⟩
theorem vbkpLowCross (below : Bool) : Statement (.vbkpLowCross below) := ⟨.vbkpLowCross below, rfl, rfl⟩
theorem vinMonitorSample (vin vaux : BitVec 16) : Statement (.vinMonitorSample vin vaux) :=
  ⟨.vinMonitorSample vin vaux, rfl, rfl⟩
theorem vinAvgUpdate : Statement .vinAvgUpdate := ⟨.vinAvgUpdate, rfl, rfl⟩
theorem domainSwitchClose (d : Fin 50) : Statement (.domainSwitchClose d) := ⟨.domainSwitchClose 2, rfl, rfl⟩
theorem domainGood (d : Fin 50) : Statement (.domainGood d) := ⟨.domainGood 2, rfl, rfl⟩
theorem domainGoodTimeout (d : Fin 50) : Statement (.domainGoodTimeout d) := ⟨.domainGoodTimeout 2, rfl, rfl⟩
theorem domainPgDrop (d : Fin 50) : Statement (.domainPgDrop d) := ⟨.domainPgDrop 2, rfl, rfl⟩
theorem domainSwitchOff (d : Fin 50) : Statement (.domainSwitchOff d) := ⟨.domainSwitchOff 2, rfl, rfl⟩
theorem seqpgRise (r : Fin 12) : Statement (.seqpgRise r) := ⟨.seqpgRise r, rfl, rfl⟩
theorem railSettled (r : Fin 12) : Statement (.railSettled r) := ⟨.railSettled r, rfl, rfl⟩
theorem railTimeout (r : Fin 12) : Statement (.railTimeout r) := ⟨.railTimeout r, rfl, rfl⟩
theorem seqpgDrop (r : Fin 12) : Statement (.seqpgDrop r) := ⟨.seqpgDrop r, rfl, rfl⟩
theorem psReqWrite (m : Master) (hi : Bool) (v : Word) : Statement (.psReqWrite m hi v) :=
  ⟨.psReqWrite m hi v, rfl, rfl⟩
theorem psFailClear (m : Master) (which : PsFailReg) (v : Word) : Statement (.psFailClear m which v) :=
  ⟨.psFailClear m which v, rfl, rfl⟩
theorem tpfwExpire : Statement .tpfwExpire := ⟨.tpfwExpire, rfl, rfl⟩
theorem shutdownEntryDue (target : Byte) : Statement (.shutdownEntryDue target) := ⟨.shutdownEntryDue target, rfl, rfl⟩
theorem trecExpire : Statement .trecExpire := ⟨.trecExpire, rfl, rfl⟩
theorem vinRestored : Statement .vinRestored := ⟨.vinRestored, rfl, rfl⟩
theorem seqHalt : Statement .seqHalt := ⟨.seqHalt, rfl, rfl⟩
theorem nrstPulse (ns : Nat) : Statement (.nrstPulse ns) := ⟨.nrstPulse ns, rfl, rfl⟩
theorem resetOffTimeEnd : Statement .resetOffTimeEnd := ⟨.resetOffTimeEnd, rfl, rfl⟩
theorem keeperWatchdogExpire : Statement .keeperWatchdogExpire := ⟨.keeperWatchdogExpire, rfl, rfl⟩
theorem rstKwdgKick (m : Master) (v : Word) : Statement (.rstKwdgKick m v) := ⟨.rstKwdgKick m v, rfl, rfl⟩
theorem appWatchdogExpire : Statement .appWatchdogExpire := ⟨.appWatchdogExpire, rfl, rfl⟩
theorem rstAwdgKick (m : Master) (v : Word) : Statement (.rstAwdgKick m v) := ⟨.rstAwdgKick m v, rfl, rfl⟩
theorem rstReq (m : Master) (v : Word) : Statement (.rstReq m v) := ⟨.rstReq m v, rfl, rfl⟩
theorem debugReset : Statement .debugReset := ⟨.debugReset, rfl, rfl⟩
theorem rstBlkReq (m : Master) (v : Word) (outs : List Access) : Statement (.rstBlkReq m v outs) :=
  ⟨.rstBlkReq m v outs, rfl, rfl⟩
theorem blockDrainDone (b : Fin 24) : Statement (.blockDrainDone b) := ⟨.blockDrainDone b, rfl, rfl⟩
theorem blockDrainTimeout (b : Fin 24) (outs : List Access) : Statement (.blockDrainTimeout b outs) :=
  ⟨.blockDrainTimeout b outs, rfl, rfl⟩
theorem blockResetRelease (b : Fin 24) : Statement (.blockResetRelease b) := ⟨.blockResetRelease b, rfl, rfl⟩
theorem loaderEntryReady (optrec readErrA readErrB verifyOk : Bool) : Statement (.loaderEntryReady optrec readErrA readErrB verifyOk) :=
  ⟨.loaderEntryReady optrec readErrA readErrB verifyOk, rfl, rfl⟩
theorem loaderEntryTimeout (verifyOk : Bool) : Statement (.loaderEntryTimeout verifyOk) :=
  ⟨.loaderEntryTimeout verifyOk, rfl, rfl⟩
theorem loaderRepairDone (same verifyOk : Bool) : Statement (.loaderRepairDone same verifyOk) :=
  ⟨.loaderRepairDone same verifyOk, rfl, rfl⟩
theorem loaderEnvXferAck : Statement .loaderEnvXferAck := ⟨.loaderEnvXferAck, rfl, rfl⟩
theorem loaderEnvXferTimeout : Statement .loaderEnvXferTimeout := ⟨.loaderEnvXferTimeout, rfl, rfl⟩
theorem loadFailsLimit (verifyOk : Bool) : Statement (.loadFailsLimit verifyOk) := ⟨.loadFailsLimit verifyOk, rfl, rfl⟩
theorem keeperRelease : Statement .keeperRelease := ⟨.keeperRelease, rfl, rfl⟩
theorem bootSocpllWaitEnd : Statement .bootSocpllWaitEnd := ⟨.bootSocpllWaitEnd, rfl, rfl⟩
theorem sinovPowerUp : Statement .sinovPowerUp := ⟨.sinovPowerUp, rfl, rfl⟩
theorem coreRelease (m : Master) (v : Word) : Statement (.coreRelease m v) := ⟨.coreRelease m v, rfl, rfl⟩
theorem holdRel (m : Master) : Statement (.holdRel m) := ⟨.holdRel m, rfl, rfl⟩
theorem ksramDoubleBit (ofs : BitVec 18) : Statement (.ksramDoubleBit ofs) := ⟨.ksramDoubleBit ofs, rfl, rfl⟩
theorem ksramSingleBit (ofs : BitVec 18) : Statement (.ksramSingleBit ofs) := ⟨.ksramSingleBit ofs, rfl, rfl⟩
theorem pllUnlock (p : Fin 4) : Statement (.pllUnlock p) := ⟨.pllUnlock p, rfl, rfl⟩
theorem pllLock (p : Fin 4) : Statement (.pllLock p) := ⟨.pllLock p, rfl, rfl⟩
theorem ckrefLoss : Statement .ckrefLoss := ⟨.ckrefLoss, rfl, rfl⟩
theorem ckrefReturn : Statement .ckrefReturn := ⟨.ckrefReturn, rfl, rfl⟩
theorem clkResume (m : Master) (v : Word) : Statement (.clkResume m v) := ⟨.clkResume m v, rfl, rfl⟩
theorem pixrampResume (m : Master) : Statement (.pixrampResume m) := ⟨.pixrampResume m, rfl, rfl⟩
theorem cpuDivWrite (m : Master) (v : Word) : Statement (.cpuDivWrite m v) := ⟨.cpuDivWrite m v, rfl, rfl⟩
theorem ao32Stop : Statement .ao32Stop := ⟨.ao32Stop, rfl, rfl⟩
theorem rampSegmentEnd : Statement .rampSegmentEnd := ⟨.rampSegmentEnd, rfl, rfl⟩
theorem prCtrlWrite (m : Master) (v : Word) : Statement (.prCtrlWrite m v) := ⟨.prCtrlWrite m v, rfl, rfl⟩
theorem bdEdgeAccept (edge : BdEdge) (mons : List (BitVec 12)) : Statement (.bdEdgeAccept edge mons) :=
  ⟨.bdEdgeAccept edge [0, 0, 0, 0], rfl, rfl⟩
theorem bdEdgeExtra : Statement .bdEdgeExtra := ⟨.bdEdgeExtra, rfl, rfl⟩
theorem bdCheckTimeout : Statement .bdCheckTimeout := ⟨.bdCheckTimeout, rfl, rfl⟩
theorem bdGateClose : Statement .bdGateClose := ⟨.bdGateClose, rfl, rfl⟩
theorem acqPulseStart : Statement .acqPulseStart := ⟨.acqPulseStart, rfl, rfl⟩
theorem lineDueCheck : Statement .lineDueCheck := ⟨.lineDueCheck, rfl, rfl⟩
theorem ldilFall : Statement .ldilFall := ⟨.ldilFall, rfl, rfl⟩
theorem diagLaserPulse (b : Fin 4) : Statement (.diagLaserPulse b) := ⟨.diagLaserPulse b, rfl, rfl⟩
theorem beamEnWrite (m : Master) (v : Word) : Statement (.beamEnWrite m v) := ⟨.beamEnWrite m v, rfl, rfl⟩
theorem videoEnWrite (m : Master) (v : Word) : Statement (.videoEnWrite m v) := ⟨.videoEnWrite m v, rfl, rfl⟩
theorem videoBurstDone : Statement .videoBurstDone := ⟨.videoBurstDone, rfl, rfl⟩
theorem videoBurstError : Statement .videoBurstError := ⟨.videoBurstError, rfl, rfl⟩
theorem motStart (m : Master) (k : Fin 6) : Statement (.motStart m k) := ⟨.motStart m k, rfl, rfl⟩
theorem motStop (m : Master) (k : Fin 6) (mode : BitVec 2) : Statement (.motStop m k mode) :=
  ⟨.motStop m k mode, rfl, rfl⟩
theorem speedRegTick (k : Fin 6) (rpm : BitVec 16) (delta : Word) (inputs : MotInputs) :
    Statement (.speedRegTick k rpm delta inputs) := ⟨.speedRegTick k rpm delta inputs, rfl, rfl⟩
theorem alignDone (k : Fin 6) : Statement (.alignDone k) := ⟨.alignDone k, rfl, rfl⟩
theorem learnDone (k : Fin 6) (cpr : Nat) : Statement (.learnDone k cpr) := ⟨.learnDone k cpr, rfl, rfl⟩
theorem zEdgeMisplaced (k : Fin 6) : Statement (.zEdgeMisplaced k) := ⟨.zEdgeMisplaced k, rfl, rfl⟩
theorem encoderAbError (k : Fin 6) : Statement (.encoderAbError k) := ⟨.encoderAbError k, rfl, rfl⟩
theorem resolverOutOfRange (k : Fin 6) : Statement (.resolverOutOfRange k) := ⟨.resolverOutOfRange k, rfl, rfl⟩
theorem stallDetected (k : Fin 6) : Statement (.stallDetected k) := ⟨.stallDetected k, rfl, rfl⟩
theorem bootstrapLow (k : Fin 6) (leg : Fin 3) : Statement (.bootstrapLow k leg) := ⟨.bootstrapLow k leg, rfl, rfl⟩
theorem highSideMaxOn (k : Fin 6) (leg : Fin 3) : Statement (.highSideMaxOn k leg) := ⟨.highSideMaxOn k leg, rfl, rfl⟩
theorem bootstrapRefreshEnd (k : Fin 6) (leg : Fin 3) : Statement (.bootstrapRefreshEnd k leg) :=
  ⟨.bootstrapRefreshEnd k leg, rfl, rfl⟩
theorem brakeEntry (k : Fin 6) : Statement (.brakeEntry k) := ⟨.brakeEntry k, rfl, rfl⟩
theorem brakeToOff (k : Fin 6) : Statement (.brakeToOff k) := ⟨.brakeToOff k, rfl, rfl⟩
theorem atSpeedLoss (k : Fin 6) : Statement (.atSpeedLoss k) := ⟨.atSpeedLoss k, rfl, rfl⟩
theorem cmdPinStuck (k : Fin 6) : Statement (.cmdPinStuck k) := ⟨.cmdPinStuck k, rfl, rfl⟩
theorem mediaJamDetect (k : Fin 6) : Statement (.mediaJamDetect k) := ⟨.mediaJamDetect k, rfl, rfl⟩
theorem hdieVinSample (mv : Nat) : Statement (.hdieVinSample mv) := ⟨.hdieVinSample mv, rfl, rfl⟩
theorem loopSlotSample (n : Fin 32) : Statement (.loopSlotSample n) := ⟨.loopSlotSample n, rfl, rfl⟩
theorem leCommitGo (m : Master) : Statement (.leCommitGo m) := ⟨.leCommitGo m, rfl, rfl⟩
theorem scheduleApply : Statement .scheduleApply := ⟨.scheduleApply, rfl, rfl⟩
theorem loopDwellExpire (n : Fin 32) : Statement (.loopDwellExpire n) := ⟨.loopDwellExpire n, rfl, rfl⟩
theorem heaterPeriodStart (h : Fin 2) : Statement (.heaterPeriodStart h) := ⟨.heaterPeriodStart h, rfl, rfl⟩
theorem heaterConductionEnd (h : Fin 2) (mean : BitVec 16) : Statement (.heaterConductionEnd h mean) :=
  ⟨.heaterConductionEnd h mean, rfl, rfl⟩
theorem syEvaluation (meas : List Nat) : Statement (.syEvaluation meas) := ⟨.syEvaluation (List.replicate 12 0), rfl, rfl⟩
theorem throttleDwellExpire (t : Fin 12) : Statement (.throttleDwellExpire t) := ⟨.throttleDwellExpire t, rfl, rfl⟩
theorem sensorDisagreeSet (t : Fin 8) : Statement (.sensorDisagreeSet t) := ⟨.sensorDisagreeSet t, rfl, rfl⟩
theorem sensorDisagreeClear (t : Fin 8) : Statement (.sensorDisagreeClear t) := ⟨.sensorDisagreeClear t, rfl, rfl⟩
theorem tsSample (readings : List (Nat × Nat)) : Statement (.tsSample readings) := ⟨.tsSample (List.replicate 8 (0, 0)), rfl, rfl⟩
theorem syEnable (m : Master) (v : Word) : Statement (.syEnable m v) := ⟨.syEnable m v, rfl, rfl⟩
theorem forecastGo (m : Master) : Statement (.forecastGo m) := ⟨.forecastGo m, rfl, rfl⟩
theorem forecastDone : Statement .forecastDone := ⟨.forecastDone, rfl, rfl⟩
theorem hdieHotCross (above : Bool) : Statement (.hdieHotCross above) := ⟨.hdieHotCross above, rfl, rfl⟩
theorem tlCommitOp (m : Master) (rsvOk : Bool) : Statement (.tlCommitOp m rsvOk) := ⟨.tlCommitOp m rsvOk, rfl, rfl⟩
theorem tlCommitDone (ok : Bool) : Statement (.tlCommitDone ok) := ⟨.tlCommitDone ok, rfl, rfl⟩
theorem tillStopped : Statement .tillStopped := ⟨.tillStopped, rfl, rfl⟩
theorem tlReleaseOp (m : Master) (rsvOk : Bool) : Statement (.tlReleaseOp m rsvOk) := ⟨.tlReleaseOp m rsvOk, rfl, rfl⟩
theorem tlReleaseDone : Statement .tlReleaseDone := ⟨.tlReleaseDone, rfl, rfl⟩
theorem tlScanOp (m : Master) : Statement (.tlScanOp m) := ⟨.tlScanOp m, rfl, rfl⟩
theorem tlScanDone : Statement .tlScanDone := ⟨.tlScanDone, rfl, rfl⟩
theorem chainBreakFound : Statement .chainBreakFound := ⟨.chainBreakFound, rfl, rfl⟩
theorem chainWalkDone : Statement .chainWalkDone := ⟨.chainWalkDone, rfl, rfl⟩
theorem pairLoRead (m : Master) (addr : BitVec 40) : Statement (.pairLoRead m addr) := ⟨.pairLoRead m addr, rfl, rfl⟩
theorem timeSnapGo (m : Master) : Statement (.timeSnapGo m) := ⟨.timeSnapGo m, rfl, rfl⟩
theorem timeApplyGo (m : Master) : Statement (.timeApplyGo m) := ⟨.timeApplyGo m, rfl, rfl⟩
theorem timeApplyEdge : Statement .timeApplyEdge := ⟨.timeApplyEdge, rfl, rfl⟩
theorem timeLostClrGo (m : Master) : Statement (.timeLostClrGo m) := ⟨.timeLostClrGo m, rfl, rfl⟩
theorem rtcSecond : Statement .rtcSecond := ⟨.rtcSecond, rfl, rfl⟩
theorem rtcAlarmFire : Statement .rtcAlarmFire := ⟨.rtcAlarmFire, rfl, rfl⟩
theorem vretCross : Statement .vretCross := ⟨.vretCross, rfl, rfl⟩
theorem bkpPowerOn : Statement .bkpPowerOn := ⟨.bkpPowerOn, rfl, rfl⟩
theorem shaStart (m : Master) (v : Word) : Statement (.shaStart m v) := ⟨.shaStart m v, rfl, rfl⟩
theorem shaData (m : Master) (v : Word) : Statement (.shaData m v) := ⟨.shaData m v, rfl, rfl⟩
theorem shaFinal (m : Master) (v : Word) : Statement (.shaFinal m v) := ⟨.shaFinal m v, rfl, rfl⟩
theorem shaDone : Statement .shaDone := ⟨.shaDone, rfl, rfl⟩
theorem sign (m : Master) : Statement (.sign m) := ⟨.sign m, rfl, rfl⟩
theorem verify (m : Master) : Statement (.verify m) := ⟨.verify m, rfl, rfl⟩
theorem signDone : Statement .signDone := ⟨.signDone, rfl, rfl⟩
theorem mextGo (m : Master) (v : Word) : Statement (.mextGo m v) := ⟨.mextGo m v, rfl, rfl⟩
theorem cboClean (h : Fin 4) (addr : BitVec 40) : Statement (.cboClean h addr) := ⟨.cboClean h addr, rfl, rfl⟩
theorem cboFlush (h : Fin 4) (addr : BitVec 40) : Statement (.cboFlush h addr) := ⟨.cboFlush h addr, rfl, rfl⟩
theorem cboInval (h : Fin 4) (addr : BitVec 40) : Statement (.cboInval h addr) := ⟨.cboInval h addr, rfl, rfl⟩
theorem l2CleanAll (m : Master) : Statement (.l2CleanAll m) := ⟨.l2CleanAll m, rfl, rfl⟩
theorem l2FlushAll (m : Master) : Statement (.l2FlushAll m) := ⟨.l2FlushAll m, rfl, rfl⟩
theorem l2InvalAll (m : Master) : Statement (.l2InvalAll m) := ⟨.l2InvalAll m, rfl, rfl⟩
theorem l2MaintDone : Statement .l2MaintDone := ⟨.l2MaintDone, rfl, rfl⟩
theorem l2CntClr (m : Master) (v : Word) : Statement (.l2CntClr m v) := ⟨.l2CntClr m v, rfl, rfl⟩
theorem coherenceTurn (bank : Fin 4) (reqs : List CohReq) : Statement (.coherenceTurn bank reqs) :=
  ⟨.coherenceTurn bank reqs, rfl, rfl⟩
theorem wheelSlot (reqs : List WheelReq) : Statement (.wheelSlot reqs) := ⟨.wheelSlot reqs, rfl, rfl⟩
theorem allotmentApply : Statement .allotmentApply := ⟨.allotmentApply, rfl, rfl⟩
theorem fabCntClr (m : Master) (v : Word) : Statement (.fabCntClr m v) := ⟨.fabCntClr m v, rfl, rfl⟩
theorem drCntClr (m : Master) (v : Word) : Statement (.drCntClr m v) := ⟨.drCntClr m v, rfl, rfl⟩
theorem dramRefresh : Statement .dramRefresh := ⟨.dramRefresh, rfl, rfl⟩
theorem dramTrainDone (ok : Bool) : Statement (.dramTrainDone ok) := ⟨.dramTrainDone ok, rfl, rfl⟩
theorem licLevelChange : Statement .licLevelChange := ⟨.licLevelChange, rfl, rfl⟩
theorem ctxEnter (m : Master) (app : Bool) (c : Fin 8) (id : BitVec 10) : Statement (.ctxEnter m app c id) :=
  ⟨.ctxEnter m true c id, rfl, rfl⟩
theorem ctxExit (m : Master) (app : Bool) (c : Fin 8) (v : Word) : Statement (.ctxExit m app c v) :=
  ⟨.ctxExit m true c v, rfl, rfl⟩
theorem licSwiSet (m : Master) (app : Bool) (v : Word) : Statement (.licSwiSet m app v) :=
  ⟨.licSwiSet m app v, rfl, rfl⟩
theorem licSwiClear (m : Master) (app : Bool) (v : Word) : Statement (.licSwiClear m app v) :=
  ⟨.licSwiClear m app v, rfl, rfl⟩
theorem mtimecmpWrite (m : Master) (app : Bool) (h : Fin 4) (hi : Bool) (v : Word) : Statement (.mtimecmpWrite m app h hi v) :=
  ⟨.mtimecmpWrite m true h hi v, rfl, rfl⟩
theorem mtimerFire (app : Bool) (h : Fin 4) : Statement (.mtimerFire app h) := ⟨.mtimerFire true h, rfl, rfl⟩
theorem barrowStart (m : Master) (app : Bool) (ch : Fin 16) (v : Word) : Statement (.barrowStart m app ch v) :=
  ⟨.barrowStart m true ch v, rfl, rfl⟩
theorem barrowStop (m : Master) (app : Bool) (ch : Fin 16) (v : Word) : Statement (.barrowStop m app ch v) :=
  ⟨.barrowStop m true ch v, rfl, rfl⟩
theorem bwStopall (m : Master) (app : Bool) (v : Word) : Statement (.bwStopall m app v) :=
  ⟨.bwStopall m app v, rfl, rfl⟩
theorem barrowRequestDone (app : Bool) (ch : Fin 16) : Statement (.barrowRequestDone app ch) :=
  ⟨.barrowRequestDone true ch, rfl, rfl⟩
theorem barrowErrorResponse (app : Bool) (ch : Fin 16) (onWrite : Bool) : Statement (.barrowErrorResponse app ch onWrite) :=
  ⟨.barrowErrorResponse true ch onWrite, rfl, rfl⟩
theorem outValWrite (m : Master) (b : Fin 4) (v : Word) : Statement (.outValWrite m b v) :=
  ⟨.outValWrite m b v, rfl, rfl⟩
theorem outSet (m : Master) (b : Fin 4) (v : Word) : Statement (.outSet m b v) := ⟨.outSet m b v, rfl, rfl⟩
theorem outClr (m : Master) (b : Fin 4) (v : Word) : Statement (.outClr m b v) := ⟨.outClr m b v, rfl, rfl⟩
theorem outTgl (m : Master) (b : Fin 4) (v : Word) : Statement (.outTgl m b v) := ⟨.outTgl m b v, rfl, rfl⟩
theorem lockKeyWrite (m : Master) (b : Fin 4) (v : Word) : Statement (.lockKeyWrite m b v) :=
  ⟨.lockKeyWrite m b v, rfl, rfl⟩
theorem lockMaskWrite (m : Master) (b : Fin 4) (v : Word) : Statement (.lockMaskWrite m b v) :=
  ⟨.lockMaskWrite m b v, rfl, rfl⟩
theorem gpioPinChange (b : Fin 4) (pin : Fin 32) (level : Bool) : Statement (.gpioPinChange b pin level) :=
  ⟨.gpioPinChange 0 pin level, rfl, rfl⟩
theorem wakePin : Statement .wakePin := ⟨.wakePin, rfl, rfl⟩
theorem spiCtrlWrite (m : Master) (i : Fin 4) (v : Word) : Statement (.spiCtrlWrite m i v) :=
  ⟨.spiCtrlWrite m i v, rfl, rfl⟩
theorem spiTxWrite (m : Master) (i : Fin 4) (v : Word) : Statement (.spiTxWrite m i v) := ⟨.spiTxWrite m i v, rfl, rfl⟩
theorem spiRxRead (m : Master) (i : Fin 4) : Statement (.spiRxRead m i) := ⟨.spiRxRead m i, rfl, rfl⟩
theorem spiGo (m : Master) (i : Fin 4) (v : Word) : Statement (.spiGo m i v) := ⟨.spiGo m i v, rfl, rfl⟩
theorem spiRawDone (i : Fin 4) (rx : List Word) : Statement (.spiRawDone i rx) := ⟨.spiRawDone i rx, rfl, rfl⟩
theorem spiSafeFrameDone (i : Fin 4) (rx : List Byte) (bits : Nat) : Statement (.spiSafeFrameDone i rx bits) :=
  ⟨.spiSafeFrameDone i rx 0, rfl, rfl⟩
theorem hspiWriteReq (cs : Fin 2) (alive : Option (BitVec 4)) (ofs : Byte) (data : List Byte) : Statement (.hspiWriteReq cs alive ofs data) :=
  ⟨.hspiWriteReq 0 none ofs data, rfl, rfl⟩
theorem hspiReadRpl (cs : Fin 2) (alive : Option (BitVec 4)) (ofs : Byte) (count : Nat) : Statement (.hspiReadRpl cs alive ofs count) :=
  ⟨.hspiReadRpl 0 none ofs count, rfl, rfl⟩
theorem hspiDoorbell (cs : Fin 2) (alive : Option (BitVec 4)) (v : Byte) : Statement (.hspiDoorbell cs alive v) :=
  ⟨.hspiDoorbell 0 none v, rfl, rfl⟩
theorem hspiRegRead (ofs : BitVec 16) : Statement (.hspiRegRead ofs) := ⟨.hspiRegRead ofs, rfl, rfl⟩
theorem hspiRegWrite (ofs : BitVec 16) (v : Word) : Statement (.hspiRegWrite ofs v) := ⟨.hspiRegWrite ofs v, rfl, rfl⟩
theorem hspiNop (cs : Fin 2) (alive : BitVec 4) : Statement (.hspiNop cs alive) := ⟨.hspiNop cs alive, rfl, rfl⟩
theorem hspiBadFrame (cs : Fin 2) : Statement (.hspiBadFrame cs) := ⟨.hspiBadFrame cs, rfl, rfl⟩
theorem hspiClash : Statement .hspiClash := ⟨.hspiClash, rfl, rfl⟩
theorem hsCfgApply : Statement .hsCfgApply := ⟨.hsCfgApply, rfl, rfl⟩
theorem hspiWake : Statement .hspiWake := ⟨.hspiWake, rfl, rfl⟩
theorem ethCtrlWrite (m : Master) (i : Fin 2) (v : Word) : Statement (.ethCtrlWrite m i v) :=
  ⟨.ethCtrlWrite m i v, rfl, rfl⟩
theorem ethTxFrame (i : Fin 2) : Statement (.ethTxFrame i) := ⟨.ethTxFrame i, rfl, rfl⟩
theorem ethRxFrame (i : Fin 2) (frame : List Byte) (fcsOk : Bool) : Statement (.ethRxFrame i frame fcsOk) :=
  ⟨.ethRxFrame i (List.replicate 14 0) fcsOk, rfl, rfl⟩
theorem ethBusError (i : Fin 2) (rx : Bool) : Statement (.ethBusError i rx) := ⟨.ethBusError i rx, rfl, rfl⟩
theorem ptpSet (m : Master) (i : Fin 2) : Statement (.ptpSet m i) := ⟨.ptpSet m i, rfl, rfl⟩
theorem ptpStep (m : Master) (i : Fin 2) : Statement (.ptpStep m i) := ⟨.ptpStep m i, rfl, rfl⟩
theorem ppsRise (i : Fin 2) : Statement (.ppsRise i) := ⟨.ppsRise i, rfl, rfl⟩
theorem ppsFall (i : Fin 2) : Statement (.ppsFall i) := ⟨.ppsFall i, rfl, rfl⟩
theorem tscapEdge (i : Fin 2) : Statement (.tscapEdge i) := ⟨.tscapEdge i, rfl, rfl⟩
theorem mdioFrame (m : Master) (i : Fin 2) (v : Word) : Statement (.mdioFrame m i v) := ⟨.mdioFrame m i v, rfl, rfl⟩
theorem mdioDone (i : Fin 2) (data : BitVec 16) : Statement (.mdioDone i data) := ⟨.mdioDone i data, rfl, rfl⟩
theorem xsErase64k (m : Master) : Statement (.xsErase64k m) := ⟨.xsErase64k m, rfl, rfl⟩
theorem xsProgram (m : Master) : Statement (.xsProgram m) := ⟨.xsProgram m, rfl, rfl⟩
theorem xsOpDone (ok : Bool) : Statement (.xsOpDone ok) := ⟨.xsOpDone ok, rfl, rfl⟩
theorem xsReadSuspend : Statement .xsReadSuspend := ⟨.xsReadSuspend, rfl, rfl⟩
theorem trcClr (m : Master) (v : Word) : Statement (.trcClr m v) := ⟨.trcClr m v, rfl, rfl⟩
theorem dmiAccessRegister (m : Master) (cmd : Word) : Statement (.dmiAccessRegister m cmd) :=
  ⟨.dmiAccessRegister m cmd, rfl, rfl⟩
theorem dmiAccessMemory (m : Master) (cmd : Word) : Statement (.dmiAccessMemory m cmd) := ⟨.dmiAccessMemory m cmd, rfl, rfl⟩
theorem registerWrite (m : Master) (addr : BitVec 40) (size : BitVec 3) (v : Word) : Statement (.registerWrite m addr size v) :=
  ⟨.registerWrite m addr size v, rfl, rfl⟩
theorem ldilRise : Statement .ldilRise := ⟨.ldilRise, rfl, rfl⟩
theorem bdGateOpen : Statement .bdGateOpen := ⟨.bdGateOpen, rfl, rfl⟩
theorem acqPulseEnd : Statement .acqPulseEnd := ⟨.acqPulseEnd, rfl, rfl⟩
theorem ckAo32Restart : Statement .ckAo32Restart := ⟨.ckAo32Restart, rfl, rfl⟩
theorem vddAoInvalid : Statement .vddAoInvalid := ⟨.vddAoInvalid, rfl, rfl⟩
theorem ckPwmCycle (k : Fin 6) (shunts : List Int) : Statement (.ckPwmCycle k shunts) :=
  ⟨.ckPwmCycle k [0, 0, 0], rfl, rfl⟩
theorem hvEnvelopeInhibit (c : Fin 3) (on : Bool) : Statement (.hvEnvelopeInhibit c on) := ⟨.hvEnvelopeInhibit c on, rfl, rfl⟩

end Sys2Proof.Laws.WellFormed
end

