-- ==== Sys2Proof/Tests/Slice0.lean ====
section
/-! SUPPORT. Our own tests: ill-formed commands, values that the manual prints, its worked examples, single steps; and
for each obligation with hypotheses a witness that they can hold together, clause by clause. -/

open Sys2Proof Sys2Proof.Machine

namespace Sys2Proof.Tests

set_option maxRecDepth 4000
/- Each theorem here waits for the kernel; one at a time they need one thread. -/
set_option Elab.async false

/-! ## States to start from -/

/-- Every domain on, no block in reset, Sinov running, READY. -/
def up (s : State) : State := { s with
  ps := { s.ps with on := BitVec.allOnes 50, phase := .run, nPFW := false, offCause := .none, runPhase := true }
  rst := { s.rst with step := .running, blk := Vector.replicate 24 .none }
  sys := { s.sys with mode := 2, minset := false }
  supply := { s.supply with aoValid := true, aoPor := true }
  hold := [] }
/-- No page in flight, every fault of class NONE, nothing raised, no record wanted, no counter busy. -/
def calm (s : State) : State := { s with
  docket := { s.docket with st := .idle, facetOpen := false, spoil := false, arm := false }
  hub := { s.hub with cfg := Vector.replicate 256 0, timerCfg := Vector.replicate 256 0, raised := 0, present := 0, expired := 0 }
  ps := { s.ps with pfwSeen := false }
  rst := { s.rst with fresh := false }
  till := { s.till with tornRun := 0, stopped := false, scanned := false }
  sinov := { s.sinov with wants := [], inEngine := false, served := [], after := none, admission := none, admitWait := none, page := none }
  counters := s.counters.map fun c => { c with stage := .idle, frame := .none, stale := false, stored := none }
  windows := [] }
/-- Counter n TAKEN with a ready frame of command `code` and payload p. -/
def frame (n : Fin 8) (code : Nat) (p : List Byte) (s : State) : State :=
  let hd := toLe (BitVec.ofNat 16 code) 2 ++ [5, 0] ++ toLe (BitVec.ofNat 16 p.length) 2 ++ [BitVec.ofNat 8 n.val, 0]
    ++ toLe (0x12345678 : Word) 4
  let bs := hd ++ toLe (frameCrc hd p) 4 ++ p
  queueFrame n (cntMod n (fun c => { c with req := Vector.ofFn fun i => bs.getD i.val 0, stage := .taken, frame := .ready false }) s)
/-- The same in mode m. -/
def inMode (m : BitVec 2) (s : State) : State := { s with sys := { s.sys with mode := m } }
/-- Counter n in a stage. -/
def stg (n : Fin 8) (x : CntStage) (s : State) : State := cntMod n (fun c => { c with stage := x }) s
/-- The condition of level source f present. -/
def pres (f : Byte) (s : State) : State := { s with hub := { s.hub with present := setBit s.hub.present f.toNat true } }
/-- Fault f RAISED. -/
def raised (f : Byte) (s : State) : State := { s with hub := { s.hub with raised := setBit s.hub.raised f.toNat true } }
/-- Records free in the Till. -/
def till (s : State) : State := { s with till := { s.till with scanned := true, head := 20, oldest := 5, next := 21, free := 1000, rsv := 0, stopped := false } }
/-- The docket in a state. -/
def dk (x : DkState) (s : State) : State := { s with docket := { s.docket with st := x } }
/-- Admission of a page by counter n under handle h. -/
def adm (n : Fin 8) (h : BitVec 16) : Admission := { handle := h, counter := n, desc := [], report := [] }
/-- A lawful SET_MOTOR configuration. -/
def motCfg : MotorCfg :=
  { stopped := false, startDue := false, src := 0, facets := 0, stopMode := false, speed := 1000, accel := 100, decel := 100, iLimit := 10, iPeak := 20, dump := false, page := false, pos := 0, pp := 1 }
/-- The ROM safe record as SEQ 9, with its CRC-32C. -/
def goodRec : Vector Byte 512 :=
  let r := romRecord.take 4 ++ [9,0,0,0] ++ (romRecord.drop 8).take 0x1F4
  let r := r ++ toLe (crc32c r) 4
  Vector.ofFn fun i => r.getD i.val 0
/-- The body of a status frame of the H-die. -/
def sBody : StatusBody := { limit := 5, present := 0, adc := [], estimate := 0 }
/-- A valid option record, all zero but its MAGIC and CRC, as copy A (false) or B (true) in MRAM. -/
def recAt (b : Bool) (s : State) : State :=
  memPut (memPut s (copyAddr b) (toLe (0x44470301 : Word) 4)) (copyAddr b + 508) (toLe (0x024B14C5 : Word) 4)
/-- The option loader in ENTRY. -/
def entry (s : State) : State := { s with loader := { s.loader with st := .entry, outcome := none }, rst := { s.rst with loadFails := 1 } }
/-- An empty slot of the facet buffer. -/
def lslot : LineSlot := { line := 0, bytes := [], full := false, bad := false }
/-- A record wanted, with an empty body. -/
def dumWant : Want := { typ := 0, subtype := 0, counter := 0, hostWord := 0, body := [], rsvOk := false, release := none, cont := .none }
/-- A DOORBELL frame with its CRC-16. -/
def goodFrame : List Byte :=
  let b : List Byte := [5, 1, 2, 3, 4, 5]
  b ++ [BitVec.ofNat 8 ((crc16 b).toNat / 256), BitVec.ofNat 8 (crc16 b).toNat]
/-- An address within DRAM. -/
def segA : Nat := 100 + 5 * 4096

/-- The H-die out of its safe state, its envelope loaded, nothing latched. -/
def live (s : State) : State := { s with
  hdie := { s.hdie with safe := false, loaded := true, powered := true, pfwCut := false, mOff := 0, mFast := 0, ldOff := 0, ldOnOff := false }
  rst := { s.rst with engHold := false } }

/-- A lawful descriptor: 600 dpi, one beam, 1,300 pixels, 100 lines at 100 mm/s, media channel 1. -/
def page : List Byte := toLe (7 : Word) 4 ++ toLe (600 : BitVec 16) 2 ++ [1, 1] ++ toLe (1300 : Word) 4 ++ toLe (192 : Word) 4
  ++ toLe (100 : Word) 4 ++ toLe (0x80000000 : BitVec 64) 8 ++ toLe (100 : BitVec 16) 2 ++ [0, 1, 3, 0, 0, 0]
  ++ toLe (1000 : Word) 4 ++ toLe (1000 : Word) 4 ++ [0, 0, 0, 0]
/-- The device configured for that page. -/
def ready (s : State) : State := { s with
  sinov := { s.sinov with
    motor := (Vector.replicate 6 none).set 0 (some { motCfg with facets := 6, speed := 23622 }) |>.set 1 (some motCfg)
    laser := Vector.replicate 4 (some { en := true, plog := 3, power := 5, iCeil := 9, delay := 0 })
    profile := Vector.replicate 8 (some [4000, 4000]) }
  motors := (Vector.replicate 6 Motor.reset).set 0 { Motor.reset with en := true, cprValid := true, atSpeed := true }
    |>.set 1 { Motor.reset with en := true, cprValid := true, page := true }
  envg := { s.envg with shadow := { s.envg.shadow with mRpm := Vector.replicate 6 48000, mI := Vector.replicate 6 500 } }
  beam := { s.beam with bdBeam := 0, intlk := true }
  fabric := { s.fabric with allotV := 8 }
  loops := LoopEng.reset
  till := { s.till with free := 1000, rsv := 0, scanned := false }
  sy := { s.sy with run := true, nodes := Vector.replicate 16 Node.reset, fc := { s.sy.fc with busy := false, armed := false, steps := Vector.replicate 4 2 } }
  ps := { s.ps with holdDecl := 480, pfwCfg := 9, vinAvg := 13000 } }


/-! ## Ill-formed commands are refused: one for each check of `Instr.wf` -/

theorem test_wf_keeper_has_eight_channels :
    (Instr.barrowStop .keeper false 8 2).wf = false ∧ (Instr.barrowStop .keeper false 7 2).wf = true ∧
    (Instr.barrowStart .keeper false 8 1).wf = false ∧ (Instr.barrowRequestDone false 8).wf = false ∧
    (Instr.barrowErrorResponse false 8 true).wf = false ∧ (Instr.barrowStart (.acore 0) true 15 1).wf = true := by decide
theorem test_wf_keeper_has_one_context :
    (Instr.ctxEnter .keeper false 1 1).wf = false ∧ (Instr.ctxExit .keeper false 1 1).wf = false ∧
    (Instr.mtimecmpWrite .keeper false 1 true 0).wf = false ∧ (Instr.mtimerFire false 1).wf = false ∧
    (Instr.mtimerFire true 3).wf = true := by decide
theorem test_wf_gpd_has_24_pins :
    (Instr.gpioPinChange 3 24 true).wf = false ∧ (Instr.gpioPinChange 3 23 true).wf = true ∧
    (Instr.gpioPinChange 2 31 true).wf = true := by decide
theorem test_wf_domains_0_and_1_are_not_sequenced :
    (Instr.domainGood 1).wf = false ∧ (Instr.domainSwitchClose 0).wf = false ∧ (Instr.domainGoodTimeout 1).wf = false ∧
    (Instr.domainPgDrop 1).wf = false ∧ (Instr.domainSwitchOff 1).wf = false ∧ (Instr.domainGood 2).wf = true := by decide
theorem test_wf_samples_are_complete :
    (Instr.bdEdgeAccept ⟨false, true, 9⟩ [0, 0, 0]).wf = false ∧ (Instr.ckPwmCycle 0 []).wf = false ∧ (Instr.tsSample []).wf = false ∧
    (Instr.syEvaluation []).wf = false ∧ (Instr.bdEdgeAccept ⟨false, true, 9⟩ [0, 0, 0, 0]).wf = true := by decide
theorem test_wf_second_select_is_safe_only :
    (Instr.hspiWriteReq 1 none 0 [1]).wf = false ∧ (Instr.hspiReadRpl 1 none 0 1).wf = false ∧
    (Instr.hspiDoorbell 1 none 1).wf = false ∧ (Instr.hspiWriteReq 1 (some 3) 0 [1]).wf = true ∧
    (Instr.hspiWriteReq 0 (some 3) 0 (List.replicate 59 0)).wf = false := by decide
theorem test_wf_ethernet_header_is_whole :
    (Instr.ethRxFrame 0 (List.replicate 13 0) true).wf = false ∧
    (Instr.ethRxFrame 0 (List.replicate 14 0) true).wf = true := by decide
theorem test_wf_safe_frame_bits_were_received :
    (Instr.spiSafeFrameDone 0 [0] 9).wf = false ∧ (Instr.spiSafeFrameDone 0 [0] 8).wf = true := by decide

/-! ## Check values that the manual prints -/

/-- "123456789" in ASCII. -/
def nineDigits : List Byte := [0x31, 0x32, 0x33, 0x34, 0x35, 0x36, 0x37, 0x38, 0x39]

/-- R87. -/
theorem test_crc32c_check_value : crc32c nineDigits = 0xE306_9283 := by decide +kernel
/-- R459. -/
theorem test_crc16_check_value : crc16 nineDigits = 0x29B1 := by decide +kernel
/-- FIPS 180-4, the message "abc". -/
theorem test_sha256_of_abc : (sha256 [0x61, 0x62, 0x63]).take 4 = [0xBA, 0x78, 0x16, 0xBF] := by decide +kernel
/-- The worked example of 00_scope. -/
theorem test_register_address : regAddr 0x2F 0x40 = 0x00_402F_0040 := by decide

/-! ## Registers at reset: the reset column of the register tables -/

/-- R507, R199, 07 (RST_CAUSE), 08 (clocks and ramp). -/
theorem test_reset_system_and_clocks :
    ([(0, 0), (0, 0x1C), (1, 0), (1, 8), (2, 0), (4, 4), (4, 0x10), (4, 0x20), (5, 4), (5, 8)].map
      fun p => regVal p.1 p.2 State.reset) =
    ([0x4860, 0x1800_0031, 1, 3, 1, 0xF, 4, 0x0080_80A0, 2, 0x0001_0250] : List Word) := by decide +kernel
/-- R110, R163, R83, 14 and 17. -/
theorem test_reset_hub_counters_and_ports :
    ([(6, 0x64), (6, 0x88), (8, 0x204), (0x0D, 8), (0x0F, 4), (0x26, 0), (0x27, 0), (0x27, 4), (0x2B, 0), (0x2C, 0xC0),
      (0x2E, 0x18)].map fun p => regVal p.1 p.2 State.reset) =
    ([1, 0xFF, 0x20, 8, 0x800, 0x100, 0x1F00, 1, 0x2000, 0x64, 0xFF] : List Word) := by decide +kernel
/-- 02, 09, 10, 12 and 13. -/
theorem test_reset_engine_units :
    ([(0x2F, 0x0C), (0x2F, 0x18), (0x10, 0), (0x10, 0x24), (0x10, 0x2C), (0x11, 0), (0x11, 0x14), (0x11, 0x20),
      (0x11, 0x40), (0x12, 0), (0x12, 0x24), (0x12, 0x28), (0x1C, 0x108), (0x1E, 0x30)].map
      fun p => regVal p.1 p.2 State.reset) =
    ([1, 0xFFFF_FFFF, 0x10, 0x640, 0xFFFF_FFFF, 0x10, 0x00C8_1414, 0x0010_0B06, 0x200, 0x1_0000, 0x1400_0A00, 0x1_0000,
      0x7FFF, 0xFF00] : List Word) := by decide +kernel

/-! ## The worked examples: the admitted page -/

/-- The page of 02: 4 beams, 1,200 dpi, 3,584 pixels at 2 bpp in lines of 896 bytes, SPEED 320 mm/s, profile 0, motors 0
and 3. -/
def workedPage : List Byte := toLe (1 : Word) 4 ++ toLe (1200 : BitVec 16) 2 ++ [2, 4] ++ toLe (3584 : Word) 4
  ++ toLe (896 : Word) 4 ++ toLe (7088 : Word) 4 ++ toLe (0x8000_0000 : BitVec 64) 8 ++ toLe (320 : BitVec 16) 2
  ++ [0, 3, 9, 0, 0, 0] ++ toLe (12000 : Word) 4 ++ toLe (30000 : Word) 4 ++ List.replicate 4 0

/-- The device of 02 and 08: two VIDEO slots, the facet profile of 08, the loops of 11, M0 of 8 facets and M3. -/
def workedDevice (s : State) : State :=
  let loop (p : BitVec 4) (l : Loop) : Loop := { l with en := true, plog := p, comEn := true, comPlog := p }
  let plogs : List (Fin 32 × BitVec 4) :=
    [(0, 8), (1, 8), (2, 5), (3, 5), (4, 5), (5, 4), (6, 4), (7, 4), (8, 4), (9, 7), (10, 7)]
  { s with
    fabric := { s.fabric with allotV := 2 }
    loops := { s.loops with loops := plogs.foldl (fun v p => vmod v p.1 (loop p.2)) s.loops.loops }
    envg := { s.envg with shadow := { s.envg.shadow with
      mRpm := Vector.replicate 6 40000, mI := Vector.replicate 6 2500 } }
    ps := { s.ps with holdDecl := 150, pfwCfg := 25, vinAvg := 47800 }
    sinov := { s.sinov with
      profile := s.sinov.profile.set 0 (some [0x3E_8032, 0xC1_87D0, 0x3E_87D0])
      motor := (s.sinov.motor.set 0 (some { motCfg with facets := 8, speed := 28347, iPeak := 0 })).set 3
        (some { motCfg with iPeak := 1600, speed := 200, accel := 10000 }) } }

/-- The margins of A1-A4 and A7 (02). -/
theorem test_worked_admission_margins :
    let s := workedDevice State.reset
    let d := descOf workedPage
    ([checkA1 s d, checkA2 s d, checkA3 s d, checkA4 s d, checkA7 s].map fun xs => itemMargin (reported xs)) =
    [186454, 243063, 648, 11653, 6000] := by decide +kernel
/-- The second item of A7 (02), and both items of the 24 V bus (06). -/
theorem test_worked_hold_up_margins :
    (checkA7 (workedDevice State.reset)).map itemMargin = [6000, 26800] ∧
    (checkA7 { State.reset with ps := { State.reset.ps with holdDecl := 126, pfwCfg := 25, vinAvg := 24000 } }).map
      itemMargin = [1968, 3000] := by decide +kernel
/-- PXDIV 5, PDIV code 2 and the feedback word 71 + 713,032 / 2^20 (08). -/
theorem test_worked_facet_profile :
    let s := workedDevice State.reset
    let d := descOf workedPage
    pixelDividers s d = some (5, 2) ∧ vcoWord s d 5 2 = 0x47 * 2 ^ 20 + 0xA_E148 := by decide +kernel
/-- The offsets of the loop schedule and UTIL (11). -/
theorem test_worked_loop_schedule :
    (placeLoops (workedDevice State.reset).loops.loops).map (fun p => (p.1, p.2.2)) =
      [(5, 0), (6, 1), (7, 2), (8, 3), (2, 4), (3, 5), (4, 6), (9, 7), (10, 8), (0, 9), (1, 10)] ∧
    (leCommit (workedDevice State.reset)).loops.util = 376 := by decide +kernel
/-- FAB_MAP0-3 for VIDEO 2 and ENGINE 4 (14). -/
theorem test_worked_wheel_map :
    let s := { State.reset with fabric := { State.reset.fabric with effV := 2, effE := 4 } }
    [fabMapWord s 0, fabMapWord s 1, fabMapWord s 2, fabMapWord s 3] = [9, 8, 9, 8] := by decide +kernel
/-- The net flow into nodes 3 and 5 (12), from 800,016 mW of source 0. -/
theorem test_worked_thermal_flow :
    let y : Steelyard := { State.reset.sy with
      nodes := ((State.reset.sy.nodes.set 0 { Node.reset with cap := 1 }).set 3 { Node.reset with cap := 212500 }).set 5
        { Node.reset with cap := 120000 }
      couple := ((State.reset.sy.couple.set 0 0x047E_0003).set 1 0x03E8_0053).set 2 0x0320_0005
      psrc := State.reset.sy.psrc.set 0 0x83 }
    let temps := (((Vector.replicate 16 (0 : Int)).set 0 (25 * 65536)).set 3 (185 * 65536)).set 5 (114 * 65536)
    (flow y temps [800016] 3, flow y temps [800016] 5) = (545016 * 65536, -200 * 65536) ∧
    unstableNode y = some 0 := by decide +kernel
/-- G_0 at 114.00, 112.00 and 111.50 °C (12): THR 11,000 and SPAN 1,000. -/
theorem test_worked_throttle :
    let x : Throttle := { State.reset.sy.thr[0] with cfg := 0x2AF8_3E85 }
    ([11400, 11200, 11150].map fun c : Int => governor 0 x 1000 (c * 65536 / 100)) = [600, 800, 850] := by decide +kernel
/-- The steps of the forecast (12): 20 + 38 + 469 + 94. -/
theorem test_worked_forecast_steps :
    (fcSteps (workedDevice State.reset) (descOf workedPage)).sum = 621 := by decide +kernel

/-! ## Accesses: the worked examples of 00 and 19 -/

/-- The device in READY with every domain on and every PLL locked. -/
def readyDevice : State :=
  let s := inMode 2 (up State.reset)
  { s with clk := { s.clk with lock := 0xF, fb := 0 } }

/-- ACORE1 reads bank 0x2F, the Keeper's (00): refused and captured, FE_SOURCE 1. -/
theorem test_worked_keeper_bank :
    let r := regRead (.acore 1) 0x2F 0x40 readyDevice
    r.1 = none ∧ (regVal 6 0x88 r.2, regVal 6 0x80 r.2, regVal 6 0x98 r.2) = (2, 0x402F_0040, 1) := by decide +kernel
/-- The DEVTIME pair (00): the copy held for _HI outlives the advance of the counter. -/
theorem test_worked_devtime_pair :
    let s := { readyDevice with devtime := 0x1_FFFF_FFFF }
    let lo := regRead (.acore 0) 0x20 0 s
    lo.1 = some 0xFFFF_FFFF ∧ (regRead (.acore 0) 0x20 4 { lo.2 with devtime := 0x2_0000_0000 }).1 = some 1 := by
  decide +kernel
/-- ACORE2 (19): SYS_BANKS, the write of SYS_MODE, ADC_VAL30 and TRC_STATUS with domain 49 off, and above the banks. -/
theorem test_worked_accesses :
    let s := { readyDevice with ps := { readyDevice.ps with on := setBit readyDevice.ps.on 48 false } }
    readVerdict (.acore 2) 0 0x1C s = .go ∧ writeVerdict (.acore 2) 0 0x14 0 s = .error .target ∧
    readVerdict (.acore 2) 0x1D 0x78 s = .error .firewall ∧ readVerdict .keeper 0x1D 0x78 s = .go ∧
    readVerdict .debug 0x30 0x204 s = .error .target ∧ readVerdict (.acore 0) 0x31 0 s = .error .firewall := by decide +kernel

/-! ## Interrupts: the nesting of hart 0 (15) -/

/-- LIC_APP of the example, with the sources given. -/
def nesting (level : BitVec 320) (stack : List (Nat × Byte)) : LicCtx :=
  let l := State.reset.licApp
  let on := setBit (setBit (setBit 0 24 true) 7 true) 101 true
  let c : LicCtx := { l.ctx[0] with en := on, thresh := 0x20, stack := stack }
  ctxEval { l with prisplit := 3, level := level, prio := ((l.prio.set 24 0x70).set 7 0x64).set 101 0xA0 } c

/-- Source 7 keeps the line low under source 24, source 101 raises it (R419, R420). -/
theorem test_worked_nesting :
    let one := setBit (setBit 0 24 true) 7 true
    ((nesting one [(24, 0x70)]).best, (nesting one [(24, 0x70)]).line) = (some (24, 0x70), false) ∧
    ((nesting (setBit one 101 true) [(24, 0x70)]).best, (nesting (setBit one 101 true) [(24, 0x70)]).line)
      = (some (101, 0xA0), true) ∧
    ((nesting (setBit 0 7 true) []).best, (nesting (setBit 0 7 true) []).line) = (some (7, 0x64), true) := by
  decide +kernel

/-! ## One step -/

/-- The state after one step of a state with one command waiting. -/
def after (i : Instr) (s : State) : State :=
  match step { s with pending := [i] } with
  | .next t => t
  | _ => s

/-- PLL_UNLOCK of PIXPLL raises fault 0x43 (R240). -/
theorem test_step_pll_unlock :
    (after (.pllUnlock 3) readyDevice).hub.raised.getLsbD 0x43 = true := by decide +kernel
/-- A Keeper write of CPUDIV 8 takes effect (R236). -/
theorem test_step_cpu_div :
    regVal 4 0x10 (after (.cpuDivWrite .keeper 8) readyDevice) = 8 := by decide +kernel
/-- An idle step (log 1): 10 ns of DEVTIME. -/
theorem test_step_idles :
    (match step readyDevice with | .next t => t.devtime | _ => 0) = readyDevice.devtime + 1 := by decide +kernel

/-! ## How a witness meets the named conditions -/

theorem granted_of {m : Master} {b o : Nat} {v : Word} {s : State}
    (h : (decide (writeVerdict m b o v s = .go) && regExists b o) = true) : Granted m b o v s := by
  simpa [Granted] using h
theorem readGranted_of {m : Master} {b o : Nat} {s : State}
    (h : (decide (readVerdict m b o s = .go) && (heldCopy m b o s).isNone) = true) : ReadGranted m b o s := by
  simpa [ReadGranted] using h
theorem noAction_of {f : Byte} {s : State}
    (h : (s.hub.raised.getLsbD f.toNat || decide ((bits (s.hub.cfg[f.toNat]?.getD 0) 0 2 : BitVec 2).toNat < 2)) = true) :
    NoAction f s := by
  unfold NoAction
  rcases Bool.or_eq_true _ _ |>.mp h with h | h
  · exact .inl h
  · exact .inr (of_decide_eq_true h)
theorem mild_of {f : Byte} {s : State}
    (h : ((s.hub.raised.getLsbD f.toNat || decide ((bits (s.hub.cfg[f.toNat]?.getD 0) 0 2 : BitVec 2).toNat < 2)) &&
      (!spoilsAtOnce f true || !pageInFlight s)) = true) : Mild f s := by
  rw [Bool.and_eq_true] at h
  refine ⟨noAction_of h.1, fun hs => ?_⟩
  have := h.2
  rw [hs] at this
  simpa using this
theorem executes_of {c : Nat} {n : Fin 8} {s : State}
    (h : (frameReady s n && decide (reqCmd s.counters[n] = c) && sinovRuns s && !tornGap s &&
      (match cmdRow c with
       | some r => (!minimalSet s || (r.min && minCounter n)) && modeOk c r s
       | none => false)) = true) : Executes c n s := by
  simp only [Bool.and_eq_true, decide_eq_true_eq, Bool.not_eq_true'] at h
  obtain ⟨⟨⟨⟨h1, h2⟩, h3⟩, h4⟩, h5⟩ := h
  split at h5
  · rename_i r hr
    rw [Bool.and_eq_true] at h5
    refine ⟨h1, h2, h3, h4, r, hr, fun hm => ?_, h5.2⟩
    have := h5.1
    rw [hm] at this
    simpa using this
  · cases h5

theorem clean_of {s : State} (h1 : (List.finRange 4).all (fun c => s.cluster.l1d[c].isEmpty) = true)
    (h2 : s.cluster.l2.isEmpty = true) (line : Nat) : lineDirty s line = false := by
  have hl : ∀ c : Fin 4, l1Find s c line = none := fun c => by
    have := List.all_eq_true.mp h1 c (List.mem_finRange c)
    rw [List.isEmpty_iff] at this
    simp only [l1Find]
    rw [this]; rfl
  rw [List.isEmpty_iff] at h2
  simp [lineDirty, l1Dirty, l2Find, hl, h2]
theorem readAll_blank {a n : Nat} (h : 0x2_0000_0000 ≤ a) : Mem.readAll [] a n = List.replicate n 0 := by
  induction n generalizing a with
  | zero => rfl
  | succ n ih =>
    rw [Mem.readAll, ih (Nat.le_succ_of_le h), List.replicate_succ, Mem.read, unlisted]
    rw [if_neg (by omega)]
theorem scan_blank {s : State} (h : s.mem = []) : scanAll s = ⟨0, 0, 0⟩ := by
  have hs : ∀ (is : List Nat) (a : Scan), is.foldl (scanSlot s) a = a := by
    intro is
    induction is with
    | nil => intro a; rfl
    | cons i is ih =>
      intro a
      rw [List.foldl_cons, ih, scanSlot, h, readAll_blank (by omega)]
      rfl
  exact hs _ _
theorem slot_blank {s : State} {q : Nat} (h : s.mem = []) : (slotBytes s q).all (· == 0) = true := by
  rw [slotBytes, h, readAll_blank (by unfold slotAddr; omega)]
  decide +kernel

/-! ## Witnesses of the obligations' hypotheses -/

/-- What the hypotheses of DoorbellsMoveTheCounter ask for, clause by clause, is met. -/
theorem witness_doorbells_move_the_counter :
    (∃ (m : Master) (n : Fin 8) (v : Word) (s : State), Granted m 0x08 (0x400 * n.val + 0x200) (v ||| 1) s ∧ bit v 1 =
      false ∧ (s.counters[n].stage = .idle ∨ s.counters[n].stage = .done)) ∧
    (∃ (m : Master) (n : Fin 8) (v : Word) (s : State), Granted m 0x08 (0x400 * n.val + 0x200) (v ||| 1) s ∧ bit v 1 =
      false ∧ (s.counters[n].stage = .posted ∨ s.counters[n].stage = .taken)) ∧
    (∃ (m : Master) (n : Fin 8) (s : State), Granted m 0x08 (0x400 * n.val + 0x200) 2 s ∧ s.counters[n].stage =
      .posted ∧ StaleSteady n s) ∧
    (∃ (m : Master) (n : Fin 8) (v : Word) (s : State), Granted m 0x08 (0x400 * n.val + 0x200) (v ||| 4) s ∧ bit v 0 =
      false ∧ bit v 1 = false ∧ s.counters[n].stage = .done) ∧
    (∃ (m : Master) (n : Fin 8) (s : State), Granted m 0x08 0x2008 (BitVec.twoPow 32 n.val) s ∧ s.counters[n].stage =
      .taken) ∧
    (∃ (m : Master) (n : Fin 8) (s : State), ReadGranted m 0x08 (0x400 * n.val + 0x218) s) := by
  refine ⟨?_, ?_, ?_, ?_, ?_, ?_⟩
  · refine ⟨(.acore 2 : Master), 2, 5, calm (up State.reset), ?_⟩
    exact ⟨granted_of (by decide +kernel), by decide +kernel⟩
  · refine ⟨(.acore 2 : Master), 2, 0, (let s := calm (up State.reset); cntMod (2 : Fin 8) (fun c => {c with stage := .taken}) s), ?_⟩
    exact ⟨granted_of (by decide +kernel), by decide +kernel⟩
  · refine ⟨(.acore 1 : Master), 1, (let s := calm (up State.reset); cntMod (1 : Fin 8) (fun c => {c with stage := .posted, stale := true}) s), ?_⟩
    exact ⟨granted_of (by decide +kernel), (by decide +kernel), (by unfold StaleSteady; decide +kernel)⟩
  · refine ⟨(.acore 1 : Master), 1, 0, (let s := calm (up State.reset); cntMod (1 : Fin 8) (fun c => {c with stage := .done}) s), ?_⟩
    exact ⟨granted_of (by decide +kernel), by decide +kernel⟩
  · refine ⟨.keeper, 3, (let s := calm (up State.reset); cntMod (3 : Fin 8) (fun c => {c with stage := .taken}) s), ?_⟩
    exact ⟨granted_of (by decide +kernel), by decide +kernel⟩
  · refine ⟨.debug, 3, calm (up State.reset), ?_⟩
    exact readGranted_of (by decide +kernel)

/-- What the hypotheses of CountersAreServed ask for, clause by clause, is met. -/
theorem witness_counters_are_served :
    (∃ (m : Master) (n : Fin 8) (s : State), Granted m 0x08 0x2004 (BitVec.twoPow 32 n.val) s ∧ takesFrames s = true ∧
      servedNext s n = true ∧ StaleSteady n s) ∧
    (∃ (n : Fin 8) (s : State), s.counters[n].stage = .posted ∧ s.counters[n].stale = false ∧ Mild 0xC2 s) ∧
    (∃ (n : Fin 8) (s : State), s.counters[n].badDue = true) ∧
    (∃ (r : Resource) (w : Window) (a : Fin 8) (b : Fin 8) (s : State), s.windows.find? (fun w => w.res = r) = some w
      ∧ winner s w.members = some a ∧ w.members.Nodup ∧ b ∈ w.members ∧ b ≠ a) := by
  refine ⟨?_, ?_, ?_, ?_⟩
  · refine ⟨.keeper, 2, (stg 2 .posted (frame 2 0x0101 [] (calm (up State.reset)))), ?_⟩
    exact ⟨granted_of (by decide +kernel), (by decide +kernel), (by decide +kernel),
      (by unfold StaleSteady; decide +kernel)⟩
  · refine ⟨4, stg 4 .posted (calm (up State.reset)), ?_⟩
    exact ⟨(by decide +kernel), (by decide +kernel), mild_of (by decide +kernel)⟩
  · refine ⟨4, cntMod 4 (fun c => {c with badDue := true}) (calm (up State.reset)), ?_⟩
    decide +kernel
  · refine ⟨.page, ({res := .page, endsAt := 100, members := [2,3,1]} : Window), 1, 2, (let s := calm (up State.reset); {s with windows := [{res := .page, endsAt := 100, members := [2,3,1]}]}), ?_⟩
    decide +kernel

/-- What the hypotheses of SharedCounterEchoes ask for, clause by clause, is met. -/
theorem witness_shared_counter_echoes :
    (∃ (m : Master) (s : State), Granted m 0x08 0x2004 0x80 s ∧ takesFrames s = true ∧ servedNext s 7 = true ∧ frameOk
      7 s.counters[7] = true ∧ StaleSteady 7 s) := by
  refine ⟨.keeper, (stg 7 .posted (frame 7 0x0101 [1,2,3] (calm (up State.reset)))), ?_⟩
  exact ⟨granted_of (by decide +kernel), (by decide +kernel), (by decide +kernel), (by decide +kernel),
    (by unfold StaleSteady; decide +kernel)⟩

/-- What the hypotheses of QueriesAreAnswered ask for, clause by clause, is met. -/
theorem witness_queries_are_answered :
    (∃ (n : Fin 8) (s : State), Executes 0x0100 n s ∧ payload s n = []) ∧
    (∃ (n : Fin 8) (s : State), Executes 0x0101 n s ∧ payload s n = []) ∧
    (∃ (n : Fin 8) (s : State), Executes 0x0106 n s ∧ payload s n = []) ∧
    (∃ (n : Fin 8) (s : State), Executes 0x0500 n s ∧ payload s n = []) ∧
    (∃ (n : Fin 8) (s : State), Executes 0x0600 n s ∧ payload s n = []) ∧
    (∃ (n : Fin 8) (s : State), Executes 0x0702 n s ∧ payload s n = []) ∧
    (∃ (n : Fin 8) (s : State), Executes 0x0400 n s ∧ payload s n = []) ∧
    (∃ (n : Fin 8) (s : State), Executes 0x0700 n s ∧ (payload s n).length = 12 ∧ fieldLe (payload s n) 8 1 < 2 ∧
      fieldLe (payload s n) 9 3 = 0) ∧
    (∃ (n : Fin 8) (s : State) (a : Nat) (k : Nat), Executes 0x0900 n s ∧ payload s n =
      [BitVec.ofNat 8 a, BitVec.ofNat 8 k, 0, 0] ∧ 1 ≤ k ∧ a + k ≤ 8 ∧ a < 8 ∧ k < 8) ∧
    (∃ (n : Fin 8) (s : State) (c : Fin 36), Executes 0x0B01 n s ∧ payload s n = [BitVec.ofNat 8 c.val, 0, 0, 0]) ∧
    (∃ (n : Fin 8) (s : State), Executes 0x0800 n s ∧ payload s n = []) ∧
    (∃ (n : Fin 8) (s : State) (mask : Byte), Executes 0x0901 n s ∧ (payload s n).length = 36 ∧ (payload s n).drop 32
      = [mask, 0, 0, 0] ∧ mask ≠ 0) := by
  refine ⟨?_, ?_, ?_, ?_, ?_, ?_, ?_, ?_, ?_, ?_, ?_, ?_⟩
  · refine ⟨2, (let s := frame (2 : Fin 8) 0x0100 ([]) (calm (up State.reset)); s), ?_⟩
    exact ⟨executes_of (by decide +kernel), by decide +kernel⟩
  · refine ⟨2, (let s := frame (2 : Fin 8) 0x0101 ([]) (calm (up State.reset)); s), ?_⟩
    exact ⟨executes_of (by decide +kernel), by decide +kernel⟩
  · refine ⟨2, (let s := frame (2 : Fin 8) 0x0106 ([]) (calm (up State.reset)); s), ?_⟩
    exact ⟨executes_of (by decide +kernel), by decide +kernel⟩
  · refine ⟨2, (let s := frame (2 : Fin 8) 0x0500 ([]) (calm (up State.reset)); s), ?_⟩
    exact ⟨executes_of (by decide +kernel), by decide +kernel⟩
  · refine ⟨2, (let s := frame (2 : Fin 8) 0x0600 ([]) (calm (up State.reset)); s), ?_⟩
    exact ⟨executes_of (by decide +kernel), by decide +kernel⟩
  · refine ⟨2, (let s := frame (2 : Fin 8) 0x0702 ([]) (calm (up State.reset)); s), ?_⟩
    exact ⟨executes_of (by decide +kernel), by decide +kernel⟩
  · refine ⟨2, (let s := frame (2 : Fin 8) 0x0400 ([]) (calm (up State.reset)); s), ?_⟩
    exact ⟨executes_of (by decide +kernel), by decide +kernel⟩
  · refine ⟨2, (let s := frame (2 : Fin 8) 0x0700 (toLe (7 : BitVec 64) 8 ++ [1,0,0,0]) (calm (up State.reset)); till s), ?_⟩
    exact ⟨executes_of (by decide +kernel), by decide +kernel⟩
  · refine ⟨2, (let s := frame (2 : Fin 8) 0x0900 ([2,3,0,0]) (calm (up State.reset)); s), 2, 3, ?_⟩
    exact ⟨executes_of (by decide +kernel), by decide +kernel⟩
  · refine ⟨2, (let s := frame (2 : Fin 8) 0x0B01 ([17,0,0,0]) (calm (up State.reset)); s), 17, ?_⟩
    exact ⟨executes_of (by decide +kernel), by decide +kernel⟩
  · refine ⟨2, (let s := frame (2 : Fin 8) 0x0800 ([]) (calm (up State.reset)); s), ?_⟩
    exact ⟨executes_of (by decide +kernel), by decide +kernel⟩
  · refine ⟨2, (let s := frame (2 : Fin 8) 0x0901 (List.replicate 32 7 ++ [5,0,0,0]) (calm (up State.reset)); s), 5, ?_⟩
    exact ⟨executes_of (by decide +kernel), by decide +kernel⟩

/-- What the hypotheses of FramesAreCheckedAndModesAsked ask for, clause by clause, is met. -/
theorem witness_frames_are_checked_and_modes_asked :
    (∃ (n : Fin 8) (s : State), frameReady s n = true ∧ reqCmd s.counters[n] = 0x0101 ∧ sinovRuns s = true ∧ tornGap s
      = false ∧ minimalSet s = true) ∧
    (∃ (n : Fin 8) (s : State), frameReady s n = true ∧ reqCmd s.counters[n] = 0x0102 ∧ sinovRuns s = true ∧ tornGap s
      = false ∧ minimalSet s = false ∧ s.sys.mode ≠ 1) ∧
    (∃ (n : Fin 8) (s : State), frameReady s n = true ∧ reqCmd s.counters[n] = 0x0103 ∧ sinovRuns s = true ∧ tornGap s
      = false ∧ minimalSet s = false ∧ s.sys.mode ≠ 2) ∧
    (∃ (n : Fin 8) (s : State), Executes 0x0101 n s ∧ payload s n ≠ []) ∧
    (∃ (n : Fin 8) (s : State), Executes 0x0102 n s ∧ payload s n = [] ∧ s.rst.applied ≠ 2 ∧ graceClear s = true ∧
      (∀ o : Fin 16, s.sinov.diag[o] = none) ∧ tillNone s = false) ∧
    (∃ (n : Fin 8) (s : State), Executes 0x0103 n s ∧ payload s n = [] ∧ tillNone s = false) ∧
    (∃ (n : Fin 8) (s : State) (wake : BitVec 3) (alarm : BitVec 48), Executes 0x0104 n s ∧ payload s n =
      [wake.setWidth 8, 0] ++ toLe alarm 6 ∧ wake ≠ 0 ∧ (wake.getLsbD 0 = true → s.rtc.sec.toNat < alarm.toNat) ∧
      resBusy s n = false ∧ tillNone s = false) ∧
    (∃ (n : Fin 8) (s : State) (k : BitVec 2), Executes 0x0105 n s ∧ payload s n = [k.setWidth 8, 0, 0, 0] ∧
      (k = 1 ∨ k = 2) ∧ resBusy s n = false) := by
  refine ⟨?_, ?_, ?_, ?_, ?_, ?_, ?_, ?_⟩
  · refine ⟨2, (let s := frame (2 : Fin 8) 0x0101 ([]) (calm (up State.reset)); {s with sys := {s.sys with minset := true}}), ?_⟩
    decide +kernel
  · refine ⟨2, (let s := frame (2 : Fin 8) 0x0102 ([]) (calm (up State.reset)); s), ?_⟩
    decide +kernel
  · refine ⟨2, (let s := frame (2 : Fin 8) 0x0103 ([]) (calm (up State.reset)); inMode 1 s), ?_⟩
    decide +kernel
  · refine ⟨2, (let s := frame (2 : Fin 8) 0x0101 ([1]) (calm (up State.reset)); s), ?_⟩
    exact ⟨executes_of (by decide +kernel), by decide +kernel⟩
  · refine ⟨2, (let s := frame (2 : Fin 8) 0x0102 ([]) (calm (up State.reset)); inMode 1 (till {s with rst := {s.rst with applied := 1}, sinov := {s.sinov with diag := Vector.replicate 16 none}})), ?_⟩
    exact ⟨executes_of (by decide +kernel), by decide +kernel⟩
  · refine ⟨2, (let s := frame (2 : Fin 8) 0x0103 ([]) (calm (up State.reset)); till s), ?_⟩
    exact ⟨executes_of (by decide +kernel), by decide +kernel⟩
  · refine ⟨2, (let s := frame (2 : Fin 8) 0x0104 ([3,0] ++ toLe (0x123456789ABC : BitVec 48) 6) (calm (up State.reset)); till {s with rtc := {s.rtc with sec := 77}}), 3, 0x123456789ABC, ?_⟩
    exact ⟨executes_of (by decide +kernel), by decide +kernel⟩
  · refine ⟨2, (let s := frame (2 : Fin 8) 0x0105 ([2,0,0,0]) (calm (up State.reset)); s), 2, ?_⟩
    exact ⟨executes_of (by decide +kernel), by decide +kernel⟩

/-- What the hypotheses of HubAndTableCommands ask for, clause by clause, is met. -/
theorem witness_hub_and_table_commands :
    (∃ (n : Fin 8) (s : State) (f : Byte), Executes 0x0601 n s ∧ payload s n = [f, 0, 0, 0] ∧
      (faultRow f.toNat 0).isSome = true ∧ resBusy s n = false) ∧
    (∃ (n : Fin 8) (s : State) (f : Byte), Executes 0x0602 n s ∧ payload s n = [f, 0, 0, 0] ∧
      (faultRow f.toNat 0).isSome = true ∧ resBusy s n = false ∧ s.hub.raised.getLsbD f.toNat = true ∧ faultPresent s
      f.toNat = false ∧ expiryWins f.toNat s = false ∧ tillNone s = false) ∧
    (∃ (n : Fin 8) (s : State) (f : Byte), Executes 0x0602 n s ∧ payload s n = [f, 0, 0, 0] ∧
      (faultRow f.toNat 0).isSome = true ∧ resBusy s n = false ∧ s.hub.raised.getLsbD f.toNat = true ∧
      (faultPresent s f.toNat = true ∨ expiryWins f.toNat s = true)) ∧
    (∃ (n : Fin 8) (s : State) (f : Byte) (c : BitVec 2) (a : BitVec 2) (g : BitVec 32), Executes 0x0603 n s ∧ payload
      s n = [f, c.setWidth 8, a.setWidth 8, 0] ++ toLe g 4 ∧ (faultRow f.toNat 0).isSome = true ∧ c ≠ 3 ∧
      (a = 1 → ((faultRow f.toNat 0).bind (·.block)).isSome = true) ∧ (c = 1 → 1 ≤ g.toNat ∧ g.toNat ≤ 1000000) ∧
      s.hub.optImm.getLsbD f.toNat = false ∧ resBusy s n = false) ∧
    (∃ (n : Fin 8) (s : State) (i : Fin 12) (q : BitVec 16) (hyst : BitVec 16) (dwell : BitVec 16), Executes 0x0401 n
      s ∧ payload s n = [BitVec.ofNat 8 i.val, 0] ++ toLe q 2 ++ toLe hyst 2 ++ toLe dwell 2 ∧ q ≠ 0 ∧ q.toNat ≤ 1000
      ∧ hyst.toNat ≤ 10000 ∧ dwell ≠ 0 ∧ dwell.toNat ≤ 60000 ∧ resBusy s n = false) ∧
    (∃ (n : Fin 8) (s : State), Executes 0x0501 n s ∧ 1 ≤ fieldLe (payload s n) 0 1 ∧ fieldLe (payload s n) 0 1 ≤ 62 ∧
      (payload s n).length = 4 + 2 * fieldLe (payload s n) 0 1 ∧ fieldLe (payload s n) 1 3 = 0 ∧ tableBad s
      (tableEntries (payload s n)) = false ∧ resBusy s n = false) := by
  refine ⟨?_, ?_, ?_, ?_, ?_, ?_⟩
  · refine ⟨2, (let s := frame (2 : Fin 8) 0x0601 ([0x92,0,0,0]) (calm (up State.reset)); s), 0x92, ?_⟩
    exact ⟨executes_of (by decide +kernel), by decide +kernel⟩
  · refine ⟨2, (let s := frame (2 : Fin 8) 0x0602 ([0x60,0,0,0]) (calm (up State.reset)); till (raised 0x60 s)), 0x60, ?_⟩
    exact ⟨executes_of (by decide +kernel), by decide +kernel⟩
  · refine ⟨2, (let s := frame (2 : Fin 8) 0x0602 ([0x01,0,0,0]) (calm (up State.reset)); till (pres 1 (raised 0x01 s))), 0x01, ?_⟩
    exact ⟨executes_of (by decide +kernel), by decide +kernel⟩
  · refine ⟨2, (let s := frame (2 : Fin 8) 0x0603 ([0x90,1,2,0] ++ toLe (777 : Word) 4) (calm (up State.reset)); inMode 1 {s with hub := {s.hub with optImm := 0}}), 0x90, 1, 2, 777, ?_⟩
    exact ⟨executes_of (by decide +kernel), by decide +kernel⟩
  · refine ⟨2, (let s := frame (2 : Fin 8) 0x0401 ([3,0] ++ toLe (500 : BitVec 16) 2 ++ toLe (20 : BitVec 16) 2 ++ toLe (9 : BitVec 16) 2) (calm (up State.reset)); s), 3, 500, 20, 9, ?_⟩
    exact ⟨executes_of (by decide +kernel), by decide +kernel⟩
  · refine ⟨2, (let s := frame (2 : Fin 8) 0x0501 ([5,0,0,0, 3,60, 4,60, 14,60, 44,60, 20,5]) (calm (up State.reset)); s), ?_⟩
    exact ⟨executes_of (by decide +kernel), by decide +kernel⟩

/-- What the hypotheses of LedgerTimeOptionAndDiagnosticCommands ask for, clause by clause, is met. -/
theorem witness_ledger_time_option_and_diagnostic_commands :
    (∃ (n : Fin 8) (s : State), Executes 0x0701 n s ∧ 5 ≤ (payload s n).length ∧ (payload s n).length ≤ 164 ∧ fieldLe
      (payload s n) 2 2 = 0 ∧ tillNone s = false) ∧
    (∃ (n : Fin 8) (s : State) (u : BitVec 64), Executes 0x0703 n s ∧ payload s n = toLe u 8 ∧ s.till.oldest.toNat ≤
      u.toNat ∧ u.toNat ≤ s.till.head.toNat ∧ 5 ≤ s.counters[n].rank.val ∧ resBusy s n = false ∧ s.till.stopped =
      false ∧ (s.till.free = 0 ∨ tillNone s = false)) ∧
    (∃ (n : Fin 8) (s : State) (v : BitVec 48), Executes 0x0801 n s ∧ payload s n = toLe v 6 ++ [0, 0] ∧ resBusy s n =
      false ∧ s.sinov.timeWait = none ∧ s.rtc.pending = false ∧ tillNone s = false) ∧
    (∃ (n : Fin 8) (s : State), Executes 0x0802 n s ∧ payload s n = [] ∧ s.rtc.valid = true ∧ resBusy s n = false ∧
      tillNone s = false) ∧
    (∃ (n : Fin 8) (s : State), Executes 0x0A03 n s ∧ payload s n = [0, 0, 0, 0] ∧ resBusy s n = false) ∧
    (∃ (n : Fin 8) (s : State) (ofs : BitVec 16) (bs : List Byte), Executes 0x0A03 n s ∧ payload s n = [1, 0] ++ toLe
      ofs 2 ++ bs ∧ 4 ≤ bs.length ∧ bs.length ≤ 224 ∧ bs.length % 4 = 0 ∧ ofs.toNat % 4 = 0 ∧ ofs.toNat + bs.length ≤
      512 ∧ resBusy s n = false) ∧
    (∃ (n : Fin 8) (s : State) (_k : Nat), Executes 0x0A03 n s ∧ payload s n = [2, 0, 0, 0] ∧ optBufGood s = true ∧
      resBusy s n = false ∧ tillNone s = false ∧ afterRecord n s ≠ .copies) ∧
    (∃ (n : Fin 8) (s : State) (_k : Nat) (rec : List Byte) (seq : List Byte), s.sinov.after = some
      (.copies n rec seq) ∧ sinovRuns s = true ∧ rec.length = 512) ∧
    (∃ (n : Fin 8) (s : State) (o : Fin 16) (level : BitVec 16) (dwell : BitVec 16), Executes 0x0B00 n s ∧ payload s n
      = [BitVec.ofNat 8 o.val, 0] ++ toLe level 2 ++ toLe dwell 2 ++ [0, 0] ∧ level.toNat ≤ 1000 ∧ dwell ≠ 0 ∧
      dwell.toNat ≤ 10000 ∧ (∀ k : Fin 6, k.val = o.val → (s.sinov.motor[k]).isSome = true) ∧ resBusy s n = false ∧
      (level ≠ 0 → diagHeld s o = false ∧ diagWaits s o = false)) := by
  refine ⟨?_, ?_, ?_, ?_, ?_, ?_, ?_, ?_, ?_⟩
  · refine ⟨2, (let s := frame (2 : Fin 8) 0x0701 ([1,0,0,0,9,9]) (calm (up State.reset)); till s), ?_⟩
    exact ⟨executes_of (by decide +kernel), by decide +kernel⟩
  · refine ⟨2, (let s := frame (2 : Fin 8) 0x0703 (toLe (9 : BitVec 64) 8) (calm (up State.reset)); till (cntMod 2 (fun c => {c with rank := 6}) s)), 9, ?_⟩
    exact ⟨executes_of (by decide +kernel), by decide +kernel⟩
  · refine ⟨2, (let s := frame (2 : Fin 8) 0x0801 (toLe (12345 : BitVec 48) 6 ++ [0,0]) (calm (up State.reset)); till {s with sinov := {s.sinov with timeWait := none}, rtc := {s.rtc with pending := false}}), 12345, ?_⟩
    exact ⟨executes_of (by decide +kernel), by decide +kernel⟩
  · refine ⟨2, (let s := frame (2 : Fin 8) 0x0802 ([]) (calm (up State.reset)); till {s with rtc := {s.rtc with valid := true}}), ?_⟩
    exact ⟨executes_of (by decide +kernel), by decide +kernel⟩
  · refine ⟨2, (let s := frame (2 : Fin 8) 0x0A03 ([0,0,0,0]) (calm (up State.reset)); inMode 1 s), ?_⟩
    exact ⟨executes_of (by decide +kernel), by decide +kernel⟩
  · refine ⟨2, (let s := frame (2 : Fin 8) 0x0A03 ([1,0,16,0,1,2,3,4,5,6,7,8]) (calm (up State.reset)); inMode 1 s), 16, [1,2,3,4,5,6,7,8], ?_⟩
    exact ⟨executes_of (by decide +kernel), by decide +kernel⟩
  · refine ⟨2, (let s := frame (2 : Fin 8) 0x0A03 ([2,0,0,0]) (calm (up State.reset)); inMode 1 (till {s with sinov := {s.sinov with optLoaded := BitVec.allOnes 512, optBuf := goodRec}, optshd := Vector.ofFn fun i => romRecord.getD i.val 0})), 0, ?_⟩
    exact ⟨executes_of (by decide +kernel), by decide +kernel⟩
  · refine ⟨2, (let s := calm (up State.reset); {s with sinov := {s.sinov with after := some (.copies 2 (List.replicate 512 0) [1])}}), 0, (List.replicate 512 0 : List Byte), ([1] : List Byte), ?_⟩
    decide +kernel
  · refine ⟨2, (let s := live (frame (2 : Fin 8) 0x0B00 ([2,0] ++ toLe (300 : BitVec 16) 2 ++ toLe (50 : BitVec 16) 2 ++ [0,0]) (calm (up State.reset))); inMode 1 {s with sinov := {s.sinov with motor := s.sinov.motor.map fun x => some (x.getD motCfg)}}), 2, 300, 50, ?_⟩
    exact ⟨executes_of (by decide +kernel), by decide +kernel⟩

/-- What the hypotheses of FirmwareCommands ask for, clause by clause, is met. -/
theorem witness_firmware_commands :
    (∃ (n : Fin 8) (s : State) (app : Bool) (len : BitVec 32) (k : Nat), Executes 0x0A00 n s ∧ payload s n =
      [0, (if app then 1 else 0), 0, 0] ++ toLe len 4 ∧ len ≠ 0 ∧ len.toNat ≤ slotSize app ∧ resBusy s n = false ∧
      sectors len.toNat ≤ k) ∧
    (∃ (n : Fin 8) (s : State) (i : Fin 2) (ofs : BitVec 32) (bs : List Byte) (_k : Nat), Executes 0x0A00 n s ∧
      payload s n = [1, BitVec.ofNat 8 i.val, 0, 0] ++ toLe ofs 4 ++ bs ∧ 1 ≤ bs.length ∧ resBusy s n = false ∧
      ofs.toNat = s.sinov.stage[i].next ∧ ofs.toNat + bs.length ≤ s.sinov.stage[i].length) ∧
    (∃ (n : Fin 8) (s : State) (i : Fin 2) (ofs : BitVec 32) (bs : List Byte) (_k : Nat), Executes 0x0A00 n s ∧
      payload s n = [1, BitVec.ofNat 8 i.val, 0, 0] ++ toLe ofs 4 ++ bs ∧ 1 ≤ bs.length ∧ ofs.toNat ≠
      s.sinov.stage[i].next) ∧
    (∃ (n : Fin 8) (s : State) (i : Fin 2), Executes 0x0A01 n s ∧ (payload s n).length = 32 ∧ resBusy s n = false ∧
      fwActive s = some i ∧ s.sinov.stage[i].next = s.sinov.stage[i].length) ∧
    (∃ (n : Fin 8) (s : State) (i : Fin 2), Executes 0x0A02 n s ∧ (payload s n).length = 32 ∧ resBusy s n = false ∧
      fwVerified s (digestOf (payload s n)) = some i ∧ tillNone s = false ∧ afterRecord n s ≠ .slot) ∧
    (∃ (n : Fin 8) (s : State) (app : Bool) (seq : List Byte), s.sinov.after = some (.slot n app seq) ∧ sinovRuns s =
      true) := by
  refine ⟨?_, ?_, ?_, ?_, ?_, ?_⟩
  · refine ⟨2, (let s := frame (2 : Fin 8) 0x0A00 ([0,0,0,0] ++ toLe (100000 : Word) 4) (calm (up State.reset)); inMode 1 s), false, 100000, 2, ?_⟩
    exact ⟨executes_of (by decide +kernel), by decide +kernel⟩
  · refine ⟨2, (let s := frame (2 : Fin 8) 0x0A00 ([1,1,0,0,8,0,0,0,1,2,3]) (calm (up State.reset)); inMode 1 {s with sinov := {s.sinov with stage := s.sinov.stage.set 1 {active := true, length := 100, erased := 1, next := 8, verified := none}}}), 1, 8, [1,2,3], 0, ?_⟩
    exact ⟨executes_of (by decide +kernel), by decide +kernel⟩
  · refine ⟨2, (let s := frame (2 : Fin 8) 0x0A00 ([1,1,0,0,9,0,0,0,1,2,3]) (calm (up State.reset)); inMode 1 {s with sinov := {s.sinov with stage := s.sinov.stage.set 1 {active := true, length := 100, erased := 1, next := 8, verified := none}}}), 1, 9, [1,2,3], 0, ?_⟩
    exact ⟨executes_of (by decide +kernel), by decide +kernel⟩
  · refine ⟨2, (let s := frame (2 : Fin 8) 0x0A01 (List.replicate 32 7) (calm (up State.reset)); inMode 1 {s with sinov := {s.sinov with stage := Vector.replicate 2 {active := true, length := 8, erased := 1, next := 8, verified := none}}}), 0, ?_⟩
    exact ⟨executes_of (by decide +kernel), by decide +kernel⟩
  · refine ⟨2, (let s := frame (2 : Fin 8) 0x0A02 (List.replicate 32 7) (calm (up State.reset)); inMode 1 (till {s with sinov := {s.sinov with stage := (Vector.replicate 2 FwStage.reset).set 1 {active := true, length := 8, erased := 1, next := 8, verified := some (digestOf (List.replicate 32 7))}}})), 1, ?_⟩
    exact ⟨executes_of (by decide +kernel), by decide +kernel⟩
  · refine ⟨2, (let s := calm (up State.reset); {s with sinov := {s.sinov with after := some (.slot 2 true [1])}}), true, ([1] : List Byte), ?_⟩
    decide +kernel

/-- What the hypotheses of ConfigurationIsStored ask for, clause by clause, is met. -/
theorem witness_configuration_is_stored :
    (∃ (n : Fin 8) (s : State) (i : Fin 8), Executes 0x0300 n s ∧ fieldLe (payload s n) 0 1 = i.val ∧ 1 ≤ fieldLe
      (payload s n) 1 1 ∧ fieldLe (payload s n) 1 1 ≤ 64 ∧ (payload s n).length = 8 + 3 * fieldLe (payload s n) 1 1 ∧
      fieldLe (payload s n) 2 6 = 0 ∧ profBad (profSegments (payload s n)) = false ∧ resBusy s n = false ∧ profFrozen
      s i = false) ∧
    (∃ (n : Fin 8) (s : State) (k : Fin 6), Executes 0x0301 n s ∧ fieldLe (payload s n) 0 1 = k.val ∧ motorBad s
      (payload s n) = false ∧
      (s.motors[k].state ≠ .off → s.motors[k].src = (motorOf (payload s n)).src ∧ s.motors[k].pos = (motorOf (payload s n)).pos ∧ s.motors[k].pp.toNat = (motorOf (payload s n)).pp)
      ∧ ((motorOf (payload s n)).src = 0 → fieldLe (payload s n) 4 4 ≤ s.envg.shadow.mRpm[k].toNat) ∧ fieldLe
      (payload s n) 16 2 ≤ s.envg.shadow.mI[k].toNat ∧ fieldLe (payload s n) 18 2 ≤ s.envg.shadow.mI[k].toNat ∧
      resBusy s n = false) ∧
    (∃ (n : Fin 8) (s : State) (i : Fin 32), Executes 0x0303 n s ∧ fieldLe (payload s n) 0 1 = i.val ∧ 9 ≤ i.val ∧
      (payload s n).length = 16 ∧ enPlogBad (payload s n) = false ∧ fieldLe (payload s n) 3 1 = 0 ∧
      (loopOf (payload s n)).band ≠ 0 ∧ (loopOf (payload s n)).insel.toNat ≤ 35 ∧ (loopOf (payload s n)).outsel.toNat
      ≤ 16 ∧ outTaken s i.val (loopOf (payload s n)).outsel = false ∧ slotsBad s
      (fun v => { v with loop := v.loop.set i (some (loopOf (payload s n))) }) = false ∧ resBusy s n = false) ∧
    (∃ (n : Fin 8) (s : State) (c : Fin 3) (en : Bool) (g : Byte) (v : BitVec 32) (band : BitVec 16)
      (dwell : BitVec 16) (x : HvCfg), Executes 0x0304 n s ∧ payload s n =
      [BitVec.ofNat 8 c.val, (if en then 1 else 0), g, 0] ++ toLe v 4 ++ toLe band 2 ++ toLe dwell 2 ∧ g.toNat ≤ 10 ∧
      (c = 2 → 0 ≤ v.toInt) ∧ (c ≠ 2 → v.toInt ≤ 0) ∧ v.toInt.natAbs ≤ hvFull c.val ∧ band ≠ 0 ∧ x =
      { en := en, plog := BitVec.ofNat 4 g.toNat, setp := hvMv c.val v.toInt.natAbs, band := max 1 (hvMv c.val band.toNat), dwell := dwell.toNat }
      ∧ x.setp + x.band ≤ s.envg.shadow.hvFb[c].toNat ∧ slotsBad s (fun y => { y with hv := y.hv.set c (some x) }) =
      false ∧ resBusy s n = false) ∧
    (∃ (n : Fin 8) (s : State) (en : BitVec 2) (g : Byte) (a : BitVec 16) (b : BitVec 16) (band : BitVec 16)
      (dwell : BitVec 16) (duty : BitVec 16) (x : FuserCfg), Executes 0x0305 n s ∧ payload s n =
      [en.setWidth 8, g, 0, 0] ++ toLe a 2 ++ toLe b 2 ++ toLe band 2 ++ toLe dwell 2 ++ toLe duty 2 ++ [0, 0] ∧
      g.toNat ≤ 10 ∧ band ≠ 0 ∧ dwell.toNat ≤ 60000 ∧ duty.toNat ≤ 1000 ∧
      (∀ h : Fin 2, duty.toNat ≤ s.envg.shadow.htrDuty[h].toNat) ∧ x =
      { en := en, plog := BitVec.ofNat 4 g.toNat, set0 := a.toNat, set1 := b.toNat, band := band.toNat, dwell := dwell.toNat, duty := duty.toNat }
      ∧ slotsBad s (fun y => { y with fuser := some x }) = false ∧ resBusy s n = false) ∧
    (∃ (n : Fin 8) (s : State) (b : Fin 4) (en : Bool) (g : Byte) (power : BitVec 32) (ceil : BitVec 16)
      (delay : BitVec 16) (x : LaserCfg), Executes 0x0306 n s ∧ payload s n =
      [BitVec.ofNat 8 b.val, (if en then 1 else 0), g, 0] ++ toLe power 4 ++ toLe ceil 2 ++ toLe delay 2 ∧ g.toNat ≤
      10 ∧ delay.toNat ≤ 12799 ∧ ceil.toNat ≤ s.envg.shadow.ldI[b].toNat ∧ x =
      { en := en, plog := BitVec.ofNat 4 g.toNat, power := power.toNat, iCeil := ceil.toNat, delay := delay.toNat } ∧
      slotsBad s (fun y => { y with laser := y.laser.set b (some x) }) = false ∧ resBusy s n = false) := by
  refine ⟨?_, ?_, ?_, ?_, ?_, ?_⟩
  · refine ⟨2, (let s := frame (2 : Fin 8) 0x0300 ([3,2,0,0,0,0,0,0] ++ toLe (BitVec.ofNat 24 segA) 3 ++ toLe (BitVec.ofNat 24 segA) 3) (calm (up State.reset)); inMode 1 {s with pix := {s.pix with en := false}}), 3, ?_⟩
    exact ⟨executes_of (by decide +kernel), by decide +kernel⟩
  · refine ⟨2, (let s := frame (2 : Fin 8) 0x0301 ([2,1,0,0] ++ toLe (1000 : Word) 4 ++ toLe (1000 : Word) 4 ++ toLe (1000 : Word) 4 ++ [10,0,20,0,0,0,2,0]) (calm (up State.reset)); inMode 1 {s with motors := s.motors.set 2 {s.motors[2] with state := .off}, envg := {s.envg with shadow := {s.envg.shadow with mI := Vector.replicate 6 500, mRpm := Vector.replicate 6 5000}}}), 2, ?_⟩
    exact ⟨executes_of (by decide +kernel), by decide +kernel⟩
  · refine ⟨2, (let s := frame (2 : Fin 8) 0x0303 ([12,1,2,0, 5,0,0,0, 9,0,0,0, 7,0, 20, 3]) (calm (up State.reset)); inMode 1 {s with sinov := {s.sinov with loop := Vector.replicate 32 none, hv := Vector.replicate 3 none, fuser := none, laser := Vector.replicate 4 none}}), 12, ?_⟩
    exact ⟨executes_of (by decide +kernel), by decide +kernel⟩
  · refine ⟨2, (let s := frame (2 : Fin 8) 0x0304 ([0,1,3,0] ++ toLe (0xFFFFFF00 : Word) 4 ++ [5,0,9,0]) (calm (up State.reset)); inMode 1 {s with envg := {s.envg with shadow := {s.envg.shadow with hvFb := Vector.replicate 3 4000}}, sinov := {s.sinov with loop := Vector.replicate 32 none, hv := Vector.replicate 3 none, fuser := none, laser := Vector.replicate 4 none}}), 0, true, 3, 0xFFFFFF00, 5, 9, ({ en := true, plog := 3, setp := hvMv 0 256, band := max 1 (hvMv 0 5), dwell := 9 } : HvCfg), ?_⟩
    exact ⟨executes_of (by decide +kernel), by decide +kernel⟩
  · refine ⟨2, (let s := frame (2 : Fin 8) 0x0305 ([3,4,0,0] ++ toLe (1500 : BitVec 16) 2 ++ toLe (1600 : BitVec 16) 2 ++ [4,0,10,0] ++ toLe (300 : BitVec 16) 2 ++ [0,0]) (calm (up State.reset)); inMode 1 {s with envg := {s.envg with shadow := {s.envg.shadow with htrDuty := Vector.replicate 2 900}}, sinov := {s.sinov with loop := Vector.replicate 32 none, hv := Vector.replicate 3 none, fuser := none, laser := Vector.replicate 4 none}}), 3, 4, 1500, 1600, 4, 10, 300, ({ en := 3, plog := 4, set0 := 1500, set1 := 1600, band := 4, dwell := 10, duty := 300 } : FuserCfg), ?_⟩
    exact ⟨executes_of (by decide +kernel), by decide +kernel⟩
  · refine ⟨2, (let s := frame (2 : Fin 8) 0x0306 ([1,1,3,0] ++ toLe (50 : Word) 4 ++ toLe (400 : BitVec 16) 2 ++ [77,0]) (calm (up State.reset)); inMode 1 {s with envg := {s.envg with shadow := {s.envg.shadow with ldI := Vector.replicate 4 900}}, sinov := {s.sinov with loop := Vector.replicate 32 none, hv := Vector.replicate 3 none, fuser := none, laser := Vector.replicate 4 none}}), 1, true, 3, 50, 400, 77, ({ en := true, plog := 3, power := 50, iCeil := 400, delay := 77 } : LaserCfg), ?_⟩
    exact ⟨executes_of (by decide +kernel), by decide +kernel⟩

/-- What the hypotheses of EnvelopeStopAndFabric ask for, clause by clause, is met. -/
theorem witness_envelope_stop_and_fabric :
    (∃ (n : Fin 8) (s : State) (b : Fin 4) (en : Bool) (g : Byte) (power : BitVec 32) (ceil : BitVec 16)
      (delay : BitVec 16) (x : LaserCfg), Executes 0x0306 n s ∧ payload s n =
      [BitVec.ofNat 8 b.val, (if en then 1 else 0), g, 0] ++ toLe power 4 ++ toLe ceil 2 ++ toLe delay 2 ∧ g.toNat ≤
      10 ∧ delay.toNat ≤ 12799 ∧ x =
      { en := en, plog := BitVec.ofNat 4 g.toNat, power := power.toNat, iCeil := ceil.toNat, delay := delay.toNat } ∧
      slotsBad s (fun y => { y with laser := y.laser.set b (some x) }) = false ∧ s.envg.shadow.ldI[b].toNat <
      ceil.toNat) ∧
    (∃ (n : Fin 8) (s : State) (en : BitVec 2) (g : Byte) (a : BitVec 16) (b : BitVec 16) (band : BitVec 16)
      (dwell : BitVec 16) (duty : BitVec 16) (x : FuserCfg) (h : Fin 2), Executes 0x0305 n s ∧ payload s n =
      [en.setWidth 8, g, 0, 0] ++ toLe a 2 ++ toLe b 2 ++ toLe band 2 ++ toLe dwell 2 ++ toLe duty 2 ++ [0, 0] ∧
      g.toNat ≤ 10 ∧ band ≠ 0 ∧ dwell.toNat ≤ 60000 ∧ duty.toNat ≤ 1000 ∧ x =
      { en := en, plog := BitVec.ofNat 4 g.toNat, set0 := a.toNat, set1 := b.toNat, band := band.toNat, dwell := dwell.toNat, duty := duty.toNat }
      ∧ slotsBad s (fun y => { y with fuser := some x }) = false ∧ s.envg.shadow.htrDuty[h].toNat < duty.toNat) ∧
    (∃ (n : Fin 8) (s : State) (c : Fin 3) (en : Bool) (g : Byte) (v : BitVec 32) (band : BitVec 16)
      (dwell : BitVec 16) (x : HvCfg), Executes 0x0304 n s ∧ payload s n =
      [BitVec.ofNat 8 c.val, (if en then 1 else 0), g, 0] ++ toLe v 4 ++ toLe band 2 ++ toLe dwell 2 ∧ g.toNat ≤ 10 ∧
      (c = 2 → 0 ≤ v.toInt) ∧ (c ≠ 2 → v.toInt ≤ 0) ∧ v.toInt.natAbs ≤ hvFull c.val ∧ band ≠ 0 ∧ x =
      { en := en, plog := BitVec.ofNat 4 g.toNat, setp := hvMv c.val v.toInt.natAbs, band := max 1 (hvMv c.val band.toNat), dwell := dwell.toNat }
      ∧ slotsBad s (fun y => { y with hv := y.hv.set c (some x) }) = false ∧ s.envg.shadow.hvFb[c].toNat < x.setp +
      x.band) ∧
    (∃ (n : Fin 8) (s : State) (k : Fin 6), Executes 0x0301 n s ∧ fieldLe (payload s n) 0 1 = k.val ∧ motorBad s
      (payload s n) = false ∧
      (s.motors[k].state ≠ .off → s.motors[k].src = (motorOf (payload s n)).src ∧ s.motors[k].pos = (motorOf (payload s n)).pos ∧ s.motors[k].pp.toNat = (motorOf (payload s n)).pp)
      ∧
      (((motorOf (payload s n)).src = 0 ∧ s.envg.shadow.mRpm[k].toNat < fieldLe (payload s n) 4 4) ∨ s.envg.shadow.mI[k].toNat < fieldLe (payload s n) 16 2 ∨ s.envg.shadow.mI[k].toNat < fieldLe (payload s n) 18 2)) ∧
    (∃ (n : Fin 8) (s : State) (k : Fin 6) (mode : BitVec 2), Executes 0x0302 n s ∧ payload s n =
      [BitVec.ofNat 8 k.val, mode.setWidth 8, 0, 0] ∧ mode ≠ 3 ∧ resBusy s n = false) ∧
    (∃ (n : Fin 8) (s : State) (v : BitVec 7) (e : BitVec 7), Executes 0x0307 n s ∧ payload s n =
      [v.setWidth 8, e.setWidth 8, 0, 0] ∧ e ≠ 0 ∧ v.toNat + e.toNat ≤ 64 ∧ (s.fabric.limits &&& 0xFF).toNat ≤ v.toNat
      ∧ v.toNat ≤ ((s.fabric.limits >>> 8) &&& 0xFF).toNat ∧ ((s.fabric.limits >>> 16) &&& 0xFF).toNat ≤ e.toNat ∧
      e.toNat ≤ (s.fabric.limits >>> 24).toNat ∧ resBusy s n = false) := by
  refine ⟨?_, ?_, ?_, ?_, ?_, ?_⟩
  · refine ⟨2, (let s := frame (2 : Fin 8) 0x0306 ([1,1,3,0] ++ toLe (50 : Word) 4 ++ toLe (1000 : BitVec 16) 2 ++ [77,0]) (calm (up State.reset)); inMode 1 {s with envg := {s.envg with shadow := {s.envg.shadow with ldI := Vector.replicate 4 900}}, sinov := {s.sinov with loop := Vector.replicate 32 none, hv := Vector.replicate 3 none, fuser := none, laser := Vector.replicate 4 none}}), 1, true, 3, 50, 1000, 77, ({ en := true, plog := 3, power := 50, iCeil := 1000, delay := 77 } : LaserCfg), ?_⟩
    exact ⟨executes_of (by decide +kernel), by decide +kernel⟩
  · refine ⟨2, (let s := frame (2 : Fin 8) 0x0305 ([3,4,0,0] ++ toLe (1500 : BitVec 16) 2 ++ toLe (1600 : BitVec 16) 2 ++ [4,0,10,0] ++ toLe (950 : BitVec 16) 2 ++ [0,0]) (calm (up State.reset)); inMode 1 {s with envg := {s.envg with shadow := {s.envg.shadow with htrDuty := Vector.replicate 2 900}}, sinov := {s.sinov with loop := Vector.replicate 32 none, hv := Vector.replicate 3 none, fuser := none, laser := Vector.replicate 4 none}}), 3, 4, 1500, 1600, 4, 10, 950, ({ en := 3, plog := 4, set0 := 1500, set1 := 1600, band := 4, dwell := 10, duty := 950 } : FuserCfg), 1, ?_⟩
    exact ⟨executes_of (by decide +kernel), by decide +kernel⟩
  · refine ⟨2, (let s := frame (2 : Fin 8) 0x0304 ([0,1,3,0] ++ toLe (0xFFFFFF00 : Word) 4 ++ [5,0,9,0]) (calm (up State.reset)); inMode 1 {s with envg := {s.envg with shadow := {s.envg.shadow with hvFb := Vector.replicate 3 3}}, sinov := {s.sinov with loop := Vector.replicate 32 none, hv := Vector.replicate 3 none, fuser := none, laser := Vector.replicate 4 none}}), 0, true, 3, 0xFFFFFF00, 5, 9, ({ en := true, plog := 3, setp := hvMv 0 256, band := max 1 (hvMv 0 5), dwell := 9 } : HvCfg), ?_⟩
    exact ⟨executes_of (by decide +kernel), by decide +kernel⟩
  · refine ⟨2, (let s := frame (2 : Fin 8) 0x0301 ([2,1,0,0] ++ toLe (1000 : Word) 4 ++ toLe (1000 : Word) 4 ++ toLe (1000 : Word) 4 ++ [10,0,20,0,0,0,2,0]) (calm (up State.reset)); inMode 1 {s with motors := s.motors.set 2 {s.motors[2] with state := .off}, envg := {s.envg with shadow := {s.envg.shadow with mI := Vector.replicate 6 15, mRpm := Vector.replicate 6 5000}}}), 2, ?_⟩
    exact ⟨executes_of (by decide +kernel), by decide +kernel⟩
  · refine ⟨2, (let s := frame (2 : Fin 8) 0x0302 ([4,2,0,0]) (calm (up State.reset)); inMode 1 s), 4, 2, ?_⟩
    exact ⟨executes_of (by decide +kernel), by decide +kernel⟩
  · refine ⟨2, (let s := frame (2 : Fin 8) 0x0307 ([8,10,0,0]) (calm (up State.reset)); inMode 1 {s with fabric := {s.fabric with limits := 0x20042004}}), 8, 10, ?_⟩
    exact ⟨executes_of (by decide +kernel), by decide +kernel⟩

/-- What the hypotheses of PagesAreAdmitted ask for, clause by clause, is met. -/
theorem witness_pages_are_admitted :
    (∃ (n : Fin 8) (s : State) (x : State), Executes 0x0200 n s ∧ x = tillSync (lapseAdmission s) ∧ TillRoom
      (lapseAdmission s) ∧ forecastHeld s = false ∧ graceClear s = true ∧ pageBad x (payload s n) = false ∧ s.sy.run =
      true ∧ (fcSteps x (descOf (payload s n))).sum ≤ 65535) ∧
    (∃ (n : Fin 8) (s : State), Executes 0x0200 n s ∧ forecastHeld s = true) ∧
    (∃ (n : Fin 8) (s : State), Executes 0x0200 n s ∧ forecastHeld s = false ∧ TillRoom (lapseAdmission s) ∧
      graceClear s = false) ∧
    (∃ (n : Fin 8) (s : State), Executes 0x0200 n s ∧ forecastHeld s = false ∧ TillRoom (lapseAdmission s) ∧
      graceClear s = true ∧ pageBad (tillSync (lapseAdmission s)) (payload s n) = true) ∧
    (∃ (n : Fin 8) (s : State) (x : State) (cs : List (List Item)), Executes 0x0200 n s ∧ forecastHeld s = false ∧ x =
      tillSync (lapseAdmission s) ∧ TillRoom (lapseAdmission s) ∧ graceClear s = true ∧ pageBad x (payload s n) =
      false ∧ s.sy.run = false ∧ cs = checks7 x (descOf (payload s n)) (failA5 x)) ∧
    (∃ (s : State) (x : State) (a : Admission) (cs : List (List Item)), s.sy.fc.busy = true ∧ s.sinov.admitWait = some
      a ∧ a.report = [] ∧ s.sys.mode = 2 ∧ graceClear s = true ∧ TillRoom s ∧ x =
      { fcDone s with sinov := { s.sinov with admitWait := none } } ∧ cs = checks7 x (descOf a.desc) (checkA5 x 0) ∧
      failMask cs = 0) ∧
    (∃ (s : State) (x : State) (a : Admission) (cs : List (List Item)), s.sy.fc.busy = true ∧ s.sinov.admitWait = some
      a ∧ s.sys.mode = 2 ∧ graceClear s = true ∧ x = { fcDone s with sinov := { s.sinov with admitWait := none } } ∧
      cs = checks7 x (descOf a.desc) (checkA5 x 0) ∧ failMask cs ≠ 0) ∧
    (∃ (s : State) (a : Admission), s.sinov.admission = some a) := by
  refine ⟨?_, ?_, ?_, ?_, ?_, ?_, ?_, ?_⟩
  · exact ⟨2,
      (let s := frame (2 : Fin 8) 0x0200 (page) (calm (up State.reset)); ready {s with sinov := {s.sinov with admitWait := none}}),
      _, executes_of (by decide +kernel), rfl, (by unfold TillRoom; decide +kernel), (by decide +kernel),
      (by decide +kernel), (by decide +kernel), (by decide +kernel), (by decide +kernel)⟩
  · refine ⟨2, (let s := frame (2 : Fin 8) 0x0200 (page) (calm (up State.reset)); (fun s : State => {s with sy := {s.sy with fc := {s.sy.fc with busy := true}}}) (ready {s with sinov := {s.sinov with admitWait := none}})), ?_⟩
    exact ⟨executes_of (by decide +kernel), by decide +kernel⟩
  · refine ⟨2, (let s := frame (2 : Fin 8) 0x0200 (page) (calm (up State.reset)); (fun s : State => {s with hub := {s.hub with raised := setBit 0 0x60 true, timerCfg := s.hub.timerCfg.set! 0x60 (1 : Word)}}) (ready {s with sinov := {s.sinov with admitWait := none}})), ?_⟩
    exact ⟨executes_of (by decide +kernel), (by decide +kernel), (by unfold TillRoom; decide +kernel), by decide +kernel⟩
  · refine ⟨2, (let s := frame (2 : Fin 8) 0x0200 ([1,2]) (calm (up State.reset)); ready {s with sinov := {s.sinov with admitWait := none}}), ?_⟩
    exact ⟨executes_of (by decide +kernel), (by decide +kernel), (by unfold TillRoom; decide +kernel), by decide +kernel⟩
  · exact ⟨2,
      (let s := frame (2 : Fin 8) 0x0200 (page) (calm (up State.reset)); (fun s : State => {s with sy := {s.sy with run := false}}) (ready {s with sinov := {s.sinov with admitWait := none}})),
      _, _, executes_of (by decide +kernel), (by decide +kernel), rfl, (by unfold TillRoom; decide +kernel),
      (by decide +kernel), (by decide +kernel), (by decide +kernel), rfl⟩
  · exact
      ⟨(let s := calm (up State.reset); {ready s with sinov := {(ready s).sinov with admitWait := some ({adm 3 0 with desc := page} : Admission)}, sy := {(ready s).sy with fc := {(ready s).sy.fc with busy := true}}}),
      _, ({adm 3 0 with desc := page} : Admission), _, (by decide +kernel), (by decide +kernel), (by decide +kernel),
      (by decide +kernel), (by decide +kernel), (by unfold TillRoom; decide +kernel), rfl, rfl, (by decide +kernel)⟩
  · exact
      ⟨(let s := calm (up State.reset); {ready s with sinov := {(ready s).sinov with admitWait := some ({adm 3 0 with desc := page} : Admission)}, fabric := {s.fabric with allotV := 0}, sy := {(ready s).sy with fc := {(ready s).sy.fc with busy := true}}}),
      _, ({adm 3 0 with desc := page} : Admission), _, (by decide +kernel), (by decide +kernel), (by decide +kernel),
      (by decide +kernel), rfl, rfl, (by decide +kernel)⟩
  · refine ⟨(let s := calm (up State.reset); {s with sinov := {s.sinov with admission := some (adm 3 9 : Admission)}}), (adm 3 9 : Admission), ?_⟩
    decide +kernel

/-- What the hypotheses of PagesAreStartedAndSpoiled ask for, clause by clause, is met. -/
theorem witness_pages_are_started_and_spoiled :
    (∃ (n : Fin 8) (s : State) (a : Admission), Executes 0x0201 n s ∧ s.sinov.admission = some a ∧ a.counter = n ∧
      payload s n = toLe a.handle 2 ++ [0, 0] ∧ s.sy.run = true ∧ (checkA5 s (warmer s)).all itemOk = true ∧
      (checkA7 s).all itemOk = true ∧ (s.docket.st = .idle ∧ s.docket.written = 0 ∨ s.docket.st = .closed) ∧
      s.beam.intlk = true) ∧
    (∃ (n : Fin 8) (s : State) (a : Admission), Executes 0x0201 n s ∧ s.sinov.admission = some a ∧ a.counter ≠ n ∧
      payload s n = toLe a.handle 2 ++ [0, 0]) ∧
    (∃ (n : Fin 8) (s : State) (a : Admission), Executes 0x0202 n s ∧ s.sinov.page = some a ∧ payload s n = toLe
      a.handle 2 ++ [0, 0] ∧ (a.counter = n ∨ s.counters[a.counter].rank < s.counters[n].rank) ∧ s.docket.st = .armed
      ∧ s.docket.spoil = false) ∧
    (∃ (n : Fin 8) (s : State) (a : Admission) (h : BitVec 16), Executes 0x0202 n s ∧ s.sinov.page = some a ∧ payload
      s n = toLe h 2 ++ [0, 0] ∧ h ≠ a.handle) ∧
    (∃ (n : Fin 8) (s : State), Executes 0x0203 n s ∧ payload s n = []) := by
  refine ⟨?_, ?_, ?_, ?_, ?_⟩
  · refine ⟨2, (let s := frame (2 : Fin 8) 0x0201 ([9,0,0,0]) (calm (up State.reset)); dk .closed {ready s with sinov := {(ready s).sinov with admission := some ({adm 2 9 with desc := page} : Admission)}}), ({adm 2 9 with desc := page} : Admission), ?_⟩
    exact ⟨executes_of (by decide +kernel), by decide +kernel⟩
  · refine ⟨2, (let s := frame (2 : Fin 8) 0x0201 ([9,0,0,0]) (calm (up State.reset)); {s with sinov := {s.sinov with admission := some (adm 3 9 : Admission)}}), (adm 3 9 : Admission), ?_⟩
    exact ⟨executes_of (by decide +kernel), by decide +kernel⟩
  · refine ⟨2, (let s := frame (2 : Fin 8) 0x0202 ([9,0,0,0]) (calm (up State.reset)); inMode 3 (dk .armed {s with sinov := {s.sinov with page := some (adm 2 9 : Admission)}})), (adm 2 9 : Admission), ?_⟩
    exact ⟨executes_of (by decide +kernel), by decide +kernel⟩
  · refine ⟨2, (let s := frame (2 : Fin 8) 0x0202 ([10,0,0,0]) (calm (up State.reset)); inMode 3 (dk .armed {s with sinov := {s.sinov with page := some (adm 2 9 : Admission)}})), (adm 2 9 : Admission), 10, ?_⟩
    exact ⟨executes_of (by decide +kernel), by decide +kernel⟩
  · refine ⟨2, (let s := frame (2 : Fin 8) 0x0203 ([]) (calm (up State.reset)); s), ?_⟩
    exact ⟨executes_of (by decide +kernel), by decide +kernel⟩

/-- What the hypotheses of TallyCountsAndPagesEnd ask for, clause by clause, is met. -/
theorem witness_tally_counts_and_pages_end :
    (∃ (m : Master) (s : State), Granted m 0x2F 0x00 1 s ∧ s.docket.st = .idle ∧ s.beam.intlk = true) ∧
    (∃ (m : Master) (s : State), Granted m 0x2F 0x00 2 s ∧ s.docket.st = .armed ∧ s.docket.facetOpen = false) ∧
    (∃ (m : Master) (s : State), Granted m 0x2F 0x00 2 s ∧ s.docket.st = .armed ∧ s.docket.facetOpen = true) ∧
    (∃ (m : Master) (s : State), Granted m 0x2F 0x00 4 s ∧ pageInFlight s = true) ∧
    (∃ (m : Master) (s : State), Granted m 0x2F 0x00 8 s ∧ s.docket.st = .closed) ∧
    (∃ (s : State), s.docket.st = .armed ∧ s.docket.facetOpen = true ∧ s.docket.spoil = false) ∧
    (∃ (s : State), pageInFlight s = true ∧ s.motors[chanIdx s.docket.mediaCh].cmpEn.getLsbD 0 = true ∧
      s.motors[chanIdx s.docket.mediaCh].diagSet = none ∧ s.beam.sync ≠ .acquire) ∧
    (∃ (s : State), s.docket.st = .armed ∧ s.motors[chanIdx s.docket.mediaCh].cmpEn.getLsbD 0 = true ∧
      s.motors[chanIdx s.docket.mediaCh].diagSet = none ∧ s.beam.sync = .acquire ∧ NoAction 0x90 s) ∧
    (∃ (s : State), pageInFlight s = true ∧ s.motors[chanIdx s.docket.mediaCh].cmpEn.getLsbD 1 = true ∧ sinovRuns s =
      true) ∧
    (∃ (s : State), s.docket.st = .spoiled ∧ sinovRuns s = true) := by
  refine ⟨?_, ?_, ?_, ?_, ?_, ?_, ?_, ?_, ?_, ?_⟩
  · refine ⟨.keeper, (let s := calm (up State.reset); {s with beam := {s.beam with intlk := true}}), ?_⟩
    exact ⟨granted_of (by decide +kernel), by decide +kernel⟩
  · refine ⟨.keeper, dk .armed (calm (up State.reset)), ?_⟩
    exact ⟨granted_of (by decide +kernel), by decide +kernel⟩
  · refine ⟨.keeper, (let s := calm (up State.reset); {dk .armed s with docket := {(dk .armed s).docket with facetOpen := true}}), ?_⟩
    exact ⟨granted_of (by decide +kernel), by decide +kernel⟩
  · refine ⟨.keeper, dk .armed (calm (up State.reset)), ?_⟩
    exact ⟨granted_of (by decide +kernel), by decide +kernel⟩
  · refine ⟨.keeper, dk .closed (calm (up State.reset)), ?_⟩
    exact ⟨granted_of (by decide +kernel), by decide +kernel⟩
  · refine ⟨(let s := calm (up State.reset); {s with docket := {s.docket with st := .armed, facetOpen := true, spoil := false}}), ?_⟩
    decide +kernel
  · refine ⟨(let s := calm (up State.reset); {dk .armed s with motors := s.motors.map fun m => {m with cmpEn := 3, diagSet := none}, beam := {s.beam with sync := .run}}), ?_⟩
    decide +kernel
  · refine ⟨(let s := calm (up State.reset); {dk .armed s with motors := s.motors.map fun m => {m with cmpEn := 3, diagSet := none}, beam := {s.beam with sync := .acquire}}), ?_⟩
    exact ⟨(by decide +kernel), (by decide +kernel), (by decide +kernel), (by decide +kernel), noAction_of
      (by decide +kernel)⟩
  · refine ⟨(let s := calm (up State.reset); {dk .armed s with motors := s.motors.map fun m => {m with cmpEn := 2}}), ?_⟩
    decide +kernel
  · refine ⟨dk .spoiled (calm (up State.reset)), ?_⟩
    decide +kernel

/-- What the hypotheses of LinesAddUp ask for, clause by clause, is met. -/
theorem witness_lines_add_up :
    (∃ (m : Master) (s : State), Granted m 0x2F 0x00 4 s ∧ pageInFlight s = true) := by
  refine ⟨.keeper, dk .spoiled (calm (up State.reset)), ?_⟩
  exact ⟨granted_of (by decide +kernel), by decide +kernel⟩

/-- What the hypotheses of SupplyAndRegenerationAreTracked ask for, clause by clause, is met. -/
theorem witness_supply_and_regeneration_are_tracked :
    (∃ (s : State), s.supply.softStart = true) ∧
    (∃ (s : State), s.supply.softDone = true) ∧
    (∃ (s : State), s.hub.present.getLsbD 0x01 = false ∧ Mild 0x01 s) ∧
    (∃ (s : State), s.hub.present.getLsbD 0x05 = false ∧ Mild 0x05 s) ∧
    (∃ (s : State), s.hub.present.getLsbD 0x02 = false ∧ Mild 0x02 s) ∧
    (∃ (s : State), s.rtc.lossMark = false) ∧
    (∃ (s : State), s.supply.history ≠ []) ∧
    (∃ (s : State), backoffOn s = true) ∧
    (∃ (s : State), backoffOn s = false ∧ Mild 0x06 s) := by
  refine ⟨?_, ?_, ?_, ?_, ?_, ?_, ?_, ?_, ?_⟩
  · refine ⟨(let s := calm (up State.reset); {s with supply := {s.supply with softStart := true}}), ?_⟩
    decide +kernel
  · refine ⟨(let s := calm (up State.reset); {s with supply := {s.supply with softDone := true}}), ?_⟩
    decide +kernel
  · refine ⟨calm (up State.reset), ?_⟩
    exact ⟨(by decide +kernel), mild_of (by decide +kernel)⟩
  · refine ⟨calm (up State.reset), ?_⟩
    exact ⟨(by decide +kernel), mild_of (by decide +kernel)⟩
  · refine ⟨calm (up State.reset), ?_⟩
    exact ⟨(by decide +kernel), mild_of (by decide +kernel)⟩
  · refine ⟨(let s := calm (up State.reset); {s with rtc := {s.rtc with lossMark := false}}), ?_⟩
    decide +kernel
  · refine ⟨(let s := calm (up State.reset); {s with supply := {s.supply with history := [1,2,3]}}), ?_⟩
    decide +kernel
  · refine ⟨(let s := calm (up State.reset); {s with supply := {s.supply with softDone := true}}), ?_⟩
    decide +kernel
  · refine ⟨(let s := calm (up State.reset); {s with vregen := 300, supply := {s.supply with vinRegen := false}}), ?_⟩
    exact ⟨(by decide +kernel), mild_of (by decide +kernel)⟩

/-- What the hypotheses of DeviceStartsAndShutsDown ask for, clause by clause, is met. -/
theorem witness_device_starts_and_shuts_down :
    (∃ (s : State), s.supply.vauxGood = true ∧ s.supply.aoValid = false) ∧
    (∃ (s : State), s.ps.phase = .shutdown ∧ allDown s = true ∧ s.supply.aoValid = true ∧ s.ps.offCause = .none ∧
      s.rst.step ≠ .loaderFail) ∧
    (∃ (s : State), s.ps.phase = .shutdown ∧ allDown s = true ∧ s.supply.aoValid = true ∧ s.ps.offCause = .pfw ∧
      s.rst.step ≠ .loaderFail) ∧
    (∃ (s : State), s.supply.aoOnVbkp = true) ∧
    (∃ (s : State), s.ps.pfwSeen = false ∧ s.ps.phase ≠ .dormant ∧ Mild 0x00 s ∧ pageInFlight s = false ∧
      s.ps.offCause = .none ∧ shutOff s = false) ∧
    (∃ (s : State), s.ps.pfwSeen = false ∧ s.ps.phase ≠ .dormant ∧ s.docket.st = .armed ∧ NoAction 0x00 s) ∧
    (∃ (s : State), s.ps.offCause = .pfw ∧ s.ps.phase = .pfw) ∧
    (∃ (s : State) (x : Byte), s.ps.offCause = .pfw ∧ s.ps.tpfwDone = true ∧ s.ps.deferEnd = false ∧
      deferredSet.contains x.toNat = true ∧ entryTurn s x.toNat = true) ∧
    (∃ (s : State) (x : Byte), s.ps.offCause = .pfw ∧ s.ps.tpfwDone = true ∧
      (s.ps.deferEnd = true ∨ deferredSet.contains x.toNat = false) ∧ allTargets.contains x.toNat = true ∧ entryTurn s
      x.toNat = true) ∧
    (∃ (s : State) (x : Byte), s.ps.offCause = .sleep ∧ s.ps.phase = .shutdown ∧ allTargets.contains x.toNat = true ∧
      entryTurn s x.toNat = true) ∧
    (∃ (s : State), s.ps.offCause = .pfw) ∧
    (∃ (s : State), s.ps.offCause = .escOff) ∧
    (∃ (s : State), 8 ≤ s.ps.retry.toNat) ∧
    (∃ (s : State) (w : BitVec 3), s.sinov.sleepReq = some w ∧ s.ps.offCause = .none ∧ shutOff s = false) ∧
    (∃ (s : State) (w : BitVec 3), s.sinov.sleepReq = some w ∧ (s.ps.offCause ≠ .none ∨ shutOff s = true)) := by
  refine ⟨?_, ?_, ?_, ?_, ?_, ?_, ?_, ?_, ?_, ?_, ?_, ?_, ?_, ?_, ?_⟩
  · refine ⟨(let s := calm (up State.reset); {s with supply := {s.supply with vauxGood := true, aoValid := false}}), ?_⟩
    decide +kernel
  · refine ⟨(let s := calm (up State.reset); {s with ps := {s.ps with phase := .shutdown, on := 3, rails := Vector.replicate 12 .off, closing := 0}}), ?_⟩
    decide +kernel
  · refine ⟨(let s := calm (up State.reset); {s with supply := {s.supply with aoValid := true}, ps := {s.ps with phase := .shutdown, on := 3, rails := Vector.replicate 12 .off, closing := 0, offCause := .pfw}}), ?_⟩
    decide +kernel
  · refine ⟨(let s := calm (up State.reset); {s with supply := {s.supply with aoOnVbkp := true}}), ?_⟩
    decide +kernel
  · refine ⟨calm (up State.reset), ?_⟩
    exact ⟨(by decide +kernel), (by decide +kernel), mild_of (by decide +kernel), by decide +kernel⟩
  · refine ⟨(let s := calm (up State.reset); dk .armed s), ?_⟩
    exact ⟨(by decide +kernel), (by decide +kernel), (by decide +kernel), noAction_of (by decide +kernel)⟩
  · refine ⟨(let s := calm (up State.reset); {s with ps := {s.ps with offCause := .pfw, phase := .pfw}}), ?_⟩
    decide +kernel
  · refine ⟨(let s := calm (up State.reset); {s with ps := {s.ps with offCause := .pfw, tpfwDone := true, deferEnd := false}}), (BitVec.ofNat 8 ((deferredSet)[0]?.getD 0) : Byte), ?_⟩
    decide +kernel
  · refine ⟨(let s := calm (up State.reset); {s with ps := {s.ps with offCause := .pfw, tpfwDone := true, deferEnd := false}}), 20, ?_⟩
    decide +kernel
  · refine ⟨(let s := calm (up State.reset); {s with ps := {s.ps with offCause := .sleep, phase := .shutdown, on := setBit 3 19 true, rails := Vector.replicate 12 .off}}), 20, ?_⟩
    decide +kernel
  · refine ⟨(let s := calm (up State.reset); {s with ps := {s.ps with offCause := .pfw}}), ?_⟩
    decide +kernel
  · refine ⟨(let s := calm (up State.reset); {s with ps := {s.ps with offCause := .escOff}}), ?_⟩
    decide +kernel
  · refine ⟨(let s := calm (up State.reset); {s with ps := {s.ps with retry := 8}}), ?_⟩
    decide +kernel
  · refine ⟨(let s := calm (up State.reset); {s with sinov := {s.sinov with sleepReq := some 3}}), 3, ?_⟩
    decide +kernel
  · refine ⟨(let s := calm (up State.reset); {s with sinov := {s.sinov with sleepReq := some 3}, ps := {s.ps with offCause := .pfw}}), 3, ?_⟩
    decide +kernel

/-- What the hypotheses of DomainsAndRailsFollowPowerGood ask for, clause by clause, is met. -/
theorem witness_domains_and_rails_follow_power_good :
    (∃ (s : State) (d : Fin 50), (allTargets.filter fun t => decide (t ≤ 50)).find? (domCloses s) = some (d.val + 1)) ∧
    (∃ (s : State) (d : Fin 50), s.ps.closing.getLsbD d.val = true) ∧
    (∃ (s : State) (d : Fin 50), s.ps.closing.getLsbD d.val = true ∧ quiet s = true ∧ Mild 0x03 s) ∧
    (∃ (s : State) (d : Fin 50), 2 ≤ d.val ∧ domOn s (d.val + 1) = true ∧ quiet s = true ∧ Mild 0x03 s) ∧
    (∃ (s : State) (d : Fin 50), 2 ≤ d.val ∧ domOn s (d.val + 1) = true ∧ s.ps.req.getLsbD d.val = false ∧
      s.ps.runPhase = true) ∧
    (∃ (s : State) (r : Fin 12), s.ps.rails[r] = .settling) ∧
    (∃ (s : State) (r : Fin 12), s.ps.rails[r] = .ramping ∧ quiet s = true ∧ Mild 0x04 s) ∧
    (∃ (s : State) (r : Fin 12), s.ps.rails[r] = .good ∧ quiet s = true ∧ Mild 0x04 s) ∧
    (∃ (s : State) (r : Fin 12), s.ps.rails[r] ≠ .good) ∧
    (∃ (m : Master) (v : Word) (s : State), Granted m 0x01 0x18 v s) ∧
    (∃ (m : Master) (v : Word) (s : State), Granted m 0x01 0x1C v s) ∧
    (∃ (m : Master) (v : Word) (s : State), Granted m 0x01 0x10 v s) ∧
    (∃ (m : Master) (v : Word) (s : State), Granted m 0x01 0x14 v s) ∧
    (∃ (m : Master) (v : Word) (s : State), Granted m 0x01 0x24 v s) := by
  refine ⟨?_, ?_, ?_, ?_, ?_, ?_, ?_, ?_, ?_, ?_, ?_, ?_, ?_, ?_⟩
  · refine ⟨(let s := calm (up State.reset); {s with ps := {s.ps with phase := .boot, runPhase := false, offDelay := false, on := BitVec.ofNat 50 3, closing := 0, fail := 0, rails := Vector.replicate 12 .good, retry := 0, req := BitVec.allOnes 50}}), 2, ?_⟩
    decide +kernel
  · refine ⟨(let s := calm (up State.reset); {s with ps := {s.ps with on := BitVec.ofNat 50 0xFFFFF, closing := setBit 0 20 true}}), 20, ?_⟩
    decide +kernel
  · refine ⟨(let s := calm (up State.reset); {s with ps := {s.ps with on := BitVec.ofNat 50 0xFFFFF, closing := setBit 0 20 true}}), 20, ?_⟩
    exact ⟨(by decide +kernel), (by decide +kernel), mild_of (by decide +kernel)⟩
  · refine ⟨calm (up State.reset), 20, ?_⟩
    exact ⟨(by decide +kernel), (by decide +kernel), (by decide +kernel), mild_of (by decide +kernel)⟩
  · refine ⟨(let s := calm (up State.reset); {s with ps := {s.ps with req := BitVec.ofNat 50 0x80000200F}}), 20, ?_⟩
    decide +kernel
  · refine ⟨(let s := calm (up State.reset); {s with ps := {s.ps with rails := s.ps.rails.set 3 .settling}}), 3, ?_⟩
    decide +kernel
  · refine ⟨(let s := calm (up State.reset); {s with ps := {s.ps with rails := s.ps.rails.set 3 .ramping}}), 3, ?_⟩
    exact ⟨(by decide +kernel), (by decide +kernel), mild_of (by decide +kernel)⟩
  · refine ⟨(let s := calm (up State.reset); {s with ps := {s.ps with rails := s.ps.rails.set 3 .good}}), 3, ?_⟩
    exact ⟨(by decide +kernel), (by decide +kernel), mild_of (by decide +kernel)⟩
  · refine ⟨(let s := calm (up State.reset); {s with ps := {s.ps with rails := s.ps.rails.set 3 .ramping}}), 3, ?_⟩
    decide +kernel
  · refine ⟨.keeper, 0xF0F0, calm (up State.reset), ?_⟩
    exact granted_of (by decide +kernel)
  · refine ⟨.keeper, 0x30F0, calm (up State.reset), ?_⟩
    exact granted_of (by decide +kernel)
  · refine ⟨.keeper, 0xF0F0, calm (up State.reset), ?_⟩
    exact granted_of (by decide +kernel)
  · refine ⟨.keeper, 0x3F0F0, calm (up State.reset), ?_⟩
    exact granted_of (by decide +kernel)
  · refine ⟨.keeper, 0xF0F, calm (up State.reset), ?_⟩
    exact granted_of (by decide +kernel)

/-- What the hypotheses of LinkIsGuarded ask for, clause by clause, is met. -/
theorem witness_link_is_guarded :
    (∃ (s : State) (q : BitVec 16), q ≠ s.hdie.rxSeq ∧ Mild 0xC1 s) ∧
    (∃ (s : State) (_q : BitVec 16), Mild 0xC1 s) ∧
    (∃ (s : State) (_q : BitVec 16) (_body : StatusBody), Mild 0xC1 s) ∧
    (∃ (s : State) (body : StatusBody),
      (s.hdie.safe = true → s.envg.safe = true ∨ s.rst.engHold = true ∨ s.hdie.underHold = true) ∧ body.present = 0) ∧
    (∃ (s : State) (body : StatusBody) (j : Fin 16), (faultRow (0x80 + j.val) 0).map (·.level) = some true ∧
      (s.hdie.safe = true → s.envg.safe = true ∨ s.rst.engHold = true ∨ s.hdie.underHold = true) ∧ body.present =
      BitVec.twoPow 16 j.val ∧ s.hub.present.getLsbD (0x80 + j.val) = false ∧ Mild (BitVec.ofNat 8 (0x80 + j.val)) s) ∧
    (∃ (s : State), Mild 0x94 s) ∧
    (∃ (s : State), s.hub.present.getLsbD 0xC0 = false) ∧
    (∃ (s : State), s.hdie.safe = true ∧ 1000 ≤ s.hdie.validRun ∧ s.rst.engHold = false ∧ s.clk.fb.getLsbD 1 = false ∧
      s.hub.raised.getLsbD 0xC0 = false ∧ s.hub.raised.getLsbD 0x94 = false ∧ (s.sys.mode ≠ 2 ∨ sinovRuns s = false)) ∧
    (∃ (s : State), s.hdie.safe = true ∧ 1000 ≤ s.hdie.validRun ∧ s.rst.engHold = false ∧ s.clk.fb.getLsbD 1 = false ∧
      s.hub.raised.getLsbD 0xC0 = false ∧ s.hub.raised.getLsbD 0x94 = false ∧ s.sys.mode = 2 ∧ sinovRuns s = true) ∧
    (∃ (s : State), (s.hub.raised.getLsbD 0xC0 = true ∨ s.hub.raised.getLsbD 0x94 = true)) ∧
    (∃ (s : State), (s.rst.engHold = true ∨ s.hdie.validRun < 1000 ∨ s.clk.fb.getLsbD 1 = true)) := by
  refine ⟨?_, ?_, ?_, ?_, ?_, ?_, ?_, ?_, ?_, ?_, ?_⟩
  · refine ⟨(let s := calm (up State.reset); {s with hdie := {s.hdie with rxSeq := 6}}), 7, ?_⟩
    exact ⟨(by decide +kernel), mild_of (by decide +kernel)⟩
  · refine ⟨calm (up State.reset), 7, ?_⟩
    exact mild_of (by decide +kernel)
  · refine ⟨calm (up State.reset), 7, sBody, ?_⟩
    exact mild_of (by decide +kernel)
  · refine ⟨(let s := calm (up State.reset); {s with hdie := {s.hdie with safe := false}}), ({sBody with adc := [(3, 77, true)]} : StatusBody), ?_⟩
    decide +kernel
  · refine ⟨(let s := live (calm (up State.reset)); s), ({sBody with present := BitVec.twoPow 16 1} : StatusBody), 1, ?_⟩
    exact ⟨(by decide +kernel), (by decide +kernel), (by decide +kernel), (by decide +kernel), mild_of
      (by decide +kernel)⟩
  · refine ⟨calm (up State.reset), ?_⟩
    exact mild_of (by decide +kernel)
  · refine ⟨(let s := calm (up State.reset); {s with hub := {s.hub with present := 0}}), ?_⟩
    decide +kernel
  · refine ⟨(let s := calm (up State.reset); inMode 1 {s with hdie := {s.hdie with safe := true, validRun := 1000}, rst := {s.rst with engHold := false}, clk := {s.clk with fb := 0}}), ?_⟩
    decide +kernel
  · refine ⟨(let s := calm (up State.reset); {s with hdie := {s.hdie with safe := true, validRun := 1000}, rst := {s.rst with engHold := false}, clk := {s.clk with fb := 0}}), ?_⟩
    decide +kernel
  · refine ⟨(let s := calm (up State.reset); raised 0xC0 s), ?_⟩
    decide +kernel
  · refine ⟨(let s := calm (up State.reset); raised 0xC0 s), ?_⟩
    decide +kernel

/-- What the hypotheses of GuardsTrip ask for, clause by clause, is met. -/
theorem witness_guards_trip :
    (∃ (b : Fin 4) (s : State), s.hub.present.getLsbD (0x80 + b.val) = false) ∧
    (∃ (_c : Fin 3) (s : State), s.hub.present.getLsbD 0x8E = false) ∧
    (∃ (h : Fin 2) (s : State), s.hub.present.getLsbD (0x85 + h.val) = false) ∧
    (∃ (mv : BitVec 12) (s : State), s.hdie.env.tsf.toNat ≤ mv.toNat ∧ mv.toNat ≤ 3200) ∧
    (∃ (mv : BitVec 12) (s : State), (mv.toNat < s.hdie.env.tsf.toNat ∨ 3200 < mv.toNat) ∧ s.hub.present.getLsbD 0x87
      = false) ∧
    (∃ (k : Fin 6) (s : State), shuntSeen s.motors[k] = false) ∧
    (∃ (k : Fin 6) (s : State), shuntSeen s.motors[k] = true) ∧
    (∃ (_k : Fin 6) (s : State), s.hub.present.getLsbD 0x8F = false) := by
  refine ⟨?_, ?_, ?_, ?_, ?_, ?_, ?_, ?_⟩
  · refine ⟨2, calm (up State.reset), ?_⟩
    decide +kernel
  · refine ⟨1, calm (up State.reset), ?_⟩
    decide +kernel
  · refine ⟨1, calm (up State.reset), ?_⟩
    decide +kernel
  · refine ⟨2000, (let s := calm (up State.reset); {s with hdie := {s.hdie with env := {s.hdie.env with tsf := 1500}}}), ?_⟩
    decide +kernel
  · refine ⟨3300, calm (up State.reset), ?_⟩
    decide +kernel
  · refine ⟨3, calm (up State.reset), ?_⟩
    decide +kernel
  · refine ⟨3, (let s := calm (up State.reset); {s with motors := s.motors.set 3 {s.motors[3] with legs := s.motors[3].legs.set 1 {s.motors[3].legs[1] with lo := true}}}), ?_⟩
    decide +kernel
  · refine ⟨3, calm (up State.reset), ?_⟩
    decide +kernel

/-- What the hypotheses of HubActsOnFaults ask for, clause by clause, is met. -/
theorem witness_hub_acts_on_faults :
    (∃ (f : Byte) (s : State), s.hub.timing.getLsbD f.toNat = true ∧ bits (s.hub.timerCfg[f.toNat]?.getD 0) 2 2 =
      (0 : BitVec 2)) ∧
    (∃ (f : Byte) (s : State), s.hub.timing.getLsbD f.toNat = true ∧ bits (s.hub.timerCfg[f.toNat]?.getD 0) 2 2 =
      (2 : BitVec 2) ∧ Asserts 2 s) ∧
    (∃ (f : Byte) (s : State), s.hub.timing.getLsbD f.toNat = true ∧ bits (s.hub.timerCfg[f.toNat]?.getD 0) 2 2 =
      (3 : BitVec 2)) ∧
    (∃ (f : Byte) (s : State), s.hub.timing.getLsbD f.toNat = false) ∧
    (∃ (m : Master) (f : Byte) (s : State), Granted m 0x06 0x60 (f.setWidth 32 ||| 0x100) s) ∧
    (∃ (m : Master) (f : Byte) (s : State), Granted m 0x06 0x60 (f.setWidth 32 ||| 0x200) s ∧ s.outHold.faults = 0 ∧
      (faultPresent s f.toNat = true ∨ expiryWins f.toNat s = true)) ∧
    (∃ (m : Master) (f : Byte) (s : State), Granted m 0x06 0x60 (f.setWidth 32 ||| 0x200) s ∧ s.outHold.faults = 0 ∧
      faultPresent s f.toNat = false ∧ expiryWins f.toNat s = false) ∧
    (∃ (m : Master) (f : Byte) (s : State), Granted m 0x06 0x60 (f.setWidth 32 ||| 0x300) s ∧
      (f = 0xE0 ∨ f = 0xE1 ∨ f = 0xE2 ∨ f = 0xE3) ∧ Mild f s) ∧
    (∃ (m : Master) (f : Byte) (s : State), Granted m 0x06 0x60 (f.setWidth 32 ||| 0x300) s ∧ f.toNat < 0xE0) ∧
    (∃ (m : Master) (s : State), Granted m 0x06 0xA0 1 s) ∧
    (∃ (m : Master) (s : State), Granted m 0x02 0x24 1 s ∧ s.dbg.haltReq = 0 ∧ s.sys.minset = false) ∧
    (∃ (s : State), s.docket.st = .spoiled) ∧
    (∃ (s : State), pageInFlight s = false) ∧
    (∃ (s : State) (bank : BitVec 8) (ofs : BitVec 16), criticalReg s bank.toNat ofs.toNat = false) ∧
    (∃ (s : State) (bank : BitVec 8) (ofs : BitVec 16), criticalReg s bank.toNat ofs.toNat = true ∧ inLoader s = false
      ∧ Asserts 1 s) := by
  refine ⟨?_, ?_, ?_, ?_, ?_, ?_, ?_, ?_, ?_, ?_, ?_, ?_, ?_, ?_, ?_⟩
  · refine ⟨0x92, (let s := calm (up State.reset); {s with hub := {s.hub with timing := setBit 0 0x92 true, timerCfg := s.hub.timerCfg.set! 0x92 (0x1 : Word)}}), ?_⟩
    decide +kernel
  · refine ⟨0x92, (let s := calm (up State.reset); {s with hub := {s.hub with timing := setBit 0 0x92 true, timerCfg := s.hub.timerCfg.set! 0x92 (0x9 : Word)}}), ?_⟩
    exact ⟨(by decide +kernel), (by decide +kernel), (by unfold Asserts; decide +kernel)⟩
  · refine ⟨0x92, (let s := calm (up State.reset); {s with hub := {s.hub with timing := setBit 0 0x92 true, timerCfg := s.hub.timerCfg.set! 0x92 (0xD : Word)}}), ?_⟩
    decide +kernel
  · refine ⟨0x93, (let s := calm (up State.reset); {s with hub := {s.hub with timing := setBit 0 0x92 true, timerCfg := s.hub.timerCfg.set! 0x92 (0 : Word)}}), ?_⟩
    decide +kernel
  · refine ⟨.keeper, 0x92, (let s := calm (up State.reset); raised 0x92 s), ?_⟩
    exact granted_of (by decide +kernel)
  · refine ⟨.keeper, 0x01, (let s := calm (up State.reset); {(raised 0x01 (pres 0x01 s)) with outHold := {s.outHold with faults := 0}}), ?_⟩
    exact ⟨granted_of (by decide +kernel), by decide +kernel⟩
  · refine ⟨.keeper, 0x92, (let s := calm (up State.reset); {(raised 0x92 s) with outHold := {s.outHold with faults := 0}}), ?_⟩
    exact ⟨granted_of (by decide +kernel), by decide +kernel⟩
  · refine ⟨.keeper, 0xE1, calm (up State.reset), ?_⟩
    exact ⟨granted_of (by decide +kernel), (by decide +kernel), mild_of (by decide +kernel)⟩
  · refine ⟨.keeper, 0x21, calm (up State.reset), ?_⟩
    exact ⟨granted_of (by decide +kernel), by decide +kernel⟩
  · refine ⟨.keeper, calm (up State.reset), ?_⟩
    exact granted_of (by decide +kernel)
  · refine ⟨.keeper, (let s := calm (up State.reset); {s with dbg := {s.dbg with haltReq := 0}}), ?_⟩
    exact ⟨granted_of (by decide +kernel), by decide +kernel⟩
  · refine ⟨(let s := calm (up State.reset); dk .spoiled s), ?_⟩
    decide +kernel
  · refine ⟨calm (up State.reset), ?_⟩
    decide +kernel
  · refine ⟨calm (up State.reset), 5, 0x20, ?_⟩
    decide +kernel
  · refine ⟨(let s := calm (up State.reset); {s with supply := {s.supply with aoValid := true}, loader := {s.loader with st := .idle}}), 2, 0x40, ?_⟩
    exact ⟨(by decide +kernel), (by decide +kernel), (by unfold Asserts; decide +kernel)⟩

/-- What the hypotheses of ResetsAssert ask for, clause by clause, is met. -/
theorem witness_resets_assert :
    (∃ (_s : State) (ns : Nat), ns < 1000) ∧
    (∃ (s : State) (ns : Nat), 10000 ≤ ns ∧ aoUp s = true ∧ (shutOff s = true ∨ Asserts 1 s)) ∧
    (∃ (s : State) (ns : Nat), 10000 ≤ ns ∧ aoUp s = true ∧ shutOff s = false ∧ assertable 1 s = false) ∧
    (∃ (s : State), s.sinov.resetReq = some 1 ∧ aoUp s = true ∧ Asserts 1 s) ∧
    (∃ (m : Master) (s : State), Granted m 0x02 0x18 0x5253_0001 s ∧ aoUp s = true ∧ Asserts 1 s) ∧
    (∃ (m : Master) (v : Word) (s : State), Granted m 0x02 0x18 v s ∧ v >>> 16 ≠ 0x5253) ∧
    (∃ (s : State), domOn s 49 = true ∧ aoUp s = true ∧ Asserts 1 s) ∧
    (∃ (s : State), domOn s 49 = false) ∧
    (∃ (_ofs : BitVec 18) (s : State), aoUp s = true ∧ Asserts 1 s) ∧
    (∃ (s : State), s.rst.kwdgRun = true ∧ Asserts 2 s) ∧
    (∃ (s : State), s.rst.kwdgRun = false) ∧
    (∃ (m : Master) (s : State), Granted m 0x02 0x44 0x6B64 s) ∧
    (∃ (m : Master) (v : Word) (s : State), Granted m 0x02 0x44 v s ∧ v ≠ 0x6B64 ∧ s.rst.kwdgRun = true ∧ Asserts 2 s) ∧
    (∃ (m : Master) (s : State), Granted m 0x02 0x18 0x5253_0002 s ∧ Asserts 2 s) ∧
    (∃ (s : State), s.sinov.resetReq = some 2 ∧ Asserts 2 s) ∧
    (∃ (s : State), s.rst.awdgEn = true ∧ s.rst.blk[(0 : Fin 24)] = .none ∧ domOn s 13 = true ∧ releasing s = false ∧
      blockOuts 0 s = []) ∧
    (∃ (s : State), (s.rst.awdgEn = false ∨ releasing s = true ∧ s.rst.blk[(0 : Fin 24)] = .none)) ∧
    (∃ (m : Master) (v : Word) (s : State), Granted m 0x02 0x4C v s) ∧
    (∃ (_ofs : BitVec 18) (s : State), Mild 0x24 s) := by
  refine ⟨?_, ?_, ?_, ?_, ?_, ?_, ?_, ?_, ?_, ?_, ?_, ?_, ?_, ?_, ?_, ?_, ?_, ?_, ?_⟩
  · refine ⟨calm (up State.reset), 500, ?_⟩
    decide +kernel
  · refine ⟨(let s := calm (up State.reset); {s with supply := {s.supply with aoValid := true}, loader := {s.loader with st := .idle}}), 20000, ?_⟩
    exact ⟨(by decide +kernel), (by decide +kernel), .inr (by unfold Asserts; decide +kernel)⟩
  · refine ⟨(let s := calm (up State.reset); {s with rst := {s.rst with step := .rom, kind := 0}}), 20000, ?_⟩
    decide +kernel
  · refine ⟨(let s := calm (up State.reset); {s with sinov := {s.sinov with resetReq := some 1}, supply := {s.supply with aoValid := true}, loader := {s.loader with st := .idle}}), ?_⟩
    exact ⟨(by decide +kernel), (by decide +kernel), (by unfold Asserts; decide +kernel)⟩
  · refine ⟨.keeper, calm (up State.reset), ?_⟩
    exact ⟨granted_of (by decide +kernel), (by decide +kernel), (by unfold Asserts; decide +kernel)⟩
  · refine ⟨.keeper, 0x12340001, calm (up State.reset), ?_⟩
    exact ⟨granted_of (by decide +kernel), by decide +kernel⟩
  · refine ⟨(let s := calm (up State.reset); {s with supply := {s.supply with aoValid := true}, loader := {s.loader with st := .idle}}), ?_⟩
    exact ⟨(by decide +kernel), (by decide +kernel), (by unfold Asserts; decide +kernel)⟩
  · refine ⟨(let s := calm (up State.reset); {s with ps := {s.ps with on := BitVec.ofNat 50 0xFFFF}}), ?_⟩
    decide +kernel
  · refine ⟨0x100, (let s := calm (up State.reset); {s with supply := {s.supply with aoValid := true}, loader := {s.loader with st := .idle}}), ?_⟩
    exact ⟨(by decide +kernel), (by unfold Asserts; decide +kernel)⟩
  · refine ⟨(let s := calm (up State.reset); {s with rst := {s.rst with kwdgRun := true}}), ?_⟩
    exact ⟨(by decide +kernel), (by unfold Asserts; decide +kernel)⟩
  · refine ⟨(let s := calm (up State.reset); {s with rst := {s.rst with kwdgRun := false}}), ?_⟩
    decide +kernel
  · refine ⟨.keeper, calm (up State.reset), ?_⟩
    exact granted_of (by decide +kernel)
  · refine ⟨.keeper, 5, (let s := calm (up State.reset); {s with rst := {s.rst with kwdgRun := true}}), ?_⟩
    exact ⟨granted_of (by decide +kernel), (by decide +kernel), (by decide +kernel), (by unfold Asserts; decide +kernel)⟩
  · refine ⟨.keeper, calm (up State.reset), ?_⟩
    exact ⟨granted_of (by decide +kernel), (by unfold Asserts; decide +kernel)⟩
  · refine ⟨(let s := calm (up State.reset); {s with sinov := {s.sinov with resetReq := some 2}}), ?_⟩
    exact ⟨(by decide +kernel), (by unfold Asserts; decide +kernel)⟩
  · refine ⟨(let s := calm (up State.reset); {s with rst := {s.rst with awdgEn := true}}), ?_⟩
    decide +kernel
  · refine ⟨(let s := calm (up State.reset); {s with rst := {s.rst with awdgEn := false}}), ?_⟩
    decide +kernel
  · refine ⟨.keeper, 9, calm (up State.reset), ?_⟩
    exact granted_of (by decide +kernel)
  · refine ⟨0x100, calm (up State.reset), ?_⟩
    exact mild_of (by decide +kernel)

/-- What the hypotheses of BlocksAndCoresAreReleased ask for, clause by clause, is met. -/
theorem witness_blocks_and_cores_are_released :
    (∃ (m : Master) (v : Word) (_outs : List Access) (s : State), Granted m 0x02 0x1C v s ∧ v >>> 16 ≠ 0x424B) ∧
    (∃ (m : Master) (b : Fin 24) (s : State), Granted m 0x02 0x1C (0x424B_0000 ||| BitVec.ofNat 32 b.val) s ∧
      (s.rst.blk[b] ≠ .none ∨ releasing s = true)) ∧
    (∃ (m : Master) (k : Fin 6) (s : State), Granted m 0x02 0x1C (0x424B_0000 ||| BitVec.ofNat 32 (6 + k.val)) s ∧
      s.rst.blk[(Fin.ofNat 24 (6 + k.val))] = .none ∧ domOn s (35 + k.val) = true ∧ releasing s = false ∧ pageInFlight
      s = false) ∧
    (∃ (b : Fin 24) (s : State), s.rst.blk[b] = .draining ∧ blockOuts b s = []) ∧
    (∃ (b : Fin 24) (s : State), s.rst.blk[b] = .draining ∧ blockOuts b s = [] ∧ Mild 0x23 s) ∧
    (∃ (k : Fin 6) (s : State), s.rst.blk[(Fin.ofNat 24 (6 + k.val))] = .held ∧ s.rst.held = []) ∧
    (∃ (b : Fin 24) (s : State), s.rst.blk[b] = .held ∧ s.rst.held = []) ∧
    (∃ (s : State), s.rst.step = .rom ∧ domOn s 3 = true ∧ domOn s 4 = true ∧ domOn s 14 = true ∧ optAutoReady
      (optRec s) = false) ∧
    (∃ (s : State), s.clk.lock.getLsbD 1 = true ∧ s.clk.fb.getLsbD 1 = true) ∧
    (∃ (s : State), s.rst.step = .sinov ∧ domOn s 17 = true ∧ s.rst.kind = 0 ∧ s.till.busy = false) ∧
    (∃ (s : State), s.rst.step = .sinov ∧ domOn s 17 = false) ∧
    (∃ (m : Master) (v : Word) (s : State), Granted m 0x02 0x24 (v &&& 0x1E) s ∧
      (v &&& 2 = 0 ∨ s.rst.cores.getLsbD 0 = true) ∧ s.dbg.haltReq = 0 ∧ s.sys.minset = false ∧ s.dramc.ready = true) ∧
    (∃ (m : Master) (v : Word) (s : State), Granted m 0x02 0x24 (v &&& 0x1E) s ∧
      (v &&& 2 = 0 ∨ s.rst.cores.getLsbD 0 = true) ∧ s.dbg.haltReq = 0 ∧
      (s.sys.minset = true ∨ s.dramc.ready = false)) ∧
    (∃ (s : State), Granted .keeper 0x02 0x24 2 s ∧ s.crypto.loaded.getLsbD 1 = true ∧ s.dbg.haltReq = 0 ∧
      s.sys.minset = false ∧ s.dramc.ready = true) ∧
    (∃ (m : Master) (s : State), Granted m 0x02 0x24 0x100 s ∧ s.rst.holdRelOpen = true ∧ s.dbg.haltReq = 0) ∧
    (∃ (m : Master) (s : State), Granted m 0x02 0x24 0x100 s ∧ s.rst.holdRelOpen = false ∧ s.dbg.haltReq = 0) := by
  refine ⟨?_, ?_, ?_, ?_, ?_, ?_, ?_, ?_, ?_, ?_, ?_, ?_, ?_, ?_, ?_, ?_⟩
  · refine ⟨.keeper, 0x12340003, [], calm (up State.reset), ?_⟩
    exact ⟨granted_of (by decide +kernel), by decide +kernel⟩
  · refine ⟨.keeper, 9, (let s := calm (up State.reset); {s with rst := {s.rst with blk := s.rst.blk.set 9 .held, held := []}}), ?_⟩
    exact ⟨granted_of (by decide +kernel), by decide +kernel⟩
  · refine ⟨.keeper, 3, calm (up State.reset), ?_⟩
    exact ⟨granted_of (by decide +kernel), by decide +kernel⟩
  · refine ⟨9, (let s := calm (up State.reset); {s with rst := {s.rst with blk := s.rst.blk.set 9 .draining, held := []}}), ?_⟩
    decide +kernel
  · refine ⟨9, (let s := calm (up State.reset); {s with rst := {s.rst with blk := s.rst.blk.set 9 .draining, held := []}}), ?_⟩
    exact ⟨(by decide +kernel), (by decide +kernel), mild_of (by decide +kernel)⟩
  · refine ⟨3, (let s := calm (up State.reset); {s with rst := {s.rst with blk := s.rst.blk.set 9 .held, held := []}}), ?_⟩
    decide +kernel
  · refine ⟨3, (let s := calm (up State.reset); {s with rst := {s.rst with blk := s.rst.blk.set 3 .held, held := []}}), ?_⟩
    decide +kernel
  · refine ⟨(let s := calm (up State.reset); {s with rst := {s.rst with step := .rom}, optshd := Vector.ofFn fun i => romRecord.getD i.val 0}), ?_⟩
    decide +kernel
  · refine ⟨(let s := calm (up State.reset); {s with clk := {s.clk with lock := setBit s.clk.lock 1 true, fb := setBit s.clk.fb 1 true}}), ?_⟩
    decide +kernel
  · refine ⟨(let s := calm (up State.reset); {s with rst := {s.rst with step := .sinov, kind := 0}, till := {s.till with busy := false}}), ?_⟩
    decide +kernel
  · refine ⟨(let s := calm (up State.reset); {s with rst := {s.rst with step := .sinov}, ps := {s.ps with on := 0xFFFF}}), ?_⟩
    decide +kernel
  · refine ⟨.keeper, 0xFF1C, (let s := calm (up State.reset); {s with dbg := {s.dbg with haltReq := 0}, dramc := {s.dramc with ready := true}}), ?_⟩
    exact ⟨granted_of (by decide +kernel), by decide +kernel⟩
  · refine ⟨.keeper, 0xFF1C, (let s := calm (up State.reset); {s with dbg := {s.dbg with haltReq := 0}}), ?_⟩
    exact ⟨granted_of (by decide +kernel), by decide +kernel⟩
  · refine ⟨(let s := calm (up State.reset); {s with dbg := {s.dbg with haltReq := 0}, crypto := {s.crypto with loaded := BitVec.allOnes _}, dramc := {s.dramc with ready := true}}), ?_⟩
    exact ⟨granted_of (by decide +kernel), by decide +kernel⟩
  · refine ⟨.keeper, (let s := calm (up State.reset); {s with rst := {s.rst with holdRelOpen := true}, dbg := {s.dbg with haltReq := 0}}), ?_⟩
    exact ⟨granted_of (by decide +kernel), by decide +kernel⟩
  · refine ⟨.keeper, (let s := calm (up State.reset); {s with rst := {s.rst with holdRelOpen := false}, dbg := {s.dbg with haltReq := 0}}), ?_⟩
    exact ⟨granted_of (by decide +kernel), by decide +kernel⟩

/-- What the hypotheses of LoaderAppliesARecord ask for, clause by clause, is met. -/
theorem witness_loader_applies_a_record :
    (∃ (s : State), s.ps.phase = .boot ∧ s.ps.offDelay = true ∧ s.rst.step ≠ .loaderFail) ∧
    (∃ (s : State) (_r : Bool), inEntry s = true ∧ copyBytes s false = copyBytes s true ∧ copyValid
      (copyBytes s false) false = true) ∧
    (∃ (s : State), inEntry s = true ∧ copyValid (copyBytes s false) false = true ∧ copyValid (copyBytes s true) false
      = false) ∧
    (∃ (s : State) (_r : Bool), inEntry s = true) ∧
    (∃ (s : State), inEntry s = true) ∧
    (∃ (s : State), inEntry s = true ∧ Asserts 1 s) ∧
    (∃ (s : State), s.loader.st = .entry ∧ 3 ≤ s.rst.loadFails.toNat) ∧
    (∃ (s : State) (toB : Bool), Sound s ∧ s.loader.st = .repair toB) ∧
    (∃ (s : State), s.loader.st = .entry ∧ 3 ≤ s.rst.loadFails.toNat) ∧
    (∃ (s : State), s.loader.st = .envXfer ∧ s.loader.outcome = none ∧ s.hdie.lock = false) ∧
    (∃ (s : State), s.loader.st = .envXfer ∧ s.loader.outcome = none ∧ Mild 0x94 s) := by
  refine ⟨?_, ?_, ?_, ?_, ?_, ?_, ?_, ?_, ?_, ?_, ?_⟩
  · refine ⟨(let s := calm (up State.reset); {s with ps := {s.ps with phase := .boot, offDelay := true}}), ?_⟩
    decide +kernel
  · refine ⟨(let s := calm (up State.reset); recAt true (recAt false (entry s))), false, ?_⟩
    decide +kernel
  · refine ⟨(let s := calm (up State.reset); recAt false (entry s)), ?_⟩
    decide +kernel
  · refine ⟨(let s := calm (up State.reset); entry s), true, ?_⟩
    decide +kernel
  · refine ⟨(let s := calm (up State.reset); entry s), ?_⟩
    decide +kernel
  · refine ⟨(let s := calm (up State.reset); entry s), ?_⟩
    exact ⟨(by decide +kernel), (by unfold Asserts; decide +kernel)⟩
  · refine ⟨(let s := calm (up State.reset); {s with loader := {s.loader with st := .entry}, rst := {s.rst with loadFails := 3}}), ?_⟩
    decide +kernel
  · refine ⟨(let s := calm (up State.reset); {s with loader := {s.loader with st := .repair true}}), true, ?_⟩
    exact ⟨(by unfold Sound; decide +kernel), by decide +kernel⟩
  · refine ⟨(let s := calm (up State.reset); {s with loader := {s.loader with st := .entry}, rst := {s.rst with loadFails := 3}}), ?_⟩
    decide +kernel
  · refine ⟨(let s := calm (up State.reset); {s with loader := {s.loader with st := .envXfer, outcome := none}, hdie := {s.hdie with lock := false}}), ?_⟩
    decide +kernel
  · refine ⟨(let s := calm (up State.reset); {s with loader := {s.loader with st := .envXfer, outcome := none}}), ?_⟩
    exact ⟨(by decide +kernel), (by decide +kernel), mild_of (by decide +kernel)⟩

/-- What the hypotheses of ClocksFallBackAndRamp ask for, clause by clause, is met. -/
theorem witness_clocks_fall_back_and_ramp :
    (∃ (p : Fin 4) (s : State), s.clk.lock.getLsbD p.val = true ∧ Mild (BitVec.ofNat 8 (0x40 + p.val)) s) ∧
    (∃ (p : Fin 4) (s : State), s.clk.lock.getLsbD p.val = false) ∧
    (∃ (_p : Fin 4) (s : State), s.clk.refOk = true ∧ sinovRuns s = false) ∧
    (∃ (p : Fin 4) (s : State), s.clk.refOk = true ∧ sinovRuns s = true ∧ p.val < 3) ∧
    (∃ (s : State), s.clk.refOk = true ∧ sinovRuns s = true ∧ s.sys.mode = 2 ∧ pageInFlight s = false ∧
      s.clk.fb.getLsbD 3 = true) ∧
    (∃ (s : State), s.clk.refOk = true ∧ (s.sys.mode ≠ 2 ∨ pageInFlight s = true)) ∧
    (∃ (_p : Fin 4) (s : State), s.clk.refOk = false) ∧
    (∃ (s : State), Mild 0x44 s ∧ (∀ p : Fin 3, Mild (BitVec.ofNat 8 (0x40 + p.val)) s)) ∧
    (∃ (m : Master) (s : State), Granted m 0x04 0x14 2 s ∧ s.clk.lock.getLsbD 1 = true ∧ s.clk.fb.getLsbD 1 = true) ∧
    (∃ (m : Master) (s : State), Granted m 0x04 0x14 1 s ∧ (s.clk.lock.getLsbD 0 = false ∨ s.clk.pfwHold = true)) ∧
    (∃ (m : Master) (v : Word) (s : State), Granted m 0x04 0x10 v s ∧ v.setWidth 4 = (1 : BitVec 4)) ∧
    (∃ (m : Master) (v : Word) (s : State), Granted m 0x04 0x10 v s ∧ v.setWidth 4 ≠ (1 : BitVec 4)) ∧
    (∃ (m : Master) (s : State) (p : Fin 8), Granted m 0x05 0x00 (1 ||| (BitVec.ofNat 32 p.val <<< 4)) s) ∧
    (∃ (m : Master) (s : State), Granted m 0x05 0x00 0 s) ∧
    (∃ (s : State), s.pix.en = true ∧ s.pix.started = true ∧ s.pix.frozen = false ∧ s.pix.holding = false ∧
      s.pix.seg.toNat + 1 < (s.pix.segs[s.pix.profEff] &&& 0x7F).toNat) ∧
    (∃ (s : State), s.pix.en = true ∧ s.pix.started = true ∧ s.pix.frozen = false ∧ s.pix.holding = false ∧
      (s.pix.segs[s.pix.profEff] &&& 0x7F).toNat ≤ s.pix.seg.toNat + 1) ∧
    (∃ (m : Master) (s : State), Granted m 0x05 0x00 (regVal 0x05 0x00 s ||| 0x100) s ∧ s.clk.lock.getLsbD 3 = true ∧
      s.clk.fb.getLsbD 3 = true ∧ s.pix.en = true) := by
  refine ⟨?_, ?_, ?_, ?_, ?_, ?_, ?_, ?_, ?_, ?_, ?_, ?_, ?_, ?_, ?_, ?_, ?_⟩
  · refine ⟨1, (let s := calm (up State.reset); {s with clk := {s.clk with lock := BitVec.allOnes 4}}), ?_⟩
    exact ⟨(by decide +kernel), mild_of (by decide +kernel)⟩
  · refine ⟨1, (let s := calm (up State.reset); {s with clk := {s.clk with lock := 0}}), ?_⟩
    decide +kernel
  · refine ⟨1, (let s := calm (up State.reset); {s with clk := {s.clk with refOk := true}, rst := {s.rst with step := .rom}}), ?_⟩
    decide +kernel
  · refine ⟨1, (let s := calm (up State.reset); {s with clk := {s.clk with refOk := true}}), ?_⟩
    decide +kernel
  · refine ⟨(let s := calm (up State.reset); {s with clk := {s.clk with refOk := true, fb := 8}}), ?_⟩
    decide +kernel
  · refine ⟨(let s := calm (up State.reset); inMode 1 {s with clk := {s.clk with refOk := true}}), ?_⟩
    decide +kernel
  · refine ⟨1, (let s := calm (up State.reset); {s with clk := {s.clk with refOk := false}}), ?_⟩
    decide +kernel
  · refine ⟨calm (up State.reset), ?_⟩
    exact ⟨mild_of (by decide +kernel), fun p => mild_of (by revert p; decide +kernel)⟩
  · refine ⟨.keeper, (let s := calm (up State.reset); {s with clk := {s.clk with lock := BitVec.allOnes 4, fb := BitVec.allOnes 4}}), ?_⟩
    exact ⟨granted_of (by decide +kernel), by decide +kernel⟩
  · refine ⟨.keeper, (let s := calm (up State.reset); {s with clk := {s.clk with lock := 0, fb := BitVec.allOnes 4}}), ?_⟩
    exact ⟨granted_of (by decide +kernel), by decide +kernel⟩
  · refine ⟨.keeper, 0x101, calm (up State.reset), ?_⟩
    exact ⟨granted_of (by decide +kernel), by decide +kernel⟩
  · refine ⟨.keeper, 0x102, calm (up State.reset), ?_⟩
    exact ⟨granted_of (by decide +kernel), by decide +kernel⟩
  · refine ⟨.keeper, (let s := calm (up State.reset); {s with pix := {s.pix with en := false}}), 5, ?_⟩
    exact granted_of (by decide +kernel)
  · refine ⟨.keeper, calm (up State.reset), ?_⟩
    exact granted_of (by decide +kernel)
  · refine ⟨(let s := calm (up State.reset); {s with pix := {s.pix with segs := Vector.replicate 8 4, seg := 2, en := true, started := true, frozen := false, holding := false}}), ?_⟩
    decide +kernel
  · refine ⟨(let s := calm (up State.reset); {s with pix := {s.pix with segs := Vector.replicate 8 4, seg := 3, en := true, started := true, frozen := false, holding := false}}), ?_⟩
    decide +kernel
  · refine ⟨.keeper, (let s := calm (up State.reset); {s with clk := {s.clk with lock := BitVec.allOnes 4, fb := BitVec.allOnes 4}, pix := {s.pix with en := true}}), ?_⟩
    exact ⟨granted_of (by decide +kernel), by decide +kernel⟩

/-- What the hypotheses of VideoAndBeamsObeyTheirEnables ask for, clause by clause, is met. -/
theorem witness_video_and_beams_obey_their_enables :
    (∃ (m : Master) (v : Word) (s : State), Granted m 0x10 0x00 v s ∧ v.getLsbD 0 = false ∧ s.video.en = true) ∧
    (∃ (m : Master) (v : Word) (s : State), Granted m 0x10 0x00 v s ∧ v.getLsbD 0 = true ∧ s.video.en = true) ∧
    (∃ (m : Master) (v : Word) (s : State), Granted m 0x10 0x00 v s ∧ v.getLsbD 0 = true ∧ s.video.en = false) ∧
    (∃ (s : State) (l : LineSlot), burstReady s = true ∧ fetchSlot s.video = some l ∧ regionOf (burstAddr s.video l) =
      .dram ∧ dramUp s = true) ∧
    (∃ (s : State), burstReady s = false) ∧
    (∃ (s : State) (l : LineSlot), burstReady s = true ∧ fetchSlot s.video = some l ∧ Mild 0x60 s) ∧
    (∃ (m : Master) (v : Word) (s : State), Granted m 0x11 0x00 v s ∧ v.getLsbD 0 = false ∧ s.beam.en = true) ∧
    (∃ (m : Master) (v : Word) (s : State), Granted m 0x11 0x00 v s ∧ v.getLsbD 0 = true ∧ s.beam.en = true) ∧
    (∃ (m : Master) (v : Word) (s : State), Granted m 0x11 0x00 v s ∧ v.getLsbD 0 = true ∧ s.beam.en = false) ∧
    (∃ (s : State), (syncNow s = .idle ∨ pageInFlight s = false)) ∧
    (∃ (s : State), s.beam.sync ≠ .idle ∧ s.docket.st = .armed ∧ NoAction 0x90 s) ∧
    (∃ (b : Fin 4) (s : State) (d : BitVec 11), s.beam.ld[b].diagLevel = some d ∧ s.beam.diag = true ∧ s.beam.sync =
      .idle ∧ canLight s b = true) ∧
    (∃ (b : Fin 4) (s : State), s.beam.ld[b].diagLevel = none) := by
  refine ⟨?_, ?_, ?_, ?_, ?_, ?_, ?_, ?_, ?_, ?_, ?_, ?_, ?_⟩
  · refine ⟨.keeper, 0, (let s := calm (up State.reset); {s with video := {s.video with en := true}}), ?_⟩
    exact ⟨granted_of (by decide +kernel), by decide +kernel⟩
  · refine ⟨.keeper, 1, (let s := calm (up State.reset); {s with video := {s.video with en := true}}), ?_⟩
    exact ⟨granted_of (by decide +kernel), by decide +kernel⟩
  · refine ⟨.keeper, 1, (let s := calm (up State.reset); {s with video := {s.video with en := false}}), ?_⟩
    exact ⟨granted_of (by decide +kernel), by decide +kernel⟩
  · refine ⟨(let s := calm (up State.reset); {s with dramc := {s.dramc with ready := true, selfRef := false}, video := {s.video with en := true, running := true, fifo := [], fetched := 0, lines := 9, stride := 64, base := 0x80000000, granted := 1}}), (let s : State := (let s := calm (up State.reset); {s with dramc := {s.dramc with ready := true, selfRef := false}, video := {s.video with en := true, running := true, fifo := [], fetched := 0, lines := 9, stride := 64, base := 0x80000000, granted := 1}}); (fetchSlot s.video).getD lslot), ?_⟩
    decide +kernel
  · refine ⟨calm (up State.reset), ?_⟩
    decide +kernel
  · refine ⟨(let s := calm (up State.reset); {s with dramc := {s.dramc with ready := true, selfRef := false}, video := {s.video with en := true, running := true, fifo := [], fetched := 0, lines := 9, stride := 64, base := 0x80000000, granted := 1}}), (let s : State := (let s := calm (up State.reset); {s with dramc := {s.dramc with ready := true, selfRef := false}, video := {s.video with en := true, running := true, fifo := [], fetched := 0, lines := 9, stride := 64, base := 0x80000000, granted := 1}}); (fetchSlot s.video).getD lslot), ?_⟩
    exact ⟨(by decide +kernel), (by decide +kernel), mild_of (by decide +kernel)⟩
  · refine ⟨.keeper, 0, (let s := calm (up State.reset); {s with beam := {s.beam with en := true}}), ?_⟩
    exact ⟨granted_of (by decide +kernel), by decide +kernel⟩
  · refine ⟨.keeper, 1, (let s := calm (up State.reset); {s with beam := {s.beam with en := true}}), ?_⟩
    exact ⟨granted_of (by decide +kernel), by decide +kernel⟩
  · refine ⟨.keeper, 1, (let s := calm (up State.reset); {s with beam := {s.beam with en := false}}), ?_⟩
    exact ⟨granted_of (by decide +kernel), by decide +kernel⟩
  · refine ⟨calm (up State.reset), ?_⟩
    decide +kernel
  · refine ⟨(let s := calm (up State.reset); {s with beam := {s.beam with sync := .run}, docket := {s.docket with st := .armed, facetOpen := false, spoil := false}}), ?_⟩
    exact ⟨(by decide +kernel), (by decide +kernel), noAction_of (by decide +kernel)⟩
  · refine ⟨2, (let s := live (calm (up State.reset)); {s with beam := {s.beam with intlk := true, diag := true, sync := .idle, ld := s.beam.ld.set 2 {s.beam.ld[2] with en := true, diagLevel := some 100, ceilReq := 500}}, hdie := {s.hdie with env := {s.hdie.env with ldI := Vector.replicate 4 900}}, thrCopy := Vector.replicate 12 800, outHold := {s.outHold with ldNew := 0}, clk := {s.clk with fb := 0}}), 100, ?_⟩
    decide +kernel
  · refine ⟨2, (let s := calm (up State.reset); {s with beam := {s.beam with ld := s.beam.ld.set 2 {s.beam.ld[2] with diagLevel := none}}}), ?_⟩
    decide +kernel

/-- What the hypotheses of FacetsSynchroniseAndEmit ask for, clause by clause, is met. -/
theorem witness_facets_synchronise_and_emit :
    (∃ (e : BdEdge) (_ms : List (BitVec 12)) (s : State), edgeSelected e s = true ∧ s.beam.sync = .acquire ∧
      s.beam.pulse = true ∧ s.beam.firstEdge = false) ∧
    (∃ (e : BdEdge) (_ms : List (BitVec 12)) (s : State), edgeSelected e s = true ∧ s.beam.sync = .acquire ∧
      s.beam.gate = true ∧ s.beam.edgeSeen = false ∧ s.beam.firstEdge = true ∧ 3 ≤ s.beam.lockCount) ∧
    (∃ (e : BdEdge) (_ms : List (BitVec 12)) (s : State), edgeSelected e s = true ∧ s.beam.sync = .run ∧ s.beam.gate =
      true ∧ s.beam.edgeSeen = false ∧ s.docket.st = .armed ∧ s.docket.facetOpen = false) ∧
    (∃ (e : BdEdge) (_ms : List (BitVec 12)) (s : State),
      (s.beam.sync = .idle ∨ edgeSelected e s = false ∨ (s.beam.pulse = false ∧ s.beam.gate = false))) ∧
    (∃ (s : State), s.beam.sync = .idle) ∧
    (∃ (s : State), s.beam.sync ≠ .idle) ∧
    (∃ (s : State), s.beam.sync = .acquire ∧ s.beam.firstEdge = false) ∧
    (∃ (s : State), s.beam.pulse = true) ∧
    (∃ (s : State), (s.beam.sync = .locked ∨ s.beam.sync = .run) ∧ s.beam.gate = false) ∧
    (∃ (s : State), s.beam.gate = true ∧ s.beam.edgeSeen = true) ∧
    (∃ (s : State), s.beam.gate = true ∧ s.beam.edgeSeen = false ∧ s.beam.sync = .acquire) ∧
    (∃ (s : State), s.beam.gate = true ∧ s.beam.edgeSeen = false ∧ s.beam.sync = .locked ∧ Mild 0x90 s) ∧
    (∃ (s : State), s.beam.gate = true ∧ s.beam.edgeSeen = false ∧ s.beam.sync = .run ∧ s.docket.st = .armed ∧
      NoAction 0x90 s) ∧
    (∃ (s : State), s.beam.bdChk = true ∧ (s.beam.sync = .locked ∨ s.beam.sync = .run) ∧ Mild 0x90 s) ∧
    (∃ (s : State), s.beam.bdChk = false) ∧
    (∃ (s : State) (ls : List (List Byte)), s.beam.linesDue = true ∧ facetLines s = some ls) ∧
    (∃ (s : State), s.beam.linesDue = true ∧ facetLines s = none ∧ s.docket.st = .armed ∧ NoAction 0x91 s) ∧
    (∃ (s : State), s.beam.linesDue = false) ∧
    (∃ (s : State), s.docket.st = .armed ∧ s.docket.facetOpen = true ∧ s.docket.spoil = false) := by
  refine ⟨?_, ?_, ?_, ?_, ?_, ?_, ?_, ?_, ?_, ?_, ?_, ?_, ?_, ?_, ?_, ?_, ?_, ?_, ?_⟩
  · refine ⟨{ bd1 := false, falling := true, cycles := 7 }, [0,0,0,0], (let s := calm (up State.reset); {s with beam := {s.beam with bdSrc := false, bdEdge := true, sync := .acquire, pulse := true, firstEdge := false}}), ?_⟩
    decide +kernel
  · refine ⟨{ bd1 := false, falling := true, cycles := 7 }, [0,0,0,0], (let s := calm (up State.reset); {s with beam := {s.beam with bdSrc := false, bdEdge := true, sync := .acquire, gate := true, edgeSeen := false, firstEdge := true, lockCount := 3}}), ?_⟩
    decide +kernel
  · refine ⟨{ bd1 := false, falling := true, cycles := 7 }, [0,0,0,0], (let s := calm (up State.reset); {s with beam := {s.beam with bdSrc := false, bdEdge := true, sync := .run, gate := true, edgeSeen := false}, docket := {s.docket with st := .armed, facetOpen := false, spoil := false}}), ?_⟩
    decide +kernel
  · refine ⟨{ bd1 := false, falling := true, cycles := 7 }, [0,0,0,0], (let s := calm (up State.reset); {s with beam := {s.beam with bdSrc := false, bdEdge := true, sync := .idle}}), ?_⟩
    decide +kernel
  · refine ⟨(let s := calm (up State.reset); {s with beam := {s.beam with bdSrc := false, bdEdge := true, sync := .idle}}), ?_⟩
    decide +kernel
  · refine ⟨(let s := calm (up State.reset); {s with beam := {s.beam with bdSrc := false, bdEdge := true, sync := .run}}), ?_⟩
    decide +kernel
  · refine ⟨(let s := calm (up State.reset); {s with beam := {s.beam with sync := .acquire, firstEdge := false}}), ?_⟩
    decide +kernel
  · refine ⟨(let s := calm (up State.reset); {s with beam := {s.beam with pulse := true}}), ?_⟩
    decide +kernel
  · refine ⟨(let s := calm (up State.reset); {s with beam := {s.beam with sync := .run, gate := false}}), ?_⟩
    decide +kernel
  · refine ⟨(let s := calm (up State.reset); {s with beam := {s.beam with gate := true, edgeSeen := true}}), ?_⟩
    decide +kernel
  · refine ⟨(let s := calm (up State.reset); {s with beam := {s.beam with gate := true, edgeSeen := false, sync := .acquire}}), ?_⟩
    decide +kernel
  · refine ⟨(let s := calm (up State.reset); {s with beam := {s.beam with gate := true, edgeSeen := false, sync := .locked}}), ?_⟩
    exact ⟨(by decide +kernel), (by decide +kernel), (by decide +kernel), mild_of (by decide +kernel)⟩
  · refine ⟨(let s := calm (up State.reset); {s with beam := {s.beam with gate := true, edgeSeen := false, sync := .run}, docket := {s.docket with st := .armed, facetOpen := false, spoil := false}}), ?_⟩
    exact ⟨(by decide +kernel), (by decide +kernel), (by decide +kernel), (by decide +kernel), noAction_of
      (by decide +kernel)⟩
  · refine ⟨(let s := calm (up State.reset); {s with beam := {s.beam with bdChk := true, sync := .run}}), ?_⟩
    exact ⟨(by decide +kernel), (by decide +kernel), mild_of (by decide +kernel)⟩
  · refine ⟨(let s := calm (up State.reset); {s with beam := {s.beam with bdChk := false}}), ?_⟩
    decide +kernel
  · refine ⟨(let s := calm (up State.reset); {s with beam := {s.beam with linesDue := true, beams := 1, facets := 1}, video := {s.video with fifo := [{lslot with full := true}]}}), (let s : State := (let s := calm (up State.reset); {s with beam := {s.beam with linesDue := true, beams := 1, facets := 1}, video := {s.video with fifo := [{lslot with full := true}]}}); (facetLines s).getD []), ?_⟩
    decide +kernel
  · refine ⟨(let s := calm (up State.reset); {s with beam := {s.beam with linesDue := true}, docket := {s.docket with st := .armed, facetOpen := false, spoil := false}}), ?_⟩
    exact ⟨(by decide +kernel), (by decide +kernel), (by decide +kernel), noAction_of (by decide +kernel)⟩
  · refine ⟨(let s := calm (up State.reset); {s with beam := {s.beam with linesDue := false}}), ?_⟩
    decide +kernel
  · refine ⟨(let s := calm (up State.reset); {s with docket := {s.docket with st := .armed, facetOpen := true, spoil := false}}), ?_⟩
    decide +kernel

/-- What the hypotheses of MotorsStartAndCoast ask for, clause by clause, is met. -/
theorem witness_motors_start_and_coast :
    (∃ (m : Master) (k : Fin 6) (s : State), Granted m (0x12 + k.val) 0x04 1 s ∧ s.motors[k].en = true ∧ motStill
      s.motors[k] = true ∧ 10 ≤ ((bits s.motors[k].curcfg 16 8 : Byte)).toNat ∧ gatesBlocked s k = false ∧
      s.hdie.mFast.getLsbD k.val = false) ∧
    (∃ (m : Master) (k : Fin 6) (s : State), Granted m (0x12 + k.val) 0x04 1 s ∧
      (s.motors[k].en = false ∨ gatesBlocked s k = true ∨ s.hdie.mFast.getLsbD k.val = true)) ∧
    (∃ (m : Master) (k : Fin 6) (mode : BitVec 2) (s : State), Granted m (0x12 + k.val) 0x04
      (2 ||| (mode.setWidth 32 <<< 2)) s) ∧
    (∃ (k : Fin 6) (s : State), s.motors[k].state = .align ∧ s.motors[k].pos = 0) ∧
    (∃ (k : Fin 6) (s : State), s.motors[k].state = .align ∧ s.motors[k].pos ≠ 0 ∧ s.motors[k].alignOnly = false) ∧
    (∃ (k : Fin 6) (cpr : Nat) (s : State), s.motors[k].state = .learn ∧ s.motors[k].alignOnly = false ∧ 64 ≤ cpr ∧
      cpr ≤ 65536 ∧ s.motors[k].pp ≠ 0 ∧ cpr % s.motors[k].pp.toNat = 0) ∧
    (∃ (k : Fin 6) (cpr : Nat) (s : State), s.motors[k].state = .learn ∧
      (cpr < 64 ∨ 65536 < cpr ∨ s.motors[k].pp = 0 ∨ cpr % s.motors[k].pp.toNat ≠ 0) ∧ Mild 0x93 s) ∧
    (∃ (k : Fin 6) (s : State), encoderOn s k = true ∧ s.motors[k].cprValid = true ∧ Mild 0x93 s) ∧
    (∃ (k : Fin 6) (s : State), encoderOn s k = true ∧ Mild 0x93 s) ∧
    (∃ (k : Fin 6) (s : State), s.motors[k].en = true ∧ (s.motors[k].pos = 1 ∨ s.motors[k].pos = 2) ∧
      s.motors[k].posErr = false ∧ Mild 0x93 s) ∧
    (∃ (k : Fin 6) (s : State), stalled s k = true ∧ Mild 0x93 s) ∧
    (∃ (k : Fin 6) (s : State), stalled s k = false) := by
  refine ⟨?_, ?_, ?_, ?_, ?_, ?_, ?_, ?_, ?_, ?_, ?_, ?_⟩
  · refine ⟨.keeper, 2, (let s := live (calm (up State.reset)); {s with motors := s.motors.set 2 {Motor.reset with en := true, curcfg := 0x140000}}), ?_⟩
    exact ⟨granted_of (by decide +kernel), by decide +kernel⟩
  · refine ⟨.keeper, 2, (let s := calm (up State.reset); {s with motors := s.motors.set 2 {s.motors[2] with en := false}}), ?_⟩
    exact ⟨granted_of (by decide +kernel), by decide +kernel⟩
  · refine ⟨.keeper, 2, 1, calm (up State.reset), ?_⟩
    exact granted_of (by decide +kernel)
  · refine ⟨2, (let s := calm (up State.reset); {s with motors := s.motors.set 2 {s.motors[2] with state := .align, pos := 0}}), ?_⟩
    decide +kernel
  · refine ⟨2, (let s := calm (up State.reset); {s with motors := s.motors.set 2 {s.motors[2] with state := .align, pos := 1, alignOnly := false}}), ?_⟩
    decide +kernel
  · refine ⟨2, 4000, (let s := calm (up State.reset); {s with motors := s.motors.set 2 {s.motors[2] with state := .learn, alignOnly := false, pp := 4}}), ?_⟩
    decide +kernel
  · refine ⟨2, 40, (let s := calm (up State.reset); {s with motors := s.motors.set 2 {s.motors[2] with state := .learn, alignOnly := false}}), ?_⟩
    exact ⟨(by decide +kernel), (by decide +kernel), mild_of (by decide +kernel)⟩
  · refine ⟨2, (let s := calm (up State.reset); {s with motors := s.motors.set 2 {s.motors[2] with en := true, cprValid := true, pos := 0, state := .run}}), ?_⟩
    exact ⟨(by decide +kernel), (by decide +kernel), mild_of (by decide +kernel)⟩
  · refine ⟨2, (let s := calm (up State.reset); {s with motors := s.motors.set 2 {s.motors[2] with en := true, cprValid := true, pos := 0, state := .run}}), ?_⟩
    exact ⟨(by decide +kernel), mild_of (by decide +kernel)⟩
  · refine ⟨2, (let s := calm (up State.reset); {s with motors := s.motors.set 2 {s.motors[2] with en := true, pos := 2}}), ?_⟩
    exact ⟨(by decide +kernel), (by decide +kernel), (by decide +kernel), mild_of (by decide +kernel)⟩
  · refine ⟨2, (let s := calm (up State.reset); {s with motors := s.motors.set 2 {s.motors[2] with en := true, cprValid := true, pos := 0, state := .run}}), ?_⟩
    exact ⟨(by decide +kernel), mild_of (by decide +kernel)⟩
  · refine ⟨2, (let s := calm (up State.reset); {s with motors := s.motors.set 2 {s.motors[2] with state := .off}}), ?_⟩
    decide +kernel

/-- What the hypotheses of MotorsRegulateAndGatesAreSafe ask for, clause by clause, is met. -/
theorem witness_motors_regulate_and_gates_are_safe :
    (∃ (k : Fin 6) (_rpm : BitVec 16) (_d : Word) (io : MotInputs) (s : State),
      (s.motors[k].state = .run ∨ s.motors[k].state = .decel) ∧ resGood io.res = true ∧
      (pageInFlight s = false ∨ s.motors[k].cmpEn = 0)) ∧
    (∃ (k : Fin 6) (_rpm : BitVec 16) (_d : Word) (io : MotInputs) (s : State), s.motors[k].state = .off ∧ resGood
      io.res = true ∧ pageInFlight s = false) ∧
    (∃ (k : Fin 6) (s : State), (s.motors[k].src = 2 ∨ s.motors[k].src = 3)) ∧
    (∃ (k : Fin 6) (s : State), s.motors[k].state = .decel ∧ gatesBlocked s k = false) ∧
    (∃ (k : Fin 6) (s : State), s.motors[k].state = .brake ∧ s.sinov.motor[k].any (fun c => c.startDue) = false) ∧
    (∃ (k : Fin 6) (c : MotorCfg) (s : State), s.motors[k].state = .brake ∧ s.sinov.motor[k] = some c ∧ c.startDue =
      true ∧ s.sys.mode = 2) ∧
    (∃ (k : Fin 6) (s : State), s.docket.st = .armed ∧ chanIdx s.docket.mediaCh = k ∧ s.motors[k].state = .run ∧
      s.motors[k].reached = true ∧ s.motors[k].speed.toNat * 100 < omegaSet s k * 80 ∧ s.motors[k].slow = false ∧
      NoAction 0x92 s) ∧
    (∃ (_k : Fin 6) (s : State), pageInFlight s = false) ∧
    (∃ (k : Fin 6) (_x : Fin 3) (s : State), motRunning s.motors[k] = true ∧ gatesBlocked s k = false) ∧
    (∃ (k : Fin 6) (x : Fin 3) (s : State), s.motors[k].legs[x].hi = true ∧ motRunning s.motors[k] = true ∧
      gatesBlocked s k = false) ∧
    (∃ (k : Fin 6) (x : Fin 3) (s : State), s.motors[k].legs[x].hi = false) ∧
    (∃ (k : Fin 6) (x : Fin 3) (s : State), s.motors[k].legs[x].bsLow = true) ∧
    (∃ (k : Fin 6) (_sh : List Int) (s : State), gatesBlocked s k = true) ∧
    (∃ (k : Fin 6) (_sh : List Int) (s : State), motRunning s.motors[k] = true) ∧
    (∃ (k : Fin 6) (_sh : List Int) (s : State), s.motors[k].state = .brake ∧ gatesBlocked s k = false) ∧
    (∃ (_mv : Nat) (s : State), s.sinov.diag[(15 : Fin 16)] ≠ none) ∧
    (∃ (_mv : Nat) (s : State), s.sinov.diag[(15 : Fin 16)] = none ∧ (dumpBlocked s = true ∨ dumpEnabled s = false)) ∧
    (∃ (_mv : Nat) (s : State), s.sinov.diag[(15 : Fin 16)] = none ∧ dumpBlocked s = false ∧ dumpEnabled s = true) := by
  refine ⟨?_, ?_, ?_, ?_, ?_, ?_, ?_, ?_, ?_, ?_, ?_, ?_, ?_, ?_, ?_, ?_, ?_, ?_⟩
  · refine ⟨2, 100, 50, ({ pin := none, res := { amp := 1000, err := 10 } } : MotInputs), (let s := calm (up State.reset); {s with motors := s.motors.set 2 {s.motors[2] with state := .run}}), ?_⟩
    decide +kernel
  · refine ⟨2, 100, 50, ({ pin := none, res := { amp := 1000, err := 10 } } : MotInputs), (let s := calm (up State.reset); {s with motors := s.motors.set 2 {s.motors[2] with state := .off}}), ?_⟩
    decide +kernel
  · refine ⟨2, (let s := calm (up State.reset); {s with motors := s.motors.set 2 {s.motors[2] with src := 2}}), ?_⟩
    decide +kernel
  · refine ⟨2, (let s := live (calm (up State.reset)); {s with motors := s.motors.set 2 {s.motors[2] with state := .decel}}), ?_⟩
    decide +kernel
  · refine ⟨2, (let s := calm (up State.reset); {s with motors := s.motors.set 2 {s.motors[2] with state := .brake}, sinov := {s.sinov with motor := Vector.replicate 6 none}}), ?_⟩
    decide +kernel
  · refine ⟨2, ({motCfg with startDue := true} : MotorCfg), (let s := calm (up State.reset); {s with motors := s.motors.set 2 {s.motors[2] with state := .brake}, sinov := {s.sinov with motor := Vector.replicate 6 (some {motCfg with startDue := true})}, sys := {s.sys with mode := 2}}), ?_⟩
    decide +kernel
  · refine ⟨2, (let s := calm (up State.reset); {s with motors := s.motors.set 2 {s.motors[2] with en := true, state := .run, reached := true, slow := false, speedReq := 1000, speed := 5}, docket := {s.docket with st := .armed, mediaCh := 2}, hdie := {s.hdie with env := {s.hdie.env with mRpm := Vector.replicate 6 5000}}, envg := {s.envg with shadow := {s.envg.shadow with mRpm := Vector.replicate 6 5000}}}), ?_⟩
    exact ⟨(by decide +kernel), (by decide +kernel), (by decide +kernel), (by decide +kernel), (by decide +kernel),
      (by decide +kernel), noAction_of (by decide +kernel)⟩
  · refine ⟨2, calm (up State.reset), ?_⟩
    decide +kernel
  · refine ⟨2, 1, (let s := live (calm (up State.reset)); {s with motors := s.motors.set 2 {s.motors[2] with en := true, state := .run}}), ?_⟩
    decide +kernel
  · refine ⟨2, 1, (let s := live (calm (up State.reset)); {s with motors := s.motors.set 2 {s.motors[2] with en := true, state := .run, legs := s.motors[2].legs.set 1 {s.motors[2].legs[1] with hi := true, lo := false}}}), ?_⟩
    decide +kernel
  · refine ⟨2, 1, (let s := calm (up State.reset); {s with motors := s.motors.set 2 {s.motors[2] with en := true, state := .run, legs := s.motors[2].legs.set 1 {s.motors[2].legs[1] with hi := false}}}), ?_⟩
    decide +kernel
  · refine ⟨2, 1, (let s := calm (up State.reset); {s with motors := s.motors.set 2 {s.motors[2] with en := true, state := .run, legs := s.motors[2].legs.set 1 {s.motors[2].legs[1] with bsLow := true}}}), ?_⟩
    decide +kernel
  · refine ⟨2, [1,2,3], (let s := calm (up State.reset); {s with motors := s.motors.set 2 {s.motors[2] with en := true, state := .run}, rst := {s.rst with engHold := true}}), ?_⟩
    decide +kernel
  · refine ⟨2, [1,2,3], (let s := calm (up State.reset); {s with motors := s.motors.set 2 {s.motors[2] with en := true, state := .run}, rst := {s.rst with engHold := true}}), ?_⟩
    decide +kernel
  · refine ⟨2, [1,2,3], (let s := live (calm (up State.reset)); {s with motors := s.motors.set 2 {s.motors[2] with state := .brake}}), ?_⟩
    decide +kernel
  · refine ⟨12000, (let s := calm (up State.reset); {s with sinov := {s.sinov with diag := Vector.replicate 16 (some 5)}}), ?_⟩
    decide +kernel
  · refine ⟨12000, (let s := calm (up State.reset); {s with sinov := {s.sinov with diag := Vector.replicate 16 none}, hdie := {s.hdie with safe := true}}), ?_⟩
    decide +kernel
  · refine ⟨12000, (let s := live (calm (up State.reset)); {s with sinov := {s.sinov with diag := Vector.replicate 16 none}, motors := Vector.replicate 6 {s.motors[3] with en := true, dumpEn := true}, vregen := 200}), ?_⟩
    decide +kernel

/-- What the hypotheses of LoopsAndHeatersRun ask for, clause by clause, is met. -/
theorem witness_loops_and_heaters_run :
    (∃ (m : Master) (s : State), Granted m 0x19 0x04 1 s ∧ 1024 < loopUtil s.loops.loops) ∧
    (∃ (m : Master) (s : State), Granted m 0x19 0x04 1 s ∧ loopUtil s.loops.loops ≤ 1024) ∧
    (∃ (s : State), s.loops.applyDue = false) ∧
    (∃ (s : State), s.loops.applyDue = true) ∧
    (∃ (n : Fin 32) (s : State), 9 ≤ n.val ∧ s.loops.en = true ∧ s.loops.loops[n].actEn = true ∧ domOn s 30 = true ∧
      s.loops.loops[n].insel.toNat < 36 ∧ s.adc.valid.getLsbD s.loops.loops[n].insel.toNat = true) ∧
    (∃ (n : Fin 32) (s : State), 9 ≤ n.val ∧ s.loops.en = true ∧ s.loops.loops[n].actEn = true ∧ domOn s 30 = true ∧
      s.loops.loops[n].insel.toNat < 36 ∧ s.adc.valid.getLsbD s.loops.loops[n].insel.toNat = false) ∧
    (∃ (b : Fin 4) (s : State), s.beam.ld[b].drive.toNat ≤ (ceilOf s b).toNat) ∧
    (∃ (n : Fin 32) (s : State), (s.loops.en = false ∨ s.loops.loops[n].actEn = false ∨ domOn s 30 = false)) ∧
    (∃ (h : Fin 2) (_mean : BitVec 16) (s : State), s.fuser.htr[h].on = true) ∧
    (∃ (h : Fin 2) (_mean : BitVec 16) (s : State), s.fuser.htr[h].on = false) := by
  refine ⟨?_, ?_, ?_, ?_, ?_, ?_, ?_, ?_, ?_, ?_⟩
  · refine ⟨.keeper, (let s := calm (up State.reset); {s with loops := {s.loops with loops := Vector.replicate 32 {s.loops.loops[3] with en := true, plog := 0}}}), ?_⟩
    exact ⟨granted_of (by decide +kernel), by decide +kernel⟩
  · refine ⟨.keeper, (let s := calm (up State.reset); {s with loops := {s.loops with loops := LoopEng.reset.loops}}), ?_⟩
    exact ⟨granted_of (by decide +kernel), by decide +kernel⟩
  · refine ⟨(let s := calm (up State.reset); {s with loops := {s.loops with applyDue := false}}), ?_⟩
    decide +kernel
  · refine ⟨(let s := calm (up State.reset); {s with loops := {s.loops with applyDue := true}}), ?_⟩
    decide +kernel
  · refine ⟨12, (let s := calm (up State.reset); {s with loops := {s.loops with en := true, loops := s.loops.loops.set 12 {s.loops.loops[12] with actEn := true, insel := 3}}, adc := {s.adc with valid := BitVec.allOnes 36}}), ?_⟩
    decide +kernel
  · refine ⟨12, (let s := calm (up State.reset); {s with loops := {s.loops with en := true, loops := s.loops.loops.set 12 {s.loops.loops[12] with actEn := true, insel := 3}}, adc := {s.adc with valid := 0}}), ?_⟩
    decide +kernel
  · refine ⟨2, (let s := calm (up State.reset); {s with beam := {s.beam with ld := s.beam.ld.set 2 {s.beam.ld[2] with drive := 0}}}), ?_⟩
    decide +kernel
  · refine ⟨12, (let s := calm (up State.reset); {s with loops := {s.loops with en := false}}), ?_⟩
    decide +kernel
  · refine ⟨1, 77, (let s := calm (up State.reset); {s with fuser := {s.fuser with htr := s.fuser.htr.set 1 {s.fuser.htr[1] with on := true}}}), ?_⟩
    decide +kernel
  · refine ⟨1, 77, (let s := calm (up State.reset); {s with fuser := {s.fuser with htr := s.fuser.htr.set 1 {s.fuser.htr[1] with on := false}}}), ?_⟩
    decide +kernel

/-- What the hypotheses of SteelyardEvaluatesAndSensorsAreChecked ask for, clause by clause, is met. -/
theorem witness_steelyard_evaluates_and_sensors_are_checked :
    (∃ (m : Master) (v : Word) (s : State), Granted m 0x1C 0x00 v s ∧ v.getLsbD 0 = false) ∧
    (∃ (m : Master) (v : Word) (s : State), Granted m 0x1C 0x00 v s ∧ v.getLsbD 0 = true ∧ s.sy.run = true) ∧
    (∃ (m : Master) (v : Word) (n : Fin 16) (s : State), Granted m 0x1C 0x00 v s ∧ v.getLsbD 0 = true ∧ s.sy.run =
      false ∧ unstableNode s.sy = some n) ∧
    (∃ (m : Master) (v : Word) (s : State), Granted m 0x1C 0x00 v s ∧ v.getLsbD 0 = true ∧ s.sy.run = false ∧
      unstableNode s.sy = none) ∧
    (∃ (m : Master) (s : State), Granted m 0x1C 0x0C 1 s ∧ s.sy.fc.busy = false ∧ fcTotal s.sy.fc ≤ 65535) ∧
    (∃ (m : Master) (s : State), Granted m 0x1C 0x0C 1 s ∧ (s.sy.fc.busy = true ∨ 65535 < fcTotal s.sy.fc)) ∧
    (∃ (_meas : List Nat) (s : State), s.sy.run = true ∧ domOn s 30 = true ∧ Mild 0xA0 s ∧ Mild 0xA4 s) ∧
    (∃ (_meas : List Nat) (s : State), (s.sy.run = false ∨ domOn s 30 = false)) ∧
    (∃ (_rs : List (Nat × Nat)) (s : State), Mild 0xA2 s) ∧
    (∃ (i : Fin 8) (s : State), s.sy.run = true ∧ 100 ≤ s.sy.ts[i].outRun ∧ s.hub.present.getLsbD 0xA1 = false ∧ Mild
      0xA1 s) ∧
    (∃ (i : Fin 8) (s : State), (s.sy.run = false ∨ s.sy.ts[i].outRun < 100)) ∧
    (∃ (i : Fin 8) (s : State), s.sy.run = true ∧ 100 ≤ s.sy.ts[i].inRun ∧
      (∀ j : Fin 8, j ≠ i → s.sy.ts[j].disagree = false)) ∧
    (∃ (s : State), s.hub.present.getLsbD 0xA3 = false ∧ Mild 0xA3 s) := by
  refine ⟨?_, ?_, ?_, ?_, ?_, ?_, ?_, ?_, ?_, ?_, ?_, ?_, ?_⟩
  · refine ⟨.keeper, 0, calm (up State.reset), ?_⟩
    exact ⟨granted_of (by decide +kernel), by decide +kernel⟩
  · refine ⟨.keeper, 1, (let s := calm (up State.reset); {s with sy := {s.sy with run := true}}), ?_⟩
    exact ⟨granted_of (by decide +kernel), by decide +kernel⟩
  · refine ⟨.keeper, 1, (let s : State := (let s := calm (up State.reset); {s with sy := {s.sy with run := false, nodes := Vector.replicate 16 {s.sy.nodes[3] with cap := 1, ncfg := 0}, couple := Vector.replicate 32 0xFFFF0010}}); (unstableNode s.sy).getD 0), (let s := calm (up State.reset); {s with sy := {s.sy with run := false, nodes := Vector.replicate 16 {s.sy.nodes[3] with cap := 1, ncfg := 0}, couple := Vector.replicate 32 0xFFFF0010}}), ?_⟩
    exact ⟨granted_of (by decide +kernel), by decide +kernel⟩
  · refine ⟨.keeper, 1, (let s := calm (up State.reset); {s with sy := {s.sy with run := false, nodes := Vector.replicate 16 Node.reset}}), ?_⟩
    exact ⟨granted_of (by decide +kernel), by decide +kernel⟩
  · refine ⟨.keeper, (let s := calm (up State.reset); {s with sy := {s.sy with fc := {s.sy.fc with busy := false, steps := Vector.replicate 4 2}}}), ?_⟩
    exact ⟨granted_of (by decide +kernel), by decide +kernel⟩
  · refine ⟨.keeper, (let s := calm (up State.reset); {s with sy := {s.sy with fc := {s.sy.fc with busy := true}}}), ?_⟩
    exact ⟨granted_of (by decide +kernel), by decide +kernel⟩
  · refine ⟨[3,4], (let s := calm (up State.reset); {s with sy := {s.sy with run := true}}), ?_⟩
    exact ⟨(by decide +kernel), (by decide +kernel), mild_of (by decide +kernel), mild_of (by decide +kernel)⟩
  · refine ⟨[], (let s := calm (up State.reset); {s with sy := {s.sy with run := false}}), ?_⟩
    decide +kernel
  · refine ⟨[(3,100)], calm (up State.reset), ?_⟩
    exact mild_of (by decide +kernel)
  · refine ⟨3, (let s := calm (up State.reset); {s with sy := {s.sy with run := true, ts := s.sy.ts.set 3 {s.sy.ts[3] with outRun := 100}}}), ?_⟩
    exact ⟨(by decide +kernel), (by decide +kernel), (by decide +kernel), mild_of (by decide +kernel)⟩
  · refine ⟨3, (let s := calm (up State.reset); {s with sy := {s.sy with run := false}}), ?_⟩
    decide +kernel
  · refine ⟨3, (let s := calm (up State.reset); {s with sy := {s.sy with run := true, ts := s.sy.ts.map fun x => {x with inRun := 100, disagree := false}}}), ?_⟩
    decide +kernel
  · refine ⟨calm (up State.reset), ?_⟩
    exact ⟨(by decide +kernel), mild_of (by decide +kernel)⟩

/-- What the hypotheses of RecordsCommitOrTear ask for, clause by clause, is met. -/
theorem witness_records_commit_or_tear :
    (∃ (m : Master) (rsv : Bool) (s : State), Granted m 0x1E 0x00 (if rsv then 5 else 1) s ∧ s.sinov.wants = [] ∧
      engineFree rsv s = true) ∧
    (∃ (m : Master) (rsv : Bool) (s : State), Granted m 0x1E 0x00 (if rsv then 5 else 1) s ∧ s.till.busy = true) ∧
    (∃ (s : State) (rcd : List Byte), Sound s ∧ s.till.op = .commit rcd ∧ s.sinov.inEngine = false ∧ Mild 0xE2 s) ∧
    (∃ (s : State) (rcd : List Byte), s.till.op = .commit rcd ∧ s.sinov.inEngine = false ∧ Mild 0xE2 s ∧ Mild 0xE0 s) ∧
    (∃ (s : State) (rcd : List Byte) (w : Want) (n : Fin 8), s.till.op = .commit rcd ∧ s.sinov.inEngine = true ∧
      s.sinov.wants = [w] ∧ w.cont = .replySeq n ∧ s.ps.offCause ≠ .escOff ∧ Mild 0xE2 s) := by
  refine ⟨?_, ?_, ?_, ?_, ?_⟩
  · refine ⟨.keeper, true, (let s := calm (up State.reset); {(till s) with till := {(till s).till with busy := false}}), ?_⟩
    exact ⟨granted_of (by decide +kernel), by decide +kernel⟩
  · refine ⟨.keeper, true, (let s := calm (up State.reset); {(till s) with till := {(till s).till with busy := true}}), ?_⟩
    exact ⟨granted_of (by decide +kernel), by decide +kernel⟩
  · refine ⟨(let s := calm (up State.reset); {(till s) with till := {(till s).till with op := .commit (List.replicate 256 3)}}), (List.replicate 256 3 : List Byte), ?_⟩
    exact ⟨(by unfold Sound; decide +kernel), (by decide +kernel), (by decide +kernel), mild_of (by decide +kernel)⟩
  · refine ⟨(let s := calm (up State.reset); {(till s) with till := {(till s).till with op := .commit (List.replicate 256 3)}}), (List.replicate 256 3 : List Byte), ?_⟩
    exact ⟨(by decide +kernel), (by decide +kernel), mild_of (by decide +kernel), mild_of (by decide +kernel)⟩
  · refine ⟨(let s := calm (up State.reset); {(frame 2 0x0701 [] (till s)) with till := {(till s).till with op := .commit (List.replicate 256 3)}, sinov := {s.sinov with inEngine := true, wants := [{dumWant with cont := .replySeq 2}]}}), (List.replicate 256 3 : List Byte), ({dumWant with cont := .replySeq 2} : Want), 2, ?_⟩
    exact ⟨(by decide +kernel), (by decide +kernel), (by decide +kernel), (by decide +kernel), (by decide +kernel),
      mild_of (by decide +kernel)⟩

/-- What the hypotheses of LedgerReleasesAndScans ask for, clause by clause, is met. -/
theorem witness_ledger_releases_and_scans :
    (∃ (m : Master) (rsv : Bool) (s : State), Granted m 0x1E 0x00 (if rsv then 6 else 2) s ∧ s.sinov.wants = [] ∧
      releaseFree rsv s.till.upto s = true) ∧
    (∃ (m : Master) (rsv : Bool) (s : State), Granted m 0x1E 0x00 (if rsv then 6 else 2) s ∧ s.till.busy = true) ∧
    (∃ (s : State) (rcd : List Byte) (u : BitVec 64), s.till.op = .release rcd u ∧ s.sinov.inEngine = false ∧ Mild
      0xE2 s) ∧
    (∃ (s : State), 4 ≤ s.till.tornRun ∧ s.till.stopped = false ∧ s.sinov.wants = [] ∧ s.till.scanned = true ∧ Mild
      0xE2 s) ∧
    (∃ (m : Master) (s : State), Granted m 0x1E 0x00 3 s ∧ s.till.busy = false) ∧
    (∃ (m : Master) (s : State), Granted m 0x1E 0x00 3 s ∧ s.till.busy = true) ∧
    (∃ (s : State), s.till.op = .scan ∧ s.rst.step ≠ .sinov ∧ (scanAll s).bad = 0 ∧ (scanAll s).head < 2 ^ 63 ∧
      (slotBytes s ((scanAll s).head + 1)).all (· == 0) = true ∧ Mild 0xE2 s) ∧
    (∃ (s : State) (q : Nat), walking s = true ∧ nextBreak s = some q ∧ Mild 0xE1 s) ∧
    (∃ (s : State), (walking s = false ∨ nextBreak s = none)) ∧
    (∃ (s : State), walking s = true ∧ nextBreak s = none) ∧
    (∃ (s : State), (walking s = false ∨ nextBreak s ≠ none)) := by
  refine ⟨?_, ?_, ?_, ?_, ?_, ?_, ?_, ?_, ?_, ?_, ?_⟩
  · refine ⟨.keeper, true, (let s := calm (up State.reset); {(till s) with till := {(till s).till with busy := false, upto := 10}}), ?_⟩
    exact ⟨granted_of (by decide +kernel), by decide +kernel⟩
  · refine ⟨.keeper, true, (let s := calm (up State.reset); {(till s) with till := {(till s).till with busy := true}}), ?_⟩
    exact ⟨granted_of (by decide +kernel), by decide +kernel⟩
  · refine ⟨(let s := calm (up State.reset); {(till s) with till := {(till s).till with op := .release (List.replicate 256 3) 10}}), (List.replicate 256 3 : List Byte), 10, ?_⟩
    exact ⟨(by decide +kernel), (by decide +kernel), mild_of (by decide +kernel)⟩
  · refine ⟨(let s := calm (up State.reset); {(till s) with till := {(till s).till with tornRun := 4, stopped := false}}), ?_⟩
    exact ⟨(by decide +kernel), (by decide +kernel), (by decide +kernel), (by decide +kernel), mild_of
      (by decide +kernel)⟩
  · refine ⟨.keeper, (let s := calm (up State.reset); {(till s) with till := {(till s).till with busy := false}}), ?_⟩
    exact ⟨granted_of (by decide +kernel), by decide +kernel⟩
  · refine ⟨.keeper, (let s := calm (up State.reset); {(till s) with till := {(till s).till with busy := true}}), ?_⟩
    exact ⟨granted_of (by decide +kernel), by decide +kernel⟩
  · refine ⟨(let s := calm (up State.reset); {s with till := {s.till with op := .scan}, mem := [], rst := {s.rst with step := .running}}), ?_⟩
    exact ⟨(by decide +kernel), (by decide +kernel), (by rw [scan_blank rfl]), (by rw [scan_blank rfl]; decide +kernel),
      (slot_blank rfl), mild_of (by decide +kernel)⟩
  · refine ⟨(let s := calm (up State.reset); {s with rst := {s.rst with kind := 0}, till := {s.till with scanned := true, walkDone := false, walkAt := 5, head := 5, oldest := 1}, mem := Mem.writeAll [] (slotAddr 5 + 252) (toLe commitWord 4)}), 5, ?_⟩
    exact ⟨(by decide +kernel), (by decide +kernel), mild_of (by decide +kernel)⟩
  · refine ⟨(let s := calm (up State.reset); {s with till := {s.till with scanned := true, oldest := 2, head := 1}}), ?_⟩
    decide +kernel
  · refine ⟨(let s := calm (up State.reset); {s with till := {s.till with scanned := true, oldest := 2, head := 1}}), ?_⟩
    decide +kernel
  · refine ⟨(let s := calm (up State.reset); {s with till := {s.till with scanned := false}}), ?_⟩
    decide +kernel

/-- What the hypotheses of TimeIsKeptAndLost ask for, clause by clause, is met. -/
theorem witness_time_is_kept_and_lost :
    (∃ (m : Master) (s : State), Granted m 0x1F 0x10 1 s) ∧
    (∃ (m : Master) (s : State), Granted m 0x1F 0x30 1 s) ∧
    (∃ (s : State), s.rtc.pending = true ∧ s.clk.ao32Ok = true ∧ s.sinov.timeWait = none) ∧
    (∃ (s : State), s.clk.ao32Ok = false) ∧
    (∃ (s : State) (n : Fin 8), s.rtc.pending = true ∧ s.clk.ao32Ok = true ∧ s.sinov.timeWait = some n) ∧
    (∃ (s : State), s.rtc.pending = false ∧ s.clk.ao32Ok = true) ∧
    (∃ (s : State), s.rtc.pending = true ∧ s.clk.ao32Ok = true ∧ s.sinov.timeWait = none) ∧
    (∃ (s : State), s.rtc.alarmEn = true ∧ s.rtc.alarm.toNat ≤ s.rtc.sec.toNat ∧ s.rtc.alarmDone = false ∧ s.ps.phase
      ≠ .dormant) ∧
    (∃ (s : State), s.rtc.alarmEn = true ∧ s.rtc.alarm.toNat ≤ s.rtc.sec.toNat ∧ s.rtc.alarmDone = false ∧ s.ps.phase
      = .dormant ∧ s.ps.wakeEn.getLsbD 0 = true ∧ Asserts 1 s) ∧
    (∃ (s : State), (s.rtc.alarmEn = false ∨ s.rtc.sec.toNat < s.rtc.alarm.toNat ∨ s.rtc.alarmDone = true)) ∧
    (∃ (s : State), s.supply.aoOnVbkp = true ∧ s.hub.present.getLsbD 0xE3 = false ∧ Mild 0xE3 s) ∧
    (∃ (s : State), s.supply.aoOnVbkp = false) ∧
    (∃ (s : State), s.hub.present.getLsbD 0xE3 = false ∧ Mild 0xE3 s) ∧
    (∃ (s : State), s.rtc.lossMark = true ∧ s.hub.present.getLsbD 0xE3 = false ∧ Mild 0xE3 s) ∧
    (∃ (s : State), sinovRuns s = false ∧ s.hub.present.getLsbD 0x45 = false ∧ s.hub.present.getLsbD 0xE3 = false ∧
      Mild 0x45 s ∧ Mild 0xE3 s) ∧
    (∃ (m : Master) (s : State), Granted m 0x1F 0x34 1 s) := by
  refine ⟨?_, ?_, ?_, ?_, ?_, ?_, ?_, ?_, ?_, ?_, ?_, ?_, ?_, ?_, ?_, ?_⟩
  · refine ⟨.keeper, calm (up State.reset), ?_⟩
    exact granted_of (by decide +kernel)
  · refine ⟨.keeper, calm (up State.reset), ?_⟩
    exact granted_of (by decide +kernel)
  · refine ⟨(let s := calm (up State.reset); {s with rtc := {s.rtc with pending := true}, clk := {s.clk with ao32Ok := true}, sinov := {s.sinov with timeWait := none}}), ?_⟩
    decide +kernel
  · refine ⟨(let s := calm (up State.reset); {s with supply := {s.supply with aoOnVbkp := false}}), ?_⟩
    decide +kernel
  · refine ⟨(let s := calm (up State.reset); {s with rtc := {s.rtc with pending := true}, clk := {s.clk with ao32Ok := true}, sinov := {s.sinov with timeWait := some 3}}), 3, ?_⟩
    decide +kernel
  · refine ⟨(let s := calm (up State.reset); {s with rtc := {s.rtc with pending := false}, clk := {s.clk with ao32Ok := true}}), ?_⟩
    decide +kernel
  · refine ⟨(let s := calm (up State.reset); {s with rtc := {s.rtc with pending := true}, clk := {s.clk with ao32Ok := true}, sinov := {s.sinov with timeWait := none}}), ?_⟩
    decide +kernel
  · refine ⟨(let s := calm (up State.reset); {s with rtc := {s.rtc with alarmEn := true, alarm := 5, sec := 9, alarmDone := false}}), ?_⟩
    decide +kernel
  · refine ⟨(let s := calm (up State.reset); {s with rtc := {s.rtc with alarmEn := true, alarm := 5, sec := 9, alarmDone := false}, ps := {s.ps with phase := .dormant, wakeEn := BitVec.allOnes _}}), ?_⟩
    exact ⟨(by decide +kernel), (by decide +kernel), (by decide +kernel), (by decide +kernel), (by decide +kernel),
      (by unfold Asserts; decide +kernel)⟩
  · refine ⟨(let s := calm (up State.reset); {s with rtc := {s.rtc with alarmEn := false}}), ?_⟩
    decide +kernel
  · refine ⟨(let s := calm (up State.reset); {s with supply := {s.supply with aoOnVbkp := true}}), ?_⟩
    exact ⟨(by decide +kernel), (by decide +kernel), mild_of (by decide +kernel)⟩
  · refine ⟨(let s := calm (up State.reset); {s with supply := {s.supply with aoOnVbkp := false}}), ?_⟩
    decide +kernel
  · refine ⟨calm (up State.reset), ?_⟩
    exact ⟨(by decide +kernel), mild_of (by decide +kernel)⟩
  · refine ⟨(let s := calm (up State.reset); {s with rtc := {s.rtc with lossMark := true}}), ?_⟩
    exact ⟨(by decide +kernel), (by decide +kernel), mild_of (by decide +kernel)⟩
  · refine ⟨(let s := calm (up State.reset); {s with rst := {s.rst with step := .boot}}), ?_⟩
    exact ⟨(by decide +kernel), (by decide +kernel), (by decide +kernel), mild_of (by decide +kernel), mild_of
      (by decide +kernel)⟩
  · refine ⟨.keeper, calm (up State.reset), ?_⟩
    exact granted_of (by decide +kernel)

/-- What the hypotheses of RegistersHoldPairsAndTimePasses ask for, clause by clause, is met. -/
theorem witness_registers_hold_pairs_and_time_passes :
    (∃ (m : Master) (bank : Nat) (off : Nat) (s : State), bank < 0x31 ∧ off < 0x1_0000 ∧ off % 4 = 0 ∧ pairWith bank
      off = [off + 4] ∧ ReadGranted m bank off s) ∧
    (∃ (m : Master) (k : Fin 256) (v : Word) (s : State), Granted m 0x00 (0x100 + 4 * k.val) v s) ∧
    (∃ (m : Master) (n : Fin 8) (k : Fin 64) (v : Word) (s : State), Granted m 0x08 (0x400 * n.val + 4 * k.val) v s ∧
      (s.counters[n].stage = .idle ∨ s.counters[n].stage = .done)) ∧
    (∃ (m : Master) (b : Fin 4) (q : Fin 4) (v : Word) (s : State), Granted m (0x22 + b.val) (0x20 + 4 * q.val) v s ∧
      s.gpio[b].lockStat = 0 ∧ unheld s b = 0xFFFF_FFFF) ∧
    (∃ (s : State), s.pending = []) := by
  refine ⟨?_, ?_, ?_, ?_, ?_⟩
  · refine ⟨.keeper, 0x08, 0x0210, calm (up State.reset), ?_⟩
    exact ⟨(by decide +kernel), (by decide +kernel), (by decide +kernel), (by decide +kernel), readGranted_of
      (by decide +kernel)⟩
  · refine ⟨.keeper, 200, 5, calm (up State.reset), ?_⟩
    exact granted_of (by decide +kernel)
  · refine ⟨(.acore 2 : Master), 2, 7, 0x12345678, calm (up State.reset), ?_⟩
    exact ⟨granted_of (by decide +kernel), by decide +kernel⟩
  · refine ⟨.keeper, 1, 2, 0xFFFFFFFF, (let s := calm (up State.reset); {s with gpio := s.gpio.map fun g => {g with held := 0, lockStat := 0}}), ?_⟩
    exact ⟨granted_of (by decide +kernel), by decide +kernel⟩
  · refine ⟨(let s := calm (up State.reset); {s with pending := []}), ?_⟩
    decide +kernel

/-- What the hypotheses of DigestsAndSignaturesAreMade ask for, clause by clause, is met. -/
theorem witness_digests_and_signatures_are_made :
    (∃ (m : Master) (v : Word) (s : State), Granted m 0x21 0x00 (v ||| 1) s ∧ s.crypto.shaBusy = false ∧ v.getLsbD 1 =
      false) ∧
    (∃ (m : Master) (v : Word) (s : State), Granted m 0x21 0x00 (v ||| 1) s ∧ s.crypto.shaBusy = true) ∧
    (∃ (m : Master) (v : Word) (s : State), Granted m 0x21 0x08 v s ∧ s.crypto.shaBusy = false) ∧
    (∃ (m : Master) (v : Word) (s : State), Granted m 0x21 0x08 v s ∧ s.crypto.shaBusy = true) ∧
    (∃ (m : Master) (k : BitVec 2) (s : State), Granted m 0x21 0x00 ((k.setWidth 32 <<< 16) ||| 2) s ∧
      s.crypto.shaBusy = false) ∧
    (∃ (s : State), s.crypto.shaFinal = true) ∧
    (∃ (m : Master) (n : Fin 8) (s : State), Granted m 0x21 0xC0 (BitVec.ofNat 32 n.val ||| 0x100) s ∧
      s.crypto.loaded.getLsbD n.val = false) ∧
    (∃ (m : Master) (n : Fin 8) (s : State), Granted m 0x21 0xC0 (BitVec.ofNat 32 n.val ||| 0x100) s ∧
      s.crypto.loaded.getLsbD n.val = true) ∧
    (∃ (m : Master) (s : State), Granted m 0x21 0x40 1 s ∧ s.crypto.signBusy = false) ∧
    (∃ (m : Master) (s : State), Granted m 0x21 0x40 2 s ∧ s.crypto.signBusy = false) ∧
    (∃ (m : Master) (s : State), Granted m 0x21 0x40 1 s ∧ s.crypto.signBusy = true) ∧
    (∃ (s : State), s.crypto.signBusy = true ∧ s.crypto.signOp = 2) ∧
    (∃ (s : State), s.crypto.signBusy = true ∧ s.crypto.signOp = 1) ∧
    (∃ (s : State), s.crypto.signBusy = false) := by
  refine ⟨?_, ?_, ?_, ?_, ?_, ?_, ?_, ?_, ?_, ?_, ?_, ?_, ?_, ?_⟩
  · refine ⟨.keeper, 0x10000, (let s := calm (up State.reset); {s with crypto := {s.crypto with shaBusy := false}}), ?_⟩
    exact ⟨granted_of (by decide +kernel), by decide +kernel⟩
  · refine ⟨.keeper, 0x10000, (let s := calm (up State.reset); {s with crypto := {s.crypto with shaBusy := true}}), ?_⟩
    exact ⟨granted_of (by decide +kernel), by decide +kernel⟩
  · refine ⟨.keeper, 0x12345678, (let s := calm (up State.reset); {s with crypto := {s.crypto with shaBusy := false}}), ?_⟩
    exact ⟨granted_of (by decide +kernel), by decide +kernel⟩
  · refine ⟨.keeper, 1, (let s := calm (up State.reset); {s with crypto := {s.crypto with shaBusy := true}}), ?_⟩
    exact ⟨granted_of (by decide +kernel), by decide +kernel⟩
  · refine ⟨.keeper, 2, (let s := calm (up State.reset); {s with crypto := {s.crypto with shaBusy := false}}), ?_⟩
    exact ⟨granted_of (by decide +kernel), by decide +kernel⟩
  · refine ⟨(let s := calm (up State.reset); {s with crypto := {s.crypto with shaFinal := true}}), ?_⟩
    decide +kernel
  · refine ⟨.keeper, 3, (let s := calm (up State.reset); {s with crypto := {s.crypto with loaded := 0}}), ?_⟩
    exact ⟨granted_of (by decide +kernel), by decide +kernel⟩
  · refine ⟨.keeper, 3, (let s := calm (up State.reset); {s with crypto := {s.crypto with loaded := BitVec.allOnes _}}), ?_⟩
    exact ⟨granted_of (by decide +kernel), by decide +kernel⟩
  · refine ⟨.keeper, (let s := calm (up State.reset); {s with crypto := {s.crypto with signBusy := false}}), ?_⟩
    exact ⟨granted_of (by decide +kernel), by decide +kernel⟩
  · refine ⟨.keeper, (let s := calm (up State.reset); {s with crypto := {s.crypto with signBusy := false}}), ?_⟩
    exact ⟨granted_of (by decide +kernel), by decide +kernel⟩
  · refine ⟨.keeper, (let s := calm (up State.reset); {s with crypto := {s.crypto with signBusy := true}}), ?_⟩
    exact ⟨granted_of (by decide +kernel), by decide +kernel⟩
  · refine ⟨(let s := calm (up State.reset); {s with crypto := {s.crypto with signBusy := true, signOp := 2}}), ?_⟩
    decide +kernel
  · refine ⟨(let s := calm (up State.reset); {s with crypto := {s.crypto with signBusy := true, signOp := 1}}), ?_⟩
    decide +kernel
  · refine ⟨(let s := calm (up State.reset); {s with crypto := {s.crypto with signBusy := false}}), ?_⟩
    decide +kernel

/-- What the hypotheses of CachesAreMaintained ask for, clause by clause, is met. -/
theorem witness_caches_are_maintained :
    (∃ (_h : Fin 4) (a : BitVec 40) (s : State), Sound s ∧ cachedRegion (a.toNat / 64) = true ∧ memUp s a.toNat =
      true) ∧
    (∃ (_h : Fin 4) (a : BitVec 40) (s : State), Sound s ∧ cachedRegion (a.toNat / 64) = true ∧ memUp s a.toNat =
      true) ∧
    (∃ (_h : Fin 4) (a : BitVec 40) (s : State), cachedRegion (a.toNat / 64) = true ∧ memUp s a.toNat = true) ∧
    (∃ (_h : Fin 4) (a : BitVec 40) (s : State), cachedRegion (a.toNat / 64) = false ∧ Mild 0x60 s) ∧
    (∃ (m : Master) (s : State), Granted m 0x0E 0x00 1 s ∧ s.cluster.busy = false) ∧
    (∃ (m : Master) (s : State), Granted m 0x0E 0x00 2 s ∧ s.cluster.busy = false) ∧
    (∃ (m : Master) (s : State), Granted m 0x0E 0x00 3 s ∧ s.cluster.busy = false) ∧
    (∃ (m : Master) (s : State), Granted m 0x0E 0x00 2 s ∧ s.cluster.busy = true) ∧
    (∃ (s : State), s.cluster.busy = true ∧ s.cluster.op = 1) ∧
    (∃ (s : State), s.cluster.busy = true ∧ s.cluster.op = 2 ∧ (∀ line, stuckLine s line = false)) ∧
    (∃ (s : State), s.cluster.busy = true ∧ s.cluster.op = 3) ∧
    (∃ (m : Master) (v : Word) (s : State), Granted m 0x0E 0x40 v s ∧ v.getLsbD 0 = true) ∧
    (∃ (m : Master) (v : Word) (s : State), Granted m 0x0E 0x40 v s ∧ v.getLsbD 0 = false) := by
  refine ⟨?_, ?_, ?_, ?_, ?_, ?_, ?_, ?_, ?_, ?_, ?_, ?_, ?_⟩
  · refine ⟨1, 0x80000040, (let s := calm (up State.reset); {s with mem := [], dramc := {s.dramc with ready := true, selfRef := false}}), ?_⟩
    exact ⟨(by unfold Sound; decide +kernel), by decide +kernel⟩
  · refine ⟨1, 0x80000040, (let s := calm (up State.reset); {s with mem := [], dramc := {s.dramc with ready := true, selfRef := false}}), ?_⟩
    exact ⟨(by unfold Sound; decide +kernel), by decide +kernel⟩
  · refine ⟨1, 0x80000040, (let s := calm (up State.reset); {s with mem := [], dramc := {s.dramc with ready := true, selfRef := false}}), ?_⟩
    decide +kernel
  · refine ⟨1, 0x10, calm (up State.reset), ?_⟩
    exact ⟨(by decide +kernel), mild_of (by decide +kernel)⟩
  · refine ⟨.keeper, (let s := calm (up State.reset); {s with cluster := {s.cluster with busy := false}}), ?_⟩
    exact ⟨granted_of (by decide +kernel), by decide +kernel⟩
  · refine ⟨.keeper, (let s := calm (up State.reset); {s with cluster := {s.cluster with busy := false}}), ?_⟩
    exact ⟨granted_of (by decide +kernel), by decide +kernel⟩
  · refine ⟨.keeper, (let s := calm (up State.reset); {s with cluster := {s.cluster with busy := false}}), ?_⟩
    exact ⟨granted_of (by decide +kernel), by decide +kernel⟩
  · refine ⟨.keeper, (let s := calm (up State.reset); {s with cluster := {s.cluster with busy := true}}), ?_⟩
    exact ⟨granted_of (by decide +kernel), by decide +kernel⟩
  · refine ⟨(let s := calm (up State.reset); {s with cluster := {s.cluster with busy := true, op := 1}}), ?_⟩
    decide +kernel
  · refine ⟨(let s := calm (up State.reset); {s with cluster := {s.cluster with busy := true, op := 2, l1d := s.cluster.l1d.map fun _ => [], l2 := []}}), ?_⟩
    exact ⟨(by decide +kernel), (by decide +kernel), fun line => by
      rw [stuckLine, clean_of (by decide +kernel) (by decide +kernel)]; rfl⟩
  · refine ⟨(let s := calm (up State.reset); {s with cluster := {s.cluster with busy := true, op := 3}}), ?_⟩
    decide +kernel
  · refine ⟨.keeper, 1, calm (up State.reset), ?_⟩
    exact ⟨granted_of (by decide +kernel), by decide +kernel⟩
  · refine ⟨.keeper, 2, calm (up State.reset), ?_⟩
    exact ⟨granted_of (by decide +kernel), by decide +kernel⟩

/-- What the hypotheses of LinesAreCoherent ask for, clause by clause, is met. -/
theorem witness_lines_are_coherent :
    (∃ (_c : Fin 4) (line : Nat) (_ofs : Nat) (_d : List Byte) (s : State), s.cluster.turnQ = [] ∧ fillRefused true
      line s = none) ∧
    (∃ (_c : Fin 4) (line : Nat) (s : State), s.cluster.turnQ = [] ∧ fillRefused false line s = none) ∧
    (∃ (_b : Fin 4) (s : State), s.cluster.turnQ = []) := by
  refine ⟨?_, ?_, ?_⟩
  · refine ⟨1, 0x2000001, 3, [1,2], (let s := calm (up State.reset); {s with mem := [], cluster := {s.cluster with turnQ := []}, dramc := {s.dramc with ready := true, selfRef := false}}), ?_⟩
    decide +kernel
  · refine ⟨1, 0x2000001, (let s := calm (up State.reset); {s with mem := [], cluster := {s.cluster with turnQ := []}, dramc := {s.dramc with ready := true, selfRef := false}}), ?_⟩
    decide +kernel
  · refine ⟨2, (let s := calm (up State.reset); {s with cluster := {s.cluster with turnQ := []}}), ?_⟩
    decide +kernel

/-- What the hypotheses of WheelGrantsAndDramRefreshes ask for, clause by clause, is met. -/
theorem witness_wheel_grants_and_dram_refreshes :
    (∃ (s : State), s.fabric.waiting = []) ∧
    (∃ (i : Fin 4) (r : WheelReq) (s : State), s.fabric.waiting = [] ∧ r.master = .acore i ∧ reachesWheel r = true ∧
      masterOpen s r.master = true ∧ r.parityBad = false ∧ memUp s r.addr.toNat = true) ∧
    (∃ (r : WheelReq) (s : State), s.fabric.waiting = [] ∧ r.master = .vfetch ∧ reachesWheel r = true ∧ masterOpen s
      r.master = true ∧ r.parityBad = false ∧ (mapNow s).getD s.fabric.pos.val 0 = 1) ∧
    (∃ (r : WheelReq) (s : State), s.fabric.waiting = [] ∧ r.master = .vfetch ∧ reachesWheel r = true ∧ masterOpen s
      r.master = true ∧ r.parityBad = false ∧ (mapNow s).getD s.fabric.pos.val 0 ≠ 1) ∧
    (∃ (r : WheelReq) (s : State), s.fabric.waiting = [] ∧ masterOpen s r.master = true ∧ r.parityBad = true ∧ Mild
      0x60 s ∧ Mild 0x61 s) ∧
    (∃ (s : State), s.fabric.pending = true ∧ s.fabric.pos = 0) ∧
    (∃ (s : State), (s.fabric.pending = false ∨ s.fabric.pos ≠ 0)) ∧
    (∃ (m : Master) (v : Word) (s : State), Granted m 0x0D 0x60 v s ∧ v.getLsbD 0 = true) ∧
    (∃ (m : Master) (v : Word) (s : State), Granted m 0x0D 0x60 v s ∧ v.getLsbD 0 = false) ∧
    (∃ (s : State), domOn s 15 = true) ∧
    (∃ (s : State), domOn s 15 = true ∧ s.hub.present.getLsbD 0x62 = false ∧ Mild 0x62 s) ∧
    (∃ (_ok : Bool) (s : State), domOn s 15 = false) ∧
    (∃ (s : State), dramUp s = true) ∧
    (∃ (s : State), dramUp s = false) ∧
    (∃ (m : Master) (v : Word) (s : State), Granted m 0x0F 0x1C v s ∧ v.getLsbD 0 = true) ∧
    (∃ (m : Master) (v : Word) (s : State), Granted m 0x0F 0x1C v s ∧ v.getLsbD 0 = false) := by
  refine ⟨?_, ?_, ?_, ?_, ?_, ?_, ?_, ?_, ?_, ?_, ?_, ?_, ?_, ?_, ?_, ?_⟩
  · refine ⟨(let s := calm (up State.reset); {s with fabric := {s.fabric with waiting := []}}), ?_⟩
    decide +kernel
  · refine ⟨2, ({master := .acore 2, addr := 0x80000040, kind := 0, parityBad := false} : WheelReq), (let s := calm (up State.reset); {s with fabric := {s.fabric with waiting := []}, dramc := {s.dramc with ready := true, selfRef := false}}), ?_⟩
    decide +kernel
  · refine ⟨({master := .vfetch, addr := 0x80000040, kind := 0, parityBad := false} : WheelReq), (let s := calm (up State.reset); {s with fabric := {s.fabric with waiting := [], effV := 1, effE := 1, pos := 0}}), ?_⟩
    decide +kernel
  · refine ⟨({master := .vfetch, addr := 0x80000040, kind := 0, parityBad := false} : WheelReq), (let s := calm (up State.reset); {s with fabric := {s.fabric with waiting := [], effV := 1, effE := 1, pos := 1}}), ?_⟩
    decide +kernel
  · refine ⟨({master := .vfetch, addr := 0x80000040, kind := 0, parityBad := true} : WheelReq), (let s := calm (up State.reset); {s with fabric := {s.fabric with waiting := []}}), ?_⟩
    exact ⟨(by decide +kernel), (by decide +kernel), (by decide +kernel), mild_of (by decide +kernel), mild_of
      (by decide +kernel)⟩
  · refine ⟨(let s := calm (up State.reset); {s with fabric := {s.fabric with pending := true, pos := 0}}), ?_⟩
    decide +kernel
  · refine ⟨(let s := calm (up State.reset); {s with fabric := {s.fabric with pending := false}}), ?_⟩
    decide +kernel
  · refine ⟨.keeper, 1, calm (up State.reset), ?_⟩
    exact ⟨granted_of (by decide +kernel), by decide +kernel⟩
  · refine ⟨.keeper, 2, calm (up State.reset), ?_⟩
    exact ⟨granted_of (by decide +kernel), by decide +kernel⟩
  · refine ⟨calm (up State.reset), ?_⟩
    decide +kernel
  · refine ⟨calm (up State.reset), ?_⟩
    exact ⟨(by decide +kernel), (by decide +kernel), mild_of (by decide +kernel)⟩
  · refine ⟨true, (let s := calm (up State.reset); {s with ps := {s.ps with on := 3}}), ?_⟩
    decide +kernel
  · refine ⟨(let s := calm (up State.reset); {s with dramc := {s.dramc with ready := true, selfRef := false}}), ?_⟩
    decide +kernel
  · refine ⟨(let s := calm (up State.reset); {s with dramc := {s.dramc with ready := false}}), ?_⟩
    decide +kernel
  · refine ⟨.keeper, 1, calm (up State.reset), ?_⟩
    exact ⟨granted_of (by decide +kernel), by decide +kernel⟩
  · refine ⟨.keeper, 2, calm (up State.reset), ?_⟩
    exact ⟨granted_of (by decide +kernel), by decide +kernel⟩

/-- What the hypotheses of FlashErasesAndPrograms ask for, clause by clause, is met. -/
theorem witness_flash_erases_and_programs :
    (∃ (s : State), Granted .keeper 0x2E 0x04 1 s ∧ s.xspi.busy = false) ∧
    (∃ (s : State), Granted .keeper 0x2E 0x04 2 s ∧ s.xspi.busy = false) ∧
    (∃ (s : State), Granted .keeper 0x2E 0x04 2 s ∧ s.xspi.busy = true) ∧
    (∃ (i : Fin 4) (s : State), Granted (.acore i) 0x2E 0x04 1 s ∧ xsTouch 1 s.xspi < flashFree ∧ Mild 0x60 s) ∧
    (∃ (s : State), s.xspi.busy = true ∧ s.xspi.op = 1) ∧
    (∃ (s : State), s.xspi.busy = true ∧ s.xspi.op = 2 ∧ s.xspi.opData.length ≤ 256 ∧ Sound s) ∧
    (∃ (s : State), s.xspi.busy = true ∧ s.xspi.op = 2) ∧
    (∃ (_ok : Bool) (s : State), s.xspi.busy = false) ∧
    (∃ (s : State), s.xspi.busy = true ∧ s.xspi.noSusp = false) ∧
    (∃ (s : State), s.xspi.busy = false) := by
  refine ⟨?_, ?_, ?_, ?_, ?_, ?_, ?_, ?_, ?_, ?_⟩
  · refine ⟨(let s := calm (up State.reset); {s with xspi := {s.xspi with busy := false}}), ?_⟩
    exact ⟨granted_of (by decide +kernel), by decide +kernel⟩
  · refine ⟨(let s := calm (up State.reset); {s with xspi := {s.xspi with busy := false}}), ?_⟩
    exact ⟨granted_of (by decide +kernel), by decide +kernel⟩
  · refine ⟨(let s := calm (up State.reset); {s with xspi := {s.xspi with busy := true}}), ?_⟩
    exact ⟨granted_of (by decide +kernel), by decide +kernel⟩
  · refine ⟨2, (let s := calm (up State.reset); {s with xspi := {s.xspi with addr := 0x1234}}), ?_⟩
    exact ⟨granted_of (by decide +kernel), (by decide +kernel), mild_of (by decide +kernel)⟩
  · refine ⟨(let s := calm (up State.reset); {s with xspi := {s.xspi with busy := true, op := 1, opAddr := 0x30004}, mem := []}), ?_⟩
    decide +kernel
  · refine ⟨(let s := calm (up State.reset); {s with xspi := {s.xspi with busy := true, op := 2, opAddr := 0x30084, opData := List.replicate 200 0x5A}, mem := []}), ?_⟩
    exact ⟨(by decide +kernel), (by decide +kernel), (by decide +kernel), (by unfold Sound; decide +kernel)⟩
  · refine ⟨(let s := calm (up State.reset); {s with xspi := {s.xspi with busy := true, op := 2, opAddr := 0x30084, opData := List.replicate 200 0x5A}, mem := []}), ?_⟩
    decide +kernel
  · refine ⟨true, (let s := calm (up State.reset); {s with xspi := {s.xspi with busy := false}}), ?_⟩
    decide +kernel
  · refine ⟨(let s := calm (up State.reset); {s with xspi := {s.xspi with busy := true, noSusp := false}}), ?_⟩
    decide +kernel
  · refine ⟨(let s := calm (up State.reset); {s with xspi := {s.xspi with busy := false}}), ?_⟩
    decide +kernel

/-- What the hypotheses of InterruptsAreServedAndTimed ask for, clause by clause, is met. -/
theorem witness_interrupts_are_served_and_timed :
    (∃ (m : Master) (app : Bool) (c : Fin 8) (id : Fin 320) (s : State), Granted m (if app then 0x09 else 0x0A)
      (0x1048 + 0x100 * c.val) (BitVec.ofNat 32 id.val) s ∧ (licGet app (licSync s)).ctx[c].stack.length < 8 ∧
      eligible (licGet app (licSync s)) (licGet app (licSync s)).ctx[c] id = true ∧ mayPreempt
      (licGet app (licSync s)) (licGet app (licSync s)).ctx[c] (licGet app s).prio[id] = true) ∧
    (∃ (m : Master) (app : Bool) (c : Fin 8) (id : Fin 320) (s : State), Granted m (if app then 0x09 else 0x0A)
      (0x1048 + 0x100 * c.val) (BitVec.ofNat 32 id.val) s ∧ (licGet app s).ctx[c].stack.length ≠ 8 ∧
      (eligible (licGet app (licSync s)) (licGet app (licSync s)).ctx[c] id = false ∨ mayPreempt (licGet app (licSync s)) (licGet app (licSync s)).ctx[c] (licGet app s).prio[id] = false)) ∧
    (∃ (m : Master) (app : Bool) (c : Fin 8) (id : BitVec 10) (s : State), Granted m (if app then 0x09 else 0x0A)
      (0x1048 + 0x100 * c.val) (id.setWidth 32) s ∧ (licGet app s).ctx[c].stack.length = 8) ∧
    (∃ (m : Master) (app : Bool) (c : Fin 8) (v : Word) (s : State), Granted m (if app then 0x09 else 0x0A)
      (0x104C + 0x100 * c.val) v s ∧ v.getLsbD 0 = true) ∧
    (∃ (m : Master) (app : Bool) (c : Fin 8) (v : Word) (s : State), Granted m (if app then 0x09 else 0x0A)
      (0x104C + 0x100 * c.val) v s ∧ v.getLsbD 0 = false) ∧
    (∃ (m : Master) (app : Bool) (v : Word) (s : State), Granted m (if app then 0x09 else 0x0A) 0x40 v s) ∧
    (∃ (m : Master) (app : Bool) (v : Word) (s : State), Granted m (if app then 0x09 else 0x0A) 0x44 v s) ∧
    (∃ (m : Master) (app : Bool) (hi : Bool) (h : Fin 4) (v : Word) (s : State), Granted m
      (if app then 0x09 else 0x0A) (0x800 + 8 * h.val + (if hi then 4 else 0)) v s) ∧
    (∃ (app : Bool) (h : Fin 4) (s : State), (licGet app s).mtimecmp[h] ≤ s.devtime) ∧
    (∃ (app : Bool) (h : Fin 4) (s : State), s.devtime < (licGet app s).mtimecmp[h]) := by
  refine ⟨?_, ?_, ?_, ?_, ?_, ?_, ?_, ?_, ?_, ?_⟩
  · refine ⟨.keeper, false, 0, 100, (let s := calm (up State.reset); {s with licApp := {s.licApp with swi := 0xFFFFFFFF, prio := s.licApp.prio.map fun _ => 200, ctx := s.licApp.ctx.map fun x => {x with stack := [], en := BitVec.allOnes _, thresh := 3}}, licKeep := {s.licKeep with swi := 0xFFFFFFFF, prio := s.licApp.prio.map fun _ => 200, ctx := s.licApp.ctx.map fun x => {x with stack := [], en := BitVec.allOnes _, thresh := 3}}}), ?_⟩
    exact ⟨granted_of (by decide +kernel), by decide +kernel⟩
  · refine ⟨.keeper, false, 0, 100, (let s := calm (up State.reset); {s with licApp := {s.licApp with swi := 0, level := 0, ctx := s.licApp.ctx.map fun x => {x with stack := [], en := 0, thresh := 3}}, licKeep := {s.licKeep with swi := 0, level := 0, ctx := s.licKeep.ctx.map fun x => {x with stack := [], en := 0, thresh := 3}}}), ?_⟩
    exact ⟨granted_of (by decide +kernel), by decide +kernel⟩
  · refine ⟨.keeper, false, 0, 100, (let s := calm (up State.reset); {s with licApp := {s.licApp with swi := 0xFFFFFFFF, prio := s.licApp.prio.map fun _ => 200, ctx := s.licApp.ctx.map fun x => {x with stack := List.replicate 8 (4,7), en := BitVec.allOnes _, thresh := 3}}, licKeep := {s.licKeep with swi := 0xFFFFFFFF, prio := s.licApp.prio.map fun _ => 200, ctx := s.licApp.ctx.map fun x => {x with stack := List.replicate 8 (4,7), en := BitVec.allOnes _, thresh := 3}}}), ?_⟩
    exact ⟨granted_of (by decide +kernel), by decide +kernel⟩
  · refine ⟨.keeper, false, 0, 1, (let s := calm (up State.reset); {s with licApp := {s.licApp with swi := 0xFFFFFFFF, prio := s.licApp.prio.map fun _ => 200, ctx := s.licApp.ctx.map fun x => {x with stack := [(5,6)], en := BitVec.allOnes _, thresh := 3}}, licKeep := {s.licKeep with swi := 0xFFFFFFFF, prio := s.licApp.prio.map fun _ => 200, ctx := s.licApp.ctx.map fun x => {x with stack := [(5,6)], en := BitVec.allOnes _, thresh := 3}}}), ?_⟩
    exact ⟨granted_of (by decide +kernel), by decide +kernel⟩
  · refine ⟨.keeper, true, 3, 2, calm (up State.reset), ?_⟩
    exact ⟨granted_of (by decide +kernel), by decide +kernel⟩
  · refine ⟨.keeper, true, 0x80000001, calm (up State.reset), ?_⟩
    exact granted_of (by decide +kernel)
  · refine ⟨.keeper, false, 3, calm (up State.reset), ?_⟩
    exact granted_of (by decide +kernel)
  · refine ⟨.keeper, true, true, 2, 7, calm (up State.reset), ?_⟩
    exact granted_of (by decide +kernel)
  · refine ⟨true, 2, (let s := calm (up State.reset); {s with licApp := {s.licApp with mtimecmp := Vector.replicate 4 0}, licKeep := {s.licKeep with mtimecmp := Vector.replicate 4 0}}), ?_⟩
    decide +kernel
  · refine ⟨true, 2, (let s := calm (up State.reset); {s with devtime := 5, licApp := {s.licApp with mtimecmp := Vector.replicate 4 0xFFFFFFFFFFFFFFFF}, licKeep := {s.licKeep with mtimecmp := Vector.replicate 4 0xFFFFFFFFFFFFFFFF}}), ?_⟩
    decide +kernel

/-- What the hypotheses of ChannelsStartAndStop ask for, clause by clause, is met. -/
theorem witness_channels_start_and_stop :
    (∃ (m : Master) (app : Bool) (ch : Fin 16) (v : Word) (s : State), Granted m (if app then 0x0B else 0x0C)
      (0x114 + 0x40 * ch.val) (v ||| 1) s ∧ v.getLsbD 1 = false ∧ (bwGet app s).ch[ch].state ≠ .run ∧ startCode app
      { (bwGet app s).ch[ch] with mode := bits v 4 2 } = none) ∧
    (∃ (m : Master) (app : Bool) (ch : Fin 16) (v : Word) (k : BitVec 4) (s : State), Granted m
      (if app then 0x0B else 0x0C) (0x114 + 0x40 * ch.val) (v ||| 1) s ∧ v.getLsbD 1 = false ∧
      (bwGet app s).ch[ch].state ≠ .run ∧ startCode app { (bwGet app s).ch[ch] with mode := bits v 4 2 } = some k) ∧
    (∃ (m : Master) (app : Bool) (ch : Fin 16) (v : Word) (s : State), Granted m (if app then 0x0B else 0x0C)
      (0x114 + 0x40 * ch.val) (v ||| 1) s ∧ v.getLsbD 1 = false ∧ (bwGet app s).ch[ch].state = .run) ∧
    (∃ (m : Master) (app : Bool) (ch : Fin 16) (v : Word) (s : State), Granted m (if app then 0x0B else 0x0C)
      (0x114 + 0x40 * ch.val) (v ||| 2) s ∧ (bwGet app s).ch[ch].state = .run) ∧
    (∃ (m : Master) (app : Bool) (ch : Fin 16) (v : Word) (s : State), Granted m (if app then 0x0B else 0x0C)
      (0x114 + 0x40 * ch.val) (v ||| 2) s ∧ (bwGet app s).ch[ch].state ≠ .run) ∧
    (∃ (m : Master) (app : Bool) (v : Word) (s : State), Granted m (if app then 0x0B else 0x0C) 0x08 v s ∧ v.getLsbD 0
      = true) ∧
    (∃ (m : Master) (app : Bool) (v : Word) (s : State), Granted m (if app then 0x0B else 0x0C) 0x08 v s ∧ v.getLsbD 0
      = false) := by
  refine ⟨?_, ?_, ?_, ?_, ?_, ?_, ?_⟩
  · refine ⟨.keeper, true, 3, 0x100, (let s := calm (up State.reset); {s with bwApp := ⟨Vector.replicate 16 {s.bwApp.ch[3] with state := .done, src := 0x80000000, dst := 0x80001000, count := 100, mode := 0}⟩, bwKeep := ⟨Vector.replicate 16 {s.bwKeep.ch[3] with state := .done, src := 0x80000000, dst := 0x80001000, count := 100, mode := 0}⟩}), ?_⟩
    exact ⟨granted_of (by decide +kernel), by decide +kernel⟩
  · refine ⟨.keeper, true, 3, 0, 1, (let s := calm (up State.reset); {s with bwApp := ⟨Vector.replicate 16 {s.bwApp.ch[3] with state := .done, count := 0}⟩, bwKeep := ⟨Vector.replicate 16 {s.bwKeep.ch[3] with state := .done, count := 0}⟩}), ?_⟩
    exact ⟨granted_of (by decide +kernel), by decide +kernel⟩
  · refine ⟨.keeper, true, 3, 0, (let s := calm (up State.reset); {s with bwApp := ⟨Vector.replicate 16 {s.bwApp.ch[3] with state := .run}⟩, bwKeep := ⟨Vector.replicate 16 {s.bwKeep.ch[3] with state := .run}⟩}), ?_⟩
    exact ⟨granted_of (by decide +kernel), by decide +kernel⟩
  · refine ⟨.keeper, true, 3, 0, (let s := calm (up State.reset); {s with bwApp := ⟨Vector.replicate 16 {s.bwApp.ch[3] with state := .run}⟩, bwKeep := ⟨Vector.replicate 16 {s.bwKeep.ch[3] with state := .run}⟩}), ?_⟩
    exact ⟨granted_of (by decide +kernel), by decide +kernel⟩
  · refine ⟨.keeper, true, 3, 0, (let s := calm (up State.reset); {s with bwApp := ⟨Vector.replicate 16 {s.bwApp.ch[3] with state := .done}⟩, bwKeep := ⟨Vector.replicate 16 {s.bwKeep.ch[3] with state := .done}⟩}), ?_⟩
    exact ⟨granted_of (by decide +kernel), by decide +kernel⟩
  · refine ⟨.keeper, true, 1, calm (up State.reset), ?_⟩
    exact ⟨granted_of (by decide +kernel), by decide +kernel⟩
  · refine ⟨.keeper, true, 2, calm (up State.reset), ?_⟩
    exact ⟨granted_of (by decide +kernel), by decide +kernel⟩

/-- What the hypotheses of RunningChannelsAreFrozen ask for, clause by clause, is met. -/
theorem witness_running_channels_are_frozen :
    (∃ (m : Master) (app : Bool) (ch : Fin 16) (off : Nat) (v : Word) (s : State), off ∈
      [0x00, 0x04, 0x08, 0x0C, 0x10, 0x18] ∧ (bwGet app s).ch[ch].state = .run ∧ Granted m
      (if app then 0x0B else 0x0C) (0x100 + 0x40 * ch.val + off) v s) ∧
    (∃ (m : Master) (app : Bool) (ch : Fin 16) (v : Word) (s : State), Granted m (if app then 0x0B else 0x0C)
      (0x114 + 0x40 * ch.val) v s) := by
  refine ⟨?_, ?_⟩
  · refine ⟨.keeper, true, 3, 8, 5, (let s := calm (up State.reset); {s with bwApp := ⟨Vector.replicate 16 {s.bwApp.ch[3] with state := .run}⟩, bwKeep := ⟨Vector.replicate 16 {s.bwKeep.ch[3] with state := .run}⟩}), ?_⟩
    exact ⟨(by decide +kernel), (by decide +kernel), granted_of (by decide +kernel)⟩
  · refine ⟨.keeper, true, 3, 5, calm (up State.reset), ?_⟩
    exact granted_of (by decide +kernel)

/-- What the hypotheses of ChannelsMoveBytes ask for, clause by clause, is met. -/
theorem witness_channels_move_bytes :
    (∃ (ch : Fin 16) (s : State), Sound s ∧ s.bwKeep.ch[ch].state = .run ∧ s.bwKeep.ch[ch].mode ≠ 2 ∧
      s.bwKeep.ch[ch].stopDue = false ∧
      (s.bwKeep.ch[ch].mode ≠ 1 → memUp s (s.bwKeep.ch[ch].src.toNat + bwDone s.bwKeep.ch[ch]) = true) ∧ memUp s
      (s.bwKeep.ch[ch].dst.toNat + bwDone s.bwKeep.ch[ch]) = true) ∧
    (∃ (app : Bool) (ch : Fin 16) (s : State), (bwGet app s).ch[ch].state = .run ∧ (bwGet app s).ch[ch].mode = 2 ∧
      memUp s ((bwGet app s).ch[ch].src.toNat + bwDone (bwGet app s).ch[ch]) = true ∧ memUp s
      ((bwGet app s).ch[ch].dst.toNat + bwDone (bwGet app s).ch[ch]) = true) ∧
    (∃ (app : Bool) (_onWrite : Bool) (ch : Fin 16) (s : State), (bwGet app s).ch[ch].state = .run ∧ Mild 0x60 s) ∧
    (∃ (app : Bool) (_onWrite : Bool) (ch : Fin 16) (s : State), (bwGet app s).ch[ch].state ≠ .run) := by
  refine ⟨?_, ?_, ?_, ?_⟩
  · refine ⟨3, (let s := calm (up State.reset); {s with bwApp := ⟨Vector.replicate 16 {s.bwApp.ch[3] with state := .run, stopDue := false, remain := 100, src := 0x80000000, dst := 0x80001000, count := 100, mode := 0}⟩, bwKeep := ⟨Vector.replicate 16 {s.bwKeep.ch[3] with state := .run, stopDue := false, remain := 100, src := 0x80000000, dst := 0x80001000, count := 100, mode := 0}⟩, mem := [], dramc := {s.dramc with ready := true, selfRef := false}}), ?_⟩
    exact ⟨(by unfold Sound; decide +kernel), by decide +kernel⟩
  · refine ⟨true, 3, (let s := calm (up State.reset); {s with bwApp := ⟨Vector.replicate 16 {s.bwApp.ch[3] with state := .run, stopDue := false, remain := 100, src := 0x80000000, dst := 0x80001000, count := 100, mode := 2}⟩, bwKeep := ⟨Vector.replicate 16 {s.bwKeep.ch[3] with state := .run, stopDue := false, remain := 100, src := 0x80000000, dst := 0x80001000, count := 100, mode := 2}⟩, mem := Mem.writeAll [] 0x80000003 [7], dramc := {s.dramc with ready := true, selfRef := false}}), ?_⟩
    decide +kernel
  · refine ⟨true, true, 3, (let s := calm (up State.reset); {s with bwApp := ⟨Vector.replicate 16 {s.bwApp.ch[3] with state := .run}⟩, bwKeep := ⟨Vector.replicate 16 {s.bwKeep.ch[3] with state := .run}⟩}), ?_⟩
    exact ⟨(by decide +kernel), mild_of (by decide +kernel)⟩
  · refine ⟨true, true, 3, (let s := calm (up State.reset); {s with bwApp := ⟨Vector.replicate 16 {s.bwApp.ch[3] with state := .idle}⟩, bwKeep := ⟨Vector.replicate 16 {s.bwKeep.ch[3] with state := .idle}⟩}), ?_⟩
    decide +kernel

/-- What the hypotheses of PinsLocksAndWakeSources ask for, clause by clause, is met. -/
theorem witness_pins_locks_and_wake_sources :
    (∃ (m : Master) (b : Fin 4) (v : Word) (s : State), Granted m (0x22 + b.val) 0x04 v s) ∧
    (∃ (m : Master) (b : Fin 4) (v : Word) (s : State), Granted m (0x22 + b.val) 0x08 v s) ∧
    (∃ (m : Master) (b : Fin 4) (v : Word) (s : State), Granted m (0x22 + b.val) 0x0C v s) ∧
    (∃ (m : Master) (b : Fin 4) (v : Word) (s : State), Granted m (0x22 + b.val) 0x10 v s) ∧
    (∃ (b : Fin 4) (pin : Fin 32) (_level : Bool) (s : State), domOn s (45 + b.val) = true ∧ (bankMask b).getLsbD
      pin.val = true ∧ pinDrive s b pin.val = none ∧ (pinCfg s b pin.val).getLsbD 7 = false) ∧
    (∃ (b : Fin 4) (_pin : Fin 32) (_level : Bool) (s : State), domOn s (45 + b.val) = false) ∧
    (∃ (m : Master) (b : Fin 4) (s : State), Granted m (0x22 + b.val) 0x40 0x5A5A s) ∧
    (∃ (m : Master) (b : Fin 4) (v : Word) (s : State), Granted m (0x22 + b.val) 0x44 v s ∧ s.gpio[b].lockStep = 1 ∧
      s.gpio[b].lockMaster = (masterId m).setWidth 4) ∧
    (∃ (m : Master) (b : Fin 4) (s : State), Granted m (0x22 + b.val) 0x40 0xA5A5 s ∧ s.gpio[b].lockStep = 2 ∧
      s.gpio[b].lockMaster = (masterId m).setWidth 4) ∧
    (∃ (m : Master) (b : Fin 4) (v : Word) (s : State), Granted m (0x22 + b.val) 0x40 v s ∧ v ≠ 0x5A5A ∧
      s.gpio[b].lockStep ≠ 0 ∧ (v ≠ 0xA5A5 ∨ s.gpio[b].lockStep ≠ 2 ∨ s.gpio[b].lockMaster ≠ (masterId m).setWidth 4)) ∧
    (∃ (m : Master) (b : Fin 4) (v : Word) (s : State), Granted m (0x22 + b.val) 0x40 v s ∧ v ≠ 0x5A5A ∧
      s.gpio[b].lockStep = 0) ∧
    (∃ (m : Master) (b : Fin 4) (v : Word) (s : State), Granted m (0x22 + b.val) 0x44 v s ∧ s.gpio[b].lockStep ≠ 0 ∧
      (s.gpio[b].lockStep ≠ 1 ∨ s.gpio[b].lockMaster ≠ (masterId m).setWidth 4)) ∧
    (∃ (s : State), s.ps.phase = .dormant ∧ s.ps.wakeEn.getLsbD 1 = true ∧ Asserts 1 s) ∧
    (∃ (s : State), s.ps.phase = .dormant ∧ s.ps.wakeEn.getLsbD 2 = true ∧ Asserts 1 s) ∧
    (∃ (s : State), (s.ps.phase ≠ .dormant ∨ s.ps.wakeEn.getLsbD 1 = false)) ∧
    (∃ (s : State), (s.ps.phase ≠ .dormant ∨ s.ps.wakeEn.getLsbD 2 = false)) := by
  refine ⟨?_, ?_, ?_, ?_, ?_, ?_, ?_, ?_, ?_, ?_, ?_, ?_, ?_, ?_, ?_, ?_⟩
  · refine ⟨.keeper, 1, 0xF0F0, calm (up State.reset), ?_⟩
    exact granted_of (by decide +kernel)
  · refine ⟨.keeper, 1, 0xF0F0, calm (up State.reset), ?_⟩
    exact granted_of (by decide +kernel)
  · refine ⟨.keeper, 1, 0xF0F0, calm (up State.reset), ?_⟩
    exact granted_of (by decide +kernel)
  · refine ⟨.keeper, 1, 0xF0F0, calm (up State.reset), ?_⟩
    exact granted_of (by decide +kernel)
  · refine ⟨1, 3, true, (let s := calm (up State.reset); {s with gpio := s.gpio, pincfg := Vector.replicate 120 0}), ?_⟩
    decide +kernel
  · refine ⟨1, 3, true, (let s := calm (up State.reset); {s with ps := {s.ps with on := 3}}), ?_⟩
    decide +kernel
  · refine ⟨.keeper, 1, calm (up State.reset), ?_⟩
    exact granted_of (by decide +kernel)
  · refine ⟨.keeper, 1, 0xFF, (let s := calm (up State.reset); {s with gpio := s.gpio.map fun g => {g with lockStep := 1, lockMaster := (masterId .keeper).setWidth 4}}), ?_⟩
    exact ⟨granted_of (by decide +kernel), by decide +kernel⟩
  · refine ⟨.keeper, 1, (let s := calm (up State.reset); {s with gpio := s.gpio.map fun g => {g with lockStep := 2, lockMaster := (masterId .keeper).setWidth 4}}), ?_⟩
    exact ⟨granted_of (by decide +kernel), by decide +kernel⟩
  · refine ⟨.keeper, 1, 7, (let s := calm (up State.reset); {s with gpio := s.gpio.map fun g => {g with lockStep := 1}}), ?_⟩
    exact ⟨granted_of (by decide +kernel), by decide +kernel⟩
  · refine ⟨.keeper, 1, 7, (let s := calm (up State.reset); {s with gpio := s.gpio.map fun g => {g with lockStep := 0}}), ?_⟩
    exact ⟨granted_of (by decide +kernel), by decide +kernel⟩
  · refine ⟨.keeper, 1, 7, (let s := calm (up State.reset); {s with gpio := s.gpio.map fun g => {g with lockStep := 2}}), ?_⟩
    exact ⟨granted_of (by decide +kernel), by decide +kernel⟩
  · refine ⟨(let s := calm (up State.reset); {s with ps := {s.ps with phase := .dormant, wakeEn := BitVec.allOnes _}}), ?_⟩
    exact ⟨(by decide +kernel), (by decide +kernel), (by unfold Asserts; decide +kernel)⟩
  · refine ⟨(let s := calm (up State.reset); {s with ps := {s.ps with phase := .dormant, wakeEn := BitVec.allOnes _}}), ?_⟩
    exact ⟨(by decide +kernel), (by decide +kernel), (by unfold Asserts; decide +kernel)⟩
  · refine ⟨calm (up State.reset), ?_⟩
    decide +kernel
  · refine ⟨calm (up State.reset), ?_⟩
    decide +kernel

/-- What the hypotheses of PortsTransfer ask for, clause by clause, is met. -/
theorem witness_ports_transfer :
    (∃ (m : Master) (i : Fin 4) (v : Word) (s : State), Granted m (0x27 + i.val) 0x00 v s ∧ s.spim[i].busy = false) ∧
    (∃ (m : Master) (i : Fin 4) (v : Word) (s : State), Granted m (0x27 + i.val) 0x00 v s ∧ s.spim[i].busy = true ∧
      v.getLsbD 6 = true) ∧
    (∃ (m : Master) (i : Fin 4) (v : Word) (s : State), Granted m (0x27 + i.val) 0x14 v s ∧ s.spim[i].ctrl.getLsbD 0 =
      true ∧ spiSafe s.spim[i] = false ∧ s.spim[i].tx.length < 16) ∧
    (∃ (m : Master) (i : Fin 4) (v : Word) (s : State), Granted m (0x27 + i.val) 0x14 v s ∧
      (s.spim[i].ctrl.getLsbD 0 = false ∨ spiSafe s.spim[i] = true)) ∧
    (∃ (m : Master) (i : Fin 4) (s : State), ReadGranted m (0x27 + i.val) 0x18 s) ∧
    (∃ (m : Master) (i : Fin 4) (v : Word) (s : State), Granted m (0x27 + i.val) 0x1C v s ∧ v.getLsbD 0 = true ∧
      s.spim[i].ctrl.getLsbD 0 = true ∧ spiSafe s.spim[i] = true ∧ s.spim[i].busy = false) ∧
    (∃ (m : Master) (i : Fin 4) (v : Word) (s : State), Granted m (0x27 + i.val) 0x1C v s ∧ s.spim[i].busy = true) ∧
    (∃ (i : Fin 4) (rx : List Word) (s : State), s.spim[i].busy = true ∧ spiSafe s.spim[i] = false ∧ s.spim[i].tx ≠ []
      ∧ rx.length = s.spim[i].tx.length ∧ s.spim[i].rx.length + rx.length ≤ 16) ∧
    (∃ (i : Fin 4) (rx : List Byte) (n : Nat) (s : State), s.spim[i].busy = true ∧ spiSafe s.spim[i] = true ∧ frameBad
      (spiLen s.spim[i]) s.spim[i].lastAlive n rx = true) ∧
    (∃ (i : Fin 4) (rx : List Byte) (n : Nat) (s : State), s.spim[i].busy = true ∧ spiSafe s.spim[i] = true ∧ frameBad
      (spiLen s.spim[i]) s.spim[i].lastAlive n rx = false) := by
  refine ⟨?_, ?_, ?_, ?_, ?_, ?_, ?_, ?_, ?_, ?_⟩
  · refine ⟨.keeper, 2, 1, (let s := calm (up State.reset); {s with spim := s.spim.map fun p => {p with busy := false}}), ?_⟩
    exact ⟨granted_of (by decide +kernel), by decide +kernel⟩
  · refine ⟨.keeper, 2, 0x10000041, (let s := calm (up State.reset); {s with spim := s.spim.map fun p => {p with busy := true}}), ?_⟩
    exact ⟨granted_of (by decide +kernel), by decide +kernel⟩
  · refine ⟨.keeper, 2, 9, (let s := calm (up State.reset); {s with spim := s.spim.map fun p => {p with ctrl := 1, tx := []}}), ?_⟩
    exact ⟨granted_of (by decide +kernel), by decide +kernel⟩
  · refine ⟨.keeper, 2, 9, (let s := calm (up State.reset); {s with spim := s.spim.map fun p => {p with ctrl := 2}}), ?_⟩
    exact ⟨granted_of (by decide +kernel), by decide +kernel⟩
  · refine ⟨.keeper, 2, calm (up State.reset), ?_⟩
    exact readGranted_of (by decide +kernel)
  · refine ⟨.keeper, 2, 1, (let s := calm (up State.reset); {s with spim := s.spim.map fun p => {p with ctrl := 3, busy := false}}), ?_⟩
    exact ⟨granted_of (by decide +kernel), by decide +kernel⟩
  · refine ⟨.keeper, 2, 1, (let s := calm (up State.reset); {s with spim := s.spim.map fun p => {p with busy := true}}), ?_⟩
    exact ⟨granted_of (by decide +kernel), by decide +kernel⟩
  · refine ⟨2, [3], (let s := calm (up State.reset); {s with spim := s.spim.map fun p => {p with busy := true, ctrl := 1, tx := [7], rx := []}}), ?_⟩
    decide +kernel
  · refine ⟨2, [3], 8, (let s := calm (up State.reset); {s with spim := s.spim.map fun p => {p with busy := true, ctrl := 0x08000003}}), ?_⟩
    decide +kernel
  · refine ⟨2, goodFrame, 64, (let s := calm (up State.reset); {s with spim := s.spim.map fun p => {p with busy := true, ctrl := 0x08000003, lastAlive := some 2}}), ?_⟩
    decide +kernel

/-- What the hypotheses of HostFramesAreServed ask for, clause by clause, is met. -/
theorem witness_host_frames_are_served :
    (∃ (cs : Fin 2) (a : BitVec 4) (_ofs : Byte) (_data : List Byte) (s : State), hspiUp s = true ∧ csSafe s cs = true
      ∧ 8 ≤ s.hspi.len.toNat ∧ s.hspi.len.toNat ≤ 64 ∧ s.hspi.cs[cs].lastAlive ≠ some a ∧
      (s.counters[csCounter cs].stage = .idle ∨ s.counters[csCounter cs].stage = .done)) ∧
    (∃ (cs : Fin 2) (a : BitVec 4) (_ofs : Byte) (_data : List Byte) (s : State), hspiUp s = true ∧ csSafe s cs = true
      ∧ 8 ≤ s.hspi.len.toNat ∧ s.hspi.len.toNat ≤ 64 ∧ s.hspi.cs[cs].lastAlive ≠ some a ∧
      (s.counters[csCounter cs].stage = .posted ∨ s.counters[csCounter cs].stage = .taken)) ∧
    (∃ (cs : Fin 2) (a : BitVec 4) (s : State), hspiUp s = true ∧ csSafe s cs = true ∧ 8 ≤ s.hspi.len.toNat ∧
      s.hspi.len.toNat ≤ 64 ∧ s.hspi.cs[cs].lastAlive ≠ some a ∧ s.hspi.cs[cs].broken = false ∧
      (s.counters[csCounter cs].stage = .idle ∨ s.counters[csCounter cs].stage = .done)) ∧
    (∃ (cs : Fin 2) (a : BitVec 4) (s : State), hspiUp s = true ∧ csSafe s cs = true ∧ 8 ≤ s.hspi.len.toNat ∧
      s.hspi.len.toNat ≤ 64 ∧ s.hspi.cs[cs].lastAlive ≠ some a ∧ s.hspi.cs[cs].broken = true) ∧
    (∃ (cs : Fin 2) (a : BitVec 4) (_ofs : Byte) (_n : Nat) (s : State), hspiUp s = true ∧ csSafe s cs = true ∧ 8 ≤
      s.hspi.len.toNat ∧ s.hspi.len.toNat ≤ 64 ∧ s.hspi.cs[cs].lastAlive ≠ some a) ∧
    (∃ (cs : Fin 2) (a : BitVec 4) (s : State), hspiUp s = true ∧ csSafe s cs = true ∧ 8 ≤ s.hspi.len.toNat ∧
      s.hspi.len.toNat ≤ 64 ∧ s.hspi.cs[cs].lastAlive ≠ some a) := by
  refine ⟨?_, ?_, ?_, ?_, ?_, ?_⟩
  · refine ⟨1, 4, 8, [1,2,3], (let s := calm (up State.reset); {s with hspi := {s.hspi with mode0 := true, len := 32, cs := s.hspi.cs.map fun h => {h with lastAlive := some 3}}}), ?_⟩
    decide +kernel
  · refine ⟨1, 4, 8, [1,2,3], (let s := calm (up State.reset); {s with hspi := {s.hspi with mode0 := true, len := 32, cs := s.hspi.cs.map fun h => {h with lastAlive := some 3}}, counters := s.counters.map fun c => {c with stage := .posted}}), ?_⟩
    decide +kernel
  · refine ⟨1, 4, (let s := calm (up State.reset); {s with hspi := {s.hspi with mode0 := true, len := 32, cs := s.hspi.cs.map fun h => {h with lastAlive := some 3, broken := false}}}), ?_⟩
    decide +kernel
  · refine ⟨1, 4, (let s := calm (up State.reset); {s with hspi := {s.hspi with mode0 := true, len := 32, cs := s.hspi.cs.map fun h => {h with lastAlive := some 3, broken := true}}}), ?_⟩
    decide +kernel
  · refine ⟨1, 4, 3, 5, (let s := calm (up State.reset); {s with hspi := {s.hspi with mode0 := true, len := 32, cs := s.hspi.cs.map fun h => {h with lastAlive := some 3}}}), ?_⟩
    decide +kernel
  · refine ⟨1, 4, (let s := calm (up State.reset); {s with hspi := {s.hspi with mode0 := true, len := 32, cs := s.hspi.cs.map fun h => {h with lastAlive := some 3, readOfs := some 4}}}), ?_⟩
    decide +kernel

/-- What the hypotheses of HostLinksRecover ask for, clause by clause, is met. -/
theorem witness_host_links_recover :
    (∃ (_ofs : Byte) (n : Nat) (s : State), hspiUp s = true ∧ csSafe s 0 = false ∧ n ≤ 256) ∧
    (∃ (ofs : BitVec 16) (s : State), hspiUp s = true ∧ csSafe s 0 = false ∧ ofs.toNat % 4 = 0 ∧ ReadGranted .hspi
      0x2B ofs.toNat s) ∧
    (∃ (v : Word) (s : State), hspiUp s = true ∧ csSafe s 0 = false ∧ Granted .hspi 0x2B 0 v s) ∧
    (∃ (ofs : BitVec 16) (_v : Word) (s : State), hspiUp s = true ∧ csSafe s 0 = false ∧ ofs.toNat % 4 ≠ 0 ∧ Mild 0x60
      s) ∧
    (∃ (_v : Word) (s : State), hspiUp s = true ∧ csSafe s 0 = false ∧ s.sys.mode ≠ 1 ∧ Mild 0x60 s) ∧
    (∃ (cs : Fin 2) (s : State), hspiUp s = true ∧ csSafe s cs = true ∧ Mild 0xC4 s) ∧
    (∃ (s : State), hspiUp s = true ∧ Mild 0xC4 s) ∧
    (∃ (v : Word) (s : State), s.hspi.cfgDue = some v) ∧
    (∃ (s : State), s.hspi.cfgDue = none) := by
  refine ⟨?_, ?_, ?_, ?_, ?_, ?_, ?_, ?_, ?_⟩
  · refine ⟨3, 10, (let s := calm (up State.reset); {s with hspi := {s.hspi with mode0 := false}}), ?_⟩
    decide +kernel
  · refine ⟨4, (let s := calm (up State.reset); {s with hspi := {s.hspi with mode0 := false}}), ?_⟩
    exact ⟨(by decide +kernel), (by decide +kernel), (by decide +kernel), readGranted_of (by decide +kernel)⟩
  · refine ⟨0x2001, (let s := calm (up State.reset); {s with hspi := {s.hspi with mode0 := false}, sys := {s.sys with mode := 1}}), ?_⟩
    exact ⟨(by decide +kernel), (by decide +kernel), granted_of (by decide +kernel)⟩
  · refine ⟨3, 10, (let s := calm (up State.reset); {s with hspi := {s.hspi with mode0 := false}}), ?_⟩
    exact ⟨(by decide +kernel), (by decide +kernel), (by decide +kernel), mild_of (by decide +kernel)⟩
  · refine ⟨1, (let s := calm (up State.reset); {s with hspi := {s.hspi with mode0 := false}}), ?_⟩
    exact ⟨(by decide +kernel), (by decide +kernel), (by decide +kernel), mild_of (by decide +kernel)⟩
  · refine ⟨1, calm (up State.reset), ?_⟩
    exact ⟨(by decide +kernel), (by decide +kernel), mild_of (by decide +kernel)⟩
  · refine ⟨calm (up State.reset), ?_⟩
    exact ⟨(by decide +kernel), mild_of (by decide +kernel)⟩
  · refine ⟨0x2001, (let s := calm (up State.reset); {s with hspi := {s.hspi with cfgDue := some 0x2001}}), ?_⟩
    decide +kernel
  · refine ⟨(let s := calm (up State.reset); {s with hspi := {s.hspi with cfgDue := none}}), ?_⟩
    decide +kernel

/-- What the hypotheses of RingsCarryFrames ask for, clause by clause, is met. -/
theorem witness_rings_carry_frames :
    (∃ (m : Master) (i : Fin 2) (v : Word) (s : State), Granted m (0x2C + i.val) 0x00 v s) ∧
    (∃ (i : Fin 2) (s : State),
      (s.eth[i].txRun = false ∨ s.eth[i].txHead = s.eth[i].txTail ∨ ethUp s i = false ∨ etxRuns s = false ∨ paused s s.eth[i] = true)) ∧
    (∃ (i : Fin 2) (a : Nat) (buf : Nat) (len : Nat) (fl : BitVec 16) (s : State), Sound s ∧
      (∀ line, lineDirty s line = false) ∧ s.eth[i].txRun = true ∧ ethUp s i = true ∧ etxRuns s = true ∧ paused s
      s.eth[i] = false ∧ s.eth[i].txHead ≠ s.eth[i].txTail ∧ a = s.eth[i].txBase.toNat + 32 * s.eth[i].txHead.toNat ∧
      ethReach s a 32 = true ∧ fl = BitVec.ofNat 16 (fieldLe (ioRead s a 32) 10 2) ∧ len = fieldLe (ioRead s a 32) 8 2
      ∧ buf = fieldLe (ioRead s a 32) 0 5 ∧ fl.getLsbD 0 = true ∧ 14 ≤ len ∧ len ≤ 1518 ∧ ethReach s buf len = true) ∧
    (∃ (i : Fin 2) (_f : List Byte) (s : State), s.eth[i].rxRun = true ∧ ethUp s i = true) ∧
    (∃ (i : Fin 2) (f : List Byte) (s : State), s.eth[i].rxRun = true ∧ ethUp s i = true ∧ 1518 < f.length) ∧
    (∃ (i : Fin 2) (f : List Byte) (s : State), s.eth[i].rxRun = true ∧ ethUp s i = true ∧ f.length ≤ 1518 ∧
      s.eth[i].ctrl.getLsbD 7 = true ∧ pauseFrame f = true) ∧
    (∃ (i : Fin 2) (f : List Byte) (s : State), s.eth[i].rxRun = true ∧ ethUp s i = true ∧ f.length ≤ 1518 ∧
      (s.eth[i].ctrl.getLsbD 7 && pauseFrame f) = false ∧ addrPass s.eth[i] f = true ∧ s.eth[i].rxHead =
      s.eth[i].rxTail) ∧
    (∃ (i : Fin 2) (_f : List Byte) (_ok : Bool) (s : State), (s.eth[i].rxRun = false ∨ ethUp s i = false)) ∧
    (∃ (i : Fin 2) (f : List Byte) (a : Nat) (buf : Nat) (s : State), Sound s ∧ (∀ line, lineDirty s line = false) ∧
      s.eth[i].rxRun = true ∧ ethUp s i = true ∧ 1 ≤ f.length ∧ f.length ≤ 1518 ∧
      (s.eth[i].ctrl.getLsbD 7 && pauseFrame f) = false ∧ addrPass s.eth[i] f = true ∧ s.eth[i].rxHead ≠
      s.eth[i].rxTail ∧ a = s.eth[i].rxBase.toNat + 32 * s.eth[i].rxHead.toNat ∧ ethReach s a 32 = true ∧ buf =
      fieldLe (ioRead s a 32) 0 5 ∧ (BitVec.ofNat 16 (fieldLe (ioRead s a 32) 10 2)).getLsbD 0 = true ∧ f.length ≤
      fieldLe (ioRead s a 32) 8 2 ∧ ethReach s buf f.length = true ∧ (buf + f.length ≤ a ∨ a + 32 ≤ buf)) ∧
    (∃ (i : Fin 2) (s : State), s.eth[i].txRun = true ∧ ethUp s i = true ∧ Mild 0x60 s) ∧
    (∃ (i : Fin 2) (s : State), s.eth[i].rxRun = true ∧ ethUp s i = true ∧ Mild 0x60 s) ∧
    (∃ (i : Fin 2) (rx : Bool) (s : State), ((if rx then s.eth[i].rxRun else s.eth[i].txRun) && ethUp s i) = false) := by
  refine ⟨?_, ?_, ?_, ?_, ?_, ?_, ?_, ?_, ?_, ?_, ?_, ?_⟩
  · refine ⟨.keeper, 1, 3, (let s := calm (up State.reset); {s with eth := s.eth.map fun e => {e with ctrl := 0}}), ?_⟩
    exact granted_of (by decide +kernel)
  · refine ⟨1, (let s := calm (up State.reset); {s with eth := s.eth.map fun e => {e with txRun := false}}), ?_⟩
    decide +kernel
  · refine ⟨1, 0x80000040, 0x80010000, 60, 1, (let s := calm (up State.reset); {s with clk := {s.clk with lock := 0xF, fb := 0}, eth := s.eth.map fun e => {e with txRun := true, txHead := 2, txTail := 4, txBase := 0x80000000, ctrl := 0, pauseEnd := 0}, cluster := {s.cluster with l1d := s.cluster.l1d.map fun _ => [], l2 := []}, mem := (Mem.writeAll [] 0x80000040 ([0,0,1,0x80,0, 0,0,0] ++ toLe (60 : BitVec 16) 2 ++ [1,0] ++ List.replicate 20 0)), dramc := {s.dramc with ready := true, selfRef := false}}), ?_⟩
    exact ⟨(by unfold Sound; decide +kernel), (clean_of (by decide +kernel) (by decide +kernel)), by decide +kernel⟩
  · refine ⟨1, [1,2], (let s := calm (up State.reset); {s with eth := s.eth.map fun e => {e with rxRun := true}}), ?_⟩
    decide +kernel
  · refine ⟨1, (List.replicate 1519 7 : List Byte), (let s := calm (up State.reset); {s with eth := s.eth.map fun e => {e with rxRun := true}}), ?_⟩
    decide +kernel
  · refine ⟨1, ([1,0x80,0xC2,0,0,1, 2,2,2,2,2,2, 0x88,8,0,1, 0,5] : List Byte), (let s := calm (up State.reset); {s with eth := s.eth.map fun e => {e with rxRun := true, ctrl := 0x80}}), ?_⟩
    decide +kernel
  · refine ⟨1, [1,2], (let s := calm (up State.reset); {s with eth := s.eth.map fun e => {e with rxRun := true, rxHead := 3, rxTail := 3, ctrl := 0x20}}), ?_⟩
    decide +kernel
  · refine ⟨1, [1,2], true, (let s := calm (up State.reset); {s with eth := s.eth.map fun e => {e with rxRun := false}}), ?_⟩
    decide +kernel
  · refine ⟨1, (List.replicate 64 7 : List Byte), 0x80000040, 0x80010000, (let s := calm (up State.reset); {s with eth := s.eth.map fun e => {e with rxRun := true, rxHead := 2, rxTail := 4, rxBase := 0x80000000, ctrl := 0x20}, cluster := {s.cluster with l1d := s.cluster.l1d.map fun _ => [], l2 := []}, mem := (Mem.writeAll [] 0x80000040 ([0,0,1,0x80,0, 0,0,0] ++ toLe (1518 : BitVec 16) 2 ++ [1,0] ++ List.replicate 20 0)), dramc := {s.dramc with ready := true, selfRef := false}}), ?_⟩
    exact ⟨(by unfold Sound; decide +kernel), (clean_of (by decide +kernel) (by decide +kernel)), by decide +kernel⟩
  · refine ⟨1, (let s := calm (up State.reset); {s with eth := s.eth.map fun e => {e with txRun := true}}), ?_⟩
    exact ⟨(by decide +kernel), (by decide +kernel), mild_of (by decide +kernel)⟩
  · refine ⟨1, (let s := calm (up State.reset); {s with eth := s.eth.map fun e => {e with rxRun := true}}), ?_⟩
    exact ⟨(by decide +kernel), (by decide +kernel), mild_of (by decide +kernel)⟩
  · refine ⟨1, true, (let s := calm (up State.reset); {s with eth := s.eth.map fun e => {e with rxRun := false}}), ?_⟩
    decide +kernel

/-- What the hypotheses of PtpAndMdioRun ask for, clause by clause, is met. -/
theorem witness_ptp_and_mdio_run :
    (∃ (m : Master) (i : Fin 2) (s : State), Granted m (0x2C + i.val) 0xB8 1 s ∧
      (s.eth[i].setNs &&& 0x3FFF_FFFF).toNat ≤ 999999999 ∧ s.eth[i].setNs.getLsbD 31 = false) ∧
    (∃ (m : Master) (i : Fin 2) (s : State), Granted m (0x2C + i.val) 0xB8 1 s ∧
      (999999999 < (s.eth[i].setNs &&& 0x3FFF_FFFF).toNat ∨ s.eth[i].setNs.getLsbD 31 = true)) ∧
    (∃ (m : Master) (i : Fin 2) (d : Nat) (now : Nat) (s : State), Granted m (0x2C + i.val) 0xB8 2 s ∧
      (s.eth[i].setNs &&& 0x3FFF_FFFF).toNat ≤ 999999999 ∧ d = s.eth[i].setSec.toNat * 1000000000 +
      (s.eth[i].setNs &&& 0x3FFF_FFFF).toNat ∧ now = s.eth[i].ptpSec.toNat * 1000000000 + s.eth[i].ptpNs ∧ now + d < 2
      ^ 48 * 1000000000) ∧
    (∃ (m : Master) (i : Fin 2) (s : State), Granted m (0x2C + i.val) 0xB8 2 s ∧ 999999999 <
      (s.eth[i].setNs &&& 0x3FFF_FFFF).toNat) ∧
    (∃ (i : Fin 2) (s : State), ethUp s i = true) ∧
    (∃ (i : Fin 2) (s : State), ethUp s i = true) ∧
    (∃ (i : Fin 2) (s : State), ethUp s i = false) ∧
    (∃ (m : Master) (i : Fin 2) (v : Word) (s : State), Granted m (0x2C + i.val) 0x80 v s ∧ s.eth[i].mdioBusy = false) ∧
    (∃ (m : Master) (i : Fin 2) (v : Word) (s : State), Granted m (0x2C + i.val) 0x80 v s ∧ s.eth[i].mdioBusy = true) ∧
    (∃ (i : Fin 2) (_d : BitVec 16) (s : State), s.eth[i].mdioBusy = true) ∧
    (∃ (i : Fin 2) (_d : BitVec 16) (s : State), s.eth[i].mdioBusy = false) := by
  refine ⟨?_, ?_, ?_, ?_, ?_, ?_, ?_, ?_, ?_, ?_, ?_⟩
  · refine ⟨.keeper, 1, (let s := calm (up State.reset); {s with eth := s.eth.map fun e => {e with setNs := 500}}), ?_⟩
    exact ⟨granted_of (by decide +kernel), by decide +kernel⟩
  · refine ⟨.keeper, 1, (let s := calm (up State.reset); {s with eth := s.eth.map fun e => {e with setNs := 0x80000001}}), ?_⟩
    exact ⟨granted_of (by decide +kernel), by decide +kernel⟩
  · refine ⟨.keeper, 1, (let s : State := (let s := calm (up State.reset); {s with eth := s.eth.map fun e => {e with setNs := 0x800000FF, setSec := 3, ptpSec := 5, ptpNs := 100}}); s.eth[(1 : Fin 2)].setSec.toNat * 1000000000 + (s.eth[(1 : Fin 2)].setNs &&& 0x3FFF_FFFF).toNat), (let s : State := (let s := calm (up State.reset); {s with eth := s.eth.map fun e => {e with setNs := 0x800000FF, setSec := 3, ptpSec := 5, ptpNs := 100}}); s.eth[(1 : Fin 2)].ptpSec.toNat * 1000000000 + s.eth[(1 : Fin 2)].ptpNs), (let s := calm (up State.reset); {s with eth := s.eth.map fun e => {e with setNs := 0x800000FF, setSec := 3, ptpSec := 5, ptpNs := 100}}), ?_⟩
    exact ⟨granted_of (by decide +kernel), by decide +kernel⟩
  · refine ⟨.keeper, 1, (let s := calm (up State.reset); {s with eth := s.eth.map fun e => {e with setNs := 0x3FFFFFFF}}), ?_⟩
    exact ⟨granted_of (by decide +kernel), by decide +kernel⟩
  · refine ⟨1, calm (up State.reset), ?_⟩
    decide +kernel
  · refine ⟨1, calm (up State.reset), ?_⟩
    decide +kernel
  · refine ⟨1, (let s := calm (up State.reset); {s with ps := {s.ps with on := 3}}), ?_⟩
    decide +kernel
  · refine ⟨.keeper, 1, 0x60820000, (let s := calm (up State.reset); {s with eth := s.eth.map fun e => {e with mdioBusy := false}}), ?_⟩
    exact ⟨granted_of (by decide +kernel), by decide +kernel⟩
  · refine ⟨.keeper, 1, 5, (let s := calm (up State.reset); {s with eth := s.eth.map fun e => {e with mdioBusy := true}}), ?_⟩
    exact ⟨granted_of (by decide +kernel), by decide +kernel⟩
  · refine ⟨1, 0x1234, (let s := calm (up State.reset); {s with eth := s.eth.map fun e => {e with mdioBusy := true}}), ?_⟩
    decide +kernel
  · refine ⟨1, 4, (let s := calm (up State.reset); {s with eth := s.eth.map fun e => {e with mdioBusy := false}}), ?_⟩
    decide +kernel

/-- What the hypotheses of DebugReachesHarts ask for, clause by clause, is met. -/
theorem witness_debug_reaches_harts :
    (∃ (m : Master) (v : Word) (s : State), Granted m 0x30 0x220 v s ∧ v.getLsbD 0 = true) ∧
    (∃ (m : Master) (v : Word) (s : State), Granted m 0x30 0x220 v s ∧ v.getLsbD 0 = false) ∧
    (∃ (m : Master) (h : Fin 4) (r : Fin 32) (s : State), Granted m 0x30 0x5C (0x0032_1000 + BitVec.ofNat 32 r.val) s
      ∧ dmActive s = true ∧ dmiReg s 0x16 &&& 0x700 = 0 ∧ dmHart s = some h ∧ hartThere s h = true ∧
      s.cluster.harts[h].halted = true) ∧
    (∃ (m : Master) (h : Fin 4) (r : Fin 32) (s : State), Granted m 0x30 0x5C (0x0033_1000 + BitVec.ofNat 32 r.val) s
      ∧ dmActive s = true ∧ dmiReg s 0x16 &&& 0x700 = 0 ∧ dmHart s = some h ∧ hartThere s h = true ∧
      s.cluster.harts[h].halted = true) ∧
    (∃ (m : Master) (h : Fin 4) (cmd : Word) (s : State), Granted m 0x30 0x5C (cmd &&& 0x00FF_FFFF) s ∧ dmActive s =
      true ∧ dmiReg s 0x16 &&& 0x700 = 0 ∧ dmHart s = some h ∧ s.cluster.harts[h].halted = false) ∧
    (∃ (m : Master) (h : Fin 4) (s : State), Granted m 0x30 0x5C 0x0220_0000 s ∧ dmActive s = true ∧ dmiReg s 0x16 &&&
      0x700 = 0 ∧ dmHart s = some h ∧ hartThere s h = true ∧ s.cluster.harts[h].halted = true ∧ (dmArg s 1).toNat % 4
      ≠ 0 ∧ regionOf (dmArg s 1).toNat ≠ .regs) ∧
    (∃ (m : Master) (h : Fin 4) (s : State), Granted m 0x30 0x5C 0x0220_0000 s ∧ dmActive s = true ∧ dmiReg s 0x16 &&&
      0x700 = 0 ∧ dmHart s = some h ∧ hartThere s h = true ∧ s.cluster.harts[h].halted = true ∧ (dmArg s 1).toNat % 4
      ≠ 0 ∧ regionOf (dmArg s 1).toNat = .regs ∧ Mild 0x60 s) ∧
    (∃ (m : Master) (h : Fin 4) (l : L1Line) (s : State), Granted m 0x30 0x5C 0x0220_0000 s ∧ dmActive s = true ∧
      dmiReg s 0x16 &&& 0x700 = 0 ∧ dmHart s = some h ∧ hartThere s h = true ∧ s.cluster.harts[h].halted = true ∧
      (dmArg s 1).toNat % 4 = 0 ∧ regionOf (dmArg s 1).toNat = .dram ∧ l1Find s h ((dmArg s 1).toNat / 64) = some l) := by
  refine ⟨?_, ?_, ?_, ?_, ?_, ?_, ?_, ?_⟩
  · refine ⟨.keeper, 1, calm (up State.reset), ?_⟩
    exact ⟨granted_of (by decide +kernel), by decide +kernel⟩
  · refine ⟨.keeper, 2, calm (up State.reset), ?_⟩
    exact ⟨granted_of (by decide +kernel), by decide +kernel⟩
  · refine ⟨.keeper, 2, 7, (let s := calm (up State.reset); {s with dbg := {s.dbg with dmi := ((Vector.replicate 128 (0 : Word)).set 0x10 0x20001).set 6 0}, rst := {s.rst with cores := BitVec.allOnes _, blk := Vector.replicate 24 .none}, cluster := {s.cluster with harts := s.cluster.harts.map fun x => {x with halted := true}, l1d := s.cluster.l1d.map fun _ => [{line := 0x2000001, state := .e, data := List.replicate 64 9}]}}), ?_⟩
    exact ⟨granted_of (by decide +kernel), by decide +kernel⟩
  · refine ⟨.keeper, 2, 7, (let s := calm (up State.reset); {s with dbg := {s.dbg with dmi := ((Vector.replicate 128 (0 : Word)).set 0x10 0x20001).set 6 0}, rst := {s.rst with cores := BitVec.allOnes _, blk := Vector.replicate 24 .none}, cluster := {s.cluster with harts := s.cluster.harts.map fun x => {x with halted := true}, l1d := s.cluster.l1d.map fun _ => [{line := 0x2000001, state := .e, data := List.replicate 64 9}]}}), ?_⟩
    exact ⟨granted_of (by decide +kernel), by decide +kernel⟩
  · refine ⟨.keeper, 2, 0x321007, (let s := calm (up State.reset); {s with dbg := {s.dbg with dmi := ((Vector.replicate 128 (0 : Word)).set 0x10 0x20001).set 6 0}, rst := {s.rst with cores := BitVec.allOnes _, blk := Vector.replicate 24 .none}, cluster := {s.cluster with harts := s.cluster.harts.map fun x => {x with halted := false}, l1d := s.cluster.l1d.map fun _ => [{line := 0x2000001, state := .e, data := List.replicate 64 9}]}}), ?_⟩
    exact ⟨granted_of (by decide +kernel), by decide +kernel⟩
  · refine ⟨.keeper, 2, (let s := calm (up State.reset); {s with dbg := {s.dbg with dmi := ((Vector.replicate 128 (0 : Word)).set 0x10 0x20001).set 6 0x80000042}, rst := {s.rst with cores := BitVec.allOnes _, blk := Vector.replicate 24 .none}, cluster := {s.cluster with harts := s.cluster.harts.map fun x => {x with halted := true}, l1d := s.cluster.l1d.map fun _ => [{line := 0x2000001, state := .e, data := List.replicate 64 9}]}}), ?_⟩
    exact ⟨granted_of (by decide +kernel), by decide +kernel⟩
  · refine ⟨.keeper, 2, (let s := calm (up State.reset); {s with dbg := {s.dbg with dmi := ((Vector.replicate 128 (0 : Word)).set 0x10 0x20001).set 6 0x40000002}, rst := {s.rst with cores := BitVec.allOnes _, blk := Vector.replicate 24 .none}, cluster := {s.cluster with harts := s.cluster.harts.map fun x => {x with halted := true}}}), ?_⟩
    exact ⟨granted_of (by decide +kernel), (by decide +kernel), (by decide +kernel), (by decide +kernel),
      (by decide +kernel), (by decide +kernel), (by decide +kernel), (by decide +kernel), mild_of (by decide +kernel)⟩
  · refine ⟨.keeper, 2, ({line := 0x2000001, state := .e, data := List.replicate 64 9} : L1Line), (let s := calm (up State.reset); {s with dbg := {s.dbg with dmi := ((Vector.replicate 128 (0 : Word)).set 0x10 0x20001).set 6 0x80000044}, rst := {s.rst with cores := BitVec.allOnes _, blk := Vector.replicate 24 .none}, cluster := {s.cluster with harts := s.cluster.harts.map fun x => {x with halted := true}, l1d := s.cluster.l1d.map fun _ => [{line := 0x2000001, state := .e, data := List.replicate 64 9}]}}), ?_⟩
    exact ⟨granted_of (by decide +kernel), by decide +kernel⟩

/-- What the hypotheses of MisalignedAccessesAreRefused ask for, clause by clause, is met. -/
theorem witness_misaligned_accesses_are_refused :
    (∃ (_m : Master) (addr : BitVec 40) (size : BitVec 3) (_v : Word) (_s : State), regionOf addr.toNat = .regs ∧
      (size ≠ 2 ∨ addr.toNat % 4 ≠ 0)) := by
  refine ⟨.keeper, (regAddr 0x08 4 : BitVec 40), 1, 3, calm (up State.reset), ?_⟩
  decide +kernel

/-- What the hypotheses of HolesAreIgnored ask for, clause by clause, is met. -/
theorem witness_holes_are_ignored :
    (∃ (m : Master) (bank : Nat) (off : Nat) (s : State), bank < 0x31 ∧ off < 0x1_0000 ∧ off % 4 = 0 ∧ route m bank
      off s = .go ∧ regExists bank off = false) := by
  refine ⟨.keeper, 8, 0x3000, calm (up State.reset), ?_⟩
  decide +kernel

/-- What the hypotheses of SealedFieldsHold ask for, clause by clause, is met. -/
theorem witness_sealed_fields_hold :
    (∃ (_m : Master) (bank : Nat) (off : Nat) (_v : Word) (s : State), sealedReg bank off = true ∧ s.sys.mode ≠ 1 ∧
      s.rst.blk[(22 : Fin 24)] = .none) := by
  refine ⟨.keeper, 0x0D, 8, 5, calm (up State.reset), ?_⟩
  decide +kernel

/-- What the hypotheses of StackedPrioritiesHold ask for, clause by clause, is met. -/
theorem witness_stacked_priorities_hold :
    (∃ (m : Master) (app : Bool) (c : Fin 8) (v : Word) (s : State), Granted m (if app then 0x09 else 0x0A) 0x00 v s ∧
      (licGet app s).ctx[c].stack ≠ []) ∧
    (∃ (m : Master) (app : Bool) (n : Fin 80) (v : Word) (s : State), Granted m (if app then 0x09 else 0x0A)
      (0x100 + 4 * n.val) v s) := by
  refine ⟨?_, ?_⟩
  · refine ⟨.keeper, false, 3, 3, (let s := calm (up State.reset); {s with licApp := {s.licApp with swi := 0xFFFFFFFF, prio := s.licApp.prio.map fun _ => 200, ctx := s.licApp.ctx.map fun x => {x with stack := [(4,7)], en := BitVec.allOnes _, thresh := 3}}, licKeep := {s.licKeep with swi := 0xFFFFFFFF, prio := s.licApp.prio.map fun _ => 200, ctx := s.licApp.ctx.map fun x => {x with stack := [(4,7)], en := BitVec.allOnes _, thresh := 3}}}), ?_⟩
    exact ⟨granted_of (by decide +kernel), by decide +kernel⟩
  · refine ⟨.keeper, false, 3, 0x12345678, calm (up State.reset), ?_⟩
    exact granted_of (by decide +kernel)

/-- What the hypotheses of ErrorsAreCaptured ask for, clause by clause, is met. -/
theorem witness_errors_are_captured :
    (∃ (_i : Fin 4) (bank : Nat) (off : Nat) (_v : Word) (s : State), keeperBank bank = true ∧ bank < 0x31 ∧ off <
      0x1_0000 ∧ s.hub.feValid = false ∧ Mild 0x60 s) ∧
    (∃ (_i : Fin 4) (bank : Nat) (off : Nat) (_v : Word) (s : State), keeperBank bank = true ∧ bank < 0x31 ∧ off <
      0x1_0000 ∧ s.hub.feValid = true ∧ Mild 0x60 s) := by
  refine ⟨?_, ?_⟩
  · refine ⟨2, 0x12, 4, 7, (let s := calm (up State.reset); {s with hub := {s.hub with feValid := false}}), ?_⟩
    exact ⟨(by decide +kernel), (by decide +kernel), (by decide +kernel), (by decide +kernel), mild_of
      (by decide +kernel)⟩
  · refine ⟨2, 0x12, 4, 7, (let s := calm (up State.reset); {s with hub := {s.hub with feValid := true}}), ?_⟩
    exact ⟨(by decide +kernel), (by decide +kernel), (by decide +kernel), (by decide +kernel), mild_of
      (by decide +kernel)⟩

/-- What the hypotheses of StepsKeepSound ask for is met: the reset state is sound, and its step answers next. -/
theorem witness_steps_keep_sound : ∃ s t : State, Sound s ∧ step s = .next t :=
  ⟨State.reset, _, by unfold Sound; decide +kernel, rfl⟩

end Sys2Proof.Tests
end

section
/-! The offsets of a bank that hold no register (R18): what each bank's reader answers there, and that a write of one is
ignored. -/

namespace Sys2Proof.Machine

/-! ## Holes of a bank -/

/-- The `n` words from `base` lie in one run of registers of the bank. -/
def registersCover (bank base n : Nat) : Bool :=
  (bankRegs bank).any fun r => decide (r.1 ≤ base) && decide (base + 4 * n ≤ r.1 + 4 * r.2)

theorem within_eq_true_iff {off base n : Nat} : within off base n = true ↔ base ≤ off ∧ off < base + 4 * n := by
  simp [within]

theorem within_eq_false_iff {off base n : Nat} : within off base n = false ↔ off < base ∨ base + 4 * n ≤ off := by
  rw [← Bool.not_eq_true, within_eq_true_iff]
  omega

/-- A hole lies outside every run of registers. -/
theorem within_run_of_hole {bank off : Nat} (h : regExists bank off = false) {r : Nat × Nat}
    (hr : r ∈ bankRegs bank) : within off r.1 r.2 = false := by
  simpa using List.any_eq_false.mp h r hr

/-- A hole lies outside every stretch that registers fill. -/
theorem within_of_hole {bank off : Nat} (h : regExists bank off = false) (base n : Nat)
    (hc : registersCover bank base n = true) : within off base n = false := by
  obtain ⟨r, hr, hrun⟩ := List.any_eq_true.mp hc
  have hout := within_run_of_hole h hr
  rw [Bool.and_eq_true, decide_eq_true_eq, decide_eq_true_eq] at hrun
  rw [within_eq_false_iff] at hout ⊢
  omega

/-- A hole lies outside each of the runs that repeat at a stride. -/
theorem within_strided_of_hole {bank off base stride k n : Nat} (h : regExists bank off = false)
    (hs : strided base stride k n ⊆ bankRegs bank) {i : Nat} (hi : i < k) :
    within off (base + stride * i) n = false :=
  within_run_of_hole h (hs (List.mem_map.mpr ⟨i, List.mem_range.mpr hi, rfl⟩))

/-! ## Supply, reset, clocks, faults

Every offset that a reader lists by itself holds a register, which contradicts the hypothesis; a hole falls through to
the reader's last case, and there outside every stretch. -/

section Readers
variable {off : Nat} {s : State}

theorem readSysctl_hole (h : regExists 0x00 off = false) : readSysctl off s = 0 := by
  unfold readSysctl
  split <;> try contradiction
  simp (disch := decide) [within_of_hole h]

theorem readPwrseq_hole (h : regExists 0x01 off = false) : readPwrseq off s = 0 := by
  unfold readPwrseq
  split <;> try contradiction
  simp (disch := decide) [within_of_hole h]

theorem readRstctl_hole (h : regExists 0x02 off = false) : readRstctl off s = 0 := by
  unfold readRstctl
  split <;> try contradiction
  rfl

theorem readClkgen_hole (h : regExists 0x04 off = false) : readClkgen off s = 0 := by
  unfold readClkgen
  split <;> try contradiction
  rfl

theorem readPixramp_hole (h : regExists 0x05 off = false) : readPixramp off s = 0 := by
  unfold readPixramp
  split <;> try contradiction
  simp (disch := decide) [within_of_hole h]

theorem readFaulthub_hole (h : regExists 0x06 off = false) : readFaulthub off s = 0 := by
  unfold readFaulthub
  split <;> try contradiction
  simp (disch := decide) [within_of_hole h]

theorem readEnvguard_hole (h : regExists 0x07 off = false) : readEnvguard off s = 0 := by
  unfold readEnvguard
  split <;> try contradiction
  simp (disch := decide) [within_of_hole h]

/-! ## Counters and docket -/

/-- The registers of one counter end at 0x220. -/
theorem readCounter_beyond (n : Nat) {o : Nat} (c : Counter) (h : 0x220 ≤ o) : readCounter n o c = 0 := by
  unfold readCounter
  split <;> try contradiction
  rw [if_neg (by rw [within_eq_true_iff]; omega), if_neg (by rw [within_eq_true_iff]; omega)]

/-- A hole of the counters' part lies beyond the registers of its counter. -/
theorem counter_offset_of_hole (h : regExists 0x08 off = false) (hn : off / 0x400 < 8) : 0x220 ≤ off % 0x400 := by
  have hframes := within_strided_of_hole h (base := 0) (stride := 0x400) (n := 128) (by decide) hn
  have hregs := within_strided_of_hole h (base := 0x200) (stride := 0x400) (n := 8) (by decide) hn
  rw [within_eq_false_iff] at hframes hregs
  omega

theorem readCounters_hole (h : regExists 0x08 off = false) : readCounters off s = 0 := by
  unfold readCounters
  split <;> try contradiction
  split
  · next hc =>
    obtain ⟨hn, -⟩ := Vector.getElem?_eq_some_iff.mp hc
    exact readCounter_beyond _ _ (counter_offset_of_hole h hn)
  · rfl

theorem readDocket_hole (h : regExists 0x2F off = false) : readDocket off s = 0 := by
  unfold readDocket
  dsimp only
  split <;> try contradiction
  rfl

/-! ## Interrupts, DMA, fabric, memory -/

/-- Between and beyond its two runs, a context reads 0. -/
theorem readCtx_outside {o : Nat} (c : LicCtx) (h : 0x28 ≤ o) (h' : o < 0x40 ∨ 0x58 ≤ o) : readCtx o c = 0 := by
  unfold readCtx
  split <;> try omega
  exact if_neg (by rw [within_eq_true_iff]; omega)

theorem readLic_app_hole (h : regExists 0x09 off = false) : readLic true off s = 0 := by
  unfold readLic
  dsimp only
  split <;> try contradiction
  simp (disch := decide) only [within_of_hole h, if_true, Bool.false_eq_true, if_false]
  split
  · next hctx =>
    simp only [Bool.and_eq_true, decide_eq_true_eq] at hctx
    have hi : (off - 0x1000) / 0x100 < 8 := by omega
    have hen := within_strided_of_hole h (base := 0x1000) (stride := 0x100) (n := 10) (by decide) hi
    have hregs := within_strided_of_hole h (base := 0x1040) (stride := 0x100) (n := 6) (by decide) hi
    rw [within_eq_false_iff] at hen hregs
    split
    · exact readCtx_outside _ (by omega) (by omega)
    · rfl
  · rfl

theorem readLic_keep_hole (h : regExists 0x0A off = false) : readLic false off s = 0 := by
  have hen := within_of_hole h 0x1000 5 (by decide)
  have hregs := within_of_hole h 0x1040 6 (by decide)
  unfold readLic
  dsimp only
  split <;> try contradiction
  simp (disch := decide) only [within_of_hole h, Bool.false_eq_true, if_false, Bool.false_or,
    Bool.and_eq_true, Bool.or_eq_true, decide_eq_true_eq]
  rw [within_eq_false_iff] at hen hregs
  split
  · next hctx =>
    split
    · split
      · next hrun => exact readCtx_outside _ (by omega) (by omega)
      · rfl
    · rfl
  · rfl

/-- The registers of one channel end at 0x28. -/
theorem readChan_beyond {o : Nat} (c : BwChan) (h : 0x28 ≤ o) : readChan o c = 0 := by
  unfold readChan
  split <;> try contradiction
  rfl

/-- Both controllers: ten registers for each of their channels. -/
theorem readBarrow_hole {bank : Nat} {app : Bool} (h : regExists bank off = false)
    (hbank : bankRegs bank = (0x00, 3) :: strided 0x100 0x40 (bwChans app) 10) : readBarrow app off s = 0 := by
  have hhead : within off 0x00 3 = false := within_run_of_hole h (r := (0x00, 3)) (by simp [hbank])
  unfold readBarrow
  dsimp only
  split <;> try contradiction
  split
  · split
    · next hc =>
      obtain ⟨hlen, -⟩ := List.getElem?_eq_some_iff.mp hc
      have hi : (off - 0x100) / 0x40 < bwChans app := hlen.trans_le (List.length_take_le _ _)
      have hchan := within_strided_of_hole h (hbank ▸ List.subset_cons_self _ _) hi
      rw [within_eq_false_iff] at hchan
      exact readChan_beyond _ (by omega)
    · rfl
  · rfl

theorem readFabric_hole (h : regExists 0x0D off = false) : readFabric off s = 0 := by
  unfold readFabric
  dsimp only
  split <;> try contradiction
  simp (disch := decide) [within_of_hole h]

theorem readL2dir_hole (h : regExists 0x0E off = false) : readL2dir off s = 0 := by
  unfold readL2dir
  split <;> try contradiction
  simp (disch := decide) [within_of_hole h]

theorem readDramc_hole (h : regExists 0x0F off = false) : readDramc off s = 0 := by
  unfold readDramc
  split <;> try contradiction
  rfl

/-! ## Engine units -/

theorem readVideo_hole (h : regExists 0x10 off = false) : readVideo off s = 0 := by
  unfold readVideo
  dsimp only
  split <;> try contradiction
  rfl

theorem readBeam_hole (h : regExists 0x11 off = false) : readBeam off s = 0 := by
  unfold readBeam
  dsimp only
  split <;> try contradiction
  simp (disch := decide) [within_of_hole h]

theorem readMotor_hole {k : Fin 6} (h : regExists 0x12 off = false) : readMotor k off s = 0 := by
  unfold readMotor
  dsimp only
  split <;> try contradiction
  rfl

theorem readRdc_hole (h : regExists 0x18 off = false) : readRdc off s = 0 := by
  unfold readRdc
  split <;> try contradiction
  rfl

/-- The registers of one loop end at 0x18. -/
theorem readLoop_beyond {o : Nat} (l : Loop) (h : 0x18 ≤ o) : readLoop o l = 0 := by
  unfold readLoop
  split <;> try contradiction
  rfl

theorem readLoopeng_hole (h : regExists 0x19 off = false) : readLoopeng off s = 0 := by
  unfold readLoopeng
  split <;> try contradiction
  split
  · split
    · next hl =>
      obtain ⟨hi, -⟩ := Vector.getElem?_eq_some_iff.mp hl
      have hloop := within_strided_of_hole h (List.subset_cons_self _ _) hi
      rw [within_eq_false_iff] at hloop
      exact readLoop_beyond _ (by omega)
    · rfl
  · rfl

theorem readHv_hole (h : regExists 0x1A off = false) : readHv off s = 0 := by
  unfold readHv
  split <;> try contradiction
  rfl

theorem readFuser_hole (h : regExists 0x1B off = false) : readFuser off s = 0 := by
  unfold readFuser
  split <;> try contradiction
  rfl

/-- A word beyond the end of a vector reads 0. -/
theorem wordOf_beyond {n k : Nat} (v : Vector Word n) (h : n ≤ k) : wordOf v k = 0 := by
  simp [wordOf, Vector.getElem?_eq_none h]

/-- The forecast's power steps stand 0x40 apart and fill 13 words each. -/
theorem forecast_word_of_hole (h : regExists 0x1C off = false) (hpwr : within off 0x400 64 = true) :
    13 ≤ off % 0x40 / 4 := by
  rw [within_eq_true_iff] at hpwr
  have hstep := within_strided_of_hole h (base := 0x400) (stride := 0x40) (k := 4) (n := 13) (by decide)
    (i := (off - 0x400) / 0x40) (by omega)
  rw [within_eq_false_iff] at hstep
  omega

/-- An entry reads 0 under a function that is 0 everywhere, as it does beyond the vector's end. -/
theorem entryOf_zero {α : Type} {n k : Nat} (v : Vector α n) {f : α → Word} (h : ∀ x, f x = 0) :
    entryOf v k f = 0 := by
  unfold entryOf
  cases v[k]? with
  | none => rfl
  | some x => exact h x

theorem readSteelyard_hole (h : regExists 0x1C off = false) : readSteelyard off s = 0 := by
  unfold readSteelyard
  dsimp only
  split <;> try contradiction
  simp (disch := decide) only [within_of_hole h, Bool.false_eq_true, if_false]
  split
  · next hpwr => exact entryOf_zero _ fun v => wordOf_beyond v (forecast_word_of_hole h hpwr)
  · rfl

theorem readAdc_hole (h : regExists 0x1D off = false) : readAdc off s = 0 := by
  unfold readAdc
  split <;> try contradiction
  simp (disch := decide) [within_of_hole h]

/-! ## Till, time, crypto -/

theorem readTill_hole (h : regExists 0x1E off = false) : readTill off s = 0 := by
  unfold readTill
  dsimp only
  split <;> try contradiction
  simp (disch := decide) [within_of_hole h]

theorem readRtc_hole (h : regExists 0x1F off = false) : readRtc off s = 0 := by
  unfold readRtc
  dsimp only
  split <;> try contradiction
  rfl

theorem readDevtime_hole (h : regExists 0x20 off = false) : readDevtime off s = 0 := by
  unfold readDevtime
  split <;> try contradiction
  rfl

theorem readCrypto_hole (h : regExists 0x21 off = false) : readCrypto off s = 0 := by
  unfold readCrypto
  dsimp only
  split <;> try contradiction
  simp (disch := decide) [within_of_hole h]

/-! ## Pins and links -/

theorem readGpio_hole {b : Fin 4} (h : regExists 0x22 off = false) : readGpio b off s = 0 := by
  unfold readGpio
  dsimp only
  split <;> try contradiction
  rfl

theorem readPinmux_hole (h : regExists 0x26 off = false) : readPinmux off s = 0 := by
  have hout : within off 0 120 = false := within_of_hole h 0 120 (by decide)
  unfold readPinmux
  rw [within_eq_false_iff] at hout
  rw [Vector.getElem?_eq_none (by omega)]

theorem readSpim_hole {i : Fin 4} (h : regExists 0x27 off = false) : readSpim i off s = 0 := by
  unfold readSpim
  dsimp only
  split <;> try contradiction
  simp (disch := decide) [within_of_hole h]

theorem readHspi_hole (h : regExists 0x2B off = false) : readHspi off s = 0 := by
  unfold readHspi
  dsimp only
  split <;> try contradiction
  rfl

theorem readEth_hole {i : Fin 2} (h : regExists 0x2C off = false) : readEth i off s = 0 := by
  unfold readEth
  dsimp only
  split <;> try contradiction
  simp (disch := decide) [within_of_hole h]

theorem readXspi_hole (h : regExists 0x2E off = false) : readXspi off s = 0 := by
  unfold readXspi
  dsimp only
  split <;> try contradiction
  simp (disch := decide) [within_of_hole h]

theorem readDebug_hole (h : regExists 0x30 off = false) : readDebug off s = 0 := by
  unfold readDebug
  dsimp only
  split <;> try contradiction
  simp (disch := decide) [within_of_hole h]

theorem regVal_hole {bank : Nat} (h : regExists bank off = false) : regVal bank off s = 0 := by
  unfold regVal
  split
  case h_4 => simp (disch := decide) [within_of_hole h]
  case h_50 => rfl
  exacts [readSysctl_hole h, readPwrseq_hole h, readRstctl_hole h, readClkgen_hole h, readPixramp_hole h,
    readFaulthub_hole h, readEnvguard_hole h, readCounters_hole h, readLic_app_hole h, readLic_keep_hole h,
    readBarrow_hole h rfl, readBarrow_hole h rfl, readFabric_hole h, readL2dir_hole h, readDramc_hole h,
    readVideo_hole h, readBeam_hole h, readMotor_hole h, readMotor_hole h, readMotor_hole h, readMotor_hole h,
    readMotor_hole h, readMotor_hole h, readRdc_hole h, readLoopeng_hole h, readHv_hole h, readFuser_hole h,
    readSteelyard_hole h, readAdc_hole h, readTill_hole h, readRtc_hole h, readDevtime_hole h, readCrypto_hole h,
    readGpio_hole h, readGpio_hole h, readGpio_hole h, readGpio_hole h, readPinmux_hole h, readSpim_hole h,
    readSpim_hole h, readSpim_hole h, readSpim_hole h, readHspi_hole h, readEth_hole h, readEth_hole h,
    readXspi_hole h, readDocket_hole h, readDebug_hole h]

/-! ## Reads and writes of a hole -/

/-- Every offset of the REQ and RPL words, which only some masters read, holds a register. -/
theorem mayRead_hole {m : Master} {bank : Nat} (h : regExists bank off = false) : mayRead m bank off = true := by
  unfold mayRead
  refine if_neg fun ⟨hb, hlt, hreq⟩ => ?_
  subst hb
  have := counter_offset_of_hole h (by omega)
  omega

/-- No read changes the fault hub through its register. -/
@[simp] theorem readEffect_hub (bank off : Nat) (s : State) : (readEffect bank off s).hub = s.hub := by
  unfold readEffect
  split_ifs <;> rfl

/-- A master's copies are no part of the fault hub. -/
@[simp] theorem holdPair_hub (m : Master) (bank off : Nat) (f : Nat → Word) (s : State) :
    (holdPair m bank off f s).hub = s.hub := by
  unfold holdPair
  exact List.foldlRecOn (motive := fun t : State => t.hub = s.hub) _ _ rfl fun _ ih _ _ => ih

theorem regRead_hole {m : Master} {bank : Nat} (hr : route m bank off s = .go) (h : regExists bank off = false)
    (hc : heldCopy m bank off s = none) :
    (regRead m bank off s).1 = some 0 ∧ (regRead m bank off s).2.hub = s.hub := by
  have hv : readVerdict m bank off s = .go := by simp [readVerdict, hr, mayRead_hole h]
  simp [regRead, hv, readThrough, hc, regVal_hole h]

/-- No master is refused a write of a hole (R18). -/
theorem writeVerdict_hole {m : Master} {bank : Nat} {v : Word} (hr : route m bank off s = .go)
    (h : regExists bank off = false) : writeVerdict m bank off v s = .go := by
  simp [writeVerdict, hr, h]

theorem writeDebug_hole {m : Master} {v : Word} (h : regExists 0x30 off = false) : writeDebug m off v s = s := by
  unfold writeDebug
  dsimp only
  split <;> try contradiction
  simp (disch := decide) [within_of_hole h]

theorem regWrite_routed_hole {m : Master} {bank : Nat} {v : Word} (hr : route m bank off s = .go)
    (h : regExists bank off = false) : regWrite m bank off v s = s := by
  have hv := writeVerdict_hole (v := v) hr h
  by_cases hb : bank = 0x30
  · subst hb
    simp [regWrite, regWriteWith, hv, writeDebug_hole h]
  · exact regWrite_hole hv h hb

/-! ## Writes by address -/

/-- The fabric lets an access through only to a bank in reach of its master. -/
theorem bankReach_of_route {m : Master} {bank : Nat} (hr : route m bank off s = .go) : bankReach m bank = true := by
  cases hm : bankReach m bank with
  | true => rfl
  | false => simp [route, hm] at hr

/-- The address of a register in one of the 49 banks. -/
theorem regAddr_toNat {bank : Nat} (hb : bank < 0x31) (ho : off < 0x1_0000) :
    (regAddr bank off).toNat = 0x4000_0000 + bank * 0x1_0000 + off := by
  unfold regAddr
  rw [BitVec.toNat_ofNat, Nat.mod_eq_of_lt (by omega)]

/-- The banks lie in register space. -/
theorem regionOf_regAddr {bank : Nat} (hb : bank < 0x31) (ho : off < 0x1_0000) :
    regionOf (regAddr bank off).toNat = .regs := by
  rw [regAddr_toNat hb ho]
  unfold regionOf
  repeat rw [if_neg (by omega)]
  rw [if_pos (by omega)]

/-- A write by the address of an aligned word is the write at its bank and offset. -/
theorem addrWrite_regAddr {m : Master} {bank : Nat} {v : Word} (hb : bank < 0x31) (ho : off < 0x1_0000)
    (ha : off % 4 = 0) (hm : bankReach m bank = true) :
    addrWrite m (regAddr bank off) 2 v s = regWrite m bank off v s := by
  have hbank : ((regAddr bank off).toNat - 0x4000_0000) / 0x1_0000 = bank := by rw [regAddr_toNat hb ho]; omega
  have hoff : (regAddr bank off).toNat % 0x1_0000 = off := by rw [regAddr_toNat hb ho]; omega
  have halign : (regAddr bank off).toNat % 4 = 0 := by rw [regAddr_toNat hb ho]; omega
  simp [addrWrite, regionOf_regAddr hb ho, hbank, hoff, halign, hm]

end Readers

/-- Settles O56: in every bank the offsets that no register fills read 0, and a write that reaches one is dropped. -/
theorem holesAreIgnored : Obligations.HolesAreIgnored := by
  intro m bank off s hb ho ha hr h
  refine ⟨fun v => ?_, regRead_hole hr h⟩
  have hw := addrWrite_regAddr (v := v) (s := s) hb ho ha (bankReach_of_route hr)
  exact congrArg Host.Outcome.next (hw.trans (regWrite_routed_hole hr h))

end Sys2Proof.Machine
end

section
/-! The Keeper's take of a frame (R79, R84, R89, R90): a granted write of one CNT_TAKE bit is the take of that counter, a
posted counter in its turn is marked taken with nothing else of Sinov's touched, and the loopback counter C7 shows its own
request's payload in RPL. -/

namespace Sys2Proof.Machine

/-! ## Bit-per-counter registers -/

/-- A write of the one bit of counter n runs its operation on counter n alone. -/
theorem cntBits_twoPow (f : Fin 8 → State → State) (n : Fin 8) (s : State) :
    cntBits f (BitVec.twoPow 32 n.val) s = f n s := by
  have hbit : ∀ i : Fin 8, bit (BitVec.twoPow 32 n.val) i.val = decide (n = i) := fun i => by
    rw [bit, BitVec.getLsbD_twoPow, decide_eq_true (show n.val < 32 by omega), Bool.true_and]
    exact decide_eq_decide.mpr Fin.ext_iff.symm
  simp only [cntBits, hbit, decide_eq_true_eq]
  fin_cases n <;> rfl

/-- A granted write of one CNT_TAKE bit takes that counter's frame. -/
theorem exec_cntTake_granted {m : Master} {n : Fin 8} {s : State} (h : Granted m 0x08 0x2004 (BitVec.twoPow 32 n.val) s) :
    exec (.cntTake m n) s = .next (takeOp n s) := by
  have hw : regWrite m 0x08 0x2004 (BitVec.twoPow 32 n.val) s = takeOp n s :=
    (regWrite_granted h (by decide)).trans (cntBits_twoPow takeOp n s)
  exact congrArg Host.Outcome.next hw

/-! ## Leaving POSTED -/

/-- CNT_STALE's condition stays as it is or falls where it does not come up and counter n is not STALE (R98). -/
theorem staleSync_of_steady {n : Fin 8} {s : State} (h : StaleSteady n s) (hn : s.counters[n].stale = false) :
    staleSync s = s ∨ staleSync s = Falls 0xC2 s := by
  unfold staleSync
  cases hany : s.counters.toList.any (fun c => c.stale) with
  | false => exact .inr (setCond_falls 0xC2 s)
  | true =>
    rcases h with hp | hk
    · exact .inl ((if_pos rfl).trans (if_pos hp))
    · obtain ⟨c, hc, hst⟩ := List.any_eq_true.mp hany
      obtain ⟨i, hi, rfl⟩ := Vector.mem_iff_getElem.mp (Vector.mem_toList_iff.mp hc)
      have hclear : s.counters[i].stale = false := by
        by_cases e : ⟨i, hi⟩ = n
        · subst e; exact hn
        · exact hk ⟨i, hi⟩ e
      exact absurd hst (by simp [hclear])

/-- A counter moved from POSTED to TAKEN, its frame to be sorted (R90). -/
def markTaken (c : Counter) : Counter := { c with stage := .taken, stale := false, frame := .none }

/-- The move to TAKEN, with CNT_STALE's condition as it then is. -/
def moveToTaken (n : Fin 8) (s : State) : State := staleSync (cntMod n markTaken s)

/-- Where CNT_STALE does not come up, the move to TAKEN changes counter n alone among the counters, and neither the
conflict windows nor what Sinov holds. -/
theorem moveToTaken_frame {n : Fin 8} {s : State} (h : StaleSteady n s) :
    (moveToTaken n s).counters = vmod s.counters n markTaken ∧ (moveToTaken n s).windows = s.windows ∧
      (moveToTaken n s).sinov = s.sinov := by
  have hsteady : StaleSteady n (cntMod n markTaken s) :=
    h.imp id fun hk k hkn => (congrArg Counter.stale (vmod_other s.counters n k markTaken hkn)).trans (hk k hkn)
  have hn : (cntMod n markTaken s).counters[n].stale = false := congrArg Counter.stale (vmod_same s.counters n markTaken)
  unfold moveToTaken
  rcases staleSync_of_steady hsteady hn with e | e <;> rw [e] <;> exact ⟨rfl, rfl, rfl⟩

/-- A frame in its turn that passes the checks is sorted, its counter TAKEN (R89, R95). -/
theorem takeOp_good {n : Fin 8} {s : State} (ht : takesFrames s = true) (hs : servedNext s n = true)
    (hsteady : StaleSteady n s) (hok : frameOk n s.counters[n] = true) : takeOp n s = sortFrame n (moveToTaken n s) := by
  obtain ⟨hc, -, -⟩ := moveToTaken_frame hsteady
  have hcn : (moveToTaken n s).counters[n] = markTaken s.counters[n] :=
    (congrArg (·[n]) hc).trans (vmod_same s.counters n markTaken)
  have hok' : frameOk n (moveToTaken n s).counters[n] = true := (congrArg (frameOk n) hcn).trans hok
  exact (if_pos ⟨ht, hs⟩).trans (if_pos hok')

/-! ## The reply's bytes -/

@[simp] theorem toLe_length {w : Nat} (v : BitVec w) (n : Nat) : (toLe v n).length = n := by
  induction n with
  | zero => rfl
  | succ n ih => simp [toLe, ih]

/-- A frame that passes the checks announces at most 240 payload bytes (R89). -/
theorem reqLen_le_of_frameOk {n : Fin 8} {c : Counter} (h : frameOk n c = true) : reqLen c ≤ 240 := by
  simp only [frameOk, Bool.and_eq_true, decide_eq_true_eq] at h
  obtain ⟨⟨⟨⟨hlen, -⟩, -⟩, -⟩, -⟩ := h
  exact hlen

/-- The payload has the LEN bytes that the header announces, as far as the REQ words reach. -/
theorem reqPayload_length {c : Counter} (h : reqLen c ≤ 240) : (reqPayload c).length = reqLen c := by
  simpa [reqPayload, reqBytes] using h

/-- A reply is a header of 16 bytes and its payload (R86). -/
theorem replyFrame_length (c : Counter) (waited replay : Bool) (st pr : BitVec 16) (p : List Byte) :
    (replyFrame c waited replay st pr p).length = 16 + p.length := by
  simp [replyFrame, reqBytes]
  omega

/-- RPL of a TAKEN counter shows the bytes of the reply put there (R84). -/
theorem rpl_putReply {bs : List Byte} {c : Counter} (hc : c.stage = .taken) (hl : bs.length ≤ 256) :
    ((List.range 256).take bs.length).map (fun i => (putReply bs c).rpl[i]?.getD 0) = bs := by
  have hlen : ((List.range 256).take bs.length).length = bs.length := by simpa using hl
  refine List.ext_getElem (by simpa using hl) fun i _ hi => ?_
  have hi' : i < 256 := by omega
  simp [putReply, hc, hi, hi']

/-! ## The loopback counter (R79) -/

/-- A counter whose run of bad frames ends (R111). -/
def endBadRun (c : Counter) : Counter := { c with badRun := 0 }

/-- A counter answered with its own request: OK with the payload unchanged, nothing stored. -/
def echoed (c : Counter) : Counter := { putReply (replyFrame c false false 0 0 (reqPayload c)) c with frame := .none }

/-- A good frame on C7 is echoed, and no other part of the state changes. -/
theorem sortFrame_loopback (s : State) : sortFrame 7 s = cntMod 7 echoed (cntMod 7 endBadRun s) := by
  unfold sortFrame
  exact if_pos rfl

theorem echoed_stored (c : Counter) : (echoed c).stored = c.stored := by
  unfold echoed putReply
  split <;> rfl

theorem echoed_frame (c : Counter) : (echoed c).frame = .none := rfl

/-- RPL of a TAKEN counter shows the echo of a frame that passed the checks. -/
theorem rpl_echoed {c : Counter} (hc : c.stage = .taken) (hl : reqLen c ≤ 240) :
    ((List.range 256).take (16 + reqLen c)).map (fun i => (echoed c).rpl[i]?.getD 0) =
      replyFrame c false false 0 0 (reqPayload c) := by
  have hlen : (replyFrame c false false 0 0 (reqPayload c)).length = 16 + reqLen c := by
    rw [replyFrame_length, reqPayload_length hl]
  rw [← hlen]
  exact rpl_putReply hc (by omega)

/-- Settles O7: the taken frame of C7 is sorted by echoing it, which touches its counter only. -/
theorem sharedCounterEchoes : Obligations.SharedCounterEchoes := by
  intro m s hg ht hs hok hsteady
  obtain ⟨hc, hw, hv⟩ := moveToTaken_frame hsteady
  have hexec : exec (.cntTake m 7) s = .next (cntMod 7 echoed (cntMod 7 endBadRun (moveToTaken 7 s))) := by
    rw [exec_cntTake_granted hg, takeOp_good ht hs hsteady hok, sortFrame_loopback]
  have h7 : (cntMod 7 echoed (cntMod 7 endBadRun (moveToTaken 7 s))).counters[(7 : Fin 8)] =
      echoed (endBadRun (markTaken s.counters[(7 : Fin 8)])) := by
    simp only [cntMod_counters, hc, vmod_same]
  refine ⟨_, hexec, hw, ?_, ?_, hv, ?_⟩ <;> rw [h7]
  · exact echoed_stored _
  · exact echoed_frame _
  · exact rpl_echoed (c := endBadRun (markTaken s.counters[(7 : Fin 8)])) rfl (reqLen_le_of_frameOk hok)

end Sys2Proof.Machine
end

section
/-! Register writes of the interrupt controllers and of Barrow (R422, R428): a granted write by address is its bank's
own operation on the register; what a running channel and a non-empty stack keep of it. -/

namespace Sys2Proof.Machine

section Writes

variable {m : Master} {app : Bool} {v : Word} {s : State}

/-! ## Granted writes by address -/

/-- The fabric lets a write through only where it lets the access through. -/
theorem route_of_writeVerdict {bank off : Nat} (h : writeVerdict m bank off v s = .go) : route m bank off s = .go := by
  unfold writeVerdict at h
  split at h
  · assumption
  · exact h

/-- A granted write by the address of a register outside DEBUG is the bank's own operation on it. -/
theorem exec_registerWrite_granted {bank off : Nat} (h : Granted m bank off v s) (hb : bank < 0x30)
    (ho : off < 0x1_0000) (ha : off % 4 = 0) :
    exec (.registerWrite m (regAddr bank off) 2 v) s = .next (bankWrite m bank off v [] s) := by
  have hreach : bankReach m bank = true := bankReach_of_route (route_of_writeVerdict h.1)
  have hw : addrWrite m (regAddr bank off) 2 v s = bankWrite m bank off v [] s :=
    (addrWrite_regAddr (by omega) ho ha hreach).trans (regWrite_granted h (by omega))
  exact congrArg Host.Outcome.next hw

/-- A register lies in one of its bank's runs. -/
theorem exists_run_of_regExists {bank off : Nat} (h : regExists bank off = true) :
    ∃ r ∈ bankRegs bank, r.1 ≤ off ∧ off < r.1 + 4 * r.2 := by
  obtain ⟨r, hr, hw⟩ := List.any_eq_true.mp h
  exact ⟨r, hr, within_eq_true_iff.mp hw⟩

/-! ## Writes of a Barrow channel (R428, R432) -/

@[simp] theorem bwSet_bwGet (app : Bool) (s : State) : bwSet app (bwGet app s) s = s := by cases app <;> rfl

theorem bwGet_chanMod (app : Bool) (ch : Fin 16) (f : BwChan → BwChan) (s : State) :
    (bwGet app (chanMod app ch f s)).ch[ch] = f (bwGet app s).ch[ch] := by
  simp only [chanMod, bwGet_bwSet, vmod_same]

/-- A change that leaves its channel as it is leaves the state as it is. -/
theorem chanMod_eq_self {ch : Fin 16} {f : BwChan → BwChan} (h : f (bwGet app s).ch[ch] = (bwGet app s).ch[ch]) :
    chanMod app ch f s = s := by
  have hv : vmod (bwGet app s).ch ch f = (bwGet app s).ch := by
    unfold vmod
    rw [h]
    exact Vector.set_getElem_self _
  rw [chanMod, hv]
  exact bwSet_bwGet app s

/-- A running transfer freezes the registers of its channel. -/
theorem chanReg_of_run {ch : Fin 16} (f : BwChan → BwChan) (h : (bwGet app s).ch[ch].state = .run) :
    chanReg app ch f s = s :=
  chanMod_eq_self (if_pos h)

/-- SRC, DST, COUNT and FILLVAL of a running channel take no write. -/
theorem writeChan_of_run {ch : Fin 16} {off : Nat} (hoff : off ∈ [0x00, 0x04, 0x08, 0x0C, 0x10, 0x18])
    (h : (bwGet app s).ch[ch].state = .run) : writeChan app ch off v s = s := by
  simp only [List.mem_cons, List.not_mem_nil, or_false] at hoff
  rcases hoff with rfl | rfl | rfl | rfl | rfl | rfl <;> exact chanReg_of_run _ h

theorem chanStart_ie (app : Bool) (c : BwChan) : (chanStart app c).ie = c.ie := by
  unfold chanStart
  split <;> rfl

/-- CTRL.IE takes every write of CTRL. -/
theorem ctrlWrite_ie (app : Bool) (v : Word) (c : BwChan) : (ctrlWrite app v c).ie = v.getLsbD 8 := by
  unfold ctrlWrite
  dsimp only
  split_ifs
  · rfl
  · rfl
  · rfl
  · exact chanStart_ie app _
  · rfl

/-- In RUN a write of CTRL changes IE, marks a lost START or a STOP due, and nothing else. -/
theorem ctrlWrite_of_run {c : BwChan} (h : c.state = .run) :
    ctrlWrite app v c = { c with ie := v.getLsbD 8, lost := (ctrlWrite app v c).lost,
                                 stopDue := (ctrlWrite app v c).stopDue } := by
  have hrun : ctrlWrite app v c = if v.getLsbD 1 then { c with ie := v.getLsbD 8, stopDue := true }
      else if v.getLsbD 0 then { c with ie := v.getLsbD 8, lost := true } else { c with ie := v.getLsbD 8 } := if_pos h
  rw [hrun]
  split_ifs <;> rfl

/-- CTRL.IE of a channel takes every write, in every state. -/
theorem bwCtrl_ie (app : Bool) (ch : Fin 16) (v : Word) (s : State) :
    (bwGet app (bwCtrl app ch v s)).ch[ch].ie = v.getLsbD 8 :=
  (congrArg BwChan.ie (bwGet_chanMod app ch (ctrlWrite app v) s)).trans (ctrlWrite_ie app v _)

/-- A write of CTRL in RUN changes IE, LOST and the STOP due of its channel alone. -/
theorem bwCtrl_of_run {ch : Fin 16} (h : (bwGet app s).ch[ch].state = .run) :
    bwCtrl app ch v s = bwSet app { ch := (bwGet app s).ch.set ch { (bwGet app s).ch[ch] with
      ie := v.getLsbD 8, lost := (bwGet app (bwCtrl app ch v s)).ch[ch].lost,
      stopDue := (bwGet app (bwCtrl app ch v s)).ch[ch].stopDue } } s := by
  rw [bwCtrl, bwGet_chanMod, ← ctrlWrite_of_run h]
  rfl

/-- A register of channel ch exists only where the controller has that channel. -/
theorem lt_bwChans_of_regExists {ch : Fin 16} {o : Nat} (ho : o < 0x40)
    (h : regExists (if app then 0x0B else 0x0C) (0x100 + 0x40 * ch.val + o) = true) : ch.val < bwChans app := by
  cases app with
  | true => exact ch.isLt
  | false =>
    have hend : ∀ r ∈ bankRegs 0x0C, r.1 + 4 * r.2 ≤ 0x300 := by decide
    obtain ⟨r, hr, -, hlt⟩ := exists_run_of_regExists h
    have := hend r hr
    show ch.val < 8
    omega

/-- An offset in the block of channel ch is that channel's register. -/
theorem writeBarrow_chan {ch : Fin 16} {o : Nat} (ho : o < 0x40) (hch : ch.val < bwChans app) :
    writeBarrow app (0x100 + 0x40 * ch.val + o) v s = writeChan app ch o v s := by
  have hi : (0x100 + 0x40 * ch.val + o - 0x100) / 0x40 = ch.val := by omega
  have hr : (0x100 + 0x40 * ch.val + o - 0x100) % 0x40 = o := by omega
  have hfin : Fin.ofNat 16 ch.val = ch := Fin.ofNat_val_eq_self ch
  unfold writeBarrow
  split
  · omega
  · rw [if_pos (by omega), hi, hr, hfin]

/-- A granted write in the block of channel ch, by address, is a write of that channel's register. -/
theorem exec_registerWrite_chan {ch : Fin 16} {o : Nat} (ho : o < 0x40) (ha : o % 4 = 0)
    (h : Granted m (if app then 0x0B else 0x0C) (0x100 + 0x40 * ch.val + o) v s) :
    exec (.registerWrite m (regAddr (if app then 0x0B else 0x0C) (0x100 + 0x40 * ch.val + o)) 2 v) s =
      .next (writeChan app ch o v s) := by
  have hbank : bankWrite m (if app then 0x0B else 0x0C) (0x100 + 0x40 * ch.val + o) v [] s =
      writeBarrow app (0x100 + 0x40 * ch.val + o) v s := by cases app <;> rfl
  rw [exec_registerWrite_granted h (by split <;> decide) (by omega) (by omega), hbank,
    writeBarrow_chan ho (lt_bwChans_of_regExists ho h.2)]

/-! ## Writes of an interrupt controller (R422, R425) -/

/-- Following the levels leaves the priorities. -/
@[simp] theorem licGet_licSync_prio (app : Bool) (s : State) :
    (licGet app (licSync s)).prio = (licGet app s).prio := by
  cases app <;> simp [licGet, licSync, licEval]

/-- Following the levels leaves every stack. -/
@[simp] theorem licGet_licSync_stack (app : Bool) (c : Fin 8) (s : State) :
    (licGet app (licSync s)).ctx[c].stack = (licGet app s).ctx[c].stack := by
  cases app <;> simp [licGet, licSync, licEval, ctxEval]

/-- A non-empty stack of any context holds PRISPLIT. -/
theorem prisplitWrite_of_stacked {c : Fin 8} (h : (licGet app s).ctx[c].stack ≠ []) : prisplitWrite app v s = s := by
  have hany : (licGet app s).ctx.toList.any (fun c => !c.stack.isEmpty) = true :=
    List.any_eq_true.mpr
      ⟨(licGet app s).ctx[c], Vector.mem_toList_iff.mpr (Vector.getElem_mem c.isLt), by simpa using h⟩
  exact if_pos hany

/-- Entries written one after the other from `a` on hold what was written. -/
theorem foldl_setIfInBounds_getElem? {α : Type} {n a k j : Nat} (f : Nat → α) (p : Vector α n) (hk : a + k ≤ n)
    (hj : j < k) : ((List.range k).foldl (fun p i => p.setIfInBounds (a + i) (f i)) p)[a + j]? = some (f j) := by
  induction k with
  | zero => omega
  | succ k ih =>
    rw [List.range_succ, List.foldl_append, List.foldl_cons, List.foldl_nil, Vector.getElem?_setIfInBounds]
    rcases Nat.lt_succ_iff_lt_or_eq.mp hj with hlt | rfl
    · rw [if_neg (by omega), ih (by omega) hlt]
    · rw [if_pos rfl, if_pos (by omega)]

/-- LIC_PRIOn holds the priorities of sources 4n to 4n + 3. -/
theorem prioWrite_prio {n j : Nat} (hn : n < 80) (hj : j < 4) :
    (licGet app (prioWrite app n v s)).prio[4 * n + j]? = some (byteOf v j) := by
  simp only [prioWrite, licGet_licSync_prio, licGet_licSet]
  exact foldl_setIfInBounds_getElem? (byteOf v) _ (by omega) hj

/-- No stack entry follows a write of LIC_PRIO. -/
theorem prioWrite_stack (n : Nat) (c : Fin 8) :
    (licGet app (prioWrite app n v s)).ctx[c].stack = (licGet app s).ctx[c].stack := by
  simp only [prioWrite, licGet_licSync_stack, licGet_licSet]

/-- A write of LIC_PRIO changes the interrupt controllers only. -/
theorem prioWrite_frame (n : Nat) : prioWrite app n v s =
    { s with licApp := (prioWrite app n v s).licApp, licKeep := (prioWrite app n v s).licKeep } := by
  cases app <;> rfl

/-- LIC_PRIOn exists only where the controller has the sources of that word. -/
theorem within_prio_of_regExists {n : Fin 80}
    (h : regExists (if app then 0x09 else 0x0A) (0x100 + 4 * n.val) = true) :
    within (0x100 + 4 * n.val) 0x100 (if app then 80 else 40) = true := by
  rw [within_eq_true_iff]
  cases app with
  | true => simp only [if_true]; omega
  | false =>
    have hgap : ∀ r ∈ bankRegs 0x0A, r.1 + 4 * r.2 ≤ 0x1A0 ∨ 0x240 ≤ r.1 := by decide
    obtain ⟨r, hr, hle, hlt⟩ := exists_run_of_regExists h
    have := hgap r hr
    simp only [Bool.false_eq_true, if_false]
    omega

theorem writeLic_prio {n : Fin 80} (h : within (0x100 + 4 * n.val) 0x100 (if app then 80 else 40) = true) :
    writeLic app (0x100 + 4 * n.val) v s = prioWrite app n v s := by
  have hn : (0x100 + 4 * n.val - 0x100) / 4 = n.val := by omega
  unfold writeLic
  split
  · omega
  · omega
  · omega
  · rw [if_pos h, hn]

/-- A granted write of a LIC bank by address is the bank's own operation. -/
theorem exec_registerWrite_lic {off : Nat} (ho : off < 0x1_0000) (ha : off % 4 = 0)
    (h : Granted m (if app then 0x09 else 0x0A) off v s) :
    exec (.registerWrite m (regAddr (if app then 0x09 else 0x0A) off) 2 v) s = .next (writeLic app off v s) := by
  have hbank : bankWrite m (if app then 0x09 else 0x0A) off v [] s = writeLic app off v s := by cases app <;> rfl
  rw [exec_registerWrite_granted h (by split <;> decide) ho ha, hbank]

end Writes

/-! ## The obligations -/

/-- Settles O46: a running channel's registers take no write, and of CTRL only IE, LOST and a STOP due. -/
theorem runningChannelsAreFrozen : Obligations.RunningChannelsAreFrozen := by
  refine ⟨fun m app ch off v s hoff hrun h => ?_, fun m app ch v s h => ?_⟩
  · have hregs : ∀ o ∈ [0x00, 0x04, 0x08, 0x0C, 0x10, 0x18], o < 0x40 ∧ o % 4 = 0 := by decide
    obtain ⟨hlt, halign⟩ := hregs off hoff
    rw [exec_registerWrite_chan hlt halign h, writeChan_of_run hoff hrun]
  · have hctrl : 0x114 + 0x40 * ch.val = 0x100 + 0x40 * ch.val + 0x14 := by omega
    rw [hctrl] at h ⊢
    exact ⟨bwCtrl app ch v s, exec_registerWrite_chan (by decide) (by decide) h, bwCtrl_ie app ch v s,
      bwCtrl_of_run⟩

/-- Settles O58: a stacked entry holds PRISPLIT, and a written PRIO reaches no stack. -/
theorem stackedPrioritiesHold : Obligations.StackedPrioritiesHold := by
  refine ⟨fun m app c v s h hst => ?_, fun m app n v s h => ?_⟩
  · rw [exec_registerWrite_lic (by decide) (by decide) h]
    exact congrArg Host.Outcome.next (prisplitWrite_of_stacked hst)
  · have hw := writeLic_prio (v := v) (s := s) (within_prio_of_regExists h.2)
    refine ⟨prioWrite app n v s, ?_, prioWrite_frame _, fun j hj => prioWrite_prio n.isLt hj, prioWrite_stack _⟩
    rw [exec_registerWrite_lic (by omega) (by omega) h, hw]

end Sys2Proof.Machine
end

section
/-! The machine as a whole (95): every command completes, with the queue as it was and memory in its canonical form. -/

namespace Sys2Proof.Machine

/-- Every command completes; it leaves the queue and keeps memory in its canonical form. -/
theorem exec_keeps (c : Instr) (s : State) : ∃ t, exec c s = .next t ∧ Keeps s t := by
  have hs := Keeps.refl s
  cases c with
  | ring | abandon | ack | cntTake | cntDone | dkArm | dkSpoil | dkClose | dkRelease | engRel | fhAck | fhClear
  | fhRaise | feClear | psReqWrite | psFailClear | rstKwdgKick | rstAwdgKick | rstReq | coreRelease | holdRel
  | clkResume | pixrampResume | cpuDivWrite | prCtrlWrite | beamEnWrite | videoEnWrite | motStart | motStop
  | leCommitGo | syEnable | forecastGo | tlCommitOp | tlReleaseOp | tlScanOp | timeSnapGo | timeApplyGo
  | timeLostClrGo | shaStart | shaData | shaFinal | sign | verify | mextGo | l2CleanAll | l2FlushAll
  | l2InvalAll | l2CntClr | fabCntClr | drCntClr | ctxEnter | ctxExit | licSwiSet | licSwiClear | mtimecmpWrite
  | barrowStart | barrowStop | bwStopall | outValWrite | outSet | outClr | outTgl | lockKeyWrite
  | lockMaskWrite | spiCtrlWrite | spiTxWrite | spiGo | ethCtrlWrite | ptpSet | ptpStep | mdioFrame
  | xsErase64k | xsProgram | trcClr | dmiAccessRegister | dmiAccessMemory =>
    exact ⟨_, rfl, keeps_regWrite _ _ _ _ s hs⟩
  | rstBlkReq => exact ⟨_, rfl, keeps_regWriteWith _ _ _ _ _ s hs⟩
  | cntFerrRead | spiRxRead => exact ⟨_, rfl, keeps_regRead _ _ _ s hs⟩
  | getInfo | getMode | getResetCause | getSteelyard | getRails | getFaults | tillStatus =>
    exact ⟨_, rfl, keeps_runFrame _ _ _ _ s (fun _ y hy => keeps_query _ _ _ y hy) hs⟩
  | sealPlan => exact ⟨_, rfl, keeps_runFrame _ _ _ _ s (fun _ y hy => keeps_sealCmd _ _ y hy) hs⟩
  | unsealPlan => exact ⟨_, rfl, keeps_runFrame _ _ _ _ s (fun _ y hy => keeps_unsealCmd _ _ y hy) hs⟩
  | sleep => exact ⟨_, rfl, keeps_runFrame _ _ _ _ s (fun _ y hy => keeps_sleepCmd _ _ y hy) hs⟩
  | reset => exact ⟨_, rfl, keeps_runFrame _ _ _ _ s (fun _ y hy => keeps_resetCmdFrame _ _ y hy) hs⟩
  | admitPage => exact ⟨_, rfl, keeps_runFrame _ _ _ _ s (fun _ y hy => keeps_admitCmd _ _ y hy) hs⟩
  | startPage => exact ⟨_, rfl, keeps_runFrame _ _ _ _ s (fun _ y hy => keeps_startCmd _ _ y hy) hs⟩
  | spoilPage => exact ⟨_, rfl, keeps_runFrame _ _ _ _ s (fun _ y hy => keeps_spoilCmd _ _ y hy) hs⟩
  | setFacetProfile => exact ⟨_, rfl, keeps_runFrame _ _ _ _ s (fun _ y hy => keeps_profileCmd _ _ y hy) hs⟩
  | setMotor => exact ⟨_, rfl, keeps_runFrame _ _ _ _ s (fun _ y hy => keeps_motorCmd _ _ y hy) hs⟩
  | motorStop => exact ⟨_, rfl, keeps_runFrame _ _ _ _ s (fun _ y hy => keeps_stopCmd _ _ y hy) hs⟩
  | setLoop => exact ⟨_, rfl, keeps_runFrame _ _ _ _ s (fun _ y hy => keeps_loopCmd _ _ y hy) hs⟩
  | setHv => exact ⟨_, rfl, keeps_runFrame _ _ _ _ s (fun _ y hy => keeps_hvCmd _ _ y hy) hs⟩
  | setFuser => exact ⟨_, rfl, keeps_runFrame _ _ _ _ s (fun _ y hy => keeps_fuserCmd _ _ y hy) hs⟩
  | setLaser => exact ⟨_, rfl, keeps_runFrame _ _ _ _ s (fun _ y hy => keeps_laserCmd _ _ y hy) hs⟩
  | setFabric => exact ⟨_, rfl, keeps_runFrame _ _ _ _ s (fun _ y hy => keeps_fabricCmd _ _ y hy) hs⟩
  | setThrottle => exact ⟨_, rfl, keeps_runFrame _ _ _ _ s (fun _ y hy => keeps_throttleCmd _ _ y hy) hs⟩
  | setShutdownTable => exact ⟨_, rfl, keeps_runFrame _ _ _ _ s (fun _ y hy => keeps_tableCmd _ _ y hy) hs⟩
  | ackFault => exact ⟨_, rfl, keeps_runFrame _ _ _ _ s (fun _ y hy => keeps_ackCmd _ _ y hy) hs⟩
  | clearFault => exact ⟨_, rfl, keeps_runFrame _ _ _ _ s (fun _ y hy => keeps_clearCmd _ _ y hy) hs⟩
  | setFaultClass => exact ⟨_, rfl, keeps_runFrame _ _ _ _ s (fun _ y hy => keeps_classCmd _ _ y hy) hs⟩
  | tillRead => exact ⟨_, rfl, keeps_runFrame _ _ _ _ s (fun _ y hy => keeps_tillReadCmd _ _ y hy) hs⟩
  | tillAppend => exact ⟨_, rfl, keeps_runFrame _ _ _ _ s (fun _ y hy => keeps_tillAppendCmd _ _ y hy) hs⟩
  | tillRelease => exact ⟨_, rfl, keeps_runFrame _ _ _ _ s (fun _ y hy => keeps_tillReleaseCmd _ _ y hy) hs⟩
  | timeGet => exact ⟨_, rfl, keeps_runFrame _ _ _ _ s (fun _ y hy => keeps_timeGetCmd _ _ y hy) hs⟩
  | timeSet => exact ⟨_, rfl, keeps_runFrame _ _ _ _ s (fun _ y hy => keeps_timeSetCmd _ _ y hy) hs⟩
  | timeLostClear => exact ⟨_, rfl, keeps_runFrame _ _ _ _ s (fun _ y hy => keeps_lostClearCmd _ _ y hy) hs⟩
  | measureGet => exact ⟨_, rfl, keeps_runFrame _ _ _ _ s (fun _ y hy => keeps_measureCmd _ _ y hy) hs⟩
  | quote => exact ⟨_, rfl, keeps_runFrame _ _ _ _ s (fun _ y hy => keeps_quoteCmd _ _ y hy) hs⟩
  | fwStageBegin => exact ⟨_, rfl, keeps_runFrame _ _ _ _ s (fun _ y hy => keeps_fwBegin _ _ _ y hy) hs⟩
  | fwStageData => exact ⟨_, rfl, keeps_runFrame _ _ _ _ s (fun _ y hy => keeps_fwData _ _ _ y hy) hs⟩
  | fwVerify => exact ⟨_, rfl, keeps_runFrame _ _ _ _ s (fun _ y hy => keeps_fwVerifyCmd _ _ y hy) hs⟩
  | optionWriteOpen => exact ⟨_, rfl, keeps_runFrame _ _ _ _ s (fun _ y hy => keeps_optOpenCmd _ _ y hy) hs⟩
  | optionWriteLoad => exact ⟨_, rfl, keeps_runFrame _ _ _ _ s (fun _ y hy => keeps_optLoadCmd _ _ y hy) hs⟩
  | diagOutput => exact ⟨_, rfl, keeps_runFrame _ _ _ _ s (fun _ y hy => keeps_diagCmd _ _ y hy) hs⟩
  | diagRead => exact ⟨_, rfl, keeps_runFrame _ _ _ _ s (fun _ y hy => keeps_diagReadCmd _ _ y hy) hs⟩
  | counterStale => exact ⟨_, rfl, keeps_staleOp _ s hs⟩
  | cntBadFrames => exact ⟨_, rfl, keeps_badFramesOp _ s hs⟩
  | conflictWindowClose => exact ⟨_, rfl, keeps_closeWindow _ s hs⟩
  | admissionLapse => exact ⟨_, rfl, keeps_lapseAdmission s hs⟩
  | diagOutputStop => exact ⟨_, rfl, keeps_diagEnd _ s hs⟩
  | resetCmdAssert => exact ⟨_, rfl, keeps_resetCmd s hs⟩
  | sleepPowerDown => exact ⟨_, rfl, keeps_sleepStart s hs⟩
  | facetEnd => exact ⟨_, rfl, keeps_facetEndOp s hs⟩
  | topOfForm => exact ⟨_, rfl, keeps_topOfForm s hs⟩
  | closePoint => exact ⟨_, rfl, keeps_closePointOp s hs⟩
  | safeStopComplete => exact ⟨_, rfl, keeps_safeStopEnd s hs⟩
  | safeStopTimeout => exact ⟨_, rfl, keeps_safeStopLate s hs⟩
  | controlFrame => exact ⟨_, rfl, keeps_controlOp _ _ s hs⟩
  | statusFrame => exact ⟨_, rfl, keeps_statusOp _ _ _ s hs⟩
  | safeExit => exact ⟨_, rfl, keeps_safeExitApply s hs⟩
  | hdieLinkRestored => exact ⟨_, rfl, keeps_linkRestored s hs⟩
  | hdieLinkTimeout => exact ⟨_, rfl, keeps_enterSafe s hs⟩
  | englinkLoss => exact ⟨_, rfl, keeps_linkLoss s hs⟩
  | englinkRecovered => exact ⟨_, rfl, keeps_linkRecovered s hs⟩
  | hdieSelfReset => exact ⟨_, rfl, keeps_hdieReset s hs⟩
  | fwdClockLow => exact ⟨_, rfl, keeps_enterSafe s hs⟩
  | ldCurrentTrip => exact ⟨_, rfl, keeps_ldTrip _ s hs⟩
  | ldOntimeTrip => exact ⟨_, rfl, keeps_onTimeTrip s hs⟩
  | htrDutyHold => exact ⟨_, rfl, keeps_dutyHold _ s hs⟩
  | htrStuckTrip => exact ⟨_, rfl, keeps_stuckTrip _ s hs⟩
  | tsfTrip => exact ⟨_, rfl, keeps_tsfOp _ s hs⟩
  | phaseCurrentTrip => exact ⟨_, rfl, keeps_phaseTrip _ s hs⟩
  | hvOvervoltTrip => exact ⟨_, rfl, keeps_hvTrip _ s hs⟩
  | overspeedTrip => exact ⟨_, rfl, keeps_speedTrip _ s hs⟩
  | graceExpire => exact ⟨_, rfl, keeps_graceEnd _ s hs⟩
  | parityScan => exact ⟨_, rfl, keeps_parityOp _ s hs⟩
  | vinStart => exact ⟨_, rfl, keeps_startSupply s hs⟩
  | softStartDone => exact ⟨_, rfl, keeps_softDone s hs⟩
  | vauxGood => exact ⟨_, rfl, keeps_vauxUp s hs⟩
  | aoPorRelease => exact ⟨_, rfl, keeps_aoRelease s hs⟩
  | brownOut => exact ⟨_, rfl, keeps_brownOutOp s hs⟩
  | pfw => exact ⟨_, rfl, keeps_pfwOp s hs⟩
  | vinHighCross => exact ⟨_, rfl, keeps_vinHighOp _ s hs⟩
  | vregenRise => exact ⟨_, rfl, keeps_regenUp s hs⟩
  | vregenFall => exact ⟨_, rfl, keeps_regenDown s hs⟩
  | vauxLowCross => exact ⟨_, rfl, keeps_vauxLowOp _ s hs⟩
  | aoSwitchToVbkp => exact ⟨_, rfl, keeps_toVbkp s hs⟩
  | aoSwitchToVaux => exact ⟨_, rfl, keeps_toVaux s hs⟩
  | vbkpLowCross => exact ⟨_, rfl, keeps_vbkpOp _ s hs⟩
  | vinMonitorSample => exact ⟨_, rfl, keeps_monitor _ _ s hs⟩
  | vinAvgUpdate => exact ⟨_, rfl, keeps_average s hs⟩
  | domainSwitchClose => exact ⟨_, rfl, keeps_switchClose _ s hs⟩
  | domainGood => exact ⟨_, rfl, keeps_domainGood _ s hs⟩
  | domainGoodTimeout => exact ⟨_, rfl, keeps_domLate _ s hs⟩
  | domainPgDrop => exact ⟨_, rfl, keeps_domDrop _ s hs⟩
  | domainSwitchOff => exact ⟨_, rfl, keeps_domUnwanted _ s hs⟩
  | seqpgRise => exact ⟨_, rfl, keeps_seqpgUp _ s hs⟩
  | railSettled => exact ⟨_, rfl, keeps_railUp _ s hs⟩
  | railTimeout => exact ⟨_, rfl, keeps_railLate _ s hs⟩
  | seqpgDrop => exact ⟨_, rfl, keeps_seqpgDown _ s hs⟩
  | tpfwExpire => exact ⟨_, rfl, keeps_tpfwOp s hs⟩
  | shutdownEntryDue => exact ⟨_, rfl, keeps_entryDue _ s hs⟩
  | trecExpire => exact ⟨_, rfl, keeps_deferralEnd s hs⟩
  | vinRestored => exact ⟨_, rfl, keeps_vinBack s hs⟩
  | seqHalt => exact ⟨_, rfl, keeps_haltOp s hs⟩
  | nrstPulse => exact ⟨_, rfl, keeps_nrst _ s hs⟩
  | resetOffTimeEnd => exact ⟨_, rfl, keeps_offTimeEnd s hs⟩
  | keeperWatchdogExpire => exact ⟨_, rfl, keeps_kwdgExpire s hs⟩
  | appWatchdogExpire => exact ⟨_, rfl, keeps_awdgExpire s hs⟩
  | blockDrainDone => exact ⟨_, rfl, keeps_drainDone _ s hs⟩
  | blockDrainTimeout => exact ⟨_, rfl, keeps_drainTimeout _ _ s hs⟩
  | blockResetRelease => exact ⟨_, rfl, keeps_blockRelease _ s hs⟩
  | loaderEntryReady => exact ⟨_, rfl, keeps_entryReady _ _ _ _ s hs⟩
  | loaderEntryTimeout => exact ⟨_, rfl, keeps_entryTimeout _ s hs⟩
  | loaderRepairDone => exact ⟨_, rfl, keeps_repairDone _ _ s hs⟩
  | loaderEnvXferAck => exact ⟨_, rfl, keeps_envAck s hs⟩
  | loaderEnvXferTimeout => exact ⟨_, rfl, keeps_envTimeout s hs⟩
  | loadFailsLimit => exact ⟨_, rfl, keeps_loadLimit _ s hs⟩
  | keeperRelease => exact ⟨_, rfl, keeps_keeperFree s hs⟩
  | bootSocpllWaitEnd => exact ⟨_, rfl, keeps_socpllWait s hs⟩
  | sinovPowerUp => exact ⟨_, rfl, keeps_powerUp s hs⟩
  | ksramDoubleBit => exact ⟨_, rfl, keeps_doubleBit _ s hs⟩
  | ksramSingleBit => exact ⟨_, rfl, keeps_raiseFault _ s hs⟩
  | pllUnlock => exact ⟨_, rfl, keeps_pllUnlockOp _ s hs⟩
  | pllLock => exact ⟨_, rfl, keeps_pllLockOp _ s hs⟩
  | ckrefLoss => exact ⟨_, rfl, keeps_refLost s hs⟩
  | ckrefReturn => exact ⟨_, rfl, keeps_refBack s hs⟩
  | ao32Stop => exact ⟨_, rfl, keeps_ao32Lost s hs⟩
  | rampSegmentEnd => exact ⟨_, rfl, keeps_rampNext s hs⟩
  | bdEdgeAccept => exact ⟨_, rfl, keeps_edgeAccept _ _ s hs⟩
  | bdEdgeExtra => exact ⟨_, rfl, keeps_edgeExtra s hs⟩
  | bdCheckTimeout => exact ⟨_, rfl, keeps_checkFail s hs⟩
  | bdGateClose => exact ⟨_, rfl, keeps_gateClose s hs⟩
  | acqPulseStart => exact ⟨_, rfl, keeps_pulseStart s hs⟩
  | lineDueCheck => exact ⟨_, rfl, keeps_lineDue s hs⟩
  | ldilFall => exact ⟨_, rfl, keeps_ldilLow s hs⟩
  | diagLaserPulse => exact ⟨_, rfl, keeps_diagPulse _ s hs⟩
  | videoBurstDone => exact ⟨_, rfl, keeps_burst s hs⟩
  | videoBurstError => exact ⟨_, rfl, keeps_burstError s hs⟩
  | speedRegTick => exact ⟨_, rfl, keeps_regTick _ _ _ _ s hs⟩
  | alignDone => exact ⟨_, rfl, keeps_alignEnd _ s hs⟩
  | learnDone => exact ⟨_, rfl, keeps_learnEnd _ _ s hs⟩
  | resolverOutOfRange => exact ⟨_, rfl, keeps_resolverFault _ s hs⟩
  | bootstrapLow => exact ⟨_, rfl, keeps_legRefresh _ _ s hs⟩
  | bootstrapRefreshEnd => exact ⟨_, rfl, keeps_legRefreshEnd _ _ s hs⟩
  | brakeEntry => exact ⟨_, rfl, keeps_toBrake _ s hs⟩
  | brakeToOff => exact ⟨_, rfl, keeps_brakeRest _ s hs⟩
  | atSpeedLoss => exact ⟨_, rfl, keeps_speedLost _ s hs⟩
  | cmdPinStuck => exact ⟨_, rfl, keeps_pinStuck _ s hs⟩
  | mediaJamDetect => exact ⟨_, rfl, keeps_mediaJam _ s hs⟩
  | hdieVinSample => exact ⟨_, rfl, keeps_vinSample _ s hs⟩
  | loopSlotSample => exact ⟨_, rfl, keeps_loopSample _ s hs⟩
  | scheduleApply => exact ⟨_, rfl, keeps_schedApply s hs⟩
  | loopDwellExpire => exact ⟨_, rfl, keeps_dwellEnd _ s hs⟩
  | heaterPeriodStart => exact ⟨_, rfl, keeps_heaterStart _ s hs⟩
  | heaterConductionEnd => exact ⟨_, rfl, keeps_heaterEnd _ _ s hs⟩
  | syEvaluation => exact ⟨_, rfl, keeps_evaluate _ s hs⟩
  | throttleDwellExpire => exact ⟨_, rfl, keeps_thrDwellEnd _ s hs⟩
  | sensorDisagreeSet => exact ⟨_, rfl, keeps_disagreeSet _ s hs⟩
  | sensorDisagreeClear => exact ⟨_, rfl, keeps_disagreeClear _ s hs⟩
  | tsSample => exact ⟨_, rfl, keeps_tsRead _ s hs⟩
  | forecastDone => exact ⟨_, rfl, keeps_forecastEnd s hs⟩
  | hdieHotCross => exact ⟨_, rfl, keeps_hdieHot _ s hs⟩
  | tlCommitDone => exact ⟨_, rfl, keeps_commitDone _ s hs⟩
  | tillStopped => exact ⟨_, rfl, keeps_stopTill s hs⟩
  | tlReleaseDone => exact ⟨_, rfl, keeps_releaseDone s hs⟩
  | tlScanDone => exact ⟨_, rfl, keeps_scanDone s hs⟩
  | chainBreakFound => exact ⟨_, rfl, keeps_chainBreakOp s hs⟩
  | chainWalkDone => exact ⟨_, rfl, keeps_walkDoneOp s hs⟩
  | pairLoRead => exact ⟨_, rfl, keeps_addrRead _ _ s hs⟩
  | rtcAlarmFire => exact ⟨_, rfl, keeps_alarmFire s hs⟩
  | vretCross => exact ⟨_, rfl, keeps_vretLoss s hs⟩
  | bkpPowerOn => exact ⟨_, rfl, keeps_timeRestart s hs⟩
  | shaDone => exact ⟨_, rfl, keeps_shaEnd s hs⟩
  | signDone => exact ⟨_, rfl, keeps_signEnd s hs⟩
  | l2MaintDone => exact ⟨_, rfl, keeps_l2Done s hs⟩
  | coherenceTurn => exact ⟨_, rfl, keeps_coherenceTurn _ _ s hs⟩
  | wheelSlot => exact ⟨_, rfl, keeps_wheelSlot _ s hs⟩
  | allotmentApply => exact ⟨_, rfl, keeps_applyAllot s hs⟩
  | dramRefresh => exact ⟨_, rfl, keeps_dramRefresh s hs⟩
  | dramTrainDone => exact ⟨_, rfl, keeps_dramTrained _ s hs⟩
  | licLevelChange => exact ⟨_, rfl, keeps_licSync s hs⟩
  | mtimerFire => exact ⟨_, rfl, keeps_timerFire _ _ s hs⟩
  | barrowRequestDone => exact ⟨_, rfl, keeps_chanRequest _ _ s hs⟩
  | gpioPinChange => exact ⟨_, rfl, keeps_padChange _ _ _ s hs⟩
  | wakePin => exact ⟨_, rfl, keeps_dormantWake _ s hs⟩
  | spiRawDone => exact ⟨_, rfl, keeps_spiRawEnd _ _ s hs⟩
  | spiSafeFrameDone => exact ⟨_, rfl, keeps_spiSafeEnd _ _ _ s hs⟩
  | hspiBadFrame => exact ⟨_, rfl, keeps_spoiltFrame _ s hs⟩
  | hspiClash => exact ⟨_, rfl, keeps_csClash s hs⟩
  | hsCfgApply => exact ⟨_, rfl, keeps_cfgApply s hs⟩
  | hspiWake => exact ⟨_, rfl, keeps_dormantWake _ s hs⟩
  | ethTxFrame => exact ⟨_, rfl, keeps_ethTx _ s hs⟩
  | ethRxFrame => exact ⟨_, rfl, keeps_ethRx _ _ _ s hs⟩
  | ppsRise => exact ⟨_, rfl, keeps_ppsSet _ _ s hs⟩
  | ppsFall => exact ⟨_, rfl, keeps_ppsSet _ _ s hs⟩
  | tscapEdge => exact ⟨_, rfl, keeps_tsCapture _ s hs⟩
  | mdioDone => exact ⟨_, rfl, keeps_mdioEnd _ _ s hs⟩
  | xsOpDone => exact ⟨_, rfl, keeps_xsEnd _ s hs⟩
  | xsReadSuspend => exact ⟨_, rfl, keeps_xsSuspend s hs⟩
  | registerWrite => exact ⟨_, rfl, keeps_addrWrite _ _ _ _ s hs⟩
  | ldilRise => exact ⟨_, rfl, keeps_ldilHigh s hs⟩
  | bdGateOpen => exact ⟨_, rfl, keeps_gateOpen s hs⟩
  | acqPulseEnd => exact ⟨_, rfl, keeps_pulseEnd s hs⟩
  | ckAo32Restart => exact ⟨_, rfl, keeps_ao32Restart s hs⟩
  | vddAoInvalid => exact ⟨_, rfl, keeps_aoLost s hs⟩
  | ckPwmCycle => exact ⟨_, rfl, keeps_pwmCycle _ _ s hs⟩
  | hvEnvelopeInhibit => exact ⟨_, rfl, keeps_hvInhibit _ _ s hs⟩
  | hspiWriteReq | hspiReadRpl | hspiDoorbell | hspiRegRead | hspiRegWrite | hspiNop =>
    exact ⟨_, rfl, keeps_transact _ _ s hs⟩
  | timeApplyEdge => exact ⟨_, rfl, keeps_timeEdge _ s (fun y hy => keeps_applyEdge y hy) hs⟩
  | rtcSecond => exact ⟨_, rfl, keeps_timeEdge _ s (fun y hy => keeps_secondOp y hy) hs⟩
  | cboClean => exact ⟨_, rfl, keeps_cboAccess _ _ _ s (fun y hy => keeps_cboClean _ y hy) hs⟩
  | cboFlush => exact ⟨_, rfl, keeps_cboAccess _ _ _ s (fun y hy => keeps_cboFlush _ y hy) hs⟩
  | cboInval => exact ⟨_, rfl, keeps_cboAccess _ _ _ s (fun y hy => keeps_cboInval _ y hy) hs⟩
  | getDocket =>
    exact ⟨_, rfl, keeps_runFrame _ _ _ _ s
      (fun _ y hy => keeps_judged _ _ _ y (fun z hz => keeps_answerOk _ _ z hz) hy) hs⟩
  | fwCommit =>
    exact ⟨_, rfl, Keeps.ite (fun _ => keeps_slotFinish _ s hs)
      (fun _ => keeps_runFrame _ _ _ _ s (fun _ y hy => keeps_fwCommitCmd _ _ y hy) hs)⟩
  | optionWriteCommit =>
    exact ⟨_, rfl, Keeps.ite (fun _ => keeps_copiesFinish _ _ s hs)
      (fun _ => keeps_runFrame _ _ _ _ s (fun _ y hy => keeps_optCommitCmd _ _ y hy) hs)⟩
  | debugReset => exact ⟨_, rfl, Keeps.ite (fun _ => keeps_systemCause _ _ s hs) (fun _ => hs)⟩
  | zEdgeMisplaced | encoderAbError | stallDetected =>
    exact ⟨_, rfl, Keeps.ite (fun _ => keeps_posFault _ s hs) (fun _ => hs)⟩
  | highSideMaxOn => exact ⟨_, rfl, Keeps.ite (fun _ => keeps_legRefresh _ _ s hs) (fun _ => hs)⟩
  | barrowErrorResponse => exact ⟨_, rfl, Keeps.ite (fun _ => keeps_chanFail _ _ _ s hs) (fun _ => hs)⟩
  | ethBusError i rx =>
    by_cases h : ((if rx then s.eth[i].rxRun else s.eth[i].txRun) && ethUp s i) = true
    · exact ⟨_, if_pos h, keeps_ethBusFail _ _ _ _ _ (keeps_takeBit s hs)⟩
    · exact ⟨_, if_neg h, hs⟩

/-- Settles O1: a step on a queue with a front command is that command on the queue's rest. -/
theorem stepRunsFront : Obligations.StepRunsFront := fun _ _ _ => rfl

/-- Settles O2: every command keeps the queue, as `exec_keeps` says. -/
theorem everyCommandCompletes : Obligations.EveryCommandCompletes := fun c s => by
  obtain ⟨t, ht, hk⟩ := exec_keeps c s
  exact ⟨t, ht, hk.pending⟩

/-- Settles O3: the queue's rest has the same memory, which every command keeps in its form, as an idle step does. -/
theorem stepsKeepSound : Obligations.StepsKeepSound := by
  intro s t hs h
  cases hp : s.pending with
  | nil =>
    rw [step, hp] at h
    cases h
    exact (keeps_idleTick s (.refl s)).mem hs
  | cons c rest =>
    rw [step, hp] at h
    obtain ⟨u, hu, hk⟩ := exec_keeps c { s with pending := rest }
    cases hu.symm.trans h
    exact hk.mem hs

/-- Settles O4: after reset no byte of memory has been written and no command waits. -/
theorem resetSound : Obligations.ResetSound := ⟨rfl, rfl⟩

end Sys2Proof.Machine
end

section
/-! Doorbells and counters (R82-R93): a row that is one granted access is its register's own operation; what RING, ABANDON,
ACK, CNT_DONE and the read of CNT_FERR do to their counter, and what CNT_STALE's condition becomes. -/

namespace Sys2Proof.Machine

/-! ## Granted accesses of a row -/

/-- A row that is one granted register write outside DEBUG is the bank's own operation. -/
theorem exec_of_granted {i : Instr} {m : Master} {b o : Nat} {v : Word} {s : State}
    (hi : exec i s = .next (regWrite m b o v s)) (h : Granted m b o v s) (hb : b ≠ 0x30) :
    exec i s = .next (bankWrite m b o v [] s) :=
  hi.trans (congrArg Host.Outcome.next (regWrite_granted h hb))

/-- A row that is one granted register read has the read's effect, and a master's copies of the words that go with it. -/
theorem exec_of_readGranted {i : Instr} {m : Master} {b o : Nat} {s : State}
    (hi : exec i s = .next (regRead m b o s).2) (h : ReadGranted m b o s) :
    exec i s = .next (readEffect b o (holdPair m b o (fun o => regVal b o s) s)) := by
  obtain ⟨hv, hc⟩ := h
  rw [hi]
  simp only [regRead, hv, readThrough, hc]

/-- A register that is no low word of a pair leaves no copies. -/
theorem holdPair_single {m : Master} {b o : Nat} {f : Nat → Word} {s : State} (h : pairWith b o = []) :
    holdPair m b o f s = s := by
  rw [holdPair, h, List.foldl_nil]

/-! ## Frames of memory and of the counters -/

theorem memSame_of_mem {s t : State} (h : t.mem = s.mem) : MemSame s t := fun a => congrArg (Mem.read · a) h

/-- A change of entry n alone leaves every other counter. -/
theorem otherCounters_of_vmod {n : Fin 8} {f : Counter → Counter} {s t : State}
    (h : t.counters = vmod s.counters n f) : OtherCounters n s t := fun k hk => by
  rw [h]
  exact vmod_other s.counters n k f hk

theorem otherCounters_of_eq {n : Fin 8} {s t : State} (h : t.counters = s.counters) : OtherCounters n s t :=
  fun k _ => by rw [h]

/-- Two changes of one entry are one change. -/
theorem vmod_vmod {α : Type} {n : Nat} (v : Vector α n) (i : Fin n) (f g : α → α) :
    vmod (vmod v i f) i g = vmod v i fun x => g (f x) := by
  simp [vmod]

/-! ## The doorbell register (R90-R92) -/

/-- Offset 0x200 of a counter's part is its doorbell. -/
theorem writeCounters_doorbell (m : Master) (n : Fin 8) (v : Word) (s : State) :
    writeCounters m (0x400 * n.val + 0x200) v s = doorbell n v s := by
  have hdiv : (0x400 * n.val + 0x200) / 0x400 = n.val := by omega
  have hmod : (0x400 * n.val + 0x200) % 0x400 = 0x200 := by omega
  unfold writeCounters
  rw [if_neg (by omega)]
  simp only [hdiv, hmod, Fin.ofNat_val_eq_self]

/-- A granted write of a doorbell, by the row that writes it. -/
theorem exec_of_doorbell {i : Instr} {m : Master} {n : Fin 8} {v : Word} {s : State}
    (hi : exec i s = .next (regWrite m 0x08 (0x400 * n.val + 0x200) v s))
    (h : Granted m 0x08 (0x400 * n.val + 0x200) v s) : exec i s = .next (doorbell n v s) :=
  (exec_of_granted hi h (by decide)).trans (congrArg Host.Outcome.next (writeCounters_doorbell m n v s))

theorem bit_or (v w : Word) (i : Nat) : bit (v ||| w) i = (bit v i || bit w i) := BitVec.getLsbD_or

/-- RING alone rings, whatever ACK says (R92). -/
theorem doorbell_ring {n : Fin 8} {v : Word} {s : State} (h : bit v 1 = false) :
    doorbell n (v ||| 1) s = ringOp n s := by
  have h0 : bit (v ||| 1) 0 = true := by rw [bit_or, show bit (1 : Word) 0 = true by decide, Bool.or_true]
  have h1 : bit (v ||| 1) 1 = false := by rw [bit_or, h, show bit (1 : Word) 1 = false by decide, Bool.or_false]
  rw [doorbell, if_neg (by rw [h1]; simp), if_pos h0]

/-- ABANDON alone abandons. -/
theorem doorbell_abandon (n : Fin 8) (s : State) : doorbell n 2 s = abandonOp n s := rfl

/-- ACK with neither RING nor ABANDON acknowledges. -/
theorem doorbell_ack {n : Fin 8} {v : Word} {s : State} (h0 : bit v 0 = false) (h1 : bit v 1 = false) :
    doorbell n (v ||| 4) s = ackOp n s := by
  have h0' : bit (v ||| 4) 0 = false := by rw [bit_or, h0, show bit (4 : Word) 0 = false by decide, Bool.or_false]
  have h1' : bit (v ||| 4) 1 = false := by rw [bit_or, h1, show bit (4 : Word) 1 = false by decide, Bool.or_false]
  have h2' : bit (v ||| 4) 2 = true := by rw [bit_or, show bit (4 : Word) 2 = true by decide, Bool.or_true]
  rw [doorbell, if_neg (by rw [h0']; simp), if_neg (by rw [h0']; simp), h1', h2']
  rfl

/-! ## CNT_STALE's condition (R98) -/

theorem any_eq_any_finRange {α : Type} {n : Nat} (v : Vector α n) (p : α → Bool) :
    v.toList.any p = (List.finRange n).any fun k => p v[k] := by
  rw [Bool.eq_iff_iff]
  simp only [List.any_eq_true, Vector.mem_toList_iff, Vector.mem_iff_getElem, List.mem_finRange, true_and]
  constructor
  · rintro ⟨-, ⟨i, hi, rfl⟩, hp⟩
    exact ⟨⟨i, hi⟩, hp⟩
  · rintro ⟨k, hp⟩
    exact ⟨v[k], ⟨k.val, k.isLt, rfl⟩, hp⟩

/-- Some counter but n is STALE. -/
def otherStale (n : Fin 8) (s : State) : Bool := (List.finRange 8).any fun k => k ≠ n && s.counters[k].stale

/-- With counter n not STALE, the condition is that another one is. -/
theorem any_stale_of_not {n : Fin 8} {s : State} (hn : s.counters[n].stale = false) :
    (s.counters.toList.any fun c => c.stale) = otherStale n s := by
  rw [any_eq_any_finRange, otherStale]
  refine congrArg (List.any _) (funext fun k => ?_)
  by_cases hk : k = n
  · subst hk; simp only [hn, ne_eq, not_true_eq_false, decide_false, Bool.false_and]
  · simp [hk]

theorem otherStale_cntMod (n : Fin 8) (f : Counter → Counter) (s : State) :
    otherStale n (cntMod n f s) = otherStale n s := by
  refine congrArg (List.any _) (funext fun k => ?_)
  by_cases hk : k = n
  · simp [hk]
  · rw [cntMod_counters, vmod_other _ _ _ _ hk]

/-- Where CNT_STALE does not come up, its condition follows the other counters and nothing else changes (R98). -/
theorem staleSync_eq {n : Fin 8} {s : State} (h : StaleSteady n s) (hn : s.counters[n].stale = false) :
    staleSync s = { s with hub := { s.hub with present := setBit s.hub.present 0xC2 (otherStale n s) } } := by
  rw [staleSync, any_stale_of_not hn]
  cases ho : otherStale n s with
  | false => rfl
  | true =>
    have hp : s.hub.present.getLsbD 0xC2 = true := h.resolve_right fun hk => by
      obtain ⟨k, -, hks⟩ := List.any_eq_true.mp ho
      simp only [Bool.and_eq_true, decide_eq_true_eq] at hks
      exact absurd hks.2 (by rw [hk k hks.1]; decide)
    rw [setBit_same hp]
    exact (if_pos rfl).trans (if_pos hp)

/-- A change of counter n alone leaves the others' STALE and the condition. -/
theorem staleSteady_cntMod {n : Fin 8} {s : State} (f : Counter → Counter) (h : StaleSteady n s) :
    StaleSteady n (cntMod n f s) :=
  h.imp id fun hk k hkn => (congrArg Counter.stale (vmod_other s.counters n k f hkn)).trans (hk k hkn)

/-- After a change of counter n that leaves it not STALE, the condition is that another one is. -/
theorem staleSync_cntMod {n : Fin 8} {s : State} (f : Counter → Counter) (h : StaleSteady n s)
    (hn : (f s.counters[n]).stale = false) :
    staleSync (cntMod n f s) = { s with
      counters := vmod s.counters n f
      hub := { s.hub with present := setBit s.hub.present 0xC2 (otherStale n s) } } := by
  rw [staleSync_eq (n := n) (staleSteady_cntMod f h) ((congrArg Counter.stale (vmod_same s.counters n f)).trans hn),
    otherStale_cntMod]
  rfl

/-! ## What each doorbell does -/

theorem ringOp_free {n : Fin 8} {s : State} (h : s.counters[n].stage = .idle ∨ s.counters[n].stage = .done) :
    ringOp n s = cntMod n (fun c => { c with stage := .posted, stamp := s.devtime, lastTag := reqTag c }) s := by
  rcases h with h | h <;> simp only [ringOp, h]

theorem ringOp_busy {n : Fin 8} {s : State} (h : s.counters[n].stage = .posted ∨ s.counters[n].stage = .taken) :
    ringOp n s = cntMod n (fun c => { c with ringLost := true }) s := by
  rcases h with h | h <;> simp only [ringOp, h]

/-- ABANDON of a POSTED counter withdraws its request; CNT_STALE stays with the other counters. -/
theorem abandonOp_posted {n : Fin 8} {s : State} (h : s.counters[n].stage = .posted) (hst : StaleSteady n s) :
    abandonOp n s = { s with
      counters := vmod s.counters n fun c => { c with stage := .idle, stale := false }
      hub := { s.hub with present := setBit s.hub.present 0xC2 (otherStale n s) } } := by
  have hmod : cntMod n (fun c => if c.stage = .posted then { c with stage := .idle, stale := false } else c) s =
      cntMod n (fun c => { c with stage := .idle, stale := false }) s := by
    simp only [cntMod, vmod, h, if_true]
  rw [abandonOp, hmod, staleSync_cntMod _ hst rfl]

theorem ackOp_done {n : Fin 8} {s : State} (h : s.counters[n].stage = .done) :
    ackOp n s = cntMod n (fun c => { c with stage := .idle }) s := by
  simp only [ackOp, cntMod, vmod, h, if_true]

theorem doneOp_taken {n : Fin 8} {s : State} (h : s.counters[n].stage = .taken) :
    doneOp n s = cntMod n (fun c => { c with stage := .done }) s := by
  simp only [doneOp, cntMod, vmod, h, if_true]

/-- A read of CNT_FERR clears it (R6). -/
theorem readEffect_ferr (n : Fin 8) (s : State) :
    readEffect 0x08 (0x400 * n.val + 0x218) s = cntMod n (fun c => { c with ferr := 0 }) s := by
  have hdiv : (0x400 * n.val + 0x218) / 0x400 = n.val := by omega
  rw [readEffect, if_pos ⟨rfl, by omega, by omega⟩, hdiv, Fin.ofNat_val_eq_self]

/-- Settles O5: each doorbell is the operation of its counter, which `vmod` changes alone. -/
theorem doorbellsMoveTheCounter : Obligations.DoorbellsMoveTheCounter := by
  refine ⟨fun m n v s h hv hst => ?_, fun m n v s h hv hst => ?_, fun m n s h hst hsteady => ?_,
    fun m n v s h h0 h1 hst => ?_, fun m n s h hst => ?_, fun m n s h => ?_⟩
  · rw [exec_of_doorbell rfl h, doorbell_ring hv, ringOp_free hst]
    rfl
  · rw [exec_of_doorbell rfl h, doorbell_ring hv, ringOp_busy hst]
    rfl
  · rw [exec_of_doorbell (i := .abandon m n 0) (v := 2) rfl h, doorbell_abandon, abandonOp_posted hst hsteady]
    rfl
  · rw [exec_of_doorbell rfl h, doorbell_ack h0 h1, ackOp_done hst]
    rfl
  · rw [exec_of_granted (i := .cntDone m n) rfl h (by decide)]
    exact congrArg Host.Outcome.next ((cntBits_twoPow doneOp n s).trans (doneOp_taken hst))
  · have hsingle : ∀ k : Fin 8, pairWith 0x08 (0x400 * k.val + 0x218) = [] := by decide
    rw [exec_of_readGranted (i := .cntFerrRead m n) rfl h, holdPair_single (hsingle n), readEffect_ferr]
    rfl

end Sys2Proof.Machine
end

section
/-! What a raise leaves standing (R153-R157): every operation that a fault's spoil, its stop or its action goes through keeps
the hub's latches, so that the fault raised stands whatever action it begins; and which of them leave counters and memory. -/

namespace Sys2Proof.Machine

/-! ## Operations that leave the hub, the counters and memory

Each changes the units that its name says; the lemmas name what later proofs ask for. -/

@[simp] theorem blankBeams_hub (s : State) : (blankBeams s).hub = s.hub := rfl
@[simp] theorem blankBeams_counters (s : State) : (blankBeams s).counters = s.counters := rfl
@[simp] theorem blankBeams_mem (s : State) : (blankBeams s).mem = s.mem := rfl

/-- A spoil changes the docket, the beams and the video fetch only. -/
theorem latchSpoil_frame (o : Outcome5) (f : Option Byte) (fl : Byte) (s : State) :
    ∃ d b v, latchSpoil o f fl s = { s with docket := d, beam := b, video := v } := by
  unfold latchSpoil
  dsimp only
  split
  · exact ⟨_, _, _, rfl⟩
  · split_ifs <;> exact ⟨_, _, _, rfl⟩
  · exact ⟨_, _, _, rfl⟩

section LatchSpoil
variable (o : Outcome5) (f : Option Byte) (fl : Byte) (s : State)
@[simp] theorem latchSpoil_hub : (latchSpoil o f fl s).hub = s.hub := by
  obtain ⟨d, b, v, h⟩ := latchSpoil_frame o f fl s
  rw [h]
@[simp] theorem latchSpoil_counters : (latchSpoil o f fl s).counters = s.counters := by
  obtain ⟨d, b, v, h⟩ := latchSpoil_frame o f fl s
  rw [h]
@[simp] theorem latchSpoil_mem : (latchSpoil o f fl s).mem = s.mem := by
  obtain ⟨d, b, v, h⟩ := latchSpoil_frame o f fl s
  rw [h]
@[simp] theorem latchSpoil_sinov : (latchSpoil o f fl s).sinov = s.sinov := by
  obtain ⟨d, b, v, h⟩ := latchSpoil_frame o f fl s
  rw [h]
@[simp] theorem latchSpoil_ps : (latchSpoil o f fl s).ps = s.ps := by
  obtain ⟨d, b, v, h⟩ := latchSpoil_frame o f fl s
  rw [h]
@[simp] theorem latchSpoil_rst : (latchSpoil o f fl s).rst = s.rst := by
  obtain ⟨d, b, v, h⟩ := latchSpoil_frame o f fl s
  rw [h]
@[simp] theorem latchSpoil_dkStore : (latchSpoil o f fl s).dkStore = s.dkStore := by
  obtain ⟨d, b, v, h⟩ := latchSpoil_frame o f fl s
  rw [h]
@[simp] theorem latchSpoil_motors : (latchSpoil o f fl s).motors = s.motors := by
  obtain ⟨d, b, v, h⟩ := latchSpoil_frame o f fl s
  rw [h]
end LatchSpoil

@[simp] theorem stopCause_hub (f : Byte) (s : State) : (stopCause f s).hub = s.hub := rfl
@[simp] theorem stopCause_counters (f : Byte) (s : State) : (stopCause f s).counters = s.counters := rfl
@[simp] theorem stopCause_mem (f : Byte) (s : State) : (stopCause f s).mem = s.mem := rfl
@[simp] theorem safeStop_hub (s : State) : (safeStop s).hub = s.hub := rfl
@[simp] theorem safeStop_counters (s : State) : (safeStop s).counters = s.counters := rfl
@[simp] theorem safeStop_mem (s : State) : (safeStop s).mem = s.mem := rfl
@[simp] theorem cutOutputs_hub (s : State) : (cutOutputs s).hub = s.hub := rfl
@[simp] theorem cutOutputs_counters (s : State) : (cutOutputs s).counters = s.counters := rfl
@[simp] theorem cutOutputs_mem (s : State) : (cutOutputs s).mem = s.mem := rfl
@[simp] theorem enterSafe_hub (s : State) : (enterSafe s).hub = s.hub := rfl
@[simp] theorem enterSafe_counters (s : State) : (enterSafe s).counters = s.counters := rfl
@[simp] theorem enterSafe_mem (s : State) : (enterSafe s).mem = s.mem := rfl

/-- A close changes the docket and what Sinov keeps of it only. -/
theorem closeDocket_frame (s : State) : ∃ d k, closeDocket s = { s with docket := d, dkStore := k } := by
  unfold closeDocket
  split_ifs <;> exact ⟨_, _, rfl⟩

/-- Staging a docket changes what Sinov keeps of it only. -/
theorem stageDocket_frame (c : Byte) (s : State) : ∃ k, stageDocket c s = { s with dkStore := k } := by
  unfold stageDocket
  split_ifs <;> exact ⟨_, rfl⟩

/-- Committing a docket changes what Sinov keeps of it and what it wants only. -/
theorem commitDocket_frame (s : State) :
    ∃ k w, commitDocket s = { s with dkStore := k, sinov := { s.sinov with wants := w } } := by
  unfold commitDocket
  obtain ⟨k, hk⟩ := stageDocket_frame 0 s
  rw [hk]
  dsimp only
  split_ifs <;> exact ⟨_, _, rfl⟩

section CloseAndCommit
variable (c : Byte) (s : State)
@[simp] theorem closeDocket_hub : (closeDocket s).hub = s.hub := by
  obtain ⟨d, k, h⟩ := closeDocket_frame s
  rw [h]
@[simp] theorem stageDocket_hub : (stageDocket c s).hub = s.hub := by
  obtain ⟨k, h⟩ := stageDocket_frame c s
  rw [h]
@[simp] theorem commitDocket_hub : (commitDocket s).hub = s.hub := by
  obtain ⟨k, w, h⟩ := commitDocket_frame s
  rw [h]
@[simp] theorem closeDocket_counters : (closeDocket s).counters = s.counters := by
  obtain ⟨d, k, h⟩ := closeDocket_frame s
  rw [h]
@[simp] theorem stageDocket_counters : (stageDocket c s).counters = s.counters := by
  obtain ⟨k, h⟩ := stageDocket_frame c s
  rw [h]
@[simp] theorem commitDocket_counters : (commitDocket s).counters = s.counters := by
  obtain ⟨k, w, h⟩ := commitDocket_frame s
  rw [h]
@[simp] theorem closeDocket_mem : (closeDocket s).mem = s.mem := by
  obtain ⟨d, k, h⟩ := closeDocket_frame s
  rw [h]
@[simp] theorem stageDocket_mem : (stageDocket c s).mem = s.mem := by
  obtain ⟨k, h⟩ := stageDocket_frame c s
  rw [h]
@[simp] theorem commitDocket_mem : (commitDocket s).mem = s.mem := by
  obtain ⟨k, w, h⟩ := commitDocket_frame s
  rw [h]
@[simp] theorem closeDocket_rst : (closeDocket s).rst = s.rst := by
  obtain ⟨d, k, h⟩ := closeDocket_frame s
  rw [h]
@[simp] theorem stageDocket_rst : (stageDocket c s).rst = s.rst := by
  obtain ⟨k, h⟩ := stageDocket_frame c s
  rw [h]
@[simp] theorem commitDocket_rst : (commitDocket s).rst = s.rst := by
  obtain ⟨k, w, h⟩ := commitDocket_frame s
  rw [h]
@[simp] theorem closeDocket_ps : (closeDocket s).ps = s.ps := by
  obtain ⟨d, k, h⟩ := closeDocket_frame s
  rw [h]
@[simp] theorem stageDocket_ps : (stageDocket c s).ps = s.ps := by
  obtain ⟨k, h⟩ := stageDocket_frame c s
  rw [h]
@[simp] theorem commitDocket_ps : (commitDocket s).ps = s.ps := by
  obtain ⟨k, w, h⟩ := commitDocket_frame s
  rw [h]
@[simp] theorem closeDocket_motors : (closeDocket s).motors = s.motors := by
  obtain ⟨d, k, h⟩ := closeDocket_frame s
  rw [h]
@[simp] theorem stageDocket_motors : (stageDocket c s).motors = s.motors := by
  obtain ⟨k, h⟩ := stageDocket_frame c s
  rw [h]
@[simp] theorem commitDocket_motors : (commitDocket s).motors = s.motors := by
  obtain ⟨k, w, h⟩ := commitDocket_frame s
  rw [h]
@[simp] theorem stageDocket_docket : (stageDocket c s).docket = s.docket := by
  obtain ⟨k, h⟩ := stageDocket_frame c s
  rw [h]
@[simp] theorem commitDocket_docket : (commitDocket s).docket = s.docket := by
  obtain ⟨k, w, h⟩ := commitDocket_frame s
  rw [h]
end CloseAndCommit

@[simp] theorem escRecord_hub (f : Byte) (a : BitVec 2) (s : State) : (escRecord f a s).hub = s.hub := by
  unfold escRecord
  split_ifs <;> rfl

/-! ## The latches of the hub -/

/-- From s to t no RAISED and no UNACK bit clears. -/
structure KeepsLatches (s t : State) : Prop where
  raised : ∀ g, s.hub.raised.getLsbD g = true → t.hub.raised.getLsbD g = true
  unack : ∀ g, s.hub.unack.getLsbD g = true → t.hub.unack.getLsbD g = true

theorem KeepsLatches.of_eq {s t : State} (hr : t.hub.raised = s.hub.raised) (hu : t.hub.unack = s.hub.unack) :
    KeepsLatches s t := ⟨fun g h => by rw [hr]; exact h, fun g h => by rw [hu]; exact h⟩

theorem KeepsLatches.of_hub {s t : State} (h : t.hub = s.hub) : KeepsLatches s t :=
  .of_eq (congrArg FaultHub.raised h) (congrArg FaultHub.unack h)

theorem KeepsLatches.refl (s : State) : KeepsLatches s s := ⟨fun _ => id, fun _ => id⟩

theorem KeepsLatches.trans {s t u : State} (h : KeepsLatches s t) (k : KeepsLatches t u) : KeepsLatches s u :=
  ⟨fun g x => k.raised g (h.raised g x), fun g x => k.unack g (h.unack g x)⟩

theorem KeepsLatches.ite {s a b : State} {c : Prop} [Decidable c] (h : KeepsLatches s a) (k : KeepsLatches s b) :
    KeepsLatches s (if c then a else b) := by
  split
  · exact h
  · exact k

theorem KeepsLatches.foldl {α : Type} {f : State → α → State} (hf : ∀ x a, KeepsLatches x (f x a)) (l : List α)
    (s : State) : KeepsLatches s (l.foldl f s) := by
  induction l generalizing s with
  | nil => exact .refl s
  | cons a l ih => exact (hf s a).trans (ih (f s a))

theorem Stands.keeps {f : Byte} {s t : State} (h : Stands f s) (k : KeepsLatches s t) : Stands f t :=
  ⟨k.raised _ h.1, k.unack _ h.2⟩

theorem getLsbD_setBit_true {n : Nat} {w : BitVec n} {g : Nat} (i : Nat) (h : w.getLsbD g = true) :
    (setBit w i true).getLsbD g = true := by
  rw [setBit, if_pos rfl, BitVec.getLsbD_or, h, Bool.true_or]

theorem raiseBits_keepsLatches (f : Byte) (s : State) : KeepsLatches s (raiseBits f s) :=
  ⟨fun _ => getLsbD_setBit_true _, fun _ => getLsbD_setBit_true _⟩

theorem raiseBits_stands (f : Byte) (s : State) : Stands f (raiseBits f s) :=
  ⟨setBit_true_self f.isLt, setBit_true_self f.isLt⟩

theorem lapseAdmission_keepsLatches (s : State) : KeepsLatches s (lapseAdmission s) := by
  rw [lapseAdmission_frame]
  exact .of_eq rfl rfl

theorem raiseTimer_keepsLatches (f : Byte) (c : Option (BitVec 2)) (s : State) : KeepsLatches s (raiseTimer f c s) := by
  unfold raiseTimer
  split
  · exact .refl s
  · split
    · exact .refl s
    · have htimer : KeepsLatches s { s with hub := { s.hub with timing := setBit s.hub.timing f.toNat true } } :=
        .of_eq rfl rfl
      exact htimer.trans (lapseAdmission_keepsLatches _)
    · exact lapseAdmission_keepsLatches s

theorem actSpoil_hub (b : Bool) (f : Byte) (s : State) : (actSpoil b f s).hub = s.hub := by
  unfold actSpoil
  split_ifs <;> simp

theorem spoilByFault_hub (f : Byte) (s : State) : (spoilByFault f s).hub = s.hub := by
  unfold spoilByFault
  split_ifs <;> simp

/-! ## What a BLOCK reset and a reset of the device leave of the hub -/

theorem fenceOutputs_hub (b : Nat) (s : State) : (fenceOutputs b s).hub = s.hub := by
  unfold fenceOutputs
  split <;> rfl

theorem ioWriteFuel_hub (k a : Nat) (bs : List Byte) (s : State) : (ioWriteFuel k a bs s).hub = s.hub := by
  induction k generalizing a bs s with
  | zero => rfl
  | succ k ih =>
    unfold ioWriteFuel
    split_ifs
    · rfl
    · refine (ih _ _ _).trans ?_
      simp only [ioWriteLine, memPut, dropLine, writeBack]
      split_ifs <;> rfl

theorem bwSpill_hub (app : Bool) (c : BwChan) (s : State) : (bwSpill app c s).hub = s.hub := by
  unfold bwSpill bwPut
  split_ifs
  · rfl
  · exact ioWriteFuel_hub _ _ _ s
  · rfl
  · rfl

theorem bwSpillAll_hub (app : Bool) (b : Barrow) (s : State) : (bwSpillAll app b s).hub = s.hub := by
  unfold bwSpillAll
  refine List.foldlRecOn (motive := fun t : State => t.hub = s.hub) _ _ rfl fun t ht c _ => ?_
  split_ifs
  · exact (bwSpill_hub app c t).trans ht
  · exact ht

theorem blockFence_hub (b : Fin 24) (f : Option Byte) (s : State) : (blockFence b f s).hub = s.hub := by
  simp [blockFence, apply_ite State.hub, bwSpillAll_hub, fenceOutputs_hub]

theorem blockStart_hub (b : Fin 24) (f : Option Byte) (s : State) : (blockStart b f s).hub = s.hub := by
  simp [blockStart, blockHold, apply_ite State.hub, blockFence_hub]

theorem preAssert_hub (o : Outcome5) (f : Option Byte) (c : Byte) (s : State) : (preAssert o f c s).hub = s.hub := by
  simp [preAssert, apply_ite State.hub]

theorem undefBytes_hub (a n : Nat) (s : State) : (undefBytes a n s).hub = s.hub := rfl

theorem tearSlot_hub (rec : List Byte) (s : State) : (tearSlot rec s).hub = s.hub := by
  unfold tearSlot
  exact memPut_hub _ _ _

theorem withMem_hub (m : Mem) (k : Nat) (s : State) : { s with mem := m, freeCtr := k }.hub = s.hub := rfl

theorem tearWrites_hub (s : State) : (tearWrites s).hub = s.hub := by
  have hflash : ∀ x, (flashInterrupt x).hub = x.hub := fun x => by
    unfold flashInterrupt
    split_ifs
    · exact undefBytes_hub _ _ x
    · exact undefBytes_hub _ _ x
    · rfl
  have hcommit : ∀ x, (tearCommit x).hub = x.hub := fun x => by
    unfold tearCommit
    split
    · exact tearSlot_hub _ x
    · exact tearSlot_hub _ x
    · rfl
  have hrepair : ∀ x, (tearRepair x).hub = x.hub := fun x => by
    unfold tearRepair
    split
    · exact withMem_hub _ _ x
    · rfl
  have hoption : ∀ x, (tearOption x).hub = x.hub := fun x => by
    unfold tearOption
    split
    · exact withMem_hub _ _ x
    · rfl
  rw [tearWrites, hoption, hrepair, hcommit, hflash]

/-- What both resets of the device begin with. -/
theorem tearWrites_preAssert_hub (o : Outcome5) (f : Option Byte) (c : Byte) (k : Option (BitVec 2)) (s : State) :
    (tearWrites (noteCause c k (preAssert o f c s))).hub = s.hub := by
  rw [tearWrites_hub]
  exact preAssert_hub o f c s

theorem systemReset_raised (o : Outcome5) (f : Option Byte) (c : Byte) (s : State) :
    (systemReset o f c s).hub.raised = s.hub.raised := by
  rw [← tearWrites_preAssert_hub o f c (some 1) s]
  rfl

theorem systemReset_unack (o : Outcome5) (f : Option Byte) (c : Byte) (s : State) :
    (systemReset o f c s).hub.unack = s.hub.unack := by
  rw [← tearWrites_preAssert_hub o f c (some 1) s]
  rfl

/-- The rails of a WARM reset are no part of the hub. -/
theorem warmReset_hub (o : Outcome5) (f : Option Byte) (c : Byte) (s : State) : (warmReset o f c s).hub =
    (reloadFhCfg (warmGpd (resetLogic (loseMemories (tearWrites (noteCause c (some 2) (preAssert o f c s))))))).hub := by
  unfold warmReset
  dsimp only
  split_ifs
  · unfold warmRails
    split_ifs <;> rfl
  · rfl

theorem warmReset_raised (o : Outcome5) (f : Option Byte) (c : Byte) (s : State) :
    (warmReset o f c s).hub.raised = s.hub.raised := by
  rw [warmReset_hub, ← tearWrites_preAssert_hub o f c (some 2) s]
  rfl

theorem warmReset_unack (o : Outcome5) (f : Option Byte) (c : Byte) (s : State) :
    (warmReset o f c s).hub.unack = s.hub.unack := by
  rw [warmReset_hub, ← tearWrites_preAssert_hub o f c (some 2) s]
  rfl

theorem assertReset_keepsLatches (k : Nat) (o : Outcome5) (f : Option Byte) (c : Byte) (s : State) :
    KeepsLatches s (assertReset k o f c s) := by
  unfold assertReset
  split_ifs
  · exact .of_hub rfl
  · exact .refl s
  · exact .of_eq (systemReset_raised o f c s) (systemReset_unack o f c s)
  · exact .of_eq (warmReset_raised o f c s) (warmReset_unack o f c s)
  · exact .refl s

/-! ## The actions (R155) -/

theorem captureError_keepsLatches (a : Access) (e : ErrSource) (s : State) : KeepsLatches s (captureError a e s) := by
  unfold captureError
  dsimp only
  split_ifs <;> exact .of_eq rfl rfl

theorem endOuts_keepsLatches (b : Fin 24) (s : State) : KeepsLatches s (endOuts b s) := by
  unfold endOuts
  split
  · exact .refl s
  · refine KeepsLatches.trans ?_ (raiseTimer_keepsLatches _ _ _)
    refine KeepsLatches.trans ?_ (raiseBits_keepsLatches _ _)
    have hdrop : KeepsLatches s (dropOuts b s) := .of_hub rfl
    exact hdrop.trans (.foldl (f := fun x a => captureError a .target x)
      (fun x a => captureError_keepsLatches a .target x) _ _)

/-- An action clears no latch. -/
theorem escalateBy_keepsLatches (fresh : Bool) (f : Byte) (act : BitVec 2) (s : State) :
    KeepsLatches s (escalateBy fresh f act s) := by
  have hact : ∀ x, KeepsLatches x (stopCause f (safeStop (actSpoil fresh f x))) := fun x =>
    .of_hub (by rw [stopCause_hub, safeStop_hub, actSpoil_hub])
  have hesc : ∀ x, KeepsLatches x (escRecord f act x) := fun x => .of_hub (escRecord_hub f act x)
  unfold escalateBy
  extract_lets h x
  have hnote : KeepsLatches s x := .of_eq rfl rfl
  clear_value x h
  refine hnote.trans ?_
  split
  · exact (hact x).trans ((lapseAdmission_keepsLatches _).trans (hesc _))
  · split
    · next b _ =>
      refine KeepsLatches.trans ?_ (hesc _)
      have hstart : KeepsLatches x (blockStart (Fin.ofNat 24 b) (some f)
          (if pageInFlight x then stopCause f (safeStop (actSpoil fresh f x)) else x)) := by
        exact KeepsLatches.trans (.ite (hact x) (.refl x)) (.of_hub (blockStart_hub _ _ _))
      exact hstart.trans (.ite (endOuts_keepsLatches _ _) (.refl _))
    · exact (hact x).trans (hesc _)
  · exact assertReset_keepsLatches _ _ _ _ x
  · have hcut : (commitDocket (closeDocket (cutOutputs (actSpoil fresh f x)))).hub = x.hub := by
      simp [actSpoil_hub]
    split_ifs
    · exact .of_hub hcut
    · exact .of_hub hcut

/-- A raise clears no latch. -/
theorem raiseWith_keepsLatches (eng : Bool) (f : Byte) (s : State) : KeepsLatches s (raiseWith eng f s) := by
  unfold raiseWith
  split
  · exact .refl s
  · have hbits : KeepsLatches s (raiseTimer f (raiseClass f s)
        (if spoilsAtOnce f eng then spoilByFault f (raiseBits f s) else raiseBits f s)) := by
      refine KeepsLatches.trans ?_ (raiseTimer_keepsLatches _ _ _)
      split_ifs
      · exact (raiseBits_keepsLatches f s).trans (.of_hub (spoilByFault_hub f _))
      · exact raiseBits_keepsLatches f s
    dsimp only
    split
    · exact hbits.trans (escalateBy_keepsLatches _ _ _ _)
    · exact hbits

/-- A fault of the table that is raised stands, whatever its raise does besides (R153). -/
theorem raiseWith_stands {f : Byte} (hf : (faultRow f.toNat 0).isSome = true) (eng : Bool) (s : State) :
    Stands f (raiseWith eng f s) := by
  obtain ⟨row, hrow⟩ := Option.isSome_iff_exists.mp hf
  have hbits : Stands f (raiseTimer f (raiseClass f s)
      (if spoilsAtOnce f eng then spoilByFault f (raiseBits f s) else raiseBits f s)) := by
    refine Stands.keeps ?_ (raiseTimer_keepsLatches _ _ _)
    split_ifs
    · exact (raiseBits_stands f s).keeps (.of_hub (spoilByFault_hub f _))
    · exact raiseBits_stands f s
  unfold raiseWith
  rw [hrow]
  dsimp only
  split
  · exact hbits.keeps (escalateBy_keepsLatches _ _ _ _)
  · exact hbits

theorem raiseFault_stands {f : Byte} (hf : (faultRow f.toNat 0).isSome = true) (s : State) :
    Stands f (raiseFault f s) := raiseWith_stands hf true s

/-! ## What a mild raise leaves -/

theorem RaisedOnly.counters {f : Byte} {s t : State} (h : RaisedOnly f s t) : t.counters = s.counters := by
  obtain ⟨-, -, -, -, -, h⟩ := h
  rw [h]

theorem RaisedOnly.mem {f : Byte} {s t : State} (h : RaisedOnly f s t) : t.mem = s.mem := by
  obtain ⟨-, -, -, -, -, h⟩ := h
  rw [h]

theorem RaisedOnly.stands {f : Byte} {s t : State} (h : RaisedOnly f s t) : Stands f t := h.1

end Sys2Proof.Machine
end

section
/-! The service of the counters (R89, R95-R101, R111): taking a frame touches its counter alone, STALE and bad frames raise
their faults, and a conflict window that closes leaves one winner. -/

namespace Sys2Proof.Machine

/-! ## Taking a frame -/

/-- From s to t counter n alone changes, its STAGE and STALE stand, and memory is as it was. -/
structure SortsOnly (n : Fin 8) (s t : State) : Prop where
  others : OtherCounters n s t
  stage : t.counters[n].stage = s.counters[n].stage
  stale : t.counters[n].stale = s.counters[n].stale
  mem : t.mem = s.mem

theorem SortsOnly.trans {n : Fin 8} {s t u : State} (h : SortsOnly n s t) (k : SortsOnly n t u) : SortsOnly n s u :=
  ⟨fun i hi => (k.others i hi).trans (h.others i hi), k.stage.trans h.stage, k.stale.trans h.stale, k.mem.trans h.mem⟩

/-- A state with the counters and the memory of another sorts as it does. -/
theorem SortsOnly.congr {n : Fin 8} {s t u : State} (h : SortsOnly n s t) (hc : u.counters = t.counters)
    (hm : u.mem = t.mem) : SortsOnly n s u := by
  obtain ⟨ho, hst, hsl, hmem⟩ := h
  refine ⟨fun i hi => ?_, ?_, ?_, hm.trans hmem⟩ <;> rw [hc]
  · exact ho i hi
  · exact hst
  · exact hsl

theorem sortsOnly_cntMod {n : Fin 8} {f : Counter → Counter} (s : State) (hst : ∀ c, (f c).stage = c.stage)
    (hsl : ∀ c, (f c).stale = c.stale) : SortsOnly n s (cntMod n f s) where
  others := otherCounters_of_vmod rfl
  stage := (congrArg Counter.stage (vmod_same s.counters n f)).trans (hst _)
  stale := (congrArg Counter.stale (vmod_same s.counters n f)).trans (hsl _)
  mem := rfl

/-- A reply put into RPL leaves the rest of its counter. -/
theorem putReply_frame (bs : List Byte) (c : Counter) : ∃ r, putReply bs c = { c with rpl := r } := by
  unfold putReply
  split
  · exact ⟨_, rfl⟩
  · exact ⟨_, rfl⟩

@[simp] theorem putReply_stage (bs : List Byte) (c : Counter) : (putReply bs c).stage = c.stage := by
  obtain ⟨r, h⟩ := putReply_frame bs c
  rw [h]
@[simp] theorem putReply_stale (bs : List Byte) (c : Counter) : (putReply bs c).stale = c.stale := by
  obtain ⟨r, h⟩ := putReply_frame bs c
  rw [h]

theorem sortsOnly_answer (n : Fin 8) (st : Status) (s : State) : SortsOnly n s (answer n st s) :=
  sortsOnly_cntMod s (fun _ => putReply_stage _ _) (fun _ => putReply_stale _ _)

theorem sortsOnly_joinWindow (r : Resource) (n : Fin 8) (s : State) : SortsOnly n s (joinWindow r n s) := by
  have h := sortsOnly_cntMod (n := n) (f := fun c => { c with frame := .inWindow }) s (fun _ => rfl) (fun _ => rfl)
  unfold joinWindow
  dsimp only
  split
  · exact h.congr rfl rfl
  · exact h.congr rfl rfl

theorem sortsOnly_sort2 (n : Fin 8) (s : State) : SortsOnly n s (sortFrame.sort2 n s) := by
  unfold sortFrame.sort2
  dsimp only
  split
  · exact sortsOnly_answer n _ s
  · split
    · exact sortsOnly_joinWindow _ n s
    · exact (sortsOnly_cntMod (n := n) (f := fun c => { c with frame := .ready false }) s
        (fun _ => rfl) (fun _ => rfl)).congr rfl rfl

/-- Sorting a frame touches its counter, the windows and the queue of frames only (R95-R103). -/
theorem sortsOnly_sortFrame (n : Fin 8) (s : State) : SortsOnly n s (sortFrame n s) := by
  have hrun := sortsOnly_cntMod (n := n) (f := fun c => { c with badRun := 0 }) s (fun _ => rfl) (fun _ => rfl)
  unfold sortFrame
  dsimp only
  split
  · exact hrun.trans (sortsOnly_cntMod _ (fun _ => putReply_stage _ _) (fun _ => putReply_stale _ _))
  · split
    · split
      · exact hrun.trans (sortsOnly_cntMod _ (fun _ => putReply_stage _ _) (fun _ => putReply_stale _ _))
      · exact hrun.trans (sortsOnly_sort2 n _)
    · exact hrun.trans (sortsOnly_sort2 n _)

theorem sortsOnly_answerFrameErr (n : Fin 8) (s : State) : SortsOnly n s (answerFrameErr n s) :=
  sortsOnly_cntMod s (fun _ => putReply_stage _ _) (fun _ => putReply_stale _ _)

/-- Where CNT_STALE does not come up, the move to TAKEN changes the counter and CNT_STALE's condition only. -/
theorem moveToTaken_eq {n : Fin 8} {s : State} (h : StaleSteady n s) : moveToTaken n s = { s with
    counters := vmod s.counters n markTaken
    hub := { s.hub with present := setBit s.hub.present 0xC2 (otherStale n s) } } :=
  staleSync_cntMod markTaken h rfl

theorem moveToTaken_counter {n : Fin 8} {s : State} (h : StaleSteady n s) :
    (moveToTaken n s).counters[n] = markTaken s.counters[n] := by
  rw [moveToTaken_eq h]
  exact vmod_same s.counters n markTaken

/-- A take in its turn sorts the frame or answers FRAME_ERR (R89). -/
theorem takeOp_served {n : Fin 8} {s : State} (ht : takesFrames s = true) (hs : servedNext s n = true)
    (hst : StaleSteady n s) : takeOp n s =
      if frameOk n s.counters[n] then sortFrame n (moveToTaken n s) else answerFrameErr n (moveToTaken n s) := by
  have hok : frameOk n (moveToTaken n s).counters[n] = frameOk n s.counters[n] := by
    rw [moveToTaken_counter hst]
    rfl
  exact (if_pos ⟨ht, hs⟩).trans (by rw [← hok]; rfl)

/-- The counter of a frame that fails the checks: TAKEN, answered FRAME_ERR and counted (R89, R111). -/
theorem answerFrameErr_counter {n : Fin 8} {s : State} (h : StaleSteady n s) :
    (answerFrameErr n (moveToTaken n s)).counters[n].ferr = satInc s.counters[n].ferr ∧
      (answerFrameErr n (moveToTaken n s)).counters[n].frame = .none ∧
      (answerFrameErr n (moveToTaken n s)).counters[n].rpl = Vector.ofFn fun i =>
        ((replyFrame s.counters[n] false false 0x0007 0 [])[i.val]?).getD s.counters[n].rpl[i] := by
  unfold answerFrameErr
  rw [cntMod_counters, vmod_same, moveToTaken_counter h]
  exact ⟨rfl, rfl, rfl⟩

/-! ## STALE and bad frames -/

/-- A counter that turns STALE brings CNT_STALE's condition up, or finds it present (R98). -/
theorem staleOp_fresh {n : Fin 8} {s : State} (h : s.counters[n].stage = .posted) (hf : s.counters[n].stale = false) :
    staleOp n s = setCond 0xC2 true (cntMod n (fun c => { c with stale := true }) s) := by
  have hany : ((cntMod n (fun c => { c with stale := true }) s).counters.toList.any fun c => c.stale) = true := by
    rw [any_eq_any_finRange]
    exact List.any_eq_true.mpr ⟨n, List.mem_finRange n, congrArg Counter.stale (vmod_same s.counters n _)⟩
  rw [staleOp, if_pos ⟨h, hf⟩, staleSync, hany]

/-- The condition of CNT_STALE comes up: the fault stands unless it was present, and nothing else changes. -/
theorem setCond_mild {f : Byte} {s : State} (hf : (faultRow f.toNat 0).isSome = true) (h : Mild f s) :
    (setCond f true s).counters = s.counters ∧ (setCond f true s).mem = s.mem ∧
      (s.hub.present.getLsbD f.toNat = false → Stands f (setCond f true s)) := by
  cases hp : s.hub.present.getLsbD f.toNat with
  | true =>
    have he : setCond f true s = s := (if_pos rfl).trans (if_pos hp)
    rw [he]
    exact ⟨rfl, rfl, fun h => by cases h⟩
  | false =>
    have hr : RaisedOnly f _ (setCond f true s) := setCond_rises hf hp h
    exact ⟨hr.counters, hr.mem, fun _ => hr.stands⟩

/-! ## The close of a conflict window (R101) -/

/-- A counter that is answered: the reply in RPL and in the store for the replay match (R86, R99). -/
def answered (st : Status) (g : BitVec 16) (p : List Byte) (c : Counter) : Counter :=
  let r := replyFrame c (frameWaited c) false st.code g p
  { putReply r c with frame := .none, stored := some { tag := reqTag c, crc := matchCrc c, reply := r } }

theorem answerWith_eq (n : Fin 8) (st : Status) (g : BitVec 16) (p : List Byte) (s : State) :
    answerWith n st g p s = cntMod n (answered st g p) s := rfl

/-- CONFLICT to every member but the winner. -/
def refuseLosers (a : Fin 8) (ms : List (Fin 8)) (s : State) : State :=
  ms.foldl (fun s b => if b = a then s else answer b .conflict s) s

/-- Each member but the winner is answered once, and no other part of the state changes. -/
theorem refuseLosers_eq (a : Fin 8) {ms : List (Fin 8)} (h : ms.Nodup) (s : State) :
    refuseLosers a ms s = { s with counters := (refuseLosers a ms s).counters } ∧ ∀ k : Fin 8,
      (refuseLosers a ms s).counters[k] =
        if k ∈ ms ∧ k ≠ a then answered .conflict 0 [] s.counters[k] else s.counters[k] := by
  induction ms generalizing s with
  | nil => exact ⟨rfl, fun k => by rw [if_neg (by simp)]; rfl⟩
  | cons b ms ih =>
    obtain ⟨hb, hms⟩ := List.nodup_cons.mp h
    have hcons : refuseLosers a (b :: ms) s = refuseLosers a ms (if b = a then s else answer b .conflict s) := rfl
    obtain ⟨heq, hk⟩ := ih hms (if b = a then s else answer b .conflict s)
    rw [hcons]
    refine ⟨?_, fun k => (hk k).trans ?_⟩
    · rw [heq]
      split <;> rfl
    · by_cases hkb : k = b
      · subst hkb
        rw [if_neg (fun hx => hb hx.1)]
        by_cases hka : k = a
        · rw [if_pos hka, if_neg (fun hx => hx.2 hka)]
        · rw [if_neg hka, if_pos ⟨List.mem_cons_self, hka⟩]
          exact vmod_same s.counters k _
      · have hck : (if b = a then s else answer b .conflict s).counters[k] = s.counters[k] := by
          split
          · rfl
          · exact vmod_other s.counters b k _ hkb
        simp only [hck, List.mem_cons, hkb, false_or]

/-- A window with a winner closes: the window goes, the winner is ready, the others get CONFLICT. -/
theorem closeWindow_won {r : Resource} {w : Window} {a : Fin 8} {s : State}
    (hw : s.windows.find? (fun w => w.res = r) = some w) (ha : winner s w.members = some a) :
    closeWindow r s = refuseLosers a w.members (cntMod a (fun c => { c with frame := .ready true }) { s with
      windows := s.windows.filter fun w => w.res ≠ r
      sinov := { s.sinov with closedAt := s.sinov.closedAt.set a w.endsAt } }) := by
  have ha' : winner { s with windows := s.windows.filter fun w => w.res ≠ r } w.members = some a := ha
  simp only [closeWindow, hw, ha']
  rfl

/-- Settles O6: a take sorts its frame or answers it, STALE and the eighth bad frame raise their faults, and a window that
closes answers every member but its winner. -/
theorem countersAreServed : Obligations.CountersAreServed := by
  refine ⟨fun m n s h ht hs hst => ?_, fun n s hp hf hm => ?_, fun n s hd => ?_, fun r w a b s hw ha hnd hb hba => ?_⟩
  · have hmove : OtherCounters n s (moveToTaken n s) ∧ (moveToTaken n s).mem = s.mem := by
      rw [moveToTaken_eq hst]
      exact ⟨otherCounters_of_vmod rfl, rfl⟩
    have hsort : SortsOnly n (moveToTaken n s) (takeOp n s) := by
      rw [takeOp_served ht hs hst]
      split
      · exact sortsOnly_sortFrame n _
      · exact sortsOnly_answerFrameErr n _
    refine ⟨takeOp n s, exec_cntTake_granted h, ?_, ?_, fun k hk => ?_, memSame_of_mem (hsort.mem.trans hmove.2),
      fun hok => ?_⟩
    · rw [hsort.stage, moveToTaken_counter hst, markTaken]
    · rw [hsort.stale, moveToTaken_counter hst, markTaken]
    · rw [hsort.others k hk, hmove.1 k hk]
    · have he : takeOp n s = answerFrameErr n (moveToTaken n s) := by
        rw [takeOp_served ht hs hst, if_neg (by rw [hok]; decide)]
      rw [he]
      exact answerFrameErr_counter hst
  · obtain ⟨hc, hmem, hst⟩ := setCond_mild (f := 0xC2) (s := cntMod n (fun c => { c with stale := true }) s) rfl hm
    rw [← staleOp_fresh hp hf] at hc hmem hst
    exact ⟨staleOp n s, rfl, hc, memSame_of_mem hmem, hst⟩
  · have he : badFramesOp n s = raiseFault 0xC3 (cntMod n (fun c => { c with badDue := false }) s) := if_pos hd
    refine ⟨badFramesOp n s, rfl, ?_, fun hm => ?_⟩ <;> rw [he]
    · exact raiseFault_stands rfl _
    · have hr := raiseFault_mild (f := 0xC3) (s := cntMod n (fun c => { c with badDue := false }) s) rfl hm
      exact ⟨memSame_of_mem hr.mem, hr.counters⟩
  · obtain ⟨heq, hk⟩ := refuseLosers_eq a hnd (cntMod a (fun c => { c with frame := .ready true }) { s with
      windows := s.windows.filter fun w => w.res ≠ r
      sinov := { s.sinov with closedAt := s.sinov.closedAt.set a w.endsAt } })
    rw [← closeWindow_won hw ha] at heq hk
    have hother : ∀ c : Fin 8, c ≠ a → (vmod s.counters a fun c => { c with frame := .ready true })[c] = s.counters[c] :=
      fun c hc => vmod_other s.counters a c _ hc
    have hbk : (closeWindow r s).counters[b] = answered .conflict 0 [] s.counters[b] := by
      rw [hk b, if_pos ⟨hb, hba⟩, cntMod_counters, hother b hba]
    refine ⟨closeWindow r s, rfl, ?_, ?_, fun c hc => ?_, ?_, ?_, ?_, ?_⟩
    · rw [heq]; rfl
    · rw [heq]; rfl
    · rw [hk c, if_neg fun hx => hc hx.1]
      exact hother c fun e => hc (by
        have := List.mem_of_find?_eq_some ha
        rwa [e])
    · rw [hk a, if_neg fun hx => hx.2 rfl]
      exact vmod_same s.counters a _
    · rw [hbk, answered]
    · rw [hbk]; exact putReply_stage _ _
    · rw [hbk, answered]; rfl

end Sys2Proof.Machine
end

section
/-! Bytes of frames (R10): what a field of a list of bytes is, where the list is put together from fields. -/

namespace Sys2Proof.Machine

/-! ## Little-endian numbers -/

theorem natLe_append (a b : List Byte) : natLe (a ++ b) = natLe a + 256 ^ a.length * natLe b := by
  induction a with
  | nil => simp [natLe]
  | cons x a ih =>
    simp only [List.cons_append, natLe, ih, List.length_cons, pow_succ]
    ring

theorem natLe_replicate_zero (n : Nat) : natLe (List.replicate n 0) = 0 := by
  induction n with
  | zero => rfl
  | succ n ih =>
    rw [List.replicate_succ, natLe, ih]
    rfl

theorem natLe_lt (a : List Byte) : natLe a < 256 ^ a.length := by
  induction a with
  | nil => simp [natLe]
  | cons x a ih =>
    have hx := x.isLt
    simp only [natLe, List.length_cons, pow_succ]
    omega

theorem byteOf_toNat {w : Nat} (v : BitVec w) (k : Nat) : (byteOf v k).toNat = v.toNat / 256 ^ k % 256 := by
  simp [byteOf, BitVec.toNat_ushiftRight, Nat.shiftRight_eq_div_pow, pow_mul]

theorem natLe_toLe {w : Nat} (v : BitVec w) (n : Nat) : natLe (toLe v n) = v.toNat % 256 ^ n := by
  induction n with
  | zero => simp [toLe, natLe, Nat.mod_one]
  | succ n ih => rw [toLe, natLe_append, ih, toLe_length, natLe, natLe, byteOf_toNat, Nat.mul_zero, Nat.add_zero,
      pow_succ, Nat.mod_mul]

/-- The bytes of a value that its width does not reach are 0. -/
theorem byteOf_beyond {w : Nat} (v : BitVec w) {k : Nat} (h : w ≤ 8 * k) : byteOf v k = 0 := by
  have hlt : v.toNat < 2 ^ (8 * k) := lt_of_lt_of_le v.isLt (Nat.pow_le_pow_right (by decide) h)
  refine BitVec.eq_of_toNat_eq ?_
  rw [byteOf_toNat, show (256 : Nat) = 2 ^ 8 by decide, ← pow_mul, Nat.div_eq_of_lt hlt]
  rfl

/-- A wider value has the same bytes. -/
theorem toLe_setWidth {w m : Nat} (v : BitVec w) (h : w ≤ m) (n : Nat) : toLe (v.setWidth m) n = toLe v n := by
  induction n with
  | zero => rfl
  | succ n ih =>
    have hb : byteOf (v.setWidth m) n = byteOf v n := BitVec.eq_of_toNat_eq (by
      rw [byteOf_toNat, byteOf_toNat, BitVec.toNat_setWidth_of_le h])
    rw [toLe, toLe, ih, hb]

theorem toLe_one (b : Byte) : toLe b 1 = [b] := by
  have hb : byteOf b 0 = b := BitVec.eq_of_toNat_eq (by rw [byteOf_toNat]; simpa using Nat.mod_eq_of_lt b.isLt)
  simp [toLe, hb]

/-! ## Fields -/

/-- The absent bytes of a field count as 0. -/
theorem fieldLe_eq (bs : List Byte) (o n : Nat) : fieldLe bs o n = natLe ((bs.drop o).take n) := by
  rw [fieldLe, slice, natLe_append, natLe_replicate_zero, Nat.mul_zero, Nat.add_zero]

theorem fieldLe_lt (bs : List Byte) (o n : Nat) : fieldLe bs o n < 256 ^ n := by
  rw [fieldLe_eq]
  exact lt_of_lt_of_le (natLe_lt _) (Nat.pow_le_pow_right (by decide) (List.length_take_le _ _))

theorem fieldLe_append_left {a b : List Byte} {o n : Nat} (h : o + n ≤ a.length) :
    fieldLe (a ++ b) o n = fieldLe a o n := by
  rw [fieldLe_eq, fieldLe_eq, List.drop_append_of_le_length (by omega),
    List.take_append_of_le_length (by rw [List.length_drop]; omega)]

theorem fieldLe_append_right {a b : List Byte} {o n : Nat} (h : a.length ≤ o) :
    fieldLe (a ++ b) o n = fieldLe b (o - a.length) n := by
  rw [fieldLe_eq, fieldLe_eq, List.drop_append, List.drop_of_length_le h, List.nil_append]

theorem fieldLe_drop (bs : List Byte) (k o n : Nat) : fieldLe (bs.drop k) o n = fieldLe bs (k + o) n := by
  rw [fieldLe_eq, fieldLe_eq, List.drop_drop]

theorem fieldLe_cons_succ (b : Byte) (bs : List Byte) (o n : Nat) : fieldLe (b :: bs) (o + 1) n = fieldLe bs o n := by
  rw [fieldLe_eq, fieldLe_eq, List.drop_succ_cons]

theorem fieldLe_cons_zero (b : Byte) (bs : List Byte) : fieldLe (b :: bs) 0 1 = b.toNat := by
  simp [fieldLe_eq, natLe]

theorem fieldLe_toLe {w : Nat} (v : BitVec w) (n : Nat) : fieldLe (toLe v n) 0 n = v.toNat % 256 ^ n := by
  rw [fieldLe_eq, List.drop_zero, List.take_of_length_le (by rw [toLe_length]), natLe_toLe]

/-- A field of whole width holds its value. -/
theorem fieldLe_toLe_of_le {w : Nat} (v : BitVec w) {n : Nat} (h : w ≤ 8 * n) : fieldLe (toLe v n) 0 n = v.toNat := by
  rw [fieldLe_toLe, Nat.mod_eq_of_lt]
  have hw : 2 ^ w ≤ 256 ^ n := by
    rw [show (256 : Nat) = 2 ^ 8 by decide, ← pow_mul]
    exact Nat.pow_le_pow_right (by decide) h
  exact lt_of_lt_of_le v.isLt hw

theorem slice_of_le {bs : List Byte} {o n : Nat} (h : o + n ≤ bs.length) : slice bs o n = (bs.drop o).take n := by
  have hl : ((bs.drop o).take n).length = n := by rw [List.length_take, List.length_drop]; omega
  rw [slice, hl, Nat.sub_self, List.replicate_zero, List.append_nil]

theorem slice_length (bs : List Byte) (o n : Nat) : (slice bs o n).length = n := by
  simp [slice]

/-! ## Reserved fields and lengths -/

theorem lenNot_of_length {p : List Byte} {n : Nat} (h : p.length = n) : lenNot p n = false := by
  simp [lenNot, h]

theorem reserved_of_zero {p : List Byte} {o n : Nat} (h : fieldLe p o n = 0) : reserved p o n = true := by
  simp [reserved, h]

/-! ## Bits put together one by one -/

theorem getLsbD_setBit {w : Nat} (v : BitVec w) {i : Nat} (j : Nat) (b : Bool) (hi : i < w) :
    (setBit v i b).getLsbD j = if i = j then b else v.getLsbD j := by
  by_cases hj : j < w
  · by_cases e : i = j
    · subst e
      cases b <;> simp [setBit, hj]
    · have e' : ¬ j = i := fun x => e x.symm
      cases b <;> simp [setBit, e, e', hj]
  · have hne : i ≠ j := by omega
    rw [if_neg hne, BitVec.getLsbD_of_ge _ _ (by omega), BitVec.getLsbD_of_ge _ _ (by omega)]

/-- The bits of a vector of flags. -/
theorem getLsbD_foldl_setBit {w : Nat} (f : Nat → Bool) {l : List Nat} (hl : ∀ i ∈ l, i < w) (v : BitVec w) (j : Nat) :
    (l.foldl (fun v i => setBit v i (f i)) v).getLsbD j = if j ∈ l then f j else v.getLsbD j := by
  induction l generalizing v with
  | nil => simp
  | cons i l ih =>
    rw [List.foldl_cons, ih (fun k hk => hl k (List.mem_cons_of_mem _ hk)),
      getLsbD_setBit v j (f i) (hl i List.mem_cons_self)]
    by_cases hj : j ∈ l
    · simp [hj]
    · by_cases e : i = j
      · subst e; simp [hj]
      · simp [hj, e, Ne.symm e]

/-- Flags of n things in a word of at least n bits. -/
theorem getLsbD_flags {w n : Nat} (h : n ≤ w) (f : Fin n → Bool) (j : Nat) :
    ((List.finRange n).foldl (fun (v : BitVec w) t => setBit v t.val (f t)) 0).getLsbD j =
      if hj : j < n then f ⟨j, hj⟩ else false := by
  have hfold : (List.finRange n).foldl (fun (v : BitVec w) t => setBit v t.val (f t)) 0 =
      (List.range n).foldl (fun (v : BitVec w) i => setBit v i (if hi : i < n then f ⟨i, hi⟩ else false)) 0 := by
    rw [← List.map_coe_finRange_eq_range, List.foldl_map]
    simp
  rw [hfold, getLsbD_foldl_setBit (f := fun i => if hi : i < n then f ⟨i, hi⟩ else false)
    (fun i hi => by have := List.mem_range.mp hi; omega)]
  by_cases hj : j < n
  · simp [hj]
  · simp [hj]

/-- A value without a bit from n on is less than 2^n. -/
theorem toNat_lt_of_getLsbD {w n : Nat} {v : BitVec w} (h : ∀ j, n ≤ j → v.getLsbD j = false) : v.toNat < 2 ^ n := by
  refine Nat.lt_pow_two_of_testBit _ fun j hj => ?_
  simpa [BitVec.getLsbD] using h j hj

end Sys2Proof.Machine
end

section
/-! Frames that Sinov executes (R113-R116): a ready frame runs its command on its payload, the checks of a command pass or
answer, and what the queries answer (R41, R44, R128, R129, R132, R133, R368, R379, R380). -/

namespace Sys2Proof.Machine

/-! ## From a row to its command -/

/-- A row whose frame executes runs its command on the frame's payload. -/
theorem exec_of_frame {i : Instr} {code : Nat} {sel : List Byte → Bool} {n : Fin 8} {run : List Byte → State → State}
    {s : State} (hi : exec i s = .next (runFrame code sel n run s)) (h : Executes code n s)
    (hs : sel (payload s n) = true) : exec i s = .next (run (payload s n) s) :=
  hi.trans (congrArg Host.Outcome.next (runFrame_executes h hs))

/-- The checks pass one by one. -/
theorem judged_of_pass {n : Fin 8} {cs : List (Bool × Status)} {run : State → State} {s : State}
    (h : ∀ c ∈ cs, c.1 = false) : judged n cs run s = run s := by
  have hf : firstFail cs = none := by
    rw [firstFail, List.find?_eq_none.mpr fun c hc => by rw [h c hc]; decide]
    rfl
  rw [judged_eq, hf]

theorem answer_answered (n : Fin 8) (st : Status) (s : State) : Answered n st 0 [] s (answer n st s) :=
  answerWith_answered n st 0 [] s

theorem answerOk_answered (n : Fin 8) (p : List Byte) (s : State) : Answered n .ok 0 p s (answerOk n p s) :=
  answerWith_answered n .ok 0 p s

/-- A query with no payload is answered with what it reads. -/
theorem exec_query {i : Instr} {code : Nat} {n : Fin 8} {reply : State → List Byte} {s : State}
    (hi : exec i s = .next (runFrame code anyPayload n (fun p s => query n p (reply s) s) s))
    (h : Executes code n s) (hp : payload s n = []) : exec i s = .next (answerOk n (reply s) s) := by
  rw [exec_of_frame hi h rfl, hp]
  rfl

/-! ## What the queries answer -/

theorem infoBytes_eq (s : State) : infoBytes s = [0x60, 0x48] ++ toLe Config.dieRev 2
    ++ toLe (0x0003_0200 : Word) 4 ++ toLe Config.deviceId 8
    ++ [if Config.gradeC then 1 else 0, s.rst.optState.setWidth 8, if s.sys.minset then 1 else 0, s.xspi.kslot.setWidth 8]
    ++ toLe (optSeq (optRec s)) 4 ++ digestBytes s.sinov.digest := by
  have h : toLe (0x4860 : BitVec 16) 2 = [0x60, 0x48] := by decide
  rw [infoBytes, h]
  rfl

/-- Five flags in the low bits of a byte. -/
theorem flagByte_bits (a b c d e : Bool) :
    let v : Byte := (if a then 1 else 0) ||| (if b then 2 else 0) ||| (if c then 4 else 0) ||| (if d then 8 else 0)
      ||| (if e then 16 else 0)
    v.getLsbD 0 = a ∧ v.getLsbD 1 = b ∧ v.getLsbD 2 = c ∧ v.getLsbD 3 = d ∧ v.getLsbD 4 = e ∧ v.toNat < 32 := by
  revert a b c d e
  decide

/-- Three flags in the low bits of a byte. -/
theorem flagByte_bits3 (a b c : Bool) :
    let v : Byte := (if a then 1 else 0) ||| (if b then 2 else 0) ||| (if c then 4 else 0)
    v.getLsbD 0 = a ∧ v.getLsbD 1 = b ∧ v.getLsbD 2 = c ∧ v.toNat < 8 := by
  revert a b c
  decide

/-- SUBSTATE of GET_MODE. -/
def modeSub (s : State) : Byte :=
  (if pageInFlight s then 1 else 0) ||| (if decide (s.sys.mode = 3) && !pageInFlight s then 2 else 0)
    ||| (if s.sinov.admission.isSome then 4 else 0) ||| (if decide (s.rst.applied = 2) then 8 else 0)
    ||| (if diagRuns s then 16 else 0)

/-- The handle and the counter of the page held. -/
def modePage (s : State) : BitVec 16 × Byte :=
  match heldPage s with
  | some a => (a.handle, BitVec.ofNat 8 a.counter.val)
  | none => (0, 0xFF)

theorem modeBytes_eq (s : State) : modeBytes s =
    [s.sys.mode.setWidth 8, modeSub s] ++ toLe (modePage s).1 2 ++ [(modePage s).2, 0, 0, 0] := by
  have hcond : (decide (s.sys.mode = 3) && !pageInFlight s) = true ↔ s.sys.mode = 3 ∧ pageInFlight s = false := by simp
  simp only [modeBytes, modeSub, hcond, decide_eq_true_eq]
  rfl

/-- A time of 48 bits in a field of eight bytes. -/
theorem toLe_time (v : BitVec 48) : toLe (v.setWidth 64) 8 = toLe v 6 ++ [0, 0] := by
  rw [toLe_setWidth _ (by decide)]
  simp only [toLe, byteOf_beyond _ (show 48 ≤ 8 * 6 by decide), byteOf_beyond _ (show 48 ≤ 8 * 7 by decide),
    List.cons_append, List.nil_append]

theorem causeBytes_eq (s : State) : causeBytes s =
    [s.rst.cause, s.rst.kind.setWidth 8, 0, 0] ++ toLe s.rst.time 6 ++ [0, 0] ++ toLe s.rst.count 4 := by
  rw [causeBytes, toLe_time]
  simp only [List.append_assoc]

theorem railsBytes_eq (s : State) : railsBytes s = toLe s.ps.on 7 ++ [0] ++ toLe s.ps.fail 7 ++ [0]
    ++ (s.ps.rails.map railCode).toList ++ toLe s.ps.vin 2 ++ toLe s.ps.vaux 2 := by
  have h8 : ∀ v : BitVec 50, toLe (v.setWidth 64) 8 = toLe v 7 ++ [0] := fun v => by
    rw [toLe_setWidth _ (by decide), toLe, byteOf_beyond _ (by decide)]
  rw [railsBytes, h8, h8, Vector.toList_map]
  simp only [List.append_assoc]

theorem faultsBytes_eq (s : State) : faultsBytes s = toLe s.hub.raised 32 ++ toLe s.hub.unack 32 ++ toLe s.hub.feAddr 5
    ++ [0, 0, 0] ++ [s.hub.feMaster, (feAccess s).setWidth 8, s.hub.feSource, 0] ++ toLe s.hub.feOver 4
    ++ toLe s.hub.feTime 8 := by
  have h8 : toLe (s.hub.feAddr.setWidth 64) 8 = toLe s.hub.feAddr 5 ++ [0, 0, 0] := by
    rw [toLe_setWidth _ (by decide)]
    simp only [toLe, byteOf_beyond _ (show 40 ≤ 8 * 5 by decide), byteOf_beyond _ (show 40 ≤ 8 * 6 by decide),
      byteOf_beyond _ (show 40 ≤ 8 * 7 by decide), List.cons_append, List.nil_append]
  rw [faultsBytes, h8]
  simp only [List.append_assoc]

theorem feAccess_toNat (s : State) :
    ((feAccess s).setWidth 8 : Byte).toNat = s.hub.feKind.toNat + 4 * s.hub.feSize.toNat := by
  have h : ∀ (k : BitVec 2) (z : BitVec 3),
      ((fieldAt k 0 ||| fieldAt z 2).setWidth 8 : Byte).toNat = k.toNat + 4 * z.toNat := by decide
  exact h _ _

/-- The flags of TILL_STATUS. -/
def statusFlags (s : State) : Byte :=
  (if decide (s.till.torn ≠ 0) then 1 else 0) ||| (if s.sinov.omitted then 2 else 0)
    ||| (if s.till.chainBreak then 4 else 0)

theorem statusBytes_eq (s : State) : statusBytes s = toLe s.till.head 8 ++ toLe s.till.oldest 8
    ++ toLe (s.till.free.setWidth 32) 4 ++ [s.till.rsv.setWidth 8, statusFlags s, 0, 0] ++ toLe s.till.torn 4
    ++ [0, 0, 0, 0] ++ digestBytes s.till.chain := by
  have hcond : (if s.till.torn = 0 then (0 : Byte) else 1) = if decide (s.till.torn ≠ 0) then 1 else 0 := by
    by_cases h : s.till.torn = 0 <;> simp [h]
  simp only [statusBytes, statusFlags, hcond]

/-- The flags of GET_STEELYARD: which targets are clamped, and which sensors disagree. -/
def clampFlags (s : State) : BitVec 16 :=
  (List.finRange 12).foldl (fun (v : BitVec 16) t => setBit v t.val (clamped s.sy.thr[t])) 0

def disagreeFlags (s : State) : Byte :=
  (List.finRange 8).foldl (fun (v : Byte) t => setBit v t.val s.sy.ts[t].disagree) 0

theorem clampFlags_bit (s : State) (i : Fin 12) : (clampFlags s).getLsbD i.val = clamped s.sy.thr[i] := by
  rw [clampFlags, getLsbD_flags (by decide), dif_pos i.isLt]

theorem clampFlags_lt (s : State) : (clampFlags s).toNat < 4096 := by
  refine toNat_lt_of_getLsbD (n := 12) fun j hj => ?_
  rw [clampFlags, getLsbD_flags (by decide), dif_neg (by omega)]

theorem disagreeFlags_bit (s : State) (i : Fin 8) : (disagreeFlags s).getLsbD i.val = s.sy.ts[i].disagree := by
  rw [disagreeFlags, getLsbD_flags (by decide), dif_pos i.isLt]

/-! ## SHA-256's length -/

theorem wordList_length (v n : Nat) : (wordList v n).length = n := by simp [wordList]

theorem shaStep_length (i : Nat) (w : Word) (v : List Word) : (shaStep i w v).length = v.length := by
  unfold shaStep
  split <;> rfl

theorem shaRounds_length (n : Nat) (win v : List Word) : (shaRounds n win v).length = v.length := by
  induction n generalizing win v with
  | zero => rfl
  | succ n ih => rw [shaRounds, ih, shaStep_length]

theorem shaBlocks_length (n : Nat) (v : List Word) (bs : List Byte) : (shaBlocks n v bs).length = v.length := by
  induction n generalizing v bs with
  | zero => rfl
  | succ n ih => rw [shaBlocks, ih, shaBlock, List.length_zipWith, shaRounds_length, Nat.min_self]

theorem sha256_length (msg : List Byte) : (sha256 msg).length = 32 := by
  have hconst : ∀ w ∈ shaBlocks ((shaPad msg).length / 64) (wordList shaStart 8) (shaPad msg),
      (bytesBe 4 w.toNat).length = 4 := fun w _ => by simp [bytesBe]
  rw [sha256, List.length_flatMap, List.map_congr_left hconst, List.map_const', List.sum_replicate, shaBlocks_length,
    wordList_length]
  rfl

theorem digestBytes_length (d : BitVec 256) : (digestBytes d).length = 32 := toLe_length d 32

theorem quoteHead_length {nonce : List Byte} (h : nonce.length = 32) (s : State) (mask : Byte) :
    (quoteHead s nonce mask).length = 144 := by
  simp only [quoteHead, List.length_append, toLe_length, digestBytes_length, sha256_length, h, List.length_cons,
    List.length_nil]

/-! ## Halves of a record (R368) -/

/-- The bytes that TILL_READ answers of a sequence number. -/
def readHalf (s : State) (q half : Nat) : List Byte :=
  if (rstate s q).toNat < 2 then slice (slotBytes s q) (128 * half) 128 else List.replicate 128 0

theorem rstate_released {s : State} {q : Nat} (h : q < s.till.oldest.toNat) : rstate s q = 2 := if_pos h

theorem rstate_future {s : State} {q : Nat} (h : s.till.oldest.toNat ≤ q) (h' : s.till.next.toNat ≤ q) :
    rstate s q = 3 := (if_neg (by omega)).trans (if_pos h')

theorem rstate_written {s : State} {q : Nat} (h : s.till.oldest.toNat ≤ q) (h' : q < s.till.next.toNat) :
    rstate s q = if committed (slotBytes s q) then 0 else 1 := (if_neg (by omega)).trans (if_neg (by omega))

theorem rstate_written_lt {s : State} {q : Nat} (h : s.till.oldest.toNat ≤ q) (h' : q < s.till.next.toNat) :
    (rstate s q).toNat < 2 := by
  rw [rstate_written h h']
  split <;> decide

theorem readHalf_length (s : State) (q half : Nat) : (readHalf s q half).length = 128 := by
  unfold readHalf
  split
  · exact slice_length _ _ _
  · exact List.length_replicate

/-- Settles O8: each query passes its checks and is answered with the bytes that its reply is made of. -/
theorem queriesAreAnswered : Obligations.QueriesAreAnswered := by
  refine ⟨⟨fun n s h hp => ?_, fun n s h hp => ?_, fun n s h hp => ?_, fun n s h hp => ?_, fun n s h hp => ?_,
    fun n s h hp => ?_⟩, fun n s h hp => ?_, fun n s h hl hh hr => ?_, fun n s a k h hp h1 h2 h3 h4 => ?_,
    fun n s c h hp => ?_, fun n s h hp => ?_, fun n s mask h hl hd hm => ?_⟩
  · rw [← infoBytes_eq]
    exact ⟨_, exec_query rfl h hp, answerOk_answered n _ s⟩
  · obtain ⟨h0, h1, h2, h3, h4, h5⟩ := flagByte_bits (pageInFlight s) (decide (s.sys.mode = 3) && !pageInFlight s)
      s.sinov.admission.isSome (decide (s.rst.applied = 2)) (diagRuns s)
    refine ⟨answerOk n (modeBytes s) s, modeSub s, (modePage s).2, (modePage s).1, exec_query rfl h hp, ?_, h0, h1, h2,
      h3, h4, h5, fun a ha => ?_, fun ha => ?_⟩
    · rw [← modeBytes_eq]
      exact answerOk_answered n _ s
    · have : heldPage s = some a := ha
      simp only [modePage, this, and_self]
    · have : heldPage s = none := ha
      simp only [modePage, this, and_self]
  · rw [← causeBytes_eq]
    exact ⟨_, exec_query rfl h hp, answerOk_answered n _ s⟩
  · refine ⟨_, s.ps.rails.map railCode, exec_query rfl h hp, ?_, fun i => ?_⟩
    · rw [← railsBytes_eq]
      exact answerOk_answered n _ s
    · have hi : (s.ps.rails.map railCode)[i] = railCode s.ps.rails[i] := Vector.getElem_map _ _
      rw [hi]
      cases s.ps.rails[i] <;> simp [railCode]
  · refine ⟨_, (feAccess s).setWidth 8, exec_query rfl h hp, ?_, feAccess_toNat s⟩
    rw [← faultsBytes_eq]
    exact answerOk_answered n _ s
  · obtain ⟨h0, h1, h2, h3⟩ := flagByte_bits3 (decide (s.till.torn ≠ 0)) s.sinov.omitted s.till.chainBreak
    refine ⟨_, statusFlags s, exec_query rfl h hp, ?_, h0, h1, h2, h3⟩
    rw [← statusBytes_eq]
    exact answerOk_answered n _ s
  · exact ⟨_, clampFlags s, disagreeFlags s, exec_query rfl h hp, answerOk_answered n _ s,
      clampFlags_bit s, clampFlags_lt s, disagreeFlags_bit s⟩
  · have hpass : tillReadCmd n (payload s n) s = answerOk n ([rstate s (fieldLe (payload s n) 0 8),
        BitVec.ofNat 8 (fieldLe (payload s n) 8 1), 0, 0, 0, 0, 0, 0] ++
          readHalf s (fieldLe (payload s n) 0 8) (fieldLe (payload s n) 8 1)) s := by
      unfold tillReadCmd
      refine judged_of_pass fun c hc => ?_
      rw [List.mem_singleton.mp hc]
      simp [lenNot_of_length hl, reserved_of_zero hr]
      omega
    refine ⟨_, _, _, exec_of_frame rfl h rfl, hpass ▸ answerOk_answered n _ s, readHalf_length _ _ _, fun hq => ?_,
      fun hq hq' => ?_, fun hq hq' => ?_⟩
    · rw [rstate_released hq, readHalf, rstate_released hq]
      exact ⟨rfl, rfl⟩
    · rw [rstate_future hq hq', readHalf, rstate_future hq hq']
      exact ⟨rfl, rfl⟩
    · rw [rstate_written hq hq', readHalf, if_pos (rstate_written_lt hq hq')]
      exact ⟨rfl, rfl⟩
  · have ha : fieldLe (payload s n) 0 1 = a := by
      rw [hp, fieldLe_cons_zero, BitVec.toNat_ofNat]
      omega
    have hk : fieldLe (payload s n) 1 1 = k := by
      rw [hp, fieldLe_cons_succ, fieldLe_cons_zero, BitVec.toNat_ofNat]
      omega
    have hz : fieldLe (payload s n) 2 2 = 0 := by
      rw [hp]
      rfl
    have hl : (payload s n).length = 4 := by rw [hp]; rfl
    have hpass : measureCmd n (payload s n) s =
        answerOk n (((s.crypto.meas.toList.drop a).take k).flatMap digestBytes) s := by
      unfold measureCmd
      rw [ha, hk]
      refine judged_of_pass fun c hc => ?_
      rw [List.mem_singleton.mp hc]
      simp [lenNot_of_length hl, reserved_of_zero hz]
      omega
    exact ⟨_, exec_of_frame rfl h rfl, hpass ▸ answerOk_answered n _ s⟩
  · have hc : fieldLe (payload s n) 0 1 = c.val := by
      rw [hp, fieldLe_cons_zero, BitVec.toNat_ofNat]
      omega
    have hz : fieldLe (payload s n) 1 3 = 0 := by
      rw [hp]
      rfl
    have hl : (payload s n).length = 4 := by rw [hp]; rfl
    have hpass : diagReadCmd n (payload s n) s = answerOk n (toLe s.adc.val[c] 4 ++ [adcUnit c.val, 0, 0, 0]) s := by
      unfold diagReadCmd
      rw [hc]
      refine (judged_of_pass fun x hx => ?_).trans ?_
      · rw [List.mem_singleton.mp hx]
        simp [lenNot_of_length hl, reserved_of_zero hz]
        omega
      · simp
    exact ⟨_, exec_of_frame rfl h rfl, hpass ▸ answerOk_answered n _ s⟩
  · have hpass : timeGetCmd n (payload s n) s = answerOk n (toLe s.rtc.sec 6 ++ [0, 0] ++ toLe s.rtc.sub 2
        ++ [tflags s, 0, 0, 0, 0, 0] ++ toLe s.devtime 8) { s with
          rtc := { s.rtc with snapSec := s.rtc.sec, snapSub := s.rtc.sub, snapDt := s.devtime } } := by
      rw [← toLe_time]
      unfold timeGetCmd
      refine judged_of_pass fun c hc => ?_
      rw [List.mem_singleton.mp hc]
      exact lenNot_of_length (by rw [hp]; rfl)
    exact ⟨_, exec_of_frame rfl h rfl, by rw [hpass]; rfl, hpass ▸ answerOk_answered n _ _⟩
  · have hm8 : fieldLe (payload s n) 32 1 = mask.toNat := by
      rw [← Nat.add_zero 32, ← fieldLe_drop, hd, fieldLe_cons_zero]
    have hz : fieldLe (payload s n) 33 3 = 0 := by
      rw [show 33 = 32 + 1 by rfl, ← fieldLe_drop, hd]
      rfl
    have hnonce : slice (payload s n) 0 32 = (payload s n).take 32 := by
      rw [slice_of_le (by omega), List.drop_zero]
    have hpass : quoteCmd n (payload s n) s = answerOk n (quoteHead s ((payload s n).take 32) mask
        ++ bytesBe 32 (ecdsaSign Config.deviceKey (natBe (sha256 (quoteHead s ((payload s n).take 32) mask)))).1
        ++ bytesBe 32 (ecdsaSign Config.deviceKey (natBe (sha256 (quoteHead s ((payload s n).take 32) mask)))).2) s := by
      unfold quoteCmd
      dsimp only
      rw [hm8, hnonce, BitVec.ofNat_toNat, BitVec.setWidth_eq]
      refine judged_of_pass fun c hc => ?_
      rw [List.mem_singleton.mp hc]
      have hne : mask.toNat ≠ 0 := fun e => hm (BitVec.eq_of_toNat_eq e)
      simp only [lenNot_of_length hl, reserved_of_zero hz, hne, decide_false, Bool.not_true, Bool.or_self]
    have hlen : (quoteHead s ((payload s n).take 32) mask).length = 144 :=
      quoteHead_length (by rw [List.length_take]; omega) s mask
    exact ⟨_, _, exec_of_frame rfl h rfl, rfl, hlen, hpass ▸ answerOk_answered n _ s⟩

end Sys2Proof.Machine
end

section
/-! The stored configuration in the engine (R122, R165): applying it changes the engine's units, the pins that a loop drives,
and which channels Sinov waits to start, and nothing else. -/

namespace Sys2Proof.Machine

/-- From s to t only units of the engine change, and what Sinov notes of channels to start. -/
def EngineOnly (s t : State) : Prop :=
  ∃ (beam : BeamUnit) (pix : PixRamp) (motors : Vector Motor 6) (rdc : Rdc) (loops : LoopEng) (hv : Hv) (fuser : Fuser)
    (hold : OutHold) (thr : Vector Throttle 12) (gpio : Vector Gpio 4) (dump : Bool)
    (motor : Vector (Option MotorCfg) 6) (free : Nat), t = { s with
      beam := beam, pix := pix, motors := motors, rdc := rdc, loops := loops, hv := hv, fuser := fuser, outHold := hold
      sy := { s.sy with thr := thr }, gpio := gpio, hdie := { s.hdie with dump := dump }
      sinov := { s.sinov with motor := motor }, freeCtr := free }

namespace EngineOnly

theorem refl (s : State) : EngineOnly s s := ⟨_, _, _, _, _, _, _, _, _, _, _, _, _, rfl⟩

theorem trans {s t u : State} (h : EngineOnly s t) (k : EngineOnly t u) : EngineOnly s u := by
  obtain ⟨_, _, _, _, _, _, _, _, _, _, _, _, _, rfl⟩ := h
  obtain ⟨_, _, _, _, _, _, _, _, _, _, _, _, _, rfl⟩ := k
  exact ⟨_, _, _, _, _, _, _, _, _, _, _, _, _, rfl⟩

theorem ite {s a b : State} {c : Prop} [Decidable c] (h : EngineOnly s a) (k : EngineOnly s b) :
    EngineOnly s (if c then a else b) := by
  split
  · exact h
  · exact k

theorem foldl {α : Type} {f : State → α → State} (hf : ∀ x a, EngineOnly x (f x a)) (l : List α) (s : State) :
    EngineOnly s (l.foldl f s) := by
  induction l generalizing s with
  | nil => exact refl s
  | cons a l ih => exact (hf s a).trans (ih (f s a))

variable {s t : State} (h : EngineOnly s t)
include h

theorem counters : t.counters = s.counters := by obtain ⟨_, _, _, _, _, _, _, _, _, _, _, _, _, rfl⟩ := h; rfl
theorem mem : t.mem = s.mem := by obtain ⟨_, _, _, _, _, _, _, _, _, _, _, _, _, rfl⟩ := h; rfl
theorem hub : t.hub = s.hub := by obtain ⟨_, _, _, _, _, _, _, _, _, _, _, _, _, rfl⟩ := h; rfl
theorem sys : t.sys = s.sys := by obtain ⟨_, _, _, _, _, _, _, _, _, _, _, _, _, rfl⟩ := h; rfl
theorem rst : t.rst = s.rst := by obtain ⟨_, _, _, _, _, _, _, _, _, _, _, _, _, rfl⟩ := h; rfl
theorem docket : t.docket = s.docket := by obtain ⟨_, _, _, _, _, _, _, _, _, _, _, _, _, rfl⟩ := h; rfl
theorem clk : t.clk = s.clk := by obtain ⟨_, _, _, _, _, _, _, _, _, _, _, _, _, rfl⟩ := h; rfl
theorem safe : t.hdie.safe = s.hdie.safe := by obtain ⟨_, _, _, _, _, _, _, _, _, _, _, _, _, rfl⟩ := h; rfl

end EngineOnly

/-! ## The registers that a configuration writes -/

theorem engineOnly_motMod (k : Fin 6) (f : Motor → Motor) (s : State) : EngineOnly s (motMod k f s) :=
  ⟨_, _, _, _, _, _, _, _, _, _, _, _, _, rfl⟩

theorem engineOnly_dumpFollow (s : State) : EngineOnly s (dumpFollow s) :=
  .ite (.refl s) ⟨_, _, _, _, _, _, _, _, _, _, _, _, _, rfl⟩

theorem engineOnly_setStartDue (k : Fin 6) (b : Bool) (s : State) : EngineOnly s (setStartDue k b s) :=
  ⟨_, _, _, _, _, _, _, _, _, _, _, _, _, rfl⟩

theorem engineOnly_motStartOp (k : Fin 6) (s : State) : EngineOnly s (motStartOp k s) :=
  .ite (.ite (engineOnly_motMod _ _ s) (engineOnly_motMod _ _ s)) (.refl s)

theorem engineOnly_motorWrite (k : Fin 6) (c : MotorCfg) (s : State) : EngineOnly s (motorWrite k c s) := by
  have hctrl : EngineOnly s (motCtrl k (motCtrlWord c) s) := (engineOnly_motMod _ _ s).trans (engineOnly_dumpFollow _)
  exact hctrl.trans ((engineOnly_motMod _ _ _).trans ((engineOnly_motMod _ _ _).trans (engineOnly_motMod _ _ _)))

theorem engineOnly_motorRun (k : Fin 6) (c : MotorCfg) (s : State) : EngineOnly s (motorRun k c s) :=
  .ite (engineOnly_setStartDue _ _ s) <| .ite (engineOnly_setStartDue _ _ s) <| .ite
    ((engineOnly_setStartDue _ _ s).trans ((engineOnly_motStartOp _ _).trans (engineOnly_motMod _ _ _)))
    (engineOnly_setStartDue _ _ s)

theorem engineOnly_rdcFollow (s : State) : EngineOnly s (rdcFollow s) := ⟨_, _, _, _, _, _, _, _, _, _, _, _, _, rfl⟩

theorem engineOnly_applyMotor (k : Fin 6) (c : MotorCfg) (s : State) : EngineOnly s (applyMotor k c s) := by
  have hw : EngineOnly s (rdcFollow (motorWrite k c s)) := (engineOnly_motorWrite k c s).trans (engineOnly_rdcFollow _)
  exact hw.trans (.ite (engineOnly_motorRun k c _) (.refl _))

theorem engineOnly_loopModPin (n : Fin 32) (f : Loop → Loop) (s : State) : EngineOnly s (loopModPin n f s) :=
  ⟨_, _, _, _, _, _, _, _, _, _, _, _, _, rfl⟩

theorem engineOnly_loopWrite (n : Fin 32) (fresh en : Bool) (plog : BitVec 4) (setp band : Word) (dwell : Nat)
    (f : Loop → Loop) (s : State) : EngineOnly s (loopWrite n fresh en plog setp band dwell f s) :=
  engineOnly_loopModPin _ _ s

theorem engineOnly_loopsGo (s : State) : EngineOnly s (loopsGo s) :=
  .ite ⟨_, _, _, _, _, _, _, _, _, _, _, _, _, rfl⟩ ⟨_, _, _, _, _, _, _, _, _, _, _, _, _, rfl⟩

theorem engineOnly_applyHv (c : Fin 3) (h : HvCfg) (s : State) : EngineOnly s (applyHv c h s) := by
  unfold applyHv
  exact (engineOnly_loopWrite _ _ _ _ _ _ _ _ s).trans
    (.ite ⟨_, _, _, _, _, _, _, _, _, _, _, _, _, rfl⟩ ⟨_, _, _, _, _, _, _, _, _, _, _, _, _, rfl⟩)

theorem engineOnly_heaterStop (h : Fin 2) (s : State) : EngineOnly s (heaterStop h s) :=
  .ite ⟨_, _, _, _, _, _, _, _, _, _, _, _, _, rfl⟩ (.refl s)

theorem engineOnly_heaterFollow (h : Fin 2) (s : State) : EngineOnly s (heaterFollow h s) :=
  .ite (.refl s) (engineOnly_heaterStop h s)

theorem engineOnly_fuCtrl (v : Word) (s : State) : EngineOnly s (fuCtrl v s) := by
  unfold fuCtrl
  extract_lets fu s₁ s₂
  have hen : EngineOnly s s₁ := ⟨_, _, _, _, _, _, _, _, _, _, _, _, _, rfl⟩
  have h0 : EngineOnly s₁ s₂ := .ite (.refl _) (.ite (.refl _) (engineOnly_heaterStop 0 _))
  exact (hen.trans h0).trans (.ite (.refl _) (.ite (.refl _) (engineOnly_heaterStop 1 _)))

theorem engineOnly_fuDutyReq (v : Word) (s : State) : EngineOnly s (fuDutyReq v s) :=
  ⟨_, _, _, _, _, _, _, _, _, _, _, _, _, rfl⟩

theorem engineOnly_applyFuser (f : FuserCfg) (s : State) : EngineOnly s (applyFuser f s) := by
  unfold applyFuser
  extract_lets w s₁ s₂
  have hw (h sp x) : EngineOnly x (w h sp x) := engineOnly_loopWrite _ _ _ _ _ _ _ _ x
  have h1 : EngineOnly s s₁ := (((hw 0 f.set0 s).trans (hw 1 f.set1 _)).trans (engineOnly_heaterFollow 1 _)).trans
    (engineOnly_heaterFollow 0 _)
  have h2 : EngineOnly s₁ s₂ := (engineOnly_fuCtrl _ s₁).trans (engineOnly_fuDutyReq _ _)
  exact (h1.trans h2).trans (.ite ⟨_, _, _, _, _, _, _, _, _, _, _, _, _, rfl⟩ (.refl _))

theorem engineOnly_bmField (f : BeamUnit → BeamUnit) (s : State) : EngineOnly s (bmField f s) :=
  .ite (.refl s) ⟨_, _, _, _, _, _, _, _, _, _, _, _, _, rfl⟩

theorem engineOnly_bmDelay (b : Fin 4) (v : BitVec 16) (s : State) : EngineOnly s (bmDelay b v s) :=
  .ite (.refl s) (engineOnly_bmField _ s)

theorem engineOnly_bmDrive (b : Fin 4) (v : BitVec 11) (s : State) : EngineOnly s (bmDrive b v s) := by
  unfold bmDrive
  exact engineOnly_bmField _ s

theorem engineOnly_bmCeilReq (b : Fin 4) (v : BitVec 11) (s : State) : EngineOnly s (bmCeilReq b v s) :=
  ⟨_, _, _, _, _, _, _, _, _, _, _, _, _, rfl⟩

theorem engineOnly_applyLaser (b : Fin 4) (c : LaserCfg) (s : State) : EngineOnly s (applyLaser b c s) := by
  unfold applyLaser
  extract_lets was setp s₁ s₂ s₃ s₄
  have h1 : EngineOnly s s₁ := engineOnly_bmField _ s
  have h2 : EngineOnly s₁ s₂ := engineOnly_loopWrite _ _ _ _ _ _ _ _ s₁
  have h3 : EngineOnly s₂ s₃ := (engineOnly_bmCeilReq _ _ s₂).trans (engineOnly_bmDelay _ _ _)
  have h4 : EngineOnly s₃ s₄ := .ite (engineOnly_bmDrive _ _ _) (.refl _)
  exact (((h1.trans h2).trans h3).trans h4).trans (.ite ⟨_, _, _, _, _, _, _, _, _, _, _, _, _, rfl⟩ (.refl _))

theorem engineOnly_applyProfile (p : Fin 8) (segs : List (BitVec 24)) (s : State) : EngineOnly s (applyProfile p segs s) := by
  unfold applyProfile
  extract_lets s₁
  have h1 : EngineOnly s s₁ :=
    .foldl (fun _ _ => .ite (.refl _) ⟨_, _, _, _, _, _, _, _, _, _, _, _, _, rfl⟩) _ s
  exact h1.trans (.ite (.refl _) ⟨_, _, _, _, _, _, _, _, _, _, _, _, _, rfl⟩)

theorem engineOnly_refreshAll (s : State) : EngineOnly s (refreshAll s) :=
  .foldl (fun _ _ => ⟨_, _, _, _, _, _, _, _, _, _, _, _, _, rfl⟩) _ s

theorem engineOnly_withCfg {α : Type} {o : Option α} {f : α → State → State} (hf : ∀ a x, EngineOnly x (f a x))
    (s : State) : EngineOnly s (withCfg o f s) := by
  cases o with
  | none => exact .refl s
  | some a => exact hf a s

/-- The whole configuration changes nothing but the engine's units. -/
theorem engineOnly_applyAll (fresh : Bool) (s : State) : EngineOnly s (applyAll fresh s) := by
  unfold applyAll
  extract_lets s₁ s₂ s₃ s₄ s₅ s₆
  have h1 : EngineOnly s s₁ := .foldl (fun x _ => engineOnly_withCfg (fun a y => engineOnly_applyProfile _ a y) x) _ s
  have h2 : EngineOnly s₁ s₂ :=
    .foldl (fun x _ => engineOnly_withCfg (fun _ y => engineOnly_loopWrite _ _ _ _ _ _ _ _ y) x) _ s₁
  have h3 : EngineOnly s₂ s₃ := .foldl (fun x _ => engineOnly_withCfg (fun a y => engineOnly_applyHv _ a y) x) _ s₂
  have h4 : EngineOnly s₃ s₄ := engineOnly_withCfg (fun a y => engineOnly_applyFuser a y) s₃
  have h5 : EngineOnly s₄ s₅ := .foldl (fun x _ => engineOnly_withCfg (fun a y => engineOnly_applyLaser _ a y) x) _ s₄
  have h6 : EngineOnly s₅ s₆ := .foldl (fun x _ => engineOnly_withCfg (fun a y => engineOnly_applyMotor _ a y) x) _ s₅
  exact (h1.trans (h2.trans (h3.trans (h4.trans (h5.trans h6))))).trans
    ((engineOnly_loopsGo _).trans (engineOnly_refreshAll _))

theorem engineOnly_reapply (s : State) : EngineOnly s (reapply s) := by
  have hnote : EngineOnly s { s with outHold := { s.outHold with faults := 0 } } :=
    ⟨_, _, _, _, _, _, _, _, _, _, _, _, _, rfl⟩
  exact .ite (hnote.trans (engineOnly_applyAll true _)) (.refl s)

end Sys2Proof.Machine
end

section
/-! Sinov's refusals before a command runs (R113-R115), commands that ask for a record (R360), and the commands that change
the mode (R41-R44). -/

namespace Sys2Proof.Machine

/-! ## Refusals -/

/-- A frame that is ready and picked runs through the general checks of its row. -/
theorem runFrame_judged {code : Nat} {r : CmdRow} {n : Fin 8} {run : List Byte → State → State} {s : State}
    (hr : cmdRow code = some r) (h1 : frameReady s n = true) (h2 : reqCmd s.counters[n] = code)
    (h3 : sinovRuns s = true) (h4 : tornGap s = false) :
    runFrame code anyPayload n run s =
      if minimalSet s && (!r.min || !minCounter n) then answer n .notPermitted s
      else if !modeOk code r s then answer n .badMode s
      else run (payload s n) s := by
  simp only [runFrame, h1, h2, h3, h4, hr, anyPayload, decide_true, Bool.not_false, Bool.and_self, if_true]
  rfl

/-- In the minimal service set a command that it does not list is NOT_PERMITTED (R32). -/
theorem runFrame_notListed {code : Nat} {r : CmdRow} {n : Fin 8} {run : List Byte → State → State} {s : State}
    (hr : cmdRow code = some r) (h1 : frameReady s n = true) (h2 : reqCmd s.counters[n] = code)
    (h3 : sinovRuns s = true) (h4 : tornGap s = false) (h5 : minimalSet s = true) (h6 : r.min = false) :
    runFrame code anyPayload n run s = answer n .notPermitted s := by
  rw [runFrame_judged hr h1 h2 h3 h4, h5, h6, if_pos (by simp)]

/-- A command that the mode does not list is BAD_MODE (R113). -/
theorem runFrame_badMode {code : Nat} {r : CmdRow} {n : Fin 8} {run : List Byte → State → State} {s : State}
    (hr : cmdRow code = some r) (h1 : frameReady s n = true) (h2 : reqCmd s.counters[n] = code)
    (h3 : sinovRuns s = true) (h4 : tornGap s = false) (h5 : minimalSet s = false) (h6 : modeOk code r s = false) :
    runFrame code anyPayload n run s = answer n .badMode s := by
  rw [runFrame_judged hr h1 h2 h3 h4, h5, if_neg (by simp), if_pos (by rw [h6]; rfl)]

/-- A row of SERVICE alone is listed in no other mode. -/
theorem modeOk_service {code : Nat} {s : State} (h : s.sys.mode ≠ 1) : modeOk code ⟨false, true, false, false⟩ s = false := by
  have hm : s.sys.mode.toNat ≠ 1 := fun e => h (BitVec.eq_of_toNat_eq e)
  unfold modeOk
  split
  · exact absurd ‹_› hm
  all_goals rfl

/-- A row of READY alone is listed in no other mode. -/
theorem modeOk_ready {code : Nat} {s : State} (h : s.sys.mode ≠ 2) : modeOk code ⟨false, false, true, false⟩ s = false := by
  have hm : s.sys.mode.toNat ≠ 2 := fun e => h (BitVec.eq_of_toNat_eq e)
  unfold modeOk
  split
  · rfl
  · exact absurd ‹_› hm
  all_goals rfl

/-! ## Commands that ask for a record -/

theorem writeRecord_frame (n : Fin 8) (typ sub : BitVec 16) (body : List Byte) (cont : Cont) (s : State) :
    writeRecord n typ sub body cont s = { s with
      counters := (writeRecord n typ sub body cont s).counters, sinov := (writeRecord n typ sub body cont s).sinov } := rfl

theorem writeRecord_asks (n : Fin 8) (typ sub : BitVec 16) (body : List Byte) (cont : Cont) (s : State) :
    AsksRecord n typ body (cmdWant n s typ sub body cont) s (writeRecord n typ sub body cont s) :=
  ⟨rfl, rfl, rfl, rfl, rfl⟩

theorem writeRecord_running (n : Fin 8) (typ sub : BitVec 16) (body : List Byte) (cont : Cont) (s : State) :
    Running n s (writeRecord n typ sub body cont s) := rfl

theorem Running.otherCounters {n : Fin 8} {s t : State} (h : Running n s t) : OtherCounters n s t := fun k hk => by
  rw [h]
  exact Vector.getElem_set_ne _ _ (Fin.val_ne_of_ne hk.symm)

theorem Running.runs {n : Fin 8} {s t : State} (h : Running n s t) :
    t.counters[n].frame = .running (frameWaited s.counters[n]) := by
  rw [h]
  exact congrArg Counter.frame (Vector.getElem_set_self _)

theorem diagRuns_none {s : State} (h : ∀ o : Fin 16, s.sinov.diag[o] = none) : diagRuns s = false := by
  rw [diagRuns, any_eq_any_finRange]
  simp only [h, Option.isSome_none, List.any_eq_false, Bool.false_eq_true, not_false_iff, implies_true]

/-! ## Payloads of fixed length -/

theorem ofNat_toNat_setWidth {k w : Nat} (v : BitVec k) (h : k ≤ w) : BitVec.ofNat k (v.setWidth w : BitVec w).toNat = v := by
  refine BitVec.eq_of_toNat_eq ?_
  rw [BitVec.toNat_ofNat, BitVec.toNat_setWidth_of_le h, Nat.mod_eq_of_lt v.isLt]

/-- SLEEP's fields (R118). -/
theorem sleepFields (wake : BitVec 3) (alarm : BitVec 48) :
    fieldLe ([wake.setWidth 8, 0] ++ toLe alarm 6) 0 1 = wake.toNat ∧
      fieldLe ([wake.setWidth 8, 0] ++ toLe alarm 6) 1 1 = 0 ∧
      fieldLe ([wake.setWidth 8, 0] ++ toLe alarm 6) 2 6 = alarm.toNat := by
  refine ⟨?_, ?_, ?_⟩
  · rw [List.cons_append, fieldLe_cons_zero, BitVec.toNat_setWidth_of_le (by decide)]
  · rw [List.cons_append, fieldLe_cons_succ, List.cons_append, fieldLe_cons_zero]
    rfl
  · rw [fieldLe_append_right (Nat.le_refl 2)]
    exact fieldLe_toLe_of_le alarm (by decide)

/-- SEAL runs once its own order of checks passes (R41). -/
theorem sealCmd_passes {n : Fin 8} {s : State} (h1 : s.rst.applied ≠ 2) (h2 : graceClear s = true)
    (h3 : diagRuns s = false) (h4 : tillNone s = false) :
    sealCmd n [] s = writeRecord n 0x0003 0 (digestBytes (sealMeasure s).crypto.meas[3]) (.toMode 2 n) s := by
  unfold sealCmd
  rw [decide_eq_false h1, h2, h3, h4]
  rfl

/-- An UNSEAL without a token runs; it succeeds where none is required (R42). -/
theorem unsealCmd_passes {n : Fin 8} {s : State} (h : tillNone s = false) :
    ∃ body, unsealCmd n [] s = writeRecord n 0x0004 0 body (.unseal n (!optTokenReq (optRec s))) s := by
  have hlen : (!optTokenReq (optRec s) && lenNot [] 0 && lenNot [] 64) = false := by
    rw [lenNot_of_length (n := 0) rfl, Bool.and_false, Bool.false_and]
  have htok : tokenOk s [] = false := rfl
  refine ⟨(if !optTokenReq (optRec s) then 0 else 1) :: toLe s.till.next 8, ?_⟩
  unfold unsealCmd
  rw [h, hlen, judged_pass, judged_pass, judged_run, htok, Bool.false_and, Bool.or_false]

theorem sleepCmd_passes {n : Fin 8} {s : State} {wake : BitVec 3} {alarm : BitVec 48} (h1 : wake ≠ 0)
    (h2 : wake.getLsbD 0 = true → s.rtc.sec.toNat < alarm.toNat) (h3 : resBusy s n = false) (h4 : tillNone s = false) :
    sleepCmd n ([wake.setWidth 8, 0] ++ toLe alarm 6) s =
      writeRecord n 0x0002 0 (modeBody (s.sys.mode.setWidth 8) 0 2) (.sleepAfter n wake alarm) s := by
  obtain ⟨f0, f1, f2⟩ := sleepFields wake alarm
  have hlen : lenNot ([wake.setWidth 8, 0] ++ toLe alarm 6) 8 = false :=
    lenNot_of_length (by rw [List.length_append, toLe_length]; rfl)
  have hw : wake.toNat ≠ 0 := fun e => h1 (BitVec.eq_of_toNat_eq e)
  have halarm : (wake.toNat.testBit 0 && decide (alarm.toNat ≤ s.rtc.sec.toNat)) = false := by
    rw [Bool.and_eq_false_imp]
    exact fun hb => decide_eq_false (Nat.not_le.mpr (h2 hb))
  unfold sleepCmd
  simp only [f0, f2, hlen, reserved_of_zero f1, hw, halarm, h3, h4, show ¬ 7 < wake.toNat by omega, decide_false,
    Bool.not_true, Bool.or_self, judged_pass, judged_run, BitVec.ofNat_toNat, BitVec.setWidth_eq]

theorem resetCmdFrame_passes {n : Fin 8} {s : State} {k : BitVec 2} (hk : k = 1 ∨ k = 2) (h : resBusy s n = false) :
    resetCmdFrame n [k.setWidth 8, 0, 0, 0] s =
      answer n .ok { s with sinov := { s.sinov with resetReq := some k } } := by
  rcases hk with rfl | rfl <;>
  · unfold resetCmdFrame
    rw [h]
    rfl

/-- Settles O9: the general checks answer before a command runs, and each mode command whose checks pass asks for its
record. -/
theorem framesAreCheckedAndModesAsked : Obligations.FramesAreCheckedAndModesAsked := by
  refine ⟨⟨fun n s h1 h2 h3 h4 h5 => ?_, fun n s h1 h2 h3 h4 h5 h6 => ?_, fun n s h1 h2 h3 h4 h5 h6 => ?_,
    fun n s h hp => ?_⟩, fun n s h hp h1 h2 h3 h4 => ?_, fun n s h hp h1 => ?_,
    fun n s wake alarm h hp h1 h2 h3 h4 => ?_, fun n s k h hp hk h1 => ?_⟩
  · exact ⟨_, congrArg Host.Outcome.next (runFrame_notListed rfl h1 h2 h3 h4 h5 rfl), answer_answered n _ s⟩
  · exact ⟨_, congrArg Host.Outcome.next (runFrame_badMode rfl h1 h2 h3 h4 h5 (modeOk_service h6)), answer_answered n _ s⟩
  · exact ⟨_, congrArg Host.Outcome.next (runFrame_badMode rfl h1 h2 h3 h4 h5 (modeOk_ready h6)), answer_answered n _ s⟩
  · have hlen : lenNot (payload s n) 0 = true := by simpa [lenNot] using hp
    refine ⟨answer n .badArg s, ?_, answer_answered n _ s⟩
    rw [exec_of_frame rfl h rfl, query, hlen, judged_fail]
  · have hrun := sealCmd_passes (n := n) h1 h2 (diagRuns_none h3) h4
    have hr := writeRecord_running n 0x0003 0 (digestBytes (sealMeasure s).crypto.meas[3]) (.toMode 2 n) s
    have hx : exec (.sealPlan n) s = .next (writeRecord n 0x0003 0 (digestBytes (sealMeasure s).crypto.meas[3]) (.toMode 2 n) s) := by
      rw [exec_of_frame rfl h rfl, hp, hrun]
    exact ⟨_, _, hx, rfl, rfl, rfl, rfl, rfl, rfl, rfl, hr.runs, hr.otherCounters⟩
  · obtain ⟨body, hrun⟩ := unsealCmd_passes (n := n) h1
    have hr := writeRecord_running n 0x0004 0 body (.unseal n (!optTokenReq (optRec s))) s
    have hx : exec (.unsealPlan n) s = .next (writeRecord n 0x0004 0 body (.unseal n (!optTokenReq (optRec s))) s) := by
      rw [exec_of_frame rfl h rfl, hp, hrun]
    exact ⟨_, _, hx, rfl, rfl, rfl, rfl, rfl, rfl, hr.runs, hr.otherCounters⟩
  · have hrun := sleepCmd_passes (n := n) h1 h2 h3 h4
    have hr := writeRecord_running n 0x0002 0 (modeBody (s.sys.mode.setWidth 8) 0 2) (.sleepAfter n wake alarm) s
    have hx : exec (.sleep n) s = .next (writeRecord n 0x0002 0 (modeBody (s.sys.mode.setWidth 8) 0 2) (.sleepAfter n wake alarm) s) := by
      rw [exec_of_frame rfl h rfl, hp, hrun]
    exact ⟨_, _, hx, rfl, rfl, rfl, rfl, rfl, rfl, hr.runs, hr.otherCounters⟩
  · exact ⟨_, by rw [exec_of_frame rfl h rfl, hp, resetCmdFrame_passes hk h1], answer_answered n _ _⟩

end Sys2Proof.Machine
end

section
/-! The fault commands and the tables that a command replaces (R127-R130, R157, R164, R352). -/

namespace Sys2Proof.Machine

/-! ## The end of an admission -/

theorem lapseAdmission_counters (s : State) : (lapseAdmission s).counters = s.counters := by rw [lapseAdmission_frame]
theorem lapseAdmission_mem (s : State) : (lapseAdmission s).mem = s.mem := by rw [lapseAdmission_frame]
theorem lapseAdmission_sy (s : State) : (lapseAdmission s).sy = s.sy := by rw [lapseAdmission_frame]
theorem lapseAdmission_ps (s : State) : (lapseAdmission s).ps = s.ps := by rw [lapseAdmission_frame]

theorem lapseAdmission_admission (s : State) : (lapseAdmission s).sinov.admission = none := by
  unfold lapseAdmission
  cases h : s.sinov.admission with
  | none => exact h
  | some a => rfl

/-! ## What an answer leaves -/

theorem Answered.otherCounters {n : Fin 8} {st : Status} {g : BitVec 16} {p : List Byte} {s t : State}
    (h : Answered n st g p s t) : OtherCounters n s t := fun k hk => by
  rw [show t.counters = afterReply n st g p s from congrArg State.counters h]
  exact Vector.getElem_set_ne n.isLt k.isLt (Fin.val_ne_of_ne hk.symm)

theorem Answered.frame {n : Fin 8} {st : Status} {g : BitVec 16} {p : List Byte} {s t : State}
    (h : Answered n st g p s t) : t = { s with counters := t.counters } := by
  unfold Answered at h
  subst h
  rfl

theorem OtherCounters.congr {n : Fin 8} {s x t : State} (h : OtherCounters n x t) (hx : x.counters = s.counters) :
    OtherCounters n s t := fun k hk => by rw [h k hk, hx]

/-! ## FH_CFG words (R164) -/

theorem bits_fhCfgWord_class (c a : BitVec 2) (g : Nat) : (bits (fhCfgWord c a g) 0 2 : BitVec 2) = c := by
  refine BitVec.eq_of_getLsbD_eq fun i hi => ?_
  simp only [bits, fhCfgWord, BitVec.ushiftRight_zero, BitVec.getLsbD_setWidth, BitVec.getLsbD_or,
    BitVec.getLsbD_shiftLeft, show i < 4 by omega, hi, show i < 32 by omega, decide_true, Bool.true_and, Bool.not_true,
    Bool.false_and, Bool.or_false]

theorem bits_fhCfgWord_action (c a : BitVec 2) (g : Nat) : (bits (fhCfgWord c a g) 2 2 : BitVec 2) = a := by
  refine BitVec.eq_of_getLsbD_eq fun i hi => ?_
  simp only [bits, fhCfgWord, BitVec.getLsbD_setWidth, BitVec.getLsbD_or, BitVec.getLsbD_ushiftRight,
    BitVec.getLsbD_shiftLeft, BitVec.getLsbD_of_ge c (2 + i) (by omega), show 2 + i < 4 by omega, hi,
    show 2 + i < 32 by omega, show ¬ 2 + i < 2 by omega, Nat.add_sub_cancel_left, show i < 32 by omega, decide_true, decide_false,
    Bool.not_false, Bool.true_and, Bool.not_true, Bool.and_false, Bool.false_and, Bool.or_false, Bool.false_or]

theorem bits_fhCfgWord_grace (c a : BitVec 2) {g : Nat} (h : g < 2 ^ 20) :
    (bits (fhCfgWord c a g) 4 20 : BitVec 20).toNat = g := by
  have hb : (bits (fhCfgWord c a g) 4 20 : BitVec 20) = BitVec.ofNat 20 g := by
    refine BitVec.eq_of_getLsbD_eq fun i hi => ?_
    simp only [bits, fhCfgWord, BitVec.getLsbD_setWidth, BitVec.getLsbD_or, BitVec.getLsbD_ushiftRight,
      BitVec.getLsbD_shiftLeft, BitVec.getLsbD_of_ge c (4 + i) (by omega),
      BitVec.getLsbD_of_ge a (4 + i - 2) (by omega), BitVec.getLsbD_ofNat, show 4 + i < 32 by omega, hi,
      show ¬ 4 + i < 4 by omega, Nat.add_sub_cancel_left, Nat.mod_eq_of_lt h, show i < 32 by omega, decide_true,
      decide_false, Bool.not_false, Bool.true_and, Bool.and_false, Bool.or_false, Bool.false_or]
  rw [hb, BitVec.toNat_ofNat, Nat.mod_eq_of_lt h]

/-- FH_CFG takes a class that the option record leaves open, an action that the fault has, and a grace time within its
bounds. -/
theorem fhCfgWrite_fields {f : Byte} {c a : BitVec 2} {g : Nat} {s : State} (hf : (faultRow f.toNat 0).isSome = true)
    (hc : c ≠ 3) (himm : s.hub.optImm.getLsbD f.toNat = false)
    (ha : a = 1 → ((faultRow f.toNat 0).bind (·.block)).isSome = true) (hg : g ≤ 1000000) :
    ∃ w : Word, fhCfgWrite f (fhCfgWord c a g) s =
        { s with hub := { s.hub with cfg := s.hub.cfg.setIfInBounds f.toNat w } } ∧
      (bits w 0 2 : BitVec 2) = c ∧ (bits w 2 2 : BitVec 2) = a ∧ (g ≠ 0 → (bits w 4 20 : BitVec 20).toNat = g) := by
  obtain ⟨r, hr⟩ := Option.isSome_iff_exists.mp hf
  have hlt : g < 2 ^ 20 := by omega
  have hcls : ¬ (c = 3 ∨ s.hub.optImm.getLsbD f.toNat = true) := not_or.mpr ⟨hc, by rw [himm]; decide⟩
  have hact : ¬ (a = 1 ∧ r.block.isNone = true) := fun ⟨e, hn⟩ => by
    have := ha e
    rw [hr, Option.bind_some, Option.isSome_iff_ne_none] at this
    exact this (Option.isNone_iff_eq_none.mp hn)
  by_cases h0 : g = 0
  · refine ⟨fhCfgWord c a ((s.hub.cfg[f.toNat]?.getD 0) >>> 4).toNat, ?_, bits_fhCfgWord_class c a _,
      bits_fhCfgWord_action c a _, fun h => absurd h0 h⟩
    simp only [fhCfgWrite, hr, bits_fhCfgWord_class, bits_fhCfgWord_action, bits_fhCfgWord_grace c a hlt, if_neg hcls,
      if_neg hact, if_pos (show g = 0 ∨ 1000000 < g from .inl h0)]
  · refine ⟨fhCfgWord c a g, ?_, bits_fhCfgWord_class c a _, bits_fhCfgWord_action c a _,
      fun _ => bits_fhCfgWord_grace c a hlt⟩
    simp only [fhCfgWrite, hr, bits_fhCfgWord_class, bits_fhCfgWord_action, bits_fhCfgWord_grace c a hlt, if_neg hcls,
      if_neg hact, if_neg (show ¬ (g = 0 ∨ 1000000 < g) by omega)]

/-! ## The commands -/

theorem ofNat_toNat {w : Nat} (v : BitVec w) : BitVec.ofNat w v.toNat = v := by simp

theorem faultField (f : Byte) : fieldLe [f, 0, 0, 0] 0 1 = f.toNat := fieldLe_cons_zero f _

theorem ackCmd_passes {n : Fin 8} {f : Byte} {s : State} (hf : (faultRow f.toNat 0).isSome = true)
    (h : resBusy s n = false) : ackCmd n [f, 0, 0, 0] s = answer n .ok (hubAck f s) := by
  unfold ackCmd
  have hbad : (lenNot [f, 0, 0, 0] 4 || !reserved [f, 0, 0, 0] 1 3 || !faultExists f.toNat) = false := by
    rw [faultExists, hf]
    rfl
  rw [faultField, hbad, h, judged_pass, judged_pass, judged_run, ofNat_toNat]

theorem hubClear_clears {f : Byte} {s : State} (h1 : faultPresent s f.toNat = false)
    (h2 : expiryWins f.toNat s = false) : hubClear f s = clearTrip f.toNat { s with hub := { s.hub with
      raised := setBit s.hub.raised f.toNat false, timing := setBit s.hub.timing f.toNat false } } := by
  rw [hubClear, h1, h2]
  rfl

/-- A clear that may stand: the fault is cleared, the configuration is applied again where it may be, and the frame is
answered or asks for its record. -/
theorem clearCmd_passes {n : Fin 8} {f : Byte} {s : State} (hf : (faultRow f.toNat 0).isSome = true)
    (h : resBusy s n = false) (hup : s.hub.raised.getLsbD f.toNat = true) (h1 : faultPresent s f.toNat = false)
    (h2 : expiryWins f.toNat s = false) (h3 : tillNone s = false) :
    clearCmd n [f, 0, 0, 0] s = answer n .ok (reapply (hubClear f s)) ∨
      ∃ body, clearCmd n [f, 0, 0, 0] s = writeRecord n 0x0020 0 body (.reply n []) (reapply (hubClear f s)) := by
  have hbad : (lenNot [f, 0, 0, 0] 4 || !reserved [f, 0, 0, 0] 1 3 || !faultExists f.toNat) = false := by
    rw [faultExists, hf]
    rfl
  unfold clearCmd
  dsimp only
  rw [faultField, hbad, h, hup, h1, h2, h3, Bool.and_false, judged_pass, judged_pass]
  simp only [Bool.or_self, Bool.and_false, judged_pass, judged_run, if_true, ofNat_toNat]
  split
  · exact .inl rfl
  · exact .inr ⟨_, rfl⟩

theorem clearCmd_pending {n : Fin 8} {f : Byte} {s : State} (hf : (faultRow f.toNat 0).isSome = true)
    (h : resBusy s n = false) (hup : s.hub.raised.getLsbD f.toNat = true)
    (h1 : faultPresent s f.toNat = true ∨ expiryWins f.toNat s = true) :
    clearCmd n [f, 0, 0, 0] s = answer n .faultPending s := by
  have hbad : (lenNot [f, 0, 0, 0] 4 || !reserved [f, 0, 0, 0] 1 3 || !faultExists f.toNat) = false := by
    rw [faultExists, hf]
    rfl
  unfold clearCmd
  dsimp only
  rw [faultField, hbad, h, hup, Bool.true_and, Bool.or_eq_true_iff.mpr h1, judged_pass, judged_pass, judged_fail]

/-- SET_FAULT_CLASS's fields. -/
theorem classFields (f : Byte) (c a : BitVec 2) (g : BitVec 32) :
    let p := [f, c.setWidth 8, a.setWidth 8, 0] ++ toLe g 4
    fieldLe p 0 1 = f.toNat ∧ fieldLe p 1 1 = c.toNat ∧ fieldLe p 2 1 = a.toNat ∧ fieldLe p 3 1 = 0 ∧
      fieldLe p 4 4 = g.toNat := by
  refine ⟨?_, ?_, ?_, ?_, ?_⟩
  · simp only [List.cons_append, fieldLe_cons_zero]
  · simp only [List.cons_append, fieldLe_cons_succ, fieldLe_cons_zero, BitVec.toNat_setWidth_of_le (show 2 ≤ 8 by decide)]
  · simp only [List.cons_append, fieldLe_cons_succ, fieldLe_cons_zero, BitVec.toNat_setWidth_of_le (show 2 ≤ 8 by decide)]
  · simp only [List.cons_append, fieldLe_cons_succ, fieldLe_cons_zero]
    rfl
  · exact (fieldLe_append_right (Nat.le_refl 4)).trans (fieldLe_toLe_of_le g (by decide))

theorem classCmd_passes {n : Fin 8} {s : State} {f : Byte} {c a : BitVec 2} {g : BitVec 32}
    (hf : (faultRow f.toNat 0).isSome = true) (hc : c ≠ 3)
    (ha : a = 1 → ((faultRow f.toNat 0).bind (·.block)).isSome = true) (hg : c = 1 → 1 ≤ g.toNat ∧ g.toNat ≤ 1000000)
    (himm : s.hub.optImm.getLsbD f.toNat = false) (h : resBusy s n = false) :
    classCmd n ([f, c.setWidth 8, a.setWidth 8, 0] ++ toLe g 4) s =
      answer n .ok (fhCfgWrite f (fhCfgWord c a (if c = 1 then g.toNat else 0)) s) := by
  obtain ⟨f0, f1, f2, f3, f4⟩ := classFields f c a g
  obtain ⟨r, hr⟩ := Option.isSome_iff_exists.mp hf
  have hlen : lenNot ([f, c.setWidth 8, a.setWidth 8, 0] ++ toLe g 4) 8 = false :=
    lenNot_of_length (by rw [List.length_append, toLe_length]; rfl)
  have hc2 : ¬ 2 < c.toNat := fun hlt => hc (BitVec.eq_of_toNat_eq (by have := c.isLt; simp; omega))
  have hc1 : c.toNat = 1 ↔ c = 1 := ⟨fun e => BitVec.eq_of_toNat_eq e, fun e => by rw [e]; rfl⟩
  have ha1 : a.toNat = 1 ↔ a = 1 := ⟨fun e => BitVec.eq_of_toNat_eq e, fun e => by rw [e]; rfl⟩
  have hgr : (decide (c = 1) && (decide (g.toNat = 0) || decide (1000000 < g.toNat))) = false := by
    by_cases e : c = 1
    · have := hg e
      rw [decide_eq_false (show ¬ g.toNat = 0 by omega), decide_eq_false (show ¬ 1000000 < g.toNat by omega)]
      exact Bool.and_false _
    · rw [decide_eq_false e, Bool.false_and]
  have hblk : (decide (a = 1) && r.block.isNone) = false := by
    by_cases e : a = 1
    · have := ha e
      rw [hr, Option.bind_some] at this
      rw [Option.isNone_eq_false_iff.mpr this, Bool.and_false]
    · rw [decide_eq_false e, Bool.false_and]
  unfold classCmd
  dsimp only
  simp only [f0, f1, f2, f4, hlen, reserved_of_zero f3, faultExists, hr, hc2, hc1, ha1, hgr, hblk, himm, h, Option.isSome_some,
    show ¬ 3 < a.toNat by omega, decide_false, Bool.not_true, Bool.or_self, judged_pass, judged_run, ofNat_toNat]

/-- SET_THROTTLE's fields. -/
theorem throttleFields (i : Fin 12) (q h d : BitVec 16) :
    let p := [BitVec.ofNat 8 i.val, 0] ++ toLe q 2 ++ toLe h 2 ++ toLe d 2
    fieldLe p 0 1 = i.val ∧ fieldLe p 1 1 = 0 ∧ fieldLe p 2 2 = q.toNat ∧ fieldLe p 4 2 = h.toNat ∧
      fieldLe p 6 2 = d.toNat := by
  have hi := i.isLt
  simp only [List.append_assoc]
  refine ⟨?_, ?_, ?_, ?_, ?_⟩
  · rw [List.cons_append, fieldLe_cons_zero, BitVec.toNat_ofNat]
    omega
  · rw [List.cons_append, fieldLe_cons_succ]
    exact fieldLe_cons_zero 0 _
  · rw [fieldLe_append_right (Nat.le_refl 2), fieldLe_append_left (Nat.le_refl 2)]
    exact fieldLe_toLe_of_le q (by decide)
  · rw [fieldLe_append_right (show 2 ≤ 4 by decide), fieldLe_append_right (Nat.le_refl 2),
      fieldLe_append_left (Nat.le_refl 2)]
    exact fieldLe_toLe_of_le h (by decide)
  · rw [fieldLe_append_right (show 2 ≤ 6 by decide), fieldLe_append_right (show 2 ≤ 4 by decide),
      fieldLe_append_right (Nat.le_refl 2)]
    exact fieldLe_toLe_of_le d (by decide)

/-- The throttle's target with the level and retry data of SET_THROTTLE. -/
def throttled (i : Fin 12) (q h d : BitVec 16) (s : State) : State :=
  refreshTreq i { s with sy := { s.sy with thr := vmod s.sy.thr i fun x =>
    { x with reqPm := q.toNat, ret := BitVec.ofNat 32 (h.toNat + 65536 * d.toNat) } } }

theorem throttleCmd_passes {n : Fin 8} {s : State} {i : Fin 12} {q h d : BitVec 16} (h1 : q ≠ 0) (h2 : q.toNat ≤ 1000)
    (h3 : h.toNat ≤ 10000) (h4 : d ≠ 0) (h5 : d.toNat ≤ 60000) (h6 : resBusy s n = false) :
    ∃ p, throttleCmd n ([BitVec.ofNat 8 i.val, 0] ++ toLe q 2 ++ toLe h 2 ++ toLe d 2) s =
      answerOk n p (lapseAdmission (throttled i q h d s)) := by
  obtain ⟨f0, f1, f2, f3, f4⟩ := throttleFields i q h d
  have hlen : lenNot ([BitVec.ofNat 8 i.val, 0] ++ toLe q 2 ++ toLe h 2 ++ toLe d 2) 8 = false :=
    lenNot_of_length (by simp [toLe_length])
  have hq : q.toNat ≠ 0 := fun e => h1 (BitVec.eq_of_toNat_eq e)
  have hd : d.toNat ≠ 0 := fun e => h4 (BitVec.eq_of_toNat_eq e)
  unfold throttleCmd
  dsimp only
  simp only [f0, f2, f3, f4, hlen, reserved_of_zero f1, hq, hd, h6, show ¬ 11 < i.val by omega,
    show ¬ 1000 < q.toNat by omega, show ¬ 10000 < h.toNat by omega, show ¬ 60000 < d.toNat by omega, decide_false,
    Bool.not_true, Bool.or_self, judged_pass, judged_run, Fin.ofNat_val_eq_self]
  exact ⟨_, rfl⟩

theorem throttled_self (i : Fin 12) (q h d : BitVec 16) (s : State) :
    (throttled i q h d s).sy.thr[i].reqPm = q.toNat ∧
      (throttled i q h d s).sy.thr[i].ret.toNat = h.toNat + 65536 * d.toNat := by
  have hthr : (throttled i q h d s).sy.thr[i] = { s.sy.thr[i] with
      treq := BitVec.ofNat 16 (thrC s i.val * q.toNat / 1000)
      reqPm := q.toNat, ret := BitVec.ofNat 32 (h.toNat + 65536 * d.toNat) } := by
    rw [throttled, refreshTreq]
    dsimp only
    rw [vmod_same, vmod_same]
    rfl
  refine ⟨by rw [hthr], ?_⟩
  rw [hthr, BitVec.toNat_ofNat]
  omega

theorem throttled_other {i j : Fin 12} (hj : j ≠ i) (q h d : BitVec 16) (s : State) :
    (throttled i q h d s).sy.thr[j] = s.sy.thr[j] := by
  rw [throttled, refreshTreq]
  exact (vmod_other _ i j _ hj).trans (vmod_other _ i j _ hj)

/-- The table of SET_SHUTDOWN_TABLE as PS_SHDN holds it. -/
def shutdownWords (p : List Byte) : Vector Word 31 :=
  Vector.ofFn fun i => BitVec.ofNat 32 (fieldLe (slice (p.drop 4) 0 124) (4 * i.val) 4)

theorem tableCmd_passes {n : Fin 8} {s : State} {p : List Byte} (h1 : 1 ≤ fieldLe p 0 1) (h2 : fieldLe p 0 1 ≤ 62)
    (h3 : p.length = 4 + 2 * fieldLe p 0 1) (h4 : fieldLe p 1 3 = 0) (h5 : tableBad s (tableEntries p) = false)
    (h6 : resBusy s n = false) :
    tableCmd n p s = answer n .ok (lapseAdmission { s with ps := { s.ps with shdn := shutdownWords p } }) := by
  unfold tableCmd
  dsimp only
  simp only [lenNot_of_length h3, reserved_of_zero h4, h5, h6, show ¬ fieldLe p 0 1 = 0 by omega,
    show ¬ 62 < fieldLe p 0 1 by omega, decide_false, Bool.not_true, Bool.or_self, judged_pass, judged_run]
  rfl

/-- Settles O10: each command's checks pass, and what it writes is read back. -/
theorem hubAndTableCommands : Obligations.HubAndTableCommands := by
  refine ⟨fun n s f h hp hf hr => ?_, fun n s f h hp hf hr hup h1 h2 h3 => ?_, fun n s f h hp hf hr hup h1 => ?_,
    fun n s f c a g h hp hf hc ha hg himm hr => ?_, fun n s i q hyst dwell h hp h1 h2 h3 h4 h5 hr => ?_,
    fun n s h h1 h2 h3 h4 h5 hr => ?_⟩
  · have hx : exec (.ackFault n) s = .next (answer n .ok (hubAck f s)) := by
      rw [exec_of_frame rfl h rfl, hp, ackCmd_passes hf hr]
    exact ⟨_, hx, answer_answered n _ _⟩
  · have hx : exec (.clearFault n) s = .next (clearCmd n [f, 0, 0, 0] s) := by rw [exec_of_frame rfl h rfl, hp]
    have he : EngineOnly (hubClear f s) (reapply (hubClear f s)) := engineOnly_reapply _
    have hcl := hubClear_clears (s := s) h1 h2
    have hhub : (reapply (hubClear f s)).hub = { s.hub with
        raised := setBit s.hub.raised f.toNat false, timing := setBit s.hub.timing f.toNat false } := by
      rw [he.hub, hcl]; rfl
    have hmem : (reapply (hubClear f s)).mem = s.mem := by rw [he.mem, hcl]; rfl
    have hcnt : (reapply (hubClear f s)).counters = s.counters := by rw [he.counters, hcl]; rfl
    rcases clearCmd_passes (n := n) hf hr hup h1 h2 h3 with hc | ⟨body, hc⟩
    · rw [hc] at hx
      have ha := answer_answered n .ok (reapply (hubClear f s))
      have hh := congrArg State.hub ha.frame
      have hm := congrArg State.mem ha.frame
      exact ⟨_, hx, by rw [hh, hhub], by rw [hh, hhub], by rw [hh, hhub], memSame_of_mem (hm.trans hmem),
        ha.otherCounters.congr hcnt⟩
    · rw [hc] at hx
      have hw := writeRecord_frame n 0x0020 0 body (.reply n []) (reapply (hubClear f s))
      have hh := congrArg State.hub hw
      have hm := congrArg State.mem hw
      exact ⟨_, hx, by rw [hh, hhub], by rw [hh, hhub], by rw [hh, hhub], memSame_of_mem (hm.trans hmem),
        (writeRecord_running n 0x0020 0 body (.reply n []) _).otherCounters.congr hcnt⟩
  · exact ⟨_, by rw [exec_of_frame rfl h rfl, hp, clearCmd_pending hf hr hup h1], answer_answered n _ _⟩
  · have hle : (if c = 1 then g.toNat else 0) ≤ 1000000 := by
      split
      · exact (hg ‹_›).2
      · omega
    obtain ⟨w, hw, hwc, hwa, hwg⟩ := fhCfgWrite_fields (c := c) (a := a) (s := s) hf hc himm ha hle
    have hx : exec (.setFaultClass n) s = .next (answer n .ok { s with hub := { s.hub with
        cfg := s.hub.cfg.setIfInBounds f.toNat w } }) := by
      rw [exec_of_frame rfl h rfl, hp, classCmd_passes hf hc ha hg himm hr, hw]
    refine ⟨_, hx, w, hwc, hwa, fun e => ?_, answer_answered n _ _⟩
    have := (hg e).1
    rw [if_pos e] at hwg
    exact hwg (by omega)
  · obtain ⟨p, hpass⟩ := throttleCmd_passes (n := n) (s := s) (i := i) h1 h2 h3 h4 h5 hr
    have hx : exec (.setThrottle n) s = .next (answerOk n p (lapseAdmission (throttled i q hyst dwell s))) := by
      rw [exec_of_frame rfl h rfl, hp, hpass]
    have ha := answerOk_answered n p (lapseAdmission (throttled i q hyst dwell s))
    have hsy := (congrArg State.sy ha.frame).trans (lapseAdmission_sy _)
    have hmem := (congrArg State.mem ha.frame).trans (lapseAdmission_mem _)
    have hadm := (congrArg (fun x => x.sinov.admission) ha.frame).trans (lapseAdmission_admission _)
    exact ⟨_, hx, by rw [hsy]; exact (throttled_self i q hyst dwell s).1,
      by rw [hsy]; exact (throttled_self i q hyst dwell s).2,
      fun j hj => by rw [hsy]; exact throttled_other hj q hyst dwell s, hadm, memSame_of_mem hmem,
      ha.otherCounters.congr (lapseAdmission_counters _)⟩
  · have hx := (exec_of_frame (i := .setShutdownTable n) rfl h rfl).trans
      (congrArg Host.Outcome.next (tableCmd_passes h1 h2 h3 h4 h5 hr))
    have ha := answer_answered n .ok (lapseAdmission { s with ps := { s.ps with shdn := shutdownWords (payload s n) } })
    have hmem := (congrArg State.mem ha.frame).trans (lapseAdmission_mem _)
    have hadm := (congrArg (fun x => x.sinov.admission) ha.frame).trans (lapseAdmission_admission _)
    have hps := (congrArg State.ps ha.frame).trans (lapseAdmission_ps _)
    refine ⟨_, hx, hadm, memSame_of_mem hmem, ha.otherCounters.congr (lapseAdmission_counters _), fun i => ?_⟩
    rw [hps]
    exact Vector.getElem_ofFn _

end Sys2Proof.Machine
end

section
/-! The engine configuration commands (R122-R126): the fields of their payloads, the refusals above the envelope, MOTOR_STOP
and SET_FABRIC. -/

namespace Sys2Proof.Machine

/-! ## Payloads put together from fields -/

theorem fieldLe_toLe_append {w : Nat} (v : BitVec w) {n : Nat} (h : w ≤ 8 * n) (r : List Byte) :
    fieldLe (toLe v n ++ r) 0 n = v.toNat := by
  rw [fieldLe_append_left (by rw [toLe_length, Nat.zero_add])]
  exact fieldLe_toLe_of_le v h

theorem fieldLe_toLe_skip {w : Nat} (v : BitVec w) (k o n : Nat) (r : List Byte) :
    fieldLe (toLe v k ++ r) (o + k) n = fieldLe r o n := by
  rw [fieldLe_append_right (by rw [toLe_length]; omega), toLe_length, Nat.add_sub_cancel]

theorem toNat_ofNat_fin {m : Nat} (i : Fin m) (h : m ≤ 256) : (BitVec.ofNat 8 i.val).toNat = i.val := by
  rw [BitVec.toNat_ofNat]
  exact Nat.mod_eq_of_lt (by have := i.isLt; omega)

/-- The byte of an enable. -/
def enByte (en : Bool) : Byte := if en then 1 else 0

theorem enByte_le (en : Bool) : ¬ 1 < (enByte en).toNat := by
  cases en <;> decide

theorem enByte_on (en : Bool) : decide ((enByte en).toNat = 1) = en := by
  cases en <;> rfl

/-! ## SET_LASER -/

/-- The payload of a SET_LASER. -/
def laserPayload (b : Fin 4) (en : Bool) (g : Byte) (power : BitVec 32) (ceil delay : BitVec 16) : List Byte :=
  [BitVec.ofNat 8 b.val, enByte en, g, 0] ++ toLe power 4 ++ toLe ceil 2 ++ toLe delay 2

theorem laserFields (b : Fin 4) (en : Bool) (g : Byte) (power : BitVec 32) (ceil delay : BitVec 16) :
    let p := laserPayload b en g power ceil delay
    p.length = 12 ∧ fieldLe p 0 1 = b.val ∧ fieldLe p 1 1 = (enByte en).toNat ∧ fieldLe p 2 1 = g.toNat ∧
      fieldLe p 3 1 = 0 ∧ fieldLe p 4 4 = power.toNat ∧ fieldLe p 8 2 = ceil.toNat ∧ fieldLe p 10 2 = delay.toNat := by
  have hend : toLe delay 2 = toLe delay 2 ++ [] := (List.append_nil _).symm
  have hb : (BitVec.ofNat 8 b.val).toNat = b.val := toNat_ofNat_fin b (by decide)
  dsimp only [laserPayload]
  rw [hend]
  refine ⟨by simp [toLe_length], ?_, ?_, ?_, ?_, ?_, ?_, ?_⟩ <;>
    simp only [List.append_assoc, List.cons_append, List.nil_append, fieldLe_cons_succ, fieldLe_cons_zero,
      fieldLe_toLe_skip _ 4 2, fieldLe_toLe_skip _ 4 0, fieldLe_toLe_skip _ 2 0,
      fieldLe_toLe_append, Nat.reduceMul, Nat.reduceLeDiff, hb]
  rfl

/-- What a SET_LASER asks for. -/
def laserCfgOf (en : Bool) (g : Byte) (power : BitVec 32) (ceil delay : BitVec 16) : LaserCfg :=
  { en := en, plog := BitVec.ofNat 4 g.toNat, power := power.toNat, iCeil := ceil.toNat, delay := delay.toNat }

/-- A SET_LASER in range is judged by the envelope and by the resource alone. -/
theorem laserCmd_judged {n : Fin 8} {s : State} {b : Fin 4} {en : Bool} {g : Byte} {power : BitVec 32}
    {ceil delay : BitVec 16} (hg : g.toNat ≤ 10) (hd : delay.toNat ≤ 12799)
    (hs : slotsBad s (fun y => { y with laser := y.laser.set b (some (laserCfgOf en g power ceil delay)) }) = false) :
    laserCmd n (laserPayload b en g power ceil delay) s =
      judged n [(decide (s.envg.shadow.ldI[b].toNat < ceil.toNat), .envelope), (resBusy s n, .busy)]
        (configure n (fun s => storeCfg (fun y => { y with
            laser := y.laser.set b (some (laserCfgOf en g power ceil delay)) })
          { s with outHold := { s.outHold with ldNew := setBit s.outHold.ldNew b.val false } })
        (fun s => loopsGo (applyLaser b (laserCfgOf en g power ceil delay) s))) s := by
  obtain ⟨hl, f0, f1, f2, f3, f4, f5, f6⟩ := laserFields b en g power ceil delay
  have hen : enPlogBad (laserPayload b en g power ceil delay) = false := by
    rw [enPlogBad, f1, f2, decide_eq_false (enByte_le en), decide_eq_false (by omega)]
    rfl
  unfold laserCfgOf at hs ⊢
  unfold laserCmd
  simp only [f0, f1, f2, f4, f5, f6, lenNot_of_length hl, hen, reserved_of_zero f3, enByte_on, Fin.ofNat_val_eq_self,
    show ¬ 3 < b.val by omega, show ¬ 12799 < delay.toNat by omega, hs, decide_false, Bool.not_true, Bool.or_self,
    judged_pass]

/-! ## SET_FUSER -/

/-- The payload of a SET_FUSER. -/
def fuserPayload (en : BitVec 2) (g : Byte) (a b band dwell duty : BitVec 16) : List Byte :=
  [en.setWidth 8, g, 0, 0] ++ toLe a 2 ++ toLe b 2 ++ toLe band 2 ++ toLe dwell 2 ++ toLe duty 2 ++ [0, 0]

theorem fuserFields (en : BitVec 2) (g : Byte) (a b band dwell duty : BitVec 16) :
    let p := fuserPayload en g a b band dwell duty
    p.length = 16 ∧ fieldLe p 0 1 = en.toNat ∧ fieldLe p 1 1 = g.toNat ∧ fieldLe p 2 2 = 0 ∧ fieldLe p 14 2 = 0 ∧
      fieldLe p 4 2 = a.toNat ∧ fieldLe p 6 2 = b.toNat ∧ fieldLe p 8 2 = band.toNat ∧ fieldLe p 10 2 = dwell.toNat ∧
      fieldLe p 12 2 = duty.toNat := by
  dsimp only [fuserPayload]
  refine ⟨by simp [toLe_length], ?_, ?_, ?_, ?_, ?_, ?_, ?_, ?_, ?_⟩ <;>
    simp only [List.append_assoc, List.cons_append, List.nil_append, fieldLe_cons_succ, fieldLe_cons_zero,
      fieldLe_toLe_skip _ 2 8, fieldLe_toLe_skip _ 2 6, fieldLe_toLe_skip _ 2 4, fieldLe_toLe_skip _ 2 2,
      fieldLe_toLe_skip _ 2 0, fieldLe_toLe_append, Nat.reduceMul, Nat.reduceLeDiff,
      BitVec.toNat_setWidth_of_le (show 2 ≤ 8 by decide)]
  · rfl
  · rfl

/-- What a SET_FUSER asks for. -/
def fuserCfgOf (en : BitVec 2) (g : Byte) (a b band dwell duty : BitVec 16) : FuserCfg :=
  { en := en, plog := BitVec.ofNat 4 g.toNat, set0 := a.toNat, set1 := b.toNat, band := band.toNat
    dwell := dwell.toNat, duty := duty.toNat }

/-- A SET_FUSER in range is judged by the envelope and by the resource alone. -/
theorem fuserCmd_judged {n : Fin 8} {s : State} {en : BitVec 2} {g : Byte} {a b band dwell duty : BitVec 16}
    (hg : g.toNat ≤ 10) (hb : band ≠ 0) (hdw : dwell.toNat ≤ 60000) (hdu : duty.toNat ≤ 1000)
    (hs : slotsBad s (fun y => { y with fuser := some (fuserCfgOf en g a b band dwell duty) }) = false) :
    fuserCmd n (fuserPayload en g a b band dwell duty) s =
      judged n [(decide (s.envg.shadow.htrDuty[(0 : Fin 2)].toNat < duty.toNat) ||
          decide (s.envg.shadow.htrDuty[(1 : Fin 2)].toNat < duty.toNat), .envelope), (resBusy s n, .busy)]
        (configure n (storeCfg fun y => { y with fuser := some (fuserCfgOf en g a b band dwell duty) })
          (fun s => loopsGo (applyFuser (fuserCfgOf en g a b band dwell duty) s))) s := by
  obtain ⟨hl, f0, f1, f2, f3, f4, f5, f6, f7, f8⟩ := fuserFields en g a b band dwell duty
  have hb' : band.toNat ≠ 0 := fun e => hb (BitVec.eq_of_toNat_eq e)
  unfold fuserCfgOf at hs ⊢
  unfold fuserCmd
  simp only [f0, f1, f4, f5, f6, f7, f8, lenNot_of_length hl, reserved_of_zero f2, reserved_of_zero f3, ofNat_toNat,
    show ¬ 3 < en.toNat by omega, show ¬ 10 < g.toNat by omega, hb', show ¬ 60000 < dwell.toNat by omega,
    show ¬ 1000 < duty.toNat by omega, hs, decide_false, Bool.not_true, Bool.or_self, judged_pass]

/-! ## SET_HV -/

/-- The payload of a SET_HV. -/
def hvPayload (c : Fin 3) (en : Bool) (g : Byte) (v : BitVec 32) (band dwell : BitVec 16) : List Byte :=
  [BitVec.ofNat 8 c.val, enByte en, g, 0] ++ toLe v 4 ++ toLe band 2 ++ toLe dwell 2

theorem hvFields (c : Fin 3) (en : Bool) (g : Byte) (v : BitVec 32) (band dwell : BitVec 16) :
    let p := hvPayload c en g v band dwell
    p.length = 12 ∧ fieldLe p 0 1 = c.val ∧ fieldLe p 1 1 = (enByte en).toNat ∧ fieldLe p 2 1 = g.toNat ∧
      fieldLe p 3 1 = 0 ∧ fieldLe p 4 4 = v.toNat ∧ fieldLe p 8 2 = band.toNat ∧ fieldLe p 10 2 = dwell.toNat := by
  have hend : toLe dwell 2 = toLe dwell 2 ++ [] := (List.append_nil _).symm
  have hc : (BitVec.ofNat 8 c.val).toNat = c.val := toNat_ofNat_fin c (by decide)
  dsimp only [hvPayload]
  rw [hend]
  refine ⟨by simp [toLe_length], ?_, ?_, ?_, ?_, ?_, ?_, ?_⟩ <;>
    simp only [List.append_assoc, List.cons_append, List.nil_append, fieldLe_cons_succ, fieldLe_cons_zero,
      fieldLe_toLe_skip _ 4 2, fieldLe_toLe_skip _ 4 0, fieldLe_toLe_skip _ 2 0,
      fieldLe_toLe_append, Nat.reduceMul, Nat.reduceLeDiff, hc]
  rfl

/-- What a SET_HV asks for. -/
def hvCfgOf (c : Fin 3) (en : Bool) (g : Byte) (v : BitVec 32) (band dwell : BitVec 16) : HvCfg :=
  { en := en, plog := BitVec.ofNat 4 g.toNat, setp := hvMv c.val v.toInt.natAbs
    band := max 1 (hvMv c.val band.toNat), dwell := dwell.toNat }

/-- A SET_HV in range is judged by the envelope and by the resource alone. -/
theorem hvCmd_judged {n : Fin 8} {s : State} {c : Fin 3} {en : Bool} {g : Byte} {v : BitVec 32} {band dwell : BitVec 16}
    (hg : g.toNat ≤ 10) (hpos : c = 2 → 0 ≤ v.toInt) (hneg : c ≠ 2 → v.toInt ≤ 0)
    (hfull : v.toInt.natAbs ≤ hvFull c.val) (hb : band ≠ 0)
    (hs : slotsBad s (fun y => { y with hv := y.hv.set c (some (hvCfgOf c en g v band dwell)) }) = false) :
    hvCmd n (hvPayload c en g v band dwell) s =
      judged n [(decide (s.envg.shadow.hvFb[c].toNat <
          (hvCfgOf c en g v band dwell).setp + (hvCfgOf c en g v band dwell).band), .envelope), (resBusy s n, .busy)]
        (configure n (storeCfg fun y => { y with hv := y.hv.set c (some (hvCfgOf c en g v band dwell)) })
          (fun s => loopsGo (applyHv c (hvCfgOf c en g v band dwell) s))) s := by
  obtain ⟨hl, f0, f1, f2, f3, f4, f5, f6⟩ := hvFields c en g v band dwell
  have hen : enPlogBad (hvPayload c en g v band dwell) = false := by
    rw [enPlogBad, f1, f2, decide_eq_false (enByte_le en), decide_eq_false (by omega)]
    rfl
  have hb' : band.toNat ≠ 0 := fun e => hb (BitVec.eq_of_toNat_eq e)
  have hsign : (if c.val = 2 then decide (v.toInt < 0) else decide (0 < v.toInt)) = false := by
    by_cases e : c = 2
    · have := hpos e
      rw [if_pos (show c.val = 2 from congrArg Fin.val e), decide_eq_false (by omega)]
    · have := hneg e
      rw [if_neg (show ¬ c.val = 2 from fun h => e (Fin.ext h)), decide_eq_false (by omega)]
  unfold hvCfgOf at hs ⊢
  unfold hvCmd
  simp only [f0, f1, f2, f4, f5, f6, lenNot_of_length hl, hen, reserved_of_zero f3, enByte_on, Fin.ofNat_val_eq_self,
    ofNat_toNat, hsign, hb', show ¬ 2 < c.val by omega, show ¬ hvFull c.val < v.toInt.natAbs by omega, hs, decide_false,
    Bool.not_true, Bool.or_self, judged_pass]

/-! ## SET_MOTOR -/

/-- The channel's source, position sensor and pole pairs are the configuration's where it does not stand still. -/
def motorFits (s : State) (k : Fin 6) (c : MotorCfg) : Prop :=
  s.motors[k].state ≠ .off → s.motors[k].src = c.src ∧ s.motors[k].pos = c.pos ∧ s.motors[k].pp.toNat = c.pp

/-- A SET_MOTOR in range and on a channel that may take it is judged by the envelope and by the resource alone. -/
theorem motorCmd_judged {n : Fin 8} {s : State} {k : Fin 6} {p : List Byte} (hk : fieldLe p 0 1 = k.val)
    (hbad : motorBad s p = false) (hfit : motorFits s k (motorOf p)) :
    motorCmd n p s =
      judged n [((decide ((motorOf p).src = 0) && decide (s.envg.shadow.mRpm[k].toNat < (motorOf p).speed))
          || decide (s.envg.shadow.mI[k].toNat < (motorOf p).iLimit) ||
          decide (s.envg.shadow.mI[k].toNat < (motorOf p).iPeak), .envelope), (resBusy s n, .busy)]
        (configure n (fun s => rdcFollow { s with sinov := { s.sinov with
            motor := s.sinov.motor.set k (some (motorOf p)) } }) (applyMotor k (motorOf p))) s := by
  have hmoved : (decide (s.motors[k].state ≠ .off) && (decide (s.motors[k].src ≠ (motorOf p).src)
      || decide (s.motors[k].pos ≠ (motorOf p).pos) || decide (s.motors[k].pp.toNat ≠ (motorOf p).pp))) = false := by
    by_cases e : s.motors[k].state = .off
    · rw [e]
      exact Bool.false_and _
    · obtain ⟨h1, h2, h3⟩ := hfit e
      rw [h1, h2, h3, decide_eq_false (not_not_intro rfl), decide_eq_false (not_not_intro rfl),
        decide_eq_false (not_not_intro rfl)]
      exact Bool.and_false _
  unfold motorCmd
  simp only [hk, Fin.ofNat_val_eq_self]
  rw [hbad, hmoved, judged_pass, judged_pass]

/-! ## MOTOR_STOP and SET_FABRIC -/

theorem stopCmd_passes {n : Fin 8} {s : State} {k : Fin 6} {mode : BitVec 2} (hm : mode ≠ 3) (h : resBusy s n = false) :
    stopCmd n [BitVec.ofNat 8 k.val, mode.setWidth 8, 0, 0] s =
      configure n (fun s => motStopOp k mode { s with sinov := { s.sinov with
        motor := vmod s.sinov.motor k (fun o => o.map fun c => { c with stopped := true, startDue := false }) } }) id s := by
  have f0 : fieldLe [BitVec.ofNat 8 k.val, mode.setWidth 8, 0, 0] 0 1 = k.val := by
    rw [fieldLe_cons_zero, toNat_ofNat_fin k (by decide)]
  have f1 : fieldLe [BitVec.ofNat 8 k.val, mode.setWidth 8, 0, 0] 1 1 = mode.toNat := by
    rw [fieldLe_cons_succ, fieldLe_cons_zero, BitVec.toNat_setWidth_of_le (by decide)]
  have f2 : fieldLe [BitVec.ofNat 8 k.val, mode.setWidth 8, 0, 0] 2 2 = 0 := rfl
  have hm2 : ¬ 2 < mode.toNat := fun hlt => hm (BitVec.eq_of_toNat_eq (by
    have := mode.isLt
    show mode.toNat = 3
    omega))
  have hl : lenNot [BitVec.ofNat 8 k.val, mode.setWidth 8, 0, 0] 4 = false := rfl
  unfold stopCmd
  simp only [f0, f1, hl, reserved_of_zero f2, hm2, h, show ¬ 5 < k.val by omega, decide_false, Bool.not_true,
    Bool.or_self, judged_pass, judged_run, Fin.ofNat_val_eq_self, ofNat_toNat]

theorem and_255_toNat (w : Word) : (w &&& 0xFF).toNat = w.toNat % 256 := by
  rw [BitVec.toNat_and]
  exact Nat.and_two_pow_sub_one_eq_mod w.toNat 8

/-- An allotment within the record's limits. -/
def Allotted (v e : BitVec 7) (s : State) : Prop :=
  e ≠ 0 ∧ v.toNat + e.toNat ≤ 64 ∧ (s.fabric.limits &&& 0xFF).toNat ≤ v.toNat ∧
    v.toNat ≤ ((s.fabric.limits >>> 8) &&& 0xFF).toNat ∧ ((s.fabric.limits >>> 16) &&& 0xFF).toNat ≤ e.toNat ∧
    e.toNat ≤ (s.fabric.limits >>> 24).toNat

theorem Allotted.bounds {v e : BitVec 7} {s : State} (h : Allotted v e s) :
    e.toNat ≠ 0 ∧ v.toNat + e.toNat ≤ 64 ∧ (s.fabric.limits >>> 0).toNat % 256 ≤ v.toNat ∧
      v.toNat ≤ (s.fabric.limits >>> 8).toNat % 256 ∧ (s.fabric.limits >>> 16).toNat % 256 ≤ e.toNat ∧
      e.toNat ≤ (s.fabric.limits >>> 24).toNat % 256 := by
  obtain ⟨h1, h2, h3, h4, h5, h6⟩ := h
  rw [and_255_toNat] at h3 h4 h5
  have hw : (s.fabric.limits >>> 24).toNat < 256 := by
    rw [BitVec.toNat_ushiftRight, Nat.shiftRight_eq_div_pow]
    have := s.fabric.limits.isLt
    omega
  refine ⟨fun e0 => h1 (BitVec.eq_of_toNat_eq e0), h2, ?_, h4, h5, ?_⟩
  · rwa [BitVec.ushiftRight_zero]
  · rwa [Nat.mod_eq_of_lt hw]

theorem setAllot_takes {v e : BitVec 7} {s : State} (h : Allotted v e s) :
    setAllot v e s = { s with fabric := { s.fabric with allotV := v, allotE := e, pending := true } } := by
  obtain ⟨h1, h2, h3, h4, h5, h6⟩ := h.bounds
  have he : e ≠ 0 := h.1
  unfold setAllot
  refine if_neg (not_or.mpr ⟨he, ?_⟩)
  simp only [Nat.mul_zero, Nat.reduceMul]
  omega

theorem fabricCmd_passes {n : Fin 8} {s : State} {v e : BitVec 7} (h : Allotted v e s) (hr : resBusy s n = false) :
    fabricCmd n [v.setWidth 8, e.setWidth 8, 0, 0] s = configure n (setAllot v e) id s := by
  obtain ⟨h1, h2, h3, h4, h5, h6⟩ := h.bounds
  have f0 : fieldLe [v.setWidth 8, e.setWidth 8, 0, 0] 0 1 = v.toNat := by
    rw [fieldLe_cons_zero, BitVec.toNat_setWidth_of_le (by decide)]
  have f1 : fieldLe [v.setWidth 8, e.setWidth 8, 0, 0] 1 1 = e.toNat := by
    rw [fieldLe_cons_succ, fieldLe_cons_zero, BitVec.toNat_setWidth_of_le (by decide)]
  have f2 : fieldLe [v.setWidth 8, e.setWidth 8, 0, 0] 2 2 = 0 := rfl
  have hl : lenNot [v.setWidth 8, e.setWidth 8, 0, 0] 4 = false := rfl
  unfold fabricCmd
  simp only [f0, f1, hl, reserved_of_zero f2, hr, h1, Nat.mul_zero, Nat.reduceMul, ofNat_toNat,
    decide_eq_false (show ¬ 64 < v.toNat + e.toNat by omega), decide_eq_false (Nat.not_lt.mpr h3), decide_eq_false (Nat.not_lt.mpr h4),
    decide_eq_false (Nat.not_lt.mpr h5), decide_eq_false (Nat.not_lt.mpr h6), decide_false, Bool.not_true, Bool.or_self,
    judged_pass, judged_run]

/-! ## An accepted configuration -/

theorem lapseAdmission_lapsed (s : State) : Lapsed s (lapseAdmission s) := by
  refine ⟨lapseAdmission_admission s, fun h => ?_, fun h => ?_, lapseAdmission_present s⟩
  · simp only [lapseAdmission, h, and_self]
  · obtain ⟨a, ha⟩ := Option.ne_none_iff_exists'.mp h
    simp only [lapseAdmission, ha]

/-- From s to t nothing changes that a reply, the end of an admission, or the memory depends on. -/
def ConfigOnly (s t : State) : Prop :=
  t.counters = s.counters ∧ t.mem = s.mem ∧ t.till = s.till ∧ t.hub = s.hub ∧ t.sinov.admission = s.sinov.admission

theorem ConfigOnly.trans {s t u : State} (h : ConfigOnly s t) (k : ConfigOnly t u) : ConfigOnly s u := by
  obtain ⟨h1, h2, h3, h4, h5⟩ := h
  obtain ⟨k1, k2, k3, k4, k5⟩ := k
  exact ⟨k1.trans h1, k2.trans h2, k3.trans h3, k4.trans h4, k5.trans h5⟩

theorem EngineOnly.configOnly {s t : State} (h : EngineOnly s t) : ConfigOnly s t := by
  obtain ⟨_, _, _, _, _, _, _, _, _, _, _, _, _, rfl⟩ := h
  exact ⟨rfl, rfl, rfl, rfl, rfl⟩

theorem Lapsed.configOnly {s x t : State} (h : Lapsed s x) (k : ConfigOnly x t) : Lapsed s t := by
  obtain ⟨h1, h2, h3, h4⟩ := h
  obtain ⟨-, -, ktill, khub, kadm⟩ := k
  unfold Lapsed
  rw [ktill, khub, kadm]
  exact ⟨h1, h2, h3, h4⟩

theorem answer_configOnly {n : Fin 8} {st : Status} (s : State) :
    (answer n st s).till = s.till ∧ (answer n st s).hub = s.hub ∧ (answer n st s).sinov = s.sinov := ⟨rfl, rfl, rfl⟩

/-- An accepted configuration is answered OK, ends the admission in hand, and changes no memory. -/
theorem configure_replies {n : Fin 8} {store apply : State → State} {s : State}
    (hstore : ConfigOnly (lapseAdmission s) (store (lapseAdmission s))) (happly : ∀ x, EngineOnly x (apply x)) :
    (configure n store apply s).counters = afterReply n .ok 0 [] s ∧ Lapsed s (configure n store apply s) ∧
      MemSame s (configure n store apply s) := by
  have hy : ConfigOnly (lapseAdmission s) (if (store (lapseAdmission s)).sys.mode = 2 then
      refreshAll (apply (store (lapseAdmission s))) else store (lapseAdmission s)) :=
    hstore.trans (EngineOnly.configOnly (.ite ((happly _).trans (engineOnly_refreshAll _)) (.refl _)))
  have ha := answer_answered n .ok (if (store (lapseAdmission s)).sys.mode = 2 then
      refreshAll (apply (store (lapseAdmission s))) else store (lapseAdmission s))
  have hl := (lapseAdmission_lapsed s).configOnly hy
  refine ⟨(congrArg State.counters ha).trans ?_, hl, memSame_of_mem ((congrArg State.mem ha.frame).trans (hy.2.1.trans (lapseAdmission_mem s)))⟩
  simp only [afterReply, hy.1, lapseAdmission_counters]

theorem configure_service {n : Fin 8} {store apply : State → State} {s : State}
    (h : (store (lapseAdmission s)).sys.mode ≠ 2) :
    configure n store apply s = answer n .ok (store (lapseAdmission s)) := by
  simp only [configure, if_neg h]

theorem configure_ready {n : Fin 8} {store apply : State → State} {s : State}
    (h : (store (lapseAdmission s)).sys.mode = 2) :
    configure n store apply s = answer n .ok (refreshAll (apply (store (lapseAdmission s)))) := by
  simp only [configure, if_pos h]

theorem lapseAdmission_sys (s : State) : (lapseAdmission s).sys = s.sys := by rw [lapseAdmission_frame]
theorem lapseAdmission_motors (s : State) : (lapseAdmission s).motors = s.motors := by rw [lapseAdmission_frame]
theorem lapseAdmission_fabric (s : State) : (lapseAdmission s).fabric = s.fabric := by rw [lapseAdmission_frame]
theorem lapseAdmission_motorCfg (s : State) : (lapseAdmission s).sinov.motor = s.sinov.motor := by rw [lapseAdmission_frame]

theorem refreshAll_motors (s : State) : (refreshAll s).motors = s.motors := by
  unfold refreshAll
  induction List.finRange 12 generalizing s with
  | nil => rfl
  | cons t l ih => exact ih (refreshTreq t s)

theorem refreshAll_sinov (s : State) : (refreshAll s).sinov = s.sinov := by
  unfold refreshAll
  induction List.finRange 12 generalizing s with
  | nil => rfl
  | cons t l ih => exact ih (refreshTreq t s)

theorem lapseAdmission_gatesBlocked (k : Fin 6) (s : State) : gatesBlocked (lapseAdmission s) k = gatesBlocked s k := by
  rw [lapseAdmission_frame]
  rfl

/-- What MOTOR_STOP changes beside the reply: the channel, and what Sinov notes of it. -/
theorem stop_stored {n : Fin 8} (k : Fin 6) (mode : BitVec 2) (s : State) :
    let store := fun s : State => motStopOp k mode { s with sinov := { s.sinov with
        motor := vmod s.sinov.motor k (fun o => o.map fun c => { c with stopped := true, startDue := false }) } }
    (configure n store id s).motors = s.motors.set k (beginStop (gatesBlocked s k) mode s.motors[k]) ∧
      (configure n store id s).sinov.motor =
        s.sinov.motor.set k (s.sinov.motor[k].map fun c => { c with stopped := true, startDue := false }) := by
  intro store
  have hm : (store (lapseAdmission s)).motors = s.motors.set k (beginStop (gatesBlocked s k) mode s.motors[k]) := by
    show vmod (lapseAdmission s).motors k (beginStop (gatesBlocked (lapseAdmission s) k) mode) = _
    rw [lapseAdmission_motors, lapseAdmission_gatesBlocked]
    rfl
  have hc : (store (lapseAdmission s)).sinov.motor =
      s.sinov.motor.set k (s.sinov.motor[k].map fun c => { c with stopped := true, startDue := false }) := by
    show vmod (lapseAdmission s).sinov.motor k _ = _
    rw [lapseAdmission_motorCfg]
    rfl
  by_cases h : (store (lapseAdmission s)).sys.mode = 2
  · rw [configure_ready h]
    exact ⟨(refreshAll_motors _).trans hm, (congrArg (fun x => x.motor) (refreshAll_sinov _)).trans hc⟩
  · rw [configure_service h]
    exact ⟨hm, hc⟩

/-- SERVICE alone lists SET_FABRIC (R115). -/
theorem mode_of_setFabric {n : Fin 8} {s : State} (h : Executes 0x0307 n s) : s.sys.mode = 1 := by
  obtain ⟨-, -, -, -, r, hr, -, hm⟩ := h
  obtain rfl : (⟨false, true, false, false⟩ : CmdRow) = r := Option.some.inj hr
  by_contra hne
  rw [modeOk_service hne] at hm
  exact Bool.false_ne_true hm

/-- Settles O14: above the envelope the judgement ends with ENVELOPE; MOTOR_STOP and SET_FABRIC pass and are stored. -/
theorem envelopeStopAndFabric : Obligations.EnvelopeStopAndFabric := by
  refine ⟨fun n s b en g power ceil delay x h hp hg hd hx hs hlt => ?_,
    fun n s en g a b band dwell duty x i h hp hg hb hdw hdu hx hs hlt => ?_,
    fun n s c en g v band dwell x h hp hg hpos hneg hfull hb hx hs hlt => ?_,
    fun n s k h hk hbad hfit hlt => ?_, fun n s k mode h hp hm hr => ?_,
    fun n s v e h hp h1 h2 h3 h4 h5 h6 hr => ?_⟩
  · subst hx
    have hcmd := laserCmd_judged (n := n) hg hd hs
    rw [decide_eq_true hlt, judged_fail] at hcmd
    exact ⟨_, (exec_of_frame (i := .setLaser n) rfl h rfl).trans (congrArg Host.Outcome.next (hp ▸ hcmd)),
      answer_answered n _ s⟩
  · subst hx
    have hcmd := fuserCmd_judged (n := n) hg hb hdw hdu hs
    have habove : (decide (s.envg.shadow.htrDuty[(0 : Fin 2)].toNat < duty.toNat) ||
        decide (s.envg.shadow.htrDuty[(1 : Fin 2)].toNat < duty.toNat)) = true := by
      rw [Bool.or_eq_true, decide_eq_true_iff, decide_eq_true_iff]
      match i, hlt with
      | 0, hlt => exact .inl hlt
      | 1, hlt => exact .inr hlt
    rw [habove, judged_fail] at hcmd
    exact ⟨_, (exec_of_frame (i := .setFuser n) rfl h rfl).trans (congrArg Host.Outcome.next (hp ▸ hcmd)),
      answer_answered n _ s⟩
  · subst hx
    have hcmd := hvCmd_judged (n := n) hg hpos hneg hfull hb hs
    have habove : s.envg.shadow.hvFb[c].toNat <
      (hvCfgOf c en g v band dwell).setp + (hvCfgOf c en g v band dwell).band := hlt
    rw [decide_eq_true habove, judged_fail] at hcmd
    exact ⟨_, (exec_of_frame (i := .setHv n) rfl h rfl).trans (congrArg Host.Outcome.next (hp ▸ hcmd)),
      answer_answered n _ s⟩
  · have hcmd := motorCmd_judged (n := n) hk hbad hfit
    have habove : ((decide ((motorOf (payload s n)).src = 0) &&
        decide (s.envg.shadow.mRpm[k].toNat < (motorOf (payload s n)).speed)) ||
        decide (s.envg.shadow.mI[k].toNat < (motorOf (payload s n)).iLimit) ||
        decide (s.envg.shadow.mI[k].toNat < (motorOf (payload s n)).iPeak)) = true := by
      simp only [Bool.or_eq_true, Bool.and_eq_true, decide_eq_true_iff, or_assoc]
      exact hlt
    rw [habove, judged_fail] at hcmd
    exact ⟨_, (exec_of_frame (i := .setMotor n) rfl h rfl).trans (congrArg Host.Outcome.next hcmd), answer_answered n _ s⟩
  · have hx : exec (.motorStop n) s = .next (configure n (fun s => motStopOp k mode { s with sinov := { s.sinov with
        motor := vmod s.sinov.motor k (fun o => o.map fun c => { c with stopped := true, startDue := false }) } }) id s) := by
      rw [exec_of_frame rfl h rfl, hp, stopCmd_passes hm hr]
    obtain ⟨hcnt, hl, hmem⟩ := configure_replies (n := n) (s := s) (store := fun s => motStopOp k mode { s with
      sinov := { s.sinov with motor := vmod s.sinov.motor k (fun o => o.map fun c =>
        { c with stopped := true, startDue := false }) } }) (apply := id) ⟨rfl, rfl, rfl, rfl, rfl⟩ EngineOnly.refl
    exact ⟨_, hx, hcnt, hl, hmem, (stop_stored k mode s).1, (stop_stored k mode s).2⟩
  · have hfit : Allotted v e s := ⟨h1, h2, h3, h4, h5, h6⟩
    have hstore : setAllot v e (lapseAdmission s) = { lapseAdmission s with
        fabric := { s.fabric with allotV := v, allotE := e, pending := true } } := by
      rw [setAllot_takes (by unfold Allotted; rw [lapseAdmission_fabric]; exact hfit), lapseAdmission_fabric]
    have hmode : (setAllot v e (lapseAdmission s)).sys.mode ≠ 2 := by
      rw [hstore]
      show (lapseAdmission s).sys.mode ≠ 2
      rw [lapseAdmission_sys, mode_of_setFabric h]
      decide
    have hx : exec (.setFabric n) s = .next (configure n (setAllot v e) id s) := by
      rw [exec_of_frame rfl h rfl, hp, fabricCmd_passes hfit hr]
    obtain ⟨hcnt, hl, hmem⟩ := configure_replies (n := n) (s := s) (store := setAllot v e) (apply := id)
      (by rw [hstore]; exact ⟨rfl, rfl, rfl, rfl, rfl⟩) EngineOnly.refl
    have ht : configure n (setAllot v e) id s = answer n .ok { lapseAdmission s with
        fabric := { s.fabric with allotV := v, allotE := e, pending := true } } := by
      rw [configure_service hmode, hstore]
    refine ⟨_, hx, hcnt, by rw [ht]; rfl, hl, ?_⟩
    rw [ht, lapseAdmission_frame]
    rfl

end Sys2Proof.Machine
end

section
/-! The engine configuration that is accepted (R122): it is stored, and in READY the engine's registers hold it with the
reply. -/

namespace Sys2Proof.Machine

theorem refreshAll_frame (s : State) : ∃ thr, refreshAll s = { s with sy := { s.sy with thr := thr } } := by
  unfold refreshAll
  induction List.finRange 12 generalizing s with
  | nil => exact ⟨_, rfl⟩
  | cons t l ih =>
    obtain ⟨thr, h⟩ := ih (refreshTreq t s)
    exact ⟨thr, h⟩

/-! ## Stored for READY -/

theorem lapseAdmission_eq (s : State) : ∃ adm wait rsv pres, lapseAdmission s = { s with
    sinov := { s.sinov with admission := adm, admitWait := wait }
    till := { s.till with rsv := rsv }, hub := { s.hub with present := pres } } :=
  ⟨_, _, _, _, lapseAdmission_frame s⟩

theorem mode_service {m : BitVec 2} (h : m = 1) : m ≠ 2 := by
  rw [h]
  decide

/-! ## Profiles -/

/-- The segments that a list of (segment, index) pairs stores, later ones over earlier ones. -/
theorem foldl_prSeg {p : Fin 8} (xs : List (BitVec 24)) (k : Nat) (s : State) (h : profFrozen s p = false)
    (hk : k + xs.length ≤ 64) :
    ∃ v : Vector (BitVec 24) 64,
      (xs.zipIdx k).foldl (fun s x => prSeg p (Fin.ofNat 64 x.2) x.1 s) s =
        { s with pix := { s.pix with seg24 := s.pix.seg24.set p v } } ∧
      ∀ j : Fin 64, v[j] = if k ≤ j.val then (xs[j.val - k]?).getD s.pix.seg24[p][j] else s.pix.seg24[p][j] := by
  induction xs generalizing k s with
  | nil =>
    refine ⟨s.pix.seg24[p], ?_, fun j => by simp⟩
    rw [List.zipIdx_nil, List.foldl_nil, Fin.getElem_fin, Vector.set_getElem_self]
  | cons x xs ih =>
    rw [List.length_cons] at hk
    have hone : prSeg p (Fin.ofNat 64 k) x s = { s with pix := { s.pix with
        seg24 := s.pix.seg24.set p (s.pix.seg24[p].set (Fin.ofNat 64 k) x) } } := by
      rw [prSeg, h]
      rfl
    obtain ⟨v, hv, hj⟩ := ih (k + 1) (prSeg p (Fin.ofNat 64 k) x s) (by rw [hone]; exact h) (by omega)
    refine ⟨v, ?_, fun j => ?_⟩
    · rw [List.zipIdx_cons, List.foldl_cons, hv, hone]
      simp only [Vector.set_set]
    · have hold : (prSeg p (Fin.ofNat 64 k) x s).pix.seg24[p][j] = if j.val = k then x else s.pix.seg24[p][j] := by
        rw [hone]
        simp only [Fin.getElem_fin, Vector.getElem_set_self, Fin.val_ofNat, Vector.getElem_set, Nat.mod_eq_of_lt (show k < 64 by omega),
          eq_comm (a := k)]
      rw [hj j, hold]
      by_cases h1 : j.val = k
      · rw [if_neg (by omega), if_pos h1, if_pos (by omega), show j.val - k = 0 by omega]
        rfl
      · rw [if_neg h1]
        by_cases h2 : k + 1 ≤ j.val
        · rw [if_pos h2, if_pos (by omega), show j.val - k = (j.val - (k + 1)) + 1 by omega, List.getElem?_cons_succ]
        · rw [if_neg h2, if_neg (by omega)]

theorem profSegments_length (p : List Byte) : (profSegments p).length = fieldLe p 1 1 := by
  rw [profSegments, List.length_map, List.length_range]

/-- A profile applied: its length and its segments stand in the registers. -/
theorem applyProfile_segments {p : Fin 8} {xs : List (BitVec 24)} {s : State} (h : profFrozen s p = false)
    (hk : xs.length ≤ 64) :
    (applyProfile p xs s).pix.segs[p].toNat = xs.length ∧
      ∀ (j : Fin 64) (x : BitVec 24), xs[j.val]? = some x → (applyProfile p xs s).pix.seg24[p][j] = x := by
  obtain ⟨v, hv, hj⟩ := foldl_prSeg xs 0 s h (by omega)
  have hfroz : profFrozen { s with pix := { s.pix with seg24 := s.pix.seg24.set p v } } p = false := h
  have happ : applyProfile p xs s = { s with pix := { s.pix with
      seg24 := s.pix.seg24.set p v, segs := s.pix.segs.set p (BitVec.ofNat 32 xs.length &&& 0x7F) } } := by
    unfold applyProfile
    rw [hv, prSegs, hfroz]
    rfl
  have hlen : (BitVec.ofNat 32 xs.length &&& 0x7F).toNat = xs.length := by
    rw [BitVec.toNat_and, BitVec.toNat_ofNat, Nat.mod_eq_of_lt (by omega)]
    exact (Nat.and_two_pow_sub_one_eq_mod xs.length 7).trans (Nat.mod_eq_of_lt (by omega))
  rw [happ]
  refine ⟨?_, fun j x hx => ?_⟩
  · simpa using hlen
  · have hvj := hj j
    rw [if_pos (Nat.zero_le _), Nat.sub_zero, hx, Option.getD_some] at hvj
    simpa using hvj

/-! ## Motors -/

/-- The registers of a channel hold what a SET_MOTOR asked for. -/
def MotorHolds (c : MotorCfg) (m : Motor) : Prop :=
  m.en = true ∧ m.accel = BitVec.ofNat 24 c.accel ∧ m.decel = BitVec.ofNat 24 c.decel ∧
    m.ilimReq = BitVec.ofNat 16 c.iLimit ∧ (c.src = 0 → m.speedReq = BitVec.ofNat 16 c.speed)

theorem motCtrlWord_en (c : MotorCfg) : (motCtrlWord c).getLsbD 0 = true := by
  simp [motCtrlWord]

theorem bitAt_getLsbD (b : Bool) (i j : Nat) : (bitAt b i).getLsbD j = (b && decide (i = j) && decide (j < 32)) := by
  cases b
  · simp [bitAt]
  · by_cases h : i = j
    · subst h
      simp [bitAt, BitVec.getLsbD_twoPow]
    · simp [bitAt, BitVec.getLsbD_twoPow, h]

theorem motCtrlWord_src (c : MotorCfg) : (bits (motCtrlWord c) 4 2 : BitVec 2) = c.src := by
  refine BitVec.eq_of_getLsbD_eq fun i hi => ?_
  have hone : (1 : Word).getLsbD (4 + i) = false := by
    rw [show (1 : Word) = 1#32 from rfl, BitVec.getLsbD_one, decide_eq_false (show ¬ 4 + i = 0 by omega), Bool.and_false]
  have hpp : (c.pp % 32 * 65536).testBit (4 + i) = false := by
    rw [show 65536 = 2 ^ 16 by decide, Nat.mul_comm, Nat.testBit_two_pow_mul, decide_eq_false (by omega)]
    rfl
  simp only [bits, motCtrlWord, fieldAt, BitVec.getLsbD_setWidth, BitVec.getLsbD_or, BitVec.getLsbD_ushiftRight,
    BitVec.getLsbD_shiftLeft, bitAt_getLsbD, BitVec.getLsbD_ofNat, hpp, hone, hi, show 4 + i < 32 by omega,
    show ¬ 4 + i < 4 by omega, show ¬ 8 = 4 + i by omega, show ¬ 9 = 4 + i by omega,
    show ¬ 10 = 4 + i by omega, show 4 + i < 12 by omega, show i < 32 by omega, Nat.add_sub_cancel_left, decide_true,
    decide_false, Bool.not_true, Bool.not_false, Bool.true_and, Bool.and_true, Bool.and_false, Bool.false_and, Bool.or_false,
    Bool.false_or]

theorem dumpFollow_motors (s : State) : (dumpFollow s).motors = s.motors := by
  unfold dumpFollow
  split <;> rfl

/-- MOT_CTRL of a configuration enables the channel, which then has the configuration's source. -/
theorem motCtrl_holds {k : Fin 6} {c : MotorCfg} {s : State} (h : s.motors[k].state ≠ .off → s.motors[k].src = c.src) :
    (motCtrl k (motCtrlWord c) s).motors[k].en = true ∧ (motCtrl k (motCtrlWord c) s).motors[k].src = c.src := by
  have hm : (motCtrl k (motCtrlWord c) s).motors[k] = { (if s.motors[k].state = .off then
      motSrc c.src { s.motors[k] with
        stopMode := (motCtrlWord c).getLsbD 8, dumpEn := (motCtrlWord c).getLsbD 9, page := (motCtrlWord c).getLsbD 10
        pos := bits (motCtrlWord c) 12 2, pp := bits (motCtrlWord c) 16 5 }
      else s.motors[k]) with en := true } := by
    unfold motCtrl
    rw [dumpFollow_motors, motMod]
    dsimp only
    rw [vmod_same, motCtrlWord_en, motCtrlWord_src, if_pos rfl]
  rw [hm]
  refine ⟨rfl, ?_⟩
  split
  · unfold motSrc
    split
    · assumption
    · rfl
  · exact h ‹_›

theorem motCurcfg_keeps (k : Fin 6) (v : Word) (s : State) :
    (motCurcfg k v s).motors[k].en = s.motors[k].en ∧ (motCurcfg k v s).motors[k].src = s.motors[k].src := by
  unfold motCurcfg motMod
  dsimp only
  rw [vmod_same]
  split <;> exact ⟨rfl, rfl⟩

theorem motorWrite_holds {k : Fin 6} {c : MotorCfg} {s : State} (h : s.motors[k].state ≠ .off → s.motors[k].src = c.src) :
    MotorHolds c (motorWrite k c s).motors[k] := by
  obtain ⟨hen, hsrc⟩ := motCtrl_holds h
  obtain ⟨hen', hsrc'⟩ := motCurcfg_keeps k (((motCtrl k (motCtrlWord c) s).motors[k].curcfg &&& 0xFF00) |||
    BitVec.ofNat 32 (gainCode (motCtrl k (motCtrlWord c) s).envg.shadow.mI[k].toNat) ||| 0x6428_0000)
    (motCtrl k (motCtrlWord c) s)
  rw [hen] at hen'
  rw [hsrc] at hsrc'
  unfold motorWrite
  dsimp only [motMod]
  rw [vmod_same, vmod_same]
  exact ⟨hen', rfl, rfl, rfl, fun e => if_pos (hsrc'.trans e)⟩

/-- Starting a channel leaves the registers of its configuration. -/
theorem motStartOp_motor (k : Fin 6) (s : State) :
    ∃ st icmd, (motStartOp k s).motors[k] = { s.motors[k] with state := st, icmd := icmd } := by
  unfold motStartOp
  dsimp only
  split
  · split
    · exact ⟨.run, s.motors[k].icmd, vmod_same _ _ _⟩
    · exact ⟨_, _, vmod_same _ _ _⟩
  · exact ⟨_, _, rfl⟩

theorem motorRun_motor (k : Fin 6) (c : MotorCfg) (s : State) :
    ∃ st icmd al, (motorRun k c s).motors[k] = { s.motors[k] with state := st, icmd := icmd, alignOnly := al } := by
  unfold motorRun
  dsimp only
  split
  · exact ⟨_, _, _, rfl⟩
  · split
    · exact ⟨_, _, _, rfl⟩
    · split
      · obtain ⟨st, icmd, hm⟩ := motStartOp_motor k (setStartDue k false s)
        refine ⟨st, icmd, c.page && decide (st = .align), ?_⟩
        rw [motMod]
        dsimp only
        rw [vmod_same, hm]
        rfl
      · exact ⟨_, _, _, rfl⟩

theorem applyMotor_holds {k : Fin 6} {c : MotorCfg} {s : State} (h : s.motors[k].state ≠ .off → s.motors[k].src = c.src) :
    MotorHolds c (applyMotor k c s).motors[k] := by
  have hw : MotorHolds c (rdcFollow (motorWrite k c s)).motors[k] := motorWrite_holds h
  unfold applyMotor
  dsimp only
  split
  · obtain ⟨st, icmd, al, hm⟩ := motorRun_motor k c (rdcFollow (motorWrite k c s))
    rw [hm]
    exact hw
  · exact hw

/-- A channel's start may be noted as due, or not. -/
def MotorNoted (k : Fin 6) (s t : State) : Prop :=
  t.sinov.motor = s.sinov.motor ∨
    ∃ b, t.sinov.motor = vmod s.sinov.motor k fun o => o.map fun c => { c with startDue := b }

theorem dumpFollow_sinov (s : State) : (dumpFollow s).sinov = s.sinov := by
  unfold dumpFollow
  split <;> rfl

theorem motorWrite_sinov (k : Fin 6) (c : MotorCfg) (s : State) : (motorWrite k c s).sinov = s.sinov := by
  unfold motorWrite motCurcfg motCtrl
  dsimp only
  rw [motMod_sinov, motMod_sinov, motMod_sinov, dumpFollow_sinov, motMod_sinov]

theorem motStartOp_sinov (k : Fin 6) (s : State) : (motStartOp k s).sinov = s.sinov := by
  unfold motStartOp
  dsimp only
  split
  · split <;> rfl
  · rfl

theorem motorRun_noted (k : Fin 6) (c : MotorCfg) (s : State) : MotorNoted k s (motorRun k c s) := by
  unfold motorRun
  dsimp only
  split
  · exact .inr ⟨false, rfl⟩
  · split
    · exact .inr ⟨false, rfl⟩
    · split
      · exact .inr ⟨false, congrArg (fun x => x.motor) (motStartOp_sinov k (setStartDue k false s))⟩
      · exact .inr ⟨true, rfl⟩

theorem applyMotor_noted (k : Fin 6) (c : MotorCfg) (s : State) : MotorNoted k s (applyMotor k c s) := by
  have hw : (rdcFollow (motorWrite k c s)).sinov = s.sinov := motorWrite_sinov k c s
  unfold applyMotor
  dsimp only
  split
  · have := motorRun_noted k c (rdcFollow (motorWrite k c s))
    unfold MotorNoted at this ⊢
    rwa [hw] at this
  · exact .inl (congrArg (fun x => x.motor) hw)

/-- Whether a start is due is all that the apply adds to the stored configuration. -/
theorem MotorNoted.stored {k : Fin 6} {c : MotorCfg} {v : Vector (Option MotorCfg) 6} {s t : State}
    (h : MotorNoted k s t) (hs : s.sinov.motor = v.set k (some c)) :
    ∃ due, t.sinov.motor = v.set k (some { c with startDue := due }) := by
  rcases h with h | ⟨b, h⟩
  · exact ⟨c.startDue, h.trans hs⟩
  · refine ⟨b, ?_⟩
    rw [h, hs]
    simp [vmod]

/-! ## Loops -/

/-- A loop's registers hold a configuration. -/
def LoopHolds (en : Bool) (plog : BitVec 4) (setp band : Word) (dwell : Nat) (l : Loop) : Prop :=
  l.en = en ∧ l.plog = plog ∧ l.setp = setp ∧ l.band = band ∧ l.dwell = BitVec.ofNat 27 dwell

theorem loopWrite_self (n : Fin 32) (fresh en : Bool) (plog : BitVec 4) (setp band : Word) (dwell : Nat)
    (f : Loop → Loop) (s : State) :
    ∃ o d c z, (loopWrite n fresh en plog setp band dwell f s).loops.loops[n] =
      { f { s.loops.loops[n] with en := en, plog := plog, setp := setp, band := band } with
        dwell := BitVec.ofNat 27 dwell, out := o, dwellRun := d, changed := c, zone := z } := by
  unfold loopWrite loopModPin withEdges loopMod
  dsimp only
  rw [vmod_same]
  split
  · exact ⟨_, _, _, _, rfl⟩
  · exact ⟨_, _, _, _, rfl⟩

theorem loopWrite_other {n i : Fin 32} (h : i ≠ n) (fresh en : Bool) (plog : BitVec 4) (setp band : Word) (dwell : Nat)
    (f : Loop → Loop) (s : State) :
    (loopWrite n fresh en plog setp band dwell f s).loops.loops[i] = s.loops.loops[i] :=
  vmod_other s.loops.loops n i _ h

/-- Committing the schedule leaves each loop's configuration. -/
theorem loopsGo_loop (s : State) (i : Fin 32) :
    ∃ a b c, (loopsGo s).loops.loops[i] = { s.loops.loops[i] with comEn := a, comPlog := b, phase := c } := by
  unfold loopsGo leCommit
  dsimp only
  split
  · exact ⟨_, _, _, rfl⟩
  · exact ⟨_, _, _, Vector.getElem_ofFn _⟩

theorem loopsGo_frame (s : State) : ∃ l, loopsGo s = { s with loops := l } := by
  unfold loopsGo leCommit
  dsimp only
  split <;> exact ⟨_, rfl⟩

theorem LoopHolds.loopsGo {en : Bool} {plog : BitVec 4} {setp band : Word} {dwell : Nat} {s : State} {i : Fin 32}
    (h : LoopHolds en plog setp band dwell s.loops.loops[i]) :
    LoopHolds en plog setp band dwell (loopsGo s).loops.loops[i] := by
  obtain ⟨a, b, c, e⟩ := loopsGo_loop s i
  rw [e]
  exact h

theorem loopWrite_holds (n : Fin 32) (fresh en : Bool) (plog : BitVec 4) (setp band : Word) (dwell : Nat) (s : State) :
    LoopHolds en plog setp band dwell (loopWrite n fresh en plog setp band dwell id s).loops.loops[n] := by
  obtain ⟨o, d, c, z, e⟩ := loopWrite_self n fresh en plog setp band dwell id s
  rw [e]
  exact ⟨rfl, rfl, rfl, rfl, rfl⟩

/-- A SET_LOOP applied. -/
theorem applyLoop_holds (k : Fin 32) (c : LoopCfg) (s : State) :
    let l := (loopsGo (applyLoop false k c s)).loops.loops[k]
    LoopHolds c.en c.plog c.setp c.band c.dwell l ∧ l.insel = c.insel ∧ l.outsel = c.outsel ∧ l.inv = c.inv := by
  obtain ⟨x, y, w, e⟩ := loopsGo_loop (applyLoop false k c s) k
  obtain ⟨o, d, ch, z, e'⟩ := loopWrite_self k false c.en c.plog c.setp c.band c.dwell
    (fun l => { l with insel := c.insel, outsel := c.outsel, inv := c.inv }) s
  dsimp only
  rw [e, show (applyLoop false k c s).loops.loops[k] = _ from e']
  exact ⟨⟨rfl, rfl, rfl, rfl, rfl⟩, rfl, rfl, rfl⟩

/-! ## High voltage, fuser and lasers -/

theorem applyHv_holds (c : Fin 3) (h : HvCfg) (s : State) :
    (applyHv c h s).hv.en = setBit s.hv.en c.val h.en ∧
      (applyHv c h s).loops = (loopWrite (Fin.ofNat 32 (2 + c.val)) (s.outHold.hv.getLsbD c.val) h.en h.plog
        (BitVec.ofNat 32 h.setp) (BitVec.ofNat 32 h.band) h.dwell id s).loops := by
  unfold applyHv
  dsimp only
  split <;> exact ⟨rfl, rfl⟩

/-- Stopping heaters leaves the enables and the requested duty. -/
def FuserRegs (s t : State) : Prop := t.fuser.en = s.fuser.en ∧ t.fuser.dutyReq = s.fuser.dutyReq ∧ t.loops = s.loops

theorem heaterStop_regs (h : Fin 2) (s : State) : FuserRegs s (heaterStop h s) := by
  unfold heaterStop
  dsimp only
  split <;> exact ⟨rfl, rfl, rfl⟩

theorem heaterFollow_regs (h : Fin 2) (s : State) : FuserRegs s (heaterFollow h s) := by
  unfold heaterFollow
  split
  · exact ⟨rfl, rfl, rfl⟩
  · exact heaterStop_regs h s

theorem FuserRegs.trans {s t u : State} (h : FuserRegs s t) (k : FuserRegs t u) : FuserRegs s u :=
  ⟨k.1.trans h.1, k.2.1.trans h.2.1, k.2.2.trans h.2.2⟩

theorem fuCtrl_regs (v : Word) (s : State) :
    FuserRegs { s with fuser := { s.fuser with en := v.setWidth 2 } } (fuCtrl v s) := by
  have hite : ∀ (b : Bool) (h : Fin 2) (x : State), FuserRegs x
      (if b = true then x else if x.fuser.htr[h].diagDuty.isSome = true then x else heaterStop h x) := fun b h x => by
    split
    · exact ⟨rfl, rfl, rfl⟩
    · split
      · exact ⟨rfl, rfl, rfl⟩
      · exact heaterStop_regs h x
  exact (hite _ 0 _).trans (hite _ 1 _)

theorem applyFuser_regs (f : FuserCfg) (s : State) (hd : f.duty ≤ 1000) :
    (applyFuser f s).fuser.en = f.en ∧ (applyFuser f s).fuser.dutyReq.toNat = f.duty ∧
      (applyFuser f s).loops.loops[(0 : Fin 32)].setp = BitVec.ofNat 32 f.set0 ∧
      (applyFuser f s).loops.loops[(1 : Fin 32)].setp = BitVec.ofNat 32 f.set1 ∧
      (applyFuser f s).loops.loops[(0 : Fin 32)].band = BitVec.ofNat 32 f.band ∧
      (applyFuser f s).loops.loops[(1 : Fin 32)].band = BitVec.ofNat 32 f.band := by
  unfold applyFuser
  extract_lets w s₁ s₂
  have h1 := (heaterFollow_regs 1 (w 1 f.set1 (w 0 f.set0 s))).trans (heaterFollow_regs 0 _)
  have h2 := fuCtrl_regs (f.en.setWidth 32) s₁
  have hduty : (bits (BitVec.ofNat 32 f.duty) 0 10 : BitVec 10).toNat = f.duty := by
    rw [bits, BitVec.ushiftRight_zero, BitVec.toNat_setWidth, BitVec.toNat_ofNat]
    omega
  have hback : ((f.en.setWidth 32).setWidth 2 : BitVec 2) = f.en := by simp
  have hloops : s₂.loops = (w 1 f.set1 (w 0 f.set0 s)).loops := h2.2.2.trans h1.2.2
  have hen : s₂.fuser.en = f.en := h2.1.trans hback
  have hreq : s₂.fuser.dutyReq.toNat = f.duty := by
    have : s₂.fuser.dutyReq = bits (BitVec.ofNat 32 f.duty) 0 10 := if_neg (by rw [hduty]; omega)
    rw [this, hduty]
  have hw1 : LoopHolds (f.en.getLsbD 1) f.plog (BitVec.ofNat 32 f.set1) (BitVec.ofNat 32 f.band) (f.dwell * 1000)
      s₂.loops.loops[(1 : Fin 32)] := by
    rw [hloops]
    exact loopWrite_holds 1 _ _ _ _ _ _ _
  have hw0 : LoopHolds (f.en.getLsbD 0) f.plog (BitVec.ofNat 32 f.set0) (BitVec.ofNat 32 f.band) (f.dwell * 1000)
      s₂.loops.loops[(0 : Fin 32)] := by
    rw [hloops, show (w 1 f.set1 (w 0 f.set0 s)).loops.loops[(0 : Fin 32)] = (w 0 f.set0 s).loops.loops[(0 : Fin 32)] from
      loopWrite_other (by decide) _ _ _ _ _ _ _ _]
    exact loopWrite_holds 0 _ _ _ _ _ _ _
  obtain ⟨-, -, h0s, h0b, -⟩ := hw0
  obtain ⟨-, -, h1s, h1b, -⟩ := hw1
  split <;> exact ⟨hen, hreq, h0s, h1s, h0b, h1b⟩

theorem bmField_ceilReq {f : BeamUnit → BeamUnit} {s : State} {b : Fin 4}
    (h : ∀ x : BeamUnit, (f x).ld[b].ceilReq = x.ld[b].ceilReq) : (bmField f s).beam.ld[b].ceilReq = s.beam.ld[b].ceilReq := by
  unfold bmField
  split
  · rfl
  · exact h s.beam

theorem bmField_loops (f : BeamUnit → BeamUnit) (s : State) : (bmField f s).loops = s.loops := by
  unfold bmField
  split <;> rfl

theorem applyLaser_regs (b : Fin 4) (c : LaserCfg) (s : State) :
    (applyLaser b c s).beam.ld[b].ceilReq = BitVec.ofNat 11 c.iCeil ∧
      LoopHolds c.en c.plog (BitVec.ofNat 32 (c.power / 10)) (BitVec.ofNat 32 (c.power / 10 / 32)) 0
        (applyLaser b c s).loops.loops[Fin.ofNat 32 (5 + b.val)] := by
  unfold applyLaser
  extract_lets was setp s₁ s₂ s₃ s₄
  have hceil : (bmCeilReq b (BitVec.ofNat 11 c.iCeil) s₂).beam.ld[b].ceilReq = BitVec.ofNat 11 c.iCeil :=
    congrArg LaserBeam.ceilReq (vmod_same _ _ _)
  have hdelay : s₃.beam.ld[b].ceilReq = BitVec.ofNat 11 c.iCeil ∧ s₃.loops = s₂.loops := by
    simp only [s₃, bmDelay]
    split
    · exact ⟨hceil, rfl⟩
    · refine ⟨(bmField_ceilReq fun x => ?_).trans hceil, bmField_loops _ _⟩
      rw [vmod_same]
  have hdrive : s₄.beam.ld[b].ceilReq = BitVec.ofNat 11 c.iCeil ∧ s₄.loops = s₂.loops := by
    simp only [s₄]
    split
    · unfold bmDrive
      refine ⟨(bmField_ceilReq fun x => ?_).trans hdelay.1, (bmField_loops _ _).trans hdelay.2⟩
      rw [vmod_same]
    · exact hdelay
  have hloop : LoopHolds c.en c.plog (BitVec.ofNat 32 (c.power / 10)) (BitVec.ofNat 32 (c.power / 10 / 32)) 0
      s₄.loops.loops[Fin.ofNat 32 (5 + b.val)] := by
    rw [hdrive.2]
    exact loopWrite_holds _ _ _ _ _ _ _ _
  split <;> exact ⟨hdrive.1, hloop⟩

theorem fin_two_add (c : Fin 3) (i : Fin 32) (h : i.val = 2 + c.val) : i = Fin.ofNat 32 (2 + c.val) :=
  Fin.ext (by rw [Fin.val_ofNat, h]; omega)

theorem fin_five_add (b : Fin 4) (i : Fin 32) (h : i.val = 5 + b.val) : i = Fin.ofNat 32 (5 + b.val) :=
  Fin.ext (by rw [Fin.val_ofNat, h]; omega)

/-! ## SET_FACET_PROFILE and SET_LOOP pass -/

theorem profileCmd_passes {n : Fin 8} {s : State} {i : Fin 8} {p : List Byte} (h0 : fieldLe p 0 1 = i.val)
    (h1 : 1 ≤ fieldLe p 1 1) (h2 : fieldLe p 1 1 ≤ 64) (h3 : p.length = 8 + 3 * fieldLe p 1 1) (h4 : fieldLe p 2 6 = 0)
    (h5 : profBad (profSegments p) = false) (h6 : resBusy s n = false) (h7 : profFrozen s i = false) :
    profileCmd n p s = configure n (storeCfg fun v => { v with profile := v.profile.set i (some (profSegments p)) })
      (applyProfile i (profSegments p)) s := by
  unfold profileCmd storeCfg
  simp only [h0, lenNot_of_length h3, reserved_of_zero h4, h5, h6, h7, Fin.ofNat_val_eq_self,
    show ¬ 7 < i.val by omega, show ¬ fieldLe p 1 1 = 0 by omega, show ¬ 64 < fieldLe p 1 1 by omega, decide_false,
    Bool.not_true, Bool.or_self, judged_pass, judged_run]

theorem loopCmd_passes {n : Fin 8} {s : State} {i : Fin 32} {p : List Byte} (h0 : fieldLe p 0 1 = i.val)
    (h1 : 9 ≤ i.val) (h2 : p.length = 16) (h3 : enPlogBad p = false) (h4 : fieldLe p 3 1 = 0) (h5 : (loopOf p).band ≠ 0)
    (h6 : (loopOf p).insel.toNat ≤ 35) (h7 : (loopOf p).outsel.toNat ≤ 16)
    (h8 : outTaken s i.val (loopOf p).outsel = false)
    (h9 : slotsBad s (fun v => { v with loop := v.loop.set i (some (loopOf p)) }) = false) (h10 : resBusy s n = false) :
    loopCmd n p s = configure n (storeCfg fun v => { v with loop := v.loop.set i (some (loopOf p)) })
      (fun s => loopsGo (applyLoop false i (loopOf p) s)) s := by
  unfold loopCmd
  simp only [h0, lenNot_of_length h2, h3, reserved_of_zero h4, h5, h8, h9, h10, Fin.ofNat_val_eq_self,
    show ¬ i.val < 9 by omega, show ¬ 31 < i.val by omega, show ¬ 35 < (loopOf p).insel.toNat by omega,
    show ¬ 16 < (loopOf p).outsel.toNat by omega, decide_false, Bool.not_true, Bool.or_self, judged_pass, judged_run]

/-! ## What an accepted configuration leaves -/

/-- A configuration that Sinov stores and in READY applies: the reply, the end of the admission, no memory changed, and in
SERVICE nothing else. -/
theorem configure_stores (n : Fin 8) {f : Sinov → Sinov} {apply : State → State} (s : State)
    (hadm : ∀ v, (f v).admission = v.admission) (ha : ∀ x, EngineOnly x (apply x)) :
    (configure n (storeCfg f) apply s).counters = afterReply n .ok 0 [] s ∧
      Lapsed s (configure n (storeCfg f) apply s) ∧ MemSame s (configure n (storeCfg f) apply s) ∧
      (s.sys.mode = 1 → StoredOnly s (configure n (storeCfg f) apply s)) := by
  obtain ⟨hcnt, hl, hmem⟩ := configure_replies (n := n) (s := s) (store := storeCfg f) (apply := apply)
    ⟨rfl, rfl, rfl, rfl, hadm _⟩ ha
  refine ⟨hcnt, hl, hmem, fun hm => ⟨hl, ?_⟩⟩
  have hmode : (storeCfg f (lapseAdmission s)).sys.mode ≠ 2 :=
    mode_service ((congrArg (fun x => x.mode) (lapseAdmission_sys s)).trans hm)
  rw [configure_service hmode]
  obtain ⟨adm, wait, rsv, pres, e⟩ := lapseAdmission_eq s
  rw [e]
  rfl

/-- The engine's registers of t are those of y. -/
def SameRegisters (y t : State) : Prop :=
  t.pix = y.pix ∧ t.motors = y.motors ∧ t.loops = y.loops ∧ t.hv = y.hv ∧ t.fuser = y.fuser ∧ t.beam = y.beam ∧
    t.outHold = y.outHold

/-- In READY the registers are those of the configuration applied. -/
theorem configure_registers (n : Fin 8) {store apply : State → State} {s : State}
    (hm : (store (lapseAdmission s)).sys.mode = 2) :
    SameRegisters (apply (store (lapseAdmission s))) (configure n store apply s) := by
  obtain ⟨thr, e⟩ := refreshAll_frame (apply (store (lapseAdmission s)))
  rw [configure_ready hm, e]
  exact ⟨rfl, rfl, rfl, rfl, rfl, rfl, rfl⟩

theorem storeCfg_ready {f : Sinov → Sinov} {s : State} (h : s.sys.mode = 2) :
    (storeCfg f (lapseAdmission s)).sys.mode = 2 := (congrArg (fun x => x.mode) (lapseAdmission_sys s)).trans h

/-- What Sinov stores stands unless the apply notes a start. -/
theorem configure_sinov (n : Fin 8) {store apply : State → State} (s : State) (ha : ∀ x, (apply x).sinov = x.sinov) :
    (configure n store apply s).sinov = (store (lapseAdmission s)).sinov := by
  by_cases hm : (store (lapseAdmission s)).sys.mode = 2
  · rw [configure_ready hm]
    exact (refreshAll_sinov _).trans (ha _)
  · rw [configure_service hm]
    rfl

theorem loopsGo_sinov (s : State) : (loopsGo s).sinov = s.sinov := by
  obtain ⟨l, e⟩ := loopsGo_frame s
  rw [e]

theorem engineOnly_then_loopsGo {f : State → State} (h : ∀ x, EngineOnly x (f x)) (x : State) :
    EngineOnly x (loopsGo (f x)) := (h x).trans (engineOnly_loopsGo _)

theorem applyHv_sinov (c : Fin 3) (h : HvCfg) (s : State) : (applyHv c h s).sinov = s.sinov := by
  unfold applyHv
  dsimp only
  split <;> rfl

theorem heaterStop_sinov (h : Fin 2) (s : State) : (heaterStop h s).sinov = s.sinov := by
  unfold heaterStop
  dsimp only
  split <;> rfl

theorem heaterFollow_sinov (h : Fin 2) (s : State) : (heaterFollow h s).sinov = s.sinov := by
  unfold heaterFollow
  split
  · rfl
  · exact heaterStop_sinov h s

theorem fuCtrl_sinov (v : Word) (s : State) : (fuCtrl v s).sinov = s.sinov := by
  have hite : ∀ (b : Bool) (h : Fin 2) (x : State),
      (if b = true then x else if x.fuser.htr[h].diagDuty.isSome = true then x else heaterStop h x).sinov = x.sinov := fun b h x => by
    split
    · rfl
    · split
      · rfl
      · exact heaterStop_sinov h x
  exact (hite _ 1 _).trans (hite _ 0 _)

theorem applyFuser_sinov (f : FuserCfg) (s : State) : (applyFuser f s).sinov = s.sinov := by
  unfold applyFuser
  extract_lets w s₁ s₂
  have h1 : s₁.sinov = s.sinov := (heaterFollow_sinov 0 _).trans (heaterFollow_sinov 1 _)
  have h2 : s₂.sinov = s₁.sinov := fuCtrl_sinov _ s₁
  split <;> exact h2.trans h1

theorem bmField_sinov (f : BeamUnit → BeamUnit) (s : State) : (bmField f s).sinov = s.sinov := by
  unfold bmField
  split <;> rfl

theorem applyLaser_sinov (b : Fin 4) (c : LaserCfg) (s : State) : (applyLaser b c s).sinov = s.sinov := by
  unfold applyLaser
  extract_lets was setp s₁ s₂ s₃ s₄
  have h1 : s₁.sinov = s.sinov := bmField_sinov _ s
  have h3 : s₃.sinov = s₂.sinov := by
    simp only [s₃, bmDelay]
    split
    · rfl
    · exact bmField_sinov _ _
  have h4 : s₄.sinov = s₃.sinov := by
    simp only [s₄]
    split
    · exact bmField_sinov _ _
    · rfl
  have h5 : s₂.sinov = s₁.sinov := rfl
  split <;> exact h4.trans (h3.trans (h5.trans h1))

theorem applyProfile_sinov (p : Fin 8) (xs : List (BitVec 24)) (s : State) : (applyProfile p xs s).sinov = s.sinov := by
  have hseg : ∀ (l : List (BitVec 24 × Nat)) (x : State),
      (l.foldl (fun s x => prSeg p (Fin.ofNat 64 x.2) x.1 s) x).sinov = x.sinov := fun l => by
    induction l with
    | nil => exact fun x => rfl
    | cons a l ih =>
      intro x
      refine (ih _).trans ?_
      dsimp only [prSeg]
      split <;> rfl
  have hsegs : ∀ (v : Word) (x : State), (prSegs p v x).sinov = x.sinov := fun v x => by
    unfold prSegs
    split <;> rfl
  exact (hsegs _ _).trans (hseg _ _)

/-- The registers of a SET_LOOP in READY. -/
def LoopRegs (c : LoopCfg) (l : Loop) : Prop :=
  l.en = c.en ∧ l.plog = c.plog ∧ l.setp = c.setp ∧ l.band = c.band ∧ l.insel = c.insel ∧ l.outsel = c.outsel ∧
    l.inv = c.inv ∧ l.dwell = BitVec.ofNat 27 c.dwell

theorem applyLoop_regs (k : Fin 32) (c : LoopCfg) (s : State) :
    LoopRegs c (loopsGo (applyLoop false k c s)).loops.loops[k] := by
  obtain ⟨⟨h1, h2, h3, h4, h5⟩, h6, h7, h8⟩ := applyLoop_holds k c s
  exact ⟨h1, h2, h3, h4, h6, h7, h8, h5⟩

/-- A SET_MOTOR's stores: the configuration and the resolver it enables. -/
def storeMotor (k : Fin 6) (c : MotorCfg) (s : State) : State :=
  rdcFollow { s with sinov := { s.sinov with motor := s.sinov.motor.set k (some c) } }

/-- What Sinov holds of channel k after a SET_MOTOR, and in SERVICE nothing but the resolvers' enables beside it. -/
theorem configure_motor (n : Fin 8) (k : Fin 6) (c : MotorCfg) (hc : c.startDue = false) (s : State) :
    ∃ due, (configure n (storeMotor k c) (applyMotor k c) s).sinov.motor =
        s.sinov.motor.set k (some { c with startDue := due }) ∧
      (s.sys.mode = 1 → due = false ∧ (configure n (storeMotor k c) (applyMotor k c) s) = { s with
        rdc := { s.rdc with en := (configure n (storeMotor k c) (applyMotor k c) s).rdc.en }
        counters := (configure n (storeMotor k c) (applyMotor k c) s).counters
        sinov := (configure n (storeMotor k c) (applyMotor k c) s).sinov
        till := (configure n (storeMotor k c) (applyMotor k c) s).till
        hub := { s.hub with present := (configure n (storeMotor k c) (applyMotor k c) s).hub.present } }) := by
  have hmotor : (storeMotor k c (lapseAdmission s)).sinov.motor = s.sinov.motor.set k (some c) := by
    show (lapseAdmission s).sinov.motor.set k _ = _
    rw [lapseAdmission_motorCfg]
  have hsys : (storeMotor k c (lapseAdmission s)).sys = s.sys := lapseAdmission_sys s
  by_cases hm : s.sys.mode = 2
  · have hm' : (storeMotor k c (lapseAdmission s)).sys.mode = 2 := by rw [hsys, hm]
    obtain ⟨due, hd⟩ := (applyMotor_noted k c (storeMotor k c (lapseAdmission s))).stored hmotor
    refine ⟨due, ?_, fun h1 => absurd hm (mode_service h1)⟩
    rw [configure_ready hm']
    exact (congrArg (fun x => x.motor) (refreshAll_sinov _)).trans hd
  · have hm' : (storeMotor k c (lapseAdmission s)).sys.mode ≠ 2 := by rwa [hsys]
    have hcc : ({ c with startDue := false } : MotorCfg) = c := by rw [← hc]
    rw [configure_service hm']
    refine ⟨false, ?_, fun _ => ⟨rfl, ?_⟩⟩
    · rw [hcc]
      exact hmotor
    · obtain ⟨adm, wait, rsv, pres, e⟩ := lapseAdmission_eq s
      rw [e]
      rfl

theorem loopsGo_units (s : State) :
    (loopsGo s).hv = s.hv ∧ (loopsGo s).fuser = s.fuser ∧ (loopsGo s).beam = s.beam ∧ (loopsGo s).outHold = s.outHold := by
  obtain ⟨l, e⟩ := loopsGo_frame s
  rw [e]
  exact ⟨rfl, rfl, rfl, rfl⟩

theorem getLsbD_setBit_self {w : Nat} (v : BitVec w) {i : Nat} (b : Bool) (hi : i < w) : (setBit v i b).getLsbD i = b := by
  rw [getLsbD_setBit v i b hi, if_pos rfl]

theorem applyHv_loopsGo (c : Fin 3) (h : HvCfg) (s : State) :
    (loopsGo (applyHv c h s)).hv.en.getLsbD c.val = h.en ∧
      LoopHolds h.en h.plog (BitVec.ofNat 32 h.setp) (BitVec.ofNat 32 h.band) h.dwell
        (loopsGo (applyHv c h s)).loops.loops[Fin.ofNat 32 (2 + c.val)] := by
  obtain ⟨hen, hl⟩ := applyHv_holds c h s
  refine ⟨?_, LoopHolds.loopsGo ?_⟩
  · rw [(loopsGo_units _).1, hen, getLsbD_setBit_self _ _ c.isLt]
  · rw [hl]
    exact loopWrite_holds _ _ _ _ _ _ _ _

theorem applyFuser_loopsGo (f : FuserCfg) (s : State) (hd : f.duty ≤ 1000) :
    (loopsGo (applyFuser f s)).fuser.en = f.en ∧ (loopsGo (applyFuser f s)).fuser.dutyReq.toNat = f.duty ∧
      (loopsGo (applyFuser f s)).loops.loops[(0 : Fin 32)].setp = BitVec.ofNat 32 f.set0 ∧
      (loopsGo (applyFuser f s)).loops.loops[(1 : Fin 32)].setp = BitVec.ofNat 32 f.set1 ∧
      (loopsGo (applyFuser f s)).loops.loops[(0 : Fin 32)].band = BitVec.ofNat 32 f.band ∧
      (loopsGo (applyFuser f s)).loops.loops[(1 : Fin 32)].band = BitVec.ofNat 32 f.band := by
  obtain ⟨hen, hreq, h0s, h1s, h0b, h1b⟩ := applyFuser_regs f s hd
  obtain ⟨_, _, _, e0⟩ := loopsGo_loop (applyFuser f s) 0
  obtain ⟨_, _, _, e1⟩ := loopsGo_loop (applyFuser f s) 1
  rw [(loopsGo_units _).2.1, e0, e1]
  exact ⟨hen, hreq, h0s, h1s, h0b, h1b⟩

theorem applyLaser_loopsGo (b : Fin 4) (c : LaserCfg) (s : State) :
    (loopsGo (applyLaser b c s)).beam.ld[b].ceilReq = BitVec.ofNat 11 c.iCeil ∧
      LoopHolds c.en c.plog (BitVec.ofNat 32 (c.power / 10)) (BitVec.ofNat 32 (c.power / 10 / 32)) 0
        (loopsGo (applyLaser b c s)).loops.loops[Fin.ofNat 32 (5 + b.val)] := by
  obtain ⟨hc, hl⟩ := applyLaser_regs b c s
  rw [(loopsGo_units _).2.2.1]
  exact ⟨hc, hl.loopsGo⟩

/-- A SET_LASER's stores: the configuration, and the end of its beam's hold (R226). -/
def storeLaser (b : Fin 4) (c : LaserCfg) (s : State) : State :=
  storeCfg (fun y => { y with laser := y.laser.set b (some c) })
    { s with outHold := { s.outHold with ldNew := setBit s.outHold.ldNew b.val false } }

theorem applyLaser_ldNew (b : Fin 4) (c : LaserCfg) (s : State) : (applyLaser b c s).outHold.ldNew = s.outHold.ldNew := by
  have hf : ∀ (f : BeamUnit → BeamUnit) (x : State), (bmField f x).outHold = x.outHold := fun f x => by
    unfold bmField
    split <;> rfl
  unfold applyLaser
  extract_lets was setp s₁ s₂ s₃ s₄
  have h1 : s₁.outHold = s.outHold := hf _ s
  have h2 : s₂.outHold = s₁.outHold := rfl
  have h3 : s₃.outHold = s₂.outHold := by
    simp only [s₃, bmDelay]
    split
    · rfl
    · exact hf _ _
  have h4 : s₄.outHold = s₃.outHold := by
    simp only [s₄]
    split
    · exact hf _ _
    · rfl
  have h : s₄.outHold = s.outHold := h4.trans (h3.trans (h2.trans h1))
  split
  · show s₄.outHold.ldNew = _
    rw [h]
  · rw [h]

/-- What a SET_LASER changes of the holds, and in SERVICE nothing but that of its beam beside the stores. -/
theorem configure_laser (n : Fin 8) (b : Fin 4) (c : LaserCfg) (s : State) :
    let t := configure n (storeLaser b c) (fun x => loopsGo (applyLaser b c x)) s
    t.outHold.ldNew = setBit s.outHold.ldNew b.val false ∧ (s.sys.mode = 1 → t = { s with
      outHold := { s.outHold with ldNew := t.outHold.ldNew }
      counters := t.counters, sinov := t.sinov, till := t.till, hub := { s.hub with present := t.hub.present } }) := by
  have hsys : (storeLaser b c (lapseAdmission s)).sys = s.sys := lapseAdmission_sys s
  have hnew : (storeLaser b c (lapseAdmission s)).outHold.ldNew = setBit s.outHold.ldNew b.val false := by
    rw [lapseAdmission_frame]
    rfl
  dsimp only
  by_cases hm : s.sys.mode = 2
  · have hm' : (storeLaser b c (lapseAdmission s)).sys.mode = 2 := by rw [hsys, hm]
    obtain ⟨-, -, -, -, -, -, hhold⟩ := configure_registers n (apply := fun x => loopsGo (applyLaser b c x)) hm'
    refine ⟨?_, fun h1 => absurd hm (mode_service h1)⟩
    rw [hhold, (loopsGo_units _).2.2.2, applyLaser_ldNew, hnew]
  · have hm' : (storeLaser b c (lapseAdmission s)).sys.mode ≠ 2 := by rwa [hsys]
    rw [configure_service hm']
    refine ⟨hnew, fun _ => ?_⟩
    obtain ⟨adm, wait, rsv, pres, e⟩ := lapseAdmission_eq s
    rw [e]
    rfl

/-- Settles O13: each command passes its checks, stores its configuration, and in READY applies it to the registers. -/
theorem configurationIsStored : Obligations.ConfigurationIsStored := by
  refine ⟨fun n s i h h0 h1 h2 h3 h4 h5 h6 h7 => ?_, fun n s k h hk hbad hfit he1 he2 he3 hr => ?_,
    fun n s i h h0 h1 h2 h3 h4 h5 h6 h7 h8 h9 h10 => ?_,
    fun n s c en g v band dwell x h hp hg hpos hneg hfull hb hx he hs hr => ?_,
    fun n s en g a b band dwell duty x h hp hg hb hdw hdu he hx hs hr => ?_,
    fun n s b en g power ceil delay x h hp hg hd he hx hs hr => ?_⟩
  · have hrun := (exec_of_frame (i := .setFacetProfile n) rfl h rfl).trans
      (congrArg Host.Outcome.next (profileCmd_passes h0 h1 h2 h3 h4 h5 h6 h7))
    obtain ⟨hcnt, hl, hmem, hsvc⟩ := configure_stores n
      (f := fun v => { v with profile := v.profile.set i (some (profSegments (payload s n))) }) s (fun _ => rfl)
      (engineOnly_applyProfile i (profSegments (payload s n)))
    refine ⟨_, hrun, hcnt, hl, hmem, ?_, hsvc, fun hm => ?_⟩
    · rw [configure_sinov n s (applyProfile_sinov i _)]
      show (lapseAdmission s).sinov.profile.set i _ = _
      rw [lapseAdmission_frame]
    · obtain ⟨hpix, -⟩ := configure_registers n (apply := applyProfile i (profSegments (payload s n)))
        (store := storeCfg fun v => { v with profile := v.profile.set i (some (profSegments (payload s n))) })
        (storeCfg_ready hm)
      have hfr : profFrozen (storeCfg (fun v => { v with
          profile := v.profile.set i (some (profSegments (payload s n))) }) (lapseAdmission s)) i = false := by
        rw [lapseAdmission_frame]
        exact h7
      have hregs := applyProfile_segments hfr (xs := profSegments (payload s n)) (by rw [profSegments_length]; exact h2)
      rw [profSegments_length] at hregs
      rw [hpix]
      exact hregs
  · have hle : ((decide ((motorOf (payload s n)).src = 0) &&
        decide (s.envg.shadow.mRpm[k].toNat < (motorOf (payload s n)).speed)) ||
        decide (s.envg.shadow.mI[k].toNat < (motorOf (payload s n)).iLimit) ||
        decide (s.envg.shadow.mI[k].toNat < (motorOf (payload s n)).iPeak)) = false := by
      simp only [Bool.or_eq_false_iff, Bool.and_eq_false_imp, decide_eq_false_iff_not, decide_eq_true_iff, Nat.not_lt]
      exact ⟨⟨he1, he2⟩, he3⟩
    have hcmd := motorCmd_judged (n := n) hk hbad hfit
    rw [hle, hr, judged_pass, judged_pass, judged_run] at hcmd
    have hrun := (exec_of_frame (i := .setMotor n) rfl h rfl).trans (congrArg Host.Outcome.next
      (hcmd.trans (show _ = configure n (storeMotor k (motorOf (payload s n))) _ s from rfl)))
    obtain ⟨hcnt, hl, hmem⟩ := configure_replies (n := n) (s := s) (store := storeMotor k (motorOf (payload s n)))
      (apply := applyMotor k (motorOf (payload s n))) ⟨rfl, rfl, rfl, rfl, rfl⟩ (engineOnly_applyMotor k _)
    obtain ⟨due, hdue, hsvc⟩ := configure_motor n k (motorOf (payload s n)) rfl s
    refine ⟨_, due, hrun, hcnt, hl, hmem, hdue, fun hm => ?_, fun hm => ?_⟩
    · obtain ⟨hd, e⟩ := hsvc hm
      exact ⟨hd, hl, e⟩
    · have hm' : (storeMotor k (motorOf (payload s n)) (lapseAdmission s)).sys.mode = 2 :=
        (congrArg (fun x => x.mode) (lapseAdmission_sys s)).trans hm
      obtain ⟨-, hmot, -⟩ := configure_registers n (apply := applyMotor k (motorOf (payload s n))) hm'
      have hsrc : (storeMotor k (motorOf (payload s n)) (lapseAdmission s)).motors[k].state ≠ .off →
          (storeMotor k (motorOf (payload s n)) (lapseAdmission s)).motors[k].src = (motorOf (payload s n)).src := by
        show (lapseAdmission s).motors[k].state ≠ .off → (lapseAdmission s).motors[k].src = _
        rw [lapseAdmission_motors]
        exact fun hne => (hfit hne).1
      have hregs := applyMotor_holds hsrc
      rw [hmot]
      exact hregs
  · have hrun := (exec_of_frame (i := .setLoop n) rfl h rfl).trans
      (congrArg Host.Outcome.next (loopCmd_passes h0 h1 h2 h3 h4 h5 h6 h7 h8 h9 h10))
    obtain ⟨hcnt, hl, hmem, hsvc⟩ := configure_stores n
      (f := fun v => { v with loop := v.loop.set i (some (loopOf (payload s n))) }) s (fun _ => rfl)
      (engineOnly_then_loopsGo (f := applyLoop false i (loopOf (payload s n)))
        fun x => engineOnly_loopWrite _ _ _ _ _ _ _ _ x)
    refine ⟨_, hrun, hcnt, hl, hmem, ?_, hsvc, fun hm => ?_⟩
    · rw [configure_sinov n s fun x => loopsGo_sinov (applyLoop false i (loopOf (payload s n)) x)]
      show (lapseAdmission s).sinov.loop.set i _ = _
      rw [lapseAdmission_frame]
    · obtain ⟨-, -, hloops, -⟩ := configure_registers n (apply := fun x => loopsGo (applyLoop false i (loopOf (payload s n)) x))
        (store := storeCfg fun v => { v with loop := v.loop.set i (some (loopOf (payload s n))) }) (storeCfg_ready hm)
      rw [hloops]
      exact applyLoop_regs i (loopOf (payload s n)) _
  · subst hx
    have hcmd := hvCmd_judged (n := n) hg hpos hneg hfull hb hs
    have hle : decide (s.envg.shadow.hvFb[c].toNat < (hvCfgOf c en g v band dwell).setp +
        (hvCfgOf c en g v band dwell).band) = false := decide_eq_false (Nat.not_lt.mpr he)
    rw [hle, hr, judged_pass, judged_pass, judged_run] at hcmd
    rw [← show payload s n = hvPayload c en g v band dwell from hp] at hcmd
    have hrun := (exec_of_frame (i := .setHv n) rfl h rfl).trans (congrArg Host.Outcome.next hcmd)
    obtain ⟨hcnt, hl, hmem, hsvc⟩ := configure_stores n
      (f := fun y => { y with hv := y.hv.set c (some (hvCfgOf c en g v band dwell)) }) s (fun _ => rfl)
      (engineOnly_then_loopsGo (engineOnly_applyHv c (hvCfgOf c en g v band dwell)))
    refine ⟨_, hrun, hcnt, hl, hmem, ?_, hsvc, fun hm => ?_⟩
    · rw [configure_sinov n s fun x => (loopsGo_sinov _).trans (applyHv_sinov c (hvCfgOf c en g v band dwell) x)]
      show (lapseAdmission s).sinov.hv.set c _ = _
      rw [lapseAdmission_frame]
      rfl
    · obtain ⟨-, -, hloops, hhv, -⟩ := configure_registers n
        (apply := fun x => loopsGo (applyHv c (hvCfgOf c en g v band dwell) x))
        (store := storeCfg fun y => { y with hv := y.hv.set c (some (hvCfgOf c en g v band dwell)) }) (storeCfg_ready hm)
      obtain ⟨hen, hl2⟩ := applyHv_loopsGo c (hvCfgOf c en g v band dwell) (storeCfg (fun y => { y with
        hv := y.hv.set c (some (hvCfgOf c en g v band dwell)) }) (lapseAdmission s))
      rw [hloops, hhv]
      refine ⟨hen, fun i hi => ?_⟩
      obtain ⟨l1, -, l3, l4, -⟩ := hl2
      rw [fin_two_add c i hi]
      exact ⟨l1, l3, l4⟩
  · subst hx
    have hcmd := fuserCmd_judged (n := n) hg hb hdw hdu hs
    have hle : (decide (s.envg.shadow.htrDuty[(0 : Fin 2)].toNat < duty.toNat) ||
        decide (s.envg.shadow.htrDuty[(1 : Fin 2)].toNat < duty.toNat)) = false := by
      rw [decide_eq_false (Nat.not_lt.mpr (he 0)), decide_eq_false (Nat.not_lt.mpr (he 1))]
      rfl
    rw [hle, hr, judged_pass, judged_pass, judged_run] at hcmd
    rw [← show payload s n = fuserPayload en g a b band dwell duty from hp] at hcmd
    have hrun := (exec_of_frame (i := .setFuser n) rfl h rfl).trans (congrArg Host.Outcome.next hcmd)
    obtain ⟨hcnt, hl, hmem, hsvc⟩ := configure_stores n
      (f := fun y => { y with fuser := some (fuserCfgOf en g a b band dwell duty) }) s (fun _ => rfl)
      (engineOnly_then_loopsGo (engineOnly_applyFuser (fuserCfgOf en g a b band dwell duty)))
    refine ⟨_, hrun, hcnt, hl, hmem, ?_, hsvc, fun hm => ?_⟩
    · rw [configure_sinov n s fun x => (loopsGo_sinov _).trans (applyFuser_sinov (fuserCfgOf en g a b band dwell duty) x)]
      rfl
    · obtain ⟨-, -, hloops, -, hfu, -⟩ := configure_registers n
        (apply := fun x => loopsGo (applyFuser (fuserCfgOf en g a b band dwell duty) x))
        (store := storeCfg fun y => { y with fuser := some (fuserCfgOf en g a b band dwell duty) }) (storeCfg_ready hm)
      rw [hloops, hfu]
      exact applyFuser_loopsGo (fuserCfgOf en g a b band dwell duty) _ hdu
  · subst hx
    have hcmd := laserCmd_judged (n := n) hg hd hs
    rw [decide_eq_false (Nat.not_lt.mpr he), hr, judged_pass, judged_pass, judged_run] at hcmd
    rw [← show payload s n = laserPayload b en g power ceil delay from hp] at hcmd
    have hrun := (exec_of_frame (i := .setLaser n) rfl h rfl).trans (congrArg Host.Outcome.next
      (hcmd.trans (show _ = configure n (storeLaser b (laserCfgOf en g power ceil delay)) _ s from rfl)))
    obtain ⟨hcnt, hl, hmem⟩ := configure_replies (n := n) (s := s)
      (store := storeLaser b (laserCfgOf en g power ceil delay))
      (apply := fun x => loopsGo (applyLaser b (laserCfgOf en g power ceil delay) x)) ⟨rfl, rfl, rfl, rfl, rfl⟩
      (engineOnly_then_loopsGo (engineOnly_applyLaser b (laserCfgOf en g power ceil delay)))
    obtain ⟨hnew, hsvc⟩ := configure_laser n b (laserCfgOf en g power ceil delay) s
    refine ⟨_, hrun, hcnt, hl, hmem, ?_, hnew, fun hm => ⟨hl, hsvc hm⟩, fun hm => ?_⟩
    · have hst : (storeLaser b (laserCfgOf en g power ceil delay) (lapseAdmission s)).sinov.laser =
          s.sinov.laser.set b (some (laserCfgOf en g power ceil delay)) := by
        rw [lapseAdmission_frame]
        rfl
      rw [configure_sinov n s fun x =>
        (loopsGo_sinov _).trans (applyLaser_sinov b (laserCfgOf en g power ceil delay) x)]
      exact hst
    · have hm' : (storeLaser b (laserCfgOf en g power ceil delay) (lapseAdmission s)).sys.mode = 2 :=
        (congrArg (fun x => x.mode) (lapseAdmission_sys s)).trans hm
      obtain ⟨-, -, hloops, -, -, hbeam, -⟩ := configure_registers n
        (apply := fun x => loopsGo (applyLaser b (laserCfgOf en g power ceil delay) x)) hm'
      obtain ⟨hc, hl2⟩ := applyLaser_loopsGo b (laserCfgOf en g power ceil delay)
        (storeLaser b (laserCfgOf en g power ceil delay) (lapseAdmission s))
      rw [hloops, hbeam]
      refine ⟨hc, fun i hi => ?_⟩
      obtain ⟨l1, -, l3, l4, -⟩ := hl2
      rw [fin_five_add b i hi]
      exact ⟨l1, l3, l4⟩

end Sys2Proof.Machine
end

section
/-! Page admission (R53-R60, R353-R355): the forecast that ADMIT_PAGE starts, its outcome, and the lapse of an admission. -/

namespace Sys2Proof.Machine

/-! ## TILL_FULL follows the free records (R367) -/

/-- From s to t the end of an admission and the condition of TILL_FULL are all that changes, beside what Sinov holds. -/
theorem tillSync_frame {s : State} (h : TillRoom s) :
    ∃ free pres, tillSync s = { s with till := { s.till with free := free }, hub := { s.hub with present := pres } } := by
  unfold tillSync
  by_cases hs : s.till.scanned = true
  · rw [if_pos hs]
    obtain ⟨h1, h2⟩ := h hs
    have hle : tillFree s.till ≤ 65536 - 1 := by
      unfold tillFree tillSlots
      split <;> omega
    have hcmd : tillFreeCmd { s with till := { s.till with free := BitVec.ofNat 16 (tillFree s.till) } } ≠ 0 := by
      have : (BitVec.ofNat 16 (tillFree s.till)).toNat = tillFree s.till := by
        rw [BitVec.toNat_ofNat]
        omega
      unfold tillFreeCmd
      dsimp only
      rw [this]
      omega
    dsimp only
    rw [decide_eq_false hcmd, setCond_falls]
    exact ⟨_, _, rfl⟩
  · rw [if_neg hs]
    exact ⟨_, _, rfl⟩

/-- After an admission has ended and TILL_FULL follows, the frame of both. -/
theorem lapseSync_frame {s : State} (h : TillRoom (lapseAdmission s)) :
    ∃ wait till pres, tillSync (lapseAdmission s) = { s with
      sinov := { s.sinov with admission := none, admitWait := wait }
      till := till, hub := { s.hub with present := pres } } := by
  obtain ⟨free, pres, e⟩ := tillSync_frame h
  have hnone := lapseAdmission_admission s
  obtain ⟨adm, wait, rsv, pres', e'⟩ := lapseAdmission_eq s
  rw [e'] at hnone e
  have hadm : adm = none := hnone
  subst hadm
  exact ⟨wait, _, _, by rw [e', e]⟩

theorem graceClear_hub {s t : State} (h1 : t.hub.raised = s.hub.raised) (h2 : t.hub.timerCfg = s.hub.timerCfg) :
    graceClear t = graceClear s := by
  unfold graceClear
  rw [h1, h2]

theorem graceClear_lapseSync {s : State} (h : TillRoom (lapseAdmission s)) :
    graceClear (tillSync (lapseAdmission s)) = graceClear s := by
  obtain ⟨wait, till, pres, e⟩ := lapseSync_frame h
  rw [e]
  exact graceClear_hub rfl rfl

/-! ## ADMIT_PAGE's ways -/

theorem admitCmd_held {n : Fin 8} {p : List Byte} {s : State} (h : forecastHeld s = true) : admitCmd n p s = s := if_pos h

theorem admitCmd_now {n : Fin 8} {p : List Byte} {s : State} (h : forecastHeld s = false) :
    admitCmd n p s = admitNow n p s := by
  rw [admitCmd, h, if_neg (by decide)]

theorem admitNow_fault {n : Fin 8} {p : List Byte} {s : State} (h : graceClear (tillSync (lapseAdmission s)) = false) :
    admitNow n p s = answer n .faultPending (tillSync (lapseAdmission s)) := by
  unfold admitNow
  dsimp only
  rw [h, if_pos (by decide)]

theorem admitNow_bad {n : Fin 8} {p : List Byte} {s : State} (h : graceClear (tillSync (lapseAdmission s)) = true)
    (hp : pageBad (tillSync (lapseAdmission s)) p = true) :
    admitNow n p s = answer n .badArg (tillSync (lapseAdmission s)) := by
  unfold admitNow
  dsimp only
  rw [h, hp, if_neg (by decide), if_pos (by decide)]

theorem admitNow_stopped {n : Fin 8} {p : List Byte} {s : State} (h : graceClear (tillSync (lapseAdmission s)) = true)
    (hp : pageBad (tillSync (lapseAdmission s)) p = false) (hr : (tillSync (lapseAdmission s)).sy.run = false) :
    admitNow n p s = decideAdmit n p false (checks7 (tillSync (lapseAdmission s)) (descOf p)
      (failA5 (tillSync (lapseAdmission s)))) (tillSync (lapseAdmission s)) := by
  unfold admitNow
  dsimp only
  rw [h, hp, hr, if_neg (by decide), if_neg (by decide), if_pos (by rw [Bool.not_false, Bool.true_or])]

theorem admitNow_waits {n : Fin 8} {p : List Byte} {s : State} (h : graceClear (tillSync (lapseAdmission s)) = true)
    (hp : pageBad (tillSync (lapseAdmission s)) p = false) (hr : (tillSync (lapseAdmission s)).sy.run = true)
    (hf : (fcSteps (tillSync (lapseAdmission s)) (descOf p)).sum ≤ 65535) :
    admitNow n p s = setRunning n (startForecast (descOf p) { tillSync (lapseAdmission s) with
      sinov := { (tillSync (lapseAdmission s)).sinov with
        admitWait := some { handle := 0, counter := n, desc := p, report := [] } } }) := by
  unfold admitNow
  dsimp only
  rw [h, hp, hr, if_neg (by decide), if_neg (by decide), if_neg (by rw [Bool.not_true, Bool.false_or, decide_eq_true_iff]; omega)]

/-! ## The forecast (R353, R354) -/

theorem fcSteps_length (s : State) (d : Desc) : (fcSteps s d).length = 4 := rfl

/-- The forecast engine's steps are the segments', where their sum fits. -/
theorem fcTotal_steps {l : List Nat} (hl : l.length = 4) (h : l.sum ≤ 65535) (f : Forecast) :
    fcTotal { f with steps := Vector.ofFn fun g => BitVec.ofNat 16 (l.getD g.val 0) } ≤ 65535 := by
  obtain ⟨a, b, c, d, rfl⟩ : ∃ a b c d, l = [a, b, c, d] := by
    match l, hl with
    | [a, b, c, d], _ => exact ⟨a, b, c, d, rfl⟩
  have hmod : ∀ x : Nat, (BitVec.ofNat 16 x).toNat ≤ x := fun x => by
    rw [BitVec.toNat_ofNat]
    exact Nat.mod_le _ _
  have := hmod a
  have := hmod b
  have := hmod c
  have := hmod d
  simp only [List.sum_cons, List.sum_nil] at h
  show ((BitVec.ofNat 16 a).toNat + ((BitVec.ofNat 16 b).toNat + ((BitVec.ofNat 16 c).toNat +
    ((BitVec.ofNat 16 d).toNat + 0)))) ≤ 65535
  omega

/-- A forecast that fits is armed where none runs. -/
theorem startForecast_arms {d : Desc} {s : State} (hb : s.sy.fc.busy = false) (h : (fcSteps s d).sum ≤ 65535) :
    ∃ fc, startForecast d s = { s with sy := { s.sy with fc := fc } } ∧ fc.armed = true ∧ fc.done = false := by
  unfold startForecast fcGo
  dsimp only
  have hfit : ¬ 65535 < fcTotal { s.sy.fc with
      steps := Vector.ofFn fun g => BitVec.ofNat 16 ((fcSteps s d).getD g.val 0)
      pwr := Vector.ofFn fun g => Vector.ofFn fun i => BitVec.ofNat 32 (fcPower s d g.val i.val) } :=
    Nat.not_lt.mpr (fcTotal_steps (fcSteps_length s d) h s.sy.fc)
  rw [if_neg (not_or.mpr ⟨by rw [hb]; decide, hfit⟩)]
  exact ⟨_, rfl, rfl, rfl⟩

/-! ## The decision (R56-R58) -/

theorem decideAdmit_refuses {n : Fin 8} {desc : List Byte} {lapsed : Bool} {cs : List (List Item)} {s : State}
    (h : failMask cs ≠ 0) : decideAdmit n desc lapsed cs s = answerWith n .refusedDeadline 0
      (admitReply 0 (failMask cs) (cs.flatMap fun c => entryBytes (reported c))) s := if_pos h

/-- An admission that passes is answered OK and held. -/
theorem decideAdmit_admits {n : Fin 8} {desc : List Byte} {cs : List (List Item)} {s : State} (h : failMask cs = 0) :
    decideAdmit n desc false cs s = answerOk n (admitReply s.sinov.nextHandle 0 (cs.flatMap fun c => entryBytes (reported c)))
      (tillSync { s with
        sinov := { s.sinov with
          admission := some { handle := s.sinov.nextHandle, counter := n, desc := desc
                              report := cs.flatMap fun c => entryBytes (reported c) }
          nextHandle := if s.sinov.nextHandle + 1 = 0 then 1 else s.sinov.nextHandle + 1 }
        till := { s.till with rsv := 2 } }) := by
  unfold decideAdmit
  dsimp only
  rw [if_neg (not_not_intro h)]
  rfl

theorem tillRoom_reserve {s : State} (h : TillRoom s) (f : Sinov) :
    TillRoom { s with sinov := f, till := { s.till with rsv := 2 } } := fun hs =>
  ⟨(h hs).1, by show (2 : BitVec 16).toNat ≤ 2; decide⟩

/-- A5 has failed while the Steelyard does not run: bit 4 of FAIL_MASK. -/
theorem failMask_failA5 (s : State) (d : Desc) :
    failMask (checks7 s d (failA5 s)) / 16 % 2 = 1 := by
  have hbad : (failA5 s).all itemOk = false := rfl
  simp only [failMask, checks7, List.zipIdx_cons, List.zipIdx_nil, List.map_cons, List.map_nil, List.sum_cons, List.sum_nil,
    hbad]
  generalize (checkA1 s d).all itemOk = b1
  generalize (checkA2 s d).all itemOk = b2
  generalize (checkA3 s d).all itemOk = b3
  generalize (checkA4 s d).all itemOk = b4
  generalize (checkA6 s).all itemOk = b6
  generalize (checkA7 s).all itemOk = b7
  revert b1 b2 b3 b4 b6 b7
  decide

theorem forecastEnd_decides {s : State} {a : Admission} (hb : s.sy.fc.busy = true) (ha : s.sinov.admitWait = some a)
    (hm : s.sys.mode = 2) (hg : graceClear s = true) :
    forecastEnd s = decideAdmit a.counter a.desc (!a.report.isEmpty)
      (checks7 { fcDone s with sinov := { s.sinov with admitWait := none } } (descOf a.desc)
        (checkA5 { fcDone s with sinov := { s.sinov with admitWait := none } } 0))
      { fcDone s with sinov := { s.sinov with admitWait := none } } := by
  have he : fcDone s = { s with sy := (fcDone s).sy, freeCtr := (fcDone s).freeCtr } := by
    simp only [fcDone, hb, if_true]
  have hw : (fcDone s).sinov = s.sinov := by rw [he]
  have hmode : (fcDone s).sys.mode = 2 := by rw [he, hm]
  have hgc : graceClear { fcDone s with sinov := { s.sinov with admitWait := none } } = true := by
    rw [← hg]
    exact graceClear_hub (by rw [he]) (by rw [he])
  unfold forecastEnd
  dsimp only
  simp only [hw, ha, hb, hmode, Bool.true_or, if_true, ne_eq, not_true_eq_false, if_false, Bool.not_true,
    Bool.false_and, Bool.false_eq_true]
  rw [hgc, if_neg (by decide)]

theorem fcDone_frame (s : State) : fcDone s = { s with sy := (fcDone s).sy, freeCtr := (fcDone s).freeCtr } := by
  unfold fcDone
  split <;> rfl

theorem fcDone_idle {s : State} (h : s.sy.fc.busy = true) : (fcDone s).sy.fc.busy = false := by
  simp only [fcDone, h, if_true]

/-- Settles O15: each way of ADMIT_PAGE, the outcome of its forecast, and the lapse. -/
theorem pagesAreAdmitted : Obligations.PagesAreAdmitted := by
  refine ⟨⟨fun n s x h hx hroom hheld hg hp hr hf => ?_, fun n s h hheld => ?_, fun n s h hheld hroom hg => ?_,
    fun n s h hheld hroom hg hp => ?_, fun n s x cs h hheld hx hroom hg hp hr hcs => ?_⟩,
    fun s x a cs hb ha hrep hm hg hroom hx hcs hmask => ?_, fun s x a cs hb ha hm hg hx hcs hmask => ?_, fun s a ha => ?_⟩
  · have hbusy : s.sy.fc.busy = false := by
      simp only [forecastHeld, Bool.or_eq_false_iff] at hheld
      exact hheld.1.2
    have hgx : graceClear (tillSync (lapseAdmission s)) = true := (graceClear_lapseSync hroom).trans hg
    obtain ⟨wait, till, pres, e⟩ := lapseSync_frame hroom
    subst hx
    rw [e] at hp hf hgx ⊢
    have hrun := admitNow_waits (n := n) (p := payload s n) (s := s) (by rw [e]; exact hgx) (by rw [e]; exact hp)
      (by rw [e]; exact hr) (by rw [e]; exact hf)
    rw [e] at hrun
    obtain ⟨fc, hfc, harm, hdone⟩ := startForecast_arms (d := descOf (payload s n)) (s := { s with
      sinov := { s.sinov with
        admission := none
        admitWait := some { handle := 0, counter := n, desc := payload s n, report := [] } }
      till := till, hub := { s.hub with present := pres } }) hbusy hf
    have hx : exec (.admitPage n) s = .next (setRunning n { s with
        sinov := { s.sinov with
          admission := none
          admitWait := some { handle := 0, counter := n, desc := payload s n, report := [] } }
        till := till, hub := { s.hub with present := pres }, sy := { s.sy with fc := fc } }) := by
      rw [exec_of_frame rfl h rfl, admitCmd_now hheld, hrun]
      exact congrArg (fun y => Host.Outcome.next (setRunning n y)) hfc
    exact ⟨_, hx, harm, hdone, rfl, rfl⟩
  · rw [exec_of_frame rfl h rfl, admitCmd_held hheld]
  · have hgx := (graceClear_lapseSync hroom).trans hg
    exact ⟨_, (exec_of_frame (i := .admitPage n) rfl h rfl).trans (congrArg Host.Outcome.next
      ((admitCmd_now hheld).trans (admitNow_fault hgx))), answer_answered n _ _⟩
  · have hgx := (graceClear_lapseSync hroom).trans hg
    exact ⟨_, (exec_of_frame (i := .admitPage n) rfl h rfl).trans (congrArg Host.Outcome.next
      ((admitCmd_now hheld).trans (admitNow_bad hgx hp))), answer_answered n _ _⟩
  · subst hx
    subst hcs
    have hgx := (graceClear_lapseSync hroom).trans hg
    have hrx : (tillSync (lapseAdmission s)).sy.run = false := by
      obtain ⟨wait, till, pres, e⟩ := lapseSync_frame hroom
      rw [e]
      exact hr
    have hmask := failMask_failA5 (tillSync (lapseAdmission s)) (descOf (payload s n))
    have hne : failMask (checks7 (tillSync (lapseAdmission s)) (descOf (payload s n)) (failA5 (tillSync (lapseAdmission s)))) ≠ 0 := by
      omega
    exact ⟨_, (exec_of_frame (i := .admitPage n) rfl h rfl).trans (congrArg Host.Outcome.next
      ((admitCmd_now hheld).trans ((admitNow_stopped hgx hp hrx).trans (decideAdmit_refuses hne)))), hmask,
      answerWith_answered n _ _ _ _⟩
  · subst hx
    have hrun := forecastEnd_decides hb ha hm hg
    rw [← hcs, hrep, show (!([] : List Byte).isEmpty) = false from rfl, decideAdmit_admits hmask] at hrun
    have he := fcDone_frame s
    have hroom' : TillRoom { fcDone s with
        sinov := { s.sinov with
          admission := some { handle := s.sinov.nextHandle, counter := a.counter, desc := a.desc
                              report := cs.flatMap fun c => entryBytes (reported c) }
          admitWait := none
          nextHandle := if s.sinov.nextHandle + 1 = 0 then 1 else s.sinov.nextHandle + 1 }
        till := { (fcDone s).till with rsv := 2 } } := by
      rw [he]
      exact tillRoom_reserve (s := { s with sy := (fcDone s).sy, freeCtr := (fcDone s).freeCtr }) hroom _
    obtain ⟨free, pres, e⟩ := tillSync_frame hroom'
    have hx : exec .forecastDone s = .next (forecastEnd s) := rfl
    rw [hrun] at hx
    have ht := hx.trans (congrArg (fun y => Host.Outcome.next (answerOk a.counter _ y)) e)
    refine ⟨_, ht, rfl, rfl, rfl, rfl, fcDone_idle hb, ?_, ?_⟩
    · rw [he]
      exact congrArg State.counters (answerOk_answered a.counter _ _)
    · refine memSame_of_mem ?_
      show (fcDone s).mem = s.mem
      rw [he]
  · subst hx
    have hrun := forecastEnd_decides hb ha hm hg
    rw [← hcs, decideAdmit_refuses hmask] at hrun
    exact ⟨_, congrArg Host.Outcome.next hrun, answerWith_answered _ _ _ _ _⟩
  · refine ⟨_, rfl, lapseAdmission_lapsed s, ?_⟩
    have hnone := lapseAdmission_admission s
    have hrsv := (lapseAdmission_lapsed s).2.2.1 (by rw [ha]; exact Option.some_ne_none a)
    obtain ⟨adm, wait, rsv, pres, e⟩ := lapseAdmission_eq s
    rw [e] at hnone hrsv ⊢
    have hadm : adm = none := hnone
    have hr : rsv = 0 := congrArg Till.rsv hrsv
    rw [hadm, hr]

end Sys2Proof.Machine
end

section
/-! A page from START to its docket (R60-R74): the tally's operations, what starting a page changes, and the spoil that a
fault brings. -/

namespace Sys2Proof.Machine

/-! ## Spoil by a fault (R66, R69) -/

/-- The parts of the state that the timer of a raise leaves. -/
def TimerKeeps (s t : State) : Prop :=
  t.docket = s.docket ∧ t.beam = s.beam ∧ t.fuser = s.fuser ∧ t.counters = s.counters ∧ t.mem = s.mem

theorem lapseAdmission_timerKeeps {s x : State} (h : TimerKeeps s x) : TimerKeeps s (lapseAdmission x) := by
  obtain ⟨adm, wait, rsv, pres, e⟩ := lapseAdmission_eq x
  rw [e]
  exact h

theorem raiseTimer_timerKeeps (f : Byte) (c : Option (BitVec 2)) (s : State) : TimerKeeps s (raiseTimer f c s) := by
  unfold raiseTimer
  split
  · exact ⟨rfl, rfl, rfl, rfl, rfl⟩
  · split
    · exact ⟨rfl, rfl, rfl, rfl, rfl⟩
    · exact lapseAdmission_timerKeeps ⟨rfl, rfl, rfl, rfl, rfl⟩
    · exact lapseAdmission_timerKeeps ⟨rfl, rfl, rfl, rfl, rfl⟩

theorem latchSpoil_armed {o : Outcome5} {f : Option Byte} {fl : Byte} {s : State} (h : s.docket.st = .armed) :
    latchSpoil o f fl s = blankBeams { s with
      docket := { s.docket with
        st := .spoiled, fresh := true, outcome := o.code, spoilFault := f.getD 0, faultValid := f.isSome
        flags := s.docket.flags ||| fl ||| (if s.docket.spoil && o != .host then 1 else 0)
        firstSpoil := if s.docket.written = s.docket.planned then 0xFFFF_FFFF else s.docket.written, facetOpen := false }
      video := { s.video with running := false } } := by
  simp only [latchSpoil, h]

/-- A page that a fault spoils and stops: unlit, its heaters off, its tally kept. -/
theorem spoiledBy_safeStop {f : Byte} {o : Outcome5} {s x : State} (h : s.docket.st = .armed)
    (hx : x.docket = s.docket ∧ x.counters = s.counters ∧ x.mem = s.mem) (ho : o.code = if f = 0x92 then 4 else 2) :
    SpoiledBy f s (stopCause f (safeStop (latchSpoil o (some f) 0 x))) := by
  obtain ⟨hd, hc, hm⟩ := hx
  rw [latchSpoil_armed (by rw [hd]; exact h), hd]
  refine ⟨rfl, ho, rfl, rfl, rfl, rfl, fun b => ?_, fun b => ?_, hc, memSame_of_mem hm⟩
  · exact congrArg LaserBeam.lit (Vector.getElem_map _ _)
  · exact congrArg Heater.on (Vector.getElem_map _ _)

theorem SpoiledBy.timer {f : Byte} {s x t : State} (h : SpoiledBy f s x) (k : TimerKeeps x t) : SpoiledBy f s t := by
  obtain ⟨kd, kb, kf, kc, km⟩ := k
  obtain ⟨h1, h2, h3, h4, h5, h6, h7, h8, h9, h10⟩ := h
  unfold SpoiledBy
  rw [kd, kb, kf, kc]
  exact ⟨h1, h2, h3, h4, h5, h6, h7, h8, h9, fun a => (congrArg (Mem.read · a) km).trans (h10 a)⟩

/-- A fault of the table that spoils the page at once, whose escalation does not begin, spoils it and stops the engine. -/
theorem raiseFault_spoils {f : Byte} {s : State} (hrow : (faultRow f.toNat 0).isSome = true)
    (hs : spoilsAtOnce f true = true) (h : s.docket.st = .armed) (hn : NoAction f s) (h0 : f ≠ 0xC0) (h1 : f ≠ 0x00) :
    SpoiledBy f s (raiseFault f s) := by
  obtain ⟨row, hr⟩ := Option.isSome_iff_exists.mp hrow
  have hp : pageInFlight (raiseBits f s) = true := by
    show pageInFlight s = true
    rw [pageInFlight, h]
    rfl
  have e : raiseFault f s = raiseTimer f (raiseClass f s) (spoilByFault f (raiseBits f s)) := by
    unfold raiseFault raiseWith
    simp only [hr, raiseAction_noAction hn, hs, if_true]
  rw [e]
  refine SpoiledBy.timer ?_ (raiseTimer_timerKeeps _ _ _)
  unfold spoilByFault
  rw [if_pos hp]
  by_cases hj : f = 0x92
  · rw [if_pos hj]
    exact spoiledBy_safeStop h ⟨rfl, rfl, rfl⟩ (if_pos hj).symm
  · rw [if_neg hj, if_neg h0, if_neg h1]
    exact spoiledBy_safeStop h ⟨rfl, rfl, rfl⟩ (if_neg hj).symm

/-! ## DK_CTRL (R61, R63, R67) -/

theorem exec_of_dkCtrl {i : Instr} {m : Master} {v : Word} {s : State}
    (hi : exec i s = .next (regWrite m 0x2F 0x00 v s)) (h : Granted m 0x2F 0x00 v s) : exec i s = .next (dkCtrl v s) :=
  exec_of_granted hi h (by decide)

theorem dkCtrl_arm (s : State) : dkCtrl 1 s = dkArmOp s := rfl
theorem dkCtrl_spoil (s : State) : dkCtrl 2 s = dkSpoilOp s := rfl
theorem dkCtrl_close (s : State) : dkCtrl 4 s = dkCloseOp s := rfl
theorem dkCtrl_release (s : State) : dkCtrl 8 s = dkReleaseOp s := rfl

theorem videoArm_frame (s : State) : ∃ v, videoArm s = { s with video := v } := by
  unfold videoArm
  split <;> exact ⟨_, rfl⟩

/-- With the interlock closed, arming the beams raises nothing. -/
theorem beamArm_frame {s : State} (h : s.beam.intlk = true) : ∃ b, beamArm s = { s with beam := b } := by
  unfold beamArm
  split
  · dsimp only
    rw [if_pos h]
    exact ⟨_, rfl⟩
  · exact ⟨_, rfl⟩

/-- Arming an idle tally, with the interlock closed (R61). -/
theorem dkArmOp_arms {s : State} (h : s.docket.st = .idle) (hi : s.beam.intlk = true) :
    ∃ x beam video, (x = if s.sys.mode = 2 then lapseAdmission s else s) ∧ dkArmOp s = { x with
      docket := { s.docket with st := .armed, arm := true, tStart := s.devtime }
      dkStore := { s.dkStore with state := 3, due := false, body := [], counter := 0xFF }
      sys := { s.sys with mode := if s.sys.mode = 2 then 3 else s.sys.mode }, beam := beam, video := video } := by
  obtain ⟨adm, wait, rsv, pres, e⟩ := lapseAdmission_eq s
  have hx : ∃ f t hb, (if s.sys.mode = 2 then lapseAdmission s else s) = { s with sinov := f, till := t, hub := hb } := by
    split
    · exact ⟨_, _, _, e⟩
    · exact ⟨_, _, _, rfl⟩
  obtain ⟨f, t, hb, hx⟩ := hx
  unfold dkArmOp
  rw [h]
  dsimp only
  rw [hx]
  obtain ⟨v, hv⟩ := videoArm_frame { s with
    sinov := f, till := t, hub := hb
    docket := { s.docket with st := .armed, arm := true, tStart := s.devtime }
    dkStore := { s.dkStore with state := 3, due := false, body := [], counter := 0xFF }
    sys := { s.sys with mode := if s.sys.mode = 2 then 3 else s.sys.mode } }
  dsimp only at hv
  rw [hv]
  obtain ⟨b, hbm⟩ := beamArm_frame (s := { s with
    sinov := f, till := t, hub := hb
    docket := { s.docket with st := .armed, arm := true, tStart := s.devtime }
    dkStore := { s.dkStore with state := 3, due := false, body := [], counter := 0xFF }
    sys := { s.sys with mode := if s.sys.mode = 2 then 3 else s.sys.mode }, video := v }) hi
  dsimp only at hbm
  exact ⟨_, b, v, rfl, hbm⟩

/-- The host's spoil within a facet waits for its end. -/
theorem dkSpoilOp_waits {s : State} (h : s.docket.st = .armed) (hf : s.docket.facetOpen = true) :
    dkSpoilOp s = { s with docket := { s.docket with spoil := true } } := by
  have hp : pageInFlight s = true := by
    rw [pageInFlight, h]
    rfl
  rw [dkSpoilOp, if_pos hp]
  exact if_pos ⟨h, hf⟩

theorem armClose_frame (um : Nat) (s : State) : ∃ m, armClose um s = { s with motors := m } := by
  unfold armClose
  split <;> exact ⟨_, rfl⟩

/-- A spoil of the host that latches leaves the compare for the close point to set. -/
theorem hostSpoil_frame (s : State) : ∃ m, hostSpoil s = { latchSpoil .host none 0 s with motors := m } := by
  unfold hostSpoil
  dsimp only
  split
  · exact armClose_frame _ _
  · exact ⟨_, rfl⟩

/-- The host's spoil between facets latches at once. -/
theorem dkSpoilOp_latches {s : State} (h : s.docket.st = .armed) (hf : s.docket.facetOpen = false) :
    ∃ m b v, dkSpoilOp s = { s with
      docket := { s.docket with
        spoil := true, st := .spoiled, fresh := true, outcome := 1, spoilFault := 0, faultValid := false
        flags := s.docket.flags ||| 0 ||| 0
        firstSpoil := if s.docket.written = s.docket.planned then 0xFFFF_FFFF else s.docket.written, facetOpen := false }
      motors := m, beam := b, video := v } := by
  have hp : pageInFlight s = true := by
    rw [pageInFlight, h]
    rfl
  obtain ⟨m, hm⟩ := hostSpoil_frame { s with docket := { s.docket with spoil := true } }
  have hl : latchSpoil .host none 0 { s with docket := { s.docket with spoil := true } } = blankBeams { s with
      docket := { s.docket with
        spoil := true, st := .spoiled, fresh := true, outcome := 1, spoilFault := 0, faultValid := false
        flags := s.docket.flags ||| 0 ||| 0
        firstSpoil := if s.docket.written = s.docket.planned then 0xFFFF_FFFF else s.docket.written, facetOpen := false }
      video := { s.video with running := false } } :=
    latchSpoil_armed (s := { s with docket := { s.docket with spoil := true } }) h
  rw [hl] at hm
  have hop : dkSpoilOp s = hostSpoil { s with docket := { s.docket with spoil := true } } := by
    rw [dkSpoilOp, if_pos hp]
    exact if_neg fun e => Bool.false_ne_true (hf.symm.trans e.2)
  exact ⟨m, _, _, hop.trans hm⟩

/-- Closing a docket with a page in flight. -/
theorem closeDocket_open {s : State} (h : pageInFlight s = true) : closeDocket s = { s with
    docket := { s.docket with
      st := .closed, arm := false, spoil := false, close := false, blanked := s.docket.planned - s.docket.written
      mediaPos := mediaPos s, tEnd := s.devtime, facetOpen := false }
    dkStore := { s.dkStore with state := 2 } } := if_pos h

/-- The docket of a page that DK_CTRL.CLOSE closes. -/
theorem dkCloseOp_docket {s : State} (h : pageInFlight s = true) : (dkCloseOp s).docket = { s.docket with
    st := .closed, arm := false, spoil := false, close := false, blanked := s.docket.planned - s.docket.written
    mediaPos := mediaPos s, tEnd := s.devtime, facetOpen := false } := by
  rw [dkCloseOp, commitDocket_docket, closeDocket_open h]

theorem dkCloseOp_mem (s : State) : (dkCloseOp s).mem = s.mem := by
  rw [dkCloseOp, commitDocket_mem, closeDocket_mem]

theorem dkCloseOp_counters (s : State) : (dkCloseOp s).counters = s.counters := by
  rw [dkCloseOp, commitDocket_counters, closeDocket_counters]

/-- Settles O18: at close DK_BLANKED is what is planned and not written. -/
theorem linesAddUp : Obligations.LinesAddUp := by
  intro m s h hp
  refine ⟨_, exec_of_dkCtrl rfl h, ?_, ?_⟩
  · rw [dkCtrl_close, dkCloseOp_docket hp]
  · rw [dkCtrl_close, dkCloseOp_docket hp]
    show s.docket.written + (s.docket.planned - s.docket.written) = s.docket.planned
    rw [BitVec.add_comm, BitVec.sub_add_cancel]

end Sys2Proof.Machine
end

section
/-! Pages that start, are spoiled and end (R60-R74, R301): START_PAGE, SPOIL_PAGE and GET_DOCKET, top of form and the close
point. -/

namespace Sys2Proof.Machine

/-! ## Arming -/

theorem dkArmOp_docket {s : State} (h : s.docket.st = .idle) (hi : s.beam.intlk = true) :
    (dkArmOp s).docket = { s.docket with st := .armed, arm := true, tStart := s.devtime } := by
  obtain ⟨x, b, v, -, e⟩ := dkArmOp_arms h hi
  rw [e]

/-- Armed in READY, the tally takes the device into PRINTING, and an admission in hand ends. -/
theorem dkArmOp_ready {s : State} (h : s.docket.st = .idle) (hi : s.beam.intlk = true) (hm : s.sys.mode = 2) :
    (dkArmOp s).sys.mode = 3 ∧ Lapsed s (dkArmOp s) := by
  obtain ⟨x, b, v, hx, e⟩ := dkArmOp_arms h hi
  rw [if_pos hm] at hx
  rw [e, hx]
  refine ⟨?_, lapseAdmission_lapsed s⟩
  show (if s.sys.mode = 2 then 3 else s.sys.mode) = 3
  rw [if_pos hm]

theorem dkArmOp_keeps {s : State} (h : s.docket.st = .idle) (hi : s.beam.intlk = true) :
    (dkArmOp s).mem = s.mem ∧ (dkArmOp s).counters = s.counters ∧ (dkArmOp s).sinov.page = s.sinov.page ∧
      (dkArmOp s).dkStore.handle = s.dkStore.handle ∧ (dkArmOp s).dkStore.pageId = s.dkStore.pageId := by
  obtain ⟨x, b, v, hx, e⟩ := dkArmOp_arms h hi
  have hk : x.mem = s.mem ∧ x.counters = s.counters ∧ x.sinov.page = s.sinov.page := by
    rw [hx]
    split
    · obtain ⟨adm, wait, rsv, pres, e'⟩ := lapseAdmission_eq s
      rw [e']
      exact ⟨rfl, rfl, rfl⟩
    · exact ⟨rfl, rfl, rfl⟩
  rw [e]
  exact ⟨hk.1, hk.2.1, hk.2.2, rfl, rfl⟩

/-! ## A facet's end, top of form and the close point -/

theorem facetEndOp_counts {s : State} (h : s.docket.st = .armed) (hf : s.docket.facetOpen = true)
    (hs : s.docket.spoil = false) :
    (facetEndOp s).docket = { s.docket with
        written := s.docket.written + s.docket.beams.setWidth 32, facets := s.docket.facets + 1, facetOpen := false } ∧
      (facetEndOp s).mem = s.mem ∧ (facetEndOp s).counters = s.counters := by
  unfold facetEndOp
  rw [if_pos ⟨h, hf⟩]
  extract_lets d x
  have hx : x.docket = { s.docket with
      written := s.docket.written + s.docket.beams.setWidth 32, facets := s.docket.facets + 1, facetOpen := false } := rfl
  rw [hx, if_neg (by rw [hs]; decide)]
  split
  · obtain ⟨m, e⟩ := armClose_frame 0 x
    rw [e]
    exact ⟨hx, rfl, rfl⟩
  · exact ⟨hx, rfl, rfl⟩

/-- The state in which compare 0 of the media channel has been passed and RUN may start. -/
def formPassed (s : State) : State :=
  { s with
    motors := vmod s.motors (chanIdx s.docket.mediaCh) fun m => { m with events := m.events ||| 0x10, cmpEn := setBit m.cmpEn 0 false }
    docket := { s.docket with tof := true }
    beam := { s.beam with sync := if s.beam.sync = .locked then .run else s.beam.sync } }

/-- A page whose top of form has come, with the close point of a host spoil that waited for it. -/
def formClosing (s : State) : State :=
  if s.docket.st = .spoiled ∧ s.docket.outcome = 1 then armClose (restTravel (formPassed s)) (formPassed s) else formPassed s

theorem topOfForm_eq {s : State} (hp : pageInFlight s = true)
    (hc : s.motors[chanIdx s.docket.mediaCh].cmpEn.getLsbD 0 = true)
    (hd : s.motors[chanIdx s.docket.mediaCh].diagSet = none) :
    topOfForm s = if s.beam.sync = .acquire then bdMiss (formClosing s) else formClosing s := by
  have hpass : ∀ x : State, x = motMod (chanIdx s.docket.mediaCh) (fun m =>
      { m with events := m.events ||| 0x10, cmpEn := setBit m.cmpEn 0 false }) s →
      formStart x = if s.beam.sync = .acquire then bdMiss (formClosing s) else formClosing s := fun x hx => by
    subst hx
    unfold formStart
    simp only [decide_eq_true_eq]
    rfl
  unfold topOfForm compare0
  rw [if_pos ⟨hc, hd⟩]
  dsimp only
  rw [hpass _ rfl]
  exact if_pos ⟨hp, rfl⟩

theorem armClose_events (um : Nat) (k : Fin 6) (s : State) : (armClose um s).motors[k].events = s.motors[k].events := by
  unfold armClose
  split
  · show (vmod s.motors (chanIdx s.docket.mediaCh) _)[k].events = _
    by_cases h : k = chanIdx s.docket.mediaCh
    · rw [h, vmod_same]
    · rw [vmod_other _ _ _ _ h]
  · rfl

theorem formPassed_events (s : State) : (formPassed s).motors[chanIdx s.docket.mediaCh].events =
    s.motors[chanIdx s.docket.mediaCh].events ||| 0x10 := congrArg Motor.events (vmod_same _ _ _)

/-- What is kept of a page at its top of form. -/
theorem formClosing_frame (s : State) : ∃ m, formClosing s = { formPassed s with motors := m } ∧
    m[chanIdx s.docket.mediaCh].events = s.motors[chanIdx s.docket.mediaCh].events ||| 0x10 := by
  unfold formClosing
  split
  · obtain ⟨m, e⟩ := armClose_frame (restTravel (formPassed s)) (formPassed s)
    have hev := armClose_events (restTravel (formPassed s)) (chanIdx s.docket.mediaCh) (formPassed s)
    rw [e] at hev
    exact ⟨m, e, hev.trans (formPassed_events s)⟩
  · exact ⟨_, rfl, formPassed_events s⟩

theorem pageCloses_runs {s : State} (h : sinovRuns s = true) : pageCloses s = dkCloseOp { s with
    motors := (stopPageMotors { s with pix := rampEn false s.pix }).motors, pix := rampEn false s.pix
    docket := { s.docket with close := true } } := if_pos h

/-- The close point of the page in flight: the docket closes and the ramp stops (R301). -/
theorem closePointOp_closes {s : State} (hp : pageInFlight s = true)
    (hc : s.motors[chanIdx s.docket.mediaCh].cmpEn.getLsbD 1 = true) (hr : sinovRuns s = true) :
    ∃ m, closePointOp s = dkCloseOp { s with
      motors := m, pix := rampEn false s.pix, docket := { s.docket with close := true } } := by
  unfold closePointOp compare1
  rw [if_pos hc]
  exact ⟨_, (if_pos ⟨hp, rfl⟩).trans (pageCloses_runs hr)⟩

theorem dkCloseOp_pix (s : State) : (dkCloseOp s).pix = s.pix := by
  obtain ⟨d, k, e⟩ := closeDocket_frame s
  obtain ⟨k', w, e'⟩ := commitDocket_frame (closeDocket s)
  rw [dkCloseOp, e', e]

theorem pageInFlight_of_spoiled {s : State} (h : s.docket.st = .spoiled) : pageInFlight s = true := by
  rw [pageInFlight, h]
  rfl

theorem pageInFlight_of_armed {s : State} (h : s.docket.st = .armed) : pageInFlight s = true := by
  rw [pageInFlight, h]
  rfl

theorem getLsbD_or_bit (v : Byte) : (v ||| 8).getLsbD 3 = true := by
  rw [BitVec.getLsbD_or, show (8 : Byte).getLsbD 3 = true by decide, Bool.or_true]

/-- Settles O17: each operation of the tally, and each of the page's compares. -/
theorem tallyCountsAndPagesEnd : Obligations.TallyCountsAndPagesEnd := by
  refine ⟨⟨fun m s h hst hi => ?_, fun m s h hst hf => ?_, fun m s h hst hf => ?_, fun m s h hp => ?_, fun m s h hst => ?_,
    fun s hst hf hs => ?_⟩, fun s hp hc hd hsync => ?_, fun s hst hc hd hsync hn => ?_, fun s hp hc hr => ?_,
    fun s hst hr => ?_⟩
  · obtain ⟨hmem, hcnt, -⟩ := dkArmOp_keeps hst hi
    exact ⟨_, exec_of_dkCtrl rfl h, dkArmOp_docket hst hi, dkArmOp_ready hst hi, memSame_of_mem hmem, hcnt⟩
  · obtain ⟨mo, b, v, e⟩ := dkSpoilOp_latches hst hf
    refine ⟨_, exec_of_dkCtrl rfl h, ?_⟩
    rw [dkCtrl_spoil, e]
    exact ⟨rfl, rfl, rfl, rfl, memSame_of_mem rfl, rfl⟩
  · rw [exec_of_dkCtrl rfl h, dkCtrl_spoil, dkSpoilOp_waits hst hf]
  · refine ⟨_, exec_of_dkCtrl rfl h, ?_⟩
    rw [dkCtrl_close, dkCloseOp_docket hp, dkCloseOp_counters]
    exact ⟨rfl, rfl, rfl, rfl, rfl, memSame_of_mem (dkCloseOp_mem s), rfl⟩
  · rw [exec_of_dkCtrl rfl h, dkCtrl_release]
    simp only [dkReleaseOp, hst]
  · obtain ⟨hd, hmem, hcnt⟩ := facetEndOp_counts hst hf hs
    exact ⟨_, rfl, hd, memSame_of_mem hmem, hcnt⟩
  · have e := topOfForm_eq hp hc hd
    obtain ⟨m, em, hev⟩ := formClosing_frame s
    rw [if_neg hsync, em] at e
    exact ⟨_, congrArg Host.Outcome.next e, rfl, hev, fun hl => if_pos hl, memSame_of_mem rfl, rfl⟩
  · have e := topOfForm_eq (pageInFlight_of_armed hst) hc hd
    obtain ⟨m, em, -⟩ := formClosing_frame s
    rw [if_pos hsync, em] at e
    have hsp := raiseFault_spoils (f := 0x90) (s := { formPassed s with
      motors := m, beam := { (formPassed s).beam with evMiss := true } }) rfl rfl hst hn (by decide) (by decide)
    exact ⟨_, congrArg Host.Outcome.next e, hsp, raiseFault_stands rfl _⟩
  · obtain ⟨m, e⟩ := closePointOp_closes hp hc hr
    refine ⟨_, congrArg Host.Outcome.next e, ?_⟩
    rw [dkCloseOp_docket (show pageInFlight { s with
      motors := m, pix := rampEn false s.pix, docket := { s.docket with close := true } } = true from hp),
      dkCloseOp_pix, dkCloseOp_counters]
    exact ⟨rfl, rfl, rfl, memSame_of_mem (dkCloseOp_mem _), rfl⟩
  · have hp := pageInFlight_of_spoiled hst
    have e : safeStopLate s = dkCloseOp { s with docket := { s.docket with flags := s.docket.flags ||| 8 } } := if_pos hst
    refine ⟨_, congrArg Host.Outcome.next e, ?_⟩
    rw [dkCloseOp_docket (show pageInFlight { s with
      docket := { s.docket with flags := s.docket.flags ||| 8 } } = true from hp), dkCloseOp_counters]
    exact ⟨rfl, getLsbD_or_bit _, rfl, memSame_of_mem (dkCloseOp_mem _), rfl⟩

end Sys2Proof.Machine
end

section
/-! START_PAGE, SPOIL_PAGE and GET_DOCKET (R60-R63, R68, R121, R355). -/

namespace Sys2Proof.Machine

/-! ## The handle of a page command -/

theorem handleField (h : BitVec 16) : fieldLe (toLe h 2 ++ [0, 0]) 0 2 = h.toNat ∧
    fieldLe (toLe h 2 ++ [0, 0]) 2 2 = 0 ∧ lenNot (toLe h 2 ++ [0, 0]) 4 = false :=
  ⟨fieldLe_toLe_append h (by decide) _, fieldLe_toLe_skip h 2 0 2 _, lenNot_of_length rfl⟩

theorem handleBad_self (h : BitVec 16) : (lenNot (toLe h 2 ++ [0, 0]) 4 || !reserved (toLe h 2 ++ [0, 0]) 2 2 ||
    decide (fieldLe (toLe h 2 ++ [0, 0]) 0 2 ≠ h.toNat)) = false := by
  obtain ⟨h1, h2, h3⟩ := handleField h
  rw [h1, h3, reserved_of_zero h2, decide_eq_false (not_not_intro rfl)]
  rfl

theorem handleBad_other {h k : BitVec 16} (hk : h ≠ k) : (lenNot (toLe h 2 ++ [0, 0]) 4 ||
    !reserved (toLe h 2 ++ [0, 0]) 2 2 || decide (fieldLe (toLe h 2 ++ [0, 0]) 0 2 ≠ k.toNat)) = true := by
  rw [(handleField h).1, decide_eq_true (show h.toNat ≠ k.toNat from fun e => hk (BitVec.eq_of_toNat_eq e)), Bool.or_true]

/-! ## What a page's start writes -/

theorem resumePll_pix_frame (s : State) : ∃ c x, resumePll 3 s = { s with clk := c, pix := x } := by
  unfold resumePll
  split
  · exact ⟨_, _, rfl⟩
  · exact ⟨_, _, rfl⟩

theorem prCtrlOp_frame (v : Word) (s : State) : ∃ c x, prCtrlOp v s = { s with clk := c, pix := x } := by
  unfold prCtrlOp
  dsimp only
  split
  · obtain ⟨c, x, e⟩ := resumePll_pix_frame { s with pix := { rampEn (v.getLsbD 0) s.pix with
      profile := Fin.ofNat 8 (v >>> 4).toNat } }
    rw [e]
    exact ⟨_, _, rfl⟩
  · exact ⟨_, _, rfl⟩

theorem prNfrac_frame (v : Word) (s : State) : ∃ x, prNfrac v s = { s with pix := x } := by
  unfold prNfrac
  split <;> exact ⟨_, rfl⟩

theorem prNom_frame (v : Word) (s : State) : ∃ x, prNom v s = { s with pix := x } := by
  unfold prNom
  split <;> exact ⟨_, rfl⟩

theorem pageRegisters_frame (d : Desc) (s : State) :
    ∃ c x v b, pageRegisters d s = { s with clk := c, pix := x, video := v, beam := b } ∧ b.intlk = s.beam.intlk := by
  unfold pageRegisters
  extract_lets pd w per s₁ s₂ s₃
  obtain ⟨x1, e1⟩ : ∃ x, s₁ = { s with pix := x } := prNfrac_frame _ s
  obtain ⟨x2, e2⟩ : ∃ x, s₂ = { s₁ with pix := x } := prNom_frame _ s₁
  obtain ⟨c, x3, e3⟩ : ∃ c x, s₃ = { s₂ with clk := c, pix := x } := prCtrlOp_frame _ s₂
  rw [e1] at e2
  rw [e2] at e3
  refine ⟨c, x3, _, _, by rw [e3], ?_⟩
  show s₃.beam.intlk = _
  rw [e3]

/-- The motors, and what Sinov notes of channels to start, are all that changes. -/
def MotorsOnly (s t : State) : Prop := ∃ m mc, t = { s with motors := m, sinov := { s.sinov with motor := mc } }

theorem MotorsOnly.refl (s : State) : MotorsOnly s s := ⟨_, _, rfl⟩

theorem MotorsOnly.trans {s t u : State} (h : MotorsOnly s t) (k : MotorsOnly t u) : MotorsOnly s u := by
  obtain ⟨_, _, rfl⟩ := h
  obtain ⟨_, _, rfl⟩ := k
  exact ⟨_, _, rfl⟩

theorem MotorsOnly.foldl {α : Type} {f : State → α → State} (hf : ∀ x a, MotorsOnly x (f x a)) (l : List α) (s : State) :
    MotorsOnly s (l.foldl f s) := by
  induction l generalizing s with
  | nil => exact .refl s
  | cons a l ih => exact (hf s a).trans (ih (f s a))

theorem motorsOnly_motMod (k : Fin 6) (f : Motor → Motor) (s : State) : MotorsOnly s (motMod k f s) := ⟨_, _, rfl⟩

theorem motorsOnly_motStartOp (k : Fin 6) (s : State) : MotorsOnly s (motStartOp k s) := by
  unfold motStartOp
  dsimp only
  split
  · split <;> exact motorsOnly_motMod _ _ _
  · exact .refl s

theorem pageMotors_frame (d : Desc) (s : State) : MotorsOnly s (pageMotors d s) := by
  unfold pageMotors
  extract_lets k s₁ dist s₂
  have h1 : MotorsOnly s s₁ := motorsOnly_motMod _ _ s
  have h2 : MotorsOnly s₁ s₂ := motorsOnly_motMod _ _ s₁
  refine (h1.trans h2).trans (.foldl (fun x j => ?_) _ _)
  split
  · split
    · exact motorsOnly_motStartOp _ _
    · exact ⟨_, _, rfl⟩
  · exact .refl x

/-- Once released the docket is idle with nothing written. -/
theorem dkReleaseOp_idle {s : State} (h : s.docket.st = .idle ∧ s.docket.written = 0 ∨ s.docket.st = .closed) :
    ∃ d, dkReleaseOp s = { s with docket := d } ∧ d.st = .idle ∧ d.written = 0 := by
  rcases h with ⟨h, h'⟩ | h
  · refine ⟨s.docket, ?_, h, h'⟩
    simp only [dkReleaseOp, h]
  · refine ⟨{ Docket.reset with planned := s.docket.planned, beams := s.docket.beams, mediaCh := s.docket.mediaCh }, ?_, rfl,
      rfl⟩
    simp only [dkReleaseOp, h]

/-- A page starts: its docket is ARMED, and the engine's registers and motors are its own. -/
theorem startPage_starts {n : Fin 8} {a : Admission} {s : State}
    (h : s.docket.st = .idle ∧ s.docket.written = 0 ∨ s.docket.st = .closed) (hi : s.beam.intlk = true)
    (hm : s.sys.mode = 2) :
    let t := startPage n a s
    t.sys.mode = 3 ∧ t.docket.st = .armed ∧ t.docket.tStart = s.devtime ∧
      t.docket.planned = BitVec.ofNat 32 (descOf a.desc).lines ∧ t.docket.written = 0 ∧ t.sinov.page = some a ∧
      t.sinov.admission = none ∧ t.dkStore.handle = a.handle ∧ t.dkStore.pageId = BitVec.ofNat 32 (descOf a.desc).pageId ∧
      t.counters = afterReply n .ok 0 [] s ∧ MemSame s t := by
  obtain ⟨d, hd, hst, hw⟩ := dkReleaseOp_idle (s := { s with sinov := { s.sinov with page := some a, admission := none } }) h
  have hcfg : ∀ (v w : Word) (x : State), x.docket.st = .idle → ∃ e, dkCfg v (dkPlanned w x) = { x with docket := e } ∧
      e.st = .idle ∧ e.planned = w ∧ e.written = x.docket.written := fun v w x hx => by
    have hp : dkPlanned w x = { x with docket := { x.docket with planned := w } } := by simp only [dkPlanned, hx]
    have hc : dkCfg v { x with docket := { x.docket with planned := w } } = { x with docket := { x.docket with
        planned := w, mediaCh := bits v 4 3
        beams := if 1 ≤ (bits v 0 3 : BitVec 3).toNat ∧ (bits v 0 3 : BitVec 3).toNat ≤ 4 then bits v 0 3
          else x.docket.beams } } := by simp only [dkCfg, hx]
    exact ⟨_, (congrArg (dkCfg v) hp).trans hc, hx, rfl, rfl⟩
  obtain ⟨e, he, hest, hepl, hew⟩ := hcfg (BitVec.ofNat 32 ((descOf a.desc).beams + 16 * (descOf a.desc).media))
    (BitVec.ofNat 32 (descOf a.desc).lines) { s with
      sinov := { s.sinov with page := some a, admission := none }, docket := d } hst
  obtain ⟨c, x, v, b, hpr, hbi⟩ := pageRegisters_frame (descOf a.desc) { s with
    sinov := { s.sinov with page := some a, admission := none }, docket := e }
  obtain ⟨m, mc, hpm⟩ := pageMotors_frame (descOf a.desc) { s with
    sinov := { s.sinov with page := some a, admission := none }, docket := e, clk := c, pix := x, video := v, beam := b }
  have hstart : ∃ y : State, startPage n a s = answer n .ok (dkArmOp y) ∧ y.docket = e ∧ y.beam = b ∧ y.sys = s.sys ∧
      y.mem = s.mem ∧ y.counters = s.counters ∧ y.sinov.page = some a ∧ y.dkStore.handle = a.handle ∧
      y.dkStore.pageId = BitVec.ofNat 32 (descOf a.desc).pageId ∧ y.devtime = s.devtime := by
    unfold startPage
    dsimp only
    rw [hd, he, hpr, hpm]
    exact ⟨_, rfl, rfl, rfl, rfl, rfl, rfl, rfl, rfl, rfl, rfl⟩
  obtain ⟨y, hstart, hyd, hyb, hys, hym, hyc, hyp, hyh, hyi, hyt⟩ := hstart
  have hyst : y.docket.st = .idle := by rw [hyd, hest]
  have hyl : y.beam.intlk = true := by rw [hyb, hbi, ← hi]
  have hdk := dkArmOp_docket hyst hyl
  obtain ⟨hmem, hcnt, hpage, hhandle, hid⟩ := dkArmOp_keeps hyst hyl
  obtain ⟨hmode, hadm, -⟩ := dkArmOp_ready hyst hyl (by rw [hys, hm])
  rw [hyd, hyt] at hdk
  have hans : (startPage n a s).counters = afterReply n .ok 0 [] s := by
    rw [hstart, congrArg State.counters (answer_answered n .ok (dkArmOp y)), afterReply, hcnt, hyc]
    rfl
  have hdocket : (startPage n a s).docket = { e with st := .armed, arm := true, tStart := s.devtime } := by
    rw [hstart]
    exact hdk
  dsimp only
  rw [hans, hdocket, hstart]
  exact ⟨hmode, rfl, rfl, hepl, hew.trans hw, hpage.trans hyp, hadm, hhandle.trans hyh, hid.trans hyi, rfl,
    memSame_of_mem (hmem.trans hym)⟩

/-- READY alone lists START_PAGE (R115). -/
theorem mode_of_startPage {n : Fin 8} {s : State} (h : Executes 0x0201 n s) : s.sys.mode = 2 := by
  obtain ⟨-, -, -, -, r, hr, -, hm⟩ := h
  obtain rfl : (⟨false, false, true, false⟩ : CmdRow) = r := Option.some.inj hr
  by_contra hne
  rw [modeOk_ready hne] at hm
  exact Bool.false_ne_true hm

theorem startCmd_starts {n : Fin 8} {a : Admission} {s : State} (ha : s.sinov.admission = some a) (hn : a.counter = n)
    (hr : s.sy.run = true) (h5 : (checkA5 s (warmer s)).all itemOk = true) (h7 : (checkA7 s).all itemOk = true) :
    startCmd n (toLe a.handle 2 ++ [0, 0]) s = startPage n a s := by
  unfold startCmd
  rw [ha]
  dsimp only
  rw [handleBad_self, hn, hr, if_neg (by decide), if_neg (by simp), if_pos rfl, h5, h7]
  rfl

theorem startCmd_foreign {n : Fin 8} {a : Admission} {s : State} (ha : s.sinov.admission = some a) (hn : a.counter ≠ n) :
    startCmd n (toLe a.handle 2 ++ [0, 0]) s = answer n .notPermitted s := by
  unfold startCmd
  rw [ha]
  dsimp only
  rw [handleBad_self, if_neg (by decide), if_pos fun e => hn e.symm]

/-- The host that may spoil: the page's own counter, or one of higher rank. -/
theorem spoilCmd_spoils {n : Fin 8} {a : Admission} {s : State} (ha : s.sinov.page = some a)
    (hn : a.counter = n ∨ s.counters[a.counter].rank < s.counters[n].rank) (hst : s.docket.st = .armed)
    (hs : s.docket.spoil = false) :
    spoilCmd n (toLe a.handle 2 ++ [0, 0]) s =
      answer n .ok (dkSpoilOp { s with dkStore := { s.dkStore with counter := BitVec.ofNat 8 n.val } }) := by
  have hperm : (decide (n ≠ a.counter) && decide (s.counters[n].rank ≤ s.counters[a.counter].rank)) = false := by
    rcases hn with hn | hn
    · rw [decide_eq_false (not_not_intro hn.symm), Bool.false_and]
    · rw [decide_eq_false (not_le.mpr hn), Bool.and_false]
  unfold spoilCmd
  rw [ha]
  dsimp only
  rw [handleBad_self, hperm, judged_pass, judged_pass, judged_run, hst, hs]
  rfl

theorem spoilCmd_wrong {n : Fin 8} {a : Admission} {h : BitVec 16} {s : State} (ha : s.sinov.page = some a)
    (hh : h ≠ a.handle) : spoilCmd n (toLe h 2 ++ [0, 0]) s = answer n .badArg s := by
  unfold spoilCmd
  rw [ha]
  dsimp only
  rw [handleBad_other hh, judged_fail]

/-! ## GET_DOCKET -/

theorem docketBody_length (s : State) (c : Byte) : (docketBody s c).length = 96 := by
  simp only [docketBody, List.length_append, toLe_length, List.length_cons, List.length_nil]

/-- Bytes 8-19 of a docket record: the lines planned, written and blanked. -/
theorem docketBody_tally (s : State) (c : Byte) : ((docketBody s c).drop 8).take 12 =
    toLe s.docket.planned 4 ++ toLe s.docket.written 4 ++ toLe s.docket.blanked 4 := by
  unfold docketBody
  simp only [List.append_assoc]
  rw [← List.append_assoc (toLe s.dkStore.pageId 4), ← List.append_assoc _ [_, _] _, List.drop_left' (by
    simp only [List.length_append, toLe_length, List.length_cons, List.length_nil])]
  rw [← List.append_assoc (toLe s.docket.written 4), ← List.append_assoc (toLe s.docket.planned 4), List.take_left' (by
    simp only [List.length_append, toLe_length])]

/-- The tally that runs, as GET_DOCKET shows it. -/
def liveDocket (s : State) : State :=
  { s with docket := { s.docket with outcome := 0, tEnd := 0, mediaPos := mediaPos s } }

/-- The body that GET_DOCKET answers. -/
def docketShown (s : State) : List Byte :=
  match s.dkStore.state.toNat with
  | 0 => List.replicate 96 0
  | 3 => docketBody (liveDocket s) 0
  | _ => slice s.dkStore.body 0 96

theorem docketReply_eq (s : State) : docketReply s = [s.dkStore.state.setWidth 8, 0, 0, 0] ++
    (if s.dkStore.state = 1 then toLe s.dkStore.seq 8 else List.replicate 8 0) ++ docketShown s := rfl

theorem docketShown_length (s : State) : (docketShown s).length = 96 := by
  unfold docketShown
  split
  · exact List.length_replicate
  · exact docketBody_length _ _
  · exact slice_length _ _ _

/-- Settles O16: each page command passes its checks, and starts, spoils or shows its page. -/
theorem pagesAreStartedAndSpoiled : Obligations.PagesAreStartedAndSpoiled := by
  refine ⟨fun n s a h ha hn hp hr h5 h7 hst hi => ?_, fun n s a h ha hn hp => ?_, fun n s a h ha hp hn hst hs => ?_,
    fun n s a k h ha hp hk => ?_, fun n s h hp => ?_⟩
  · have hx : exec (.startPage n) s = .next (startPage n a s) := by
      rw [exec_of_frame rfl h rfl, hp, startCmd_starts ha hn hr h5 h7]
    exact ⟨_, hx, startPage_starts hst hi (mode_of_startPage h)⟩
  · exact ⟨_, by rw [exec_of_frame rfl h rfl, hp, startCmd_foreign ha hn], answer_answered n _ s⟩
  · have hx : exec (.spoilPage n) s = .next (answer n .ok (dkSpoilOp { s with
        dkStore := { s.dkStore with counter := BitVec.ofNat 8 n.val } })) := by
      rw [exec_of_frame rfl h rfl, hp, spoilCmd_spoils ha hn hst hs]
    cases hf : s.docket.facetOpen with
    | true =>
      rw [dkSpoilOp_waits (s := { s with dkStore := { s.dkStore with counter := BitVec.ofNat 8 n.val } }) hst hf] at hx
      exact ⟨_, hx, rfl, congrArg State.counters (answer_answered n .ok _), memSame_of_mem rfl, rfl, fun _ => rfl,
        fun hno => absurd hno (by simp)⟩
    | false =>
      obtain ⟨m, b, v, e⟩ := dkSpoilOp_latches (s := { s with
        dkStore := { s.dkStore with counter := BitVec.ofNat 8 n.val } }) hst hf
      rw [e] at hx
      exact ⟨_, hx, rfl, congrArg State.counters (answer_answered n .ok _), memSame_of_mem rfl, rfl,
        fun hno => absurd hno (by simp), fun _ => ⟨rfl, rfl, rfl, rfl⟩⟩
  · exact ⟨_, by rw [exec_of_frame rfl h rfl, hp, spoilCmd_wrong ha hk], answer_answered n _ s⟩
  · have hx : exec (.getDocket n) s = .next (answerOk n (docketReply s) s) := by
      rw [exec_of_frame rfl h rfl, hp]
      rfl
    refine ⟨_, docketShown s, hx, ?_, docketShown_length s, fun h0 => ?_, fun h12 => ?_, fun h3 => ?_⟩
    · rw [← docketReply_eq]
      exact answerOk_answered n _ s
    · rw [docketShown, h0]
      rfl
    · rcases h12 with e | e
      · rw [docketShown, e]
        rfl
      · rw [docketShown, e]
        rfl
    · have e : docketShown s = docketBody (liveDocket s) 0 := by
        rw [docketShown, h3]
        rfl
      exact ⟨e, e ▸ docketBody_tally (liveDocket s) 0⟩

end Sys2Proof.Machine
end

section
/-! Memory that is written and read back, and the Till, time, option and diagnostic commands (R131, R132, R138, R140,
R367). -/

namespace Sys2Proof.Machine

/-! ## Bytes written and read back -/

theorem Mem.read_writeAll_at {m : Mem} {a i : Nat} {bs : List Byte} (h : m.wf = true) (hi : i < bs.length) :
    (m.writeAll a bs).read (a + i) = bs.getD i 0 := by
  induction bs generalizing m a i with
  | nil => exact absurd hi (by simp)
  | cons b bs ih =>
    rw [Mem.writeAll]
    cases i with
    | zero =>
      show ((m.write a b).writeAll (a + 1) bs).read a = b
      rw [Mem.read_writeAll_other (.inl (Nat.lt_add_one a)), Mem.read_write_same h]
    | succ i =>
      rw [show a + (i + 1) = a + 1 + i by omega, ih (Mem.write_wf h) (by simpa using hi)]
      rfl

/-- A write of bytes changes no byte outside them. -/
theorem memSameBut_memPut (s : State) (a : Nat) (bs : List Byte) : MemSameBut a bs.length s (memPut s a bs) :=
  fun _ hx => Mem.read_writeAll_other hx

theorem MemSameBut.trans {lo n : Nat} {s t u : State} (h : MemSameBut lo n s t) (k : MemSameBut lo n t u) :
    MemSameBut lo n s u := fun a ha => (k a ha).trans (h a ha)

theorem MemSameBut.widen {lo n lo' n' : Nat} {s t : State} (h : MemSameBut lo n s t) (h1 : lo' ≤ lo)
    (h2 : lo + n ≤ lo' + n') : MemSameBut lo' n' s t := fun a ha => h a (by omega)

theorem MemSameBut.congr {lo n : Nat} {s t u : State} (h : MemSameBut lo n s t) (hu : u.mem = t.mem) :
    MemSameBut lo n s u := fun a ha => (congrArg (Mem.read · a) hu).trans (h a ha)

theorem MemSameBut.refl {lo n : Nat} (s : State) : MemSameBut lo n s s := fun _ _ => rfl

/-! ## Ledger and time -/

theorem tillAppendCmd_passes {n : Fin 8} {p : List Byte} {s : State} (h1 : 5 ≤ p.length) (h2 : p.length ≤ 164)
    (h3 : fieldLe p 2 2 = 0) (h4 : tillNone s = false) :
    tillAppendCmd n p s =
      writeRecord n 0x0100 (BitVec.ofNat 16 (fieldLe p 0 2)) (p.drop 4) (.replySeq n) s := by
  unfold tillAppendCmd
  rw [decide_eq_false (by omega), decide_eq_false (by omega), reserved_of_zero h3, h4]
  rfl

theorem tillReleaseCmd_passes {n : Fin 8} {u : BitVec 64} {s : State} (h1 : s.till.oldest.toNat ≤ u.toNat)
    (h2 : u.toNat ≤ s.till.head.toNat) (h3 : 5 ≤ s.counters[n].rank.val) (h4 : resBusy s n = false)
    (h5 : s.till.stopped = false) (h6 : s.till.free = 0 ∨ tillNone s = false) :
    tillReleaseCmd n (toLe u 8) s =
      wantRecord { cmdWant n s 0x0050 0 [] (.replySeq n) with release := some u } (setRunning n s) := by
  have hu : fieldLe (toLe u 8) 0 8 = u.toNat := fieldLe_toLe_of_le u (by decide)
  have hlen : lenNot (toLe u 8) 8 = false := lenNot_of_length (toLe_length u 8)
  have hfull : (s.till.stopped || (decide (s.till.free ≠ 0) && tillNone s)) = false := by
    rcases h6 with h | h
    · rw [h5, h]
      rfl
    · rw [h5, h, Bool.and_false]
      rfl
  unfold tillReleaseCmd
  simp only [hu, hlen, h4, hfull, decide_eq_false (show ¬ u.toNat < s.till.oldest.toNat by omega),
    decide_eq_false (show ¬ s.till.head.toNat < u.toNat by omega), decide_eq_false (show ¬ s.counters[n].rank.val < 5 by omega),
    Bool.or_self, judged_pass, judged_run, ofNat_toNat]

theorem timeFields (v : BitVec 48) : fieldLe (toLe v 6 ++ [0, 0]) 0 6 = v.toNat ∧ fieldLe (toLe v 6 ++ [0, 0]) 6 2 = 0 ∧
    lenNot (toLe v 6 ++ [0, 0]) 8 = false :=
  ⟨fieldLe_toLe_append v (by decide) _, fieldLe_toLe_skip v 6 0 2 _, lenNot_of_length (by rw [List.length_append, toLe_length]; rfl)⟩

theorem timeSetCmd_passes {n : Fin 8} {v : BitVec 48} {s : State} (h1 : resBusy s n = false)
    (h2 : s.sinov.timeWait = none) (h3 : s.rtc.pending = false) (h4 : tillNone s = false) :
    timeSetCmd n (toLe v 6 ++ [0, 0]) s = setRunning n { s with
      sinov := { s.sinov with timeWait := some n }, rtc := { s.rtc with setSec := v, pending := true } } := by
  obtain ⟨f0, f1, hlen⟩ := timeFields v
  unfold timeSetCmd
  rw [hlen, reserved_of_zero f1, h1, h2, h3, h4, f0, ofNat_toNat]
  have happ : timeApply 1 { s with rtc := { s.rtc with setSec := v } } =
      { s with rtc := { s.rtc with setSec := v, pending := true } } := if_pos ⟨rfl, h3⟩
  refine Eq.trans judged_pass (judged_pass.trans (judged_pass.trans (judged_run.trans ?_)))
  dsimp only
  rw [happ]

theorem lostClearCmd_passes {n : Fin 8} {s : State} (h1 : s.rtc.valid = true) (h2 : resBusy s n = false)
    (h3 : tillNone s = false) : lostClearCmd n [] s =
      writeRecord n 0x0032 0 (toLe s.rtc.sec 6 ++ [0, 0]) (.reply n []) (timeLostClr 1 s) := by
  unfold lostClearCmd
  rw [h1, h2, h3]
  simp only [toLe_time]
  rfl

/-- TIME_LOST is cleared with its condition. -/
theorem timeLostClr_clears (s : State) : timeLostClr 1 s = { s with
    rtc := { s.rtc with lost := false }, hub := { s.hub with present := setBit s.hub.present 0xE3 false } } := by
  have h : timeLostClr 1 s = lostSync { s with rtc := { s.rtc with lost := false } } := if_pos rfl
  rw [h, lostSync]
  exact setCond_falls _ _

/-! ## Option records (R138) -/

theorem optOpenCmd_passes {n : Fin 8} {s : State} (h : resBusy s n = false) : optOpenCmd n [0, 0, 0, 0] s =
    answerOk n (List.replicate 8 0) { s with sinov := { s.sinov with
      optBuf := Vector.replicate 512 0, optLoaded := 0, optOpen := true } } := by
  unfold optOpenCmd
  rw [h]
  rfl

theorem loadFields (ofs : BitVec 16) (bs : List Byte) :
    let p := [1, 0] ++ toLe ofs 2 ++ bs
    p.length = 4 + bs.length ∧ fieldLe p 0 1 = 1 ∧ fieldLe p 1 1 = 0 ∧ fieldLe p 2 2 = ofs.toNat ∧
      ∀ i, p.getD (4 + i) 0 = bs.getD i 0 := by
  refine ⟨by simp only [List.length_append, toLe_length, List.length_cons, List.length_nil], ?_, ?_, ?_, fun i => ?_⟩
  · rw [List.append_assoc, List.cons_append, fieldLe_cons_zero]
    rfl
  · rw [List.append_assoc, List.cons_append, fieldLe_cons_succ, List.cons_append, fieldLe_cons_zero]
    rfl
  · rw [List.append_assoc, fieldLe_append_right (Nat.le_refl 2)]
    exact fieldLe_toLe_append ofs (by decide) _
  · have hlen : ([1, 0] ++ toLe ofs 2 : List Byte).length = 4 := by rw [List.length_append, toLe_length]; rfl
    rw [List.getD_append_right _ _ _ _ (by omega), hlen, Nat.add_sub_cancel_left]

/-- The buffer after a LOAD. -/
def loadedBuf (ofs : Nat) (bs : List Byte) (old : Vector Byte 512) : Vector Byte 512 :=
  Vector.ofFn fun i => if ofs ≤ i.val ∧ i.val < ofs + bs.length then bs.getD (i.val - ofs) 0 else old[i]

theorem optLoadCmd_passes {n : Fin 8} {ofs : BitVec 16} {bs : List Byte} {s : State} (h1 : 4 ≤ bs.length)
    (h2 : bs.length ≤ 224) (h3 : bs.length % 4 = 0) (h4 : ofs.toNat % 4 = 0) (h5 : ofs.toNat + bs.length ≤ 512)
    (h6 : resBusy s n = false) :
    ∃ seen, optLoadCmd n ([1, 0] ++ toLe ofs 2 ++ bs) s = answerOk n (List.replicate 8 0) { s with
      sinov := { s.sinov with optBuf := loadedBuf ofs.toNat bs s.sinov.optBuf, optLoaded := seen } } := by
  obtain ⟨hl, -, f1, f2, hget⟩ := loadFields ofs bs
  unfold optLoadCmd
  simp only [hl, f2, reserved_of_zero f1, h3, h4, h6, Nat.add_sub_cancel_left, hget,
    decide_eq_false (show ¬ bs.length < 4 by omega), decide_eq_false (show ¬ 224 < bs.length by omega),
    decide_eq_false (show ¬ 512 < ofs.toNat + bs.length by omega), ne_eq, not_true_eq_false, decide_false, Bool.not_true,
    Bool.or_self, judged_pass, judged_run]
  exact ⟨_, rfl⟩

theorem optCommitCmd_passes {n : Fin 8} {s : State} (h1 : optBufGood s = true) (h2 : resBusy s n = false)
    (h3 : tillNone s = false) : optCommitCmd n [2, 0, 0, 0] s =
      writeRecord n 0x0041 0 (toLe (optSeq s.sinov.optBuf.toList) 4 ++ sha256 s.sinov.optBuf.toList)
        (.optionCopies n s.sinov.optBuf.toList) s := by
  unfold optCommitCmd
  rw [h1, h2, h3]
  rfl

theorem exec_optionCommit {n : Fin 8} {k : Nat} {s : State} (h : Executes 0x0A03 n s) (hp : payload s n = [2, 0, 0, 0])
    (ha : afterRecord n s ≠ .copies) : exec (.optionWriteCommit n k) s = .next (optCommitCmd n [2, 0, 0, 0] s) := by
  have hsel : opIs 2 (payload s n) = true := by rw [hp]; rfl
  refine (congrArg Host.Outcome.next ((if_neg ha).trans ((runFrame_executes h hsel).trans ?_)))
  rw [hp]

/-- Once the OPTION_CHANGE record has committed, the command writes its copies. -/
theorem exec_optionCopies {n : Fin 8} {k : Nat} {rec seq : List Byte} {s : State}
    (h : s.sinov.after = some (.copies n rec seq)) (hr : sinovRuns s = true) :
    exec (.optionWriteCommit n k) s = .next (copiesFinish n k s) := by
  have ha : afterRecord n s = .copies := by simp only [afterRecord, h, hr, and_self, if_true]
  exact congrArg Host.Outcome.next (if_pos ha)

theorem copiesFinish_both {n : Fin 8} {k : Nat} {rec seq : List Byte} {s : State}
    (h : s.sinov.after = some (.copies n rec seq)) (hk : 2 ≤ k) :
    copiesFinish n k s = answerOk n seq (memPut (memPut { s with sinov := { s.sinov with after := none } }
      (copyAddr true) rec) (copyAddr false) rec) := by
  have hm : max 1 (min 2 k) = 2 := by omega
  simp only [copiesFinish, h, hm, optionCopies, Nat.le_refl, if_true, show 1 ≤ 2 by decide, show ¬ 2 < 2 by decide, if_false]

theorem copiesFinish_one {n : Fin 8} {k : Nat} {rec seq : List Byte} {s : State}
    (h : s.sinov.after = some (.copies n rec seq)) (hk : k < 2) :
    copiesFinish n k s = answerWith n .partly 1 seq (memPut { s with sinov := { s.sinov with after := none } }
      (copyAddr true) rec) := by
  have hm : max 1 (min 2 k) = 1 := by omega
  simp only [copiesFinish, h, hm, optionCopies, Nat.le_refl, if_true, show ¬ 2 ≤ 1 by decide, show 1 < 2 by decide, if_false]
  rfl

theorem memPut_wf {s : State} {a : Nat} {bs : List Byte} (h : s.mem.wf = true) : (memPut s a bs).mem.wf = true :=
  Mem.writeAll_wf h

/-- What the copies of an option record leave in memory. -/
theorem copies_written {rec : List Byte} {s x : State} (hx : x.mem = s.mem) (hl : rec.length = 512) :
    MemSameBut (copyAddr true) 512 s (memPut x (copyAddr true) rec) ∧
      MemSameBut (copyAddr false) 1536 s (memPut (memPut x (copyAddr true) rec) (copyAddr false) rec) ∧
      (s.mem.wf = true → ∀ i : Fin 512, memByte (memPut x (copyAddr true) rec) (copyAddr true + i.val) = rec.getD i.val 0 ∧
        memByte (memPut (memPut x (copyAddr true) rec) (copyAddr false) rec) (copyAddr true + i.val) = rec.getD i.val 0 ∧
        memByte (memPut (memPut x (copyAddr true) rec) (copyAddr false) rec) (copyAddr false + i.val) = rec.getD i.val 0) := by
  have hB : MemSameBut (copyAddr true) 512 s (memPut x (copyAddr true) rec) := fun a ha =>
    (memSameBut_memPut x (copyAddr true) rec a (by rw [hl]; exact ha)).trans (congrArg (Mem.read · a) hx)
  have hA := memSameBut_memPut (memPut x (copyAddr true) rec) (copyAddr false) rec
  rw [hl] at hA
  refine ⟨hB, (hB.widen (by decide) (by decide)).trans (hA.widen (by decide) (by decide)), fun hwf i => ?_⟩
  have hi : i.val < rec.length := by
    rw [hl]
    exact i.isLt
  have hwx : x.mem.wf = true := by rw [hx, hwf]
  have hBi : memByte (memPut x (copyAddr true) rec) (copyAddr true + i.val) = rec.getD i.val 0 :=
    Mem.read_writeAll_at hwx hi
  refine ⟨hBi, (hA _ (.inr ?_)).trans hBi, Mem.read_writeAll_at (memPut_wf hwx) hi⟩
  show 0x2_0000_0000 + 512 ≤ 0x2_0000_0400 + i.val
  omega

end Sys2Proof.Machine
end

section
/-! Diagnostic outputs (R140, R141): what starts and what stops with each, and the ledger, time, option and diagnostic
commands together. -/

namespace Sys2Proof.Machine

/-! ## DIAG_OUTPUT's payload and checks -/

/-- The payload of a DIAG_OUTPUT. -/
def diagPayload (o : Fin 16) (level dwell : BitVec 16) : List Byte :=
  [BitVec.ofNat 8 o.val, 0] ++ toLe level 2 ++ toLe dwell 2 ++ [0, 0]

theorem diagFields (o : Fin 16) (level dwell : BitVec 16) :
    let p := diagPayload o level dwell
    p.length = 8 ∧ fieldLe p 0 1 = o.val ∧ fieldLe p 1 1 = 0 ∧ fieldLe p 2 2 = level.toNat ∧ fieldLe p 4 2 = dwell.toNat ∧
      fieldLe p 6 2 = 0 := by
  have ho : (BitVec.ofNat 8 o.val).toNat = o.val := toNat_ofNat_fin o (by decide)
  dsimp only [diagPayload]
  refine ⟨by simp [toLe_length], ?_, ?_, ?_, ?_, ?_⟩ <;>
    simp only [List.append_assoc, List.cons_append, List.nil_append, fieldLe_cons_succ, fieldLe_cons_zero,
      fieldLe_toLe_skip _ 2 2, fieldLe_toLe_skip _ 2 0, fieldLe_toLe_append, Nat.reduceMul, Nat.reduceLeDiff, ho]
  · rfl
  · rfl

/-- A DIAG_OUTPUT that passes stops its output or starts it. -/
theorem diagCmd_passes {n : Fin 8} {o : Fin 16} {level dwell : BitVec 16} {s : State} (h1 : level.toNat ≤ 1000)
    (h2 : dwell ≠ 0) (h3 : dwell.toNat ≤ 10000) (h4 : ∀ k : Fin 6, k.val = o.val → (s.sinov.motor[k]).isSome = true)
    (h5 : resBusy s n = false) (h6 : level ≠ 0 → diagHeld s o = false ∧ diagWaits s o = false) :
    diagCmd n (diagPayload o level dwell) s =
      answer n .ok (if level = 0 then diagEnd o s else diagStart o level.toNat s) := by
  obtain ⟨hl, f0, f1, f2, f3, f4⟩ := diagFields o level dwell
  have hmotor : (decide (o.val < 6) && (s.sinov.motor[Fin.ofNat 6 o.val]).isNone) = false := by
    rw [Bool.and_eq_false_imp, decide_eq_true_iff]
    intro ho
    have := h4 (Fin.ofNat 6 o.val) (by rw [Fin.val_ofNat]; omega)
    rw [Option.isNone_eq_false_iff.mpr this]
  have hd : dwell.toNat ≠ 0 := fun e => h2 (BitVec.eq_of_toNat_eq e)
  have hz : level.toNat = 0 ↔ level = 0 := ⟨fun e => BitVec.eq_of_toNat_eq e, fun e => by rw [e]; rfl⟩
  have hheld : (decide (¬ level = 0) && diagHeld s o) = false := by
    rw [Bool.and_eq_false_imp, decide_eq_true_iff]
    exact fun e => (h6 e).1
  unfold diagCmd
  simp only [f0, f2, f3, lenNot_of_length hl, reserved_of_zero f1, reserved_of_zero f4, hmotor, hd, hz, h5,
    Fin.ofNat_val_eq_self, show ¬ 15 < o.val by omega, show ¬ 1000 < level.toNat by omega, ne_eq, hheld,
    show ¬ 10000 < dwell.toNat by omega, decide_false, Bool.not_true, Bool.or_self, judged_pass, judged_run]
  by_cases e : level = 0
  · rw [if_pos e, if_pos e]
  · rw [if_neg e, if_neg e, (h6 e).2]
    exact if_neg (by decide)

/-! ## The end of an output -/

theorem beginStop_diagSet (b : Bool) (mode : BitVec 2) (m : Motor) (h : m.diagSet = none) :
    (beginStop b mode m).diagSet = none := by
  have hcoast : (coast m).diagSet = none := by
    unfold coast
    split
    · exact h
    · exact h
    · rfl
  unfold beginStop
  dsimp only
  split
  · split
    · exact hcoast
    · generalize (if mode = 2 then true else if mode = 1 then false else m.stopMode) = d
      cases d <;> exact h
  · exact h

/-- Outside a unit nothing but Sinov's list of outputs changes. -/
structure DiagEnds (o : Fin 16) (s t : State) : Prop where
  listed : t.sinov.diag = s.sinov.diag.set o none
  mem : t.mem = s.mem
  counters : t.counters = s.counters
  dump : o.val = 15 → t.hdie.dump = false
  motor : ∀ k : Fin 6, k.val = o.val → t.motors[k].diagSet = none
  beam : ∀ b : Fin 4, b.val + 6 = o.val → t.beam.ld[b].diagLevel = none
  hv : ∀ c : Fin 3, c.val + 10 = o.val → t.hv.diagLimit[c] = none
  heater : ∀ h : Fin 2, h.val + 13 = o.val → t.fuser.htr[h].diagDuty = none

theorem heaterStop_frame (h : Fin 2) (s : State) :
    ∃ x k, heaterStop h s = { s with fuser := { s.fuser with htr := x }, freeCtr := k } ∧
      x[h].diagDuty = s.fuser.htr[h].diagDuty := by
  unfold heaterStop
  dsimp only
  split
  · refine ⟨_, _, rfl, ?_⟩
    rw [Fin.getElem_fin, Vector.getElem_set_self]
  · exact ⟨_, _, rfl, rfl⟩

theorem heaterFollow_frame (h : Fin 2) (s : State) :
    ∃ x k, heaterFollow h s = { s with fuser := { s.fuser with htr := x }, freeCtr := k } ∧
      x[h].diagDuty = s.fuser.htr[h].diagDuty := by
  unfold heaterFollow
  split
  · exact ⟨_, _, rfl, rfl⟩
  · exact heaterStop_frame h s

theorem fin_eq_ofNat {m : Nat} [NeZero m] {k : Fin m} {v : Nat} (h : k.val = v) : Fin.ofNat m v = k := by
  rw [← h, Fin.ofNat_val_eq_self]

theorem diagEnd_ends (o : Fin 16) (s : State) : DiagEnds o s (diagEnd o s) := by
  unfold diagEnd
  dsimp only
  split
  · next h =>
    refine ⟨rfl, rfl, rfl, fun e => by omega, fun k hk => ?_, fun b hb => by omega, fun c hc => by omega,
      fun x hx => by omega⟩
    rw [fin_eq_ofNat hk]
    show (vmod s.motors k _)[k].diagSet = none
    rw [vmod_same]
    split
    · exact beginStop_diagSet _ _ _ rfl
    · exact Option.not_isSome_iff_eq_none.mp ‹_›
  · split
    · next h =>
      have hld : ∀ b : Fin 4, b.val + 6 = o.val → (vmod s.beam.ld (Fin.ofNat 4 (o.val - 6)) fun l =>
          if l.diagLevel.isSome = true then { l with diagLevel := none, lit := false } else l)[b].diagLevel = none := by
        intro b hb
        rw [fin_eq_ofNat (k := b) (by omega), vmod_same]
        split
        · rfl
        · exact Option.not_isSome_iff_eq_none.mp ‹_›
      split <;> exact ⟨rfl, rfl, rfl, fun e => by omega, fun k hk => by omega, hld, fun c hc => by omega,
        fun x hx => by omega⟩
    · split
      · next h =>
        refine ⟨rfl, rfl, rfl, fun e => by omega, fun k hk => by omega, fun b hb => by omega, fun c hc => ?_,
          fun x hx => by omega⟩
        show (s.hv.diagLimit.set (Fin.ofNat 3 (o.val - 10)) none)[c] = none
        rw [Fin.getElem_fin, Vector.getElem_set, if_pos (by rw [Fin.val_ofNat]; omega)]
      · split
        · next h =>
          obtain ⟨x, k, e, hx⟩ := heaterFollow_frame (Fin.ofNat 2 (o.val - 13)) { s with
            sinov := { s.sinov with diag := s.sinov.diag.set o none }
            fuser := { s.fuser with htr := vmod s.fuser.htr (Fin.ofNat 2 (o.val - 13)) fun x => { x with diagDuty := none } } }
          dsimp only at e
          rw [e]
          refine ⟨rfl, rfl, rfl, fun e => by omega, fun k hk => by omega, fun b hb => by omega, fun c hc => by omega,
            fun y hy => ?_⟩
          rw [fin_eq_ofNat (k := y) (by omega)] at hx
          refine hx.trans ?_
          show (vmod s.fuser.htr y _)[y].diagDuty = none
          rw [vmod_same]
        · exact ⟨rfl, rfl, rfl, fun _ => rfl, fun k hk => by omega, fun b hb => by omega, fun c hc => by omega,
            fun x hx => by omega⟩

/-! ## The start of an output -/

/-- What a motor needs to start, beside its own registers. -/
theorem gatesBlocked_motors {s : State} {k : Fin 6} {m : Vector Motor 6} {h : HDie}
    (hp : m[k].posErr = s.motors[k].posErr) (hh : ∃ d, h = { s.hdie with dump := d }) :
    gatesBlocked { s with motors := m, hdie := h } k = gatesBlocked s k := by
  obtain ⟨d, rfl⟩ := hh
  unfold gatesBlocked
  rw [hp]
  rfl

theorem dumpFollow_frame (s : State) : ∃ d, dumpFollow s = { s with hdie := { s.hdie with dump := d } } := by
  unfold dumpFollow
  split <;> exact ⟨_, rfl⟩

theorem motOff_fields {m : Motor} (h : m.state = .off) (v : BitVec 2) :
    (motSrc v m).state = .off ∧ (motSrc v m).posErr = m.posErr ∧ (motSrc v m).diagSet = m.diagSet := by
  unfold motSrc
  split <;> exact ⟨h, rfl, rfl⟩

/-- The dead time that a configuration writes is 40 cycles and more (R282). -/
theorem deadTime_of_bit {m : Motor} (h : m.curcfg.getLsbD 21 = true) : 10 ≤ deadTime m := by
  have hb : (bits m.curcfg 16 8 : Byte).toNat.testBit 5 = true := by
    show (bits m.curcfg 16 8 : Byte).getLsbD 5 = true
    simpa [bits] using h
  have := Nat.ge_two_pow_of_testBit hb
  unfold deadTime
  omega

theorem motCurcfg_dead {k : Fin 6} {w : Word} {s : State} (h : s.motors[k].state = .off) (hw : w.getLsbD 21 = true) :
    ∃ m, motCurcfg k w s = { s with motors := m } ∧ m[k].en = s.motors[k].en ∧ m[k].state = .off ∧
      m[k].posErr = s.motors[k].posErr ∧ m[k].diagSet = s.motors[k].diagSet ∧ 10 ≤ deadTime m[k] := by
  refine ⟨_, rfl, ?_⟩
  rw [vmod_same, if_pos h]
  refine ⟨rfl, h, rfl, rfl, deadTime_of_bit ?_⟩
  have hmask : (0xFFFF_FF03 : Word).getLsbD 21 = true := by decide
  show ((if bits w 8 8 = (0 : Byte) then w ||| 0x100 else w) &&& 0xFFFF_FF03).getLsbD 21 = true
  rw [BitVec.getLsbD_and, hmask, Bool.and_true]
  split
  · rw [BitVec.getLsbD_or, hw, Bool.true_or]
  · exact hw

theorem motCtrl_off {k : Fin 6} {c : MotorCfg} {s : State} (h : s.motors[k].state = .off) :
    ∃ d m, motCtrl k (motCtrlWord c) s = { s with motors := m, hdie := { s.hdie with dump := d } } ∧ m[k].en = true ∧
      m[k].state = .off ∧ m[k].posErr = s.motors[k].posErr ∧ m[k].diagSet = s.motors[k].diagSet := by
  unfold motCtrl
  obtain ⟨d, e⟩ := dumpFollow_frame (motMod k (fun m =>
    let m := if m.state = .off then
        motSrc (bits (motCtrlWord c) 4 2) { m with
          stopMode := (motCtrlWord c).getLsbD 8, dumpEn := (motCtrlWord c).getLsbD 9, page := (motCtrlWord c).getLsbD 10
          pos := bits (motCtrlWord c) 12 2, pp := bits (motCtrlWord c) 16 5 }
      else m
    if (motCtrlWord c).getLsbD 0 then { m with en := true } else motOff m) s)
  refine ⟨d, _, e, ?_⟩
  rw [motMod]
  dsimp only
  rw [vmod_same, motCtrlWord_en, if_pos rfl, if_pos h]
  obtain ⟨h1, h2, h3⟩ := motOff_fields (m := { s.motors[k] with
    stopMode := (motCtrlWord c).getLsbD 8, dumpEn := (motCtrlWord c).getLsbD 9, page := (motCtrlWord c).getLsbD 10
    pos := bits (motCtrlWord c) 12 2, pp := bits (motCtrlWord c) 16 5 }) h (bits (motCtrlWord c) 4 2)
  exact ⟨rfl, h1, h2, h3⟩

/-- The channel after a configuration's registers are written: enabled, OFF as it was, its dead time set. -/
theorem motorWrite_off {k : Fin 6} {c : MotorCfg} {s : State} (h : s.motors[k].state = .off) :
    ∃ d m, motorWrite k c s = { s with motors := m, hdie := { s.hdie with dump := d } } ∧ m[k].en = true ∧
      m[k].state = .off ∧ m[k].posErr = s.motors[k].posErr ∧ m[k].diagSet = s.motors[k].diagSet ∧ 10 ≤ deadTime m[k] := by
  obtain ⟨d, m, e, h1, h2, h3, h4⟩ := motCtrl_off (c := c) h
  have hw : ((m[k].curcfg &&& 0xFF00) ||| BitVec.ofNat 32 (gainCode s.envg.shadow.mI[k].toNat) ||| 0x6428_0000).getLsbD 21 =
      true := by
    rw [BitVec.getLsbD_or, show (0x6428_0000 : Word).getLsbD 21 = true by decide, Bool.or_true]
  obtain ⟨m', e', k1, k2, k3, k4, k5⟩ := motCurcfg_dead (s := { s with motors := m, hdie := { s.hdie with dump := d } })
    (k := k) h2 hw
  unfold motorWrite
  dsimp only
  rw [e]
  dsimp only
  rw [e']
  refine ⟨d, _, rfl, ?_⟩
  dsimp only [motMod]
  rw [vmod_same, vmod_same]
  exact ⟨k1.trans h1, k2, k3.trans h3, k4.trans h4, k5⟩

theorem motStartOp_frame (k : Fin 6) (s : State) : ∃ m, motStartOp k s = { s with motors := m } := by
  unfold motStartOp
  dsimp only
  split
  · split <;> exact ⟨_, rfl⟩
  · exact ⟨_, rfl⟩

/-- A channel that may start and stands still runs, or aligns first. -/
theorem motStartOp_runs {k : Fin 6} {s : State} (h1 : motMayStart s k = true) (h2 : s.motors[k].state = .off) :
    motRunning (motStartOp k s).motors[k] = true := by
  have hstill : motStill s.motors[k] = true := by
    unfold motStill
    rw [h2]
  unfold motStartOp
  dsimp only
  rw [if_pos ⟨h1, hstill⟩]
  split
  · show motRunning (vmod s.motors k _)[k] = true
    rw [vmod_same]
    rfl
  · show motRunning (vmod s.motors k _)[k] = true
    rw [vmod_same]
    rfl

/-- What a started output changes, and that its unit runs at its level. -/
structure DiagStarts (o : Fin 16) (level : Nat) (s t : State) : Prop where
  listed : t.sinov.diag = s.sinov.diag.set o (some level)
  mem : t.mem = s.mem
  counters : t.counters = s.counters
  motor : ∀ k : Fin 6, k.val = o.val → s.motors[k].state = .off → s.motors[k].diagSet = none →
    motRunning t.motors[k] = true ∧ t.motors[k].diagSet = some (level * s.hdie.env.mRpm[k].toNat / 1000)
  beam : ∀ b : Fin 4, b.val + 6 = o.val →
    t.beam.ld[b].diagLevel = some (BitVec.ofNat 11 (level * s.hdie.env.ldI[b].toNat / 1000))
  hv : ∀ c : Fin 3, c.val + 10 = o.val → t.hv.diagLimit[c] = some (level * s.hdie.env.hvFb[c].toNat / 1000)
  heater : ∀ h : Fin 2, h.val + 13 = o.val →
    t.fuser.htr[h].diagDuty = some (level * s.hdie.env.htrDuty[h].toNat / 1000)

/-- A channel that stood still is configured and started for the run. -/
def diagMotor (k : Fin 6) (c : MotorCfg) (s : State) : State :=
  if s.motors[k].diagSet.isSome then s else motStartOp k (motorWrite k { c with src := 0, page := false } s)

theorem motorWrite_motors_frame (k : Fin 6) (c : MotorCfg) (s : State) :
    ∃ d m, motorWrite k c s = { s with motors := m, hdie := { s.hdie with dump := d } } := by
  unfold motorWrite motCurcfg motCtrl
  dsimp only
  obtain ⟨d, e⟩ := dumpFollow_frame (motMod k (fun m =>
    let m := if m.state = .off then
        motSrc (bits (motCtrlWord c) 4 2) { m with
          stopMode := (motCtrlWord c).getLsbD 8, dumpEn := (motCtrlWord c).getLsbD 9, page := (motCtrlWord c).getLsbD 10
          pos := bits (motCtrlWord c) 12 2, pp := bits (motCtrlWord c) 16 5 }
      else m
    if (motCtrlWord c).getLsbD 0 then { m with en := true } else motOff m) s)
  dsimp only at e
  rw [e]
  exact ⟨d, _, rfl⟩

theorem diagMotor_frame (k : Fin 6) (c : MotorCfg) (s : State) :
    ∃ d m, diagMotor k c s = { s with motors := m, hdie := { s.hdie with dump := d } } := by
  unfold diagMotor
  split
  · exact ⟨_, _, rfl⟩
  · obtain ⟨d, m, e⟩ := motorWrite_motors_frame k { c with src := 0, page := false } s
    obtain ⟨m', e'⟩ := motStartOp_frame k (motorWrite k { c with src := 0, page := false } s)
    rw [e', e]
    exact ⟨_, _, rfl⟩

theorem diagMotor_runs {k : Fin 6} {c : MotorCfg} {s : State} (h : s.motors[k].state = .off)
    (hd : s.motors[k].diagSet = none) (hg : gatesBlocked s k = false) (hf : s.hdie.mFast.getLsbD k.val = false) :
    motRunning (diagMotor k c s).motors[k] = true := by
  obtain ⟨d, m, e, h1, h2, h3, h4, h5⟩ := motorWrite_off (c := { c with src := 0, page := false }) h
  have hmay : motMayStart { s with motors := m, hdie := { s.hdie with dump := d } } k = true := by
    have hb := gatesBlocked_motors (s := s) (k := k) (h := { s.hdie with dump := d }) h3 ⟨d, rfl⟩
    unfold motMayStart
    rw [hb, hg]
    dsimp only
    rw [h1, hf, decide_eq_true h5]
    rfl
  unfold diagMotor
  rw [hd, if_neg (by decide), e]
  exact motStartOp_runs hmay h2

theorem diagStart_starts {o : Fin 16} {level : Nat} {s : State} (h : diagHeld s o = false)
    (hc : ∀ k : Fin 6, k.val = o.val → (s.sinov.motor[k]).isSome = true) : DiagStarts o level s (diagStart o level s) := by
  unfold diagStart
  dsimp only
  split
  · next ho =>
    have hko : (Fin.ofNat 6 o.val).val = o.val := by rw [Fin.val_ofNat]; omega
    obtain ⟨c, hcm⟩ := Option.isSome_iff_exists.mp (hc (Fin.ofNat 6 o.val) hko)
    rw [hcm]
    obtain ⟨d, m, e⟩ := diagMotor_frame (Fin.ofNat 6 o.val) c { s with
      sinov := { s.sinov with diag := s.sinov.diag.set o (some level) } }
    have hrun := diagMotor_runs (k := Fin.ofNat 6 o.val) (c := c) (s := { s with
      sinov := { s.sinov with diag := s.sinov.diag.set o (some level) } })
    have hgo : ∀ x, x = diagMotor (Fin.ofNat 6 o.val) c { s with
        sinov := { s.sinov with diag := s.sinov.diag.set o (some level) } } →
        DiagStarts o level s (motMod (Fin.ofNat 6 o.val) (fun m => if motRunning m = true then
          { m with diagSet := some (level * s.hdie.env.mRpm[Fin.ofNat 6 o.val].toNat / 1000), alignOnly := false } else m) x) := by
      intro x hx
      have hx' := hx.trans e
      subst hx'
      refine ⟨rfl, rfl, rfl, fun k hk hst hds => ?_, fun b hb => by omega, fun y hy => by omega, fun y hy => by omega⟩
      obtain rfl : Fin.ofNat 6 o.val = k := fin_eq_ofNat hk
      have hheld : s.motors[Fin.ofNat 6 o.val].diagSet.isSome = false := by rw [hds]; rfl
      rw [diagHeld, if_pos ho, hheld, Bool.not_false, Bool.true_and, Bool.or_eq_false_iff] at h
      have hr := hrun hst hds h.1 h.2
      rw [← hx] at hr
      show motRunning (vmod m _ _)[Fin.ofNat 6 o.val] = true ∧ _
      rw [vmod_same, if_pos hr]
      refine ⟨hr, ?_⟩
      show (vmod m _ _)[Fin.ofNat 6 o.val].diagSet = _
      rw [vmod_same, if_pos hr]
    exact hgo _ rfl
  · split
    · next h6 =>
      refine ⟨rfl, rfl, rfl, fun k hk => by omega, fun b hb => ?_, fun c hc => by omega, fun y hy => by omega⟩
      obtain rfl : Fin.ofNat 4 (o.val - 6) = b := fin_eq_ofNat (by omega)
      exact congrArg LaserBeam.diagLevel (vmod_same s.beam.ld _ _)
    · split
      · next h6 =>
        refine ⟨rfl, rfl, rfl, fun k hk => by omega, fun b hb => by omega, fun c hc => ?_, fun y hy => by omega⟩
        obtain rfl : Fin.ofNat 3 (o.val - 10) = c := fin_eq_ofNat (by omega)
        show (s.hv.diagLimit.set _ _)[_] = _
        rw [Fin.getElem_fin, Vector.getElem_set_self]
      · split
        · next h6 =>
          refine ⟨rfl, rfl, rfl, fun k hk => by omega, fun b hb => by omega, fun c hc => by omega, fun y hy => ?_⟩
          obtain rfl : Fin.ofNat 2 (o.val - 13) = y := fin_eq_ofNat (by omega)
          exact congrArg Heater.diagDuty (vmod_same s.fuser.htr _ _)
        · exact ⟨rfl, rfl, rfl, fun k hk => by omega, fun b hb => by omega, fun c hc => by omega, fun y hy => by omega⟩

/-! ## Ledger, time, options, diagnostics -/

theorem loadedBuf_get (ofs : Nat) (bs : List Byte) (old : Vector Byte 512) (i : Fin 512) : (loadedBuf ofs bs old)[i] =
    if ofs ≤ i.val ∧ i.val < ofs + bs.length then bs.getD (i.val - ofs) 0 else old[i] := by
  rw [Fin.getElem_fin, loadedBuf, Vector.getElem_ofFn]

theorem answerOk_loaded (n : Fin 8) (p : List Byte) (buf : Vector Byte 512) (seen : BitVec 512) (s : State) :
    let t := answerOk n p { s with sinov := { s.sinov with optBuf := buf, optLoaded := seen } }
    t = { s with
      counters := afterReply n .ok 0 p s
      sinov := { s.sinov with optBuf := t.sinov.optBuf, optLoaded := t.sinov.optLoaded } } :=
  answerOk_answered n p _

theorem afterReply_congr {n : Fin 8} {st : Status} {g : BitVec 16} {p : List Byte} {s t : State}
    (h : t.counters = s.counters) : afterReply n st g p t = afterReply n st g p s := by
  unfold afterReply
  rw [h]

/-- Settles O11: the commands of the ledger, of time, of the option record and of the diagnostics. -/
theorem ledgerTimeOptionAndDiagnosticCommands : Obligations.LedgerTimeOptionAndDiagnosticCommands := by
  refine ⟨⟨fun n s h h1 h2 h3 h4 => ?_, fun n s u h hp h1 h2 h3 h4 h5 h6 => ?_, fun n s v h hp h1 h2 h3 h4 => ?_,
    fun n s h hp h1 h2 h3 => ?_⟩, fun n s h hp h1 => ?_, fun n s ofs bs h hp h1 h2 h3 h4 h5 h6 => ?_,
    fun n s k h hp h1 h2 h3 h4 => ?_, fun n s k rec seq ha hr hl => ?_,
    fun n s o level dwell h hp h1 h2 h3 h4 h5 h6 => ?_, fun o s => ?_⟩
  · have hx := (exec_of_frame (i := .tillAppend n) rfl h rfl).trans
      (congrArg Host.Outcome.next (tillAppendCmd_passes h1 h2 h3 h4))
    exact ⟨_, _, hx, rfl, writeRecord_asks _ _ _ _ _ _, rfl, writeRecord_running _ _ _ _ _ _⟩
  · have hx : exec (.tillRelease n) s = .next (wantRecord { cmdWant n s 0x0050 0 [] (.replySeq n) with release := some u }
        (setRunning n s)) := by
      rw [exec_of_frame rfl h rfl, hp, tillReleaseCmd_passes h1 h2 h3 h4 h5 h6]
    exact ⟨_, _, hx, rfl, ⟨rfl, rfl, rfl, rfl, rfl⟩, rfl, rfl⟩
  · have hx : exec (.timeSet n) s = .next (setRunning n { s with
        sinov := { s.sinov with timeWait := some n }, rtc := { s.rtc with setSec := v, pending := true } }) := by
      rw [exec_of_frame rfl h rfl, hp, timeSetCmd_passes h1 h2 h3 h4]
    exact ⟨_, hx, rfl, rfl⟩
  · have hx : exec (.timeLostClear n) s = .next (writeRecord n 0x0032 0 (toLe s.rtc.sec 6 ++ [0, 0]) (.reply n []) { s with
        rtc := { s.rtc with lost := false }, hub := { s.hub with present := setBit s.hub.present 0xE3 false } }) := by
      rw [exec_of_frame rfl h rfl, hp, lostClearCmd_passes h1 h2 h3, timeLostClr_clears]
    exact ⟨_, _, hx, rfl, rfl, ⟨rfl, rfl, rfl, rfl, rfl⟩, memSame_of_mem rfl, rfl⟩
  · have hx : exec (.optionWriteOpen n) s = .next (answerOk n (List.replicate 8 0) { s with sinov := { s.sinov with
        optBuf := Vector.replicate 512 0, optLoaded := 0, optOpen := true } }) := by
      rw [exec_of_frame rfl h (by rw [hp]; rfl), hp, optOpenCmd_passes h1]
    exact ⟨_, hx, answerOk_answered _ _ _⟩
  · obtain ⟨seen, hpass⟩ := optLoadCmd_passes (n := n) (s := s) h1 h2 h3 h4 h5 h6
    have hx : exec (.optionWriteLoad n) s = .next (answerOk n (List.replicate 8 0) { s with
        sinov := { s.sinov with optBuf := loadedBuf ofs.toNat bs s.sinov.optBuf, optLoaded := seen } }) := by
      have hsel : opIs 1 (payload s n) = true := by
        rw [opIs, hp, (loadFields ofs bs).2.1]
        rfl
      rw [exec_of_frame rfl h hsel, hp, hpass]
    exact ⟨_, hx, answerOk_loaded n _ _ _ s, fun i => loadedBuf_get ofs.toNat bs s.sinov.optBuf i⟩
  · have hx := (exec_optionCommit (k := k) h hp h4).trans
      (congrArg Host.Outcome.next (optCommitCmd_passes (n := n) h1 h2 h3))
    exact ⟨_, _, hx, rfl, writeRecord_asks _ _ _ _ _ _, rfl, writeRecord_running _ _ _ _ _ _⟩
  · obtain ⟨hB, hA, hread⟩ := copies_written (s := s) (x := { s with sinov := { s.sinov with after := none } }) rfl hl
    by_cases hk : 2 ≤ k
    · have hx := (exec_optionCopies (k := k) ha hr).trans (congrArg Host.Outcome.next (copiesFinish_both ha hk))
      refine ⟨_, hx, rfl, ?_, fun hs i => ?_, fun hlt => absurd hk (Nat.not_le.mpr hlt), hA⟩
      · rw [if_pos hk, if_pos hk]
        exact congrArg State.counters (answerOk_answered n seq _)
      · obtain ⟨-, h2, h3⟩ := hread hs i
        exact ⟨h2, fun _ => h3⟩
    · have hx := (exec_optionCopies (k := k) ha hr).trans (congrArg Host.Outcome.next (copiesFinish_one ha (Nat.not_le.mp hk)))
      refine ⟨_, hx, rfl, ?_, fun hs i => ?_, fun _ => hB, hB.widen (by decide) (by decide)⟩
      · rw [if_neg hk, if_neg hk]
        exact congrArg State.counters (answerWith_answered n .partly 1 seq _)
      · exact ⟨(hread hs i).1, fun h2 => absurd h2 hk⟩
  · have hx : exec (.diagOutput n) s = .next (answer n .ok (if level = 0 then diagEnd o s else diagStart o level.toNat s)) := by
      rw [exec_of_frame rfl h rfl, show payload s n = diagPayload o level dwell from hp,
        diagCmd_passes h1 h2 h3 h4 h5 h6]
    by_cases hz : level = 0
    · rw [if_pos hz] at hx
      have he := diagEnd_ends o s
      refine ⟨_, hx, memSame_of_mem he.mem, ?_, he.listed.trans (by rw [if_pos hz]), fun k _ hne => absurd hz hne,
        fun b _ hne => absurd hz hne, fun c _ hne => absurd hz hne, fun y _ hne => absurd hz hne⟩
      exact (congrArg State.counters (answer_answered n .ok _)).trans (afterReply_congr he.counters)
    · rw [if_neg hz] at hx
      have he := diagStart_starts (level := level.toNat) (h6 hz).1 h4
      refine ⟨_, hx, memSame_of_mem he.mem, ?_, he.listed.trans (by rw [if_neg hz]), fun k hk _ => he.motor k hk,
        fun b hb _ => he.beam b hb, fun c hc _ => he.hv c hc, fun y hy _ => he.heater y hy⟩
      exact (congrArg State.counters (answer_answered n .ok _)).trans (afterReply_congr he.counters)
  · have he := diagEnd_ends o s
    exact ⟨_, rfl, he.listed, memSame_of_mem he.mem, he.counters, he.dump, he.motor, he.beam, he.hv, he.heater⟩

end Sys2Proof.Machine
end

section
/-! Firmware staging, its check and its selection (R134-R137, R480): the flash that each of them erases and programs. -/

namespace Sys2Proof.Machine

/-! ## Erasing and programming -/

theorem Mem.read_clearRange_other {m : Mem} {lo hi a : Nat} (h : a < lo ∨ hi ≤ a) :
    (m.clearRange lo hi).read a = m.read a := by
  induction m with
  | nil => rfl
  | cons c m ih =>
    obtain ⟨k, b⟩ := c
    rw [Mem.clearRange] at ih ⊢
    by_cases hk : lo ≤ k ∧ k < hi
    · rw [List.filter_cons_of_neg (by simp [hk])]
      exact ih.trans (by rw [Mem.read, if_neg (by omega)])
    · rw [List.filter_cons_of_pos (by
        simp only [Bool.not_eq_true', Bool.and_eq_false_iff, decide_eq_false_iff_not]
        omega), Mem.read, Mem.read]
      split
      · rfl
      · exact ih

theorem flashErase_frame (ofs : Nat) (s : State) : ∃ m, flashErase ofs s = { s with mem := m } := ⟨_, rfl⟩

/-- Erasing a sector changes no byte outside it. -/
theorem memSameBut_flashErase {ofs : Nat} (h : ofs % 65536 = 0) (s : State) :
    MemSameBut (flashBase + ofs) 65536 s (flashErase ofs s) := fun a ha => by
  have hlo : flashBase + ofs / 65536 * 65536 = flashBase + ofs := by omega
  show (s.mem.clearRange (flashBase + ofs / 65536 * 65536) (flashBase + ofs / 65536 * 65536 + 65536)).read a = s.mem.read a
  rw [hlo]
  exact Mem.read_clearRange_other ha

theorem foldl_frame_mem {α : Type} {f : State → α → State} (hf : ∀ x a, ∃ m, f x a = { x with mem := m }) (l : List α)
    (s : State) : ∃ m, l.foldl f s = { s with mem := m } := by
  induction l generalizing s with
  | nil => exact ⟨_, rfl⟩
  | cons a l ih =>
    obtain ⟨m, e⟩ := hf s a
    obtain ⟨m', e'⟩ := ih (f s a)
    rw [List.foldl_cons, e', e]
    exact ⟨m', rfl⟩

theorem eraseSectors_frame (base a b : Nat) (s : State) : ∃ m, eraseSectors base a b s = { s with mem := m } :=
  foldl_frame_mem (fun x i => flashErase_frame _ x) _ s

/-- Erasing sectors [a, b) of a slot changes no byte outside them. -/
theorem memSameBut_eraseSectors {base a b : Nat} (h : base % 65536 = 0) (s : State) :
    MemSameBut (flashBase + base) (65536 * b) s (eraseSectors base a b s) := by
  have hstep : ∀ (l : List Nat) (x : State), (∀ i ∈ l, a + i < b) → MemSameBut (flashBase + base) (65536 * b) x
      (l.foldl (fun s i => flashErase (base + 65536 * (a + i)) s) x) := by
    intro l
    induction l with
    | nil => exact fun x _ => .refl x
    | cons i l ih =>
      intro x hl
      have hi : a + i < b := hl i (List.mem_cons_self ..)
      have h1 := memSameBut_flashErase (ofs := base + 65536 * (a + i)) (by omega) x
      exact (h1.widen (by omega) (by omega)).trans (ih _ fun j hj => hl j (List.mem_cons_of_mem _ hj))
  exact hstep _ s fun i hi => by
    have := List.mem_range.mp hi
    omega

/-- Programming ANDs each byte into the one at its address (R134, R482); the addresses differ. -/
theorem andPut_spec (A : Nat → Nat) {n : Nat} (hA : ∀ i j, i < n → j < n → A i = A j → i = j) (bs : List Byte) (k : Nat)
    (hk : k + bs.length ≤ n) (s : State) :
    ∃ m, (bs.zipIdx k).foldl (fun s b => memPut s (A b.2) [memByte s (A b.2) &&& b.1]) s = { s with mem := m } ∧
      (∀ a, (∀ j, j < bs.length → a ≠ A (k + j)) → m.read a = s.mem.read a) ∧
      (s.mem.wf = true → m.wf = true ∧
        ∀ j, j < bs.length → m.read (A (k + j)) = s.mem.read (A (k + j)) &&& bs.getD j 0) := by
  induction bs generalizing k s with
  | nil => exact ⟨s.mem, rfl, fun _ _ => rfl, fun h => ⟨h, fun j hj => absurd hj (Nat.not_lt_zero j)⟩⟩
  | cons b bs ih =>
    rw [List.length_cons] at hk
    have hone : (memPut s (A k) [memByte s (A k) &&& b]).mem = s.mem.write (A k) (memByte s (A k) &&& b) := rfl
    obtain ⟨m, e, hout, hin⟩ := ih (k + 1) (by omega) (memPut s (A k) [memByte s (A k) &&& b])
    rw [hone] at hout hin
    refine ⟨m, ?_, fun a ha => ?_, fun hwf => ?_⟩
    · rw [List.zipIdx_cons, List.foldl_cons, e]
      rfl
    · have h0 : a ≠ A k := ha 0 (by simp)
      rw [hout a fun j hj => ?_, Mem.read_write_other h0]
      have := ha (j + 1) (by simpa using hj)
      rwa [show k + (j + 1) = k + 1 + j by omega] at this
    · obtain ⟨hw, hbytes⟩ := hin (Mem.write_wf hwf)
      refine ⟨hw, fun j hj => ?_⟩
      rw [List.length_cons] at hj
      cases j with
      | zero =>
        rw [hout _ fun j hj e => ?_]
        · exact Mem.read_write_same hwf
        · have := hA (k + 0) (k + 1 + j) (by omega) (by omega) e
          omega
      | succ j =>
        have := hbytes j (by omega)
        rw [show k + 1 + j = k + (j + 1) by omega, Mem.read_write_other fun e => ?_] at this
        · exact this
        · have := hA (k + (j + 1)) k (by omega) (by omega) e
          omega

theorem flashPut_written (ofs : Nat) (bs : List Byte) (s : State) :
    ∃ m, flashPut ofs bs s = { s with mem := m } ∧ MemSameBut (flashBase + ofs) bs.length s { s with mem := m } ∧
      (s.mem.wf = true → ∀ j, j < bs.length →
        m.read (flashBase + ofs + j) = s.mem.read (flashBase + ofs + j) &&& bs.getD j 0) := by
  obtain ⟨m, e, hout, hin⟩ := andPut_spec (fun i => flashBase + ofs + i) (n := bs.length)
    (fun i j _ _ e => by omega) bs 0 (by omega) s
  refine ⟨m, e, fun a ha => hout a fun j hj => by omega, fun h j hj => ?_⟩
  have := (hin h).2 j hj
  rwa [Nat.zero_add] at this

/-! ## FW_STAGE -/

theorem sectors_pos {len : Nat} (h : len ≠ 0) : 1 ≤ sectors len := by
  unfold sectors
  omega

/-- The payload of a FW_STAGE BEGIN. -/
theorem beginFields (app : Bool) (len : BitVec 32) :
    let p := [0, (if app then 1 else 0), 0, 0] ++ toLe len 4
    p.length = 8 ∧ fieldLe p 0 1 = 0 ∧ fwImage p = (if app then 1 else 0) ∧ fieldLe p 2 2 = 0 ∧ fieldLe p 4 4 = len.toNat := by
  have himg : ∀ r, fieldLe ((0 : Byte) :: (if app then 1 else 0) :: r) 1 1 = if app then 1 else 0 := fun r => by
    rw [fieldLe_cons_succ, fieldLe_cons_zero]
    cases app <;> rfl
  refine ⟨by rw [List.length_append, toLe_length]; rfl, ?_, himg _, ?_, ?_⟩
  · rw [List.cons_append, fieldLe_cons_zero]
    rfl
  · rw [fieldLe_append_left (by simp)]
    rfl
  · exact (fieldLe_append_right (Nat.le_refl 4)).trans (fieldLe_toLe_of_le len (by decide))

/-- Sectors that an earlier BEGIN of the same length has erased are at most all of them. -/
theorem sinceBegin_le (x : FwStage) (len k : Nat) :
    (if x.length = len ∧ x.erased < k then x.erased else 0) ≤ k := by
  split
  · next h => exact Nat.le_of_lt h.2
  · exact Nat.zero_le _

theorem slotOfs_aligned (app : Bool) (n : Nat) : slotOfs app n % 65536 = 0 := by
  unfold slotOfs
  split <;> omega

/-- Image i's staging after `fwSet`. -/
theorem fwSet_self (i : Fin 2) (x : FwStage) (s : State) : (fwSet i x s).sinov.stage[i] = { x with active := true } := by
  unfold fwSet
  dsimp only
  rw [Fin.getElem_fin, Vector.getElem_ofFn, if_pos rfl]

theorem fwSet_frame (i : Fin 2) (x : FwStage) (s : State) :
    ∃ v, fwSet i x s = { s with sinov := { s.sinov with stage := v } } ∧ v[i] = { x with active := true } :=
  ⟨_, rfl, fwSet_self i x s⟩

/-- A BEGIN whose sectors are all erased within the time. -/
theorem fwBegin_passes {n : Fin 8} {app : Bool} {len : BitVec 32} {k : Nat} {s : State} (h1 : len ≠ 0)
    (h2 : len.toNat ≤ slotSize app) (h3 : resBusy s n = false) (h4 : sectors len.toNat ≤ k) :
    ∃ a, fwBegin n k ([0, (if app then 1 else 0), 0, 0] ++ toLe len 4) s =
      answerOk n (toLe (BitVec.ofNat 32 (sectors len.toNat)) 4) (fwSet (if app then 1 else 0)
        { active := true, length := len.toNat, erased := sectors len.toNat, next := 0, verified := none }
        (eraseSectors (slotOfs app (stageSlot s app)) a (sectors len.toNat) s)) := by
  obtain ⟨hl, f0, f1, f2, f3⟩ := beginFields app len
  have hz : len.toNat ≠ 0 := fun e => h1 (BitVec.eq_of_toNat_eq e)
  have happ : decide (fwImage ([0, (if app then 1 else 0), 0, 0] ++ toLe len 4) = 1) = app := by
    rw [f1]
    cases app <;> rfl
  have himg : ¬ 1 < fwImage ([0, (if app then 1 else 0), 0, 0] ++ toLe len 4) := by
    rw [f1]
    cases app <;> decide
  unfold fwBegin fwRefuse
  simp only [f0, f3, happ, lenNot_of_length hl, reserved_of_zero f2, hz, himg, h3, show ¬ slotSize app < len.toNat by omega,
    ne_eq, not_true_eq_false, decide_false, Bool.not_true, Bool.or_self, if_false, Bool.false_eq_true]
  generalize ha : (if s.sinov.stage[(if app = true then 1 else 0 : Fin 2)].length = len.toNat ∧
    s.sinov.stage[(if app = true then 1 else 0 : Fin 2)].erased < sectors len.toNat then
      s.sinov.stage[(if app = true then 1 else 0 : Fin 2)].erased else 0) = a
  have hle : a ≤ sectors len.toNat := by
    rw [← ha]
    exact sinceBegin_le _ _ _
  have htot : a + min k (sectors len.toNat - a) = sectors len.toNat := by omega
  rw [htot, if_pos rfl]
  exact ⟨a, rfl⟩

/-- The payload of a FW_STAGE DATA. -/
theorem dataFields (i : Fin 2) (ofs : BitVec 32) (bs : List Byte) :
    let p := [1, BitVec.ofNat 8 i.val, 0, 0] ++ toLe ofs 4 ++ bs
    p.length = 8 + bs.length ∧ fieldLe p 0 1 = 1 ∧ fwImage p = i.val ∧ fieldLe p 2 2 = 0 ∧ fieldLe p 4 4 = ofs.toNat ∧
      p.drop 8 = bs := by
  have hi : (BitVec.ofNat 8 i.val).toNat = i.val := toNat_ofNat_fin i (by decide)
  refine ⟨by simp only [List.length_append, toLe_length, List.length_cons, List.length_nil], ?_, ?_, ?_, ?_, ?_⟩
  · rw [List.append_assoc, List.cons_append, fieldLe_cons_zero]
    rfl
  · rw [fwImage, List.append_assoc, List.cons_append, fieldLe_cons_succ, List.cons_append, fieldLe_cons_zero, hi]
  · rw [List.append_assoc, fieldLe_append_left (by simp)]
    rfl
  · rw [List.append_assoc, fieldLe_append_right (Nat.le_refl 4)]
    exact fieldLe_toLe_append ofs (by decide) _
  · exact List.drop_left' (by rw [List.length_append, toLe_length]; rfl)

theorem fwOf_of_image {p : List Byte} {i : Fin 2} (h : fwImage p = i.val) : fwOf p = some i := by
  rw [fwOf, h, finOf, dif_pos i.isLt]

theorem fwIndex (i : Fin 2) : (if i.val = 1 then 1 else 0 : Fin 2) = i := by
  revert i
  decide

/-- A DATA at NEXT programs as many of its bytes as the time allows. -/
theorem fwData_passes {n : Fin 8} {i : Fin 2} {ofs : BitVec 32} {bs : List Byte} {k : Nat} {s : State}
    (h1 : 1 ≤ bs.length) (h2 : resBusy s n = false) (h3 : ofs.toNat = s.sinov.stage[i].next)
    (h4 : ofs.toNat + bs.length ≤ s.sinov.stage[i].length) :
    fwData n k ([1, BitVec.ofNat 8 i.val, 0, 0] ++ toLe ofs 4 ++ bs) s =
      answerWith n (if bs.length ≤ k then .ok else .partly) (if bs.length ≤ k then 0 else BitVec.ofNat 16 k)
        (toLe (BitVec.ofNat 32 (ofs.toNat + min k bs.length)) 4)
        (fwSet i { s.sinov.stage[i] with next := ofs.toNat + min k bs.length, verified := none }
          (flashPut (slotOfs (decide (i.val = 1)) (stageSlot s (decide (i.val = 1))) + ofs.toNat)
            (bs.take (min k bs.length)) s)) := by
  obtain ⟨hl, f0, f1, f2, f3, hdrop⟩ := dataFields i ofs bs
  unfold fwData fwRefuse
  rw [fwOf_of_image f1]
  simp only [f1, f3, hl, hdrop, reserved_of_zero f2, h2, h3.symm, fwIndex, Nat.add_sub_cancel_left,
    decide_eq_false (show ¬ 8 + bs.length < 9 by omega),
    decide_eq_false (show ¬ s.sinov.stage[i].length < ofs.toNat + bs.length by omega), ne_eq, not_true_eq_false,
    decide_false, Bool.not_true, Bool.or_self, if_false, Bool.false_eq_true]
  by_cases hk : bs.length ≤ k
  · rw [if_pos (Nat.min_eq_right hk), if_pos hk, if_pos hk]
    rfl
  · rw [if_neg (by omega), if_neg hk, if_neg hk, Nat.min_eq_left (by omega)]

theorem fwData_wrong {n : Fin 8} {i : Fin 2} {ofs : BitVec 32} {bs : List Byte} {k : Nat} {s : State}
    (h : ofs.toNat ≠ s.sinov.stage[i].next) :
    fwData n k ([1, BitVec.ofNat 8 i.val, 0, 0] ++ toLe ofs 4 ++ bs) s =
      answerWith n .badArg 0 (toLe (BitVec.ofNat 32 s.sinov.stage[i].next) 4) s := by
  obtain ⟨hl, f0, f1, f2, f3, hdrop⟩ := dataFields i ofs bs
  unfold fwData fwRefuse fwNext
  rw [fwOf_of_image f1]
  simp only [f3, h, ne_eq, not_false_eq_true, decide_true, Bool.true_or, Bool.or_true, if_true]

/-! ## FW_VERIFY and FW_COMMIT -/

theorem natLe_inj {a b : List Byte} (hl : a.length = b.length) (h : natLe a = natLe b) : a = b := by
  induction a generalizing b with
  | nil => exact (List.length_eq_zero_iff.mp hl.symm).symm
  | cons x xs ih =>
    obtain _ | ⟨y, ys⟩ := b
    · exact absurd hl (by simp)
    · have hx := x.isLt
      have hy := y.isLt
      rw [natLe, natLe] at h
      obtain rfl : x = y := BitVec.eq_of_toNat_eq (by omega)
      rw [ih (by simpa using hl) (by omega)]

theorem digestOf_digestBytes (d : BitVec 256) : digestOf (digestBytes d) = d := by
  rw [digestOf, digestBytes, natLe_toLe, Nat.mod_eq_of_lt (show d.toNat < 256 ^ 32 from d.isLt), BitVec.ofNat_toNat,
    BitVec.setWidth_eq]

theorem digestBytes_digestOf {p : List Byte} (h : p.length = 32) : digestBytes (digestOf p) = p := by
  have hlt : natLe p < 2 ^ 256 := by
    have := natLe_lt p
    rw [h] at this
    exact this
  refine natLe_inj ((digestBytes_length _).trans h.symm) ?_
  rw [digestBytes, natLe_toLe, digestOf, BitVec.toNat_ofNat, Nat.mod_eq_of_lt hlt,
    Nat.mod_eq_of_lt (show natLe p < 256 ^ 32 from hlt)]

theorem slice_whole {p : List Byte} {n : Nat} (h : p.length = n) : slice p 0 n = p := by
  rw [slice_of_le (by omega), List.drop_zero, List.take_of_length_le (Nat.le_of_eq h)]

/-- A digest is the one that a payload gives exactly where its bytes are the payload. -/
theorem eq_digestOf_iff {p : List Byte} (h : p.length = 32) (d : BitVec 256) : d = digestOf p ↔ digestBytes d = p :=
  ⟨fun e => by rw [e, digestBytes_digestOf h], fun e => by rw [← e, digestOf_digestBytes]⟩

theorem fwActive_active {s : State} {i : Fin 2} (h : fwActive s = some i) : s.sinov.stage[i].active = true :=
  List.find?_some (p := fun j : Fin 2 => s.sinov.stage[j].active) h

/-- FW_VERIFY of the image in hand, all of which is staged. -/
theorem fwVerify_passes {n : Fin 8} {i : Fin 2} {p : List Byte} {s : State} (hl : p.length = 32)
    (hb : resBusy s n = false) (hi : fwActive s = some i) (hn : s.sinov.stage[i].next = s.sinov.stage[i].length) :
    fwVerifyCmd n p s = answerOk n (digestBytes (stagedDigest s i) ++
      [if digestBytes (stagedDigest s i) = p then 1 else 0, 0, 0, 0]) (fwSet i { s.sinov.stage[i] with verified :=
        (if digestBytes (stagedDigest s i) = p then some (stagedDigest s i) else s.sinov.stage[i].verified) } s) := by
  unfold fwVerifyCmd
  dsimp only
  rw [hi]
  dsimp only
  have hget : (fwActive s).getD 0 = i := by rw [hi, Option.getD_some]
  rw [decide_eq_false (not_not_intro hn), lenNot_of_length hl, hb, Bool.or_self, judged_pass, judged_pass, judged_run,
    slice_whole hl]
  simp only [hget]
  by_cases hd : digestBytes (stagedDigest s i) = p
  · rw [decide_eq_true ((eq_digestOf_iff hl _).mpr hd), if_pos rfl, if_pos rfl, if_pos hd, if_pos hd]
  · rw [decide_eq_false (mt (eq_digestOf_iff hl _).mp hd), if_neg (by decide), if_neg (by decide), if_neg hd, if_neg hd]

/-- FW_COMMIT of a digest that FW_VERIFY has matched. -/
theorem fwCommit_passes {n : Fin 8} {i : Fin 2} {p : List Byte} {s : State} (hl : p.length = 32)
    (hb : resBusy s n = false) (hi : fwVerified s (digestOf p) = some i) (ht : tillNone s = false) :
    fwCommitCmd n p s = writeRecord n 0x0040 0
      (BitVec.ofNat 8 i.val :: p ++ [BitVec.ofNat 8 (stageSlot s (decide (i.val = 1)))])
      (.fwSelect n (decide (i.val = 1))) s := by
  unfold fwCommitCmd
  dsimp only
  rw [slice_whole hl, hi, lenNot_of_length hl, hb, ht, Option.isNone_some, judged_pass, judged_pass, judged_pass,
    judged_pass, judged_run, hi, Option.getD_some, digestBytes_digestOf hl]

theorem exec_fwCommit {n : Fin 8} {s : State} (h : Executes 0x0A02 n s) (ha : afterRecord n s ≠ .slot) :
    exec (.fwCommit n) s = .next (fwCommitCmd n (payload s n) s) :=
  congrArg Host.Outcome.next ((if_neg ha).trans (runFrame_executes h rfl))

/-- Once the FIRMWARE record has committed, the command writes its selection record. -/
theorem exec_fwSlot {n : Fin 8} {app : Bool} {seq : List Byte} {s : State}
    (h : s.sinov.after = some (.slot n app seq)) (hr : sinovRuns s = true) :
    exec (.fwCommit n) s =
      .next (answerOk n seq (selectSlot app { s with sinov := { s.sinov with after := none } })) := by
  have ha : afterRecord n s = .slot := by simp only [afterRecord, h, hr, and_self, if_true]
  refine congrArg Host.Outcome.next ((if_pos ha).trans ?_)
  rw [slotFinish, h]

/-! ## The selection record -/

theorem Mem.readAll_writeAll {m : Mem} {a : Nat} {bs : List Byte} (h : m.wf = true) :
    (m.writeAll a bs).readAll a bs.length = bs := by
  induction bs generalizing m a with
  | nil => rfl
  | cons b bs ih =>
    rw [Mem.writeAll, List.length_cons, Mem.readAll, ih (Mem.write_wf h), Mem.read_writeAll_other (.inl (by omega)),
      Mem.read_write_same h]

theorem selectBytes_length (q k a : Nat) : (selectBytes q k a).length = 16 := by
  simp only [selectBytes, List.length_append, toLe_length, List.length_cons, List.length_nil]

/-- The slot of the staged image among the two that a selection record names. -/
def namedSlot (app : Bool) (a b : Nat) : Nat := if app then b else a

theorem namedSlot_of_if (app : Bool) (a b k : Nat) : namedSlot app (if app then a else k) (if app then k else b) = k := by
  cases app <;> rfl

/-- The selection record goes into an erased place of the selection sector, or into the first one of the sector erased. -/
theorem selectSlot_cases (app : Bool) (s : State) : ∃ i q a b, i < 4096 ∧ namedSlot app a b = stageSlot s app ∧
    (selectSlot app s = memPut s (flashBase + 16 * i) (selectBytes q a b) ∨
      selectSlot app s = memPut (flashErase 0 s) (flashBase + 16 * i) (selectBytes q a b)) := by
  unfold selectSlot
  extract_lets d old n last seq bs
  split
  · next i hi => exact ⟨i, _, _, _, List.mem_range.mp (List.mem_of_find?_eq_some hi), namedSlot_of_if app _ _ _, .inl rfl⟩
  · exact ⟨0, seq, _, _, by decide, namedSlot_of_if app old.1 old.2 n, .inr (by rw [Nat.mul_zero, Nat.add_zero])⟩

/-- What a selection record leaves in memory. -/
theorem selectSlot_written (app : Bool) (s : State) : MemSameBut flashBase 65536 s (selectSlot app s) ∧
    (s.mem.wf = true → ∃ i q a b, i < 4096 ∧
      (selectSlot app s).mem.readAll (flashBase + 16 * i) 16 = selectBytes q a b ∧
      (if app then b else a) = stageSlot s app) := by
  obtain ⟨i, q, a, b, hi, hs, hc⟩ := selectSlot_cases app s
  have hput : ∀ x, MemSameBut flashBase 65536 x (memPut x (flashBase + 16 * i) (selectBytes q a b)) :=
    fun x => (memSameBut_memPut x (flashBase + 16 * i) _).widen (by omega) (by rw [selectBytes_length]; omega)
  have hread : ∀ x : State, x.mem.wf = true →
      (memPut x (flashBase + 16 * i) (selectBytes q a b)).mem.readAll (flashBase + 16 * i) 16 = selectBytes q a b :=
    fun x hwf => by
      have := Mem.readAll_writeAll (a := flashBase + 16 * i) (bs := selectBytes q a b) hwf
      rwa [selectBytes_length] at this
  have herase : MemSameBut flashBase 65536 s (flashErase 0 s) := memSameBut_flashErase (ofs := 0) rfl s
  rcases hc with hc | hc
  · rw [hc]
    exact ⟨hput s, fun hwf => ⟨i, q, a, b, hi, hread s hwf, hs⟩⟩
  · rw [hc]
    exact ⟨herase.trans (hput _), fun hwf => ⟨i, q, a, b, hi, hread _ (Mem.clearRange_wf hwf), hs⟩⟩

theorem selectSlot_frame (app : Bool) (s : State) : ∃ m, selectSlot app s = { s with mem := m } := by
  obtain ⟨i, q, a, b, hi, hs, hc | hc⟩ := selectSlot_cases app s
  · exact ⟨_, hc⟩
  · exact ⟨_, hc⟩

/-- Settles O12: firmware is staged, verified and selected. -/
theorem firmwareCommands : Obligations.FirmwareCommands := by
  refine ⟨fun n s app len k h hp h1 h2 h3 h4 => ?_, fun n s i ofs bs k h hp h1 h2 h3 h4 => ?_,
    fun n s i ofs bs k h hp h1 h2 => ?_, fun n s i h hl hb hi hn => ?_, fun n s i h hl hb hi ht ha => ?_,
    fun n s app seq ha hr => ?_⟩
  · obtain ⟨a, e⟩ := fwBegin_passes (n := n) h1 h2 h3 h4
    have hsel : (!opIs 1 (payload s n)) = true := by
      rw [hp]
      rfl
    have hx := (exec_of_frame (i := .fwStageBegin n k) rfl h hsel).trans
      (congrArg Host.Outcome.next ((congrArg (fwBegin n k · s) hp).trans e))
    obtain ⟨m, em⟩ := eraseSectors_frame (slotOfs app (stageSlot s app)) a (sectors len.toNat) s
    refine ⟨_, hx, fun i hi => ?_, ?_, ?_⟩
    · obtain rfl : i = (if app then 1 else 0) := Fin.ext (by rw [hi]; cases app <;> rfl)
      exact fwSet_self _ _ _
    · rw [em]
      exact congrArg State.counters (answerOk_answered n _ _)
    · exact memSameBut_eraseSectors (slotOfs_aligned app _) s
  · have hsel : opIs 1 (payload s n) = true := by
      rw [hp]
      rfl
    have hx := (exec_of_frame (i := .fwStageData ⟨n, k⟩) rfl h hsel).trans
      (congrArg Host.Outcome.next ((congrArg (fwData n k · s) hp).trans (fwData_passes h1 h2 h3 h4)))
    obtain ⟨m, em, hsame, hand⟩ := flashPut_written
      (slotOfs (decide (i.val = 1)) (stageSlot s (decide (i.val = 1))) + ofs.toNat) (bs.take (min k bs.length)) s
    rw [em] at hx
    have hset := fwSet_self i { s.sinov.stage[i] with next := ofs.toNat + min k bs.length, verified := none }
      { s with mem := m }
    have hlen : (bs.take (min k bs.length)).length = min k bs.length := by
      rw [List.length_take]
      omega
    rw [hlen, ← Nat.add_assoc] at hsame
    rw [hlen] at hand
    refine ⟨_, hx, congrArg FwStage.next hset, congrArg FwStage.verified hset,
      congrArg State.counters (answerWith_answered n _ _ _ _), hsame, fun hs j hj => ?_⟩
    have := hand hs j hj
    rw [List.getD_eq_getElem?_getD, List.getElem?_take_of_lt hj, ← List.getD_eq_getElem?_getD, ← Nat.add_assoc] at this
    exact this
  · have hsel : opIs 1 (payload s n) = true := by
      rw [hp]
      rfl
    have hx := (exec_of_frame (i := .fwStageData ⟨n, k⟩) rfl h hsel).trans
      (congrArg Host.Outcome.next ((congrArg (fwData n k · s) hp).trans (fwData_wrong h2)))
    exact ⟨_, hx, answerWith_answered n .badArg 0 _ s⟩
  · have hx := (exec_of_frame (i := .fwVerify n) rfl h rfl).trans
      (congrArg Host.Outcome.next (fwVerify_passes hl hb hi hn))
    refine ⟨_, hx, (fwSet_self i _ s).trans ?_, answerOk_answered n _ _⟩
    rw [← fwActive_active hi]
  · have hx := (exec_fwCommit h ha).trans (congrArg Host.Outcome.next (fwCommit_passes hl hb hi ht))
    exact ⟨_, _, hx, rfl, writeRecord_asks _ _ _ _ _ _, rfl, writeRecord_running _ _ _ _ _ _⟩
  · have hx := exec_fwSlot ha hr
    obtain ⟨hsame, hread⟩ := selectSlot_written app { s with sinov := { s.sinov with after := none } }
    obtain ⟨m, em⟩ := selectSlot_frame app { s with sinov := { s.sinov with after := none } }
    rw [em] at hx hsame hread
    exact ⟨_, hx, rfl, congrArg State.counters (answerOk_answered n seq _), hsame, hread⟩

end Sys2Proof.Machine
end

section
/-! Error responses (R4, R16, R163): what the first-error capture takes, and the refused accesses that it shows. -/

namespace Sys2Proof.Machine

/-! ## The capture -/

/-- The first-error capture of two hubs is the same. -/
def SameCapture (g h : FaultHub) : Prop :=
  h.feValid = g.feValid ∧ h.feAddr = g.feAddr ∧ h.feMaster = g.feMaster ∧ h.feKind = g.feKind ∧ h.feSize = g.feSize ∧
    h.feTime = g.feTime ∧ h.feSource = g.feSource ∧ h.feOver = g.feOver

theorem SameCapture.refl (h : FaultHub) : SameCapture h h := ⟨rfl, rfl, rfl, rfl, rfl, rfl, rfl, rfl⟩

theorem SameCapture.trans {a b c : FaultHub} (h : SameCapture a b) (k : SameCapture b c) : SameCapture a c := by
  obtain ⟨h1, h2, h3, h4, h5, h6, h7, h8⟩ := h
  obtain ⟨k1, k2, k3, k4, k5, k6, k7, k8⟩ := k
  exact ⟨k1.trans h1, k2.trans h2, k3.trans h3, k4.trans h4, k5.trans h5, k6.trans h6, k7.trans h7, k8.trans h8⟩

theorem lapseAdmission_capture (s : State) : SameCapture s.hub (lapseAdmission s).hub := by
  rw [lapseAdmission_frame]
  exact .refl s.hub

/-- A raise that takes no action at once is the hub's own, with the grace timer or the admission's end of its class. -/
theorem raiseFault_mild_eq {f : Byte} {s : State} (hf : (faultRow f.toNat 0).isSome = true) (h : Mild f s) :
    raiseFault f s = raiseTimer f (raiseClass f s) (raiseBits f s) := by
  obtain ⟨row, hrow⟩ := Option.isSome_iff_exists.mp hf
  obtain ⟨hn, hp⟩ := h
  have hs : (if spoilsAtOnce f true then spoilByFault f (raiseBits f s) else raiseBits f s) = raiseBits f s := by
    by_cases hx : spoilsAtOnce f true = true
    · rw [if_pos hx]
      exact if_neg (by rw [show pageInFlight (raiseBits f s) = pageInFlight s from rfl, hp hx]; decide)
    · exact if_neg hx
  unfold raiseFault raiseWith
  simp only [hrow, raiseAction_noAction hn, hs]

/-- A raise that takes no action at once leaves the capture. -/
theorem raiseFault_capture {f : Byte} {s : State} (hf : (faultRow f.toNat 0).isSome = true) (h : Mild f s) :
    SameCapture s.hub (raiseFault f s).hub := by
  rw [raiseFault_mild_eq hf h]
  unfold raiseTimer
  split
  · exact .refl s.hub
  · split
    · exact .refl s.hub
    · exact lapseAdmission_capture _
    · exact lapseAdmission_capture _

/-- An error response is in the capture: as its first, or counted behind it. -/
structure Captured (a : Access) (src : ErrSource) (s t : State) : Prop where
  valid : t.hub.feValid = true
  first : s.hub.feValid = false → t.hub.feAddr = a.addr ∧ t.hub.feMaster = masterId a.master ∧ t.hub.feKind = a.kind ∧
    t.hub.feSize = a.size ∧ t.hub.feTime = s.devtime ∧ t.hub.feSource = src.code ∧ t.hub.feOver = s.hub.feOver
  later : s.hub.feValid = true → SameCapture { s.hub with feOver := satInc s.hub.feOver } t.hub

theorem captureError_captured (a : Access) (src : ErrSource) (s : State) : Captured a src s (captureError a src s) := by
  unfold captureError
  dsimp only
  split
  · next h => exact ⟨h, fun e => absurd (h.symm.trans e) (by decide), fun _ => .refl _⟩
  · next h => exact ⟨rfl, fun _ => ⟨rfl, rfl, rfl, rfl, rfl, rfl, rfl⟩, fun e => absurd e h⟩

theorem Captured.of_same {a : Access} {src : ErrSource} {s t u : State} (h : Captured a src s t)
    (k : SameCapture t.hub u.hub) : Captured a src s u := by
  obtain ⟨hv, hf, hl⟩ := h
  refine ⟨k.1.trans hv, fun e => ?_, fun e => (hl e).trans k⟩
  obtain ⟨h1, h2, h3, h4, h5, h6, h7⟩ := hf e
  obtain ⟨k1, k2, k3, k4, k5, k6, k7, k8⟩ := k
  exact ⟨k2.trans h1, k3.trans h2, k4.trans h3, k5.trans h4, k6.trans h5, k7.trans h6, k8.trans h7⟩

/-! ## Error responses -/

theorem captureError_frame (a : Access) (src : ErrSource) (s : State) :
    ∃ h, captureError a src s = { s with hub := h } ∧ h.raised = s.hub.raised ∧ h.cfg = s.hub.cfg := by
  refine ⟨_, rfl, ?_, ?_⟩ <;> split <;> rfl

theorem captureError_mild {f : Byte} {a : Access} {src : ErrSource} {s : State} (h : Mild f s) :
    Mild f (captureError a src s) := by
  obtain ⟨b, e, hr, hc⟩ := captureError_frame a src s
  obtain ⟨hn, hp⟩ := h
  rw [e]
  refine ⟨hn.imp (fun x => ?_) fun x => ?_, hp⟩
  · show b.raised.getLsbD f.toNat = true
    rw [hr, x]
  · show (bits (b.cfg[f.toNat]?.getD 0) 0 2 : BitVec 2).toNat < 2
    rw [hc]
    exact x

/-- Nothing has changed but the hub and the end of an admission. -/
def HubOnly (s t : State) : Prop :=
  t = { s with
    hub := t.hub
    sinov := { s.sinov with admission := t.sinov.admission, admitWait := t.sinov.admitWait }
    till := { s.till with rsv := t.till.rsv } }

theorem HubOnly.counters {s t : State} (h : HubOnly s t) : t.counters = s.counters := by
  rw [h]

theorem HubOnly.memSame {s t : State} (h : HubOnly s t) : MemSame s t := memSame_of_mem (by rw [h])

/-- An error response raises FAB_ERROR. -/
theorem errorResponse_stands (a : Access) (src : ErrSource) (s : State) : Stands 0x60 (errorResponse a src s) :=
  raiseFault_stands (by decide) _

/-- An error response whose fault takes no action changes the hub alone. -/
theorem errorResponse_hubOnly {a : Access} {src : ErrSource} {s : State} (h : Mild 0x60 s) :
    HubOnly s (errorResponse a src s) := by
  obtain ⟨-, -, -, -, -, hr⟩ := raiseFault_mild (f := 0x60) (by decide) (captureError_mild (a := a) (src := src) h)
  obtain ⟨b, e, -, -⟩ := captureError_frame a src s
  unfold HubOnly errorResponse
  rw [hr, e]

/-- An error response whose fault takes no action is captured. -/
theorem errorResponse_captured {a : Access} {src : ErrSource} {s : State} (h : Mild 0x60 s) :
    Captured a src s (errorResponse a src s) :=
  (captureError_captured a src s).of_same (raiseFault_capture (by decide) (captureError_mild h))

/-! ## Refused writes -/

/-- A write to a bank out of the master's reach. -/
theorem addrWrite_firewall {m : Master} {bank off : Nat} {v : Word} {s : State} (hb : bank < 0x31) (ho : off < 0x1_0000)
    (hr : bankReach m bank = false) : addrWrite m (regAddr bank off) 2 v s =
      errorResponse { master := m, addr := regAddr bank off, kind := 1, size := 2 } .firewall s := by
  have hbank : ((regAddr bank off).toNat - 0x4000_0000) / 0x1_0000 = bank := by
    rw [regAddr_toNat hb ho]
    omega
  unfold addrWrite
  simp only [regionOf_regAddr hb ho, hbank, hr, ne_eq, not_true_eq_false, if_false, if_true]

/-- A misaligned write, refused by the firewall first where the bank is out of reach. -/
theorem addrWrite_misaligned {m : Master} {addr : BitVec 40} {size : BitVec 3} {v : Word} {s : State}
    (hr : regionOf addr.toNat = .regs) (h : size ≠ 2 ∨ addr.toNat % 4 ≠ 0) :
    ∃ src, addrWrite m addr size v s = errorResponse { master := m, addr := addr, kind := 1, size := size } src s := by
  unfold addrWrite
  dsimp only
  rw [if_neg (not_not_intro hr), if_pos h]
  split
  · exact ⟨_, rfl⟩
  · exact ⟨_, rfl⟩

/-- Settles O55: a misaligned write is an error response and no more. -/
theorem misalignedAccessesAreRefused : Obligations.MisalignedAccessesAreRefused := by
  intro m addr size v s hr h
  obtain ⟨src, e⟩ := addrWrite_misaligned (m := m) (v := v) (s := s) hr h
  have hx : exec (.registerWrite m addr size v) s =
      .next (errorResponse { master := m, addr := addr, kind := 1, size := size } src s) := congrArg Host.Outcome.next e
  refine ⟨_, hx, errorResponse_stands _ _ _, fun hm => ?_⟩
  have hc := errorResponse_captured (a := { master := m, addr := addr, kind := 1, size := size }) (src := src) hm
  refine ⟨hc.valid, errorResponse_hubOnly hm, fun hv => ?_⟩
  obtain ⟨h1, h2, h3, h4, h5, -, -⟩ := hc.first hv
  exact ⟨h1, h2, h3, h4, h5⟩

/-- Outside SERVICE a write of a sealed register of a block out of reset is an error response. -/
theorem sealed_refused {m : Master} {bank off : Nat} {v : Word} {s : State} (h : sealedReg bank off = true)
    (hs : s.sys.mode ≠ 1) (hb : s.rst.blk[(22 : Fin 24)] = .none) : ∃ src, addrWrite m (regAddr bank off) 2 v s =
      errorResponse { master := m, addr := regAddr bank off, kind := 1, size := 2 } src s := by
  have hcases : (bank = 0x0D ∧ (off = 0 ∨ off = 8)) ∨ (bank = 0x2B ∧ off = 0) := by
    simpa [sealedReg] using h
  have hlt : bank < 0x31 ∧ off < 0x1_0000 ∧ off % 4 = 0 ∧ bank ≠ 0x30 := by
    rcases hcases with ⟨rfl, rfl | rfl⟩ | ⟨rfl, rfl⟩ <;> decide
  obtain ⟨h1, h2, h3, h4⟩ := hlt
  cases hr : bankReach m bank with
  | false => exact ⟨_, addrWrite_firewall h1 h2 hr⟩
  | true =>
    have hex : regExists bank off = true := by
      rcases hcases with ⟨rfl, rfl | rfl⟩ | ⟨rfl, rfl⟩ <;> decide
    have hroute : route m bank off s = .go ∨ route m bank off s = .error .target := by
      unfold route
      rw [hr, if_neg (by decide)]
      split
      · exact .inr rfl
      · rcases hcases with ⟨rfl, -⟩ | ⟨rfl, -⟩
        · exact .inl rfl
        · exact .inl (if_pos hb)
    have hv : writeVerdict m bank off v s = .error .target := by
      unfold writeVerdict
      rcases hroute with e | e
      · rw [e]
        dsimp only
        rw [hex, if_neg (by decide)]
        split
        · rfl
        · exact if_pos ⟨h, hs⟩
      · rw [e]
    refine ⟨.target, (addrWrite_regAddr h1 h2 h3 hr).trans ?_⟩
    rw [regWrite, regWriteWith, if_neg fun x => h4 x.1, regWriteCore, hv]
    rfl

/-- Settles O57: outside SERVICE a sealed register takes no write. -/
theorem sealedFieldsHold : Obligations.SealedFieldsHold := by
  intro m bank off v s h hs hb
  obtain ⟨src, e⟩ := sealed_refused (m := m) (v := v) h hs hb
  have hx : exec (.registerWrite m (regAddr bank off) 2 v) s =
      .next (errorResponse { master := m, addr := regAddr bank off, kind := 1, size := 2 } src s) :=
    congrArg Host.Outcome.next e
  refine ⟨_, hx, errorResponse_stands _ _ _, fun hm => ?_⟩
  have ho := errorResponse_hubOnly (a := { master := m, addr := regAddr bank off, kind := 1, size := 2 }) (src := src) hm
  exact ⟨(errorResponse_captured hm).valid, by rw [ho], by rw [ho]⟩

/-- A core's write to a Keeper bank is refused by the firewall. -/
theorem exec_keeperBank_write {i : Fin 4} {bank off : Nat} {v : Word} {s : State} (hk : keeperBank bank = true)
    (hb : bank < 0x31) (ho : off < 0x1_0000) : exec (.registerWrite (.acore i) (regAddr bank off) 2 v) s =
      .next (errorResponse { master := .acore i, addr := regAddr bank off, kind := 1, size := 2 } .firewall s) := by
  have hr : bankReach (.acore i) bank = false := by
    show (decide (bank < 0x31) && !keeperBank bank) = false
    rw [hk, Bool.not_true, Bool.and_false]
  exact congrArg Host.Outcome.next (addrWrite_firewall hb ho hr)

/-- Settles O59: the first error response is captured and the later ones are counted. -/
theorem errorsAreCaptured : Obligations.ErrorsAreCaptured := by
  refine ⟨fun i bank off v s hk hb ho hv hm => ?_, fun i bank off v s hk hb ho hv hm => ?_⟩
  · have hc := errorResponse_captured (a := { master := .acore i, addr := regAddr bank off, kind := 1, size := 2 })
      (src := .firewall) hm
    have hh := errorResponse_hubOnly (a := { master := .acore i, addr := regAddr bank off, kind := 1, size := 2 })
      (src := .firewall) hm
    obtain ⟨h1, h2, h3, h4, h5, h6, h7⟩ := hc.first hv
    exact ⟨_, exec_keeperBank_write hk hb ho, errorResponse_stands _ _ _, hc.valid, h1, h2, h6, h5, h7, hh.counters,
      hh.memSame⟩
  · have hc := errorResponse_captured (a := { master := .acore i, addr := regAddr bank off, kind := 1, size := 2 })
      (src := .firewall) hm
    have hh := errorResponse_hubOnly (a := { master := .acore i, addr := regAddr bank off, kind := 1, size := 2 })
      (src := .firewall) hm
    obtain ⟨-, h2, h3, h4, h5, h6, h7, h8⟩ := hc.later hv
    exact ⟨_, exec_keeperBank_write hk hb ho, errorResponse_stands _ _ _, h2, h3, h7, h6, h4, h5, h8, hh.counters,
      hh.memSame⟩

end Sys2Proof.Machine
end

section
/-! The PTP clocks and MDIO of the Ethernet MACs (R474-R477, R486). -/

namespace Sys2Proof.Machine

/-! ## Edges of the pins -/

/-- An operation watched for edges of bank b's pins adds edge events of that bank to what it does. -/
theorem withEdges_frame (b : Fin 4) (f : State → State) (s : State) : withEdges b f s = { f s with
    gpio := (f s).gpio.set b { (f s).gpio[b] with evt := (withEdges b f s).gpio[b].evt } } := by
  have h : (withEdges b f s).gpio[b] = { (f s).gpio[b] with evt := (f s).gpio[b].evt ||| edgeEvents s (f s) b } :=
    vmod_same _ _ _
  rw [h]
  rfl

/-! ## Writes of a MAC's registers -/

theorem bankWrite_eth (m : Master) (i : Fin 2) (off : Nat) (v : Word) (outs : List Access) (s : State) :
    bankWrite m (0x2C + i.val) off v outs s = writeEth i off v s := by
  obtain rfl | rfl : i = 0 ∨ i = 1 := by omega
  · rfl
  · rfl

/-- A granted write of a MAC's register, by the row that writes it. -/
theorem exec_of_eth {r : Instr} {m : Master} {i : Fin 2} {off : Nat} {v : Word} {s : State}
    (hr : exec r s = .next (regWrite m (0x2C + i.val) off v s)) (h : Granted m (0x2C + i.val) off v s) :
    exec r s = .next (writeEth i off v s) :=
  (exec_of_granted hr h (by omega)).trans (congrArg Host.Outcome.next (bankWrite_eth ..))

/-- An operation on a MAC whose fields it leaves as they are changes nothing. -/
theorem ethMod_self {i : Fin 2} {f : Eth → Eth} {s : State} (h : f s.eth[i] = s.eth[i]) : ethMod i f s = s := by
  unfold ethMod vmod
  rw [h, Fin.getElem_fin, Vector.set_getElem_self]

/-- The one case of an operation on a MAC that applies. -/
theorem ethMod_eq {i : Fin 2} {f : Eth → Eth} {s : State} {x : Eth} (h : f s.eth[i] = x) :
    ethMod i f s = { s with eth := s.eth.set i x } := by
  rw [ethMod, vmod, h]

/-! ## The PTP clock -/

/-- The seconds and nanoseconds of a time within the clock's range. -/
theorem ptpTime_split {n : Nat} (h : n < 2 ^ 48 * 1000000000) :
    (BitVec.ofNat 48 (n / 1000000000)).toNat * 1000000000 + n % 1000000000 = n := by
  rw [BitVec.toNat_ofNat, Nat.mod_eq_of_lt (by omega)]
  omega

theorem ptpTime_zero : (0 : BitVec 48).toNat * 1000000000 + 0 = 0 := by simp

/-- The clock after a step by `d` ns from `now`. -/
def ptpStepped (e : Eth) (now d : Nat) : Eth :=
  if e.setNs.getLsbD 31 then
    if now < d then { e with ptpSec := 0, ptpNs := 0, ptpFrac := 0 }
    else { e with ptpSec := BitVec.ofNat 48 ((now - d) / 1000000000), ptpNs := (now - d) % 1000000000 }
  else { e with ptpSec := BitVec.ofNat 48 ((now + d) / 1000000000), ptpNs := (now + d) % 1000000000 }

theorem ptpStepped_frame (e : Eth) (now d : Nat) : ptpStepped e now d = { e with
    ptpSec := (ptpStepped e now d).ptpSec, ptpNs := (ptpStepped e now d).ptpNs
    ptpFrac := (ptpStepped e now d).ptpFrac } := by
  unfold ptpStepped
  split_ifs <;> rfl

theorem ptpStepped_time {e : Eth} {now d : Nat} (h : now + d < 2 ^ 48 * 1000000000) :
    (ptpStepped e now d).ptpSec.toNat * 1000000000 + (ptpStepped e now d).ptpNs =
        (if e.setNs.getLsbD 31 then now - d else now + d) ∧ (ptpStepped e now d).ptpNs < 1000000000 := by
  unfold ptpStepped
  split
  · split
    · next hlt =>
      exact ⟨ptpTime_zero.trans (Nat.sub_eq_zero_of_le hlt.le).symm, Nat.zero_lt_succ _⟩
    · exact ⟨ptpTime_split (by omega), Nat.mod_lt _ (by decide)⟩
  · exact ⟨ptpTime_split h, Nat.mod_lt _ (by decide)⟩

/-- A STEP by a time within range. -/
theorem ptpStepOp_steps {i : Fin 2} {s : State} (h : (s.eth[i].setNs &&& 0x3FFF_FFFF).toNat ≤ 999999999) :
    ptpStepOp i s = { s with eth := s.eth.set i (ptpStepped s.eth[i]
      (s.eth[i].ptpSec.toNat * 1000000000 + s.eth[i].ptpNs)
      (s.eth[i].setSec.toNat * 1000000000 + (s.eth[i].setNs &&& 0x3FFF_FFFF).toNat)) } :=
  ethMod_eq (if_neg (Nat.not_lt.mpr h))

/-- A rise or fall of PPS while the MAC is up. -/
theorem ppsSet_up {i : Fin 2} {b : Bool} {s : State} (h : ethUp s i = true) :
    ∃ t, Host.Outcome.next (ppsSet i b s) = (.next t : Host.Outcome State Fault Refusal) ∧
      t = { s with eth := s.eth.set i { s.eth[i] with pps := b }
                   gpio := s.gpio.set 1 { s.gpio[1] with evt := t.gpio[1].evt } } :=
  ⟨_, congrArg Host.Outcome.next (if_pos h), withEdges_frame 1 (ethMod i fun e => { e with pps := b }) s⟩

/-- Settles O53: the PTP clock, PPS, the capture and MDIO. -/
theorem ptpAndMdioRun : Obligations.PtpAndMdioRun := by
  refine ⟨fun m i s h h1 h2 => ?_, fun m i s h h1 => ?_, fun m i d now s h h1 hd hnow h2 => ?_, fun m i s h h1 => ?_,
    fun i s h => ⟨ppsSet_up h, ppsSet_up h⟩, fun i s h => ?_, fun i s h => ⟨?_, ?_, ?_⟩, fun m i v s h h1 => ?_,
    fun m i v s h h1 => ?_, fun i d s h => ?_, fun i d s h => ?_⟩
  · refine (exec_of_eth rfl h).trans (congrArg Host.Outcome.next (ethMod_eq (if_neg ?_)))
    rw [h2, not_or]
    exact ⟨Nat.not_lt.mpr h1, by decide⟩
  · exact (exec_of_eth rfl h).trans (congrArg Host.Outcome.next (ethMod_self (if_pos h1)))
  · subst hd hnow
    have hx := (exec_of_eth (r := .ptpStep m i) rfl h).trans (congrArg Host.Outcome.next (ptpStepOp_steps h1))
    have hget : ∀ x : Eth, (s.eth.set i x)[i] = x := fun x => Vector.getElem_set_self _
    refine ⟨_, hx, ?_⟩
    dsimp only
    rw [hget, ← ptpStepped_frame]
    exact ⟨rfl, ptpStepped_time h2⟩
  · exact (exec_of_eth rfl h).trans (congrArg Host.Outcome.next (ethMod_self (if_pos h1)))
  · exact congrArg Host.Outcome.next ((if_pos h).trans rfl)
  · exact congrArg Host.Outcome.next (if_neg (by rw [h]; decide))
  · exact congrArg Host.Outcome.next (if_neg (by rw [h]; decide))
  · exact congrArg Host.Outcome.next (if_neg (by rw [h]; decide))
  · exact (exec_of_eth rfl h).trans (congrArg Host.Outcome.next (ethMod_eq (if_neg (by rw [h1]; decide))))
  · exact (exec_of_eth rfl h).trans (congrArg Host.Outcome.next (ethMod_self (if_pos h1)))
  · exact congrArg Host.Outcome.next (ethMod_eq (if_pos h))
  · exact congrArg Host.Outcome.next (ethMod_self (if_neg (by rw [h]; decide)))

end Sys2Proof.Machine
end

section
/-! The debug module's abstract commands on a halted hart (R511). -/

namespace Sys2Proof.Machine

/-! ## Writes of the DEBUG bank -/

/-- A granted write of DEBUG, by the row that writes it. -/
theorem exec_of_debug {i : Instr} {m : Master} {off : Nat} {v : Word} {s : State}
    (hi : exec i s = .next (regWrite m 0x30 off v s)) (h : Granted m 0x30 off v s) :
    exec i s = .next (writeDebug m off v s) :=
  hi.trans (congrArg Host.Outcome.next (if_pos ⟨rfl, h.1⟩))

/-- The word at 0x5C is `command`. -/
theorem writeDebug_command {m : Master} {v : Word} {s : State} (h : dmActive s = true) :
    writeDebug m 0x5C v s = dmCommand v s := by
  show (if within 0x5C 0 128 then dmiWrite m 0x17 v s else s) = _
  rw [if_pos (by decide), dmiWrite, if_neg (by decide), if_neg (by rw [h]; decide), if_neg (by decide), if_pos rfl]

/-- The hart that an abstract command reaches: selected, there, and halted. -/
def HartHalted (h : Fin 4) (s : State) : Prop :=
  dmHart s = some h ∧ hartThere s h = true ∧ s.cluster.harts[h].halted = true

/-- An Access Register command on a halted hart, while no error stands. -/
theorem dmCommand_register {v : Word} {h : Fin 4} {s : State} (ha : dmActive s = true) (he : dmiReg s 0x16 &&& 0x700 = 0)
    (hv : (bits v 24 8 : BitVec 8).toNat = 0) (hh : HartHalted h s) : dmCommand v s = accessRegister v h s := by
  obtain ⟨h1, h2, h3⟩ := hh
  unfold dmCommand
  rw [ha, he, hv, if_neg (by simp)]
  show dmCommand.onHart (accessRegister v) s = _
  unfold dmCommand.onHart
  rw [h1]
  dsimp only
  rw [h2, h3, if_pos (by decide)]

/-- An Access Memory command for a halted hart, while no error stands. -/
theorem dmCommand_memory {v : Word} {h : Fin 4} {s : State} (ha : dmActive s = true) (he : dmiReg s 0x16 &&& 0x700 = 0)
    (hv : (bits v 24 8 : BitVec 8).toNat = 2) (hh : HartHalted h s) : dmCommand v s = accessMemory v h s := by
  obtain ⟨h1, h2, h3⟩ := hh
  unfold dmCommand
  rw [ha, he, hv, if_neg (by simp)]
  show dmCommand.onHart (accessMemory v) s = _
  unfold dmCommand.onHart
  rw [h1]
  dsimp only
  rw [h2, h3, if_pos (by decide)]

/-- A command for a hart that is not halted ends with the error "halt/resume". -/
theorem dmCommand_notHalted {v : Word} {h : Fin 4} {s : State} (ha : dmActive s = true)
    (he : dmiReg s 0x16 &&& 0x700 = 0) (hv : (bits v 24 8 : BitVec 8).toNat = 0) (h1 : dmHart s = some h)
    (h2 : s.cluster.harts[h].halted = false) : dmCommand v s = cmdErr 4 s := by
  unfold dmCommand
  rw [ha, he, hv, if_neg (by simp)]
  show dmCommand.onHart (accessRegister v) s = _
  unfold dmCommand.onHart
  rw [h1]
  dsimp only
  rw [h2, Bool.and_false, if_neg (by decide)]

/-! ## Access Register -/

/-- The parts of the command that reads general register r. -/
theorem readCommand_bits : ∀ r : Fin 32, let v : Word := 0x0032_1000 + BitVec.ofNat 32 r.val
    v &&& 0x00FF_FFFF = v ∧ (bits v 24 8 : BitVec 8).toNat = 0 ∧ (bits v 0 16 : BitVec 16).toNat = 0x1000 + r.val ∧
      (bits v 20 3 : BitVec 3) = 3 ∧ bit v 17 = true ∧ bit v 16 = false := by decide

/-- The parts of the command that writes it. -/
theorem writeCommand_bits : ∀ r : Fin 32, let v : Word := 0x0033_1000 + BitVec.ofNat 32 r.val
    v &&& 0x00FF_FFFF = v ∧ (bits v 24 8 : BitVec 8).toNat = 0 ∧ (bits v 0 16 : BitVec 16).toNat = 0x1000 + r.val ∧
      (bits v 20 3 : BitVec 3) = 3 ∧ bit v 17 = true ∧ bit v 16 = true := by decide

theorem regnoOk_gpr (r : Fin 32) : regnoOk (0x1000 + r.val) = true := by
  have := r.isLt
  rw [regnoOk, decide_eq_true (show 0x1000 + r.val < 0x1040 by omega), decide_eq_true (Nat.le_add_right ..), Bool.or_true,
    Bool.and_true]

theorem hartReg_gpr (s : State) (h : Fin 4) (r : Fin 32) :
    hartReg s h (0x1000 + r.val) = if r.val = 0 then 0 else s.cluster.harts[h].x[r] := by
  have := r.isLt
  unfold hartReg
  dsimp only
  rw [if_neg (by omega), if_pos (by omega), Nat.add_sub_cancel_left, Fin.getElem_fin, Vector.getElem?_eq_getElem r.isLt,
    Option.getD_some]
  by_cases hr : r.val = 0
  · rw [if_pos (by omega), if_pos hr]
  · rw [if_neg (by omega), if_neg hr]
    rfl

theorem vector_setIfInBounds {α : Type} {n : Nat} (v : Vector α n) (i : Fin n) (a : α) :
    v.setIfInBounds i.val a = v.set i a :=
  Vector.toArray_inj.mp (by simp [Array.setIfInBounds])

theorem hartRegPut_gpr (r : Fin 32) (v : BitVec 64) (x : Hart) :
    hartRegPut (0x1000 + r.val) v x = if r.val = 0 then x else { x with x := x.x.set r v } := by
  have := r.isLt
  unfold hartRegPut
  rw [if_neg (by omega), if_pos (by omega), Nat.add_sub_cancel_left]
  by_cases hr : r.val = 0
  · rw [if_pos (by omega), if_pos hr]
  · rw [if_neg (by omega), if_neg hr, vector_setIfInBounds]

/-- Access Register reads general register r. -/
theorem accessRegister_reads (r : Fin 32) (h : Fin 4) (s : State) :
    accessRegister (0x0032_1000 + BitVec.ofNat 32 r.val) h s =
      dmArgPut 0 (if r.val = 0 then 0 else s.cluster.harts[h].x[r]) s := by
  obtain ⟨-, -, h1, h2, h3, h4⟩ := readCommand_bits r
  unfold accessRegister
  dsimp only
  rw [h1, h2, h3, h4, if_neg (by decide), if_neg (by decide), regnoOk_gpr, if_neg (by decide), if_neg (by decide),
    if_pos rfl, hartReg_gpr]

theorem hartMod_self (h : Fin 4) (s : State) : hartMod h (fun x => x) s = s := by
  unfold hartMod vmod
  rw [Fin.getElem_fin, Vector.set_getElem_self]

/-- Access Register writes general register r; x0 discards it. -/
theorem accessRegister_writes (r : Fin 32) (h : Fin 4) (s : State) :
    accessRegister (0x0033_1000 + BitVec.ofNat 32 r.val) h s =
      if r.val = 0 then s else hartMod h (fun x => { x with x := x.x.set r (dmArg s 0) }) s := by
  obtain ⟨-, -, h1, h2, h3, h4⟩ := writeCommand_bits r
  have hro : csrReadOnly (0x1000 + r.val) = false := by
    rw [csrReadOnly, decide_eq_false (by omega), Bool.false_and]
  have hput : hartRegPut (0x1000 + r.val) (dmArg s 0) =
      fun x => if r.val = 0 then x else { x with x := x.x.set r (dmArg s 0) } := funext fun x => hartRegPut_gpr r _ x
  unfold accessRegister
  dsimp only
  rw [h1, h2, h3, h4, if_neg (by decide), if_neg (by decide), regnoOk_gpr, if_neg (by decide), if_pos rfl, hro,
    if_neg (by decide), if_pos rfl, hput]
  by_cases hr : r.val = 0
  · simp only [hr, if_true]
    exact hartMod_self h s
  · simp only [hr, if_false]

/-- An Access Register row's command has command type 0. -/
theorem commandType_masked (cmd : Word) : (bits (cmd &&& 0x00FF_FFFF) 24 8 : BitVec 8).toNat = 0 := by
  have hlt : (cmd &&& 0x00FF_FFFF).toNat < 2 ^ 24 := by
    rw [BitVec.toNat_and]
    exact Nat.and_lt_two_pow _ (by decide)
  rw [bits, BitVec.toNat_setWidth, BitVec.toNat_ushiftRight, Nat.shiftRight_eq_div_pow, Nat.div_eq_of_lt hlt]

/-! ## Access Memory -/

/-- The parts of the command that reads a word of memory. -/
theorem wordCommand_bits : let v : Word := 0x0220_0000
    ((0x0220_0000 : Word) &&& 0x00FF_FFFF) ||| 0x0200_0000 = v ∧ (bits v 24 8 : BitVec 8).toNat = 2 ∧
      (bits v 20 3 : BitVec 3).toNat = 2 ∧ bit v 23 = false ∧ bit v 16 = false ∧ bit v 19 = false := by decide

/-- A word read of an address that is no word's. -/
theorem accessMemory_misaligned {h : Fin 4} {s : State} (ha : (dmArg s 1).toNat % 4 ≠ 0) :
    accessMemory 0x0220_0000 h s = cmdErr 3 (if regionOf (dmArg s 1).toNat = .regs then
      errorResponse (hartAccess h (dmArg s 1).toNat 4 0) .misaligned s else s) := by
  obtain ⟨-, -, h1, h2, h3, -⟩ := wordCommand_bits
  unfold accessMemory
  dsimp only
  rw [h1, h2, h3, if_neg (by simp), show 2 ^ 2 = 4 from rfl, if_pos ha, if_neg Bool.false_ne_true]

/-- A word read of a line in the hart's L1. -/
theorem accessMemory_cached {h : Fin 4} {l : L1Line} {s : State} (ha : (dmArg s 1).toNat % 4 = 0)
    (hr : regionOf (dmArg s 1).toNat = .dram) (hlt : (dmArg s 1).toNat < 2 ^ 40)
    (hl : l1Find s h ((dmArg s 1).toNat / 64) = some l) : accessMemory 0x0220_0000 h s =
      dmiPut 4 (BitVec.ofNat 32 (natLe (slice l.data ((dmArg s 1).toNat % 64) 4))) s := by
  obtain ⟨-, -, h1, h2, h3, h4⟩ := wordCommand_bits
  have hc : coreLoad h (dmArg s 1).toNat 4 s = (some (slice l.data ((dmArg s 1).toNat % 64) 4), s) := by
    unfold coreLoad
    rw [hr]
    dsimp only
    rw [hl]
  unfold accessMemory
  dsimp only
  rw [h1, h2, h3, h4, if_neg (by simp), if_neg (by rw [show 2 ^ 2 = 4 from rfl, ha]; decide), if_neg (Nat.not_le.mpr hlt),
    if_neg (by decide), show 2 ^ 2 = 4 from rfl, hc]
  rfl

theorem lt_of_region {a : Nat} (h : regionOf a = .regs ∨ regionOf a = .dram) : a < 2 ^ 32 := by
  by_contra hge
  have hr : regionOf a = .xspi ∨ regionOf a = .hole ∨ regionOf a = .mram := by
    unfold regionOf
    rw [if_neg (by omega), if_neg (by omega), if_neg (by omega), if_neg (by omega), if_neg (by omega), if_neg (by omega),
      if_neg (by omega)]
    split_ifs <;> simp
  rcases hr with e | e | e <;> simp [e] at h

/-- Settles O54: the debugger reaches a halted hart's registers and memory. -/
theorem debugReachesHarts : Obligations.DebugReachesHarts := by
  refine ⟨fun m v s h hv => ?_, fun m v s h hv => ?_, fun m h r s hg ha he h1 h2 h3 => ?_,
    fun m h r s hg ha he h1 h2 h3 => ?_, fun m h cmd s hg ha he h1 h2 => ?_, fun m h s hg ha he h1 h2 h3 h4 h5 => ?_,
    fun m h s hg ha he h1 h2 h3 h4 h5 hm => ?_, fun m h l s hg ha he h1 h2 h3 h4 h5 h6 => ?_⟩
  · exact (exec_of_debug rfl h).trans (congrArg Host.Outcome.next (if_pos hv))
  · exact (exec_of_debug rfl h).trans (congrArg Host.Outcome.next (if_neg (by rw [hv]; decide)))
  · obtain ⟨hmask, htype, -⟩ := readCommand_bits r
    have hx : exec (.dmiAccessRegister m (0x0032_1000 + BitVec.ofNat 32 r.val)) s =
        .next (regWrite m 0x30 0x5C (0x0032_1000 + BitVec.ofNat 32 r.val) s) :=
      congrArg (fun v => Host.Outcome.next (regWrite m 0x30 0x5C v s)) hmask
    rw [exec_of_debug hx hg, writeDebug_command ha, dmCommand_register ha he htype ⟨h1, h2, h3⟩, accessRegister_reads]
  · obtain ⟨hmask, htype, -⟩ := writeCommand_bits r
    have hx : exec (.dmiAccessRegister m (0x0033_1000 + BitVec.ofNat 32 r.val)) s =
        .next (regWrite m 0x30 0x5C (0x0033_1000 + BitVec.ofNat 32 r.val) s) :=
      congrArg (fun v => Host.Outcome.next (regWrite m 0x30 0x5C v s)) hmask
    rw [exec_of_debug hx hg, writeDebug_command ha, dmCommand_register ha he htype ⟨h1, h2, h3⟩, accessRegister_writes]
  · have htype : (bits (cmd &&& 0x00FF_FFFF) 24 8 : BitVec 8).toNat = 0 := commandType_masked cmd
    rw [exec_of_debug rfl hg, writeDebug_command ha, dmCommand_notHalted ha he htype h1 h2]
  · obtain ⟨hmask, htype, -⟩ := wordCommand_bits
    rw [exec_of_debug rfl hg, writeDebug_command ha, dmCommand_memory ha he htype ⟨h1, h2, h3⟩, accessMemory_misaligned h4,
      if_neg h5]
  · obtain ⟨hmask, htype, -⟩ := wordCommand_bits
    have hx : exec (.dmiAccessMemory m 0x0220_0000) s =
        .next (cmdErr 3 (errorResponse (hartAccess h (dmArg s 1).toNat 4 0) .misaligned s)) := by
      rw [exec_of_debug rfl hg, writeDebug_command ha, dmCommand_memory ha he htype ⟨h1, h2, h3⟩,
        accessMemory_misaligned h4, if_pos h5]
    have hlt := lt_of_region (.inl h5)
    have hc := errorResponse_captured (a := hartAccess h (dmArg s 1).toNat 4 0) (src := .misaligned) hm
    have ho := errorResponse_hubOnly (a := hartAccess h (dmArg s 1).toNat 4 0) (src := .misaligned) hm
    refine ⟨_, hx, errorResponse_stands _ _ s, hc.valid, fun hv => ?_, ?_, ?_, ho.counters, ho.memSame⟩
    · obtain ⟨h1, h2, h3, -, -, h6, -⟩ := hc.first hv
      refine ⟨h6, h2, h3, (congrArg BitVec.toNat h1).trans ?_⟩
      rw [hartAccess, BitVec.toNat_ofNat, Nat.mod_eq_of_lt (by omega)]
    · rw [cmdErr, dmiPut, ho]
      rfl
    · rw [cmdErr, dmiPut, ho]
  · obtain ⟨hmask, htype, -⟩ := wordCommand_bits
    have hlt := lt_of_region (.inr h5)
    rw [exec_of_debug rfl hg, writeDebug_command ha, dmCommand_memory ha he htype ⟨h1, h2, h3⟩,
      accessMemory_cached h4 h5 (by omega) h6]

end Sys2Proof.Machine
end

section
/-! The SHA engine, the measurement registers and the signing engine (R379, R381). -/

namespace Sys2Proof.Machine

/-! ## The SHA engine -/

theorem shaCtrlOp_busy {v : Word} {s : State} (h : s.crypto.shaBusy = true) : shaCtrlOp v s = s := if_pos h

/-- START without FINAL begins an empty message. -/
theorem shaCtrlOp_start {v : Word} {s : State} (h : s.crypto.shaBusy = false) (h0 : bit v 0 = true)
    (h1 : bit v 1 = false) : shaCtrlOp v s =
      { s with crypto := { s.crypto with shaCtrl := v &&& 0x0003_0003, msg := [], shaFinal := false } } := by
  unfold shaCtrlOp
  dsimp only
  rw [h, h0, h1, if_neg Bool.false_ne_true, if_pos rfl, if_neg Bool.false_ne_true]

/-- FINAL without START starts the engine on the message's valid bytes. -/
theorem shaCtrlOp_final {v : Word} {s : State} (h : s.crypto.shaBusy = false) (h0 : bit v 0 = false)
    (h1 : bit v 1 = true) : shaCtrlOp v s = { s with crypto := { s.crypto with
      shaCtrl := v &&& 0x0003_0003, msg := trimMsg v s.crypto.msg, shaFinal := true, shaBusy := true } } := by
  unfold shaCtrlOp
  dsimp only
  rw [h, h0, h1, if_neg Bool.false_ne_true, if_neg Bool.false_ne_true, if_pos rfl]

/-- The parts of a FINAL with k valid bytes in the last word. -/
theorem finalWord_bits : ∀ k : BitVec 2, let v : Word := (k.setWidth 32 <<< 16) ||| 2
    bit v 0 = false ∧ bit v 1 = true ∧ (bits v 16 2 : BitVec 2) = k := by decide

theorem trimMsg_eq {v : Word} {k : BitVec 2} (h : (bits v 16 2 : BitVec 2) = k) (msg : List Byte) :
    trimMsg v msg = if k = 0 then msg else msg.take (msg.length - (4 - k.toNat)) := by
  unfold trimMsg
  rw [h]
  by_cases hk : k = 0
  · rw [if_pos hk, hk]
    rfl
  · rw [if_neg hk]
    exact if_neg fun e => hk (BitVec.eq_of_toNat_eq e)

/-! ## Measurements -/

/-- The parts of a MEXT command for register n. -/
theorem mextWord_bits : ∀ n : Fin 8, let v : Word := BitVec.ofNat 32 n.val ||| 0x100
    bit v 8 = true ∧ Fin.ofNat 8 (bits v 0 3 : BitVec 3).toNat = n := by decide

/-- A MEXT command for register n. -/
theorem mextCmd_extends (n : Fin 8) (s : State) :
    mextCmd (BitVec.ofNat 32 n.val ||| 0x100) s = measExtend n s.crypto.mextD s := by
  obtain ⟨h1, h2⟩ := mextWord_bits n
  unfold mextCmd
  rw [h1, h2, if_pos rfl]

theorem measExtend_first {n : Fin 8} {d : BitVec 256} {s : State} (h : s.crypto.loaded.getLsbD n.val = false) :
    measExtend n d s = { s with crypto := { s.crypto with
      meas := s.crypto.meas.set n d, loaded := setBit s.crypto.loaded n.val true } } := by
  unfold measExtend
  dsimp only
  rw [h, if_neg Bool.false_ne_true]

theorem measExtend_later {n : Fin 8} {d : BitVec 256} {s : State} (h : s.crypto.loaded.getLsbD n.val = true) :
    measExtend n d s = { s with crypto := { s.crypto with
      meas := s.crypto.meas.set n (digestOf (sha256 (digestBytes s.crypto.meas[n] ++ digestBytes d))) } } := by
  unfold measExtend
  dsimp only
  rw [setBit_same h, h, if_pos rfl]

/-! ## The signing engine -/

theorem signCtrl_busy {v : Word} {s : State} (h : s.crypto.signBusy = true) : signCtrl v s = s := if_pos h

theorem signCtrl_idle {v : Word} {s : State} (h : s.crypto.signBusy = false) : signCtrl v s = { s with
    crypto := { s.crypto with
      signOp := bits v 0 2, signBusy := decide ((bits v 0 2 : BitVec 2) = 1) || decide ((bits v 0 2 : BitVec 2) = 2) } } :=
  if_neg (by rw [h]; decide)

/-- Settles O39: digests, measurements and signatures. -/
theorem digestsAndSignaturesAreMade : Obligations.DigestsAndSignaturesAreMade := by
  refine ⟨⟨fun m v s h hb hv => ?_, fun m v s h hb => ?_, fun m v s h hb => ?_, fun m v s h hb => ?_,
      fun m k s h hb => ?_, fun s h => ?_, fun m n s h hl => ?_, fun m n s h hl => ?_⟩,
    fun m s h hb => ?_, fun m s h hb => ?_, fun m s h hb => ?_, fun s hb ho => ?_, fun s hb ho => ?_, fun s hb => ?_⟩
  · have h0 : bit (v ||| 1) 0 = true := (bit_or v 1 0).trans (Bool.or_true _)
    have h1 : bit (v ||| 1) 1 = false := (bit_or v 1 1).trans (by rw [bit, hv]; rfl)
    exact (exec_of_granted rfl h (by decide)).trans (congrArg Host.Outcome.next (shaCtrlOp_start hb h0 h1))
  · exact (exec_of_granted rfl h (by decide)).trans (congrArg Host.Outcome.next (shaCtrlOp_busy hb))
  · exact (exec_of_granted rfl h (by decide)).trans (congrArg Host.Outcome.next (if_neg (by rw [hb]; decide)))
  · exact (exec_of_granted rfl h (by decide)).trans (congrArg Host.Outcome.next (if_pos hb))
  · obtain ⟨h0, h1, hk⟩ := finalWord_bits k
    have hx := (exec_of_granted (i := .shaFinal m (k.setWidth 32 <<< 16)) rfl h (by decide)).trans
      (congrArg Host.Outcome.next (shaCtrlOp_final hb h0 h1))
    exact ⟨_, hx, rfl, trimMsg_eq hk _⟩
  · exact congrArg Host.Outcome.next (if_pos h)
  · exact (exec_of_granted rfl h (by decide)).trans
      (congrArg Host.Outcome.next ((mextCmd_extends n s).trans (measExtend_first hl)))
  · have hx := (exec_of_granted (i := .mextGo m (BitVec.ofNat 32 n.val)) rfl h (by decide)).trans
      (congrArg Host.Outcome.next ((mextCmd_extends n s).trans (measExtend_later hl)))
    exact ⟨_, hx, rfl, rfl, rfl⟩
  · exact (exec_of_granted rfl h (by decide)).trans (congrArg Host.Outcome.next (signCtrl_idle hb))
  · exact (exec_of_granted rfl h (by decide)).trans (congrArg Host.Outcome.next (signCtrl_idle hb))
  · exact (exec_of_granted rfl h (by decide)).trans (congrArg Host.Outcome.next (signCtrl_busy hb))
  · exact congrArg Host.Outcome.next ((if_pos hb).trans (if_neg (by rw [ho]; decide)))
  · exact ⟨_, congrArg Host.Outcome.next ((if_pos hb).trans (if_pos ho)), rfl, rfl, rfl⟩
  · exact congrArg Host.Outcome.next (if_neg (by rw [hb]; decide))

end Sys2Proof.Machine
end

section
/-! Barrow channels: START, STOP and BW_STOPALL (R426-R430). -/

namespace Sys2Proof.Machine

/-! ## CTRL -/

/-- A granted write of channel ch's CTRL, by the row that writes it. -/
theorem exec_of_bwCtrl {i : Instr} {m : Master} {app : Bool} {ch : Fin 16} {v : Word} {s : State}
    (hi : exec i s = .next (regWrite m (if app then 0x0B else 0x0C) (0x114 + 0x40 * ch.val) v s))
    (h : Granted m (if app then 0x0B else 0x0C) (0x114 + 0x40 * ch.val) v s) :
    exec i s = .next (bwCtrl app ch v s) := by
  have hctrl : 0x114 + 0x40 * ch.val = 0x100 + 0x40 * ch.val + 0x14 := by omega
  have hx := exec_of_granted hi h (by split <;> decide)
  have hbank : bankWrite m (if app then 0x0B else 0x0C) (0x114 + 0x40 * ch.val) v [] s =
      writeBarrow app (0x114 + 0x40 * ch.val) v s := by cases app <;> rfl
  rw [hctrl] at h hbank hx
  rw [hx, hbank, writeBarrow_chan (by decide) (lt_bwChans_of_regExists (by decide) h.2)]
  rfl

/-- A write of CTRL on a channel that it makes x. -/
theorem bwCtrl_eq {app : Bool} {ch : Fin 16} {v : Word} {x : BwChan} {s : State}
    (h : ctrlWrite app v (bwGet app s).ch[ch] = x) :
    bwCtrl app ch v s = bwSet app { ch := (bwGet app s).ch.set ch x } s := by
  rw [← h]
  rfl

theorem bits_or (v w : Word) (i n : Nat) : bits (v ||| w) i n = bits v i n ||| bits w i n := by
  rw [bits, BitVec.ushiftRight_or_distrib, BitVec.setWidth_or]
  rfl

/-- What a command bit added to CTRL leaves: MODE and IE. -/
theorem startBit_parts (v : Word) : (bits (v ||| 1) 4 2 : BitVec 2) = bits v 4 2 ∧
    (v ||| 1).getLsbD 8 = v.getLsbD 8 ∧ (v ||| 1).getLsbD 0 = true ∧ (v ||| 1).getLsbD 1 = v.getLsbD 1 := by
  refine ⟨(bits_or v 1 4 2).trans ?_, ?_, ?_, ?_⟩
  · exact BitVec.or_zero
  · exact (bit_or v 1 8).trans (Bool.or_false _)
  · exact (bit_or v 1 0).trans (Bool.or_true _)
  · exact (bit_or v 1 1).trans (Bool.or_false _)

theorem stopBit_parts (v : Word) : (bits (v ||| 2) 4 2 : BitVec 2) = bits v 4 2 ∧
    (v ||| 2).getLsbD 8 = v.getLsbD 8 ∧ (v ||| 2).getLsbD 1 = true := by
  refine ⟨(bits_or v 2 4 2).trans ?_, ?_, ?_⟩
  · exact BitVec.or_zero
  · exact (bit_or v 2 8).trans (Bool.or_false _)
  · exact (bit_or v 2 1).trans (Bool.or_true _)

section Ctrl

variable {app : Bool} {v : Word} {c : BwChan}

/-- START of a channel that does not run. -/
theorem ctrlWrite_start (hv : v.getLsbD 1 = false) (hr : c.state ≠ .run) :
    ctrlWrite app (v ||| 1) c = chanStart app { c with ie := v.getLsbD 8, mode := bits v 4 2 } := by
  obtain ⟨h1, h2, h3, h4⟩ := startBit_parts v
  unfold ctrlWrite
  dsimp only
  rw [h1, h2, h3, h4, hv, if_neg hr, if_pos (by decide)]

/-- START of a running channel. -/
theorem ctrlWrite_startLost (hv : v.getLsbD 1 = false) (hr : c.state = .run) :
    ctrlWrite app (v ||| 1) c = { c with ie := v.getLsbD 8, lost := true } := by
  obtain ⟨h1, h2, h3, h4⟩ := startBit_parts v
  unfold ctrlWrite
  dsimp only
  rw [h2, h3, h4, hv, if_pos hr, if_neg Bool.false_ne_true, if_pos rfl]

/-- STOP of a running channel. -/
theorem ctrlWrite_stop (hr : c.state = .run) :
    ctrlWrite app (v ||| 2) c = { c with ie := v.getLsbD 8, stopDue := true } := by
  obtain ⟨h1, h2, h3⟩ := stopBit_parts v
  unfold ctrlWrite
  dsimp only
  rw [h2, h3, if_pos hr, if_pos rfl]

/-- STOP of a channel that does not run. -/
theorem ctrlWrite_stopIdle (hr : c.state ≠ .run) :
    ctrlWrite app (v ||| 2) c = { c with ie := v.getLsbD 8, mode := bits v 4 2 } := by
  obtain ⟨h1, h2, h3⟩ := stopBit_parts v
  unfold ctrlWrite
  dsimp only
  rw [h1, h2, h3, if_neg hr, Bool.not_true, Bool.and_false, if_neg Bool.false_ne_true]

/-- A channel whose arguments pass the checks runs. -/
theorem chanStart_runs (h : startCode app c = none) : chanStart app c = { c with
    state := .run, code := 0, ended := false, mism := false, misOfs := 0, misOk := false, remain := c.count
    stopDue := false } := by
  rw [chanStart, h]

/-- A channel whose arguments fail a check ends with that check's code. -/
theorem chanStart_ends {k : BitVec 4} (h : startCode app c = some k) : chanStart app c = { c with
    state := .error, code := k, ended := true, remain := c.count, stopDue := false } := by
  rw [chanStart, h]
  rfl

end Ctrl

/-! ## The checks of START -/

theorem startCode_badArguments (app : Bool) {c : BwChan} (h : c.count = 0 ∨ c.mode = 3) : startCode app c = some 1 :=
  if_pos h

/-- A copy that starts does not overlap forwards. -/
theorem startCode_overlap {app : Bool} {c : BwChan} (h : startCode app c = none) (hm : c.mode = 0) :
    ¬ (c.src < c.dst ∧ c.dst.toNat < c.src.toNat + c.count.toNat) := by
  rintro ⟨h1, h2⟩
  unfold startCode at h
  dsimp only at h
  split at h
  · cases h
  · split at h
    · cases h
    · rw [if_pos ⟨hm, h1, h2⟩] at h
      cases h

/-! ## BW_STOPALL -/

/-- A granted write of BW_STOPALL. -/
theorem exec_bwStopall {m : Master} {app : Bool} {v : Word} {s : State}
    (h : Granted m (if app then 0x0B else 0x0C) 0x08 v s) : exec (.bwStopall m app v) s = .next (bwStopAllOp app v s) := by
  have hbank : bankWrite m (if app then 0x0B else 0x0C) 0x08 v [] s = bwStopAllOp app v s := by cases app <;> rfl
  exact (exec_of_granted rfl h (by split <;> decide)).trans (congrArg Host.Outcome.next hbank)

/-- Settles O45: Barrow channels start and stop. -/
theorem channelsStartAndStop : Obligations.ChannelsStartAndStop := by
  refine ⟨fun m app ch v s h hv hr hs => ?_, fun m app ch v k s h hv hr hs => ?_,
    fun app c => ⟨startCode_badArguments app, startCode_overlap⟩, fun m app ch v s h hv hr => ?_,
    fun m app ch v s h hr => ?_, fun m app ch v s h hr => ?_, fun m app v s h hv => ?_, fun m app v s h hv => ?_⟩
  · exact (exec_of_bwCtrl rfl h).trans
      (congrArg Host.Outcome.next (bwCtrl_eq ((ctrlWrite_start hv hr).trans (chanStart_runs hs))))
  · exact (exec_of_bwCtrl rfl h).trans
      (congrArg Host.Outcome.next (bwCtrl_eq ((ctrlWrite_start hv hr).trans (chanStart_ends hs))))
  · exact (exec_of_bwCtrl rfl h).trans (congrArg Host.Outcome.next (bwCtrl_eq (ctrlWrite_startLost hv hr)))
  · exact (exec_of_bwCtrl rfl h).trans (congrArg Host.Outcome.next (bwCtrl_eq (ctrlWrite_stop hr)))
  · exact (exec_of_bwCtrl rfl h).trans (congrArg Host.Outcome.next (bwCtrl_eq (ctrlWrite_stopIdle hr)))
  · exact (exec_bwStopall h).trans (congrArg Host.Outcome.next (if_pos hv))
  · exact (exec_bwStopall h).trans (congrArg Host.Outcome.next (if_neg (by rw [hv]; decide)))

end Sys2Proof.Machine
end

section
/-! The interrupt controllers (R415-R425): the levels, each context's best source, what it serves, software interrupts and
the timers. -/

namespace Sys2Proof.Machine

/-! ## Levels -/

/-- A word built bit by bit from a predicate. -/
theorem getLsbD_foldl_twoPow {w : Nat} (P : Nat → Prop) [DecidablePred P] (n i : Nat) :
    ((List.range n).foldl (fun (v : BitVec w) k => if P k then v ||| BitVec.twoPow w k else v) 0).getLsbD i =
      (decide (i < n) && decide (i < w) && decide (P i)) := by
  induction n with
  | zero => simp
  | succ n ih =>
    rw [List.range_succ, List.foldl_append, List.foldl_cons, List.foldl_nil]
    by_cases hp : P n
    · rw [if_pos hp, BitVec.getLsbD_or, ih, BitVec.getLsbD_twoPow]
      by_cases hi : i = n
      · subst hi
        simp [hp]
      · have hlt : i < n + 1 ↔ i < n := by omega
        simp [hlt, Ne.symm hi]
    · rw [if_neg hp, ih]
      by_cases hi : i = n
      · subst hi
        simp [hp]
      · have hlt : i < n + 1 ↔ i < n := by omega
        simp [hlt]

theorem levelsOf_getLsbD {f : Nat → Bool} {i : Nat} (h : i < 320) : (levelsOf f).getLsbD i = f i := by
  rw [levelsOf, getLsbD_foldl_twoPow (fun i => f i = true), decide_eq_true h, Bool.true_and, Bool.true_and,
    Bool.decide_eq_true]

theorem mtipOf_getLsbD (s : State) (l : Lic) (h : Fin 4) :
    (mtipOf s l).getLsbD h.val = decide (l.mtimecmp[h] ≤ s.devtime) := by
  rw [mtipOf, getLsbD_foldl_twoPow (fun i => l.mtimecmp[Fin.ofNat 4 i] ≤ s.devtime), decide_eq_true h.isLt, Bool.true_and,
    Bool.true_and]
  simp only [Fin.ofNat_val_eq_self]

/-- The software interrupts of LIC_APP are its sources 192 to 223. -/
theorem appSource_swi {i : Nat} (h : i < 32) (s : State) : appSource s (192 + i) = s.licApp.swi.getLsbD i := by
  unfold appSource
  rw [if_neg (by omega), if_neg (by omega), if_neg (by omega), if_neg (by omega), if_neg (by omega), if_neg (by omega),
    if_neg (by omega), if_neg (by omega), if_pos (by omega), Nat.add_sub_cancel_left]

/-- The software interrupts of LIC_KEEP are its sources 96 to 111. -/
theorem keepSource_swi {i : Nat} (h : i < 16) (s : State) : keepSource s (96 + i) = s.licKeep.swi.getLsbD i := by
  unfold keepSource
  rw [if_neg (by omega), if_neg (by omega), if_neg (by omega), if_neg (by omega), if_neg (by omega), if_neg (by omega),
    if_neg (by omega), if_neg (by omega), if_neg (by omega), if_neg (by omega), if_neg (by omega), if_neg (by omega),
    if_neg (by omega), if_neg (by omega), if_neg (by omega), if_neg (by omega), if_neg (by omega), if_neg (by omega),
    if_pos (by omega), Nat.add_sub_cancel_left]

/-! ## The best source of a context -/

/-- One more source compared with the best so far. -/
def bestStep (l : Lic) (c : LicCtx) (acc : Option (Nat × Byte)) (i : Nat) : Option (Nat × Byte) :=
  let j : Fin 320 := Fin.ofNat 320 i
  if eligible l c j then
    match acc with
    | none => some (i, l.prio[j])
    | some b => if b.2 < l.prio[j] then some (i, l.prio[j]) else acc
  else acc

/-- A best source so far is above every eligible source below n. -/
def BestBelow (l : Lic) (c : LicCtx) (n : Nat) (acc : Option (Nat × Byte)) : Prop :=
  ∀ j : Fin 320, j.val < n → eligible l c j = true → ∃ b, acc = some b ∧ l.prio[j] ≤ b.2

theorem bestBelow_step {l : Lic} {c : LicCtx} {n : Nat} {acc : Option (Nat × Byte)} (hn : n < 320)
    (h : BestBelow l c n acc) : BestBelow l c (n + 1) (bestStep l c acc n) := by
  intro j hj he
  have hself : j.val = n → Fin.ofNat 320 n = j := fun e => Fin.ext (by rw [Fin.val_ofNat, Nat.mod_eq_of_lt hn, e])
  unfold bestStep
  dsimp only
  by_cases hnj : j.val = n
  · obtain rfl := hself hnj
    rw [if_pos he]
    split
    · exact ⟨_, rfl, BitVec.le_refl _⟩
    · split
      · exact ⟨_, rfl, BitVec.le_refl _⟩
      · next hlt => exact ⟨_, rfl, BitVec.not_lt.mp hlt⟩
  · obtain ⟨b, hb, hle⟩ := h j (by omega) he
    subst hb
    split
    · dsimp only
      split
      · next hlt => exact ⟨_, rfl, BitVec.le_trans hle (BitVec.le_of_lt hlt)⟩
      · exact ⟨_, rfl, hle⟩
    · exact ⟨_, rfl, hle⟩

/-- The best source has the highest priority of those eligible. -/
theorem bestSource_above {l : Lic} {c : LicCtx} {i : Nat} {p : Byte} (h : bestSource l c = some (i, p)) (j : Fin 320)
    (hj : eligible l c j = true) : l.prio[j] ≤ p := by
  have hfold : ∀ n, n ≤ 320 → BestBelow l c n ((List.range n).foldl (bestStep l c) none) := by
    intro n
    induction n with
    | zero => exact fun _ j hj => absurd hj (Nat.not_lt_zero _)
    | succ n ih =>
      intro hn
      rw [List.range_succ, List.foldl_append, List.foldl_cons, List.foldl_nil]
      exact bestBelow_step (by omega) (ih (by omega))
  obtain ⟨b, hb, hle⟩ := hfold 320 (le_refl _) j j.isLt hj
  have e : some b = some (i, p) := hb.symm.trans h
  obtain rfl := Option.some.inj e
  exact hle

/-- Eligibility is a matter of the levels, the priorities, and the context's mask and threshold. -/
theorem eligible_congr {l l' : Lic} {c c' : LicCtx} (h1 : l.level = l'.level) (h2 : l.prio = l'.prio) (h3 : c.en = c'.en)
    (h4 : c.thresh = c'.thresh) (j : Fin 320) : eligible l c j = eligible l' c' j := by
  rw [eligible, eligible, h1, h2, h3, h4]

/-! ## Following the levels -/

theorem ctxEval_en (l : Lic) (c : LicCtx) : (ctxEval l c).en = c.en := by
  unfold ctxEval
  dsimp only

theorem ctxEval_thresh (l : Lic) (c : LicCtx) : (ctxEval l c).thresh = c.thresh := by
  unfold ctxEval
  dsimp only

theorem ctxEval_enterMiss (l : Lic) (c : LicCtx) : (ctxEval l c).enterMiss = c.enterMiss := by
  unfold ctxEval
  dsimp only

theorem ctxEval_exitMiss (l : Lic) (c : LicCtx) : (ctxEval l c).exitMiss = c.exitMiss := by
  unfold ctxEval
  dsimp only

theorem ctxEval_best (l : Lic) (c : LicCtx) : (ctxEval l c).best = bestSource l c := by
  unfold ctxEval
  dsimp only

theorem licEval_ctx (v : BitVec 320) (l : Lic) (c : Fin 8) :
    (licEval v l).ctx[c] = ctxEval { l with level := v } l.ctx[c] := Vector.getElem_map _ _

theorem licEval_frame (v : BitVec 320) (l : Lic) : licEval v l = { l with level := v, ctx := (licEval v l).ctx } := rfl

/-- The levels that a controller follows. -/
theorem licGet_licSync (app : Bool) (s : State) : licGet app (licSync s) =
    licEval (levelsOf (if app then appSource s else keepSource s)) (licGet app s) := by
  cases app
  · rfl
  · rfl

@[simp] theorem licGet_licSet_self (app : Bool) (l : Lic) (s : State) : licGet app (licSet app l s) = l := by
  cases app <;> rfl

theorem licGet_licSet_not (app : Bool) (l : Lic) (s : State) : licGet (!app) (licSet app l s) = licGet (!app) s := by
  cases app <;> rfl

/-- Nothing has changed but the two controllers. -/
def LicOnly (s t : State) : Prop := t = { s with licApp := t.licApp, licKeep := t.licKeep }

theorem LicOnly.of_eq {s t : State} {a k : Lic} (h : t = { s with licApp := a, licKeep := k }) : LicOnly s t := by
  subst h
  rfl

theorem licSync_licOnly (s : State) : LicOnly s (licSync s) := .of_eq (by rw [licSync])

theorem licSet_licOnly (app : Bool) (l : Lic) (s : State) : LicOnly s (licSet app l s) := by
  cases app <;> rfl

theorem LicOnly.trans {s t u : State} (h : LicOnly s t) (k : LicOnly t u) : LicOnly s u := by
  unfold LicOnly at *
  rw [k, h]

theorem licEval_level (v : BitVec 320) (l : Lic) : (licEval v l).level = v := rfl

theorem licEval_swi (v : BitVec 320) (l : Lic) : (licEval v l).swi = l.swi := rfl

theorem licGet_licSync_swi (app : Bool) (s : State) : (licGet app (licSync s)).swi = (licGet app s).swi := by
  rw [licGet_licSync, licEval_swi]

/-- Every level is its source's. -/
theorem licSync_levels {i : Nat} (h : i < 320) (s : State) :
    (licSync s).licApp.level.getLsbD i = appSource s i ∧ (licSync s).licKeep.level.getLsbD i = keepSource s i := by
  have ha := levelsOf_getLsbD (f := appSource s) h
  have hk := levelsOf_getLsbD (f := keepSource s) h
  rw [licSync]
  dsimp only
  rw [licEval_level, licEval_level]
  exact ⟨ha, hk⟩

/-- The levels of the software interrupts are their bits. -/
theorem licSync_swiLevels (s : State) :
    (∀ i, i < 32 → (licSync s).licApp.level.getLsbD (192 + i) = (licSync s).licApp.swi.getLsbD i) ∧
      ∀ i, i < 16 → (licSync s).licKeep.level.getLsbD (96 + i) = (licSync s).licKeep.swi.getLsbD i := by
  refine ⟨fun i hi => ?_, fun i hi => ?_⟩
  · rw [(licSync_levels (by omega) s).1, appSource_swi hi, licSync, licEval_swi]
  · rw [(licSync_levels (by omega) s).2, keepSource_swi hi, licSync, licEval_swi]

/-! ## Changes of a context -/

theorem ctxChange_licOnly (app : Bool) (c : Fin 8) (f : Lic → LicCtx → LicCtx) (s : State) :
    LicOnly s (ctxChange app c f s) :=
  ((licSync_licOnly s).trans (licSet_licOnly app _ _)).trans (licSync_licOnly _)

/-- A context that an operation has changed, but for BEST and its line. -/
theorem ctxChange_ctx (app : Bool) (c : Fin 8) (f : Lic → LicCtx → LicCtx) (s : State) :
    ∃ b l, (licGet app (ctxChange app c f s)).ctx[c] =
      { f (licGet app (licSync s)) (licGet app (licSync s)).ctx[c] with best := b, line := l } := by
  unfold ctxChange
  dsimp only
  rw [licGet_licSync app (licSet app _ _), licEval_ctx, licGet_licSet_self]
  dsimp only
  rw [vmod_same]
  exact ⟨_, _, rfl⟩

/-! ## Granted writes of a LIC bank -/

theorem exec_of_lic {i : Instr} {m : Master} {app : Bool} {off : Nat} {v : Word} {s : State}
    (hi : exec i s = .next (regWrite m (if app then 0x09 else 0x0A) off v s))
    (h : Granted m (if app then 0x09 else 0x0A) off v s) : exec i s = .next (writeLic app off v s) := by
  have hbank : bankWrite m (if app then 0x09 else 0x0A) off v [] s = writeLic app off v s := by cases app <;> rfl
  exact (exec_of_granted hi h (by split <;> decide)).trans (congrArg Host.Outcome.next hbank)

/-- A context's register exists only where the controller has that context. -/
theorem ctx_of_regExists {app : Bool} {c : Fin 8} {o : Nat} (ho : o < 0x100)
    (h : regExists (if app then 0x09 else 0x0A) (0x1000 + 0x100 * c.val + o) = true) :
    0x1000 + 0x100 * c.val + o < (if app then 0x1800 else 0x1100) := by
  cases app with
  | true => have := c.isLt; simp only [if_true]; omega
  | false =>
    have hend : ∀ r ∈ bankRegs 0x0A, r.1 + 4 * r.2 ≤ 0x1100 := by decide
    obtain ⟨r, hr, hle, hlt⟩ := exists_run_of_regExists h
    have := hend r hr
    simp only [Bool.false_eq_true, if_false]
    omega

/-- An offset in the block of context c is that context's register. -/
theorem writeLic_ctx {app : Bool} {c : Fin 8} {o : Nat} {v : Word} {s : State} (ho : o < 0x100)
    (h : 0x1000 + 0x100 * c.val + o < (if app then 0x1800 else 0x1100)) :
    writeLic app (0x1000 + 0x100 * c.val + o) v s = writeCtx app c o v s := by
  have hi : (0x1000 + 0x100 * c.val + o - 0x1000) / 0x100 = c.val := by omega
  have hr : (0x1000 + 0x100 * c.val + o) % 0x100 = o := by omega
  have hw : ∀ lo n, lo + 4 * n ≤ 0x1000 → ¬ within (0x1000 + 0x100 * c.val + o) lo n = true := fun lo n hn e => by
    rw [within_eq_true_iff] at e
    omega
  unfold writeLic
  split
  · omega
  · omega
  · omega
  · rw [if_neg (hw _ _ (by split <;> decide)), if_neg (hw _ _ (by split <;> decide)),
      if_neg (hw _ _ (by split <;> decide)), decide_eq_true h, if_pos (by rw [decide_eq_true (by omega)]; rfl), hi, hr,
      Fin.ofNat_val_eq_self]

theorem exec_of_licCtx {i : Instr} {m : Master} {app : Bool} {c : Fin 8} {o : Nat} {v : Word} {s : State}
    (hi : exec i s = .next (regWrite m (if app then 0x09 else 0x0A) (0x1000 + 0x100 * c.val + o) v s)) (ho : o < 0x100)
    (h : Granted m (if app then 0x09 else 0x0A) (0x1000 + 0x100 * c.val + o) v s) :
    exec i s = .next (writeCtx app c o v s) :=
  (exec_of_lic hi h).trans (congrArg Host.Outcome.next (writeLic_ctx ho (ctx_of_regExists ho h.2)))

/-- A granted write of a context's CTX_ENTER. -/
theorem exec_ctxEnter {m : Master} {app : Bool} {c : Fin 8} {id : BitVec 10} {s : State}
    (h : Granted m (if app then 0x09 else 0x0A) (0x1048 + 0x100 * c.val) (id.setWidth 32) s) :
    exec (.ctxEnter m app c id) s = .next (ctxEnterOp app c id s) := by
  have hoff : 0x1048 + 0x100 * c.val = 0x1000 + 0x100 * c.val + 0x48 := by omega
  rw [hoff] at h
  have hx : exec (.ctxEnter m app c id) s = .next (regWrite m (if app then 0x09 else 0x0A)
      (0x1000 + 0x100 * c.val + 0x48) (id.setWidth 32) s) := by
    rw [← hoff]
    rfl
  refine (exec_of_licCtx hx (by decide) h).trans ?_
  show Host.Outcome.next (ctxEnterOp app c ((id.setWidth 32).setWidth 10) s) = _
  rw [BitVec.setWidth_setWidth_of_le _ (by decide), BitVec.setWidth_eq]

/-- A granted write of a context's CTX_EXIT. -/
theorem exec_ctxExit {m : Master} {app : Bool} {c : Fin 8} {v : Word} {s : State}
    (h : Granted m (if app then 0x09 else 0x0A) (0x104C + 0x100 * c.val) v s) :
    exec (.ctxExit m app c v) s = .next (ctxExitOp app c v s) := by
  have hoff : 0x104C + 0x100 * c.val = 0x1000 + 0x100 * c.val + 0x4C := by omega
  rw [hoff] at h
  have hx : exec (.ctxExit m app c v) s = .next (regWrite m (if app then 0x09 else 0x0A)
      (0x1000 + 0x100 * c.val + 0x4C) v s) := by
    rw [← hoff]
    rfl
  exact exec_of_licCtx hx (by decide) h

theorem setWidth_ofNat_source (id : Fin 320) : (BitVec.ofNat 10 id.val).setWidth 32 = BitVec.ofNat 32 id.val := by
  have := id.isLt
  apply BitVec.eq_of_toNat_eq
  rw [BitVec.toNat_setWidth, BitVec.toNat_ofNat, BitVec.toNat_ofNat]
  omega

/-- What CTX_ENTER of an existing source makes of its context. -/
def entered (l : Lic) (x : LicCtx) (i : Fin 320) : LicCtx :=
  if x.stack.length = 8 then { x with full := true }
  else if eligible l x i ∧ mayPreempt l x l.prio[i] then { x with stack := (i.val, l.prio[i]) :: x.stack }
  else { x with enterMiss := true }

theorem ctxEnterOp_source (app : Bool) (c : Fin 8) (id : Fin 320) (s : State) :
    ctxEnterOp app c (BitVec.ofNat 10 id.val) s = ctxChange app c (fun l x => entered l x id) s := by
  have hn : (BitVec.ofNat 10 id.val).toNat = id.val := by
    have := id.isLt
    rw [BitVec.toNat_ofNat, Nat.mod_eq_of_lt (by omega)]
  unfold ctxEnterOp
  congr 1
  funext l x
  simp only [hn, id.isLt, dif_pos, entered]

/-- What CTX_ENTER of any source number makes of its context. -/
def enteredWord (id : BitVec 10) (l : Lic) (x : LicCtx) : LicCtx :=
  if h : id.toNat < 320 then entered l x ⟨id.toNat, h⟩
  else if x.stack.length = 8 then { x with full := true } else { x with enterMiss := true }

theorem enteredWord_full {id : BitVec 10} {l : Lic} {x : LicCtx} (h : x.stack.length = 8) :
    enteredWord id l x = { x with full := true } := by
  unfold enteredWord
  rw [if_pos h]
  split
  · exact if_pos h
  · rfl

/-- What CTX_EXIT makes of its context. -/
def exited (x : LicCtx) : LicCtx :=
  match x.stack with
  | [] => { x with exitMiss := true }
  | _ :: t => { x with stack := t }

theorem exited_stack (x : LicCtx) : (exited x).stack = x.stack.drop 1 := by
  unfold exited
  split
  · next h => rw [h, List.drop_nil]
  · next h => rw [h]; rfl

theorem exited_miss {x : LicCtx} (h : x.stack = []) : (exited x).exitMiss = true := by
  unfold exited
  rw [h]

theorem exited_served {x : LicCtx} (h : x.stack ≠ []) : (exited x).exitMiss = x.exitMiss := by
  unfold exited
  split
  · next h0 => exact absurd h0 h
  · rfl

/-! ## Timers -/

/-- A granted write of a compare word. -/
theorem exec_mtimecmp {m : Master} {app hi : Bool} {h : Fin 4} {v : Word} {s : State}
    (hg : Granted m (if app then 0x09 else 0x0A) (0x800 + 8 * h.val + (if hi then 4 else 0)) v s) :
    exec (.mtimecmpWrite m app h hi v) s = .next (cmpWrite app h hi v s) := by
  refine (exec_of_lic rfl hg).trans (congrArg Host.Outcome.next ?_)
  have hoff : (if hi then 4 else 0) = 0 ∨ (if hi then 4 else 0) = 4 := by cases hi <;> simp
  have hhi : decide ((0x800 + 8 * h.val + (if hi then 4 else 0)) % 8 = 4) = hi := by
    cases hi
    · simp
    · simp
      omega
  have hw : within (0x800 + 8 * h.val + (if hi then 4 else 0)) 0x800 (if app then 8 else 2) = true := by
    have hlt := h.isLt
    rw [within_eq_true_iff]
    cases app with
    | true => simp only [if_true]; omega
    | false =>
      have hgap : ∀ r ∈ bankRegs 0x0A, r.1 + 4 * r.2 ≤ 0x808 ∨ 0x840 ≤ r.1 := by decide
      obtain ⟨r, hr, hle, hlt'⟩ := exists_run_of_regExists hg.2
      have := hgap r hr
      simp only [Bool.false_eq_true, if_false]
      omega
  have hp : ¬ within (0x800 + 8 * h.val + (if hi then 4 else 0)) 0x100 (if app then 80 else 40) = true := fun e => by
    rw [within_eq_true_iff] at e
    have : (if app then 80 else 40) ≤ 80 := by cases app <;> decide
    omega
  have hidx : (0x800 + 8 * h.val + (if hi then 4 else 0) - 0x800) / 8 = h.val := by omega
  have hge : 0x800 ≤ 0x800 + 8 * h.val + (if hi then 4 else 0) := by omega
  generalize 0x800 + 8 * h.val + (if hi then 4 else 0) = off at *
  unfold writeLic
  split
  · omega
  · omega
  · omega
  · rw [if_neg hp, if_pos hw, hidx, hhi, Fin.ofNat_val_eq_self]

/-- Settles O44: interrupts and timers. -/
theorem interruptsAreServedAndTimed : Obligations.InterruptsAreServedAndTimed := by
  refine ⟨⟨fun s => ?_, fun m app c id s h hl he hp => ?_, fun m app c id s h hl he => ?_, fun m app c id s h hl => ?_,
      fun m app c v s h hv => ?_, fun m app c v s h hv => ?_⟩,
    fun m app v s h => ?_, fun m app v s h => ?_, fun m app hi h v s hg => ?_, fun app h s hc => ?_, fun app h s hc => ?_⟩
  · refine ⟨licSync s, rfl, licSync_licOnly s, fun i hi => licSync_levels hi s, fun app c => ?_⟩
    have hc : (licGet app (licSync s)).ctx[c] = ctxEval { licGet app s with level := (licGet app (licSync s)).level }
        (licGet app s).ctx[c] := by
      rw [licGet_licSync, licEval_ctx, licEval_level]
    have hprio := licGet_licSync_prio app s
    refine ⟨licGet_licSync_stack app c s, by rw [hc, ctxEval_en], by rw [hc, ctxEval_thresh], hprio, fun i p hb j hj => ?_⟩
    have hbest : bestSource { licGet app s with level := (licGet app (licSync s)).level } (licGet app s).ctx[c] =
        some (i, p) := by
      rw [← ctxEval_best, ← hc, hb]
    rw [hprio]
    have hen : (licGet app s).ctx[c].en = (licGet app (licSync s)).ctx[c].en := by rw [hc, ctxEval_en]
    have hth : (licGet app s).ctx[c].thresh = (licGet app (licSync s)).ctx[c].thresh := by rw [hc, ctxEval_thresh]
    generalize licGet app (licSync s) = l at *
    have hsame := eligible_congr (l := { licGet app s with level := l.level }) (l' := l) rfl hprio.symm hen hth j
    exact bestSource_above hbest j (hsame.trans hj)
  · rw [← setWidth_ofNat_source] at h
    have hx := (exec_ctxEnter h).trans (congrArg Host.Outcome.next (ctxEnterOp_source app c id s))
    obtain ⟨b, l, e⟩ := ctxChange_ctx app c (fun l x => entered l x id) s
    rw [← licGet_licSync_prio] at hp
    rw [entered, if_neg (Nat.ne_of_lt hl), if_pos ⟨he, hp⟩, licGet_licSync_prio, licGet_licSync_stack] at e
    refine ⟨_, hx, ctxChange_licOnly app c _ s, congrArg LicCtx.stack e, (congrArg LicCtx.enterMiss e).trans ?_⟩
    rw [licGet_licSync, licEval_ctx, ctxEval_enterMiss]
  · rw [← setWidth_ofNat_source] at h
    have hx := (exec_ctxEnter h).trans (congrArg Host.Outcome.next (ctxEnterOp_source app c id s))
    obtain ⟨b, l, e⟩ := ctxChange_ctx app c (fun l x => entered l x id) s
    have hno : ¬ (eligible (licGet app (licSync s)) (licGet app (licSync s)).ctx[c] id = true ∧
        mayPreempt (licGet app (licSync s)) (licGet app (licSync s)).ctx[c] (licGet app (licSync s)).prio[id] = true) := by
      rw [licGet_licSync_prio]
      rintro ⟨h1, h2⟩
      rcases he with he | he
      · exact absurd (h1.symm.trans he) (by decide)
      · exact absurd (h2.symm.trans he) (by decide)
    rw [entered, if_neg (by rw [licGet_licSync_stack]; exact hl), if_neg hno] at e
    exact ⟨_, hx, ctxChange_licOnly app c _ s, (congrArg LicCtx.stack e).trans (licGet_licSync_stack app c s),
      congrArg LicCtx.enterMiss e⟩
  · have hx := exec_ctxEnter h
    obtain ⟨b, l, e⟩ := ctxChange_ctx app c (enteredWord id) s
    rw [enteredWord_full (by rw [licGet_licSync_stack]; exact hl)] at e
    exact ⟨_, hx, ctxChange_licOnly app c (enteredWord id) s, (congrArg LicCtx.stack e).trans (licGet_licSync_stack app c s),
      congrArg LicCtx.full e⟩
  · have hx := (exec_ctxExit h).trans (congrArg Host.Outcome.next (if_pos hv))
    obtain ⟨b, l, e⟩ := ctxChange_ctx app c (fun _ x => exited x) s
    have hst := congrArg LicCtx.stack e
    have hm := congrArg LicCtx.exitMiss e
    have hcx : (licGet app (licSync s)).ctx[c].exitMiss = (licGet app s).ctx[c].exitMiss := by
      rw [licGet_licSync, licEval_ctx, ctxEval_exitMiss]
    refine ⟨_, hx, ctxChange_licOnly app c _ s, hst.trans ?_, fun he => hm.trans ?_, fun hne => hm.trans ?_⟩
    · rw [exited_stack, licGet_licSync_stack]
    · exact exited_miss (by rw [licGet_licSync_stack, he])
    · exact (exited_served (by rw [licGet_licSync_stack]; exact hne)).trans hcx
  · exact (exec_ctxExit h).trans (congrArg Host.Outcome.next (if_neg (by rw [hv]; decide)))
  · have hx : exec (.licSwiSet m app v) s = .next (licSync (licSet app { licGet app s with
        swi := (licGet app s).swi ||| (if app then v else v &&& 0xFFFF) } s)) := exec_of_lic rfl h
    refine ⟨_, hx, (licSet_licOnly app _ s).trans (licSync_licOnly _), ?_, ?_, licSync_swiLevels _⟩
    · rw [licGet_licSync_swi, licGet_licSet_self]
    · rw [licGet_licSync_swi, licGet_licSet_not]
  · have hx : exec (.licSwiClear m app v) s = .next (licSync (licSet app { licGet app s with
        swi := (licGet app s).swi &&& ~~~v } s)) := exec_of_lic rfl h
    refine ⟨_, hx, (licSet_licOnly app _ s).trans (licSync_licOnly _), ?_, ?_, (licSync_swiLevels _).1⟩
    · rw [licGet_licSync_swi, licGet_licSet_self]
    · rw [licGet_licSync_swi, licGet_licSet_not]
  · refine ⟨_, exec_mtimecmp hg, licSet_licOnly app _ s, ?_, ?_, ?_, licGet_licSet_not app _ s⟩
    · rw [cmpWrite, licGet_licSet_self]
      cases hi <;> rfl
    · rw [cmpWrite, licGet_licSet_self]
      exact mtipOf_getLsbD s _ h
    · rw [cmpWrite, licGet_licSet_self]
  · exact congrArg Host.Outcome.next (if_pos hc)
  · exact congrArg Host.Outcome.next (if_neg (BitVec.not_le.mpr hc))

end Sys2Proof.Machine
end

section
/-! The xSPI flash controller (R482, R483). -/

namespace Sys2Proof.Machine

/-! ## Erase -/

/-- Every byte of a cleared range reads as unlisted. -/
theorem Mem.read_clearRange_in {m : Mem} {lo hi a : Nat} (h1 : lo ≤ a) (h2 : a < hi) :
    (m.clearRange lo hi).read a = unlisted a := by
  induction m with
  | nil => rfl
  | cons c m ih =>
    obtain ⟨k, b⟩ := c
    rw [Mem.clearRange] at ih ⊢
    by_cases hk : lo ≤ k ∧ k < hi
    · rw [List.filter_cons_of_neg (by simp [hk])]
      exact ih
    · rw [List.filter_cons_of_pos (by
        simp only [Bool.not_eq_true', Bool.and_eq_false_iff, decide_eq_false_iff_not]
        omega), Mem.read, if_neg (by omega)]
      exact ih

/-- A sector erased reads 0xFF. -/
theorem flashErase_read {ofs a : Nat} {s : State} (ho : ofs < 0x1000_0000)
    (h1 : flashBase + ofs / 65536 * 65536 ≤ a) (h2 : a < flashBase + ofs / 65536 * 65536 + 65536) :
    memByte (flashErase ofs s) a = 0xFF := by
  refine (Mem.read_clearRange_in h1 h2).trans (if_pos ?_)
  unfold flashBase at h1 h2
  omega

theorem flashErase_sameBut (ofs : Nat) (s : State) :
    MemSameBut (flashBase + ofs / 65536 * 65536) 65536 s (flashErase ofs s) := fun _ ha => Mem.read_clearRange_other ha

/-! ## Program -/

/-- Programming ANDs the bytes into the page, wrapping within it. -/
theorem flashProgram_written {bs : List Byte} (ofs : Nat) (hl : bs.length ≤ 256) (s : State) :
    ∃ m, flashProgram ofs bs s = { s with mem := m } ∧
      MemSameBut (flashBase + ofs / 256 * 256) 256 s { s with mem := m } ∧
      (s.mem.wf = true → ∀ i b, bs[i]? = some b →
        m.read (flashBase + ofs / 256 * 256 + (ofs % 256 + i) % 256) =
          s.mem.read (flashBase + ofs / 256 * 256 + (ofs % 256 + i) % 256) &&& b) := by
  obtain ⟨m, e, hout, hin⟩ := andPut_spec (fun i => flashBase + ofs / 256 * 256 + (ofs % 256 + i) % 256) (n := 256)
    (fun i j hi hj e => by omega) bs 0 (by omega) s
  refine ⟨m, e, fun a ha => hout a fun j _ => by omega, fun h i b hb => ?_⟩
  obtain ⟨hi, hget⟩ := List.getElem?_eq_some_iff.mp hb
  have := (hin h).2 i hi
  rw [Nat.zero_add, List.getD_eq_getElem?_getD, hb, Option.getD_some] at this
  exact this

/-- Bytes left undefined are those of their range alone. -/
theorem undefBytes_sameBut (lo n : Nat) (s : State) : MemSameBut lo n s (undefBytes lo n s) := fun a ha =>
  Mem.read_writeAll_other (by rwa [List.length_map, List.length_range])

/-! ## The command's start and end -/

theorem xsEnd_done {s : State} (h : s.xspi.busy = true) (x : State)
    (hx : (if s.xspi.op = 1 then flashErase s.xspi.opAddr s else flashProgram s.xspi.opAddr s.xspi.opData s) = x) :
    xsEnd true s = { x with xspi := { x.xspi with
      busy := false, susp := false, op := 0, opData := [], events := x.xspi.events ||| 1 } } := by
  rw [← hx]
  exact if_pos h

theorem xsEnd_failed {s : State} (h : s.xspi.busy = true) : xsEnd false s = { flashInterrupt s with
    xspi := { (flashInterrupt s).xspi with busy := false, susp := false, op := 0, opData := []
                                           events := (flashInterrupt s).xspi.events ||| 2 } } :=
  if_pos h

/-- A granted write of XS_CMD. -/
theorem exec_of_xsCmd {i : Instr} {m : Master} {v : Word} {s : State} (hi : exec i s = .next (regWrite m 0x2E 0x04 v s))
    (h : Granted m 0x2E 0x04 v s) : exec i s = .next (xsCmd m (bits v 0 2) s) := exec_of_granted hi h (by decide)

/-- The Keeper's command starts while the controller is idle. -/
theorem xsCmd_keeper_idle (op : BitVec 2) {s : State} (h : s.xspi.busy = false) :
    xsCmd .keeper op s = { s with xspi := xsStart op s.xspi } := by
  unfold xsCmd
  dsimp only
  rw [if_neg fun e => absurd e.2.1 Bool.false_ne_true, h, if_neg Bool.false_ne_true]

theorem xsCmd_keeper_busy (op : BitVec 2) {s : State} (h : s.xspi.busy = true) : xsCmd .keeper op s = s := by
  unfold xsCmd
  dsimp only
  rw [if_neg fun e => absurd e.2.1 Bool.false_ne_true, if_pos h]

/-- An application core's erase below its part of the flash is refused. -/
theorem xsCmd_core_refused {i : Fin 4} {s : State} (h : xsTouch 1 s.xspi < flashFree) : xsCmd (.acore i) 1 s =
    refuseWrite (.acore i) 0x2E 0x0004 .target { s with xspi := { s.xspi with events := s.xspi.events ||| 4 } } :=
  if_pos ⟨.inl rfl, rfl, h⟩

/-- Settles O43: erase and program of the flash. -/
theorem flashErasesAndPrograms : Obligations.FlashErasesAndPrograms := by
  refine ⟨fun s h hb => ?_, fun s h hb => ?_, fun s h hb => ?_, fun i s h ht hm => ?_, fun s hb ho => ?_,
    fun s hb ho hl hs => ?_, fun s hb ho => ?_, fun ok s hb => ?_, fun s hb hn => ?_, fun s hb => ?_⟩
  · exact (exec_of_xsCmd rfl h).trans (congrArg Host.Outcome.next (xsCmd_keeper_idle 1 hb))
  · exact (exec_of_xsCmd rfl h).trans (congrArg Host.Outcome.next (xsCmd_keeper_idle 2 hb))
  · exact (exec_of_xsCmd rfl h).trans (congrArg Host.Outcome.next (xsCmd_keeper_busy 2 hb))
  · have hx : exec (.xsErase64k (.acore i)) s = _ :=
      (exec_of_xsCmd rfl h).trans (congrArg Host.Outcome.next (xsCmd_core_refused ht))
    have hm' : Mild 0x60 { s with xspi := { s.xspi with events := s.xspi.events ||| 4 } } := hm
    have ho : HubOnly _ (refuseWrite (.acore i) 0x2E 0x0004 .target _) := errorResponse_hubOnly hm'
    have hc : Captured _ _ _ (refuseWrite (.acore i) 0x2E 0x0004 .target _) := errorResponse_captured hm'
    exact ⟨_, hx, errorResponse_stands _ _ _, by rw [ho], hc.valid, fun hv => (hc.first hv).2.2.2.2.2.1, ho.counters,
      ho.memSame⟩
  · have hx := xsEnd_done hb (flashErase s.xspi.opAddr s) (if_pos ho)
    exact ⟨_, congrArg Host.Outcome.next hx, rfl, rfl, rfl, flashErase_sameBut s.xspi.opAddr s,
      fun hlt a h1 h2 => flashErase_read hlt h1 h2⟩
  · obtain ⟨m, e, hsame, hbytes⟩ := flashProgram_written s.xspi.opAddr hl s
    have hx := xsEnd_done hb { s with mem := m } ((if_neg (by rw [ho]; decide)).trans e)
    exact ⟨_, congrArg Host.Outcome.next hx, rfl, rfl, rfl, hsame, hbytes hs⟩
  · have hi : flashInterrupt s = undefBytes (0x1_0000_0000 + s.xspi.opAddr / 256 * 256) 256 s :=
      (if_pos hb).trans (if_neg (by rw [ho]; decide))
    have hx := xsEnd_failed hb
    have hsame := undefBytes_sameBut (0x1_0000_0000 + s.xspi.opAddr / 256 * 256) 256 s
    have hev : (flashInterrupt s).xspi.events = s.xspi.events := by rw [hi, undefBytes]
    rw [← hi] at hsame
    generalize flashInterrupt s = u at *
    exact ⟨_, congrArg Host.Outcome.next hx, rfl, by rw [← hev], hsame⟩
  · exact congrArg Host.Outcome.next (if_neg (by rw [hb]; decide))
  · exact congrArg Host.Outcome.next (if_pos (by rw [hb, hn]; rfl))
  · exact congrArg Host.Outcome.next (if_neg (by rw [hb, Bool.false_and]; decide))

end Sys2Proof.Machine
end

section
/-! Resets of the device (R208-R213): what ends with one, what it keeps, and what SYSTEM and WARM leave. -/

namespace Sys2Proof.Machine

/-! ## The page in flight -/

/-- A spoil leaves the lines and the interlock input, and a page in flight stays in flight until its close. -/
structure SpoilKeeps (s t : State) : Prop where
  planned : t.docket.planned = s.docket.planned
  written : t.docket.written = s.docket.written
  inFlight : pageInFlight t = pageInFlight s
  intlk : t.beam.intlk = s.beam.intlk

theorem latchSpoil_keeps (o : Outcome5) (f : Option Byte) (fl : Byte) (s : State) :
    SpoilKeeps s (latchSpoil o f fl s) := by
  unfold latchSpoil
  dsimp only
  split
  · next h =>
    refine ⟨rfl, rfl, ?_, rfl⟩
    unfold pageInFlight
    rw [h]
    rfl
  · next h =>
    have hs : ∀ d : Docket, d.st = s.docket.st → pageInFlight { s with docket := d } = pageInFlight s := fun d e => by
      unfold pageInFlight
      dsimp only
      rw [e]
    split_ifs
    · exact ⟨rfl, rfl, rfl, rfl⟩
    · exact ⟨rfl, rfl, hs _ rfl, rfl⟩
    · exact ⟨rfl, rfl, rfl, rfl⟩
    · exact ⟨rfl, rfl, hs _ rfl, rfl⟩
  · exact ⟨rfl, rfl, rfl, rfl⟩

/-- A page in flight is spoiled, closed and staged, and any docket is staged. -/
def endPage (o : Outcome5) (f : Option Byte) (fl code : Byte) (s : State) : State :=
  if pageInFlight s then stageDocket code (closeDocket (latchSpoil o f fl s)) else stageDocket code s

/-- The flag of the outcome with which a reset closes a docket. -/
def resetFlag (o : Outcome5) : Byte :=
  match o with
  | .power => 0
  | _ => 0x04

theorem resetFlag_closed {o : Outcome5} (h : o ≠ .power) : resetFlag o = 0x04 := by
  unfold resetFlag
  split
  · exact absurd rfl h
  · rfl

theorem preAssert_eq (o : Outcome5) (f : Option Byte) (code : Byte) (s : State) : preAssert o f code s =
    endPage o f (resetFlag o) code (enterSafe { s with rst := { s.rst with engHold := true } }) := by
  cases o <;> rfl

theorem endPage_frame (o : Outcome5) (f : Option Byte) (fl code : Byte) (s : State) :
    ∃ d k b v, endPage o f fl code s = { s with docket := d, dkStore := k, beam := b, video := v } ∧
      b.intlk = s.beam.intlk := by
  have hi := (latchSpoil_keeps o f fl s).intlk
  obtain ⟨d, b, v, el⟩ := latchSpoil_frame o f fl s
  obtain ⟨d', k, ec⟩ := closeDocket_frame (latchSpoil o f fl s)
  obtain ⟨k', es⟩ := stageDocket_frame code (closeDocket (latchSpoil o f fl s))
  obtain ⟨k'', es'⟩ := stageDocket_frame code s
  unfold endPage
  split
  · rw [es, ec, el]
    rw [el] at hi
    exact ⟨_, _, _, _, rfl, hi⟩
  · rw [es']
    exact ⟨_, _, _, _, rfl, rfl⟩

/-- A page in flight closes with the lines not written blanked. -/
theorem endPage_closed {s : State} (o : Outcome5) (f : Option Byte) (fl code : Byte) (h : pageInFlight s = true) :
    (endPage o f fl code s).docket.st = .closed ∧
      (endPage o f fl code s).docket.blanked = s.docket.planned - s.docket.written ∧
      (endPage o f fl code s).docket.flags = (latchSpoil o f fl s).docket.flags ∧
      (endPage o f fl code s).docket.written = s.docket.written ∧
      (endPage o f fl code s).docket.outcome = (latchSpoil o f fl s).docket.outcome := by
  have hk := latchSpoil_keeps o f fl s
  rw [endPage, if_pos h, stageDocket_docket, closeDocket_open (by rw [hk.inFlight, h])]
  refine ⟨rfl, ?_, rfl, hk.written, rfl⟩
  dsimp only
  rw [hk.planned, hk.written]

theorem pageInFlight_armed {s : State} (h : s.docket.st = .armed) : pageInFlight s = true := by
  rw [pageInFlight, h]
  rfl

/-- The H-die's safe state changes the engine's units. -/
theorem enterSafe_frame (s : State) : ∃ b m h fu v oh si, enterSafe s = { s with
    beam := b, motors := m, hdie := h, fuser := fu, hv := v, outHold := oh, sinov := si } ∧ b.intlk = s.beam.intlk :=
  ⟨_, _, _, _, _, _, _, rfl, rfl⟩

/-- What a reset of the device begins with changes the engine, the docket and ENG_HOLD. -/
theorem preAssert_frame (o : Outcome5) (f : Option Byte) (code : Byte) (s : State) :
    ∃ d k b v m h fu w oh si, preAssert o f code s = { s with
      docket := d, dkStore := k, beam := b, video := v, motors := m, hdie := h, fuser := fu, hv := w, outHold := oh
      sinov := si, rst := { s.rst with engHold := true } } ∧ b.intlk = s.beam.intlk := by
  obtain ⟨b, m, h, fu, w, oh, si, e, hb⟩ := enterSafe_frame { s with rst := { s.rst with engHold := true } }
  rw [preAssert_eq]
  obtain ⟨d, k, b', v, e', hb'⟩ := endPage_frame o f (resetFlag o) code
    (enterSafe { s with rst := { s.rst with engHold := true } })
  rw [e']
  rw [e] at hb' ⊢
  exact ⟨_, _, _, _, _, _, _, _, _, _, rfl, hb'.trans hb⟩

/-- A reset of the device closes the page in flight. -/
theorem preAssert_closed {s : State} (o : Outcome5) (f : Option Byte) (code : Byte) (h : pageInFlight s = true) :
    (preAssert o f code s).docket.st = .closed ∧
      (preAssert o f code s).docket.blanked = s.docket.planned - s.docket.written := by
  obtain ⟨h1, h2, -⟩ := endPage_closed (s := enterSafe { s with rst := { s.rst with engHold := true } }) o f (resetFlag o)
    code h
  rw [preAssert_eq]
  exact ⟨h1, h2⟩

/-- A reset but a brown-out sets RESET_CLOSED of an ARMED page. -/
theorem preAssert_flag {o : Outcome5} {s : State} (f : Option Byte) (code : Byte) (ho : o ≠ .power)
    (h : s.docket.st = .armed) : (preAssert o f code s).docket.flags.getLsbD 2 = true := by
  obtain ⟨-, -, h3, -⟩ := endPage_closed (s := enterSafe { s with rst := { s.rst with engHold := true } }) o f (resetFlag o)
    code (pageInFlight_armed h)
  rw [preAssert_eq, h3, latchSpoil_armed (s := enterSafe { s with rst := { s.rst with engHold := true } }) h,
    resetFlag_closed ho]
  show (s.docket.flags ||| 0x04 ||| _).getLsbD 2 = true
  rw [BitVec.getLsbD_or, BitVec.getLsbD_or]
  simp

/-! ## What a reset interrupts -/

/-- What a reset interrupts changes memory and the free values drawn. -/
theorem tearWrites_frame (s : State) : ∃ m k, tearWrites s = { s with mem := m, freeCtr := k } := by
  have hflash : ∀ x : State, ∃ m k, flashInterrupt x = { x with mem := m, freeCtr := k } := fun x => by
    unfold flashInterrupt
    split_ifs <;> exact ⟨_, _, rfl⟩
  have hcommit : ∀ x : State, ∃ m k, tearCommit x = { x with mem := m, freeCtr := k } := fun x => by
    unfold tearCommit
    split <;> exact ⟨_, _, rfl⟩
  have hrepair : ∀ x : State, ∃ m k, tearRepair x = { x with mem := m, freeCtr := k } := fun x => by
    unfold tearRepair
    split <;> exact ⟨_, _, rfl⟩
  have hoption : ∀ x : State, ∃ m k, tearOption x = { x with mem := m, freeCtr := k } := fun x => by
    unfold tearOption
    split <;> exact ⟨_, _, rfl⟩
  obtain ⟨m1, k1, e1⟩ := hflash s
  obtain ⟨m2, k2, e2⟩ := hcommit (flashInterrupt s)
  obtain ⟨m3, k3, e3⟩ := hrepair (tearCommit (flashInterrupt s))
  obtain ⟨m4, k4, e4⟩ := hoption (tearRepair (tearCommit (flashInterrupt s)))
  unfold tearWrites
  rw [e4, e3, e2, e1]
  exact ⟨m4, k4, rfl⟩

/-- What a reset of the device has done before it resets the logic. -/
def atReset (o : Outcome5) (f : Option Byte) (code : Byte) (kind : BitVec 2) (s : State) : State :=
  loseMemories (tearWrites (noteCause code (some kind) (preAssert o f code s)))

theorem atReset_frame (o : Outcome5) (f : Option Byte) (code : Byte) (kind : BitVec 2) (s : State) :
    ∃ m n d k b v mo h fu w oh si, atReset o f code kind s = { s with
      mem := m, freeCtr := n, docket := d, dkStore := k, beam := b, video := v, motors := mo, hdie := h, fuser := fu
      hv := w, outHold := oh, sinov := si
      rst := { s.rst with
        engHold := true, cause := code, kind := kind
        count := if s.rst.fresh then s.rst.count else satInc s.rst.count, time := rtcNow s, fresh := true } } ∧
      b.intlk = s.beam.intlk ∧ d = (preAssert o f code s).docket := by
  obtain ⟨d, k, b, v, mo, h, fu, w, oh, si, e, hb⟩ := preAssert_frame o f code s
  obtain ⟨m, n, et⟩ := tearWrites_frame (noteCause code (some kind) (preAssert o f code s))
  unfold atReset
  rw [et, e]
  exact ⟨_, _, _, _, _, _, _, _, _, _, _, _, rfl, hb, rfl⟩

/-! ## SYSTEM and WARM -/

/-- What SYSTEM and WARM have in common: the cause, the logic's reset values, and what is kept. -/
structure DeviceReset (code : Byte) (kind : BitVec 2) (s t : State) : Prop where
  cause : t.rst.cause = code
  kind : t.rst.kind = kind
  count : t.rst.count = if s.rst.fresh = true then s.rst.count else satInc s.rst.count
  time : t.rst.time = rtcNow s
  engHold : t.rst.engHold = true
  mode : t.sys.mode = 0
  counters : t.counters = s.counters.map fun c => Counter.reset c.rank
  motors : t.motors = Vector.replicate 6 Motor.reset
  beam : t.beam = { BeamUnit.reset with intlk := s.beam.intlk }
  raised : t.hub.raised = s.hub.raised
  unack : t.hub.unack = s.hub.unack
  optshd : t.optshd = s.optshd
  rtc : t.rtc = s.rtc
  supply : t.supply = s.supply

/-- A reset whose outcome is no power failure is as R208 and R213 say. -/
theorem DeviceReset.done {code : Byte} {kind : BitVec 2} {o : Outcome5} {f : Option Byte} {s t : State}
    (h : DeviceReset code kind s t) (hd : t.docket = (preAssert o f code s).docket) (ho : o ≠ .power) :
    ResetDone code kind s t :=
  ⟨h.cause, h.kind, h.count, h.time, h.engHold, h.mode, h.counters, h.motors, h.beam, h.raised, h.unack, h.optshd, h.rtc,
    fun hp => by rw [hd]; exact preAssert_closed o f code hp, fun ha => by rw [hd]; exact preAssert_flag f code ho ha⟩

/-- What a SYSTEM reset leaves. -/
structure SystemDone (o : Outcome5) (f : Option Byte) (code : Byte) (s t : State) : Prop where
  device : DeviceReset code 1 s t
  docket : t.docket = (preAssert o f code s).docket
  on : t.ps.on = 3
  rails : t.ps.rails = Vector.replicate 12 .off
  devtime : t.devtime = 0
  step : t.rst.step = if decide (s.rst.step = .loaderFail) && decide (code ≠ 0x03) then .loaderFail else .off
  phase : t.ps.phase = if s.ps.pfwSeen then .shutdown else .boot
  nPFW : t.ps.nPFW = false
  offCause : t.ps.offCause = .none
  loaded : t.envg.loaded = false
  locked : t.envg.locked = false

theorem systemReset_done (o : Outcome5) (f : Option Byte) (code : Byte) (s : State) :
    SystemDone o f code s (systemReset o f code s) := by
  obtain ⟨m, n, d, k, b, v, mo, h, fu, w, oh, si, e, hb, hd⟩ := atReset_frame o f code 1 s
  unfold systemReset
  dsimp only
  rw [← atReset, e]
  refine ⟨⟨rfl, rfl, rfl, rfl, rfl, rfl, rfl, rfl, ?_, rfl, rfl, rfl, rfl, rfl⟩, hd, rfl, rfl, rfl, rfl, rfl, rfl,
    rfl, rfl, rfl⟩
  exact congrArg (fun i => { BeamUnit.reset with intlk := i }) hb

theorem systemReset_systemReset {o : Outcome5} {f : Option Byte} {code : Byte} {s : State} (ho : o ≠ .power) :
    SystemReset code s (systemReset o f code s) := by
  have h := systemReset_done o f code s
  refine ⟨h.device.done h.docket ho, h.on, fun r => ?_, h.devtime, fun hl => h.step.trans (if_neg ?_), h.nPFW, h.loaded,
    h.locked⟩
  · rw [h.rails, Fin.getElem_fin, Vector.getElem_replicate]
  · rw [Bool.and_eq_true, decide_eq_true_eq, decide_eq_true_eq]
    rintro ⟨h1, h2⟩
    rcases hl with hl | hl
    · exact hl h1
    · exact h2 hl

/-- What a WARM reset leaves. -/
structure WarmDone (o : Outcome5) (f : Option Byte) (code : Byte) (s t : State) : Prop where
  device : DeviceReset code 2 s t
  docket : t.docket = (preAssert o f code s).docket
  devtime : t.devtime = s.devtime
  shadow : t.envg.shadow = s.envg.shadow
  loaded : t.envg.loaded = s.envg.loaded

/-- The rails of a WARM reset and the step that follows are no part of what it leaves. -/
theorem WarmDone.rails {o : Outcome5} {f : Option Byte} {code : Byte} {s t : State} (h : WarmDone o f code s t)
    (p : PwrSeq) (x : RelStep) : WarmDone o f code s { t with ps := p, rst := { t.rst with step := x } } := by
  obtain ⟨⟨h1, h2, h3, h4, h5, h6, h7, h8, h9, h10, h11, h12, h13, h14⟩, hd, hk⟩ := h
  exact ⟨⟨h1, h2, h3, h4, h5, h6, h7, h8, h9, h10, h11, h12, h13, h14⟩, hd, hk, ‹_›, ‹_›⟩

theorem warmReset_done (o : Outcome5) (f : Option Byte) (code : Byte) (s : State) :
    WarmDone o f code s (warmReset o f code s) := by
  obtain ⟨m, n, d, k, b, v, mo, h, fu, w, oh, si, e, hb, hd⟩ := atReset_frame o f code 2 s
  have hlogic : WarmDone o f code s (reloadFhCfg (warmGpd (resetLogic (atReset o f code 2 s)))) := by
    rw [e]
    refine ⟨⟨rfl, rfl, rfl, rfl, rfl, rfl, rfl, rfl, ?_, rfl, rfl, rfl, rfl, rfl⟩, hd, rfl, rfl, rfl⟩
    exact congrArg (fun i => { BeamUnit.reset with intlk := i }) hb
  unfold warmReset
  dsimp only
  rw [← atReset]
  generalize reloadFhCfg (warmGpd (resetLogic (atReset o f code 2 s))) = x at hlogic
  split
  · unfold railsUp warmRails
    split
    · exact hlogic.rails _ _
    · exact hlogic.rails _ _
  · exact hlogic.rails x.ps _

theorem warmReset_warmReset {o : Outcome5} {f : Option Byte} {code : Byte} {s : State} (ho : o ≠ .power) :
    WarmReset code s (warmReset o f code s) := by
  have h := warmReset_done o f code s
  exact ⟨h.device.done h.docket ho, h.devtime, h.shadow, h.loaded⟩

/-! ## Assertion (R209) -/

/-- A cause that asserts performs its reset. -/
theorem assertReset_system {s : State} (h : Asserts 1 s) (o : Outcome5) (f : Option Byte) (code : Byte) :
    assertReset 1 o f code s = systemReset o f code s := by
  obtain ⟨ha, hn⟩ := h
  have hf : ¬ (s.rst.fresh && releasing s && decide (s.rst.kind.toNat = 1)) = true := by
    rw [Bool.and_eq_true, Bool.and_eq_true, decide_eq_true_eq]
    rintro ⟨⟨h1, h2⟩, h3⟩
    exact hn ⟨h1, h2, h3⟩
  rw [assertReset, if_pos ha, if_neg hf, if_pos rfl]

theorem assertReset_warm {s : State} (h : Asserts 2 s) (o : Outcome5) (f : Option Byte) (code : Byte) :
    assertReset 2 o f code s = warmReset o f code s := by
  obtain ⟨ha, hn⟩ := h
  have hf : ¬ (s.rst.fresh && releasing s && decide (s.rst.kind.toNat = 2)) = true := by
    rw [Bool.and_eq_true, Bool.and_eq_true, decide_eq_true_eq]
    rintro ⟨⟨h1, h2⟩, h3⟩
    exact hn ⟨h1, h2, h3⟩
  rw [assertReset, if_pos ha, if_neg hf, if_neg (by decide)]

/-- A cause that may not assert is discarded. -/
theorem assertReset_discarded {k : Nat} {s : State} (h : assertable k s = false) (o : Outcome5) (f : Option Byte)
    (code : Byte) : assertReset k o f code s = s := by
  rw [assertReset, if_neg (by rw [h]; decide)]

end Sys2Proof.Machine
end

section
/-! Device time (R370-R378). -/

namespace Sys2Proof.Machine

/-! ## Edges -/

/-- No TIME_SET waits for the edge: the edge is its operation alone. -/
theorem timeEdge_none {f : State → State} {s : State} (h : s.sinov.timeWait = none) : timeEdge f s = f s := by
  unfold timeEdge
  rw [h]

/-- An edge at which nothing is applied is its operation alone. -/
theorem timeEdge_idle {f : State → State} {s : State} (h : s.rtc.pending = false) : timeEdge f s = f s := by
  unfold timeEdge
  dsimp only
  split
  · rw [if_neg (by rw [h, Bool.false_and]; decide)]
  · rfl

/-- An edge that changes nothing leaves a waiting TIME_SET waiting. -/
theorem timeEdge_same {f : State → State} {s : State} (h : f s = s) : timeEdge f s = s := by
  unfold timeEdge
  dsimp only
  rw [h]
  split
  · rw [if_neg (by rw [Bool.and_not_self]; decide)]
  · rfl

theorem applyEdge_applies {s : State} (h1 : s.rtc.pending = true) (h2 : s.clk.ao32Ok = true) : applyEdge s = { s with
    rtc := { s.rtc with sec := s.rtc.setSec, sub := 0, valid := true, applyDt := s.devtime, pending := false } } :=
  if_pos (by rw [h1, h2]; rfl)

theorem applyEdge_stopped {s : State} (h : s.clk.ao32Ok = false) : applyEdge s = s :=
  if_neg (by rw [h, Bool.and_false]; decide)

theorem secondOp_stopped {s : State} (h : s.clk.ao32Ok = false) : secondOp s = s := if_pos h

theorem secondOp_counts {s : State} (h1 : s.rtc.pending = false) (h2 : s.clk.ao32Ok = true) : secondOp s =
    { s with rtc := { s.rtc with sec := s.rtc.sec + 1, sub := 0 } } := by
  rw [secondOp, if_neg (by rw [h2]; decide), if_neg (by rw [h1]; decide)]

theorem secondOp_applies {s : State} (h1 : s.rtc.pending = true) (h2 : s.clk.ao32Ok = true) : secondOp s = { s with
    rtc := { s.rtc with sec := s.rtc.setSec, sub := 0, valid := true, applyDt := s.devtime, pending := false } } := by
  rw [secondOp, if_neg (by rw [h2]; decide), if_pos h1, applyEdge_applies h1 h2]

/-- An edge that applies the time of a waiting TIME_SET asks for its record. -/
theorem timeEdge_record {n : Fin 8} {s t : State} (hw : s.sinov.timeWait = some n) (hp : s.rtc.pending = true)
    (ht : applyEdge s = t) (htp : t.rtc.pending = false) : ∃ w, timeEdge applyEdge s =
      wantRecord w { t with sinov := { t.sinov with timeWait := none } } ∧ w.typ = 0x0030 ∧
        w.counter = BitVec.ofNat 8 n.val := by
  unfold timeEdge
  dsimp only
  rw [hw, ht]
  dsimp only
  rw [if_pos (by rw [hp, htp]; rfl)]
  exact ⟨_, rfl, rfl, rfl⟩

/-! ## The alarm -/

/-- The alarm that reaches its second sets ALARM_HIT once. -/
theorem alarmFire_hits {s : State} (h1 : s.rtc.alarmEn = true) (h2 : s.rtc.alarm.toNat ≤ s.rtc.sec.toNat)
    (h3 : s.rtc.alarmDone = false) :
    alarmFire s = dormantWake 0 { s with rtc := { s.rtc with alarmHit := true, alarmDone := true } } :=
  if_pos ⟨h1, h2, h3⟩

theorem alarmFire_silent {s : State}
    (h : s.rtc.alarmEn = false ∨ s.rtc.sec.toNat < s.rtc.alarm.toNat ∨ s.rtc.alarmDone = true) : alarmFire s = s := by
  refine if_neg ?_
  rintro ⟨h1, h2, h3⟩
  rcases h with h | h | h
  · exact Bool.false_ne_true (h.symm.trans h1)
  · omega
  · exact Bool.false_ne_true (h3.symm.trans h)

theorem dormantWake_awake {i : Nat} {s : State} (h : s.ps.phase ≠ .dormant) : dormantWake i s = s := if_neg fun e => h e.1

theorem dormantWake_disabled {i : Nat} {s : State} (h : s.ps.wakeEn.getLsbD i = false) : dormantWake i s = s :=
  if_neg fun e => Bool.false_ne_true (h.symm.trans e.2)

/-- An enabled wake source of a dormant device is a SYSTEM reset with code 0x0D. -/
theorem dormantWake_wakes {i : Nat} {s : State} (h1 : s.ps.phase = .dormant) (h2 : s.ps.wakeEn.getLsbD i = true)
    (ha : Asserts 1 s) : dormantWake i s = systemReset .host none 0x0D s :=
  (if_pos ⟨h1, h2⟩).trans (assertReset_system ha _ _ _)

/-! ## The loss of time -/

/-- TIME_LOST's condition rises with the loss. -/
theorem lostSync_rises {s : State} (h : s.rtc.lost = true) (hp : s.hub.present.getLsbD 0xE3 = false) (hm : Mild 0xE3 s) :
    RisesOnly 0xE3 s (lostSync s) := by
  rw [lostSync, h]
  exact setCond_rises (by decide) hp hm

/-! ## Two conditions that rise together -/

theorem getLsbD_setBit_ne {n i j : Nat} {w : BitVec n} {b : Bool} (hi : i < n) (h : j ≠ i) :
    (setBit w i b).getLsbD j = w.getLsbD j := by
  rw [getLsbD_setBit w j b hi, if_neg (Ne.symm h)]

theorem RaisedOnly.hubOnly {f : Byte} {s t : State} (h : RaisedOnly f s t) : HubOnly s t := h.2.2.2.2.2

theorem HubOnly.pageInFlight {s t : State} (h : HubOnly s t) :
    Sys2Proof.Machine.pageInFlight t = Sys2Proof.Machine.pageInFlight s := by
  unfold Machine.pageInFlight
  rw [show t.docket = s.docket by rw [h]]

theorem HubOnly.sinovRuns {s t : State} (h : HubOnly s t) :
    Sys2Proof.Machine.sinovRuns t = Sys2Proof.Machine.sinovRuns s := by
  rw [h]
  rfl

theorem RaisedOnly.keepsLatches {f : Byte} {s t : State} (h : RaisedOnly f s t) : KeepsLatches s t := by
  obtain ⟨-, hr, hu, -⟩ := h
  refine ⟨fun g x => ?_, fun g x => ?_⟩
  · rw [hr]
    exact getLsbD_setBit_true _ x
  · rw [hu]
    exact getLsbD_setBit_true _ x

/-- A fault that takes no action takes none after another's raise. -/
theorem Mild.after_raise {f g : Byte} {s t : State} (h : Mild f s) (hr : RaisedOnly g s t) : Mild f t := by
  obtain ⟨hn, hp⟩ := h
  have hk := hr.keepsLatches
  have hf := hr.hubOnly
  obtain ⟨-, -, -, -, hcfg, -⟩ := hr
  refine ⟨hn.imp (hk.raised _) fun hc => ?_, fun hs => ?_⟩
  · rw [hcfg]
    exact hc
  · rw [hf.pageInFlight]
    exact hp hs

/-- A raise changes the condition of no level source but TILL_FULL's. -/
theorem RaisedOnly.present {f : Byte} {s t : State} {g : Nat} (h : RaisedOnly f s t) (hg : g ≠ 0xE2) :
    t.hub.present.getLsbD g = s.hub.present.getLsbD g := by
  obtain ⟨-, -, -, hp, -, -⟩ := h
  rcases hp with hp | hp
  · rw [hp]
  · rw [hp, getLsbD_setBit_ne (by decide) hg]

/-- A rise of one condition, seen from the state before it. -/
theorem RisesOnly.facts {f : Byte} {s t : State} (h : RisesOnly f s t) : HubOnly s t ∧ Stands f t ∧
    (∀ g : Byte, Mild g s → Mild g t) ∧ (∀ g : Byte, g ≠ f → g ≠ 0xE2 →
      t.hub.present.getLsbD g.toNat = s.hub.present.getLsbD g.toNat) := by
  have ho := RaisedOnly.hubOnly h
  refine ⟨ho, h.1, fun g hg => Mild.after_raise (s := { s with
    hub := { s.hub with present := setBit s.hub.present f.toNat true } }) hg h, fun g hne h2 => ?_⟩
  have hne' : g.toNat ≠ f.toNat := fun e => hne (BitVec.eq_of_toNat_eq e)
  have h2' : g.toNat ≠ 0xE2 := fun e => h2 (BitVec.eq_of_toNat_eq e)
  rw [RaisedOnly.present h h2']
  exact getLsbD_setBit_ne f.isLt hne'

/-- The RTC's crystal stops: both conditions rise. -/
theorem ao32StopOp_rises {s : State} (hp1 : s.hub.present.getLsbD 0x45 = false)
    (hp2 : s.hub.present.getLsbD 0xE3 = false) (hm1 : Mild 0x45 s) (hm2 : Mild 0xE3 s) :
    Stands 0x45 (ao32StopOp s) ∧ Stands 0xE3 (ao32StopOp s) ∧
      HubOnly { s with
        clk := { s.clk with ao32Ok := false }
        rtc := { s.rtc with lost := true, valid := false, lostDue := true, lostDt := s.devtime } } (ao32StopOp s) := by
  have h1 : RisesOnly 0x45 { s with clk := { s.clk with ao32Ok := false } }
      (setCond 0x45 true { s with clk := { s.clk with ao32Ok := false } }) := setCond_rises (by decide) hp1 hm1
  obtain ⟨hf, hst, hmild, hpres⟩ := h1.facts
  unfold ao32StopOp
  generalize setCond 0x45 true { s with clk := { s.clk with ao32Ok := false } } = u at *
  have h2 := lostSync_rises (s := { u with
    rtc := { u.rtc with lost := true, valid := false, lostDue := true, lostDt := u.devtime } }) rfl
    ((hpres 0xE3 (by decide) (by decide)).trans hp2) (hmild 0xE3 hm2)
  obtain ⟨hf2, hst2, -, -⟩ := h2.facts
  refine ⟨Stands.keeps ?_ (RaisedOnly.keepsLatches h2), hst2, ?_⟩
  · exact hst
  · unfold HubOnly at *
    rw [hf2, hf]

theorem rtc_pending_self {s : State} (h : s.rtc.pending = true) :
    { s with rtc := { s.rtc with pending := true } } = s := by
  rw [← h]

/-- Settles O37: the time is kept, set and lost. -/
theorem timeIsKeptAndLost : Obligations.TimeIsKeptAndLost := by
  refine ⟨⟨fun m s h => ?_, fun m s h => ?_, fun s h1 h2 h3 => ?_, fun s h => ⟨?_, ?_⟩, fun s n h1 h2 h3 => ?_,
      fun s h1 h2 => ?_, fun s h1 h2 h3 => ?_, fun s h1 h2 h3 h4 => ?_, fun s h1 h2 h3 h4 h5 h6 => ?_, fun s h => ?_⟩,
    fun s h hp hm => ?_, fun s h => ?_, fun s hp hm => ?_, fun s hl hp hm => ?_, fun s hs hp1 hp2 hm1 hm2 => ?_, fun s => ?_,
    fun m s h => ?_⟩
  · exact exec_of_granted rfl h (by decide)
  · refine (exec_of_granted rfl h (by decide)).trans (congrArg Host.Outcome.next ?_)
    show timeApply 1 s = _
    by_cases hp : s.rtc.pending = false
    · exact if_pos ⟨rfl, hp⟩
    · exact (if_neg fun e => hp e.2).trans (rtc_pending_self (Bool.eq_true_of_not_eq_false hp)).symm
  · exact congrArg Host.Outcome.next ((timeEdge_none h3).trans (applyEdge_applies h1 h2))
  · exact congrArg Host.Outcome.next (timeEdge_same (applyEdge_stopped h))
  · exact congrArg Host.Outcome.next (timeEdge_same (secondOp_stopped h))
  · obtain ⟨w, e, h4, h5⟩ := timeEdge_record h3 h1 (applyEdge_applies h1 h2) rfl
    exact ⟨_, w, congrArg Host.Outcome.next e, rfl, rfl, rfl, h4, h5, rfl⟩
  · exact congrArg Host.Outcome.next ((timeEdge_idle h1).trans (secondOp_counts h1 h2))
  · exact congrArg Host.Outcome.next ((timeEdge_none h3).trans (secondOp_applies h1 h2))
  · exact congrArg Host.Outcome.next ((alarmFire_hits h1 h2 h3).trans (dormantWake_awake h4))
  · have ha : Asserts 1 { s with rtc := { s.rtc with alarmHit := true, alarmDone := true } } := h6
    have hd := systemReset_done .host none 0x0D { s with rtc := { s.rtc with alarmHit := true, alarmDone := true } }
    exact ⟨_, congrArg Host.Outcome.next ((alarmFire_hits h1 h2 h3).trans (dormantWake_wakes h4 h5 ha)), hd.device.cause,
      hd.device.kind, hd.on, hd.device.rtc⟩
  · exact congrArg Host.Outcome.next (alarmFire_silent h)
  · exact ⟨_, congrArg Host.Outcome.next (if_pos h), lostSync_rises rfl hp hm⟩
  · exact congrArg Host.Outcome.next (if_neg (by rw [h]; decide))
  · exact ⟨_, rfl, lostSync_rises rfl hp hm⟩
  · exact ⟨_, congrArg Host.Outcome.next (if_pos hl), lostSync_rises rfl hp hm⟩
  · obtain ⟨h45, hE3, ho⟩ := ao32StopOp_rises hp1 hp2 hm1 hm2
    have hrun : sinovRuns (ao32StopOp s) = false := ho.sinovRuns.trans hs
    have hx : exec .ao32Stop s = .next (ao32StopOp s) :=
      congrArg Host.Outcome.next (if_neg (by rw [hrun]; decide))
    exact ⟨_, hx, h45, hE3, by rw [ho], by rw [ho], by rw [ho], ho.memSame⟩
  · rfl
  · exact (exec_of_granted rfl h (by decide)).trans (congrArg Host.Outcome.next (timeLostClr_clears s))

end Sys2Proof.Machine
end

section
/-! VIN, VAUX and VBKP as the supply monitor and the comparators see them (R170-R174, R304). -/

namespace Sys2Proof.Machine

theorem softDone_done {s : State} (h : s.supply.softStart = true) :
    softDone s = { s with supply := { s.supply with softDone := true } } := if_pos h

/-- VAUX is good: its condition falls. -/
theorem vauxUp_good {s : State} (h : s.supply.softDone = true) : vauxUp s = Falls 0x02 { s with
    supply := { s.supply with vauxGood := true, vauxLow := false }, hdie := { s.hdie with powered := true } } :=
  (if_pos h).trans (setCond_falls _ _)

/-- A comparator's level source follows its input. -/
theorem vauxLowOp_low {s : State} (hp : s.hub.present.getLsbD 0x02 = false) (hm : Mild 0x02 s) : RisesOnly 0x02 { s with
    supply := { s.supply with vauxLow := true, vauxGood := false }, motors := s.motors.map gatesOff
    hdie := { s.hdie with dump := false } } (vauxLowOp true s) :=
  setCond_rises (by decide) hp hm

theorem toVaux_kept {s : State} (h : s.rtc.lossMark = false) :
    toVaux s = { s with supply := { s.supply with aoOnVbkp := false } } := if_neg (by rw [h]; decide)

theorem average_taken {s : State} (h : s.supply.history ≠ []) : average s = { s with
    ps := { s.ps with vinAvg := BitVec.ofNat 16 (s.supply.history.sum / s.supply.history.length) } } :=
  if_neg fun e => h (List.isEmpty_iff.mp e)

/-- VIN through VREGEN while the back-off is on already. -/
theorem regenUp_again {s : State} (h : backoffOn s = true) : regenUp s = { s with
    supply := { s.supply with vinRegen := true }
    motors := s.motors.map fun m => { m with icmd := max 0 m.icmd } } := if_pos h

theorem regenUp_first {s : State} (h : backoffOn s = false) : regenUp s = raiseFault 0x06 { s with
    supply := { s.supply with vinRegen := true }
    motors := s.motors.map fun m => { m with icmd := max 0 m.icmd } } := if_neg (by rw [h]; decide)

/-- Settles O19: the supply's events. -/
theorem supplyAndRegenerationAreTracked : Obligations.SupplyAndRegenerationAreTracked := by
  refine ⟨⟨fun s => rfl, fun s h => congrArg Host.Outcome.next (softDone_done h),
      fun s h => congrArg Host.Outcome.next (vauxUp_good h), fun s => rfl,
      fun s hp hm => ⟨_, rfl, setCond_rises (by decide) hp hm⟩, fun s => rfl,
      fun s hp hm => ⟨_, rfl, setCond_rises (by decide) hp hm⟩, fun s => rfl,
      fun s hp hm => ⟨_, rfl, vauxLowOp_low hp hm⟩, fun s => rfl,
      fun s h => congrArg Host.Outcome.next (toVaux_kept h), fun s vin vaux => rfl,
      fun s h => congrArg Host.Outcome.next (average_taken h)⟩,
    fun s => rfl, fun s h => congrArg Host.Outcome.next (regenUp_again h), fun s h hm => ?_⟩
  exact ⟨_, congrArg Host.Outcome.next (regenUp_first h), raiseFault_mild (by decide) hm⟩

end Sys2Proof.Machine
end

section
/-! The sources of a reset (R207-R215, R224, R230). -/

namespace Sys2Proof.Machine

/-! ## SYSTEM causes -/

theorem systemCause_up {s : State} (h : aoUp s = true) (o : Outcome5) (code : Byte) :
    systemCause o code s = assertReset 1 o none code s := if_pos h

/-- A cause that asserts is a SYSTEM reset with its code. -/
theorem systemCause_asserts {o : Outcome5} {code : Byte} {s : State} (h : aoUp s = true) (ha : Asserts 1 s)
    (ho : o ≠ .power) : SystemReset code s (systemCause o code s) := by
  rw [systemCause_up h, assertReset_system ha]
  exact systemReset_systemReset ho

theorem nrst_ignored {ns : Nat} {s : State} (h : ns < 1000) : nrst ns s = s := if_pos (.inl h)

theorem nrst_long {ns : Nat} {s : State} (h : 10000 ≤ ns) (ha : aoUp s = true) : nrst ns s = nrstReset s := by
  have hn : ¬ (ns < 1000 ∨ aoUp s = false) := by
    rw [ha]
    simp
    omega
  exact (if_neg hn).trans (if_pos h)

/-- nRST resets a device that is shut off, too. -/
theorem nrstReset_resets {s : State} (h : shutOff s = true ∨ Asserts 1 s) : SystemReset 0x03 s (nrstReset s) := by
  unfold nrstReset
  split
  · exact systemReset_systemReset (by decide)
  · next hs =>
    rw [assertReset_system (h.resolve_left hs)]
    exact systemReset_systemReset (by decide)

theorem nrstReset_discarded {s : State} (h1 : shutOff s = false) (h2 : assertable 1 s = false) : nrstReset s = s := by
  rw [nrstReset, if_neg (by rw [h1]; decide), assertReset_discarded h2]

theorem bits_upper_ne {v k : Word} (hk : k.toNat < 2 ^ 16) (h : v >>> 16 ≠ k) : (bits v 16 16 : BitVec 16) ≠ k.setWidth 16 := by
  refine fun e => h (BitVec.eq_of_toNat_eq ?_)
  have hlt : (v >>> 16).toNat < 2 ^ 16 := by
    rw [BitVec.toNat_ushiftRight, Nat.shiftRight_eq_div_pow]
    have := v.isLt
    omega
  have := congrArg BitVec.toNat e
  rw [bits, BitVec.toNat_setWidth, BitVec.toNat_setWidth, Nat.mod_eq_of_lt hlt, Nat.mod_eq_of_lt hk] at this
  exact this

/-- RST_REQ needs its key. -/
theorem rstReqOp_noKey {v : Word} {s : State} (h : v >>> 16 ≠ 0x5253) : rstReqOp v s = s :=
  if_neg fun e => bits_upper_ne (k := 0x5253) (by decide) h e

/-- A SYSTEM reset keeps RST_DED_ADDR. -/
theorem systemReset_dedAddr (o : Outcome5) (f : Option Byte) (code : Byte) (s : State) :
    (systemReset o f code s).rst.dedAddr = s.rst.dedAddr := by
  obtain ⟨m, n, d, k, b, v, mo, h, fu, w, oh, si, e, -, -⟩ := atReset_frame o f code 1 s
  unfold systemReset
  dsimp only
  rw [← atReset, e]
  rfl

/-- A double-bit error in Keeper SRAM records its address and asserts. -/
theorem doubleBit_asserts {ofs : BitVec 18} {s : State} (h : aoUp s = true) (ha : Asserts 1 s) : doubleBit ofs s =
    systemReset .fault none 0x08 { s with rst := { s.rst with dedAddr := 0x8000_0000 ||| fieldAt ofs 0 } } := by
  have ha' : Asserts 1 { s with rst := { s.rst with dedAddr := 0x8000_0000 ||| fieldAt ofs 0 } } := ha
  exact (if_pos (by rw [h, ha.1]; rfl)).trans (assertReset_system ha' .fault none 0x08)

/-! ## WARM causes and the application watchdog -/

theorem kwdgExpire_asserts {s : State} (h : s.rst.kwdgRun = true) (ha : Asserts 2 s) :
    WarmReset 0x04 s (kwdgExpire s) := by
  rw [kwdgExpire, if_pos h, assertReset_warm ha]
  exact warmReset_warmReset (by decide)

/-- A BLOCK reset of a block that spoils no page, and no Barrow controller, begins with its fence. -/
theorem blockStart_begins {b : Fin 24} {f : Option Byte} {s x : State} (h1 : s.rst.blk[b] = .none)
    (h2 : domOn s (blockDomain b.val) = true) (h3 : releasing s = false) (hb1 : b.val ≠ 1) (hb2 : b.val ≠ 2)
    (hx : x = fenceOutputs b.val { s with rst := { s.rst with
      blk := s.rst.blk.set b .draining, lastBlk := BitVec.ofNat 5 b.val, blkTimeout := false } })
    (hp : ¬ (spoilBlock b.val = true ∧ pageInFlight x = true)) :
    blockStart b f s = if blockIsolates x b then blockHold b x else x := by
  have hf : blockFence b f s = x := by
    unfold blockFence
    rw [if_neg (by rw [h1, h2]; simp)]
    dsimp only
    rw [if_neg hb1, if_neg hb2, ← hx, if_neg hp]
  unfold blockStart
  rw [if_neg (by rw [h1, h2, h3]; simp)]
  dsimp only
  rw [hf]

/-- RSTCTL with the cluster's fence in place and its reset recorded. -/
def clusterFenced (s : State) : RstCtl :=
  { s.rst with
    cause := 0x05, count := if s.rst.fresh then s.rst.count else satInc s.rst.count, time := rtcNow s, fresh := true
    blk := s.rst.blk.set 0 .draining, lastBlk := 0, blkTimeout := false }

/-- A cluster reset while the cluster is up. -/
theorem clusterReset_begins {s : State} (hb : s.rst.blk[(0 : Fin 24)] = .none) (hd : domOn s 13 = true)
    (hr : releasing s = false) : clusterReset s =
      if blockIsolates s 0 then blockHold 0 { s with rst := clusterFenced s } else { s with rst := clusterFenced s } :=
  (if_neg (by rw [hr]; decide)).trans
    (blockStart_begins (s := noteCause 0x05 none s) (x := { s with rst := clusterFenced s }) hb hd hr (by decide)
      (by decide) rfl (fun e => absurd e.1 (by decide)))

/-- The application watchdog while the cluster is up and no transfer of it waits. -/
theorem awdgExpire_resets {s : State} (h : s.rst.awdgEn = true) (hb : s.rst.blk[(0 : Fin 24)] = .none)
    (hd : domOn s 13 = true) (hr : releasing s = false) (ho : blockOuts 0 s = []) :
    ∃ r fb, awdgExpire s = { s with rst := r, fabric := fb } ∧ r.cause = 0x05 ∧ r.kind = s.rst.kind ∧
      r.count = (if s.rst.fresh = true then s.rst.count else satInc s.rst.count) ∧ r.time = rtcNow s ∧
      r.blk[(0 : Fin 24)] = (if blockIsolates s 0 then .held else .draining) := by
  have hset : ∀ (v : Vector BlkStage 24) (x : BlkStage), (v.set 0 x)[(0 : Fin 24)] = x := fun v x =>
    Vector.getElem_set_self _
  unfold awdgExpire
  rw [if_pos h]
  dsimp only
  rw [clusterReset_begins hb hd hr]
  cases hi : blockIsolates s 0 with
  | true =>
    have ho' : blockOuts 0 (blockHold 0 { s with rst := clusterFenced s }) = [] := ho
    rw [if_pos rfl, if_pos rfl, if_pos ⟨hb, hset _ _⟩, ho']
    exact ⟨_, _, rfl, rfl, rfl, rfl, rfl, hset _ _⟩
  | false =>
    have hd : (clusterFenced s).blk[(0 : Fin 24)] = .draining := hset _ _
    have hn : ¬ (s.rst.blk[(0 : Fin 24)] = .none ∧ (clusterFenced s).blk[(0 : Fin 24)] = .held) := by
      rw [hd]
      rintro ⟨-, e⟩
      cases e
    rw [if_neg Bool.false_ne_true, if_neg Bool.false_ne_true, if_neg hn]
    exact ⟨_, _, rfl, rfl, rfl, rfl, rfl, hd⟩

theorem awdgExpire_nothing {s : State}
    (h : s.rst.awdgEn = false ∨ releasing s = true ∧ s.rst.blk[(0 : Fin 24)] = .none) : awdgExpire s = s := by
  unfold awdgExpire
  rcases h with h | ⟨hr, hb⟩
  · exact if_neg (by rw [h]; decide)
  · have hc : clusterReset s = s := if_pos hr
    split
    · dsimp only
      rw [hc, if_neg]
      rw [hb]
      rintro ⟨-, e⟩
      cases e
    · rfl

/-- Settles O25: every source's reset, its kind and its code. -/
theorem resetsAssert : Obligations.ResetsAssert := by
  refine ⟨⟨fun s ns h => ?_, fun s ns h ha hs => ?_, fun s ns h ha h1 h2 => ?_, fun s hr ha hs => ?_,
      fun m s h ha hs => ?_, fun m v s h hv => ?_, fun s hd ha hs => ?_, fun s hd => ?_, fun ofs s ha hs => ?_⟩,
    fun s h ha => ?_, fun s h => ?_, fun m s h => ?_, fun m v s h hv hk ha => ?_, fun m s h ha => ?_, fun s hr ha => ?_,
    fun s h hb hd hr ho => ?_, fun s h => ?_, fun m v s h => ?_, fun ofs s hm => ?_⟩
  · exact congrArg Host.Outcome.next (nrst_ignored h)
  · exact ⟨_, congrArg Host.Outcome.next (nrst_long h ha), nrstReset_resets hs⟩
  · exact congrArg Host.Outcome.next ((nrst_long h ha).trans (nrstReset_discarded h1 h2))
  · have hx : resetCmd s = systemCause .host 0x07 { s with sinov := { s.sinov with resetReq := none } } := by
      rw [resetCmd, hr]
      rfl
    exact ⟨_, congrArg Host.Outcome.next hx,
      systemCause_asserts (s := { s with sinov := { s.sinov with resetReq := none } }) ha hs (by decide)⟩
  · exact ⟨_, exec_of_granted rfl h (by decide), systemCause_asserts ha hs (by decide)⟩
  · exact (exec_of_granted rfl h (by decide)).trans (congrArg Host.Outcome.next (rstReqOp_noKey hv))
  · exact ⟨_, congrArg Host.Outcome.next (if_pos hd), systemCause_asserts ha hs (by decide)⟩
  · exact congrArg Host.Outcome.next (if_neg (by rw [hd]; decide))
  · refine ⟨_, congrArg Host.Outcome.next (doubleBit_asserts ha hs),
      systemReset_systemReset (s := { s with rst := { s.rst with dedAddr := 0x8000_0000 ||| fieldAt ofs 0 } }) (by decide),
      (systemReset_dedAddr _ _ _ _).trans ?_⟩
    rw [fieldAt, BitVec.shiftLeft_zero]
  · exact ⟨_, rfl, kwdgExpire_asserts h ha⟩
  · exact congrArg Host.Outcome.next (if_neg (by rw [h]; decide))
  · exact exec_of_granted rfl h (by decide)
  · exact ⟨_, (exec_of_granted rfl h (by decide)).trans (congrArg Host.Outcome.next (if_neg hv)), kwdgExpire_asserts hk ha⟩
  · refine ⟨_, (exec_of_granted rfl h (by decide)).trans
      (congrArg Host.Outcome.next (assertReset_warm ha .host none 0x07)), warmReset_warmReset (by decide)⟩
  · have ha' : Asserts 2 { s with sinov := { s.sinov with resetReq := none } } := ha
    have hx : resetCmd s = warmReset .host none 0x07 { s with sinov := { s.sinov with resetReq := none } } := by
      rw [resetCmd, hr, ← assertReset_warm ha']
      rfl
    exact ⟨_, congrArg Host.Outcome.next hx,
      warmReset_warmReset (s := { s with sinov := { s.sinov with resetReq := none } }) (by decide)⟩
  · obtain ⟨r, fb, e, h1, h2, h3, h4, h5⟩ := awdgExpire_resets h hb hd hr ho
    exact ⟨_, congrArg Host.Outcome.next e, h1, h2, h3, h4, h5, rfl, rfl, rfl, rfl, memSame_of_mem rfl⟩
  · exact congrArg Host.Outcome.next (awdgExpire_nothing h)
  · exact exec_of_granted rfl h (by decide)
  · exact ⟨_, rfl, raiseFault_mild (by decide) hm⟩

end Sys2Proof.Machine
end

section
/-! BLOCK resets, the release of the Keeper and of the cores (R214, R225-R230). -/

namespace Sys2Proof.Machine

/-! ## Requests (R226, R230) -/

/-- A granted RST_BLK_REQ. -/
theorem exec_rstBlkReq {m : Master} {v : Word} {outs : List Access} {s : State} (h : Granted m 0x02 0x1C v s) :
    exec (.rstBlkReq m v outs) s = .next (blkReq v outs s) := by
  obtain ⟨hv, he⟩ := h
  have hx : regWriteWith m 0x02 0x1C v outs s = bankWrite m 0x02 0x1C v outs s := by
    rw [regWriteWith, if_neg fun e => absurd e.1 (by decide), regWriteCore, hv]
    exact if_pos he
  exact congrArg Host.Outcome.next hx

theorem blkReq_noKey {v : Word} {outs : List Access} {s : State} (h : v >>> 16 ≠ 0x424B) : blkReq v outs s = s :=
  if_neg fun e => bits_upper_ne (k := 0x424B) (by decide) h e.1

/-- The parts of a request for block b. -/
theorem blkWord_bits : ∀ b : Fin 24, let v : Word := 0x424B_0000 ||| BitVec.ofNat 32 b.val
    (bits v 16 16 : BitVec 16) = 0x424B ∧ (bits v 0 5 : BitVec 5).toNat = b.val := by decide

/-- A request for block b with its key. -/
theorem blkReq_keyed (b : Fin 24) (outs : List Access) (s : State) :
    blkReq (0x424B_0000 ||| BitVec.ofNat 32 b.val) outs s =
      if s.rst.blk[b] = .none ∧ domOn s (blockDomain b.val) = true ∧ releasing s = false then
        if blockIsolates (blockStart b none s) b then
          refuseAll (outs ++ blockOuts b (blockStart b none s)) (dropOuts b (blockStart b none s))
        else blockStart b none s
      else s := by
  obtain ⟨h1, h2⟩ := blkWord_bits b
  unfold blkReq
  dsimp only
  simp only [h1, h2, b.isLt, and_self, if_true, Fin.ofNat_val_eq_self]

theorem blkReq_merges {b : Fin 24} {outs : List Access} {s : State} (h : s.rst.blk[b] ≠ .none ∨ releasing s = true) :
    blkReq (0x424B_0000 ||| BitVec.ofNat 32 b.val) outs s = s := by
  rw [blkReq_keyed, if_neg]
  rintro ⟨h1, -, h3⟩
  rcases h with h | h
  · exact h h1
  · exact Bool.false_ne_true (h3.symm.trans h)

/-! ## The transfers of a block -/

/-- A block none of whose transfers waits has none to drop. -/
theorem dropOuts_none {b : Fin 24} {s : State} (h : blockOuts b s = []) : dropOuts b s = s := by
  have hw : ∀ w ∈ s.fabric.waiting, ¬ masterBlock w.req.master = some b := by
    intro w hw e
    have := List.filterMap_eq_nil_iff.mp h w hw
    rw [if_pos e] at this
    cases this
  have hf : s.fabric.waiting.filter (fun w => !decide (masterBlock w.req.master = some b)) = s.fabric.waiting :=
    List.filter_eq_self.mpr fun w hm => by rw [decide_eq_false (hw w hm)]; rfl
  unfold dropOuts
  rw [hf]

/-- The masters that lie in a block: the cluster, Barrow, the video fetch, the MACs, the host port. -/
theorem masterBlock_val {m : Master} {b : Fin 24} (h : masterBlock m = some b) : b.val < 4 ∨ 19 ≤ b.val := by
  cases m with
  | eth n =>
    obtain rfl := Option.some.inj h
    have := n.isLt
    rw [Fin.val_ofNat]
    omega
  | acore _ | barrowApp | barrowKeep | vfetch | hspi =>
    obtain rfl := Option.some.inj h
    decide
  | _ => cases h

theorem motorBlock_val (k : Fin 6) : (Fin.ofNat 24 (6 + k.val)).val = 6 + k.val := by
  have := k.isLt
  rw [Fin.val_ofNat, Nat.mod_eq_of_lt (by omega)]

/-- No master of the fabric lies in a motor channel. -/
theorem blockOuts_motor {b : Fin 24} (h1 : 6 ≤ b.val) (h2 : b.val ≤ 11) (s : State) : blockOuts b s = [] := by
  refine List.filterMap_eq_nil_iff.mpr fun w _ => if_neg fun e => ?_
  have h := masterBlock_val e
  omega

/-! ## A motor channel's reset -/

theorem getElem_set_fin {α : Type} {n : Nat} (v : Vector α n) (i : Fin n) (x : α) : (v.set i x)[i] = x :=
  Vector.getElem_set_self _

/-- RSTCTL with block b's fence in place. -/
def fenced (b : Fin 24) (s : State) : RstCtl :=
  { s.rst with blk := s.rst.blk.set b .draining, lastBlk := BitVec.ofNat 5 b.val, blkTimeout := false }

theorem fenceOutputs_motor {n : Nat} {k : Fin 6} (h : n = 6 + k.val) (s : State) :
    fenceOutputs n s = { s with motors := s.motors.set k (coast s.motors[k]) } := by
  subst h
  match k with
  | 0 | 1 | 2 | 3 | 4 | 5 => rfl

theorem blockDomain_motor (k : Fin 6) : blockDomain (6 + k.val) = 35 + k.val := by
  revert k
  decide

/-- The BLOCK reset of a motor channel begins: its gates off, its stage the drain or the hold. -/
theorem blkReq_motor {k : Fin 6} {b : Fin 24} {s : State} (hb : b.val = 6 + k.val) (h1 : s.rst.blk[b] = .none)
    (h2 : domOn s (35 + k.val) = true) (h3 : releasing s = false) (hp : pageInFlight s = false) :
    ∃ r, blkReq (0x424B_0000 ||| BitVec.ofNat 32 (6 + k.val)) [] s =
        { s with rst := r, motors := s.motors.set k (coast s.motors[k]) } ∧
      r.blk[b] = (if blockIsolates s b then .held else .draining) ∧ r.lastBlk = BitVec.ofNat 5 (6 + k.val) := by
  have hk := k.isLt
  rw [← hb]
  have hdom : domOn s (blockDomain b.val) = true := by rw [hb, blockDomain_motor, h2]
  have hs := blockStart_begins (b := b) (f := none) (s := s)
    (x := { s with rst := fenced b s, motors := s.motors.set k (coast s.motors[k]) }) h1 hdom h3 (by omega) (by omega)
    (fenceOutputs_motor hb { s with rst := fenced b s }).symm (fun e => Bool.false_ne_true (hp.symm.trans e.2))
  have hiso : blockIsolates { s with rst := fenced b s, motors := s.motors.set k (coast s.motors[k]) } b =
      blockIsolates s b := rfl
  have hno := fun x => blockOuts_motor (b := b) (s := x) (by omega) (by omega)
  rw [blkReq_keyed, if_pos ⟨h1, hdom, h3⟩, hs, hiso, hno, dropOuts_none (hno _)]
  cases hi : blockIsolates s b with
  | true =>
    rw [if_pos rfl, if_pos rfl]
    refine ⟨{ fenced b s with blk := (fenced b s).blk.set b .held }, ?_, getElem_set_fin _ _ _, rfl⟩
    split
    · rfl
    · rfl
  | false =>
    rw [if_neg Bool.false_ne_true, if_neg Bool.false_ne_true]
    refine ⟨fenced b s, if_neg ?_, getElem_set_fin _ _ _, rfl⟩
    rw [hiso, hi]
    exact Bool.false_ne_true

/-! ## The drain -/

theorem drainDone_holds {b : Fin 24} {s : State} (h1 : s.rst.blk[b] = .draining) (h2 : blockOuts b s = []) :
    drainDone b s = { s with rst := { s.rst with blk := s.rst.blk.set b .held } } := if_pos ⟨h1, h2⟩

theorem drainTimeout_raises {b : Fin 24} {s : State} (h1 : s.rst.blk[b] = .draining) (h2 : blockOuts b s = []) :
    drainTimeout b [] s = raiseFault 0x23 { s with rst := { s.rst with
      blk := s.rst.blk.set b .held, blkTimeout := true } } := by
  rw [drainTimeout, if_pos h1, h2, dropOuts_none h2]
  rfl

/-! ## Registers of a block at its release -/

/-- What a block's reset of its registers leaves. -/
structure BlockKeeps (b : Nat) (s t : State) : Prop where
  counters : t.counters = s.counters
  raised : t.hub.raised = s.hub.raised
  docket : t.docket = s.docket
  blk : t.rst.blk = s.rst.blk
  held : t.rst.held = s.rst.held
  mem : b ≠ 18 → t.mem = s.mem

theorem dumpFollow_keeps (b : Nat) {s x : State} (h : BlockKeeps b s x) : BlockKeeps b s (dumpFollow x) := by
  obtain ⟨d, e⟩ := dumpFollow_frame x
  obtain ⟨h1, h2, h3, h4, h5, h6⟩ := h
  rw [e]
  exact ⟨h1, h2, h3, h4, h5, h6⟩

theorem resetBlockRegs_keeps (b : Nat) (s : State) : BlockKeeps b s (resetBlockRegs b s) := by
  have hm : ∀ k : Fin 6, BlockKeeps b s { s with motors := s.motors.set k Motor.reset } := fun k =>
    ⟨rfl, rfl, rfl, rfl, rfl, fun _ => rfl⟩
  unfold resetBlockRegs
  split
  case h_7 => exact dumpFollow_keeps _ (hm 0)
  case h_8 => exact dumpFollow_keeps _ (hm 1)
  case h_9 => exact dumpFollow_keeps _ (hm 2)
  case h_10 => exact dumpFollow_keeps _ (hm 3)
  case h_11 => exact dumpFollow_keeps _ (hm 4)
  case h_12 => exact dumpFollow_keeps _ (hm 5)
  case h_19 => exact ⟨rfl, rfl, rfl, rfl, rfl, fun h => absurd rfl h⟩
  all_goals exact ⟨rfl, rfl, rfl, rfl, rfl, fun _ => rfl⟩

theorem lasersWait_keeps (b n : Nat) {s x : State} (h : BlockKeeps b s x) : BlockKeeps b s (lasersWait n x) := by
  obtain ⟨h1, h2, h3, h4, h5, h6⟩ := h
  unfold lasersWait
  split_ifs
  · exact ⟨h1, h2, h3, h4, h5, h6⟩
  · exact ⟨h1, h2, h3, h4, h5, h6⟩
  · exact ⟨h1, h2, h3, h4, h5, h6⟩

/-! ## The Steelyard's registers -/

/-- Nothing has changed but the Steelyard and conditions of the hub. -/
def SteelyardOnly (s t : State) : Prop := ∃ y p, t = { s with sy := y, hub := { s.hub with present := p } }

theorem SteelyardOnly.refl (s : State) : SteelyardOnly s s := ⟨_, _, rfl⟩

theorem SteelyardOnly.of_sy (s : State) (y : Steelyard) : SteelyardOnly s { s with sy := y } := ⟨_, _, rfl⟩

theorem SteelyardOnly.trans {s t u : State} (h : SteelyardOnly s t) (k : SteelyardOnly t u) : SteelyardOnly s u := by
  obtain ⟨y, p, rfl⟩ := h
  obtain ⟨y', p', rfl⟩ := k
  exact ⟨y', p', rfl⟩

theorem SteelyardOnly.ite {s a b : State} {c : Prop} [Decidable c] (h : SteelyardOnly s a) (k : SteelyardOnly s b) :
    SteelyardOnly s (if c then a else b) := by
  split
  · exact h
  · exact k

theorem SteelyardOnly.foldl {α : Type} {f : State → α → State} (hf : ∀ x a, SteelyardOnly x (f x a)) (l : List α)
    (s : State) : SteelyardOnly s (l.foldl f s) := by
  induction l generalizing s with
  | nil => exact .refl s
  | cons a l ih => exact (hf s a).trans (ih (f s a))

theorem syField_only (f : Steelyard → Steelyard) (s : State) : SteelyardOnly s (syField f s) :=
  .ite (.refl s) (.of_sy s _)

theorem fcField_only (f : Forecast → Forecast) (s : State) : SteelyardOnly s (fcField f s) :=
  .ite (.refl s) (.of_sy s _)

theorem modelStop_only (s : State) : SteelyardOnly s (modelStop s) := ⟨_, _, rfl⟩

theorem syCtrl_only (v : Word) (s : State) : SteelyardOnly s (syCtrl v s) := by
  unfold syCtrl
  refine .ite (modelStop_only s) (.ite (.refl s) ?_)
  split
  · exact .of_sy s _
  · exact .of_sy s _

theorem writeNode_only (n : Fin 16) (off : Nat) (v : Word) (s : State) : SteelyardOnly s (writeNode n off v s) := by
  unfold writeNode
  split
  · exact syField_only _ s
  · exact syField_only _ s
  · exact syField_only _ s
  · exact .refl s

theorem writeSteelyard_only (off : Nat) (v : Word) (s : State) : SteelyardOnly s (writeSteelyard off v s) := by
  unfold writeSteelyard
  split
  · exact syCtrl_only v s
  · exact .ite (.ite (.refl s) (.of_sy s _)) (.refl s)
  · exact .ite (fcField_only _ s) (.ite (writeNode_only _ _ _ s) (.ite (syField_only _ s) (.ite (syField_only _ s)
      (.ite (fcField_only _ s) (.ite (syField_only _ s) (.ite (syField_only _ s) (.ite (syField_only _ s)
      (.ite (.of_sy s _) (.ite (.of_sy s _) (.refl s))))))))))

theorem thermalTable_only (s : State) : SteelyardOnly s (thermalTable s) := by
  unfold thermalTable
  generalize Config.thermalTable s.sinov.digest = l
  exact .ite ((SteelyardOnly.foldl (fun x (w : Nat × Word) => writeSteelyard_only w.1 w.2 x) l s).trans
    (writeSteelyard_only 0 1 _)) (.refl s)

/-! ## Release of a block -/

/-- A block with no write held leaves its reset. -/
theorem blockRelease_frees {b : Fin 24} {s : State} (h : s.rst.blk[b] = .held) (hh : s.rst.held = []) :
    blockRelease b s = blockFree b s ∧ (blockFree b s).rst.blk = s.rst.blk.set b .none ∧
      BlockKeeps b.val { s with rst := (blockFree b s).rst } (blockFree b s) := by
  have hk := lasersWait_keeps b.val b.val (resetBlockRegs_keeps b.val s)
  have hfree : SteelyardOnly { lasersWait b.val (resetBlockRegs b.val s) with
      rst := { (lasersWait b.val (resetBlockRegs b.val s)).rst with
        blk := (lasersWait b.val (resetBlockRegs b.val s)).rst.blk.set b .none } } (blockFree b s) :=
    .ite (thermalTable_only _) (.refl _)
  obtain ⟨h1, h2, h3, h4, h5, h6⟩ := hk
  generalize lasersWait b.val (resetBlockRegs b.val s) = x at *
  obtain ⟨y, p, e⟩ := hfree
  have hheld : (blockFree b s).rst.held = [] := by
    rw [e]
    exact h5.trans hh
  refine ⟨?_, ?_, ?_⟩
  · rw [blockRelease, if_pos h, heldGoOn]
    dsimp only
    rw [hheld]
    show { blockFree b s with rst := { (blockFree b s).rst with held := [] } } = blockFree b s
    rw [← hheld]
  · rw [e]
    dsimp only
    rw [h4]
  · rw [e]
    exact ⟨h1, h2, h3, rfl, rfl, h6⟩

end Sys2Proof.Machine
end

section
/-! The release of the Keeper and of the cores (R214, R227-R230). -/

namespace Sys2Proof.Machine

/-! ## Release of a motor channel -/

theorem resetBlockRegs_motor {n : Nat} {k : Fin 6} (h : n = 6 + k.val) (s : State) :
    resetBlockRegs n s = dumpFollow { s with motors := s.motors.set k Motor.reset } := by
  subst h
  match k with
  | 0 | 1 | 2 | 3 | 4 | 5 => rfl

/-- DUMP conducts after its enable was taken away only where it conducted before. -/
theorem dumpFollow_dump (s : State) :
    ∃ d, dumpFollow s = { s with hdie := { s.hdie with dump := d } } ∧ (d = true → s.hdie.dump = true) := by
  unfold dumpFollow
  split
  · exact ⟨s.hdie.dump, rfl, id⟩
  · exact ⟨false, rfl, fun h => absurd h Bool.false_ne_true⟩

theorem blockFree_motor {k : Fin 6} {b : Fin 24} (hb : b.val = 6 + k.val) (s : State) :
    ∃ d, blockFree b s = { s with
        motors := s.motors.set k Motor.reset, hdie := { s.hdie with dump := d }
        rst := { s.rst with blk := s.rst.blk.set b .none } } ∧ (d = true → s.hdie.dump = true) := by
  have hk := k.isLt
  have h17 : b ≠ 17 := fun e => absurd (congrArg Fin.val e) (by rw [hb]; show ¬ 6 + k.val = 17; omega)
  obtain ⟨d, e, hd⟩ := dumpFollow_dump { s with motors := s.motors.set k Motor.reset }
  refine ⟨d, ?_, hd⟩
  rw [blockFree, if_neg h17, resetBlockRegs_motor hb, e, lasersWait, if_neg (by omega), if_neg (by omega)]

/-! ## The boot ROM (R214) -/

theorem measure0_frame {s : State} (h : optAutoReady (optRec s) = false) (k : Option (Nat × Nat)) :
    ∃ c y, measure0 s k = { s with crypto := c, sinov := y } := by
  have hno : ∀ (x : State) (d : BitVec 256), optRec x = optRec s →
      ¬ (optAutoReady (optRec x) = true ∧ d ≠ optKeeperRef (optRec x)) := fun x d e hc => by
    rw [e, h] at hc
    exact Bool.false_ne_true hc.1
  unfold measure0
  split
  · next n l =>
    generalize imageDigest s false n l = d
    exact ⟨_, _, if_neg (hno (measExtend 0 d { s with sinov := { s.sinov with digest := d } }) d rfl)⟩
  · exact ⟨_, _, rfl⟩

/-- The Keeper is released: its SRAM cleared, its watchdog started, the boot images chosen and measured. -/
theorem keeperFree_starts {s : State} (h1 : s.rst.step = .rom) (h2 : domOn s 3 = true) (h3 : domOn s 4 = true)
    (h4 : domOn s 14 = true) (h5 : optAutoReady (optRec s) = false) :
    ∃ c y x f, keeperFree s = { s with
      mem := s.mem.clearRange 0x1000_0000 0x1004_0000
      rst := { s.rst with kwdgRun := true, step := .sinov }
      freeCtr := f, crypto := c, sinov := y, xspi := x } := by
  rw [keeperFree, if_pos ⟨h1, h2, h3, h4⟩]
  dsimp only [takeBit]
  generalize hm : s.mem.clearRange 0x1000_0000 0x1004_0000 = m
  generalize bootSlot s false _ = k
  generalize hx : Xspi.mk .. = x
  obtain ⟨c, y, e⟩ := measure0_frame (s := { s with
    mem := m, freeCtr := s.freeCtr + 1 + 1, rst := { s.rst with kwdgRun := true, step := .sinov }, xspi := x }) h5 k
  rw [e]
  exact ⟨_, _, _, _, rfl⟩

/-- Keeper SRAM reads as zeros where it is cleared. -/
theorem unlisted_ksram {a : Nat} (h : a < 0x1004_0000) : unlisted a = 0 := if_neg (by omega)

theorem resumePll_socpll {s : State} (h1 : s.clk.lock.getLsbD 1 = true) (h2 : s.clk.fb.getLsbD 1 = true) :
    resumePll 1 s = { s with clk := { s.clk with fb := setBit s.clk.fb 1 false } } := by
  have hc : (s.clk.lock.getLsbD (1 : Fin 4).val && s.clk.fb.getLsbD (1 : Fin 4).val &&
      !(decide ((1 : Fin 4) = 0) && s.clk.pfwHold)) = true := by
    show (s.clk.lock.getLsbD 1 && s.clk.fb.getLsbD 1 && !(false && s.clk.pfwHold)) = true
    rw [h1, h2]
    rfl
  unfold resumePll
  rw [if_pos hc]
  rfl

/-! ## Sinov's power-up (R215) -/

/-- A consumer that returns to its PLL changes the clocks, DRAM's self-refresh and the ramp's freeze alone. -/
theorem resumePll_frame (p : Fin 4) (s : State) :
    ∃ c d x, resumePll p s = { s with clk := c, dramc := d, pix := x } := by
  unfold resumePll
  split
  · match p with
    | 0 | 1 | 2 | 3 => exact ⟨_, _, _, rfl⟩
  · exact ⟨_, _, _, rfl⟩

theorem sinovPlls_frame (s : State) : ∃ c d x, sinovPlls s = { s with clk := c, dramc := d, pix := x } := by
  unfold sinovPlls
  split
  · obtain ⟨_, _, _, e1⟩ := resumePll_frame 1 s
    rw [e1]
    obtain ⟨_, _, _, e0⟩ := resumePll_frame 0 { s with clk := _, dramc := _, pix := _ }
    rw [e0]
    obtain ⟨_, _, _, e2⟩ := resumePll_frame 2 { s with clk := _, dramc := _, pix := _ }
    rw [e2]
    exact ⟨_, _, _, rfl⟩
  · exact ⟨_, _, _, rfl⟩

theorem timeLostRecord_frame (s : State) :
    ∃ r w, timeLostRecord s = { s with rtc := r, sinov := { s.sinov with wants := w } } := by
  unfold timeLostRecord
  split
  · dsimp only
    split
    · exact ⟨_, _, rfl⟩
    · exact ⟨_, _, rfl⟩
  · exact ⟨_, _, rfl⟩

/-- Sinov sets the mode, and asks for the records that are due. -/
theorem setMode_frame (s : State) :
    ∃ y p r w, setMode s = { s with
      sys := { s.sys with mode := 1 }, sy := y, hub := { s.hub with present := p }, rtc := r
      sinov := { s.sinov with wants := w } } := by
  obtain ⟨y, p, e1⟩ := thermalTable_only { s with sys := { s.sys with mode := 1 } }
  unfold setMode
  dsimp only
  rw [e1]
  obtain ⟨r, w, e2⟩ := timeLostRecord_frame
    { s with sys := { s.sys with mode := 1 }, sy := y, hub := { s.hub with present := p } }
  rw [e2]
  split
  · exact ⟨_, _, _, _, rfl⟩
  · exact ⟨_, _, _, _, rfl⟩

theorem powerUp_scans {s : State} (h1 : s.rst.step = .sinov) (h2 : domOn s 17 = true) (h3 : s.rst.kind = 0)
    (h4 : s.till.busy = false) : powerUp s = { s with till := { s.till with busy := true, op := .scan } } := by
  have hp : pointersLost s = true := by rw [pointersLost, decide_eq_true h3, Bool.true_or]
  rw [powerUp, if_pos h1, if_neg (by rw [h2]; decide), if_pos hp, scanStart, if_neg (by rw [h4]; decide)]

theorem powerUp_omits {s : State} (h1 : s.rst.step = .sinov) (h2 : domOn s 17 = false) :
    (powerUp s).sys.mode = 1 ∧ (powerUp s).rst.step = .running ∧ (powerUp s).sinov.omitted = true ∧
      (powerUp s).counters = s.counters ∧ (powerUp s).hub.raised = s.hub.raised ∧ (powerUp s).mem = s.mem := by
  rw [powerUp, if_pos h1, if_pos h2]
  unfold sinovStart
  obtain ⟨c, d, x, e⟩ := sinovPlls_frame { s with
    rst := { s.rst with step := .running }, sys := { s.sys with minset := minsetRule s, sinov := sinovVer } }
  rw [e]
  obtain ⟨y, p, r, w, e'⟩ := setMode_frame { s with
    rst := { s.rst with step := .running }, sys := { s.sys with minset := minsetRule s, sinov := sinovVer }
    clk := c, dramc := d, pix := x, sinov := { s.sinov with omitted := true } }
  rw [e']
  exact ⟨rfl, rfl, rfl, rfl, rfl, rfl⟩

/-! ## RST_REL (R227-R229) -/

theorem haltRequested_none {s : State} (h : s.dbg.haltReq = 0) : haltRequested s = s := by
  have hb : ∀ i, s.dbg.haltReq.getLsbD i = false := fun i => by rw [h]; exact BitVec.getLsbD_zero
  refine List.foldl_fixed' (fun k => if_neg ?_) _
  rw [hb, Bool.false_and]
  exact Bool.false_ne_true

/-- A core's release writes its bit and no other of RST_REL. -/
theorem coreBits (v : Word) : bit (v &&& 0x1E) 0 = false ∧ bit (v &&& 0x1E) 8 = false ∧
    bit (v &&& 0x1E) 1 = bit v 1 ∧ (bits (v &&& 0x1E) 1 4 : BitVec 4) = bits v 1 4 := by
  refine ⟨?_, ?_, ?_, ?_⟩
  · exact (BitVec.getLsbD_and ..).trans (Bool.and_false _)
  · exact (BitVec.getLsbD_and ..).trans (Bool.and_false _)
  · exact (BitVec.getLsbD_and ..).trans (Bool.and_true _)
  · show ((v &&& 0x1E) >>> 1).setWidth 4 = (v >>> 1).setWidth 4
    rw [BitVec.ushiftRight_and_distrib, BitVec.setWidth_and]
    exact BitVec.and_allOnes

theorem bit1_of_and_two {v : Word} (h : v &&& 2 = 0) : bit v 1 = false := by
  have := congrArg (fun w : Word => w.getLsbD 1) h
  rwa [BitVec.getLsbD_and, show (2 : Word).getLsbD 1 = true by decide, Bool.and_true] at this

/-- A write of RST_REL that frees no Application core 0 measures no image. -/
theorem relWrite_plain {m : Master} {v : Word} {s : State} (h : bit v 1 = false ∨ s.rst.cores.getLsbD 0 = true)
    (hq : s.dbg.haltReq = 0) (hr : (rstRel v s).dbg = s.dbg) : relWrite m v s = rstRel v s := by
  rw [relWrite, if_neg, haltRequested_none (hr ▸ hq)]
  rintro ⟨-, h1, h2⟩
  rcases h with h | h
  · exact Bool.false_ne_true (h.symm.trans h1)
  · exact Bool.false_ne_true (h2.symm.trans h)

end Sys2Proof.Machine
end

section
/-! The writes of RST_REL, and the settling of O26. -/

namespace Sys2Proof.Machine

theorem exec_relWrite {i : Instr} {m : Master} {v : Word} {s : State} (hi : exec i s = .next (regWrite m 0x02 0x24 v s))
    (h : Granted m 0x02 0x24 v s) : exec i s = .next (relWrite m v s) := exec_of_granted hi h (by decide)

/-- A write of core bits alone releases them, where Application cores may run (R229). -/
theorem rstRel_cores {v : Word} {s : State} (h0 : bit v 0 = false) (h8 : bit v 8 = false) :
    rstRel v s = if s.sys.minset = false ∧ s.dramc.ready = true then
      { s with rst := { s.rst with cores := s.rst.cores ||| bits v 1 4 } } else s := by
  simp only [rstRel, h0, h8, Bool.false_eq_true, false_and, if_false]

theorem rstRel_cores_dbg {v : Word} {s : State} (h0 : bit v 0 = false) (h8 : bit v 8 = false) :
    (rstRel v s).dbg = s.dbg := by
  rw [rstRel_cores h0 h8]
  split
  · rfl
  · rfl

/-- A granted core release without a measurement. -/
theorem exec_coreRelease {m : Master} {v : Word} {s : State} (h : Granted m 0x02 0x24 (v &&& 0x1E) s)
    (hc : v &&& 2 = 0 ∨ s.rst.cores.getLsbD 0 = true) (hq : s.dbg.haltReq = 0) :
    exec (.coreRelease m v) s = .next (if s.sys.minset = false ∧ s.dramc.ready = true then
      { s with rst := { s.rst with cores := s.rst.cores ||| bits v 1 4 } } else s) := by
  obtain ⟨h0, h8, h1, hb⟩ := coreBits v
  have hp : bit (v &&& 0x1E) 1 = false ∨ s.rst.cores.getLsbD 0 = true :=
    hc.imp_left fun e => h1.trans (bit1_of_and_two e)
  rw [exec_relWrite (i := .coreRelease m v) rfl h, relWrite_plain hp hq (rstRel_cores_dbg h0 h8), rstRel_cores h0 h8, hb]

/-- A word of core bits and of HOLD_REL leaves Application cores as they are where it holds none. -/
theorem rstRel_hold (s : State) : rstRel 0x100 s = holdRelease s := by
  have hb : bit (0x100 : Word) 0 = false ∧ bit (0x100 : Word) 8 = true ∧ (bits (0x100 : Word) 1 4 : BitVec 4) = 0 := by decide
  obtain ⟨h0, h8, hz⟩ := hb
  simp only [rstRel, h0, h8, hz, Bool.false_eq_true, false_and, if_false, if_true]
  rw [show s.rst.cores ||| (0 : BitVec 4) = s.rst.cores from BitVec.or_zero, ite_self]

theorem holdRelease_dbg (s : State) : (holdRelease s).dbg = s.dbg := by
  unfold holdRelease
  dsimp only
  split
  · rfl
  · rfl

theorem exec_holdRel {m : Master} {s : State} (h : Granted m 0x02 0x24 0x100 s) (hq : s.dbg.haltReq = 0) :
    exec (.holdRel m) s = .next (holdRelease s) := by
  have hd : (rstRel 0x100 s).dbg = s.dbg := by rw [rstRel_hold, holdRelease_dbg]
  rw [exec_relWrite (i := .holdRel m) rfl h, relWrite_plain (.inl (by decide)) hq hd, rstRel_hold]

/-- The measurement before a release of core 0, where it stands already, chooses the boot slot and nothing else (R380). -/
theorem appMeasure_loaded {s : State} (h : s.crypto.loaded.getLsbD 1 = true) :
    ∃ a, appMeasure s = { s with xspi := { s.xspi with aslot := a } } := by
  unfold appMeasure
  dsimp only
  generalize hn : bootSlot s true s.xspi.aslot.toNat = n
  match n with
  | none => exact ⟨_, rfl⟩
  | some (k, l) => exact ⟨_, if_pos h⟩

theorem relWrite_core0 {s : State} (hl : s.crypto.loaded.getLsbD 1 = true) (hq : s.dbg.haltReq = 0)
    (hm : s.sys.minset = false) (hr : s.dramc.ready = true) : ∃ a, relWrite .keeper 2 s = { s with
      rst := { s.rst with cores := s.rst.cores ||| 1 }, xspi := { s.xspi with aslot := a } } := by
  have h0 : bit (2 : Word) 0 = false := by decide
  have h8 : bit (2 : Word) 8 = false := by decide
  have hb : (bits (2 : Word) 1 4 : BitVec 4) = 1 := by decide
  obtain ⟨a, ha⟩ : ∃ a, (if Master.keeper = .keeper ∧ bit (2 : Word) 1 = true ∧ s.rst.cores.getLsbD 0 = false then
      appMeasure s else s) = { s with xspi := { s.xspi with aslot := a } } := by
    split
    · exact appMeasure_loaded hl
    · exact ⟨_, rfl⟩
  refine ⟨a, ?_⟩
  have hd := rstRel_cores_dbg (s := { s with xspi := { s.xspi with aslot := a } }) h0 h8
  rw [relWrite, ha, haltRequested_none (by rw [hd, hq]), rstRel_cores h0 h8, if_pos ⟨hm, hr⟩, hb]

/-! ## O26 -/

/-- Settles O26: each request, stage and release by the lemma on its operation. -/
theorem blocksAndCoresAreReleased : Obligations.BlocksAndCoresAreReleased := by
  unfold Obligations.BlocksAndCoresAreReleased
  refine ⟨⟨fun m v outs s h hk => ?_, fun m b s h hb => ?_, fun m k s h h1 h2 h3 hp => ?_, fun b s h1 h2 => ?_,
    fun b s h1 h2 hm => ?_, fun k s h1 hh => ?_, fun b s h1 hh => ?_⟩, fun s h1 h2 h3 h4 h5 => ?_, fun s h1 h2 => ?_,
    fun s h1 h2 h3 h4 => ?_, fun s h1 h2 => ?_, fun m v s h hc hq hm hr => ?_, fun m v s h hc hq hn => ?_,
    fun s h hl hq hm hr => ?_, fun m s h ho hq => ?_, fun m s h ho hq => ?_⟩
  · rw [exec_rstBlkReq h, blkReq_noKey hk]
  · rw [exec_rstBlkReq h, blkReq_merges hb]
  · obtain ⟨r, e, h4, h5⟩ := blkReq_motor (motorBlock_val k) h1 h2 h3 hp
    exact ⟨_, exec_rstBlkReq h, by rw [e], by rw [e]; exact h4, by rw [e]; exact h5⟩
  · exact congrArg Host.Outcome.next (drainDone_holds h1 h2)
  · exact ⟨_, congrArg Host.Outcome.next (drainTimeout_raises h1 h2), raiseFault_mild (by decide) hm⟩
  · obtain ⟨d, e, hd⟩ := blockFree_motor (motorBlock_val k) s
    obtain ⟨e', -, -⟩ := blockRelease_frees h1 hh
    exact ⟨d, congrArg Host.Outcome.next (e'.trans e), hd⟩
  · obtain ⟨e, hb, hk⟩ := blockRelease_frees h1 hh
    obtain ⟨h3, h4, h5, -, -, h6⟩ := hk
    exact ⟨_, congrArg Host.Outcome.next e, hb, h3, h4, h5, fun hn => memSame_of_mem (h6 fun e => hn (Fin.ext e))⟩
  · obtain ⟨c, y, x, f, e⟩ := keeperFree_starts h1 h2 h3 h4 h5
    refine ⟨_, congrArg Host.Outcome.next e, rfl, rfl, fun a ha hb => ?_, fun a ha => Mem.read_clearRange_other ha,
      rfl, rfl, rfl⟩
    exact (Mem.read_clearRange_in ha hb).trans (unlisted_ksram hb)
  · exact congrArg Host.Outcome.next ((if_pos h1).trans (resumePll_socpll h1 h2))
  · exact congrArg Host.Outcome.next (powerUp_scans h1 h2 h3 h4)
  · obtain ⟨h3, h4, h5, h6, h7, h8⟩ := powerUp_omits h1 h2
    exact ⟨_, rfl, h3, h4, h5, h6, h7, memSame_of_mem h8⟩
  · rw [exec_coreRelease h hc hq, if_pos ⟨hm, hr⟩]
  · rw [exec_coreRelease h hc hq, if_neg]
    rintro ⟨hm, hr⟩
    rcases hn with hn | hn
    · exact Bool.false_ne_true (hm.symm.trans hn)
    · exact Bool.false_ne_true (hn.symm.trans hr)
  · obtain ⟨a, e⟩ := relWrite_core0 hl hq hm hr
    exact ⟨_, (exec_relWrite (i := .coreRelease .keeper 2) rfl h).trans (congrArg Host.Outcome.next e), rfl⟩
  · rw [exec_holdRel h hq, holdRelease]
    exact congrArg Host.Outcome.next (if_pos ho)
  · rw [exec_holdRel h hq, holdRelease]
    exact congrArg Host.Outcome.next (if_neg (by rw [ho]; exact Bool.false_ne_true))

end Sys2Proof.Machine
end

section
/-! Output writes, pin events, the lock and wake sources (R446-R456, R43). -/

namespace Sys2Proof.Machine

/-! ## A bank's registers -/

/-- A bank is replaced by what the change makes of it. -/
theorem vmod_eq_set {α : Type} {n : Nat} {v : Vector α n} {i : Fin n} {f : α → α} {x : α} (h : f v[i] = x) :
    vmod v i f = v.set i x := by rw [vmod, h]

theorem vmod_id {α : Type} {n : Nat} {v : Vector α n} {i : Fin n} {f : α → α} (h : f v[i] = v[i]) : vmod v i f = v := by
  rw [vmod, h, Fin.getElem_fin, Vector.set_getElem_self]

theorem exec_of_gpio {i : Instr} {m : Master} {b : Fin 4} {o : Nat} {v : Word} {s : State}
    (hi : exec i s = .next (regWrite m (0x22 + b.val) o v s)) (h : Granted m (0x22 + b.val) o v s) :
    exec i s = .next (writeGpio m b o v s) := by
  have hb : bankWrite m (0x22 + b.val) o v [] s = writeGpio m b o v s := by
    match b with
    | 0 | 1 | 2 | 3 => rfl
  have := b.isLt
  rw [exec_of_granted hi h (by omega), hb]

/-! ## Output latches (R446, R451) -/

theorem setLatch_frame {b : Fin 4} {v x : Word} {s : State}
    (hx : (v &&& unheld s b) ||| (s.gpio[b].out &&& ~~~(unheld s b)) = x) :
    setLatch b v s = { s with gpio := s.gpio.set b { s.gpio[b] with out := x, evt := (setLatch b v s).gpio[b].evt } } := by
  refine (withEdges_frame b _ s).trans ?_
  have he : vmod s.gpio b (fun g => { g with out := (v &&& unheld s b) ||| (g.out &&& ~~~(unheld s b)) }) =
      s.gpio.set b { s.gpio[b] with out := x } := vmod_eq_set (by rw [hx])
  dsimp only
  rw [he, getElem_set_fin, Vector.set_set]
  rfl

/-- Bits under a mask set, cleared or toggled, the others kept. -/
theorem masked_or (o v u : Word) : ((o ||| v) &&& u) ||| (o &&& ~~~u) = o ||| (v &&& u) := by
  ext i hi
  simp only [BitVec.getElem_or, BitVec.getElem_and, BitVec.getElem_not]
  generalize o[i] = a, v[i] = b, u[i] = c
  revert a b c
  decide

theorem masked_clear (o v u : Word) : ((o &&& ~~~v) &&& u) ||| (o &&& ~~~u) = o &&& ~~~(v &&& u) := by
  ext i hi
  simp only [BitVec.getElem_or, BitVec.getElem_and, BitVec.getElem_not]
  generalize o[i] = a, v[i] = b, u[i] = c
  revert a b c
  decide

theorem masked_xor (o v u : Word) : ((o ^^^ v) &&& u) ||| (o &&& ~~~u) = o ^^^ (v &&& u) := by
  ext i hi
  simp only [BitVec.getElem_or, BitVec.getElem_and, BitVec.getElem_not, BitVec.getElem_xor]
  generalize o[i] = a, v[i] = b, u[i] = c
  revert a b c
  decide

/-! ## Pin events (R448) -/

/-- The state in which the board drives a pin at a level. -/
def padAt (b : Fin 4) (pin : Fin 32) (level : Bool) (s : State) : State :=
  { s with gpio := s.gpio.set b { s.gpio[b] with pad := setBit s.gpio[b].pad pin.val level } }

theorem padChange_on {b : Fin 4} {pin : Fin 32} {level : Bool} {s : State} (h : domOn s (45 + b.val) = true) :
    padChange b pin level s = withEdges b (padAt b pin level) s := if_pos h

theorem padAt_bank (b : Fin 4) (pin : Fin 32) (level : Bool) (s : State) :
    (padAt b pin level s).gpio[b] = { s.gpio[b] with pad := setBit s.gpio[b].pad pin.val level } := getElem_set_fin _ _ _

/-- What drives a pin does not follow the board's levels. -/
theorem pinDrive_padAt (b : Fin 4) (pin : Fin 32) (level : Bool) (s : State) (j : Nat) :
    pinDrive (padAt b pin level s) b j = pinDrive s b j := by
  have ho : (padAt b pin level s).gpio[b].out = s.gpio[b].out := by rw [padAt_bank]
  unfold pinDrive
  simp only [ho]
  rfl

theorem irqMode_padAt (b : Fin 4) (pin : Fin 32) (level : Bool) (s : State) (j : Nat) :
    irqMode (padAt b pin level s) b j = irqMode s b j := by
  have hc : (padAt b pin level s).gpio[b].irqCfg = s.gpio[b].irqCfg := by rw [padAt_bank]
  rw [irqMode, hc, irqMode]

theorem pinVal_undriven {b : Fin 4} {j : Nat} {s : State} (h1 : pinDrive s b j = none)
    (h2 : (pinCfg s b j).getLsbD 7 = false) : pinVal s b j = s.gpio[b].pad.getLsbD j := by
  rw [pinVal, h2, if_neg Bool.false_ne_true, h1]

/-- Only the pin whose level changed may read otherwise. -/
theorem pinVal_padAt_other {b : Fin 4} {pin : Fin 32} {level : Bool} {s : State} {j : Nat} (h : j ≠ pin.val) :
    pinVal (padAt b pin level s) b j = pinVal s b j := by
  have hp : (padAt b pin level s).gpio[b].pad.getLsbD j = s.gpio[b].pad.getLsbD j := by
    rw [congrArg Gpio.pad (padAt_bank b pin level s)]
    exact getLsbD_setBit_ne pin.isLt h
  have hc : pinCfg (padAt b pin level s) b j = pinCfg s b j := rfl
  unfold pinVal
  rw [hc, pinDrive_padAt, hp]

theorem pinWord_getLsbD {f : Nat → Bool} {j : Nat} (h : j < 32) : (pinWord f).getLsbD j = f j := by
  rw [pinWord, getLsbD_foldl_twoPow (fun i => f i = true), decide_eq_true h, Bool.true_and, Bool.true_and,
    Bool.decide_eq_true]

/-- The event bit that a pin's level before and after asks for in its mode. -/
def edgeBit (mode : Nat) (was now : Bool) : Bool :=
  match mode with
  | 3 => !was && now
  | 4 => was && !now
  | 5 => was != now
  | _ => false

theorem edgeEvents_getLsbD {s t : State} {b : Fin 4} {j : Nat} (h : j < 32) :
    (edgeEvents s t b).getLsbD j = (edgeBit (irqMode t b j) (pinVal s b j) (pinVal t b j) && (bankMask b).getLsbD j) := by
  rw [edgeEvents, BitVec.getLsbD_and, pinWord_getLsbD h]
  rfl

theorem edgeBit_same (mode : Nat) (v : Bool) : edgeBit mode v v = false := by
  unfold edgeBit
  split
  · cases v <;> rfl
  · cases v <;> rfl
  · cases v <;> rfl
  · rfl

/-- A rise and a fall, by the mode's number. -/
theorem edgeBit_eq (mode : Nat) (was now : Bool) : edgeBit mode was now =
    ((!was && now && decide (mode = 3 ∨ mode = 5)) || (was && !now && decide (mode = 4 ∨ mode = 5))) := by
  unfold edgeBit
  split
  · cases was <;> cases now <;> rfl
  · cases was <;> cases now <;> rfl
  · cases was <;> cases now <;> rfl
  · next h3 h4 h5 =>
    rw [decide_eq_false fun e => e.elim h3 h5, decide_eq_false fun e => e.elim h4 h5, Bool.and_false, Bool.and_false, Bool.or_false]

/-- A change of the level at an input of the bank adds the event of that pin's edge and no other. -/
theorem padChange_events {b : Fin 4} {pin : Fin 32} {level : Bool} {s : State} (h : domOn s (45 + b.val) = true)
    (hm : (bankMask b).getLsbD pin.val = true) (hd : pinDrive s b pin.val = none)
    (hc : (pinCfg s b pin.val).getLsbD 7 = false) :
    (padChange b pin level s).gpio[b].evt.getLsbD pin.val = (s.gpio[b].evt.getLsbD pin.val ||
        edgeBit (irqMode s b pin.val) (s.gpio[b].pad.getLsbD pin.val) level) ∧
      ∀ j, j ≠ pin.val → (padChange b pin level s).gpio[b].evt.getLsbD j = s.gpio[b].evt.getLsbD j := by
  have he : (padChange b pin level s).gpio[b].evt = s.gpio[b].evt ||| edgeEvents s (padAt b pin level s) b := by
    rw [padChange_on h]
    show (vmod (padAt b pin level s).gpio b fun g =>
      { g with evt := g.evt ||| edgeEvents s (padAt b pin level s) b })[b].evt = _
    rw [vmod_same, padAt_bank]
  have hnow : pinVal (padAt b pin level s) b pin.val = level := by
    have hp : (padAt b pin level s).gpio[b].pad.getLsbD pin.val = level := by
      rw [padAt_bank, getLsbD_setBit _ _ _ pin.isLt, if_pos rfl]
    rw [pinVal_undriven ((pinDrive_padAt b pin level s pin.val).trans hd) (show (pinCfg (padAt b pin level s) b pin.val).getLsbD 7 = false from hc), hp]
  refine ⟨?_, fun j hj => ?_⟩
  · rw [he, BitVec.getLsbD_or, edgeEvents_getLsbD pin.isLt, irqMode_padAt, pinVal_undriven hd hc, hnow, hm, Bool.and_true]
  · rw [he, BitVec.getLsbD_or]
    by_cases hl : j < 32
    · rw [edgeEvents_getLsbD hl, pinVal_padAt_other hj, edgeBit_same, Bool.false_and, Bool.or_false]
    · simp only [BitVec.getLsbD_of_ge _ _ (Nat.not_lt.mp hl), Bool.or_false]

theorem padChange_frame {b : Fin 4} {pin : Fin 32} {level : Bool} {s : State} (h : domOn s (45 + b.val) = true) :
    padChange b pin level s = { s with gpio := s.gpio.set b { s.gpio[b] with
      pad := setBit s.gpio[b].pad pin.val level, evt := (padChange b pin level s).gpio[b].evt } } := by
  rw [padChange_on h]
  refine (withEdges_frame b _ s).trans ?_
  rw [padAt_bank, padAt, Vector.set_set]

/-! ## The lock (R449, R455) -/

theorem lockKey_eq {m : Master} {b : Fin 4} {v : Word} {s : State} {x : Gpio}
    (h : (if v = 0x5A5A then
        { s.gpio[b] with lockStep := 1, lockMaster := (masterId m).setWidth 4
                         abort := s.gpio[b].abort || (s.gpio[b].lockStep != 0) }
      else if s.gpio[b].lockStep = 0 then s.gpio[b]
      else if v = 0xA5A5 ∧ s.gpio[b].lockStep = 2 ∧ s.gpio[b].lockMaster = (masterId m).setWidth 4 then
        { s.gpio[b] with lockStep := 0, lockStat := s.gpio[b].lockStat ||| s.gpio[b].lockMask }
      else lockAbandon s.gpio[b]) = x) : lockKey m b v s = { s with gpio := s.gpio.set b x } := by
  rw [lockKey, vmod_eq_set h]

theorem lockMask_eq {m : Master} {b : Fin 4} {v : Word} {s : State} {x : Gpio}
    (h : (if s.gpio[b].lockStep = 0 then { s.gpio[b] with lockMask := v &&& bankMask b }
      else if s.gpio[b].lockStep = 1 ∧ s.gpio[b].lockMaster = (masterId m).setWidth 4 then
        { s.gpio[b] with lockMask := v &&& bankMask b, lockStep := 2 }
      else lockAbandon { s.gpio[b] with lockMask := v &&& bankMask b }) = x) :
    lockMask m b v s = { s with gpio := s.gpio.set b x } := by
  rw [lockMask, vmod_eq_set h]

/-- A key that does not continue the sequence in hand abandons it. -/
theorem lockKey_abandons {m : Master} {b : Fin 4} {v : Word} {s : State} (h1 : v ≠ 0x5A5A) (h2 : s.gpio[b].lockStep ≠ 0)
    (h3 : v ≠ 0xA5A5 ∨ s.gpio[b].lockStep ≠ 2 ∨ s.gpio[b].lockMaster ≠ (masterId m).setWidth 4) :
    lockKey m b v s = { s with gpio := s.gpio.set b { s.gpio[b] with lockStep := 0, abort := true } } := by
  refine lockKey_eq ?_
  rw [if_neg h1, if_neg h2, if_neg, lockAbandon]
  rintro ⟨e1, e2, e3⟩
  rcases h3 with h | h | h
  · exact h e1
  · exact h e2
  · exact h e3

theorem lockMask_abandons {m : Master} {b : Fin 4} {v : Word} {s : State} (h1 : s.gpio[b].lockStep ≠ 0)
    (h2 : s.gpio[b].lockStep ≠ 1 ∨ s.gpio[b].lockMaster ≠ (masterId m).setWidth 4) : lockMask m b v s =
      { s with gpio := s.gpio.set b { s.gpio[b] with lockMask := v &&& bankMask b, lockStep := 0, abort := true } } := by
  refine lockMask_eq ?_
  rw [if_neg h1, if_neg, lockAbandon]
  rintro ⟨e1, e2⟩
  exact h2.elim (fun h => h e1) fun h => h e2

theorem setBank_id (s : State) (b : Fin 4) : { s with gpio := s.gpio.set b s.gpio[b] } = s := by
  rw [Fin.getElem_fin, Vector.set_getElem_self]

/-! ## O48 -/

/-- A granted write of the output latches that leaves x in them. -/
theorem exec_of_latch {i : Instr} {m : Master} {b : Fin 4} {o : Nat} {v w x : Word} {s : State}
    (hi : exec i s = .next (regWrite m (0x22 + b.val) o v s)) (h : Granted m (0x22 + b.val) o v s)
    (hw : writeGpio m b o v s = setLatch b w s)
    (hx : (w &&& unheld s b) ||| (s.gpio[b].out &&& ~~~(unheld s b)) = x) : ∃ t, exec i s = .next t ∧
      t = { s with gpio := s.gpio.set b { s.gpio[b] with out := x, evt := t.gpio[b].evt } } :=
  ⟨_, (exec_of_gpio hi h).trans (congrArg Host.Outcome.next hw), setLatch_frame hx⟩

/-- Settles O48: latches, pin events, the lock sequence and the wake sources. -/
theorem pinsLocksAndWakeSources : Obligations.PinsLocksAndWakeSources := by
  refine ⟨⟨fun m b v s h => ?_, fun m b v s h => ?_, fun m b v s h => ?_, fun m b v s h => ?_,
    fun b pin level s h hm hd hc => ?_, fun b pin level s h => ?_⟩, fun m b s h => ?_, fun m b v s h h1 h2 => ?_,
    fun m b s h h1 h2 => ?_, fun m b v s h h1 h2 h3 => ?_, fun m b v s h h1 h2 => ?_, fun m b v s h h1 h2 => ?_,
    fun s h1 h2 ha => ?_, fun s h1 h2 ha => ?_, fun s h => ?_, fun s h => ?_⟩
  · exact exec_of_latch (i := .outValWrite m b v) rfl h rfl rfl
  · exact exec_of_latch (i := .outSet m b v) rfl h rfl (masked_or ..)
  · exact exec_of_latch (i := .outClr m b v) rfl h rfl (masked_clear ..)
  · exact exec_of_latch (i := .outTgl m b v) rfl h rfl (masked_xor ..)
  · obtain ⟨he, ho⟩ := padChange_events (level := level) h hm hd hc
    refine ⟨_, rfl, padChange_frame h, he.trans ?_, ho⟩
    rw [edgeBit_eq, Bool.or_assoc, Bool.decide_or, Bool.decide_or]
  · exact congrArg Host.Outcome.next (if_neg (by rw [h]; exact Bool.false_ne_true))
  · refine (exec_of_gpio rfl h).trans (congrArg Host.Outcome.next (lockKey_eq ((if_pos rfl).trans ?_)))
    rw [bne, beq_eq_decide, decide_not]
  · refine (exec_of_gpio rfl h).trans (congrArg Host.Outcome.next (lockMask_eq ?_))
    rw [if_neg (by rw [h1]; decide), if_pos ⟨h1, h2⟩]
  · refine (exec_of_gpio rfl h).trans (congrArg Host.Outcome.next (lockKey_eq ?_))
    rw [if_neg (by decide), if_neg (by rw [h1]; decide), if_pos ⟨rfl, h1, h2⟩]
  · exact (exec_of_gpio rfl h).trans (congrArg Host.Outcome.next (lockKey_abandons h1 h2 h3))
  · refine (exec_of_gpio rfl h).trans (congrArg Host.Outcome.next ((lockKey_eq ?_).trans (setBank_id s b)))
    rw [if_neg h1, if_pos h2]
  · exact (exec_of_gpio rfl h).trans (congrArg Host.Outcome.next (lockMask_abandons h1 h2))
  · exact ⟨_, congrArg Host.Outcome.next (dormantWake_wakes h1 h2 ha), systemReset_systemReset (by decide)⟩
  · exact ⟨_, congrArg Host.Outcome.next (dormantWake_wakes h1 h2 ha), systemReset_systemReset (by decide)⟩
  · exact congrArg Host.Outcome.next (h.elim dormantWake_awake dormantWake_disabled)
  · exact congrArg Host.Outcome.next (h.elim dormantWake_awake dormantWake_disabled)

end Sys2Proof.Machine
end

section
/-! Pair reads, plain register writes and the idle step (R9, R84, R448). -/

namespace Sys2Proof.Machine

/-! ## Bytes and words of a vector -/

/-- Consecutive writes from a on, as far as the vector goes. -/
theorem getElem_foldl_setIfInBounds {α : Type} {n : Nat} (f : Nat → α) (p : Vector α n) (a k : Nat) {x : Nat} (hx : x < n) :
    ((List.range k).foldl (fun p i => p.setIfInBounds (a + i) (f i)) p)[x] =
      if a ≤ x ∧ x < a + k then f (x - a) else p[x] := by
  induction k with
  | zero => rw [if_neg (by omega)]; rfl
  | succ k ih =>
    simp only [List.range_succ, List.foldl_append, List.foldl_cons, List.foldl_nil]
    rw [Vector.getElem_setIfInBounds, ih]
    by_cases h : a + k = x
    · subst h
      rw [if_pos rfl, if_pos (by omega), Nat.add_sub_cancel_left]
    · rw [if_neg h]
      have hiff : (a ≤ x ∧ x < a + k) ↔ a ≤ x ∧ x < a + (k + 1) := by omega
      simp only [hiff]

theorem putWord_getElem {n : Nat} (p : Vector Byte n) (i : Nat) (w : Word) (x : Fin n) :
    (putWord p i w)[x] = if i ≤ x.val ∧ x.val < i + 4 then byteOf w (x.val - i) else p[x] :=
  getElem_foldl_setIfInBounds (byteOf w) p i 4 x.isLt

/-! ## Pair reads (R9) -/

theorem bankReach_of_readVerdict {m : Master} {bank off : Nat} {s : State} (h : readVerdict m bank off s = .go) :
    bankReach m bank = true := by
  refine bankReach_of_route (s := s) (off := off) ?_
  unfold readVerdict at h
  split at h
  · assumption
  · exact h

/-- A read by the address of an aligned word is the read at its bank and offset. -/
theorem addrRead_regAddr {m : Master} {bank off : Nat} {s : State} (hb : bank < 0x31) (ho : off < 0x1_0000)
    (ha : off % 4 = 0) (hm : bankReach m bank = true) : addrRead m (regAddr bank off) s = (regRead m bank off s).2 := by
  have hbank : ((regAddr bank off).toNat - 0x4000_0000) / 0x1_0000 = bank := by rw [regAddr_toNat hb ho]; omega
  have hoff : (regAddr bank off).toNat % 0x1_0000 = off := by rw [regAddr_toNat hb ho]; omega
  have halign : (regAddr bank off).toNat % 4 = 0 := by rw [regAddr_toNat hb ho]; omega
  simp [addrRead, regionOf_regAddr hb ho, hbank, hoff, halign, hm]

/-- The read of a pair's low word has no effect of its own. -/
theorem readEffect_pair {bank off : Nat} {s : State} (h : pairWith bank off ≠ []) : readEffect bank off s = s := by
  have h8 : ¬ (bank = 0x08 ∧ off < 0x2000 ∧ off % 0x400 = 0x218) := by
    rintro ⟨rfl, h1, h2⟩
    refine h ?_
    simp [pairWith, h2]
  have hs : ¬ (0x27 ≤ bank ∧ bank ≤ 0x2A ∧ off = 0x18) := by
    rintro ⟨h1, h2, rfl⟩
    obtain rfl | rfl | rfl | rfl : bank = 0x27 ∨ bank = 0x28 ∨ bank = 0x29 ∨ bank = 0x2A := by omega
    · exact h rfl
    · exact h rfl
    · exact h rfl
    · exact h rfl
  have hf : ¬ (bank = 0x11 ∨ bank = 0x1B) := by
    rintro (rfl | rfl)
    · exact h rfl
    · exact h rfl
  rw [readEffect, if_neg h8, if_neg hs, if_neg hf]

/-- The copy of a register that a master's read of another keeps. -/
theorem holdPair_one {m : Master} {bank off o : Nat} {f : Nat → Word} {s : State} (h : pairWith bank off = [o]) :
    ∃ l, holdPair m bank off f s = { s with hold := l ++ [{ master := m, addr := (regAddr bank o).toNat, value := f o }] } ∧
      ∀ x ∈ l, ¬ (x.master = m ∧ x.addr = (regAddr bank o).toNat) := by
  refine ⟨s.hold.filter (fun h => !(decide (h.master = m) && decide (h.addr = (regAddr bank o).toNat))), ?_, fun x hx => ?_⟩
  · rw [holdPair, h]
    rfl
  · have := (List.mem_filter.mp hx).2
    rw [Bool.not_eq_true', Bool.and_eq_false_iff, decide_eq_false_iff_not, decide_eq_false_iff_not] at this
    exact fun e => this.elim (fun h => h e.1) fun h => h e.2

/-! ## Plain writes -/

theorem writeSysctl_scratch (k : Fin 256) (v : Word) (s : State) :
    writeSysctl (0x100 + 4 * k.val) v s = { s with sys := { s.sys with scratch := s.sys.scratch.set k v } } := by
  have hk := k.isLt
  have hw : within (0x100 + 4 * k.val) 0x100 256 = true := by
    rw [within, decide_eq_true (by omega), decide_eq_true (by omega)]
    rfl
  have hi : (0x100 + 4 * k.val - 0x100) / 4 = k.val := by omega
  unfold writeSysctl
  split
  · omega
  · omega
  · rw [if_pos hw, hi, vector_setIfInBounds]

/-- A write of a request word of an idle or finished counter (R84). -/
theorem writeCounters_request {m : Master} {n : Fin 8} {k : Fin 64} {v : Word} {s : State}
    (h : s.counters[n].stage = .idle ∨ s.counters[n].stage = .done) :
    writeCounters m (0x400 * n.val + 4 * k.val) v s =
      cntMod n (fun c => { c with req := putWord c.req (4 * k.val) v }) s := by
  have hn := n.isLt
  have hk := k.isLt
  have hidx : Fin.ofNat 8 ((0x400 * n.val + 4 * k.val) / 0x400) = n := Fin.ext (by rw [Fin.val_ofNat]; omega)
  have hoff : (0x400 * n.val + 4 * k.val) % 0x400 = 4 * k.val := by omega
  unfold writeCounters
  rw [if_neg (by omega)]
  dsimp only
  rw [hidx, hoff]
  split
  · omega
  · omega
  · omega
  · rw [cntWord, if_pos (by omega), if_pos h]

/-- A write of an interrupt word of a bank without locked or held pins (R448). -/
theorem irqCfgWrite_free {b q : Fin 4} {v : Word} {s : State} (h1 : s.gpio[b].lockStat = 0)
    (h2 : unheld s b = 0xFFFF_FFFF) : irqCfgWrite b q v s = { s with gpio := s.gpio.set b { s.gpio[b] with
      irqCfg := s.gpio[b].irqCfg.set q ((v &&& 0x7777_7777) ||| (s.gpio[b].irqCfg[q] &&& 0x8888_8888)) } } := by
  have hz : s.gpio[b].lockStat ||| ~~~(unheld s b) = 0 := by rw [h1, h2]; decide
  have hm : (List.range 8).foldl (fun (m : Word) j =>
      if (0 : Word).getLsbD (8 * q.val + j) then m else m ||| ((7 : Word) <<< (4 * j))) 0 = 0x7777_7777 := by
    revert q
    decide
  unfold irqCfgWrite
  rw [hz]
  dsimp only
  rw [hm, show ~~~(0x7777_7777 : Word) = 0x8888_8888 by decide]
  rfl

/-! ## The idle step (log 1) -/

theorem rtcTick_sec (s : State) : (rtcTick s).1.sec = s.rtc.sec := by
  unfold rtcTick
  dsimp only
  split_ifs
  · rfl
  · rfl
  · rfl

theorem devtimeTick_stands {s : State} (h : clocksRun s = false) : devtimeTick s = s.devtime := if_pos h

theorem devtimeTick_runs {s : State} (h1 : clocksRun s = true) (h2 : s.clk.lock.getLsbD 1 = true) :
    devtimeTick s = s.devtime + 1 := by
  rw [devtimeTick, if_neg (by rw [h1]; decide), if_pos h2, ite_self]

theorem idleTick_frame (s : State) : ∃ d r a e p k, idleTick s = { s with
    devtime := d, rtc := r, ao32Acc := a, eth := e, tickPhase := k, pix := p
    rst := { s.rst with fresh := false }, docket := { s.docket with fresh := false } } ∧
    d = devtimeTick s ∧ r = (rtcTick s).1 := by
  unfold idleTick
  exact ⟨_, _, _, _, _, _, rfl, rfl, rfl⟩

theorem exec_gpioWord {m : Master} {b q : Fin 4} {v : Word} {s : State} (h : Granted m (0x22 + b.val) (0x20 + 4 * q.val) v s) :
    exec (.registerWrite m (regAddr (0x22 + b.val) (0x20 + 4 * q.val)) 2 v) s = .next (irqCfgWrite b q v s) := by
  have hb := b.isLt
  have hq := q.isLt
  have hw : bankWrite m (0x22 + b.val) (0x20 + 4 * q.val) v [] s = irqCfgWrite b q v s := by
    match b, q with
    | 0, 0 | 0, 1 | 0, 2 | 0, 3 | 1, 0 | 1, 1 | 1, 2 | 1, 3 | 2, 0 | 2, 1 | 2, 2 | 2, 3 | 3, 0 | 3, 1 | 3, 2 | 3, 3 => rfl
  rw [exec_registerWrite_granted h (by omega) (by omega) (by omega), hw]

/-- Settles O38: pair reads, the writes without a row of their own, and the idle step. -/
theorem registersHoldPairsAndTimePasses : Obligations.RegistersHoldPairsAndTimePasses := by
  refine ⟨fun m bank off s hb ho ha hp h => ?_, fun m k v s h => ?_, fun m n k v s h hs => ?_, fun m b q v s h h1 h2 => ?_,
    fun s h => ?_⟩
  · obtain ⟨hv, hc⟩ := h
    obtain ⟨l, e, hl⟩ := holdPair_one (m := m) (f := fun o => regVal bank o s) (s := s) hp
    have hx : addrRead m (regAddr bank off) s = holdPair m bank off (fun o => regVal bank o s) s := by
      rw [addrRead_regAddr hb ho ha (bankReach_of_readVerdict hv)]
      simp only [regRead, hv, readThrough, hc]
      exact readEffect_pair (by rw [hp]; exact List.cons_ne_nil _ _)
    refine ⟨_, congrArg Host.Outcome.next (hx.trans e), rfl, ?_⟩
    rw [heldCopy]
    dsimp only
    rw [List.find?_append, List.find?_eq_none.mpr fun x hx => by simpa using hl x hx, Option.none_or]
    simp
  · have hk := k.isLt
    rw [exec_registerWrite_granted h (by omega) (by omega) (by omega)]
    exact congrArg Host.Outcome.next (writeSysctl_scratch k v s)
  · have hn := n.isLt
    have hk := k.isLt
    have hx := exec_registerWrite_granted h (by omega) (by omega) (by omega)
    refine ⟨_, hx.trans (congrArg Host.Outcome.next (writeCounters_request hs)), ?_, fun j => ?_⟩
    · rw [cntMod, vmod]
      dsimp only
      rw [getElem_set_fin]
    · have hj := j.isLt
      have hiff : (4 * k.val ≤ j.val ∧ j.val < 4 * k.val + 4) ↔ j.val / 4 = k.val := by omega
      show (vmod s.counters n _)[n].req[j] = _
      simp only [vmod_same]
      rw [putWord_getElem]
      split
      · next hr =>
        rw [if_pos (hiff.mp hr), show j.val - 4 * k.val = j.val % 4 by omega]
      · next hr =>
        rw [if_neg fun e => hr (hiff.mpr e)]
  · rw [exec_gpioWord h, irqCfgWrite_free h1 h2]
  · obtain ⟨d, r, a, e, p, k, hi, hd, hr⟩ := idleTick_frame s
    have hx : step s = .next (idleTick s) := by rw [step, h]
    exact ⟨_, hx.trans (congrArg Host.Outcome.next hi), rfl, fun h1 h2 => hd.trans (devtimeTick_runs h1 h2),
      fun h1 => hd.trans (devtimeTick_stands h1), (congrArg Rtc.sec hr).trans (rtcTick_sec s)⟩

end Sys2Proof.Machine
end

section
/-! What the switching off of a target leaves (R177, R392, R435): the rules that the clauses on domains, rails and the timed
shut-down share. -/

namespace Sys2Proof.Machine

/-! ## Operations on memory and caches alone -/

/-- Nothing has changed but memory, the caches and the free choices taken. -/
def MemOnly (s t : State) : Prop := ∃ m c f, t = { s with mem := m, cluster := c, freeCtr := f }

theorem MemOnly.refl (s : State) : MemOnly s s := ⟨_, _, _, rfl⟩

theorem MemOnly.trans {s t u : State} (h : MemOnly s t) (k : MemOnly t u) : MemOnly s u := by
  obtain ⟨m, c, f, rfl⟩ := h
  obtain ⟨m', c', f', rfl⟩ := k
  exact ⟨m', c', f', rfl⟩

theorem MemOnly.ite {s a b : State} {p : Prop} [Decidable p] (h : MemOnly s a) (k : MemOnly s b) :
    MemOnly s (if p then a else b) := by
  split
  · exact h
  · exact k

theorem MemOnly.foldl {α : Type} {f : State → α → State} (hf : ∀ x a, MemOnly x (f x a)) (l : List α) (s : State) :
    MemOnly s (l.foldl f s) := by
  induction l generalizing s with
  | nil => exact .refl s
  | cons a l ih => exact (hf s a).trans (ih (f s a))

theorem memPut_only (s : State) (a : Nat) (bs : List Byte) : MemOnly s (memPut s a bs) := ⟨_, _, _, rfl⟩

theorem dropLine_only (line : Nat) (s : State) : MemOnly s (dropLine line s) := ⟨_, _, _, rfl⟩

theorem writeBack_only (line : Nat) (s : State) : MemOnly s (writeBack line s) := .ite (memPut_only ..) (.refl s)

theorem countWb_only (line : Nat) (s : State) : MemOnly s (countWb line s) := .ite ⟨_, _, _, rfl⟩ (.refl s)

theorem undefBytes_only (lo n : Nat) (s : State) : MemOnly s (undefBytes lo n s) := ⟨_, _, _, rfl⟩

theorem ioWriteLine_only (a : Nat) (bs : List Byte) (s : State) : MemOnly s (ioWriteLine a bs s) :=
  (writeBack_only ..).trans ((dropLine_only ..).trans (memPut_only ..))

theorem ioWriteFuel_only (k a : Nat) (bs : List Byte) (s : State) : MemOnly s (ioWriteFuel k a bs s) := by
  induction k generalizing a bs s with
  | zero => exact .refl s
  | succ k ih => exact .ite (.refl s) ((ioWriteLine_only ..).trans (ih ..))

theorem bwPut_only (app : Bool) (a : Nat) (bs : List Byte) (s : State) : MemOnly s (bwPut app a bs s) :=
  .ite (.ite (ioWriteFuel_only ..) (memPut_only ..)) (.refl s)

theorem bwSpill_only (app : Bool) (c : BwChan) (s : State) : MemOnly s (bwSpill app c s) :=
  .ite (.refl s) ((bwPut_only app _ _ s).trans ⟨_, _, _, rfl⟩)

theorem bwSpillAll_only (app : Bool) (b : Barrow) (s : State) : MemOnly s (bwSpillAll app b s) :=
  .foldl (fun x c => .ite (bwSpill_only app c x) (.refl x)) _ s

theorem drainBank_only (b : Fin 4) (s : State) : MemOnly s (drainBank b s) :=
  .foldl (fun _ _ => .trans (.ite (.refl _) ((countWb_only ..).trans (writeBack_only ..))) (dropLine_only ..)) _ s

theorem flashInterrupt_only (s : State) : MemOnly s (flashInterrupt s) :=
  .ite (.ite (undefBytes_only ..) (undefBytes_only ..)) (.refl s)

/-! ## What an open switch loses -/

/-- The docket, the sequencer, the supply and the hub's latches stand as they did. -/
structure Loses (s t : State) : Prop where
  docket : t.docket = s.docket
  ps : t.ps = s.ps
  supply : t.supply = s.supply
  hub : ∃ p, t.hub = { s.hub with present := p }

theorem Loses.of_eq {s t : State} (h1 : t.docket = s.docket) (h2 : t.ps = s.ps) (h3 : t.supply = s.supply)
    (h4 : t.hub = s.hub) : Loses s t := ⟨h1, h2, h3, s.hub.present, h4⟩

theorem Loses.refl (s : State) : Loses s s := .of_eq rfl rfl rfl rfl

theorem Loses.trans {s t u : State} (h : Loses s t) (k : Loses t u) : Loses s u := by
  obtain ⟨h1, h2, h3, p, h4⟩ := h
  obtain ⟨k1, k2, k3, q, k4⟩ := k
  exact ⟨k1.trans h1, k2.trans h2, k3.trans h3, q, by rw [k4, h4]⟩

theorem Loses.of_memOnly {s t : State} (h : MemOnly s t) : Loses s t := by
  obtain ⟨m, c, f, rfl⟩ := h
  exact .of_eq rfl rfl rfl rfl

theorem dumpFollow_loses (s : State) : Loses s (dumpFollow s) := by
  obtain ⟨d, e⟩ := dumpFollow_frame s
  rw [e]
  exact .of_eq rfl rfl rfl rfl

theorem resetBlockRegs_loses (b : Nat) (s : State) : Loses s (resetBlockRegs b s) := by
  have hm : ∀ k : Fin 6, Loses s (dumpFollow { s with motors := s.motors.set k Motor.reset }) := fun k =>
    .trans (t := { s with motors := s.motors.set k Motor.reset }) (.of_eq rfl rfl rfl rfl) (dumpFollow_loses _)
  unfold resetBlockRegs
  split
  case h_7 => exact hm 0
  case h_8 => exact hm 1
  case h_9 => exact hm 2
  case h_10 => exact hm 3
  case h_11 => exact hm 4
  case h_12 => exact hm 5
  case h_18 => exact ⟨rfl, rfl, rfl, _, rfl⟩
  all_goals exact .of_eq rfl rfl rfl rfl

theorem domainLost_loses (d : Nat) (s : State) : Loses s (domainLost d s) := by
  unfold domainLost
  split_ifs
  · exact .of_eq rfl rfl rfl rfl
  · exact .of_eq rfl rfl rfl rfl
  · exact .refl s
  · exact resetBlockRegs_loses _ s
  · exact .of_eq rfl rfl rfl rfl
  · split
    case h_4 => exact resetBlockRegs_loses _ s
    case h_8 => exact resetBlockRegs_loses _ s
    case h_9 => exact resetBlockRegs_loses _ s
    case h_14 =>
      exact .trans (t := { s with clk := { s.clk with lock := setBit s.clk.lock 3 false } }) (.of_eq rfl rfl rfl rfl)
        (resetBlockRegs_loses 5 _)
    case h_16 => exact resetBlockRegs_loses _ s
    case h_17 => exact resetBlockRegs_loses _ s
    case h_18 =>
      exact (resetBlockRegs_loses _ _).trans ((resetBlockRegs_loses _ _).trans (resetBlockRegs_loses _ _))
    case h_19 => exact resetBlockRegs_loses _ s
    case h_20 => exact resetBlockRegs_loses _ s
    case h_21 => exact resetBlockRegs_loses _ s
    case h_22 =>
      exact (Loses.of_memOnly (flashInterrupt_only s)).trans
        ((resetBlockRegs_loses _ _).trans ((resetBlockRegs_loses _ _).trans (resetBlockRegs_loses _ _)))
    all_goals exact .of_eq rfl rfl rfl rfl

theorem flushTarget_loses (t : Nat) (s : State) : Loses s (flushTarget t s) := by
  unfold flushTarget
  split_ifs
  · exact .refl s
  · exact .of_eq rfl rfl rfl rfl
  · exact .of_memOnly (drainBank_only _ s)
  · exact (Loses.of_memOnly ((bwSpillAll_only false _ s).trans (bwSpillAll_only true _ _))).trans (.of_eq rfl rfl rfl rfl)
  · exact .refl s

/-! ## Targets off -/

/-- Targets have gone off: no domain is on and no rail up that was not. -/
structure GoesOff (s t : State) : Prop where
  docket : t.docket = s.docket
  supply : t.supply = s.supply
  hub : ∃ p, t.hub = { s.hub with present := p }
  ps : ∃ on closing order rails, t.ps = { s.ps with on := on, closing := closing, order := order, rails := rails }
  on : ∀ d, t.ps.on.getLsbD d = true → s.ps.on.getLsbD d = true
  rails : ∀ r : Fin 12, s.ps.rails[r] = .off → t.ps.rails[r] = .off

theorem GoesOff.of_loses {s t : State} (h : Loses s t) : GoesOff s t := by
  obtain ⟨h1, h2, h3, h4⟩ := h
  exact ⟨h1, h3, h4, ⟨_, _, _, _, h2⟩, fun d hd => h2 ▸ hd, fun r hr => h2 ▸ hr⟩

theorem GoesOff.refl (s : State) : GoesOff s s := .of_loses (.refl s)

theorem GoesOff.trans {s t u : State} (h : GoesOff s t) (k : GoesOff t u) : GoesOff s u := by
  obtain ⟨h1, h2, ⟨p, h3⟩, ⟨a, b, c, d, h4⟩, h5, h6⟩ := h
  obtain ⟨k1, k2, ⟨q, k3⟩, ⟨a', b', c', d', k4⟩, k5, k6⟩ := k
  exact ⟨k1.trans h1, k2.trans h2, ⟨q, by rw [k3, h3]⟩, ⟨a', b', c', d', by rw [k4, h4]⟩, fun e he => h5 e (k5 e he),
    fun r hr => k6 r (h6 r hr)⟩

theorem GoesOff.foldl {α : Type} {f : State → α → State} (hf : ∀ x a, GoesOff x (f x a)) (l : List α) (s : State) :
    GoesOff s (l.foldl f s) := by
  induction l generalizing s with
  | nil => exact .refl s
  | cons a l ih => exact (hf s a).trans (ih (f s a))

/-- A bit that stands after a bit was cleared stood before. -/
theorem getLsbD_of_setBit_false {n : Nat} {w : BitVec n} {i j : Nat} (h : (setBit w i false).getLsbD j = true) :
    w.getLsbD j = true := by
  have h' : (w &&& ~~~BitVec.twoPow n i).getLsbD j = true := h
  rw [BitVec.getLsbD_and, Bool.and_eq_true] at h'
  exact h'.1

theorem getLsbD_setBit_false {n : Nat} (w : BitVec n) (i : Nat) : (setBit w i false).getLsbD i = false := by
  show (w &&& ~~~BitVec.twoPow n i).getLsbD i = false
  rw [BitVec.getLsbD_and, BitVec.getLsbD_not, BitVec.getLsbD_twoPow]
  simp

/-- The sequencer with domain t off. -/
def psDomOff (t : Nat) (p : PwrSeq) : PwrSeq :=
  { p with order := p.order.filter fun u => u ≠ t, on := setBit p.on (t - 1) false, closing := setBit p.closing (t - 1) false }

/-- The sequencer with rail t off. -/
def psRailOff (t : Nat) (p : PwrSeq) : PwrSeq :=
  { p with order := p.order.filter fun u => u ≠ t, rails := p.rails.setIfInBounds (t - 0x81) .off }

theorem psDomOff_goesOff (t : Nat) (s : State) : GoesOff s { s with ps := psDomOff t s.ps } :=
  ⟨rfl, rfl, ⟨_, rfl⟩, ⟨_, _, _, _, rfl⟩, fun _ h => getLsbD_of_setBit_false h, fun _ h => h⟩

/-- A rail that is off or switched off is off. -/
theorem getElem_setRail_off {rails : Vector RailState 12} {i : Nat} {r : Fin 12} (h : i = r.val ∨ rails[r] = .off) :
    (rails.setIfInBounds i .off)[r] = .off := by
  rw [Fin.getElem_fin, Vector.getElem_setIfInBounds]
  split
  · rfl
  · next hn => exact h.resolve_left hn

theorem psRailOff_goesOff (t : Nat) (s : State) : GoesOff s { s with ps := psRailOff t s.ps } :=
  ⟨rfl, rfl, ⟨_, rfl⟩, ⟨_, _, _, _, rfl⟩, fun _ h => h, fun _ h => getElem_setRail_off (.inr h)⟩

theorem dropTarget_domain {t : Nat} (h : t ≤ 50) (s : State) :
    Loses { s with ps := psDomOff t s.ps } (dropTarget t s) := by
  rw [dropTarget]
  dsimp only
  rw [if_pos h]
  split
  · exact domainLost_loses t _
  · exact .refl _

theorem dropTarget_rail {t : Nat} (h : ¬ t ≤ 50) (s : State) : dropTarget t s = { s with ps := psRailOff t s.ps } := by
  rw [dropTarget]
  exact if_neg h

theorem dropTarget_goesOff (t : Nat) (s : State) : GoesOff s (dropTarget t s) := by
  by_cases h : t ≤ 50
  · exact (psDomOff_goesOff t s).trans (.of_loses (dropTarget_domain h s))
  · rw [dropTarget_rail h]
    exact psRailOff_goesOff t s

/-- Target t is off: its domain's switch is open, or its rail's SEQEN low. -/
def TargetOff (t : Nat) (s : State) : Prop :=
  (t ≤ 50 → s.ps.on.getLsbD (t - 1) = false) ∧ ∀ r : Fin 12, t = 0x81 + r.val → s.ps.rails[r] = .off

theorem dropTarget_off (t : Nat) (s : State) : TargetOff t (dropTarget t s) := by
  by_cases h : t ≤ 50
  · refine ⟨fun _ => ?_, fun r hr => by omega⟩
    rw [(dropTarget_domain h s).ps]
    exact getLsbD_setBit_false ..
  · refine ⟨fun h' => absurd h' h, fun r hr => ?_⟩
    rw [dropTarget_rail h]
    exact getElem_setRail_off (.inl (by omega))

/-- What is off stays off while targets go off. -/
theorem GoesOff.keepsOff {s t : State} (h : GoesOff s t) {d : Nat} (hd : TargetOff d s) : TargetOff d t := by
  obtain ⟨-, -, -, -, h5, h6⟩ := h
  obtain ⟨h1, h2⟩ := hd
  refine ⟨fun hl => ?_, fun r hr => h6 r (h2 r hr)⟩
  rw [Bool.eq_false_iff]
  exact fun e => Bool.false_ne_true ((h1 hl).symm.trans (h5 _ e))

theorem offStep_goesOff (s : State) (u : Nat) : GoesOff s (dropTarget u (flushTarget u s)) :=
  (GoesOff.of_loses (flushTarget_loses u s)).trans (dropTarget_goesOff u _)

/-- Each target of a list that is switched off in turn is off at the end. -/
theorem foldl_off {f : State → Nat → State} (hf : ∀ x u, GoesOff x (f x u)) (ho : ∀ x u, TargetOff u (f x u))
    {l : List Nat} {t : Nat} (h : t ∈ l) (s : State) : TargetOff t (l.foldl f s) := by
  induction l generalizing s with
  | nil => exact absurd h List.not_mem_nil
  | cons u l ih =>
    rw [List.foldl_cons]
    rcases List.mem_cons.mp h with rfl | h'
    · exact (GoesOff.foldl hf l _).keepsOff (ho s t)
    · exact ih h' _

theorem mem_dependants {s : State} {n t : Nat} {ts : List Nat} (h : t ∈ ts) : t ∈ dependants s n ts := by
  induction n generalizing ts with
  | zero => exact h
  | succ n ih => exact ih (List.mem_append_left _ h)

theorem offTarget_goesOff (t : Nat) (s : State) : GoesOff s (offTarget t s) := .foldl offStep_goesOff _ s

theorem offTarget_off (t : Nat) (s : State) : TargetOff t (offTarget t s) := by
  refine foldl_off offStep_goesOff (fun x u => dropTarget_off u _) ?_ s
  have hm : t ∈ dependants s 12 [t] := mem_dependants (List.mem_singleton.mpr rfl)
  by_cases ho : s.ps.order.contains t = true
  · exact List.mem_append_left _ (List.mem_reverse.mpr (List.mem_filter.mpr
      ⟨List.contains_iff_mem.mp ho, List.contains_iff_mem.mpr hm⟩))
  · exact List.mem_append_right _ (List.mem_filter.mpr ⟨hm, by rw [Bool.not_eq_true'] ; exact Bool.eq_false_iff.mpr ho⟩)

end Sys2Proof.Machine
end

section
/-! Domains and rails follow their power-good inputs and requests (R175-R183, R199-R201). -/

namespace Sys2Proof.Machine

/-! ## Failures -/

/-- A raise that takes no action at once takes none where only conditions and targets have changed. -/
theorem Mild.same {f : Byte} {s t : State} (h : Mild f s) (hh : ∃ p, t.hub = { s.hub with present := p })
    (hd : t.docket = s.docket) : Mild f t := by
  obtain ⟨p, hp⟩ := hh
  obtain ⟨h1, h2⟩ := h
  refine ⟨?_, fun hs => ?_⟩
  · rw [NoAction, hp]
    exact h1
  · rw [pageInFlight, hd]
    exact h2 hs

/-- Without a page in flight it does not matter whether a failure serves the engine path (R160). -/
theorem raiseWith_noPage {f : Byte} {s : State} (h : pageInFlight s = false) (eng : Bool) :
    raiseWith eng f s = raiseFault f s := by
  have hs : spoilByFault f (raiseBits f s) = raiseBits f s := if_neg (by
    rw [show pageInFlight (raiseBits f s) = pageInFlight s from rfl, h]
    exact Bool.false_ne_true)
  unfold raiseFault raiseWith
  simp only [hs, ite_self]

theorem raiseWith_mild {f : Byte} {s : State} (hf : (faultRow f.toNat 0).isSome = true)
    (hs : spoilsAtOnce f true = true) (h : Mild f s) (eng : Bool) : RaisedOnly f s (raiseWith eng f s) := by
  rw [raiseWith_noPage (h.2 hs)]
  exact raiseFault_mild hf h

theorem RaisedOnly.ps {f : Byte} {s t : State} (h : RaisedOnly f s t) : t.ps = s.ps := by
  obtain ⟨-, -, -, -, -, e⟩ := h
  rw [e]

theorem RaisedOnly.docket {f : Byte} {s t : State} (h : RaisedOnly f s t) : t.docket = s.docket := by
  obtain ⟨-, -, -, -, -, e⟩ := h
  rw [e]

/-- A domain that fails is off and marked, and DOMAIN_FAIL stands. -/
theorem domFail_fails {d : Nat} {s : State} (hd : d ≤ 50) (hm : Mild 0x03 s) :
    Stands 0x03 (domFail d s) ∧ (domFail d s).ps.on.getLsbD (d - 1) = false ∧
      (∀ e, (domFail d s).ps.on.getLsbD e = true → s.ps.on.getLsbD e = true) ∧
      (domFail d s).ps.fail = setBit s.ps.fail (d - 1) true ∧ (domFail d s).ps.failedIn = true ∧
      (domFail d s).docket = s.docket := by
  obtain ⟨hdk, -, hh, ⟨a, b, c, e, hps⟩, hon, -⟩ := offTarget_goesOff d s
  obtain ⟨hoff, -⟩ := offTarget_off d s
  unfold domFail
  dsimp only
  generalize offTarget d s = o at *
  have hr := raiseWith_mild (s := { o with ps := { o.ps with fail := setBit o.ps.fail (d - 1) true, failedIn := true } })
    (by decide) (by decide) (hm.same hh hdk) (engineDomain d)
  rw [hr.ps, hr.docket]
  refine ⟨hr.stands, hoff hd, hon, ?_, rfl, hdk⟩
  rw [hps]

/-- A rail that fails is marked, and EXT_RAIL_FAIL stands. -/
theorem railFails_fails {r : Fin 12} {s : State} (hm : Mild 0x04 s) :
    Stands 0x04 (railFails r s) ∧ (railFails r s).ps.rails[r] = .failed ∧
      (∀ e, (railFails r s).ps.on.getLsbD e = true → s.ps.on.getLsbD e = true) ∧
      (railFails r s).ps.railFail = setBit s.ps.railFail r.val true ∧ (railFails r s).docket = s.docket := by
  obtain ⟨hdk, -, hh, ⟨a, b, c, e, hps⟩, hon, -⟩ := offTarget_goesOff (0x81 + r.val) s
  unfold railFails
  dsimp only
  generalize offTarget (0x81 + r.val) s = o at *
  have hr := raiseWith_mild (s := { o with ps := { o.ps with
      rails := o.ps.rails.set r .failed, railFail := setBit o.ps.railFail r.val true, failedIn := true } })
    (by decide) (by decide) (hm.same hh hdk) (railEng s r)
  rw [show setRail r .failed o = { o with ps := { o.ps with rails := o.ps.rails.set r .failed } } from rfl]
  rw [hr.ps, hr.docket]
  refine ⟨hr.stands, getElem_set_fin _ _ _, hon, ?_, hdk⟩
  rw [hps]

/-! ## A target that becomes good -/

/-- A rail that is good stays good while others rise. -/
theorem railsUp_good {s : State} {r : Fin 12} (h : s.ps.rails[r] = .good) : (railsUp s).ps.rails[r] = .good := by
  have hn : railRises s r = false := by
    rw [railRises, h]
    simp
  show (Vector.ofFn _)[r] = _
  rw [Fin.getElem_fin, Vector.getElem_ofFn]
  dsimp only
  rw [if_neg]
  · exact h
  · rw [hn]
    exact Bool.false_ne_true

/-- What follows when a target becomes good: rails may rise, the sequencer or the loader go on. -/
theorem becameGood_frame (s : State) : ∃ rails ph rp rt st ls, becameGood s = { s with
      ps := { s.ps with rails := rails, phase := ph, runPhase := rp, retry := rt }
      rst := { s.rst with step := st }, loader := { s.loader with st := ls } } ∧
    ∀ r : Fin 12, s.ps.rails[r] = .good → rails[r] = .good := by
  have hup : ∀ x : State, ∃ rails, railsUp x = { x with ps := { x.ps with rails := rails } } ∧
      ∀ r : Fin 12, x.ps.rails[r] = .good → rails[r] = .good := fun x => ⟨_, rfl, fun r hr => railsUp_good hr⟩
  obtain ⟨r1, e1, h1⟩ := hup s
  unfold becameGood startRun
  dsimp only
  rw [e1]
  split_ifs
  · obtain ⟨r2, e2, h2⟩ := hup { s with
      ps := { s.ps with rails := r1, phase := .runUp, runPhase := true }, rst := { s.rst with step := .rom } }
    rw [e2]
    exact ⟨_, _, _, _, _, _, rfl, fun r hr => h2 r (h1 r hr)⟩
  · exact ⟨_, _, _, _, _, _, rfl, h1⟩
  · exact ⟨_, _, _, _, _, _, rfl, h1⟩
  · exact ⟨_, _, _, _, _, _, rfl, h1⟩
  · exact ⟨_, _, _, _, _, _, rfl, h1⟩

/-- A domain's power-good (R176). -/
theorem domGood_frame {d : Nat} {s : State} (h : s.ps.closing.getLsbD (d - 1) = true) :
    ∃ rails ph rp rt st ls, domGood d s = { s with
      ps := { s.ps with
        on := setBit s.ps.on (d - 1) true, closing := setBit s.ps.closing (d - 1) false, order := s.ps.order ++ [d]
        rails := rails, phase := ph, runPhase := rp, retry := rt }
      rst := { s.rst with step := st }, loader := { s.loader with st := ls } } := by
  rw [domGood, if_pos h]
  obtain ⟨rails, ph, rp, rt, st, ls, e, -⟩ := becameGood_frame { s with ps := { s.ps with
    on := setBit s.ps.on (d - 1) true, closing := setBit s.ps.closing (d - 1) false, order := s.ps.order ++ [d] } }
  exact ⟨rails, ph, rp, rt, st, ls, e⟩

/-- A domain becomes good; the Steelyard's table may follow (R338). -/
theorem domainGood_frame {d : Nat} {s : State} (h : s.ps.closing.getLsbD (d - 1) = true) :
    ∃ rails ph rp rt st ls y p, domainGood d s = { s with
      ps := { s.ps with
        on := setBit s.ps.on (d - 1) true, closing := setBit s.ps.closing (d - 1) false, order := s.ps.order ++ [d]
        rails := rails, phase := ph, runPhase := rp, retry := rt }
      rst := { s.rst with step := st }, loader := { s.loader with st := ls }
      sy := y, hub := { s.hub with present := p } } := by
  obtain ⟨rails, ph, rp, rt, st, ls, e⟩ := domGood_frame h
  unfold domainGood
  rw [e]
  split
  · obtain ⟨y, p, e'⟩ := thermalTable_only { s with
      ps := { s.ps with
        on := setBit s.ps.on (d - 1) true, closing := setBit s.ps.closing (d - 1) false, order := s.ps.order ++ [d]
        rails := rails, phase := ph, runPhase := rp, retry := rt }
      rst := { s.rst with step := st }, loader := { s.loader with st := ls } }
    exact ⟨_, _, _, _, _, _, _, _, e'⟩
  · exact ⟨_, _, _, _, _, _, _, _, rfl⟩

/-! ## Rails -/

theorem seqpgUp_eq (r : Fin 12) (s : State) : seqpgUp r s = { s with ps := { s.ps with
    seqpg := setBit s.ps.seqpg r.val true
    rails := if s.ps.rails[r] = .ramping then s.ps.rails.set r .settling else s.ps.rails } } := by
  unfold seqpgUp
  dsimp only
  rw [show (setSeqpg r true s).ps.rails = s.ps.rails from rfl]
  split
  · rfl
  · rfl

/-- A rail's settle time ends (R180). -/
theorem railUp_settles {r : Fin 12} {s : State} (h : s.ps.rails[r] = .settling) :
    ∃ rails ph rp rt st ls, railUp r s = { s with
      ps := { s.ps with rails := rails, phase := ph, runPhase := rp, retry := rt, order := s.ps.order ++ [0x81 + r.val] }
      rst := { s.rst with step := st }, loader := { s.loader with st := ls } } ∧ rails[r] = .good := by
  obtain ⟨rails, ph, rp, rt, st, ls, e, hg⟩ := becameGood_frame { s with ps := { s.ps with
    rails := s.ps.rails.set r .good, order := s.ps.order ++ [0x81 + r.val] } }
  exact ⟨rails, ph, rp, rt, st, ls, (if_pos h).trans e, hg r (getElem_set_fin _ _ _)⟩

theorem seqpgDown_good {r : Fin 12} {s : State} (h : s.ps.rails[r] = .good) (hq : quiet s = true) :
    seqpgDown r s = railFails r (setSeqpg r false s) := by
  have hr : (setSeqpg r false s).ps.rails[r] = .good := h
  unfold seqpgDown
  simp only [hr]
  exact if_pos hq

theorem seqpgDown_notGood {r : Fin 12} {s : State} (h : s.ps.rails[r] ≠ .good) :
    seqpgDown r s = { s with ps := { s.ps with
      seqpg := setBit s.ps.seqpg r.val false
      rails := if s.ps.rails[r] = .settling then s.ps.rails.set r .ramping else s.ps.rails } } := by
  unfold seqpgDown
  dsimp only
  rw [show (setSeqpg r false s).ps.rails = s.ps.rails from rfl]
  split
  · next e => exact absurd e h
  · next e =>
    rw [if_pos e]
    rfl
  · next e =>
    rw [if_neg e]
    rfl

/-- A write of PS_EXT_FAIL lets rails rise again; those that are good stay so (R199). -/
theorem psFailClr_ext (v : Word) (s : State) : ∃ rails, psFailClr .ext v s = { s with ps := { s.ps with
      railFail := s.ps.railFail &&& ~~~(v.setWidth 12), rails := rails } } ∧
    ∀ r : Fin 12, s.ps.rails[r] = .good → rails[r] = .good := by
  refine ⟨_, rfl, fun r hr => railsUp_good ?_⟩
  rw [Fin.getElem_fin, Vector.getElem_ofFn]
  dsimp only
  rw [if_neg]
  · exact hr
  · rw [hr]
    exact fun e => absurd e.2 (by decide)

/-! ## Registers of the sequencer -/

theorem psReq_lo (v : Word) (s : State) : psReq false v s = { s with ps := { s.ps with
    req := ((s.ps.req.setWidth 64 >>> 32).setWidth 32 ++ v).setWidth 50 ||| 0x0800_0000_200F } } := rfl

theorem psReq_hi (v : Word) (s : State) : psReq true v s = { s with ps := { s.ps with
    req := (v ++ s.ps.req.setWidth 32).setWidth 50 ||| 0x0800_0000_200F } } := by
  have h : (s.ps.req.setWidth 64).setWidth 32 = s.ps.req.setWidth 32 := BitVec.setWidth_setWidth_of_le _ (by decide)
  show { s with ps := { s.ps with req := (v ++ (s.ps.req.setWidth 64).setWidth 32).setWidth 50 ||| reqFixed } } = _
  rw [h]
  rfl

/-! ## O21 -/

/-- Settles O21: domains, rails, and the sequencer's registers. -/
theorem domainsAndRailsFollowPowerGood : Obligations.DomainsAndRailsFollowPowerGood := by
  refine ⟨⟨fun s d h => ?_, fun s d h => ?_, fun s d h hq hm => ?_, fun s d h1 h2 hq hm => ?_, fun s d h1 h2 h3 h4 => ?_⟩,
    fun s r => ?_, fun s r h => ?_, fun s r h hq hm => ?_, fun s r h hq hm => ?_, fun s r h => ?_, fun m v s h => ?_,
    fun m v s h => ?_, fun m v s h => ?_, fun m v s h => ?_, fun m v s h => ?_⟩
  · exact congrArg Host.Outcome.next (if_pos h)
  · obtain ⟨rails, ph, rp, rt, st, ls, y, p, e⟩ := domainGood_frame (d := d.val + 1) h
    exact ⟨_, congrArg Host.Outcome.next e, rfl, rfl, rfl, rfl⟩
  · obtain ⟨h1, h2, -, h4, h5, h6⟩ := domFail_fails (d := d.val + 1) (by omega) hm
    exact ⟨_, congrArg Host.Outcome.next (if_pos ⟨h, hq⟩), h1, h2, h4, h5, h6⟩
  · obtain ⟨h3, h4, h5, h6, h7, h8⟩ := domFail_fails (d := d.val + 1) (by omega) hm
    exact ⟨_, congrArg Host.Outcome.next (if_pos ⟨by omega, h2, hq⟩), h3, h4, h5, h6, h7, h8⟩
  · obtain ⟨hdk, -, ⟨p, hh⟩, ⟨a, b, c, e, hps⟩, hon, -⟩ := offTarget_goesOff (d.val + 1) s
    obtain ⟨hoff, -⟩ := offTarget_off (d.val + 1) s
    refine ⟨_, congrArg Host.Outcome.next (if_pos ⟨by omega, h2, h3, h4⟩), hoff (by omega), hon, ?_, ?_, hdk⟩
    · rw [hps]
    · rw [hh]
  · exact congrArg Host.Outcome.next (seqpgUp_eq r s)
  · obtain ⟨rails, ph, rp, rt, st, ls, e, hg⟩ := railUp_settles h
    exact ⟨_, congrArg Host.Outcome.next e, rfl, hg, rfl, rfl⟩
  · obtain ⟨h1, h2, -, h4, h5⟩ := railFails_fails (r := r) hm
    exact ⟨_, congrArg Host.Outcome.next (if_pos ⟨h, hq⟩), h1, h2, h4, h5⟩
  · obtain ⟨h1, h2, h3, h4, h5⟩ := railFails_fails (r := r) (s := setSeqpg r false s) (hm.same ⟨_, rfl⟩ rfl)
    exact ⟨_, congrArg Host.Outcome.next (seqpgDown_good h hq), h1, h2, h4, h3, h5⟩
  · exact congrArg Host.Outcome.next (seqpgDown_notGood h)
  · exact (exec_of_granted (i := .psReqWrite m false v) rfl h (by decide)).trans (congrArg Host.Outcome.next (psReq_lo v s))
  · exact (exec_of_granted (i := .psReqWrite m true v) rfl h (by decide)).trans (congrArg Host.Outcome.next (psReq_hi v s))
  · exact exec_of_granted (i := .psFailClear m .lo v) rfl h (by decide)
  · exact exec_of_granted (i := .psFailClear m .hi v) rfl h (by decide)
  · obtain ⟨rails, e, hg⟩ := psFailClr_ext v s
    exact ⟨_, (exec_of_granted (i := .psFailClear m .ext v) rfl h (by decide)).trans (congrArg Host.Outcome.next e), rfl, rfl,
      rfl, hg⟩

end Sys2Proof.Machine
end

section
/-! Power-up, brown-out, PFW, the timed shut-down and the total shut-off (R171, R186-R194, R198, R201, R202). -/

namespace Sys2Proof.Machine

/-! ## The boot phase -/

/-- The boot phase starts with the sequencer and the release's step alone. -/
theorem bootStart_frame {s : State} (h : s.rst.step ≠ .loaderFail) : ∃ rails, bootStart s = { s with
    ps := { s.ps with phase := .boot, offDelay := false, offCause := .none, pfwSeen := false, failedIn := false
                      runPhase := false, nPFW := false, docketEnds := false, rails := rails }
    rst := { s.rst with step := .boot } } := by
  unfold bootStart railsUp
  rw [if_neg h]
  exact ⟨_, rfl⟩

theorem Mem.read_scramble_other {m : Mem} {lo hi n a : Nat} (h : a < lo ∨ hi ≤ a) :
    (m.scramble lo hi n).read a = m.read a := by
  induction m with
  | nil => rfl
  | cons c m ih =>
    obtain ⟨k, b⟩ := c
    rw [Mem.scramble] at ih ⊢
    rw [List.filterMap_cons, Mem.read]
    by_cases hk : lo ≤ k ∧ k < hi
    · have hne : k ≠ a := by omega
      rw [if_pos hk, if_neg hne]
      split
      · exact ih
      · next d hd =>
        split at hd
        · cases hd
        · obtain rfl := Option.some.inj hd
          rw [Mem.read, if_neg hne]
          exact ih
    · rw [if_neg hk]
      dsimp only
      rw [Mem.read]
      split
      · rfl
      · exact ih

/-- Nothing is torn where no write is under way. -/
theorem tearWrites_none {s : State} (h1 : s.xspi.busy = false) (h2 : s.till.op = .none) (h3 : s.loader.st = .idle)
    (h4 : s.sinov.after = none) : tearWrites s = s := by
  have e1 : flashInterrupt s = s := if_neg (by rw [h1]; exact Bool.false_ne_true)
  have e2 : tearCommit s = s := by
    unfold tearCommit
    rw [h2]
  have e3 : tearRepair s = s := by
    unfold tearRepair
    rw [h3]
  have e4 : tearOption s = s := by
    unfold tearOption
    rw [h4]
  rw [tearWrites, e1, e2, e3, e4]

/-- What the AO domain's POWER_ON reset keeps and sets. -/
structure PoweredOn (s t : State) : Prop where
  supply : t.supply = s.supply
  step : t.rst.step ≠ .loaderFail
  sec : t.rtc.sec = s.rtc.sec
  lost : t.rtc.lost = s.rtc.lost
  counters : t.counters = State.reset.counters
  motors : t.motors = State.reset.motors
  hub : t.hub = State.reset.hub
  sys : t.sys = State.reset.sys
  envg : t.envg = State.reset.envg
  mem : s.xspi.busy = false → s.till.op = .none → s.loader.st = .idle → s.sinov.after = none →
    ∀ a, 0x1_0000_0000 ≤ a → t.mem.read a = s.mem.read a

theorem powerOnReset_done (s : State) : PoweredOn s (powerOnReset s) := by
  have hm : s.xspi.busy = false → s.till.op = .none → s.loader.st = .idle → s.sinov.after = none →
      (tearWrites s).mem = s.mem := fun h1 h2 h3 h4 => congrArg State.mem (tearWrites_none h1 h2 h3 h4)
  obtain ⟨m, k, e⟩ := tearWrites_frame s
  unfold powerOnReset
  rw [e] at hm ⊢
  refine ⟨rfl, show RstCtl.reset.step ≠ .loaderFail by decide, rfl, rfl, rfl, rfl, rfl, rfl, rfl, fun h1 h2 h3 h4 a ha => ?_⟩
  dsimp only at hm ⊢
  rw [hm h1 h2 h3 h4, Mem.read_scramble_other (by omega), Mem.read_scramble_other (by omega),
    Mem.read_clearRange_other (by omega)]

/-! ## PFW (R186, R187, R192) -/

theorem gatesOff_legs (m : Motor) (x : Fin 3) : (gatesOff m).legs[x].hi = false ∧ (gatesOff m).legs[x].lo = false := by
  have h : (gatesOff m).legs[x] = legOff (deadTime m) m.legs[x] := Vector.getElem_map ..
  rw [h]
  exact ⟨rfl, rfl⟩

theorem coast_legs (m : Motor) (x : Fin 3) : (coast m).legs[x].hi = false ∧ (coast m).legs[x].lo = false := by
  unfold coast
  split
  · exact gatesOff_legs m x
  · exact gatesOff_legs m x
  · exact gatesOff_legs _ x

/-- Every output is cut at once. -/
theorem cutOutputs_cut (s : State) : OutputsCut (cutOutputs s) := by
  refine ⟨fun b => congrArg LaserBeam.lit (Vector.getElem_map ..), fun h => congrArg Heater.on (Vector.getElem_map ..), rfl,
    fun k x => ?_⟩
  have hk : (cutOutputs s).motors[k] = coast s.motors[k] := Vector.getElem_map ..
  rw [hk]
  exact coast_legs _ x

/-- Where no action begins at once, a raise is its bits, its timer, and the spoil of its column. -/
theorem raiseFault_noAction {f : Byte} {s : State} (hrow : (faultRow f.toNat 0).isSome = true)
    (hs : spoilsAtOnce f true = true) (hn : NoAction f s) :
    raiseFault f s = raiseTimer f (raiseClass f s) (spoilByFault f (raiseBits f s)) := by
  obtain ⟨row, hr⟩ := Option.isSome_iff_exists.mp hrow
  unfold raiseFault raiseWith
  simp only [hr, raiseAction_noAction hn, hs, if_true]

/-- A grace timer's start changes the hub, and may end an admission. -/
theorem raiseTimer_frame (f : Byte) (c : Option (BitVec 2)) (s : State) : ∃ hb adm wait rsv, raiseTimer f c s = { s with
    hub := hb, sinov := { s.sinov with admission := adm, admitWait := wait }, till := { s.till with rsv := rsv } } := by
  unfold raiseTimer
  split
  · exact ⟨_, _, _, _, rfl⟩
  · split
    · exact ⟨_, _, _, _, rfl⟩
    · obtain ⟨adm, wait, rsv, pres, e⟩ := lapseAdmission_eq { s with
        hub := { s.hub with timing := setBit s.hub.timing f.toNat true } }
      exact ⟨_, adm, wait, rsv, e⟩
    · obtain ⟨adm, wait, rsv, pres, e⟩ := lapseAdmission_eq s
      exact ⟨_, adm, wait, rsv, e⟩

/-- A record that goes first changes what Sinov wants. -/
theorem wantFirst_frame (w : Want) (s : State) :
    ∃ l, wantFirst w s = { s with sinov := { s.sinov with wants := l } } ∧ (s.sinov.wants = [] → l = [w]) := by
  unfold wantFirst
  split
  · next h t e =>
    split
    · exact ⟨_, rfl, fun e' => by rw [e'] at e; cases e⟩
    · exact ⟨_, rfl, fun e' => by rw [e'] at e; cases e⟩
  · exact ⟨_, rfl, fun _ => rfl⟩

/-- What PFW does at once, but for the spoil of a page and the records. -/
structure PfwDone (s t : State) : Prop where
  stands : Stands 0x00 t
  cut : OutputsCut t
  nPFW : t.ps.nPFW = true
  pfwSeen : t.ps.pfwSeen = true
  pfwTime : t.ps.pfwTime = s.devtime
  table : t.ps.table = s.ps.shdn
  hdie : t.hdie.pfwCut = true
  clk : t.clk.fb.getLsbD 0 = true
  sleepReq : t.sinov.sleepReq = none
  counters : t.counters = s.counters
  mem : t.mem = s.mem

theorem setBit_true_getLsbD {n : Nat} (w : BitVec n) {i : Nat} (h : i < n) : (setBit w i true).getLsbD i = true := by
  rw [getLsbD_setBit w i true h, if_pos rfl]

/-- The cut itself, and a raise of PWR_FAIL after it that takes no action. -/
theorem pfwCut_raised {s x : State} (h : RaisedOnly 0x00 (pfwCut s) x) : PfwDone s x := by
  have hc : OutputsCut (pfwCut s) := cutOutputs_cut s
  have hs := h.stands
  obtain ⟨-, -, -, -, -, e⟩ := h
  rw [e]
  rw [e] at hs
  exact ⟨hs, hc, rfl, rfl, rfl, rfl, rfl, setBit_true_getLsbD _ (by decide), rfl, rfl, rfl⟩

theorem PfwDone.wants {s t : State} (h : PfwDone s t) (l : List Want) :
    PfwDone s { t with sinov := { t.sinov with wants := l } } := by
  obtain ⟨h1, h2, h3, h4, h5, h6, h7, h8, h9, h10, h11⟩ := h
  exact ⟨h1, h2, h3, h4, h5, h6, h7, h8, h9, h10, h11⟩

/-- PFW without a page: a POWER_FAIL record is due where Sinov runs and a record is free. -/
theorem pfwOp_noPage {s : State} (h1 : s.ps.pfwSeen = false) (h2 : s.ps.phase ≠ .dormant) (hm : Mild 0x00 s)
    (hp : pageInFlight s = false) (h3 : s.ps.offCause = .none) (h4 : shutOff s = false) :
    PfwDone s (pfwOp s) ∧ (pfwOp s).ps.phase = .pfw ∧ (pfwOp s).ps.offCause = .pfw ∧
      (sinovRuns s = true → s.sinov.wants = [] → 1 ≤ s.till.free.toNat → (pfwOp s).sinov.wants.map (·.typ) = [0x0011]) ∧
      (s.till.free = 0 → (pfwOp s).sinov.wants = s.sinov.wants) := by
  have hr : RaisedOnly 0x00 (pfwCut s) (raiseFault 0x00 (pfwCut s)) :=
    raiseFault_mild (by decide) (hm.same ⟨_, rfl⟩ rfl)
  have hd := pfwCut_raised hr
  have hesc : ¬ (s.ps.offCause = .escOff ∨ shutOff s = true) := by
    rw [h3, h4]
    decide
  have hph : (raiseFault 0x00 (pfwCut s)).ps.phase = .pfw := by
    rw [hr.ps]
    exact if_neg hesc
  have hoc : (raiseFault 0x00 (pfwCut s)).ps.offCause = .pfw := by
    rw [hr.ps]
    exact if_neg hesc
  have hde : (raiseFault 0x00 (pfwCut s)).ps.docketEnds = false := by
    rw [hr.ps]
    show (s.ps.docketEnds && decide (s.ps.offCause = .escOff)) = false
    rw [h3]
    exact Bool.and_false _
  obtain ⟨-, -, -, -, -, e⟩ := hr
  have hrun : sinovRuns (raiseFault 0x00 (pfwCut s)) = sinovRuns s := by
    rw [e]
    rfl
  have hfree : (raiseFault 0x00 (pfwCut s)).till.free = s.till.free := by
    rw [e]
    rfl
  have hwants : (raiseFault 0x00 (pfwCut s)).sinov.wants = s.sinov.wants := by
    rw [e]
    rfl
  unfold pfwOp
  rw [h1, if_neg Bool.false_ne_true]
  dsimp only
  rw [if_neg h2, hp, if_neg Bool.false_ne_true, hrun, hfree, hde]
  clear e
  generalize raiseFault 0x00 (pfwCut s) = x at *
  split
  · next hc =>
    obtain ⟨hc1, hc2, -⟩ := hc
    obtain ⟨l, e, hl⟩ := wantFirst_frame (powerFailWant x) x
    rw [e]
    refine ⟨hd.wants l, hph, hoc, fun _ hw _ => ?_, fun h0 => ?_⟩
    · dsimp only
      rw [hl (hwants.trans hw)]
      rfl
    · rw [h0] at hc2
      exact absurd hc2 (by decide)
  · next hc =>
    exact ⟨hd, hph, hoc, fun hr' _ hf => absurd ⟨hr', hf, rfl⟩ hc, fun _ => hwants⟩

/-- The raise of PWR_FAIL spoils an ARMED page with the outcome of a power failure (R186). -/
theorem raisePower_spoils {c : State} (ha : c.docket.st = .armed) (hn : NoAction 0x00 c) :
    ∃ d bm vd hb adm wait rsv, raiseFault 0x00 c = { c with
      docket := d, beam := bm, video := vd, hub := hb
      sinov := { c.sinov with admission := adm, admitWait := wait }, till := { c.till with rsv := rsv } } ∧
      (d.st = .spoiled ∧ d.outcome = 3 ∧ d.written = c.docket.written ∧ d.planned = c.docket.planned) ∧
      ∀ b : Fin 4, bm.ld[b].lit = false := by
  have ha' : (raiseBits 0x00 c).docket.st = .armed := ha
  have hp : spoilByFault 0x00 (raiseBits 0x00 c) = latchSpoil .power (some 0x00) 0 (raiseBits 0x00 c) := by
    rw [spoilByFault, if_pos (pageInFlight_armed ha')]
    rfl
  obtain ⟨hb, adm, wait, rsv, e⟩ := raiseTimer_frame 0x00 (raiseClass 0x00 c) (spoilByFault 0x00 (raiseBits 0x00 c))
  rw [raiseFault_noAction (by decide) (by decide) hn, e, hp, latchSpoil_armed ha']
  exact ⟨_, _, _, hb, adm, wait, rsv, rfl, ⟨rfl, rfl, rfl, rfl⟩, fun b => congrArg LaserBeam.lit (Vector.getElem_map ..)⟩

theorem pfwRaise_page {s : State} (ha : s.docket.st = .armed) (hn : NoAction 0x00 s) :
    PfwDone s (raiseFault 0x00 (pfwCut s)) ∧
      ((raiseFault 0x00 (pfwCut s)).docket.st = .spoiled ∧ (raiseFault 0x00 (pfwCut s)).docket.outcome = 3 ∧
        (raiseFault 0x00 (pfwCut s)).docket.written = s.docket.written ∧
        (raiseFault 0x00 (pfwCut s)).docket.planned = s.docket.planned) ∧
      sinovRuns (raiseFault 0x00 (pfwCut s)) = sinovRuns s ∧
      (raiseFault 0x00 (pfwCut s)).sinov.wants = s.sinov.wants := by
  have hs := raiseFault_stands (f := 0x00) (by decide) (pfwCut s)
  obtain ⟨-, h2, h3, h4⟩ : OutputsCut (pfwCut s) := cutOutputs_cut s
  obtain ⟨d, bm, vd, hb, adm, wait, rsv, e, hd, hl⟩ := raisePower_spoils (c := pfwCut s) ha hn
  rw [e] at hs ⊢
  exact ⟨⟨hs, ⟨hl, h2, h3, h4⟩, rfl, rfl, rfl, rfl, rfl, setBit_true_getLsbD _ (by decide), rfl, rfl, rfl⟩, hd, rfl, rfl⟩

theorem PfwDone.closed {s t : State} (h : PfwDone s t) (d : Docket) (k : DocketStore) :
    PfwDone s { t with docket := d, dkStore := k, ps := { t.ps with docketEnds := true } } := by
  obtain ⟨h1, h2, h3, h4, h5, h6, h7, h8, h9, h10, h11⟩ := h
  exact ⟨h1, h2, h3, h4, h5, h6, h7, h8, h9, h10, h11⟩

/-- PFW with an ARMED page: the page is spoiled, its docket closes and its record is due. -/
theorem pfwOp_page {s : State} (h1 : s.ps.pfwSeen = false) (h2 : s.ps.phase ≠ .dormant) (ha : s.docket.st = .armed)
    (hn : NoAction 0x00 s) : PfwDone s (pfwOp s) ∧ (pfwOp s).docket.st = .closed ∧ (pfwOp s).docket.outcome = 3 ∧
      (pfwOp s).docket.written = s.docket.written ∧
      (pfwOp s).docket.blanked = s.docket.planned - s.docket.written ∧
      (sinovRuns s = true → s.sinov.wants = [] → (pfwOp s).sinov.wants.map (·.typ) = [0x0010]) := by
  obtain ⟨hd, hdk, hrun, hwants⟩ := pfwRaise_page ha hn
  unfold pfwOp
  rw [h1, if_neg Bool.false_ne_true]
  dsimp only
  rw [if_neg h2, pageInFlight_armed ha, if_pos rfl]
  generalize raiseFault 0x00 (pfwCut s) = x at *
  obtain ⟨hst, ho, hw, hpl⟩ := hdk
  have hpx : pageInFlight x = true := by
    rw [pageInFlight, hst]
    rfl
  obtain ⟨k, es⟩ := stageDocket_frame 0 (closeDocket x)
  rw [es, closeDocket_open hpx]
  have hy := hd.closed { x.docket with
    st := .closed, arm := false, spoil := false, close := false, blanked := x.docket.planned - x.docket.written
    mediaPos := mediaPos x, tEnd := x.devtime, facetOpen := false } k
  split
  · obtain ⟨l, e, hl⟩ := wantFirst_frame (docketWant { x with
      docket := { x.docket with
        st := .closed, arm := false, spoil := false, close := false, blanked := x.docket.planned - x.docket.written
        mediaPos := mediaPos x, tEnd := x.devtime, facetOpen := false }
      dkStore := k, ps := { x.ps with docketEnds := true } }) { x with
      docket := { x.docket with
        st := .closed, arm := false, spoil := false, close := false, blanked := x.docket.planned - x.docket.written
        mediaPos := mediaPos x, tEnd := x.devtime, facetOpen := false }
      dkStore := k, ps := { x.ps with docketEnds := true } }
    rw [e]
    refine ⟨hy.wants l, rfl, ho, hw, ?_, fun _ hw' => ?_⟩
    · dsimp only
      rw [hpl, hw]
    · dsimp only
      rw [hl (hwants.trans hw')]
      rfl
  · next hc =>
    refine ⟨hy, rfl, ho, hw, ?_, fun hr' => absurd (hrun.trans hr') hc⟩
    dsimp only
    rw [hpl, hw]

end Sys2Proof.Machine
end

section
/-! The timed shut-down, the total shut-off (R189-R194, R198, R201), and the settling of O20. -/

namespace Sys2Proof.Machine

/-! ## The total shut-off -/

/-- Switching a target off leaves every other domain as it is. -/
theorem dropTarget_other {t d : Nat} (ht : 1 ≤ t) (h : d ≠ t - 1) (s : State) :
    (dropTarget t s).ps.on.getLsbD d = s.ps.on.getLsbD d := by
  by_cases hl : t ≤ 50
  · rw [(dropTarget_domain hl s).ps]
    exact getLsbD_setBit_ne (by omega) h
  · rw [dropTarget_rail hl]
    rfl

theorem foldl_dropTarget_other {d : Nat} {l : List Nat} (h : ∀ t ∈ l, 1 ≤ t ∧ d ≠ t - 1) (s : State) :
    (l.foldl (fun s t => dropTarget t s) s).ps.on.getLsbD d = s.ps.on.getLsbD d := by
  induction l generalizing s with
  | nil => rfl
  | cons t l ih =>
    obtain ⟨h1, h2⟩ := h t List.mem_cons_self
    rw [List.foldl_cons, ih fun u hu => h u (List.mem_cons_of_mem t hu)]
    exact dropTarget_other h1 h2 s

theorem allTargets_ge {t : Nat} (h : t ∈ allTargets) : 3 ≤ t := by
  have : ∀ t ∈ allTargets, 3 ≤ t := by decide
  exact this t h

theorem domain_mem_allTargets {t : Nat} (h1 : 3 ≤ t) (h2 : t ≤ 50) : t ∈ allTargets := by
  have : ∀ t : Fin 51, 3 ≤ t.val → t.val ∈ allTargets := by decide
  exact this ⟨t, by omega⟩ h1

/-- Every target that is up switched off. -/
def upOff (s : State) : State := (allTargets.filter (targetUp s)).foldl (fun s t => dropTarget t s) s

theorem upOff_goesOff (s : State) : GoesOff s (upOff s) := .foldl (fun x t => dropTarget_goesOff t x) _ s

/-- The total shut-off leaves AO and BKP. -/
theorem upOff_on (s : State) : (upOff s).ps.on = s.ps.on &&& 3 := by
  refine BitVec.eq_of_getLsbD_eq fun d hd => ?_
  have h3 : (3 : BitVec 50).getLsbD d = decide (d < 2) := by
    have : ∀ d : Fin 50, (3 : BitVec 50).getLsbD d.val = decide (d.val < 2) := by decide
    exact this ⟨d, hd⟩
  rw [BitVec.getLsbD_and, h3]
  by_cases hlow : d < 2
  · rw [decide_eq_true hlow, Bool.and_true]
    refine foldl_dropTarget_other (fun t ht => ?_) s
    have := allTargets_ge (List.mem_filter.mp ht).1
    omega
  · rw [decide_eq_false hlow, Bool.and_false]
    by_cases hon : s.ps.on.getLsbD d = true
    · have hup : targetUp s (d + 1) = true := by
        rw [targetUp, if_pos (by omega), domOn, Nat.add_sub_cancel, hon]
        simp
      have hmem : d + 1 ∈ allTargets.filter (targetUp s) :=
        List.mem_filter.mpr ⟨domain_mem_allTargets (by omega) (by omega), hup⟩
      exact (foldl_off (fun x t => dropTarget_goesOff t x) (fun x t => dropTarget_off t x) hmem s).1 (by omega)
    · rw [Bool.eq_false_iff]
      exact fun e => hon ((upOff_goesOff s).on d e)

theorem totalOff_eq (s : State) : totalOff s = { upOff s with
    ps := { (upOff s).ps with phase := .off, offCause := .none, deferEnd := true, deferred := [], order := []
                              runPhase := false }
    rst := { (upOff s).rst with step := .off } } := rfl

/-- The total shut-off: AO and BKP remain, and the hub's latches. -/
theorem totalOff_done (s : State) : (totalOff s).ps.phase = .off ∧ (totalOff s).ps.on = s.ps.on &&& 3 ∧
    (totalOff s).rst.step = .off ∧ (totalOff s).hub.raised = s.hub.raised ∧ (totalOff s).ps.retry = s.ps.retry := by
  obtain ⟨-, -, ⟨p, hh⟩, ⟨a, b, c, d, hp⟩, -, -⟩ := upOff_goesOff s
  have hon := upOff_on s
  rw [totalOff_eq]
  generalize upOff s = x at *
  refine ⟨rfl, hon, rfl, ?_, ?_⟩
  · rw [hh]
  · rw [hp]

/-! ## Entries of the table (R189, R190, R194) -/

/-- The table's turn has come to target t. -/
theorem entryDue_turn {t : Nat} {s : State}
    (h : (s.ps.offCause = .pfw ∧ s.ps.tpfwDone = true) ∨ (s.ps.offCause = .sleep ∧ s.ps.phase = .shutdown))
    (h1 : allTargets.contains t = true) (h2 : entryTurn s t = true) : entryDue t s =
      if s.ps.offCause = .pfw ∧ s.ps.deferEnd = false ∧ deferredSet.contains t = true then
        { s with ps := { s.ps with deferred := s.ps.deferred ++ [t] } }
      else sleepCheck (offTarget t s) := by
  have h3 := allTargets_ge (List.contains_iff_mem.mp h1)
  have hn : ¬ (t < 3 ∨ allTargets.contains t = false ∨ entryTurn s t = false) := by
    rw [h1, h2]
    simp
    omega
  rw [entryDue, if_pos h, if_neg hn]

theorem deferredSet_sub {t : Nat} (h : deferredSet.contains t = true) : allTargets.contains t = true := by
  have : ∀ t ∈ deferredSet, allTargets.contains t = true := by decide
  exact this t (List.contains_iff_mem.mp h)

theorem sleepCheck_other {s : State} (h : s.ps.offCause ≠ .sleep) : sleepCheck s = s := if_neg fun e => h e.1

/-- In SLEEP the last target off leads to DORMANT. -/
theorem sleepCheck_sleep {s : State} (h : s.ps.offCause = .sleep) : ((sleepCheck s).ps.on = s.ps.on) ∧
    (allDown (sleepCheck s) = true → (sleepCheck s).ps.phase = .dormant ∧ (sleepCheck s).ps.offCause = .none) ∧
    (allDown (sleepCheck s) = false → (sleepCheck s).ps.phase = s.ps.phase ∧ (sleepCheck s).ps.offCause = .sleep) := by
  unfold sleepCheck
  split
  · next hc => exact ⟨rfl, fun _ => ⟨rfl, rfl⟩, fun hf => absurd (hf.symm.trans hc.2) Bool.false_ne_true⟩
  · next hc => exact ⟨rfl, fun ht => absurd ⟨h, ht⟩ hc, fun _ => ⟨rfl, h⟩⟩

/-- The end of the deferral after a PFW: what waited goes off. -/
theorem deferralEnd_pfw {s : State} (h : s.ps.offCause = .pfw) :
    deferralEnd s = s.ps.deferred.foldl (fun s t => offTarget t s) { s with
      ps := { s.ps with deferEnd := true, deferred := [] } } := by
  unfold deferralEnd
  rw [h]

theorem deferralEnd_escOff {s : State} (h : s.ps.offCause = .escOff) : deferralEnd s = totalOff s := by
  unfold deferralEnd
  rw [h]

theorem sleepStart_begins {s : State} {w : BitVec 3} (h : s.sinov.sleepReq = some w) (h1 : s.ps.offCause = .none)
    (h2 : shutOff s = false) : sleepStart s = { s with
      sinov := { s.sinov with sleepReq := none }
      ps := { s.ps with wakeEn := w, phase := .shutdown, offCause := .sleep, table := s.ps.shdn } } := by
  unfold sleepStart
  rw [h]
  exact if_neg fun e => e.elim (fun e => e h1) fun e => Bool.false_ne_true (h2.symm.trans e)

theorem sleepStart_yields {s : State} {w : BitVec 3} (h : s.sinov.sleepReq = some w)
    (h1 : s.ps.offCause ≠ .none ∨ shutOff s = true) :
    sleepStart s = { s with sinov := { s.sinov with sleepReq := none } } := by
  unfold sleepStart
  rw [h]
  exact if_pos h1

/-! ## O20 -/

/-- Settles O20: power-up, brown-out, PFW, the timed shut-down and the total shut-off. -/
theorem deviceStartsAndShutsDown : Obligations.DeviceStartsAndShutsDown := by
  unfold Obligations.DeviceStartsAndShutsDown
  refine ⟨⟨fun s h1 h2 => ?_, fun s h1 h2 h3 h4 h5 => ?_, fun s h1 h2 h3 h4 h5 => ?_, fun s h => ?_, fun s => ?_⟩,
    ⟨fun s h1 h2 hm hp h3 h4 => ?_, fun s h1 h2 ha hn => ?_, fun s h1 h2 => ?_⟩,
    fun s x h1 h2 h3 h4 h5 => ?_, fun s x h1 h2 h3 h4 h5 => ?_, fun s x h1 h2 h3 h4 => ?_, fun s h => ?_, fun s h => ?_,
    fun s h => ?_, fun s w h h1 h2 => ?_, fun s w h h1 => ?_⟩
  · obtain ⟨ksup, kstep, ksec, klost, kcnt, kmot, khub, ksys, kenv, kmem⟩ := powerOnReset_done s
    obtain ⟨rails, e⟩ := bootStart_frame (s := { powerOnReset s with
      supply := { (powerOnReset s).supply with aoValid := true, aoPor := true }
      clk := { (powerOnReset s).clk with ao32Ok := true } }) kstep
    refine ⟨_, congrArg Host.Outcome.next ((if_pos ⟨h1, h2⟩).trans e), ?_, rfl, rfl, rfl, ksec, klost, kcnt, kmot, khub,
      ksys, kenv, kmem⟩
    dsimp only
    rw [ksup]
  · obtain ⟨rails, e⟩ := bootStart_frame h5
    have hx : vinBack s = bootStart s := by
      rw [vinBack, if_pos ⟨h1, h2, h3⟩, if_neg (by rw [h4]; decide)]
    exact ⟨_, congrArg Host.Outcome.next (hx.trans e), rfl, rfl, rfl, rfl, rfl⟩
  · have hd := systemReset_done .power none 0x02 s
    have hst : (systemReset .power none 0x02 s).rst.step = .off := by
      rw [hd.step, decide_eq_false h5]
      rfl
    obtain ⟨rails, e⟩ := bootStart_frame (s := systemReset .power none 0x02 s) (by rw [hst]; decide)
    have hx : vinBack s = bootStart (systemReset .power none 0x02 s) := by
      rw [vinBack, if_pos ⟨h1, h2, h3⟩, if_pos h4]
    generalize systemReset .power none 0x02 s = y at *
    exact ⟨_, congrArg Host.Outcome.next (hx.trans e), hd.device.cause, hd.device.kind, rfl, rfl, rfl, rfl, hd.on,
      hd.devtime, hd.device.mode, hd.device.raised, hd.device.optshd⟩
  · obtain ⟨ksup, -, ksec, klost, kcnt, -, khub, ksys, -, -⟩ := powerOnReset_done s
    refine ⟨_, congrArg Host.Outcome.next (if_pos h), ?_, kcnt, khub, ksys, ksec, klost⟩
    dsimp only
    rw [ksup]
  · have hd := systemReset_done .power none 0x02 s
    have hx : brownOutOp s = { systemReset .power none 0x02 s with
        ps := { (systemReset .power none 0x02 s).ps with
          phase := if s.ps.phase = .halted then .halted else .shutdown, offDelay := false, offCause := .none }
        supply := { (systemReset .power none 0x02 s).supply with softStart := false, softDone := false } } := by
      unfold brownOutOp
      rfl
    generalize systemReset .power none 0x02 s = y at *
    refine ⟨_, congrArg Host.Outcome.next hx, hd.device.cause, hd.device.kind, hd.device.count, hd.on, rfl, hd.nPFW,
      hd.device.mode, hd.devtime, hd.device.raised, hd.loaded, ?_⟩
    dsimp only
    rw [hd.device.supply]
  · obtain ⟨hd, k1, k2, k3, k4⟩ := pfwOp_noPage h1 h2 hm hp h3 h4
    exact ⟨_, rfl, hd.stands, hd.cut, hd.nPFW, hd.pfwSeen, hd.pfwTime, hd.table, k1, k2, hd.hdie, hd.clk, hd.sleepReq,
      hd.counters, memSame_of_mem hd.mem, k3, k4⟩
  · obtain ⟨hd, k1, k2, k3, k4, k5⟩ := pfwOp_page h1 h2 ha hn
    exact ⟨_, rfl, hd.stands, hd.cut, hd.nPFW, k1, k2, k3, k4, k5, hd.counters, memSame_of_mem hd.mem⟩
  · exact congrArg Host.Outcome.next (if_pos ⟨h1, h2⟩)
  · exact congrArg Host.Outcome.next ((entryDue_turn (.inl ⟨h1, h2⟩) (deferredSet_sub h4) h5).trans (if_pos ⟨h1, h3, h4⟩))
  · have hg := offTarget_goesOff x.toNat s
    obtain ⟨hoff, hrail⟩ := offTarget_off x.toNat s
    have hn : ¬ (s.ps.offCause = .pfw ∧ s.ps.deferEnd = false ∧ deferredSet.contains x.toNat = true) := by
      rintro ⟨-, e1, e2⟩
      rcases h3 with h3 | h3
      · exact Bool.false_ne_true (e1.symm.trans h3)
      · exact Bool.false_ne_true (h3.symm.trans e2)
    have hx := (entryDue_turn (.inl ⟨h1, h2⟩) h4 h5).trans (if_neg hn)
    obtain ⟨hdk, hsup, ⟨p, hh⟩, ⟨a, b, c, d, hps⟩, hon, -⟩ := hg
    generalize offTarget x.toNat s = o at *
    have ho : sleepCheck o = o := sleepCheck_other (by rw [hps]; dsimp only; rw [h1]; decide)
    refine ⟨_, congrArg Host.Outcome.next (hx.trans ho), hoff, hrail, hon, ?_, ?_, hdk, hsup⟩
    · rw [hps]
    · rw [hh]
  · have hg := offTarget_goesOff x.toNat s
    obtain ⟨hoff, -⟩ := offTarget_off x.toNat s
    have hx := (entryDue_turn (.inr ⟨h1, h2⟩) h3 h4).trans (if_neg fun e => absurd (h1.symm.trans e.1) (by decide))
    obtain ⟨-, -, -, ⟨a, b, c, d, hps⟩, hon, -⟩ := hg
    generalize offTarget x.toNat s = o at *
    have hc : o.ps.offCause = .sleep := by rw [hps]; exact h1
    have hph : o.ps.phase = .shutdown := by rw [hps]; exact h2
    obtain ⟨k1, k2, k3⟩ := sleepCheck_sleep hc
    refine ⟨_, congrArg Host.Outcome.next hx, fun hl => ?_, fun d hd => hon d (k1 ▸ hd), k2, fun hf => ?_⟩
    · rw [k1]
      exact hoff hl
    · obtain ⟨k4, k5⟩ := k3 hf
      exact ⟨k4.trans hph, k5⟩
  · have hg := GoesOff.foldl (fun x t => offTarget_goesOff t x) s.ps.deferred
      { s with ps := { s.ps with deferEnd := true, deferred := [] } }
    have ho := fun d (hd : d ∈ s.ps.deferred) => foldl_off (fun x t => offTarget_goesOff t x) (fun x t => offTarget_off t x) hd
      { s with ps := { s.ps with deferEnd := true, deferred := [] } }
    have hx := deferralEnd_pfw h
    rw [← hx] at hg ho
    obtain ⟨-, -, ⟨p, hh⟩, ⟨a, b, c, d, hps⟩, hon, -⟩ := hg
    refine ⟨_, rfl, ?_, ?_, fun d hd _ hl => (ho d hd).1 hl, hon, ?_⟩
    · rw [hps]
    · rw [hps]
    · rw [hh]
  · obtain ⟨k1, k2, k3, k4, -⟩ := totalOff_done s
    exact ⟨_, congrArg Host.Outcome.next (deferralEnd_escOff h), k1, k2, k3, k4⟩
  · obtain ⟨-, k2, -, k4, k5⟩ := totalOff_done s
    exact ⟨_, congrArg Host.Outcome.next (if_pos h), rfl, k2, k5, k4⟩
  · exact congrArg Host.Outcome.next (sleepStart_begins h h1 h2)
  · exact congrArg Host.Outcome.next (sleepStart_yields h h1)

end Sys2Proof.Machine
end

section
/-! Grace expiry, the fault hub's commands, safe-stop end and the parity scan (R153-R163, R223). -/

namespace Sys2Proof.Machine

/-! ## FH_CMD and FE_CLEAR (R157, R163) -/

/-- The words of FH_CMD: a fault and one of four commands. -/
theorem hubWord (f : Byte) (k : Fin 4) {v : Word} (hv : v = BitVec.ofNat 32 (256 * k.val)) :
    ((f.setWidth 32 ||| v).setWidth 8 : Byte) = f ∧ (bits (f.setWidth 32 ||| v) 8 2 : BitVec 2).toNat = k.val := by
  subst hv
  revert f k
  decide

theorem hubCmd_ack (f : Byte) (s : State) : hubCmd (f.setWidth 32 ||| 0x100) s = hubAck f s := by
  obtain ⟨h1, h2⟩ := hubWord f 1 (v := 0x100) rfl
  unfold hubCmd
  dsimp only
  rw [h1, h2]
  rfl

theorem hubCmd_clear (f : Byte) (s : State) : hubCmd (f.setWidth 32 ||| 0x200) s = hubClearOp f s := by
  obtain ⟨h1, h2⟩ := hubWord f 2 (v := 0x200) rfl
  unfold hubCmd
  dsimp only
  rw [h1, h2]
  rfl

theorem hubCmd_raise (f : Byte) (s : State) :
    hubCmd (f.setWidth 32 ||| 0x300) s = if 0xE0 ≤ f.toNat then raiseFault f s else s := by
  obtain ⟨h1, h2⟩ := hubWord f 3 (v := 0x300) rfl
  unfold hubCmd
  dsimp only
  rw [h1, h2]
  rfl

theorem exec_of_hub {i : Instr} {m : Master} {o : Nat} {v : Word} {s : State}
    (hi : exec i s = .next (regWrite m 0x06 o v s)) (h : Granted m 0x06 o v s) :
    exec i s = .next (writeFaulthub o v s) := exec_of_granted hi h (by decide)

/-- Nothing is applied again while no safe stop holds outputs off. -/
theorem reapply_none {s : State} (h : s.outHold.faults = 0) : reapply s = s := if_neg fun e => e.2.2.1 h

theorem clearTrip_frame (f : Nat) (s : State) : ∃ h e v m, clearTrip f s = { s with
    hdie := h, envg := { s.envg with trip := e }, hv := { s.hv with trip := v }, motors := m } := by
  unfold clearTrip
  by_cases hf : f = 0x8E
  · rw [if_pos hf]
    exact ⟨_, _, _, _, rfl⟩
  · rw [if_neg hf]
    exact ⟨_, _, s.hv.trip, _, rfl⟩

/-- A fault below 0x80 has no trip latch. -/
theorem clearTrip_low {f : Nat} (h : f < 0x80) (s : State) : clearTrip f s = s := by
  have hm : tripMask f = 0 := by
    unfold tripMask
    rw [if_neg (by omega), if_neg (by omega), if_neg (by omega), if_neg (by omega), if_neg (by omega), if_neg (by omega),
      if_neg (by omega), if_neg (by omega)]
  have ht : s.envg.trip &&& ~~~(0 : Word) = s.envg.trip := BitVec.and_allOnes
  unfold clearTrip
  dsimp only
  rw [hm, ht, if_neg (by omega), if_neg (by omega), if_neg (by omega), if_neg (by omega), if_neg (by omega),
    if_neg (by omega), if_neg (by omega), if_neg (by omega)]

theorem hubClear_stays {f : Byte} {s : State} (h : faultPresent s f.toNat = true ∨ expiryWins f.toNat s = true) :
    hubClear f s = s := if_pos (Bool.or_eq_true_iff.mpr h)

/-! ## Escalation by a grace timer (R155, R156) -/

/-- The hub of an expired grace timer whose action begins. -/
def expiredHub (f : Byte) (act : BitVec 2) (s : State) : FaultHub :=
  { s.hub with
    timing := setBit s.hub.timing f.toNat false
    expired := setBit (if s.hub.expiredAt = s.devtime then s.hub.expired else 0) f.toNat true
    expiredAt := s.devtime, escAction := act, escValid := true, escId := f, escTime := s.devtime }

theorem lapseAdmission_none (s : State) : (lapseAdmission s).sinov.admission = none := by
  unfold lapseAdmission
  cases h : s.sinov.admission with
  | none => exact h
  | some a => rfl

theorem escRecord_frame (f : Byte) (a : BitVec 2) (s : State) :
    ∃ w, escRecord f a s = { s with sinov := { s.sinov with wants := w } } := by
  unfold escRecord
  split
  · exact ⟨_, rfl⟩
  · exact ⟨_, rfl⟩

/-- A spoil without a page in flight changes nothing. -/
theorem latchSpoil_noPage {o : Outcome5} {f : Option Byte} {fl : Byte} {s : State} (h : pageInFlight s = false) :
    latchSpoil o f fl s = s := by
  rw [pageInFlight, Bool.or_eq_false_iff, decide_eq_false_iff_not, decide_eq_false_iff_not] at h
  obtain ⟨h1, h2⟩ := h
  unfold latchSpoil
  dsimp only
  split
  · next e => exact absurd e h1
  · next e => exact absurd e h2
  · rfl

/-- ESC_SPOIL: the engine stops, the admission in hand ends, and a page in flight is spoiled. -/
def escSpoil (f : Byte) (s : State) : State :=
  escRecord f 0 (lapseAdmission (stopCause f (safeStop (latchSpoil .fault (some f) 0 s))))

theorem escSpoil_frame (f : Byte) (s : State) : ∃ d b v fu hv oh si ti p, escSpoil f s = { s with
      docket := d, beam := b, video := v, fuser := fu, hv := hv, outHold := oh, motors := (stopMotors s).motors
      sinov := si, till := ti, hub := { s.hub with present := p } } ∧
    (∀ i : Fin 4, b.ld[i].lit = false) ∧ (∀ i : Fin 2, fu.htr[i].on = false) ∧ si.admission = none ∧
    d = (latchSpoil .fault (some f) 0 s).docket := by
  obtain ⟨d, b, v, e⟩ := latchSpoil_frame .fault (some f) 0 s
  obtain ⟨adm, wait, rsv, pres, e2⟩ := lapseAdmission_eq (stopCause f (safeStop (latchSpoil .fault (some f) 0 s)))
  have hn := lapseAdmission_none (stopCause f (safeStop (latchSpoil .fault (some f) 0 s)))
  obtain ⟨w, e3⟩ := escRecord_frame f 0 (lapseAdmission (stopCause f (safeStop (latchSpoil .fault (some f) 0 s))))
  rw [e2] at hn
  rw [escSpoil, e3, e2]
  rw [e] at hn ⊢
  exact ⟨_, _, _, _, _, _, _, _, _, rfl, fun i => congrArg LaserBeam.lit (Vector.getElem_map ..),
    fun i => congrArg Heater.on (Vector.getElem_map ..), hn, rfl⟩

theorem graceEnd_runs {f : Byte} {s : State} (h : s.hub.timing.getLsbD f.toNat = true) {a : BitVec 2}
    (ha : (bits (s.hub.timerCfg[f.toNat]?.getD 0) 2 2 : BitVec 2) = a) :
    graceEnd f s = escalate f a { s with hub := { s.hub with
      timing := setBit s.hub.timing f.toNat false
      expired := setBit (if s.hub.expiredAt = s.devtime then s.hub.expired else 0) f.toNat true
      expiredAt := s.devtime } } := by
  rw [graceEnd, if_pos h, ha]

theorem graceEnd_spoils {f : Byte} {s : State} (h : s.hub.timing.getLsbD f.toNat = true)
    (ha : (bits (s.hub.timerCfg[f.toNat]?.getD 0) 2 2 : BitVec 2) = 0) :
    graceEnd f s = escSpoil f { s with hub := expiredHub f 0 s } := graceEnd_runs h ha

theorem graceEnd_warm {f : Byte} {s : State} (h : s.hub.timing.getLsbD f.toNat = true)
    (ha : (bits (s.hub.timerCfg[f.toNat]?.getD 0) 2 2 : BitVec 2) = 2) :
    graceEnd f s = assertReset 2 .fault (some f) (if f = 0xC0 then 0x0C else 0x06) { s with hub := expiredHub f 2 s } :=
  graceEnd_runs h ha

/-- ESC_OFF: every output is cut, the page in flight closes, and the shut-off begins (R198). -/
def escOff (f : Byte) (s : State) : State :=
  let s := commitDocket (closeDocket (cutOutputs (latchSpoil .fault (some f) 0 s)))
  if shutOff s then s
  else { s with ps := { s.ps with offCause := .escOff, deferEnd := false, docketEnds := s.dkStore.due } }

theorem graceEnd_off {f : Byte} {s : State} (h : s.hub.timing.getLsbD f.toNat = true)
    (ha : (bits (s.hub.timerCfg[f.toNat]?.getD 0) 2 2 : BitVec 2) = 3) :
    graceEnd f s = escOff f { s with hub := expiredHub f 3 s } := graceEnd_runs h ha

theorem closeDocket_ends (s : State) : pageInFlight (closeDocket s) = false := by
  by_cases h : pageInFlight s = true
  · rw [closeDocket_open h]
    rfl
  · rw [closeDocket, if_neg h]
    exact Bool.eq_false_iff.mpr h

theorem escOff_done (f : Byte) (s : State) : (escOff f s).hub = s.hub ∧ OutputsCut (escOff f s) ∧
    (shutOff s = false → (escOff f s).ps.offCause = .escOff) ∧ pageInFlight (escOff f s) = false ∧
    (escOff f s).ps.on = s.ps.on ∧ (escOff f s).counters = s.counters ∧ (escOff f s).mem = s.mem := by
  obtain ⟨d, b, v, e⟩ := latchSpoil_frame .fault (some f) 0 s
  have hcut := cutOutputs_cut (latchSpoil .fault (some f) 0 s)
  have hend := closeDocket_ends (cutOutputs (latchSpoil .fault (some f) 0 s))
  have hx : ∃ d k w, commitDocket (closeDocket (cutOutputs (latchSpoil .fault (some f) 0 s))) =
      { cutOutputs (latchSpoil .fault (some f) 0 s) with
        docket := d, dkStore := k, sinov := { (cutOutputs (latchSpoil .fault (some f) 0 s)).sinov with wants := w } } ∧
      d = (closeDocket (cutOutputs (latchSpoil .fault (some f) 0 s))).docket := by
    obtain ⟨d, k, ec⟩ := closeDocket_frame (cutOutputs (latchSpoil .fault (some f) 0 s))
    obtain ⟨k', w, em⟩ := commitDocket_frame (closeDocket (cutOutputs (latchSpoil .fault (some f) 0 s)))
    rw [em, ec]
    exact ⟨_, _, _, rfl, rfl⟩
  obtain ⟨d', k, w, ex, hd⟩ := hx
  have hin : ∀ x : State, x.docket = d' → pageInFlight x = false := fun x hx => by
    rw [pageInFlight, hx, hd]
    exact hend
  unfold escOff
  dsimp only
  rw [ex]
  have hsh : ∀ x : State, x.ps = s.ps → shutOff x = shutOff s := fun x hx => by
    rw [shutOff, hx, shutOff]
  have hps : (cutOutputs (latchSpoil .fault (some f) 0 s)).ps = s.ps := by
    rw [e]
    rfl
  have hhub : (cutOutputs (latchSpoil .fault (some f) 0 s)).hub = s.hub := by
    rw [e]
    rfl
  have hcnt : (cutOutputs (latchSpoil .fault (some f) 0 s)).counters = s.counters := by
    rw [e]
    rfl
  have hmem : (cutOutputs (latchSpoil .fault (some f) 0 s)).mem = s.mem := by
    rw [e]
    rfl
  clear ex e
  generalize cutOutputs (latchSpoil .fault (some f) 0 s) = c at *
  have hon : c.ps.on = s.ps.on := by rw [hps]
  rw [hsh]
  · split
    · next hs =>
      exact ⟨hhub, hcut, fun hf => absurd (hf.symm.trans hs) Bool.false_ne_true, hin _ rfl, hon, hcnt,
        hmem⟩
    · exact ⟨hhub, hcut, fun _ => rfl, hin _ rfl, hon, hcnt, hmem⟩
  · exact hps

/-! ## Resets by an expired timer or a parity error -/

/-- What a WARM reset leaves of the record of the last escalation. -/
theorem warmReset_esc (o : Outcome5) (f : Option Byte) (code : Byte) (s : State) :
    (warmReset o f code s).hub.escAction = s.hub.escAction ∧ (warmReset o f code s).hub.escValid = s.hub.escValid ∧
      (warmReset o f code s).hub.escId = s.hub.escId ∧ (warmReset o f code s).hub.escTime = s.hub.escTime := by
  obtain ⟨m, n, d, k, b, v, mo, h, fu, w, oh, si, e, hb, hd⟩ := atReset_frame o f code 2 s
  have hlogic : (reloadFhCfg (warmGpd (resetLogic (atReset o f code 2 s)))).hub.escAction = s.hub.escAction ∧
      (reloadFhCfg (warmGpd (resetLogic (atReset o f code 2 s)))).hub.escValid = s.hub.escValid ∧
      (reloadFhCfg (warmGpd (resetLogic (atReset o f code 2 s)))).hub.escId = s.hub.escId ∧
      (reloadFhCfg (warmGpd (resetLogic (atReset o f code 2 s)))).hub.escTime = s.hub.escTime := by
    rw [e]
    exact ⟨rfl, rfl, rfl, rfl⟩
  unfold warmReset
  dsimp only
  rw [← atReset]
  generalize reloadFhCfg (warmGpd (resetLogic (atReset o f code 2 s))) = x at hlogic
  split
  · unfold railsUp warmRails
    split
    · exact hlogic
    · exact hlogic
  · exact hlogic

/-- A SYSTEM reset keeps where the parity scan found its mismatch. -/
theorem systemReset_parLoc (o : Outcome5) (f : Option Byte) (code : Byte) (s : State) :
    (systemReset o f code s).rst.parLoc = s.rst.parLoc := by
  obtain ⟨m, n, d, k, b, v, mo, h, fu, w, oh, si, e, hb, hd⟩ := atReset_frame o f code 1 s
  unfold systemReset
  dsimp only
  rw [← atReset, e]
  rfl

/-- A mismatch in a critical register outside the loader is latched, and resets the device (R223). -/
theorem parityOp_resets {bank : BitVec 8} {ofs : BitVec 16} {s : State} (h : criticalReg s bank.toNat ofs.toNat = true)
    (hl : inLoader s = false) (ha : Asserts 1 s) : parityOp (some (bank, ofs)) s = systemReset .fault none 0x09 { s with
      rst := { s.rst with parLoc := 0x8000_0000 ||| (ofs.setWidth 32 <<< 8) ||| bank.setWidth 32 } } := by
  have hz : fieldAt bank 0 = bank.setWidth 32 := BitVec.shiftLeft_zero _
  unfold parityOp
  dsimp only
  rw [h, hl, if_neg (by decide), if_neg Bool.false_ne_true, if_pos ha.1, hz]
  exact assertReset_system (s := { s with
    rst := { s.rst with parLoc := 0x8000_0000 ||| (ofs.setWidth 32 <<< 8) ||| bank.setWidth 32 } }) ha _ _ _

theorem safeStopEnd_noPage {s : State} (h : pageInFlight s = false) : safeStopEnd s = s := by
  rw [pageInFlight, Bool.or_eq_false_iff, decide_eq_false_iff_not, decide_eq_false_iff_not] at h
  exact if_neg h.2

/-- The end of a safe stop closes the spoiled page (R72). -/
theorem safeStopEnd_closes {s : State} (h : s.docket.st = .spoiled) : ∃ d k w, safeStopEnd s = { s with
      docket := d, dkStore := k, sinov := { s.sinov with wants := w } } ∧ d.st = .closed ∧
    d.blanked = s.docket.planned - s.docket.written ∧ d.outcome = s.docket.outcome := by
  have hp : pageInFlight s = true := by
    rw [pageInFlight, h]
    rfl
  obtain ⟨k, w, e⟩ := commitDocket_frame (closeDocket s)
  rw [safeStopEnd, if_pos h, e, closeDocket_open hp]
  exact ⟨_, _, _, rfl, rfl, rfl, rfl⟩

/-- ENG_REL ends ENG_HOLD and releases nothing else (R150). -/
theorem rstRel_engHold {s : State} (h : s.sys.minset = false) :
    rstRel 1 s = { s with rst := { s.rst with engHold := false } } := by
  have hb : bit (1 : Word) 0 = true ∧ bit (1 : Word) 8 = false ∧ (bits (1 : Word) 1 4 : BitVec 4) = 0 := by decide
  obtain ⟨h0, h8, hz⟩ := hb
  simp only [rstRel, h0, h8, hz, h, Bool.false_eq_true, true_and, if_true, if_false]
  rw [show s.rst.cores ||| (0 : BitVec 4) = s.rst.cores from BitVec.or_zero, ite_self]

/-! ## O24 -/

/-- Settles O24: expiry by the action begun, FH_CMD by the command, the safe stop's end and the parity scan. -/
theorem hubActsOnFaults : Obligations.HubActsOnFaults := by
  unfold Obligations.HubActsOnFaults
  refine ⟨⟨fun f s h ha => ?_, fun f s h ha hs => ?_, fun f s h ha => ?_, fun f s h => ?_⟩,
    ⟨fun m f s h => ?_, fun m f s h h0 hc => ?_, fun m f s h h0 h1 h2 => ?_, fun m f s h hf hm => ?_, fun m f s h hf => ?_,
      fun m s h => ?_, fun m s h h1 h2 => ?_⟩,
    fun s h => ?_, fun s h => ?_, fun s => ?_, fun s bank ofs h => ?_, fun s bank ofs h hl ha => ?_⟩
  · obtain ⟨d, b, v, fu, hv, oh, si, ti, p, e, hb, hf, hadm, hd⟩ := escSpoil_frame f { s with hub := expiredHub f 0 s }
    refine ⟨_, congrArg Host.Outcome.next ((graceEnd_spoils h ha).trans e), rfl, hb, hf, rfl, hadm, fun hst => ?_,
      fun hp => ?_, rfl, fun _ => rfl⟩
    · rw [latchSpoil_armed (s := { s with hub := expiredHub f 0 s }) hst] at hd
      subst hd
      exact ⟨rfl, rfl, rfl, rfl, rfl⟩
    · rw [latchSpoil_noPage (s := { s with hub := expiredHub f 0 s }) hp] at hd
      exact hd
  · have hx := (graceEnd_warm h ha).trans (assertReset_warm (s := { s with hub := expiredHub f 2 s }) hs _ _ _)
    obtain ⟨k1, k2, k3, k4⟩ := warmReset_esc .fault (some f) (if f = 0xC0 then 0x0C else 0x06)
      { s with hub := expiredHub f 2 s }
    exact ⟨_, congrArg Host.Outcome.next hx, k1, k2, k3, k4,
      warmReset_warmReset (s := { s with hub := expiredHub f 2 s }) (by decide)⟩
  · obtain ⟨k1, k2, k3, k4, k5, k6, k7⟩ := escOff_done f { s with hub := expiredHub f 3 s }
    refine ⟨_, congrArg Host.Outcome.next (graceEnd_off h ha), ?_, ?_, k2, k3, k4, k5, k6, memSame_of_mem k7⟩
    · rw [k1]
      rfl
    · rw [k1]
      rfl
  · exact congrArg Host.Outcome.next (if_neg (by rw [h]; exact Bool.false_ne_true))
  · exact (exec_of_hub (i := .fhAck m f) rfl h).trans (congrArg Host.Outcome.next (hubCmd_ack f s))
  · refine (exec_of_hub (i := .fhClear m f) rfl h).trans (congrArg Host.Outcome.next ((hubCmd_clear f s).trans ?_))
    rw [hubClearOp, hubClear_stays hc, reapply_none h0]
  · obtain ⟨hd, ev, v, mo, e⟩ := clearTrip_frame f.toNat { s with hub := { s.hub with
      raised := setBit s.hub.raised f.toNat false, timing := setBit s.hub.timing f.toNat false } }
    have hx : hubClearOp f s = clearTrip f.toNat { s with hub := { s.hub with
        raised := setBit s.hub.raised f.toNat false, timing := setBit s.hub.timing f.toNat false } } := by
      rw [hubClearOp, hubClear_clears h1 h2, reapply_none]
      rw [e]
      exact h0
    refine ⟨_, (exec_of_hub (i := .fhClear m f) rfl h).trans (congrArg Host.Outcome.next ((hubCmd_clear f s).trans hx)), ?_,
      ?_, fun hl => ?_⟩
    · rw [e]
    · rw [e]
    · rw [clearTrip_low hl]
      exact ⟨rfl, rfl, rfl, rfl⟩
  · have hx : hubCmd (f.setWidth 32 ||| 0x300) s = raiseFault f s := by
      rw [hubCmd_raise, if_pos]
      rcases hf with rfl | rfl | rfl | rfl
      · decide
      · decide
      · decide
      · decide
    refine ⟨_, (exec_of_hub (i := .fhRaise m f) rfl h).trans (congrArg Host.Outcome.next hx), raiseFault_mild ?_ hm⟩
    rcases hf with rfl | rfl | rfl | rfl
    · decide
    · decide
    · decide
    · decide
  · exact (exec_of_hub (i := .fhRaise m f) rfl h).trans
      (congrArg Host.Outcome.next ((hubCmd_raise f s).trans (if_neg (by omega))))
  · exact exec_of_hub (i := .feClear m) rfl h
  · have hr := rstRel_engHold h2
    refine (exec_relWrite (i := .engRel m) rfl h).trans (congrArg Host.Outcome.next
      ((relWrite_plain (.inl (by decide)) h1 ?_).trans hr))
    rw [hr]
  · obtain ⟨d, k, w, e, h1, h2, h3⟩ := safeStopEnd_closes h
    exact ⟨_, congrArg Host.Outcome.next e, h1, h2, h3, rfl⟩
  · exact congrArg Host.Outcome.next (safeStopEnd_noPage h)
  · rfl
  · exact congrArg Host.Outcome.next (if_pos h)
  · refine ⟨_, congrArg Host.Outcome.next (parityOp_resets h hl ha), ?_, systemReset_parLoc ..⟩
    exact systemReset_systemReset (s := { s with
      rst := { s.rst with parLoc := 0x8000_0000 ||| (ofs.setWidth 32 <<< 8) ||| bank.setWidth 32 } }) (by decide)

end Sys2Proof.Machine
end

section
/-! Wheel slots, the allotment, DRAM's training and refresh (R397, R401-R408, R412). -/

namespace Sys2Proof.Machine

/-! ## A slot (R403) -/

/-- The slot in the wheel's place goes to one of the requests q, or stays idle, and the wheel moves on. -/
def slotOf (q : List Waiting) (s : State) : State :=
  let k := (mapNow s).getD s.fabric.pos.val 0
  match slotPick s k q with
  | some w => grantBurst w.req (serveGrant w.req (traceCapture w.req { s with fabric := { countGrant k w s.fabric with
      waiting := (q.erase w).map fun w => { w with since := w.since + 1 }, pos := s.fabric.pos + 1 } }))
  | none => { s with fabric := { s.fabric with
      idle := s.fabric.idle + 1, waiting := q.map fun w => { w with since := w.since + 1 }, pos := s.fabric.pos + 1 } }

theorem wheelSlot_none (s : State) : wheelSlot [] s = slotOf s.fabric.waiting s := by
  simp only [wheelSlot, List.filter_nil, List.foldl_nil, List.map_nil, List.append_nil, slotOf]
  cases slotPick s ((mapNow s).getD s.fabric.pos.val 0) s.fabric.waiting <;> rfl

/-- One request that the wheel takes joins the queue. -/
theorem wheelSlot_joins {r : WheelReq} {s : State} (h1 : reachesWheel r = true) (h2 : masterOpen s r.master = true)
    (h3 : r.parityBad = false) : wheelSlot [r] s = slotOf (s.fabric.waiting ++ [{ req := r, since := 0 }]) s := by
  simp only [wheelSlot, List.filter_cons, h1, h2, h3, List.filter_nil, if_true, Bool.false_eq_true, if_false, List.foldl_nil,
    Bool.not_true, Bool.not_false, List.map_cons, List.map_nil, slotOf]
  cases slotPick s ((mapNow s).getD s.fabric.pos.val 0) (s.fabric.waiting ++ [{ req := r, since := 0 }]) <;> rfl

/-- A request with a parity error ends before the slot. -/
theorem wheelSlot_parity {r : WheelReq} {s : State} (h2 : masterOpen s r.master = true) (h3 : r.parityBad = true) :
    wheelSlot [r] s = slotOf (parityEnd r s).fabric.waiting (parityEnd r s) := by
  simp only [wheelSlot, List.filter_cons, h2, h3, List.filter_nil, if_true, Bool.false_eq_true, if_false, List.foldl_nil,
    List.foldl_cons, Bool.not_true, List.map_nil, List.append_nil, slotOf]
  cases slotPick (parityEnd r s) ((mapNow (parityEnd r s)).getD (parityEnd r s).fabric.pos.val 0)
    (parityEnd r s).fabric.waiting <;> rfl

/-! ## The pick (R401, R403) -/

theorem classPick_single (s : State) (c : Fin 5) (w : Waiting) :
    classPick s c [w] = if waitClass w = some c then some w else none := by
  rw [classPick, List.filter_cons]
  split
  · next h => rw [if_pos (of_decide_eq_true h)]; rfl
  · next h => rw [if_neg fun e => h (decide_eq_true e)]; rfl

theorem slotPick_nil (s : State) (k : Nat) : slotPick s k [] = none := by
  unfold slotPick
  split_ifs
  · rfl
  · rfl
  · rfl

/-- A core's request that has not waited is picked in every slot of an empty queue. -/
theorem slotPick_core {s : State} {w : Waiting} (h : waitClass w = some 2) (hw : w.since = 0) (k : Nat) :
    slotPick s k [w] = some w := by
  have hbest : bestEffort s [w] = some w := by
    have hf : [w].filter (fun w => waitClass w ≠ some 0) = [w] := by
      rw [List.filter_cons_of_pos (by rw [h]; decide), List.filter_nil]
    have ho : oldestPick [w] = some w := rfl
    have hage : ¬ (s.fabric.age ≠ 0 ∧ 64 * s.fabric.age.toNat ≤ w.since) := by
      rw [hw]
      rintro ⟨h1, h2⟩
      exact h1 (BitVec.eq_of_toNat_eq (by show s.fabric.age.toNat = 0; omega))
    unfold bestEffort
    rw [hf]
    dsimp only
    rw [ho]
    dsimp only
    rw [if_neg hage, classPick_single, if_pos h]
    rfl
  have h0 : classPick s 0 [w] = none := by rw [classPick_single, h, if_neg (by decide)]
  have h1 : classPick s 1 [w] = none := by rw [classPick_single, h, if_neg (by decide)]
  unfold slotPick
  rw [hbest, h0, h1, Option.none_or, Option.none_or, ite_self, ite_self]

/-- A burst of the fetch engine is picked in a VIDEO slot, and in no other. -/
theorem slotPick_video {s : State} {w : Waiting} (h : waitClass w = some 0) (k : Nat) :
    slotPick s k [w] = if k = 1 then some w else none := by
  have hbest : bestEffort s [w] = none := by
    unfold bestEffort
    rw [List.filter_cons_of_neg (by rw [h]; decide), List.filter_nil]
    rfl
  have h0 : classPick s 0 [w] = some w := by rw [classPick_single, if_pos h]
  have h1 : classPick s 1 [w] = none := by rw [classPick_single, h, if_neg (by decide)]
  unfold slotPick
  rw [hbest, h0, h1, Option.none_or, Option.some_or, ite_self]

/-! ## A grant -/

theorem traceCapture_frame (r : WheelReq) (s : State) : ∃ d, traceCapture r s = { s with dbg := d } := by
  unfold traceCapture
  split
  · exact ⟨_, rfl⟩
  · exact ⟨_, rfl⟩

/-- A granted request whose memory answers is counted by DRAM where it is DRAM's. -/
theorem serveGrant_up {r : WheelReq} {s : State} (h : memUp s r.addr.toNat = true) : ∃ d, serveGrant r s = { s with dramc := d } ∧
    (regionOf r.addr.toNat = .dram → r.kind = 0 → d = { s.dramc with rd := s.dramc.rd + 1 }) := by
  unfold serveGrant
  rw [if_pos h]
  split
  · next hd => exact ⟨_, rfl, fun _ hk => by simp [hk]⟩
  · next hd => exact ⟨s.dramc, rfl, fun e => absurd e hd⟩

/-- A granted burst of the fetch engine never ends in an error response here. -/
theorem serveGrant_video {r : WheelReq} (h : r.master = .vfetch) (s : State) : ∃ d, serveGrant r s = { s with dramc := d } := by
  unfold serveGrant
  split
  · split
    · exact ⟨_, rfl⟩
    · exact ⟨_, rfl⟩
  · exact ⟨s.dramc, rfl⟩

/-- The wheel's counters after a grant to a request of class c. -/
theorem countGrant_class {k : Nat} {w : Waiting} {c : Fin 5} (h : waitClass w = some c) (f : Fabric) :
    (countGrant k w f).grants = f.grants.set c (f.grants[c] + 1) ∧ (countGrant k w f).idle = f.idle := by
  obtain rfl : (waitClass w).getD 0 = c := by
    rw [h]
    rfl
  exact ⟨rfl, rfl⟩

/-- The state after a slot of class code k is granted to w, the only request. -/
def granted (k : Nat) (w : Waiting) (s : State) : State :=
  { s with fabric := { countGrant k w s.fabric with waiting := [], pos := s.fabric.pos + 1 } }

theorem slotOf_single {w : Waiting} {s : State}
    (h : slotPick s ((mapNow s).getD s.fabric.pos.val 0) [w] = some w) : slotOf [w] s =
      grantBurst w.req (serveGrant w.req (traceCapture w.req (granted ((mapNow s).getD s.fabric.pos.val 0) w s))) := by
  unfold slotOf
  dsimp only
  rw [h]
  dsimp only
  rw [List.erase_cons_head]
  rfl

theorem slotOf_idle {q : List Waiting} {s : State} (h : slotPick s ((mapNow s).getD s.fabric.pos.val 0) q = none) :
    slotOf q s = { s with fabric := { s.fabric with
      idle := s.fabric.idle + 1, waiting := q.map fun w => { w with since := w.since + 1 }, pos := s.fabric.pos + 1 } } := by
  unfold slotOf
  dsimp only
  rw [h]

theorem HubOnly.trans {s t u : State} (h : HubOnly s t) (k : HubOnly t u) : HubOnly s u := by
  unfold HubOnly at *
  rw [k, h]

/-- A request with a parity error raises FAB_PARITY and FAB_ERROR (R412). -/
theorem parityEnd_raises {r : WheelReq} {s : State} (h1 : Mild 0x60 s) (h2 : Mild 0x61 s) : HubOnly s (parityEnd r s) ∧
    Stands 0x61 (parityEnd r s) ∧ Stands 0x60 (parityEnd r s) ∧
    Captured { master := r.master, addr := r.addr, kind := r.kind, size := 6 } .parity s (parityEnd r s) := by
  have hr := raiseFault_mild (f := 0x60) (by decide)
    (captureError_mild (a := { master := r.master, addr := r.addr, kind := r.kind, size := 6 }) (src := .parity) h1)
  have hm : Mild 0x61 (errorResponse { master := r.master, addr := r.addr, kind := r.kind, size := 6 } .parity s) :=
    (captureError_mild h2).after_raise hr
  have hs := errorResponse_stands { master := r.master, addr := r.addr, kind := r.kind, size := 6 } .parity s
  have ho := errorResponse_hubOnly (a := { master := r.master, addr := r.addr, kind := r.kind, size := 6 }) (src := .parity) h1
  have hc := errorResponse_captured (a := { master := r.master, addr := r.addr, kind := r.kind, size := 6 }) (src := .parity) h1
  have hr' := raiseFault_mild (f := 0x61) (by decide) hm
  have hc' := raiseFault_capture (f := 0x61) (by decide) hm
  exact ⟨HubOnly.trans ho hr'.hubOnly, hr'.stands, hs.keeps hr'.keepsLatches, hc.of_same hc'⟩

/-! ## O42 -/

/-- Settles O42: slots by their pick, the allotment, the counters, and DRAM. -/
theorem wheelGrantsAndDramRefreshes : Obligations.WheelGrantsAndDramRefreshes := by
  refine ⟨⟨fun s h => ?_, fun i r s h hm hr ho hp hu => ?_, fun r s h hm hr ho hp hk => ?_, fun r s h hm hr ho hp hk => ?_,
    fun r s h ho hp h1 h2 => ?_, fun s h1 h2 => ?_, fun s h => ?_, fun m v s h h1 => ?_, fun m v s h h1 => ?_⟩,
    fun s h => ?_, fun s h hp hm => ?_, fun ok s h => ?_, fun s h => ?_, fun s h => ?_, fun m v s h h1 => ?_,
    fun m v s h h1 => ?_⟩
  · have hn := slotOf_idle (slotPick_nil s ((mapNow s).getD s.fabric.pos.val 0))
    have hx := wheelSlot_none s
    rw [h] at hx
    refine congrArg Host.Outcome.next ((hx.trans hn).trans ?_)
    rw [List.map_nil, ← h]
  · have hw : waitClass { req := r, since := 0 } = some 2 := by
      rw [waitClass, hm]
      rfl
    obtain ⟨k1, k2⟩ := countGrant_class (k := (mapNow s).getD s.fabric.pos.val 0) hw s.fabric
    have hj := wheelSlot_joins hr ho hp
    rw [h] at hj
    have hx := hj.trans (slotOf_single (slotPick_core hw rfl _))
    generalize (mapNow s).getD s.fabric.pos.val 0 = k at *
    obtain ⟨d, et⟩ := traceCapture_frame r (granted k { req := r, since := 0 } s)
    obtain ⟨x, es, hd⟩ := serveGrant_up (s := traceCapture r (granted k { req := r, since := 0 } s)) (r := r) (by
      rw [et]
      exact hu)
    rw [et] at es hd
    have hb : grantBurst r (serveGrant r (traceCapture r (granted k { req := r, since := 0 } s))) =
        { granted k { req := r, since := 0 } s with dbg := d, dramc := x } := by
      rw [et, es, grantBurst, if_neg (by rw [hm]; exact Master.noConfusion)]
    exact ⟨_, congrArg Host.Outcome.next (hx.trans hb), rfl, rfl, k1, k2, rfl, hd⟩
  · have hw : waitClass { req := r, since := 0 } = some 0 := by
      rw [waitClass, hm]
      rfl
    obtain ⟨k1, k2⟩ := countGrant_class (k := (mapNow s).getD s.fabric.pos.val 0) hw s.fabric
    have hj := wheelSlot_joins hr ho hp
    rw [h] at hj
    have hx := hj.trans (slotOf_single ((slotPick_video hw _).trans (if_pos hk)))
    generalize (mapNow s).getD s.fabric.pos.val 0 = k at *
    obtain ⟨d, et⟩ := traceCapture_frame r (granted k { req := r, since := 0 } s)
    obtain ⟨x, es⟩ := serveGrant_video hm (traceCapture r (granted k { req := r, since := 0 } s))
    rw [et] at es
    have hb : grantBurst r (serveGrant r (traceCapture r (granted k { req := r, since := 0 } s))) =
        { granted k { req := r, since := 0 } s with
          dbg := d, dramc := x, video := { s.video with granted := s.video.granted + 1 } } := by
      rw [et, es, grantBurst, if_pos hm]
      rfl
    exact ⟨_, congrArg Host.Outcome.next (hx.trans hb), rfl, rfl, k1⟩
  · have hw : waitClass { req := r, since := 0 } = some 0 := by
      rw [waitClass, hm]
      rfl
    have hj := wheelSlot_joins hr ho hp
    rw [h] at hj
    have hx := hj.trans (slotOf_idle ((slotPick_video hw _).trans (if_neg hk)))
    exact ⟨_, congrArg Host.Outcome.next hx, rfl, rfl, rfl⟩
  · obtain ⟨ho', k1, k2, k3⟩ := parityEnd_raises (r := r) h1 h2
    have hq : (parityEnd r s).fabric = s.fabric := by rw [ho']
    have hj := wheelSlot_parity ho hp
    rw [hq, h] at hj
    have hx := hj.trans (slotOf_idle (slotPick_nil (parityEnd r s) _))
    have hc := ho'.counters
    have hmem := ho'.memSame
    generalize parityEnd r s = x at *
    refine ⟨_, congrArg Host.Outcome.next hx, k1, k2, k3.valid, fun hv => ?_, rfl, ?_, hc, hmem⟩
    · obtain ⟨e1, -, -, -, -, e2, -⟩ := k3.first hv
      exact ⟨e2, e1⟩
    · dsimp only
      rw [hq]
  · exact congrArg Host.Outcome.next (if_pos ⟨h1, h2⟩)
  · exact congrArg Host.Outcome.next (if_neg fun e => h.elim (fun h => Bool.false_ne_true (h.symm.trans e.1)) fun h => h e.2)
  · exact (exec_of_granted (i := .fabCntClr m v) rfl h (by decide)).trans (congrArg Host.Outcome.next (if_pos h1))
  · exact (exec_of_granted (i := .fabCntClr m v) rfl h (by decide)).trans
      (congrArg Host.Outcome.next (if_neg (by rw [h1]; exact Bool.false_ne_true)))
  · exact congrArg Host.Outcome.next (if_pos h)
  · exact ⟨_, congrArg Host.Outcome.next (if_pos h), setCond_rises (f := 0x62) (by decide) hp hm⟩
  · exact congrArg Host.Outcome.next (if_neg (by rw [h]; exact Bool.false_ne_true))
  · exact ⟨_, congrArg Host.Outcome.next (if_pos h), rfl⟩
  · exact congrArg Host.Outcome.next (if_neg (by rw [h]; exact Bool.false_ne_true))
  · exact (exec_of_granted (i := .drCntClr m v) rfl h (by decide)).trans (congrArg Host.Outcome.next (if_pos h1))
  · exact (exec_of_granted (i := .drCntClr m v) rfl h (by decide)).trans
      (congrArg Host.Outcome.next (if_neg (by rw [h1]; exact Bool.false_ne_true)))

end Sys2Proof.Machine
end

section
/-! The Till's engine (R360-R369): the bytes of a record, what the pointers' update leaves, and the ends of a write. -/

namespace Sys2Proof.Machine

/-! ## The bytes of a record (R360) -/

theorem slice_append_left {a b : List Byte} {o n : Nat} (h : o + n ≤ a.length) : slice (a ++ b) o n = slice a o n := by
  rw [slice_of_le (by rw [List.length_append]; omega), slice_of_le h, List.drop_append_of_le_length (by omega),
    List.take_append_of_le_length (by rw [List.length_drop]; omega)]

theorem slice_append_right {a b : List Byte} {o n : Nat} (h : a.length ≤ o) :
    slice (a ++ b) o n = slice b (o - a.length) n := by
  unfold slice
  rw [List.drop_append, List.drop_eq_nil_of_le h, List.nil_append]

theorem slice_append_self {a b : List Byte} {n : Nat} (h : a.length = n) : slice (a ++ b) 0 n = a := by
  rw [slice_append_left (by omega), slice_whole h]

/-- The first 48 bytes of a record. -/
def recordPlate (s : State) (typ subtype : BitVec 16) (counter : Byte) (mode : BitVec 4) (hostWord : Word) (len : Nat) :
    List Byte :=
  toLe s.till.next 8 ++ (toLe s.rtc.sec 6
    ++ [(if s.rtc.valid then 1 else 0) ||| (if s.rtc.lost then 2 else 0), mode.setWidth 8]
    ++ toLe s.devtime 8 ++ toLe typ 2 ++ toLe subtype 2 ++ toLe (BitVec.ofNat 16 len) 2 ++ [counter, 0]
    ++ toLe hostWord 4 ++ List.replicate 12 0)

theorem recordHead_eq (s : State) (typ subtype : BitVec 16) (counter : Byte) (mode : BitVec 4) (hostWord : Word)
    (body : List Byte) : recordHead s typ subtype counter mode hostWord body =
      recordPlate s typ subtype counter mode hostWord body.length ++ slice body 0 160 := by
  simp only [recordHead, recordPlate, List.append_assoc]

theorem recordPlate_length (s : State) (typ subtype : BitVec 16) (counter : Byte) (mode : BitVec 4) (hostWord : Word)
    (len : Nat) : (recordPlate s typ subtype counter mode hostWord len).length = 48 := by
  simp only [recordPlate, List.length_append, toLe_length, List.length_cons, List.length_nil, List.length_replicate]

/-- The parts of a record with its head, its chain value and its commit word. -/
theorem fullRecord_parts {prev hd : List Byte} (h : hd.length = 208) : (fullRecord prev hd).length = 256 ∧
    (fullRecord prev hd).take 208 = hd ∧ (fullRecord prev hd).drop 252 = toLe (0xC044_17ED : Word) 4 ∧
    slice (fullRecord prev hd) 208 32 = sha256 (prev ++ hd) := by
  have hs : (sha256 (prev ++ hd)).length = 32 := sha256_length _
  refine ⟨?_, ?_, ?_, ?_⟩
  · simp only [fullRecord, List.length_append, h, hs, List.length_replicate, toLe_length]
  · rw [fullRecord, List.append_assoc, List.append_assoc, List.take_left' h]
  · rw [fullRecord, List.drop_left' (by simp only [List.length_append, h, hs, List.length_replicate])]
    rfl
  · rw [fullRecord, List.append_assoc, List.append_assoc, slice_append_right (by omega), h]
    exact slice_append_self hs

/-- A record of the engine: length, SEQ, commit word and chain value. -/
theorem record_fields (s : State) (prev : List Byte) (typ subtype : BitVec 16) (counter : Byte) (mode : BitVec 4)
    (hostWord : Word) (body : List Byte) :
    let r := fullRecord prev (recordHead s typ subtype counter mode hostWord body)
    r.length = 256 ∧ r.take 8 = toLe s.till.next 8 ∧ r.drop 252 = toLe (0xC044_17ED : Word) 4 ∧
      slice r 208 32 = sha256 (prev ++ r.take 208) ∧
      ∀ o n, o + n ≤ 160 → slice r (48 + o) n = slice (slice body 0 160) o n := by
  have hp := recordPlate_length s typ subtype counter mode hostWord body.length
  have hl : (recordHead s typ subtype counter mode hostWord body).length = 208 := by
    rw [recordHead_eq, List.length_append, hp, slice_length]
  obtain ⟨h1, h2, h3, h4⟩ := fullRecord_parts (prev := prev) hl
  refine ⟨h1, ?_, h3, by rw [h4, h2], fun o n ho => ?_⟩
  · rw [fullRecord, recordHead_eq, recordPlate]
    simp only [List.append_assoc]
    exact List.take_left' (toLe_length _ 8)
  · rw [fullRecord, recordHead_eq]
    simp only [List.append_assoc]
    rw [slice_append_right (by omega), hp, Nat.add_sub_cancel_left,
      slice_append_left (by rw [slice_length]; omega)]

/-! ## The update of the pointers (R365, R367) -/

/-- What stands stays while a condition changes, the raise that goes with it included. -/
theorem setCond_keepsLatches (f : Byte) (b : Bool) (s : State) : KeepsLatches s (setCond f b s) := by
  unfold setCond
  split_ifs
  · exact .refl s
  · exact .trans (t := { s with hub := { s.hub with present := setBit s.hub.present f.toNat true } }) (.of_eq rfl rfl)
      (raiseWith_keepsLatches true f _)
  · exact .of_eq rfl rfl

theorem tillSync_keepsLatches (s : State) : KeepsLatches s (tillSync s) := by
  unfold tillSync
  split
  · exact .trans (t := { s with till := { s.till with free := BitVec.ofNat 16 (tillFree s.till) } }) (.of_eq rfl rfl)
      (setCond_keepsLatches _ _ _)
  · exact .refl s

/-- TL_FREE and TILL_FULL follow; at most an admission ends. -/
theorem tillSync_mild {s : State} (h : Mild 0xE2 s) : ∃ free rsv hb adm wait, tillSync s = { s with
    till := { s.till with free := free, rsv := rsv }, hub := hb
    sinov := { s.sinov with admission := adm, admitWait := wait } } := by
  unfold tillSync
  split
  · dsimp only
    generalize BitVec.ofNat 16 (tillFree s.till) = free
    generalize decide (tillFreeCmd { s with till := { s.till with free := free } } = 0) = b
    cases b with
    | false => exact ⟨free, s.till.rsv, _, s.sinov.admission, s.sinov.admitWait, rfl⟩
    | true =>
      by_cases hp : s.hub.present.getLsbD 0xE2 = true
      · exact ⟨free, s.till.rsv, s.hub, s.sinov.admission, s.sinov.admitWait, (if_pos rfl).trans (if_pos hp)⟩
      · obtain ⟨-, -, -, -, -, e⟩ := setCond_rises (f := 0xE2) (s := { s with till := { s.till with free := free } })
          (by decide) (Bool.eq_false_iff.mpr hp) h
        exact ⟨free, _, _, _, _, e⟩
  · exact ⟨s.till.free, s.till.rsv, s.hub, s.sinov.admission, s.sinov.admitWait, rfl⟩

/-! ## The ends of a write (R361, R366, R368) -/

theorem recordDone_frame (r : List Byte) (s : State) : recordDone r s = { s with
    mem := s.mem.writeAll (slotAddr s.till.next.toNat) r
    till := { s.till with
      busy := false, op := .none, lastOk := true, lastTorn := false, tornRun := 0
      head := s.till.next, next := s.till.next + 1, chain := digestOf (slice r 208 32) } } := rfl

/-- What a write that has ended leaves, when no record of Sinov's was in the engine. -/
theorem wantDone_staged {ok : Bool} {q : BitVec 64} {s : State} (h : s.sinov.inEngine = false) : wantDone ok q s = s :=
  if_neg (by rw [h]; exact Bool.false_ne_true)

theorem commitDone_commit {ok : Bool} {r : List Byte} {s : State} (h : s.till.op = .commit r) :
    commitDone ok s = wantDone ok s.till.next (if ok then tillSync (recordDone r s) else recordTorn s) := by
  have hc : committing s = true := by
    unfold committing
    rw [h]
  have he : engineDone ok s = if ok then tillSync (recordDone r s) else recordTorn s := by
    unfold engineDone
    rw [h]
  rw [commitDone, hc, he, Bool.true_or, if_pos rfl]

/-- The bytes of a torn slot: its commit word reads as zeros. -/
def tornBytes (s : State) : List Byte :=
  (List.range 252).map (fun i => Config.freeByte (s.freeCtr + i)) ++ [0, 0, 0, 0]

theorem tornBytes_length (s : State) : (tornBytes s).length = 256 := by
  simp only [tornBytes, List.length_append, List.length_map, List.length_range, List.length_cons, List.length_nil]

theorem tornBytes_torn (s : State) : committed (tornBytes s) = false := by
  have h : fieldLe (tornBytes s) 252 4 = 0 := by
    rw [tornBytes, fieldLe_append_right (by rw [List.length_map, List.length_range]), List.length_map, List.length_range]
    decide
  rw [committed, h]
  decide

/-- The state after a torn write, before its fault is raised. -/
def tornState (s : State) : State :=
  { s with
    mem := s.mem.writeAll (slotAddr s.till.next.toNat) (tornBytes s), freeCtr := s.freeCtr + 252
    till := { s.till with
      busy := false, op := .none, lastOk := false, lastTorn := true, tornRun := s.till.tornRun + 1
      next := s.till.next + 1, torn := s.till.torn + 1
      oldest := if decide (tillSlots ≤ s.till.next.toNat - s.till.oldest.toNat) then s.till.oldest + 1
        else s.till.oldest } }

theorem recordTorn_eq (s : State) : recordTorn s = tillSync (raiseFault 0xE0 (tornState s)) := by
  unfold recordTorn countTorn tornState tornBytes memPut
  dsimp only

/-- A write that ends torn takes NEXT_SEQ and raises its fault. -/
theorem recordTorn_frame {s : State} (h1 : Mild 0xE2 s) (h2 : Mild 0xE0 s) : ∃ free rsv hb adm wait,
    recordTorn s = { tornState s with
      till := { (tornState s).till with free := free, rsv := rsv }, hub := hb
      sinov := { (tornState s).sinov with admission := adm, admitWait := wait } } ∧ Stands 0xE0 (recordTorn s) := by
  have hx1 : Mild 0xE2 (tornState s) := h1.same ⟨s.hub.present, rfl⟩ rfl
  have hx2 : Mild 0xE0 (tornState s) := h2.same ⟨s.hub.present, rfl⟩ rfl
  rw [recordTorn_eq]
  generalize tornState s = x at *
  have hr := raiseFault_mild (f := 0xE0) (by decide) hx2
  obtain ⟨free, rsv, hb, adm, wait, e⟩ := tillSync_mild (hx1.after_raise hr)
  have hs := hr.stands.keeps (tillSync_keepsLatches _)
  obtain ⟨-, -, -, -, -, er⟩ := hr
  rw [er] at e
  rw [er]
  rw [er] at hs
  exact ⟨_, _, _, _, _, e, hs⟩

end Sys2Proof.Machine
end

section
/-! Records commit or tear (R360-R366), and the settling of O35. -/

namespace Sys2Proof.Machine

/-- TL_CMD with OP COMMIT. -/
theorem tlCmd_commit (rsv : Bool) (s : State) : tlCmd (if rsv then 5 else 1) s = commitCmd rsv s := by
  cases rsv <;> rfl

theorem exec_of_till {i : Instr} {m : Master} {v : Word} {s : State}
    (hi : exec i s = .next (regWrite m 0x1E 0x00 v s)) (h : Granted m 0x1E 0x00 v s) : exec i s = .next (tlCmd v s) :=
  exec_of_granted hi h (by decide)

/-- The engine takes no second write. -/
theorem commitCmd_busy {rsv : Bool} {s : State} (h : s.till.busy = true) : commitCmd rsv s = s := if_pos h

theorem idle_of_engineFree {rsv : Bool} {s : State} (h : engineFree rsv s = true) : s.till.busy = false := by
  unfold engineFree at h
  simp only [Bool.and_eq_true, Bool.not_eq_true'] at h
  exact h.1.1.1.1.1

theorem commitCmd_staged {rsv : Bool} {s : State} (hw : s.sinov.wants = []) (h : engineFree rsv s = true) :
    commitCmd rsv s = tillStart rsv s := by
  rw [commitCmd, if_neg (by rw [idle_of_engineFree h]; exact Bool.false_ne_true), hw]

/-- What a record that has committed leaves of memory and of the engine. -/
structure RecordDone (r : List Byte) (s t : State) : Prop where
  mem : t.mem = s.mem.writeAll (slotAddr s.till.next.toNat) r
  head : t.till.head = s.till.next
  next : t.till.next = s.till.next + 1
  chain : t.till.chain = digestOf (slice r 208 32)
  lastOk : t.till.lastOk = true
  tornRun : t.till.tornRun = 0
  busy : t.till.busy = false
  oldest : t.till.oldest = s.till.oldest
  counters : t.counters = s.counters
  docket : t.docket = s.docket
  wants : t.sinov.wants = s.sinov.wants
  inEngine : t.sinov.inEngine = s.sinov.inEngine
  offCause : t.ps.offCause = s.ps.offCause

theorem recordSync_done {r : List Byte} {s : State} (h : Mild 0xE2 s) : RecordDone r s (tillSync (recordDone r s)) := by
  have hm : Mild 0xE2 (recordDone r s) := h.same ⟨s.hub.present, rfl⟩ rfl
  obtain ⟨free, rsv, hb, adm, wait, e⟩ := tillSync_mild hm
  rw [e, recordDone_frame]
  exact ⟨rfl, rfl, rfl, rfl, rfl, rfl, rfl, rfl, rfl, rfl, rfl, rfl, rfl⟩

/-- What a write that ends torn leaves of memory and of the engine. -/
structure TornDone (s t : State) : Prop where
  mem : t.mem = s.mem.writeAll (slotAddr s.till.next.toNat) (tornBytes s)
  head : t.till.head = s.till.head
  next : t.till.next = s.till.next + 1
  chain : t.till.chain = s.till.chain
  lastTorn : t.till.lastTorn = true
  torn : t.till.torn = s.till.torn + 1
  tornRun : t.till.tornRun = s.till.tornRun + 1
  counters : t.counters = s.counters
  inEngine : t.sinov.inEngine = s.sinov.inEngine
  stands : Stands 0xE0 t

theorem tornState_mem (s : State) : (tornState s).mem = s.mem.writeAll (slotAddr s.till.next.toNat) (tornBytes s) := by
  rw [tornState]

theorem recordTorn_done {s : State} (h1 : Mild 0xE2 s) (h2 : Mild 0xE0 s) : TornDone s (recordTorn s) := by
  obtain ⟨free, rsv, hb, adm, wait, e, hs⟩ := recordTorn_frame h1 h2
  rw [e] at hs ⊢
  refine ⟨?_, rfl, rfl, rfl, rfl, rfl, rfl, rfl, rfl, hs⟩
  dsimp only
  exact tornState_mem s

/-- Where no ESC_OFF waits for its record, an end of a record switches nothing off. -/
theorem offRecord_keeps {s : State} (h : s.ps.offCause ≠ .escOff) : offRecord s = s := if_neg fun e => h e.1

/-- A record of Sinov's that is answered with its SEQ. -/
theorem wantDone_replies {q : BitVec 64} {w : Want} {n : Fin 8} {s : State} (h : s.sinov.inEngine = true)
    (hw : s.sinov.wants = [w]) (hc : w.cont = .replySeq n) (ho : s.ps.offCause ≠ .escOff) :
    wantDone true q s = answerOk n (toLe s.till.head 8) { s with sinov := { s.sinov with wants := [], inEngine := false } } := by
  have hp : wantDone true q s = offRecord (answerOk n (toLe s.till.head 8)
      { s with sinov := { s.sinov with wants := [], inEngine := false } }) := by
    rw [wantDone, if_pos h]
    dsimp only
    rw [hw]
    dsimp only
    rw [if_pos rfl, hc]
    rfl
  rw [hp]
  refine offRecord_keeps ?_
  rw [answerOk_answered n (toLe s.till.head 8) { s with sinov := { s.sinov with wants := [], inEngine := false } }]
  exact ho

theorem afterReply_frame (n : Fin 8) (st : Status) (g : BitVec 16) (p : List Byte) (s : State) :
    (afterReply n st g p s)[n].frame = .none := by
  rw [afterReply, getElem_set_fin]

theorem afterReply_stored (n : Fin 8) (st : Status) (g : BitVec 16) (p : List Byte) (s : State) :
    (afterReply n st g p s)[n].stored.map (·.reply) =
      some (replyFrame s.counters[n] (frameWaited s.counters[n]) false st.code g p) := by
  rw [afterReply, getElem_set_fin]
  rfl

theorem wantsOf_answered {n : Fin 8} {st : Status} {g : BitVec 16} {p : List Byte} {s t : State}
    {l : List Want} (h : Answered n st g p s t) (hs : s.sinov.wants = l) : t.sinov.wants = l := by
  rw [h]
  exact hs

/-- Settles O35: the start of a write, its end committed and torn, and the reply that waits for it. -/
theorem recordsCommitOrTear : Obligations.RecordsCommitOrTear := by
  refine ⟨fun m rsv s h hw hf => ?_, fun m rsv s h hb => ?_, fun s r hsnd h hi hm => ?_, fun s r h hi hm h0 => ?_,
    fun s rcd w n h hi hw hc ho hm => ?_⟩
  · have hx := (exec_of_till (i := .tlCommitOp m rsv) rfl h).trans (congrArg Host.Outcome.next
      ((tlCmd_commit rsv s).trans ((commitCmd_staged hw hf).trans (if_pos hf))))
    obtain ⟨h1, h2, h3, h4, -⟩ := record_fields s (chainPrev s) s.till.typ s.till.subtype s.till.counter s.till.mode
      s.till.hostWord ((s.till.body.toList.flatMap fun w => toLe w 4).take (min s.till.len.toNat 160))
    exact ⟨_, _, hx, rfl, h1, h2, h3, h4⟩
  · exact (exec_of_till (i := .tlCommitOp m rsv) rfl h).trans (congrArg Host.Outcome.next
      ((tlCmd_commit rsv s).trans (commitCmd_busy hb)))
  · have hd := recordSync_done (r := r) hm
    have hx := (commitDone_commit (ok := true) h).trans (wantDone_staged (hd.inEngine.trans hi))
    rw [if_pos rfl] at hx
    refine ⟨_, congrArg Host.Outcome.next hx, ?_, fun a ha => ?_, hd.head, hd.next, hd.chain, hd.lastOk, hd.tornRun, hd.busy,
      hd.oldest, hd.counters, hd.docket⟩
    · rw [hd.mem]
      exact Mem.readAll_writeAll hsnd
    · rw [memByte, hd.mem]
      exact Mem.read_writeAll_other ha
  · have hd := recordTorn_done hm h0
    have hx := (commitDone_commit (ok := false) h).trans (wantDone_staged (hd.inEngine.trans hi))
    rw [if_neg Bool.false_ne_true] at hx
    refine ⟨_, congrArg Host.Outcome.next hx, hd.stands, fun hsnd => ?_, fun a ha => ?_, hd.head, hd.next, hd.chain,
      hd.lastTorn, hd.torn, hd.tornRun, hd.counters⟩
    · rw [slotBytes, hd.mem]
      have hr := Mem.readAll_writeAll (a := slotAddr s.till.next.toNat) (bs := tornBytes s) hsnd
      rw [tornBytes_length s] at hr
      rw [hr]
      exact tornBytes_torn s
    · rw [memByte, hd.mem]
      exact Mem.read_writeAll_other (by rw [tornBytes_length]; exact ha)
  · have hd := recordSync_done (r := rcd) hm
    have hx := (commitDone_commit (ok := true) h).trans (wantDone_replies (hd.inEngine.trans hi) (hd.wants.trans hw) hc
      (fun e => ho (hd.offCause.symm.trans e)))
    rw [if_pos rfl, hd.head] at hx
    have ha := answerOk_answered n (toLe s.till.next 8) { tillSync (recordDone rcd s) with
      sinov := { (tillSync (recordDone rcd s)).sinov with wants := [], inEngine := false } }
    have hcn := congrArg State.counters ha
    exact ⟨_, congrArg Host.Outcome.next hx, wantsOf_answered ha rfl, (congrArg (fun v => v[n].frame) hcn).trans
      (afterReply_frame ..), ha.otherCounters.congr hd.counters, (congrArg (fun v => v[n].stored.map (·.reply)) hcn).trans
      ((afterReply_stored ..).trans (by rw [hd.counters]))⟩

end Sys2Proof.Machine
end

section
/-! Release, the stop after four torn records, the scan and the chain walk (R364-R369), and the settling of O36. -/

namespace Sys2Proof.Machine

/-! ## Release (R368) -/

theorem tlCmd_release (rsv : Bool) (s : State) : tlCmd (if rsv then 6 else 2) s = releaseCmd rsv s := by
  cases rsv <;> rfl

theorem releaseCmd_busy {rsv : Bool} {s : State} (h : s.till.busy = true) : releaseCmd rsv s = s := if_pos h

theorem idle_of_releaseFree {rsv : Bool} {u : BitVec 64} {s : State} (h : releaseFree rsv u s = true) :
    s.till.busy = false := by
  unfold releaseFree at h
  simp only [Bool.and_eq_true, Bool.not_eq_true'] at h
  exact h.1.1.1.1.1.1

theorem releaseCmd_staged {rsv : Bool} {s : State} (hw : s.sinov.wants = []) (h : releaseFree rsv s.till.upto s = true) :
    releaseCmd rsv s = tillRelease rsv s := by
  rw [releaseCmd, if_neg (by rw [idle_of_releaseFree h]; exact Bool.false_ne_true), hw]

theorem releaseBase_length (s : State) (u : Nat) : (releaseBase s u).length = 32 := by
  unfold releaseBase
  dsimp only
  split
  · next c hc =>
    obtain ⟨i, -, hi⟩ := List.exists_of_findSome?_eq_some hc
    split at hi
    · rw [← Option.some.inj hi, slice_length]
    · exact absurd hi (by simp)
  · exact digestBytes_length _

/-- The released record's SEQ and its base stand first in the body of a release record. -/
theorem releaseBody_fields (s : State) (u : BitVec 64) : slice (releaseBody s u) 0 8 = toLe u 8 ∧
    slice (releaseBody s u) 8 32 = releaseBase s u.toNat := by
  have hl := releaseBase_length s u.toNat
  rw [releaseBody, List.append_assoc]
  refine ⟨slice_append_self (toLe_length u 8), ?_⟩
  rw [slice_append_right (by rw [toLe_length]), toLe_length]
  exact slice_append_self hl

/-- A slice of a body's first bytes is the body's. -/
theorem slice_slice {b : List Byte} {o n : Nat} (h : o + n ≤ b.length) (hb : b.length ≤ 160) :
    slice (slice b 0 160) o n = slice b o n := by
  have e : slice b 0 160 = b ++ List.replicate (160 - b.length) 0 := by
    unfold slice
    rw [List.drop_zero, List.take_of_length_le hb]
  rw [e, slice_append_left h]

theorem releaseBody_length (s : State) (u : BitVec 64) : (releaseBody s u).length = 44 := by
  simp only [releaseBody, List.length_append, toLe_length, releaseBase_length]

theorem releaseDone_release {r : List Byte} {u : BitVec 64} {s : State} (h : s.till.op = .release r u) :
    releaseDone s = wantDone true s.till.next (tillSync (releaseEffect u (slice r 56 32) (recordDone r s))) := by
  have hr : releasingOp s = true := by
    unfold releasingOp
    rw [h]
  have he : engineDone true s = tillSync (releaseEffect u (slice r 56 32) (recordDone r s)) := by
    unfold engineDone
    rw [h]
    exact if_pos rfl
  rw [releaseDone, if_pos hr, he]

/-- What a release leaves of memory and of the engine. -/
structure ReleaseDone (r : List Byte) (u : BitVec 64) (s t : State) : Prop where
  mem : t.mem = s.mem.writeAll (slotAddr s.till.next.toNat) r
  oldest : t.till.oldest = u + 1
  base : t.till.base = digestOf (slice r 56 32)
  head : t.till.head = s.till.next
  next : t.till.next = s.till.next + 1
  counters : t.counters = s.counters
  inEngine : t.sinov.inEngine = s.sinov.inEngine

theorem releaseSync_done {r : List Byte} {u : BitVec 64} {s : State} (h : Mild 0xE2 s) :
    ReleaseDone r u s (tillSync (releaseEffect u (slice r 56 32) (recordDone r s))) := by
  have hm : Mild 0xE2 (releaseEffect u (slice r 56 32) (recordDone r s)) := h.same ⟨s.hub.present, rfl⟩ rfl
  obtain ⟨free, rsv, hb, adm, wait, e⟩ := tillSync_mild hm
  rw [e, recordDone_frame]
  exact ⟨rfl, rfl, rfl, rfl, rfl, rfl, rfl⟩

/-! ## Four torn records in a row (R366) -/

/-- With no record free, the end of an admission leaves TILL_FULL's condition. -/
theorem lapseAdmission_full {s : State} (hp : s.hub.present.getLsbD 0xE2 = true) (hf : s.till.free = 0) :
    (lapseAdmission s).hub.present.getLsbD 0xE2 = true := by
  unfold lapseAdmission
  split
  · dsimp only
    rw [hp, hf]
    exact (getLsbD_setBit _ 0xE2 _ (by decide)).trans (if_pos rfl)
  · exact hp

theorem raiseTimer_full {f : Byte} {c : Option (BitVec 2)} {s : State} (hp : s.hub.present.getLsbD 0xE2 = true)
    (hf : s.till.free = 0) : (raiseTimer f c s).hub.present.getLsbD 0xE2 = true := by
  unfold raiseTimer
  split
  · exact hp
  · split
    · exact hp
    · exact lapseAdmission_full hp hf
    · exact lapseAdmission_full hp hf

/-- A fault whose column is not SPOIL, where no action begins at once, raises its bits and starts its timer. -/
theorem raiseFault_plain {f : Byte} {s : State} (hrow : (faultRow f.toNat 0).isSome = true)
    (hs : spoilsAtOnce f true = false) (hn : NoAction f s) :
    raiseFault f s = raiseTimer f (raiseClass f s) (raiseBits f s) := by
  obtain ⟨row, hr⟩ := Option.isSome_iff_exists.mp hrow
  unfold raiseFault raiseWith
  simp only [hr, raiseAction_noAction hn, hs, Bool.false_eq_true, if_false]

theorem setCond_full {s : State} (h : Mild 0xE2 s) (hf : s.till.free = 0) :
    (setCond 0xE2 true s).hub.present.getLsbD 0xE2 = true ∧ (setCond 0xE2 true s).till.free = 0 := by
  by_cases hp : s.hub.present.getLsbD 0xE2 = true
  · have e : setCond 0xE2 true s = s := (if_pos rfl).trans (if_pos hp)
    rw [e]
    exact ⟨hp, hf⟩
  · obtain ⟨-, -, -, -, -, e⟩ := setCond_rises (f := 0xE2) (by decide) (Bool.eq_false_iff.mpr hp) h
    refine ⟨?_, by rw [e]; exact hf⟩
    have hr : setCond 0xE2 true s =
        raiseFault 0xE2 { s with hub := { s.hub with present := setBit s.hub.present 0xE2 true } } :=
      (if_pos rfl).trans (if_neg hp)
    rw [hr, raiseFault_plain (s := { s with hub := { s.hub with present := setBit s.hub.present 0xE2 true } })
      (by decide) (by decide) h.1]
    exact raiseTimer_full ((getLsbD_setBit _ 0xE2 _ (by decide)).trans (if_pos rfl)) hf

/-- The engine's update with no record free: TILL_FULL stands. -/
theorem tillSync_full {s : State} (hs : s.till.scanned = true) (hf : tillFree s.till = 0) (h : Mild 0xE2 s) :
    (tillSync s).hub.present.getLsbD 0xE2 = true ∧ (tillSync s).till.free = 0 := by
  have e : tillSync s = setCond 0xE2 true { s with till := { s.till with free := 0 } } := by
    unfold tillSync
    rw [if_pos hs, hf]
    have h0 : tillFreeCmd { s with till := { s.till with free := BitVec.ofNat 16 0 } } = 0 := Nat.zero_sub _
    simp only [h0, decide_true]
    rfl
  rw [e]
  exact setCond_full h rfl

theorem stopTill_stops {s : State} (h : 4 ≤ s.till.tornRun) (hn : s.till.stopped = false) (hw : s.sinov.wants = []) :
    stopTill s = tillSync { s with
      till := { s.till with stopped := true }, sinov := { s.sinov with wants := [], inEngine := false } } := by
  rw [stopTill, if_pos ⟨h, hn⟩, hw]
  rfl

/-! ## The scan (R369) -/

theorem scanStart_busy {s : State} (h : s.till.busy = true) : scanStart s = s := if_pos h

theorem scanStart_free {s : State} (h : s.till.busy = false) :
    scanStart s = { s with till := { s.till with busy := true, op := .scan } } :=
  if_neg (by rw [h]; exact Bool.false_ne_true)

theorem eq_replicate_of_zeros {l : List Byte} (h : l.all (· == 0) = true) : l = List.replicate l.length 0 :=
  List.eq_replicate_iff.mpr ⟨rfl, fun b hb => eq_of_beq (List.all_eq_true.mp h b hb)⟩

/-- A slot of zeros is an empty slot. -/
theorem committed_zeros {l : List Byte} (h : l.all (· == 0) = true) : committed l = false := by
  have hz : fieldLe l 252 4 = 0 := by
    rw [fieldLe_eq, eq_replicate_of_zeros h, List.drop_replicate, List.take_replicate, natLe_replicate_zero]
  rw [committed, hz]
  decide

/-- An empty slot at NEXT_SEQ: the pointers are those of the scan. -/
theorem classifyNext_empty {s : State} (h : (slotBytes s s.till.next.toNat).all (· == 0) = true) : classifyNext s = s := by
  have ht : ((slotBytes s s.till.next.toNat).take 252).all (· == 0) = true :=
    List.all_eq_true.mpr fun b hb => List.all_eq_true.mp h b (List.mem_of_mem_take hb)
  unfold classifyNext
  dsimp only
  rw [committed_zeros h, if_neg Bool.false_ne_true, if_pos ht]

/-- The state in which a scan has established the pointers. -/
def scanned (a : Scan) (s : State) : State :=
  { s with till := { s.till with
    busy := false, op := .none, scanned := true, head := BitVec.ofNat 64 a.head, next := BitVec.ofNat 64 (a.head + 1)
    oldest := if a.rel = 0 then 1 else BitVec.ofNat 64 (fieldLe (slotBytes s a.rel) 48 8 + 1)
    base := if a.rel = 0 then digestOf anchor else digestOf (slice (slotBytes s a.rel) 56 32)
    chain := if a.head = 0 then s.till.chain else digestOf (slice (slotBytes s a.head) 208 32)
    torn := s.till.torn + BitVec.ofNat 32 a.bad, chainBreak := s.till.chainBreak || decide (a.bad ≠ 0) } }

theorem scanEnd_clean {s : State} (h : s.till.op = .scan) (hb : (scanAll s).bad = 0) :
    scanEnd s = tillSync (classifyNext (scanned (scanAll s) s)) := by
  rw [scanEnd, if_pos h]
  dsimp only
  rw [if_pos hb]
  rfl

theorem toNat_scanned {n : Nat} (h : n < 2 ^ 64) : (BitVec.ofNat 64 n).toNat = n := by
  rw [BitVec.toNat_ofNat, Nat.mod_eq_of_lt h]

/-- What a clean scan leaves: the pointers, and at most TILL_FULL. -/
theorem scanEnd_frame {s : State} (h : s.till.op = .scan) (hb : (scanAll s).bad = 0) (hh : (scanAll s).head < 2 ^ 63)
    (hz : (slotBytes s ((scanAll s).head + 1)).all (· == 0) = true) (hm : Mild 0xE2 s) : ∃ free rsv hb adm wait,
    scanEnd s = { scanned (scanAll s) s with
      till := { (scanned (scanAll s) s).till with free := free, rsv := rsv }, hub := hb
      sinov := { s.sinov with admission := adm, admitWait := wait } } := by
  rw [scanEnd_clean h hb]
  generalize scanAll s = a at *
  have hn : (scanned a s).till.next.toNat = a.head + 1 := toNat_scanned (by omega)
  have hs : slotBytes (scanned a s) (scanned a s).till.next.toNat = slotBytes s (a.head + 1) := by rw [hn]; rfl
  rw [classifyNext_empty (by rw [hs]; exact hz)]
  exact tillSync_mild (hm.same (t := scanned a s) ⟨s.hub.present, rfl⟩ rfl)

/-! ## The chain walk (R364, R368) -/

theorem chainBreakOp_found {s : State} {q : Nat} (h : walking s = true) (hq : nextBreak s = some q) :
    chainBreakOp s = raiseFault 0xE1 { s with till := { s.till with chainBreak := true, walkAt := q + 1 } } := by
  rw [chainBreakOp, if_pos h, hq]

theorem chainBreakOp_none {s : State} (h : walking s = false ∨ nextBreak s = none) : chainBreakOp s = s := by
  unfold chainBreakOp
  rcases h with h | h
  · rw [h, if_neg Bool.false_ne_true]
  · rw [h, ite_self]

theorem walkDoneOp_done {s : State} (h : walking s = true) (hq : nextBreak s = none) :
    walkDoneOp s = { s with till := { s.till with walkDone := true } } := by
  rw [walkDoneOp, h, hq]
  rfl

theorem walkDoneOp_waits {s : State} (h : walking s = false ∨ nextBreak s ≠ none) : walkDoneOp s = s := by
  refine if_neg fun e => ?_
  rw [Bool.and_eq_true] at e
  rcases h with h | h
  · exact Bool.false_ne_true (h.symm.trans e.1)
  · exact h (Option.isNone_iff_eq_none.mp e.2)

/-- Settles O36: release, the stop after four torn records, the scan and the chain walk. -/
theorem ledgerReleasesAndScans : Obligations.LedgerReleasesAndScans := by
  refine ⟨fun m rsv s h hw hf => ?_, fun m rsv s h hb => ?_, fun s r u h hi hm => ?_, fun s h hn hw hs hm => ?_,
    fun m s h hb => ?_, fun m s h hb => ?_, fun s h hst hb hh hz hm => ?_, fun s q h hq hm => ?_,
    fun s h => congrArg Host.Outcome.next (chainBreakOp_none h),
    fun s h hq => congrArg Host.Outcome.next (walkDoneOp_done h hq),
    fun s h => congrArg Host.Outcome.next (walkDoneOp_waits h)⟩
  · have hx := (exec_of_till (i := .tlReleaseOp m rsv) rfl h).trans (congrArg Host.Outcome.next
      ((tlCmd_release rsv s).trans ((releaseCmd_staged hw hf).trans (if_pos hf))))
    obtain ⟨-, h1, -, -, h2⟩ := record_fields s (chainPrev s) 0x0050 0 s.till.counter s.till.mode s.till.hostWord
      (releaseBody s s.till.upto)
    obtain ⟨b1, b2⟩ := releaseBody_fields s s.till.upto
    have hl := releaseBody_length s s.till.upto
    refine ⟨_, _, hx, rfl, h1, ?_, ?_⟩
    · rw [h2 0 8 (by decide), slice_slice (by omega) (by omega), b1]
    · rw [h2 8 32 (by decide), slice_slice (by omega) (by omega), b2]
  · exact (exec_of_till (i := .tlReleaseOp m rsv) rfl h).trans (congrArg Host.Outcome.next
      ((tlCmd_release rsv s).trans (releaseCmd_busy hb)))
  · have hd := releaseSync_done (r := r) (u := u) hm
    have hx := (releaseDone_release h).trans (wantDone_staged (hd.inEngine.trans hi))
    refine ⟨_, congrArg Host.Outcome.next hx, hd.oldest, hd.base, hd.head, hd.next, fun a ha => ?_, hd.counters⟩
    rw [memByte, hd.mem]
    exact Mem.read_writeAll_other ha
  · have hx := stopTill_stops h hn hw
    have hy := hm.same (t := { s with
      till := { s.till with stopped := true }, sinov := { s.sinov with wants := [], inEngine := false } })
      ⟨s.hub.present, rfl⟩ rfl
    obtain ⟨hp, hf⟩ := tillSync_full (s := { s with
      till := { s.till with stopped := true }, sinov := { s.sinov with wants := [], inEngine := false } }) hs rfl hy
    obtain ⟨free, rsv, hb, adm, wait, e⟩ := tillSync_mild hy
    refine ⟨_, congrArg Host.Outcome.next hx, ?_, hf, hp, ?_, ?_⟩
    · rw [e]
    · rw [e]
    · rw [e]
      exact memSame_of_mem rfl
  · exact (exec_of_till (i := .tlScanOp m) rfl h).trans (congrArg Host.Outcome.next (scanStart_free hb))
  · exact (exec_of_till (i := .tlScanOp m) rfl h).trans (congrArg Host.Outcome.next (scanStart_busy hb))
  · obtain ⟨free, rsv, hub, adm, wait, e⟩ := scanEnd_frame h hb hh hz hm
    have hx : scanDone s = scanEnd s := by
      rw [scanDone, if_pos h, e]
      exact if_neg hst
    generalize scanAll s = a at *
    refine ⟨_, congrArg Host.Outcome.next (hx.trans e), rfl, rfl, toNat_scanned (by omega), toNat_scanned (by omega),
      fun hr => if_pos hr, rfl, memSame_of_mem rfl⟩
  · exact ⟨_, congrArg Host.Outcome.next (chainBreakOp_found h hq), raiseFault_mild (by decide) hm⟩

end Sys2Proof.Machine
end

section
/-! Several faults raised in one cycle (R71, R153, R156), where none takes an action at once. -/

namespace Sys2Proof.Machine

/-- A mild fault's raise is its bits and its timer. -/
theorem raiseFault_timer {f : Byte} {s : State} (hf : (faultRow f.toNat 0).isSome = true) (h : Mild f s) :
    raiseFault f s = raiseTimer f (raiseClass f s) (raiseBits f s) := by
  obtain ⟨hn, hp⟩ := h
  cases hx : spoilsAtOnce f true with
  | false => exact raiseFault_plain hf hx hn
  | true =>
    have hs : spoilByFault f (raiseBits f s) = raiseBits f s :=
      if_neg (by rw [show pageInFlight (raiseBits f s) = pageInFlight s from rfl, hp hx]; exact Bool.false_ne_true)
    rw [raiseFault_noAction hf hx hn, hs]

/-- What the raise of some faults of the table leaves. -/
structure RaisedAll (fs : List Byte) (s t : State) : Prop where
  hubOnly : HubOnly s t
  stands : ∀ f ∈ fs, Stands f t
  latches : KeepsLatches s t
  present : ∀ g, g ≠ 0xE2 → t.hub.present.getLsbD g = s.hub.present.getLsbD g

/-- Each of several mild faults is RAISED. -/
theorem raiseEach_mild {fs : List Byte} {s : State} (hr : ∀ f ∈ fs, (faultRow f.toNat 0).isSome = true)
    (h : ∀ f ∈ fs, Mild f s) :
    fs.foldl (fun s f => raiseTimer f (raiseClass f s) (raiseBits f s)) s = fs.foldl (fun s f => raiseFault f s) s ∧
      RaisedAll fs s (fs.foldl (fun s f => raiseFault f s) s) := by
  induction fs generalizing s with
  | nil => exact ⟨rfl, rfl, fun f hf => absurd hf List.not_mem_nil, .refl s, fun _ _ => rfl⟩
  | cons f fs ih =>
    have hm := raiseFault_mild (hr f List.mem_cons_self) (h f List.mem_cons_self)
    obtain ⟨he, ht⟩ := ih (s := raiseFault f s) (fun g hg => hr g (List.mem_cons_of_mem f hg))
      (fun g hg => (h g (List.mem_cons_of_mem f hg)).after_raise hm)
    rw [List.foldl_cons, List.foldl_cons, ← raiseFault_timer (hr f List.mem_cons_self) (h f List.mem_cons_self)]
    refine ⟨he, HubOnly.trans hm.hubOnly ht.hubOnly, fun g hg => ?_, hm.keepsLatches.trans ht.latches,
      fun g hg => (ht.present g hg).trans (hm.present hg)⟩
    rcases List.mem_cons.mp hg with rfl | hg
    · exact hm.stands.keeps ht.latches
    · exact ht.stands g hg

/-- Mild faults that come up together: each is RAISED, none takes an action. -/
theorem raiseAll_mild {fs : List Byte} {s : State} (hr : ∀ f ∈ fs, (faultRow f.toNat 0).isSome = true)
    (h : ∀ f ∈ fs, Mild f s) : RaisedAll fs s (raiseAll fs s) := by
  obtain ⟨he, ht⟩ := raiseEach_mild hr h
  have hacts : (fs.filterMap fun f => (raiseAction f s).map fun a => (f, a)) = [] :=
    List.filterMap_eq_nil_iff.mpr fun f hf => by rw [raiseAction_noAction (h f hf).1]; rfl
  have hsame : raiseAll fs s = fs.foldl (fun s f => raiseFault f s) s := by
    unfold raiseAll
    rw [hacts, he]
    generalize fs.foldl (fun s f => raiseFault f s) s = t at *
    cases hq : fs.filter fun f => spoilsAtOnce f true with
    | nil =>
      have hn : spoilFirst fs = none := by rw [spoilFirst, hq]; rfl
      rw [hn]
      rfl
    | cons f l =>
      obtain ⟨hf, hs⟩ := List.mem_filter.mp (hq ▸ List.mem_cons_self : f ∈ fs.filter fun f => spoilsAtOnce f true)
      have hp : pageInFlight t = false := ht.hubOnly.pageInFlight.trans ((h f hf).2 hs)
      cases spoilFirst fs with
      | none => rfl
      | some g =>
        have hn : ¬pageInFlight t = true := by rw [hp]; exact Bool.false_ne_true
        have hg : spoilByFault g t = t := if_neg hn
        show (if pageInFlight t then _ else spoilByFault g t) = t
        rw [hg, if_neg hn]
  rw [hsame]
  exact ht

end Sys2Proof.Machine
end

section
/-! The loss of a PLL and of CK_REF, the return to a PLL, CPU_DIV and the pixel ramp (R236-R253), and the settling of O28. -/

namespace Sys2Proof.Machine

theorem exec_of_clkgen {i : Instr} {m : Master} {off : Nat} {v : Word} {s : State}
    (hi : exec i s = .next (regWrite m 0x04 off v s)) (h : Granted m 0x04 off v s) :
    exec i s = .next (writeClkgen off v s) :=
  exec_of_granted hi h (by decide)

theorem exec_of_prCtrl {i : Instr} {m : Master} {v : Word} {s : State}
    (hi : exec i s = .next (regWrite m 0x05 0x00 v s)) (h : Granted m 0x05 0x00 v s) : exec i s = .next (prCtrlOp v s) :=
  exec_of_granted hi h (by decide)

/-! ## The loss of a PLL (R240, R241, R252) -/

/-- What stays when PLLs are lost, and what such a loss does not bring back. -/
structure PllsLost (s t : State) : Prop where
  lock : t.clk.lock = s.clk.lock
  refOk : t.clk.refOk = s.clk.refOk
  fb : ∀ g, s.clk.fb.getLsbD g = true → t.clk.fb.getLsbD g = true
  events : ∀ g, s.clk.events.getLsbD g = true → t.clk.events.getLsbD g = true
  dark : ∀ b : Fin 4, s.beam.ld[b].lit = false → t.beam.ld[b].lit = false
  frozen : s.pix.frozen = true → t.pix.frozen = true
  hub : t.hub = s.hub
  docket : t.docket = s.docket
  counters : t.counters = s.counters
  motors : t.motors = s.motors
  mem : t.mem = s.mem

theorem PllsLost.trans {s t u : State} (h : PllsLost s t) (k : PllsLost t u) : PllsLost s u :=
  ⟨k.lock.trans h.lock, k.refOk.trans h.refOk, fun g x => k.fb g (h.fb g x), fun g x => k.events g (h.events g x),
    fun b x => k.dark b (h.dark b x), fun x => k.frozen (h.frozen x), k.hub.trans h.hub, k.docket.trans h.docket,
    k.counters.trans h.counters, k.motors.trans h.motors, k.mem.trans h.mem⟩

theorem ldDark {v : Vector LaserBeam 4} (b : Fin 4) : (v.map fun l : LaserBeam => { l with lit := false })[b].lit = false := by
  rw [Fin.getElem_fin, Vector.getElem_map]

/-- The clocks stand; the lasers go out with SOCPLL and PIXPLL, the ramp freezes with PIXPLL. -/
theorem pllLost_frame (p : Fin 4) (s : State) : PllsLost s (pllLost p s) ∧ (pllLost p s).clk = s.clk ∧
    (p = 1 ∨ p = 3 → ∀ b : Fin 4, (pllLost p s).beam.ld[b].lit = false) ∧ (p = 3 → (pllLost p s).pix.frozen = true) := by
  match p with
  | 0 => exact ⟨⟨rfl, rfl, fun _ => id, fun _ => id, fun _ => id, id, rfl, rfl, rfl, rfl, rfl⟩, rfl,
      fun h => absurd h (by decide), fun h => absurd h (by decide)⟩
  | 1 => exact ⟨⟨rfl, rfl, fun _ => id, fun _ => id, fun b _ => ldDark b, id, rfl, rfl, rfl, rfl, rfl⟩, rfl,
      fun _ => ldDark, fun h => absurd h (by decide)⟩
  | 2 => exact ⟨⟨rfl, rfl, fun _ => id, fun _ => id, fun _ => id, id, rfl, rfl, rfl, rfl, rfl⟩, rfl,
      fun h => absurd h (by decide), fun h => absurd h (by decide)⟩
  | 3 => exact ⟨⟨rfl, rfl, fun _ => id, fun _ => id, fun b _ => ldDark b, fun _ => rfl, rfl, rfl, rfl, rfl, rfl⟩, rfl,
      fun _ => ldDark, fun _ => rfl⟩

theorem pllFault_row (p : Fin 4) : (faultRow (pllFault p).toNat 0).isSome = true := by
  revert p
  decide

/-! ## The loss of CK_REF (R242) -/

/-- One of the three PLLs that CK_REF's loss unlocks. -/
def refLostPll (s : State) (p : Fin 4) : State :=
  pllLost p { s with clk := { s.clk with
    fb := setBit s.clk.fb p.val true, events := setBit s.clk.events p.val true } }

theorem refLostPll_frame (p : Fin 4) (s : State) : PllsLost s (refLostPll s p) ∧
    (refLostPll s p).clk.fb.getLsbD p.val = true := by
  have h1 : PllsLost s { s with clk := { s.clk with
      fb := setBit s.clk.fb p.val true, events := setBit s.clk.events p.val true } } :=
    ⟨rfl, rfl, fun g => getLsbD_setBit_true _, fun g => getLsbD_setBit_true _, fun _ => id, id, rfl, rfl, rfl, rfl, rfl⟩
  obtain ⟨h2, hc, -, -⟩ := pllLost_frame p { s with clk := { s.clk with
    fb := setBit s.clk.fb p.val true, events := setBit s.clk.events p.val true } }
  refine ⟨h1.trans h2, ?_⟩
  rw [refLostPll, hc]
  exact setBit_true_self p.isLt

theorem refLostPlls_frame (l : List (Fin 4)) (s : State) : PllsLost s (l.foldl refLostPll s) ∧
    ∀ p ∈ l, (l.foldl refLostPll s).clk.fb.getLsbD p.val = true := by
  induction l generalizing s with
  | nil => exact ⟨⟨rfl, rfl, fun _ => id, fun _ => id, fun _ => id, id, rfl, rfl, rfl, rfl, rfl⟩,
      fun p hp => absurd hp List.not_mem_nil⟩
  | cons q l ih =>
    obtain ⟨h1, hq⟩ := refLostPll_frame q s
    obtain ⟨h2, hl⟩ := ih (refLostPll s q)
    refine ⟨h1.trans h2, fun p hp => ?_⟩
    rcases List.mem_cons.mp hp with rfl | hp
    · exact h2.fb _ hq
    · exact hl p hp

/-- The state in which CK_REF's loss is declared, before a PLL is lost. -/
def refGone (s : State) : State :=
  { s with
    clk := { s.clk with refOk := false, lock := s.clk.lock &&& 8, fb := s.clk.fb ||| 8
                        events := setBit s.clk.events 4 true }
    hub := { s.hub with present := setBit s.hub.present 0x44 true } }

/-- The PLLs that CK_REF's loss unlocks. -/
def refPlls (s : State) : List (Fin 4) := ([0, 1, 2] : List (Fin 4)).filter fun p => s.clk.lock.getLsbD p.val

theorem refLost_eq (s : State) : refLost s =
    raiseAll ((refPlls s).map pllFault ++ [0x44]) ((refPlls s).foldl refLostPll (pllLost 3 (refGone s))) := rfl

theorem mem_refPlls {p : Fin 3} {s : State} (h : s.clk.lock.getLsbD p.val = true) :
    (p.castSucc : Fin 4) ∈ refPlls s :=
  List.mem_filter.mpr ⟨(by decide : ∀ p : Fin 3, p.castSucc ∈ ([0, 1, 2] : List (Fin 4))) p, h⟩

theorem refPlls_lt {p : Fin 4} {s : State} (h : p ∈ refPlls s) : p.val < 3 :=
  (by decide : ∀ p : Fin 4, p ∈ ([0, 1, 2] : List (Fin 4)) → p.val < 3) p (List.mem_filter.mp h).1

/-! ## The return to a PLL (R243) -/

theorem resumePll_unlocked {p : Fin 4} {s : State} (h : s.clk.lock.getLsbD p.val = false) : resumePll p s = s :=
  if_neg (by rw [h, Bool.false_and, Bool.false_and]; exact Bool.false_ne_true)

theorem resumePll_held {s : State} (h : s.clk.pfwHold = true) : resumePll 0 s = s :=
  if_neg (by rw [h]; simp)

theorem resumePll_pixpll {s : State} (h1 : s.clk.lock.getLsbD 3 = true) (h2 : s.clk.fb.getLsbD 3 = true) :
    resumePll 3 s = { s with clk := { s.clk with fb := setBit s.clk.fb 3 false }, pix := { s.pix with frozen := false } } := by
  have hc : (s.clk.lock.getLsbD (3 : Fin 4).val && s.clk.fb.getLsbD (3 : Fin 4).val &&
      !(decide ((3 : Fin 4) = 0) && s.clk.pfwHold)) = true := by
    show (s.clk.lock.getLsbD 3 && s.clk.fb.getLsbD 3 && !(false && s.clk.pfwHold)) = true
    rw [h1, h2]
    rfl
  unfold resumePll
  rw [if_pos hc]
  rfl

/-- A return to a PLL takes no PLL's consumers to the fallback. -/
structure Returns (s t : State) : Prop where
  lock : t.clk.lock = s.clk.lock
  pfwHold : t.clk.pfwHold = s.clk.pfwHold
  fb : ∀ g, s.clk.fb.getLsbD g = false → t.clk.fb.getLsbD g = false

theorem Returns.trans {s t u : State} (h : Returns s t) (k : Returns t u) : Returns s u :=
  ⟨k.lock.trans h.lock, k.pfwHold.trans h.pfwHold, fun g x => k.fb g (h.fb g x)⟩

theorem resumePll_clk (p : Fin 4) (s : State) : (resumePll p s).clk.lock = s.clk.lock ∧
    (resumePll p s).clk.pfwHold = s.clk.pfwHold ∧ (resumePll p s).clk.fb =
      if s.clk.lock.getLsbD p.val && s.clk.fb.getLsbD p.val && !(decide (p = 0) && s.clk.pfwHold)
        then setBit s.clk.fb p.val false else s.clk.fb := by
  unfold resumePll
  split
  · match p with
    | 0 | 1 | 2 | 3 => exact ⟨rfl, rfl, rfl⟩
  · exact ⟨rfl, rfl, rfl⟩

theorem resumePll_returns (p : Fin 4) (s : State) : Returns s (resumePll p s) := by
  obtain ⟨h1, h2, h3⟩ := resumePll_clk p s
  refine ⟨h1, h2, fun g hg => ?_⟩
  rw [h3]
  split
  · exact Bool.eq_false_iff.mpr fun x => Bool.false_ne_true (hg.symm.trans (getLsbD_of_setBit_false x))
  · exact hg

/-- The consumers of a locked PLL are off the fallback, CPUPLL's unless a power-fail warning holds them. -/
theorem resumePll_off {p : Fin 4} {s : State} (h : s.clk.lock.getLsbD p.val = true) (hw : p = 0 → s.clk.pfwHold = false) :
    (resumePll p s).clk.fb.getLsbD p.val = false := by
  obtain ⟨-, -, h3⟩ := resumePll_clk p s
  have hh : (decide (p = 0) && s.clk.pfwHold) = false := by
    by_cases hp : p = 0
    · rw [hw hp, Bool.and_false]
    · rw [decide_eq_false hp, Bool.false_and]
  rw [h3, h, hh]
  cases hf : s.clk.fb.getLsbD p.val with
  | false => exact hf
  | true => exact getLsbD_setBit_false _ _

theorem sinovPlls_goBack (s : State) : Returns s (sinovPlls s) := by
  unfold sinovPlls
  split
  · exact ((resumePll_returns 1 s).trans (resumePll_returns 0 _)).trans (resumePll_returns 2 _)
  · exact ⟨rfl, rfl, fun _ => id⟩

/-- Sinov takes SOCPLL, CPUPLL and DRAMPLL back as they lock. -/
theorem sinovPlls_returns {p : Fin 4} {s : State} (hs : sinovRuns s = true) (h : s.clk.lock.getLsbD p.val = true)
    (hp : p.val < 3) (hw : p = 0 → s.clk.pfwHold = false) :
    (sinovPlls s).clk.fb.getLsbD p.val = false := by
  have r1 := resumePll_returns 1 s
  have r0 := r1.trans (resumePll_returns 0 (resumePll 1 s))
  rw [sinovPlls, if_pos hs]
  match p with
  | 0 => exact (resumePll_returns 2 _).fb 0 (resumePll_off (p := 0) (by rw [r1.lock]; exact h)
      (fun e => r1.pfwHold.trans (hw e)))
  | 1 => exact (resumePll_returns 2 _).fb 1 ((resumePll_returns 0 _).fb 1 (resumePll_off (p := 1) h (fun e => absurd e (by decide))))
  | 2 => exact resumePll_off (p := 2) (by rw [r0.lock]; exact h) (fun e => absurd e (by decide))
  | 3 => exact absurd hp (by decide)

/-! ## PR_CTRL (R250, R251) -/

theorem prCtrlOp_plain {v : Word} {s : State} (h : v.getLsbD 8 = false) :
    prCtrlOp v s = { s with pix := { rampEn (v.getLsbD 0) s.pix with profile := Fin.ofNat 8 (v >>> 4).toNat } } :=
  if_neg (by rw [h]; exact Bool.false_ne_true)

theorem prCtrlOp_resume {v : Word} {s : State} (h : v.getLsbD 8 = true) :
    prCtrlOp v s =
      resumePll 3 { s with pix := { rampEn (v.getLsbD 0) s.pix with profile := Fin.ofNat 8 (v >>> 4).toNat } } :=
  if_pos h

/-- The word that starts the ramp with profile p. -/
theorem startWord_fields (p : Fin 8) : ((1 : Word) ||| (BitVec.ofNat 32 p.val <<< 4)).getLsbD 8 = false ∧
    ((1 : Word) ||| (BitVec.ofNat 32 p.val <<< 4)).getLsbD 0 = true ∧
    Fin.ofNat 8 (((1 : Word) ||| (BitVec.ofNat 32 p.val <<< 4)) >>> 4).toNat = p := by
  revert p
  decide

/-- PR_CTRL as it reads while the ramp runs, with RESUME set. -/
theorem resumeWord_fields (p : Fin 8) : ((bitAt true 0 ||| natWord (16 * p.val)) ||| 0x100).getLsbD 8 = true ∧
    ((bitAt true 0 ||| natWord (16 * p.val)) ||| 0x100).getLsbD 0 = true ∧
    Fin.ofNat 8 (((bitAt true 0 ||| natWord (16 * p.val)) ||| 0x100) >>> 4).toNat = p := by
  revert p
  decide

theorem rampEn_running {x : PixRamp} (h : x.en = true) : rampEn true x = x := (if_pos rfl).trans (if_pos h)

theorem rampNext_runs {s : State} (h1 : s.pix.en = true) (h2 : s.pix.started = true) (h3 : s.pix.frozen = false)
    (h4 : s.pix.holding = false) : (s.pix.en && s.pix.started && !s.pix.frozen && !s.pix.holding) = true := by
  rw [h1, h2, h3, h4]
  rfl

/-! ## O28 -/

/-- PLL p at the moment at which it is declared unlocked. -/
def unlocked (p : Fin 4) (s : State) : State :=
  { s with clk := { s.clk with
    lock := setBit s.clk.lock p.val false, fb := setBit s.clk.fb p.val true, events := setBit s.clk.events p.val true } }

theorem pllUnlockOp_unlocks {p : Fin 4} {s : State} (h : s.clk.lock.getLsbD p.val = true) :
    pllUnlockOp p s = raiseFault (pllFault p) (pllLost p (unlocked p s)) := if_pos h

/-- PLL_UNLOCK of a locked PLL. -/
theorem pllUnlockOp_loses {p : Fin 4} {s : State} (h : s.clk.lock.getLsbD p.val = true) (hm : Mild (pllFault p) s) :
    Stands (pllFault p) (pllUnlockOp p s) ∧ HubOnly (pllLost p (unlocked p s)) (pllUnlockOp p s) := by
  obtain ⟨hl, -, -, -⟩ := pllLost_frame p (unlocked p s)
  have hr := raiseFault_mild (pllFault_row p) (hm.same ⟨s.hub.present, hl.hub⟩ hl.docket)
  rw [pllUnlockOp_unlocks h]
  exact ⟨hr.stands, hr.hubOnly⟩

/-- CKREF_LOSS where none of the faults takes an action at once. -/
theorem refLost_loses {s : State} (hm : Mild 0x44 s) (hms : ∀ p : Fin 3, Mild (BitVec.ofNat 8 (0x40 + p.val)) s) :
    PllsLost (pllLost 3 (refGone s)) ((refPlls s).foldl refLostPll (pllLost 3 (refGone s))) ∧
      RaisedAll ((refPlls s).map pllFault ++ [0x44]) ((refPlls s).foldl refLostPll (pllLost 3 (refGone s))) (refLost s) := by
  obtain ⟨h0, -, -, -⟩ := pllLost_frame 3 (refGone s)
  obtain ⟨h1, -⟩ := refLostPlls_frame (refPlls s) (pllLost 3 (refGone s))
  have hl := h0.trans h1
  have hmild : ∀ f, Mild f s → Mild f ((refPlls s).foldl refLostPll (pllLost 3 (refGone s))) :=
    fun f hf => hf.same ⟨_, hl.hub⟩ hl.docket
  refine ⟨h1, ?_⟩
  rw [refLost_eq]
  refine raiseAll_mild (fun f hf => ?_) (fun f hf => hmild f ?_)
  · rcases List.mem_append.mp hf with hf | hf
    · obtain ⟨p, -, rfl⟩ := List.mem_map.mp hf
      exact pllFault_row p
    · rw [List.mem_singleton.mp hf]
      decide
  · rcases List.mem_append.mp hf with hf | hf
    · obtain ⟨p, hp, rfl⟩ := List.mem_map.mp hf
      exact hms ⟨p.val, refPlls_lt hp⟩
    · rw [List.mem_singleton.mp hf]
      exact hm

/-- Settles O28: the loss of a PLL and of CK_REF, the return to a PLL, CPU_DIV and the pixel ramp. -/
theorem clocksFallBackAndRamp : Obligations.ClocksFallBackAndRamp := by
  refine ⟨⟨fun p s h hm => ?_, fun p s h => ?_, fun p s h hn => ?_, fun p s h hs hp => ?_, fun s h hs h2 hp hf => ?_,
    fun s h hn => ?_, fun p s h => ?_, fun s hm hms => ?_, fun s => rfl, fun m s h h1 h2 => ?_, fun m s h hn => ?_,
    fun m v s h hv => ?_, fun m v s h hv => ?_⟩, fun m s p h => ?_, fun m s h => ?_, fun s h1 h2 h3 h4 h5 => ?_,
    fun s h1 h2 h3 h4 h5 => ?_, fun m s h h1 h2 h3 => ?_⟩
  · obtain ⟨hs, ho⟩ := pllUnlockOp_loses h hm
    obtain ⟨hl, hc, hd, hf⟩ := pllLost_frame p (unlocked p s)
    refine ⟨_, rfl, hs, ?_, fun hp b => ?_, fun hp => ?_, ?_, ?_, ?_⟩
    · rw [ho]
      exact hc
    · rw [ho]
      exact hd hp b
    · rw [ho]
      exact hf hp
    · rw [ho]
      exact hl.counters
    · rw [ho]
      exact hl.motors
    · exact memSame_of_mem (by rw [ho]; exact hl.mem)
  · exact congrArg Host.Outcome.next (if_neg (by rw [h]; exact Bool.false_ne_true))
  · have hx : pllLockOp p s = { s with clk := { s.clk with lock := setBit s.clk.lock p.val true } } := by
      have hr : ¬sinovRuns { s with clk := { s.clk with lock := setBit s.clk.lock p.val true } } = true :=
        fun e => Bool.false_ne_true (hn.symm.trans e)
      rw [pllLockOp, if_pos h]
      by_cases hp : p = 3
      · rw [if_pos hp]
        exact if_neg fun e => hr e.1
      · rw [if_neg hp]
        exact if_neg hr
    exact congrArg Host.Outcome.next hx
  · have hp3 : p ≠ 3 := fun e => absurd hp (by rw [e]; decide)
    have hx : pllLockOp p s = sinovPlls { s with clk := { s.clk with lock := setBit s.clk.lock p.val true } } := by
      rw [pllLockOp, if_pos h]
      exact if_neg hp3
    have hr := sinovPlls_returns (p := p) (s := { s with clk := { s.clk with lock := setBit s.clk.lock p.val true } }) hs
      (setBit_true_self p.isLt) hp
    have hl : (sinovPlls { s with clk := { s.clk with lock := setBit s.clk.lock p.val true } }).clk.lock =
        setBit s.clk.lock p.val true := (sinovPlls_goBack _).lock
    exact ⟨_, congrArg Host.Outcome.next hx, hl, fun hw => hr fun e => hw (by rw [e]; rfl)⟩
  · have hx : pllLockOp 3 s = resumePll 3 { s with clk := { s.clk with lock := setBit s.clk.lock 3 true } } := by
      rw [pllLockOp, if_pos h]
      exact (if_pos rfl).trans (if_pos ⟨hs, h2, hp⟩)
    exact congrArg Host.Outcome.next (hx.trans (resumePll_pixpll (setBit_true_self (by decide)) hf))
  · have hx : pllLockOp 3 s = { s with clk := { s.clk with lock := setBit s.clk.lock 3 true } } := by
      rw [pllLockOp, if_pos h]
      refine (if_pos rfl).trans (if_neg fun e => ?_)
      rcases hn with hn | hn
      · exact hn e.2.1
      · exact Bool.false_ne_true (e.2.2.symm.trans hn)
    exact congrArg Host.Outcome.next hx
  · exact congrArg Host.Outcome.next (if_neg (by rw [h]; exact Bool.false_ne_true))
  · obtain ⟨h0, hc, hd, hz⟩ := pllLost_frame 3 (refGone s)
    obtain ⟨hl, hr⟩ := refLost_loses hm hms
    obtain ⟨-, hall⟩ := refLostPlls_frame (refPlls s) (pllLost 3 (refGone s))
    have hx : exec .ckrefLoss s = .next (refLost s) := rfl
    generalize refLost s = t at *
    generalize (refPlls s).foldl refLostPll (pllLost 3 (refGone s)) = y at *
    have ho := hr.hubOnly
    have hclk : t.clk = y.clk := by rw [ho]
    refine ⟨t, hx, hr.stands _ (List.mem_append_right _ (List.mem_singleton.mpr rfl)), ?_, ?_, ?_, ?_, ?_, fun p hp => ⟨?_, ?_⟩,
      fun b => ?_, ?_, ?_, ?_, ?_⟩
    · rw [hr.present 0x44 (by decide), hl.hub, h0.hub]
      exact (getLsbD_setBit _ 0x44 _ (by decide)).trans (if_pos rfl)
    · rw [hclk, hl.refOk, hc]
      rfl
    · rw [hclk, hl.lock, hc]
      rfl
    · rw [hclk]
      refine hl.fb 3 ?_
      rw [hc]
      show (s.clk.fb ||| 8).getLsbD 3 = true
      rw [BitVec.getLsbD_or]
      exact Bool.or_true _
    · rw [hclk]
      refine hl.events 4 ?_
      rw [hc]
      exact setBit_true_self (by decide)
    · rw [hclk]
      exact hall _ (mem_refPlls hp)
    · exact hr.stands _ (List.mem_append_left _ (List.mem_map.mpr ⟨p.castSucc, mem_refPlls hp, rfl⟩))
    · rw [show t.beam = y.beam by rw [ho]]
      exact hl.dark b (hd (.inr rfl) b)
    · rw [show t.pix = y.pix by rw [ho]]
      exact hl.frozen (hz rfl)
    · rw [ho.counters, hl.counters, h0.counters]
      rfl
    · rw [show t.motors = y.motors by rw [ho], hl.motors, h0.motors]
      rfl
    · exact memSame_of_mem (by rw [show t.mem = y.mem by rw [ho], hl.mem, h0.mem]; rfl)
  · exact (exec_of_clkgen (i := .clkResume m 2) rfl h).trans (congrArg Host.Outcome.next (resumePll_socpll h1 h2))
  · have hr : resumePll 0 s = s := hn.elim (fun e => resumePll_unlocked (p := 0) e) resumePll_held
    exact (exec_of_clkgen (i := .clkResume m 1) rfl h).trans (congrArg Host.Outcome.next hr)
  · exact (exec_of_clkgen (i := .cpuDivWrite m v) rfl h).trans (congrArg Host.Outcome.next (if_pos hv))
  · exact (exec_of_clkgen (i := .cpuDivWrite m v) rfl h).trans (congrArg Host.Outcome.next (if_neg hv))
  · obtain ⟨h8, h0, hp⟩ := startWord_fields p
    have hg : Granted m 0x05 0x00 ((1 : Word) ||| (BitVec.ofNat 32 p.val <<< 4)) s := h
    have hx := (exec_of_prCtrl (i := .prCtrlWrite m _) rfl hg).trans (congrArg Host.Outcome.next (prCtrlOp_plain h8))
    rw [h0, hp, rampEn, if_pos rfl] at hx
    refine hx.trans ?_
    cases he : s.pix.en with
    | false => rfl
    | true =>
      rw [if_pos rfl, if_pos rfl, ← he]
  · exact (exec_of_prCtrl (i := .prCtrlWrite m 0) rfl h).trans (congrArg Host.Outcome.next (prCtrlOp_plain rfl))
  · have hx : rampNext s = _ := (if_pos (rampNext_runs h1 h2 h3 h4)).trans (if_pos h5)
    exact congrArg Host.Outcome.next hx
  · have hx : rampNext s = _ := (if_pos (rampNext_runs h1 h2 h3 h4)).trans (if_neg (Nat.not_lt.mpr h5))
    exact congrArg Host.Outcome.next hx
  · have hw : regVal 0x05 0x00 s = bitAt true 0 ||| natWord (16 * s.pix.profile.val) := by rw [← h3]; rfl
    obtain ⟨h8, h0, hp⟩ := resumeWord_fields s.pix.profile
    have hx := exec_of_prCtrl (i := .pixrampResume m) rfl h
    rw [hw, prCtrlOp_resume h8, h0, hp, rampEn_running h3] at hx
    exact hx.trans (congrArg Host.Outcome.next (resumePll_pixpll h1 h2))

end Sys2Proof.Machine
end

section
/-! The option loader (R144, R145, R216-R222), and the settling of O27. -/

namespace Sys2Proof.Machine

/-! ## The first word of a record stays (R218) -/

/-- Bytes that begin with h. -/
def Begins (h bs : List Byte) : Prop := bs.take 4 = h ∧ 4 ≤ bs.length

theorem Begins.putAt {h bs : List Byte} (hb : Begins h bs) {ofs : Nat} (ho : 4 ≤ ofs) (p : List Byte) :
    Begins h (putAt bs ofs p) := by
  obtain ⟨h1, h2⟩ := hb
  have hl : 4 ≤ (bs.take ofs).length := by
    rw [List.length_take]
    omega
  refine ⟨?_, ?_⟩
  · rw [Machine.putAt, List.append_assoc, List.take_append_of_le_length hl, List.take_take, Nat.min_eq_left ho, h1]
  · rw [Machine.putAt, List.length_append, List.length_append]
    omega

theorem Begins.fixField {h bs : List Byte} (hb : Begins h bs) {ofs : Nat} (ho : 4 ≤ ofs) (n : Nat) (ok : Nat → Bool)
    (sub : Nat) : Begins h (fixField ofs n ok sub bs) := by
  unfold Machine.fixField
  dsimp only
  split
  · exact hb
  · exact hb.putAt ho _

theorem Begins.foldl {h : List Byte} {f : List Byte → Nat → List Byte} (hf : ∀ bs i, Begins h bs → Begins h (f bs i))
    (l : List Nat) {bs : List Byte} (hb : Begins h bs) : Begins h (l.foldl f bs) := by
  induction l generalizing bs with
  | nil => exact hb
  | cons i l ih => exact ih (hf bs i hb)

theorem Begins.ite {h a b : List Byte} {c : Prop} [Decidable c] (ha : Begins h a) (hb : Begins h b) :
    Begins h (if c then a else b) := by
  split
  · exact ha
  · exact hb

theorem Begins.fixEnvelope {h bs : List Byte} (hb : Begins h bs) : Begins h (fixEnvelope bs) :=
  hb.foldl (fun _ _ hx => hx.fixField (by omega) _ _ _) _

theorem Begins.fixRails {h bs : List Byte} (hb : Begins h bs) : Begins h (fixRails bs) :=
  hb.foldl (fun _ _ hx => hx.putAt (by omega) _) _

theorem Begins.fixWheel {h bs : List Byte} (hb : Begins h bs) : Begins h (fixWheel bs) :=
  hb.ite (hb.putAt (by decide) _)

theorem Begins.fixShutdown {h bs : List Byte} (hb : Begins h bs) : Begins h (fixShutdown bs) :=
  hb.ite (hb.putAt (by decide) _)

/-- What APPLY loads begins as the copy does. -/
theorem Begins.applied {h bs : List Byte} (hb : Begins h bs) : Begins h (applied bs) := by
  have h1 := ((hb.fixField (ofs := 0x010) (by decide) 1 (fun v => decide (1 ≤ v) && decide (v ≤ 100)) 10).fixField
    (ofs := 0x011) (by decide) 1 (fun v => decide (v ≤ 85)) 0).fixField (ofs := 0x012) (by decide) 1
    (fun v => decide (1 ≤ v) && decide (v ≤ 40)) 1
  have h2 := (h1.fixField (ofs := 0x016) (by decide) 1 (fun v => decide (v ≤ 1)) 0).putAt (ofs := 0x017) (by decide) [0]
  unfold Machine.applied
  exact .fixShutdown (.fixRails (.fixWheel (.fixField (.foldl (fun _ _ hx => hx.putAt (by omega) _) _ (.fixField
    (.fixEnvelope (h2.putAt (by decide) _)) (by decide) _ _ _)) (by decide) _ _ _)))

theorem Mem.length_readAll (m : Mem) (a n : Nat) : (m.readAll a n).length = n := by
  induction n generalizing a with
  | zero => rfl
  | succ n ih => rw [Mem.readAll, List.length_cons, ih]

theorem copyBytes_length (s : State) (b : Bool) : (copyBytes s b).length = 512 := Mem.length_readAll ..

theorem copyBytes_begins (s : State) (b : Bool) : Begins ((copyBytes s b).take 4) (copyBytes s b) :=
  ⟨rfl, by rw [copyBytes_length]; decide⟩

theorem shadow_begins {h bs : List Byte} (hb : Begins h bs) :
    (Vector.ofFn fun i : Fin 512 => bs.getD i.val 0).toList.take 4 = h := by
  obtain ⟨h1, h2⟩ := hb
  refine Eq.trans ?_ h1
  refine List.ext_getElem (by rw [List.length_take, List.length_take, Vector.length_toList]; omega) fun i hi hj => ?_
  have hi' : i < bs.length := by
    rw [List.length_take] at hj
    omega
  rw [List.getElem_take, List.getElem_take, Vector.getElem_toList, Vector.getElem_ofFn]
  exact List.getD_eq_getElem _ _ hi'

/-! ## APPLY (R218) -/

/-- What APPLY and a VERIFY that passes leave. -/
structure RecordApplied (bs : List Byte) (copy st : BitVec 2) (out : Option Byte) (s t : State) : Prop where
  applied : t.rst.applied = copy
  optState : t.rst.optState = st
  rst : t.rst = { s.rst with optState := st, applied := copy, kwdgCfg := t.rst.kwdgCfg }
  loader : t.loader = { s.loader with st := .envXfer, outcome := out }
  optshd : t.optshd = Vector.ofFn fun i => bs.getD i.val 0
  tableDone : t.hub.tableDone = true
  raised : t.hub.raised = s.hub.raised
  docket : t.docket = s.docket
  mem : t.mem = s.mem
  asserts : Asserts 1 s → Asserts 1 t

/-- A record's values, and nothing of the reset controller but the Keeper watchdog's period. -/
theorem loadRecord_frame (bs : List Byte) (s : State) : ∃ c w g v y th fa pi rq ec pc hd sh kw cfg imm,
    loadRecord bs s = { s with
      optshd := Vector.ofFn fun i => bs.getD i.val 0
      counters := c, cntWindow := w, envg := g, vregen := v, sy := y, thrCopy := th, fabric := fa, pincfg := pi
      ps := { s.ps with req := rq, extCfg := ec, pfwCfg := pc, holdDecl := hd, shdn := sh }
      rst := { s.rst with kwdgCfg := kw }
      hub := { s.hub with cfg := cfg, optImm := imm, tableDone := true } } := by
  unfold loadRecord reloadFhCfg
  exact ⟨_, _, _, _, _, _, _, _, _, _, _, _, _, _, _, _, rfl⟩

theorem applyRecord_verified (bs : List Byte) (copy st : BitVec 2) (out : Option Byte) (v : Bool) (s : State) :
    applyRecord bs copy st out v s =
      if v then applyRecord bs copy st out true s else loaderFail (applyRecord bs copy st out true s) := by
  cases v <;> rfl

theorem applyRecord_applied (bs : List Byte) (copy st : BitVec 2) (out : Option Byte) (s : State) :
    RecordApplied bs copy st out s (applyRecord bs copy st out true s) := by
  obtain ⟨c, w, g, v, y, th, fa, pi, rq, ec, pc, hd, sh, kw, cfg, imm, e⟩ := loadRecord_frame bs s
  unfold applyRecord
  rw [e]
  exact ⟨rfl, rfl, rfl, rfl, rfl, rfl, rfl, rfl, rfl, fun h => h⟩

theorem applyRom_applied (st : BitVec 2) (out : Option Byte) (s : State) :
    RecordApplied romRecord 2 st out s (applyRom st out true s) := applyRecord_applied _ _ _ _ _

/-- ENTRY with the copies read and classified. -/
def classified (va vb optrec : Bool) (s : State) : State :=
  { s with
    rst := { s.rst with
      validA := va, validB := vb, optrec := optrec, repaired := false
      seqA := if va then optSeq (copyBytes s false) else 0, seqB := if vb then optSeq (copyBytes s true) else 0 }
    loader := { s.loader with byLimit := false } }

theorem entryReady_equal {r : Bool} {s : State} (h : inEntry s = true) (he : copyBytes s false = copyBytes s true)
    (hv : copyValid (copyBytes s false) false = true) : entryReady r false false true s =
      applyRecord (applied (copyBytes s false)) 0 0 none true (classified true true r s) := by
  have hv' := hv
  rw [he] at hv'
  rw [entryReady, if_pos h]
  dsimp only
  rw [hv, hv', Bool.and_true, if_pos rfl, if_pos he]
  rfl

theorem entryReady_copyA {s : State} (h : inEntry s = true) (hv : copyValid (copyBytes s false) false = true)
    (hb : copyValid (copyBytes s true) false = false) : entryReady false false false true s =
      applyRecord (applied (copyBytes s false)) 0 1 (some 0x20) true (classified true false false s) := by
  rw [entryReady, if_pos h]
  dsimp only
  rw [hv, hb, Bool.and_false, if_neg Bool.false_ne_true, if_pos rfl, if_neg Bool.false_ne_true]
  rfl

theorem entryReady_none {r : Bool} {s : State} (h : inEntry s = true) :
    entryReady r true true true s = applyRom 3 (some 0x22) true (classified false false r s) := by
  rw [entryReady, if_pos h]
  rfl

/-- ENTRY left with no copy read. -/
def unread (byLimit : Bool) (s : State) : State :=
  { s with
    rst := { s.rst with validA := false, validB := false, repaired := false, seqA := 0, seqB := 0 }
    loader := { s.loader with byLimit := byLimit } }

theorem entryTimeout_rom {v : Bool} {s : State} (h : inEntry s = true) :
    entryTimeout v s = applyRom 3 (some 0x22) v (unread false s) := if_pos h

theorem loadLimit_rom {v : Bool} {s : State} (h : s.loader.st = .entry) (h3 : 3 ≤ s.rst.loadFails.toNat) :
    loadLimit v s = applyRom 3 none v (unread true s) := if_pos ⟨h, h3⟩

theorem repairDone_same {toB : Bool} {s : State} (h : s.loader.st = .repair toB) : repairDone true true s =
    applyRecord (applied (copyBytes s (!toB))) (if toB then 0 else 1) 1 (some 0x20) true { s with
      rst := { s.rst with repaired := true }, mem := s.mem.writeAll (copyAddr toB) (copyBytes s (!toB)) } := by
  rw [repairDone, h]
  rfl

/-! ## A VERIFY that fails (R221) -/

theorem systemReset_loadFails (o : Outcome5) (f : Option Byte) (code : Byte) (s : State) :
    (systemReset o f code s).rst.loadFails = s.rst.loadFails := by
  obtain ⟨m, n, d, k, b, v, mo, h, fu, w, oh, si, e, -, -⟩ := atReset_frame o f code 1 s
  unfold systemReset
  dsimp only
  rw [← atReset, e]
  rfl

/-- A failure counted. -/
def failed (s : State) : State :=
  { s with rst := { s.rst with loadFails := satInc s.rst.loadFails }, loader := { s.loader with st := .fail } }

/-- A VERIFY that fails before the limit: a SYSTEM reset. -/
theorem loaderFail_resets {s : State} (h : Asserts 1 s) (hl : s.loader.byLimit = false) :
    loaderFail s = systemReset .fault none 0x0A (failed s) :=
  (if_neg (by rw [show _ = s.loader.byLimit from rfl, hl]; exact Bool.false_ne_true)).trans
    (assertReset_system (s := failed s) h _ _ _)

/-- A VERIFY of the ROM safe record at the limit: the loader stops. -/
theorem loaderFail_stops {s : State} (hl : s.loader.byLimit = true) :
    loaderFail s = { failed s with rst := { (failed s).rst with step := .loaderFail } } := if_pos hl

/-! ## DONE (R218) -/

theorem startRun_frame (s : State) : ∃ rails, startRun s = { s with
    ps := { s.ps with phase := .runUp, runPhase := true, rails := rails } } := ⟨_, rfl⟩

theorem loaderDone_plain {s : State} (h : s.loader.outcome = none) : loaderDone s = startRun { s with
    rst := { s.rst with step := .rom, loadFails := if s.loader.byLimit then s.rst.loadFails else 0 }
    loader := { s.loader with st := .done } } := by
  rw [loaderDone, h]

/-- Settles O27: the boot phase, the copies, the ROM safe record, the repair, the envelope's transfer, and the failures. -/
theorem loaderAppliesARecord : Obligations.LoaderAppliesARecord := by
  refine ⟨fun s h1 h2 h3 => ?_, fun s r h he hv => ?_, fun s h hv hb => ?_, fun s r h => ?_, fun s h => ?_,
    fun s h ha => ?_, fun s h h3 => ?_, fun s toB hsnd h => ?_, fun s h h3 => ?_, fun s h ho hl => ?_, fun s h ho hm => ?_⟩
  · obtain ⟨rails, e⟩ := bootStart_frame h3
    exact ⟨_, congrArg Host.Outcome.next ((if_pos ⟨h1, h2⟩).trans e), rfl, rfl, rfl, rfl⟩
  · have ha := applyRecord_applied (applied (copyBytes s false)) 0 0 none (classified true true r s)
    refine ⟨_, congrArg Host.Outcome.next (entryReady_equal h he hv), ha.applied, ha.optState, ?_, ?_, ?_, ?_, ?_, ?_,
      ha.tableDone, ha.raised, ha.docket, memSame_of_mem ha.mem⟩
    · rw [ha.rst]
      rfl
    · rw [ha.rst]
      rfl
    · rw [ha.rst]
      rfl
    · rw [ha.loader]
    · rw [ha.loader]
    · rw [ha.optshd]
      exact shadow_begins (copyBytes_begins s false).applied
  · have ha := applyRecord_applied (applied (copyBytes s false)) 0 1 (some 0x20) (classified true false false s)
    exact ⟨_, congrArg Host.Outcome.next (entryReady_copyA h hv hb), ha.applied, ha.optState, by rw [ha.loader],
      by rw [ha.loader], memSame_of_mem ha.mem⟩
  · have ha := applyRom_applied 3 (some 0x22) (classified false false r s)
    exact ⟨_, congrArg Host.Outcome.next (entryReady_none h), ha.applied, ha.optState, by rw [ha.loader],
      by rw [ha.loader], by rw [ha.rst]; rfl, by rw [ha.rst]; rfl, memSame_of_mem ha.mem⟩
  · have ha := applyRom_applied 3 (some 0x22) (unread false s)
    exact ⟨_, congrArg Host.Outcome.next (entryTimeout_rom h), ha.applied, ha.optState, by rw [ha.loader],
      by rw [ha.loader], memSame_of_mem ha.mem⟩
  · have hr := applyRecord_applied romRecord 2 3 (some 0x22) (unread false s)
    have hx := (entryTimeout_rom (v := false) h).trans (applyRecord_verified romRecord 2 3 (some 0x22) false (unread false s))
    rw [if_neg Bool.false_ne_true, loaderFail_resets (hr.asserts ha) (congrArg Loader.byLimit hr.loader)] at hx
    have hd := systemReset_done .fault none 0x0A (failed (applyRecord romRecord 2 3 (some 0x22) true (unread false s)))
    have hl : (applyRecord romRecord 2 3 (some 0x22) true (unread false s)).rst.loadFails = s.rst.loadFails := by
      rw [hr.rst]
      rfl
    exact ⟨_, congrArg Host.Outcome.next hx, (systemReset_loadFails ..).trans (congrArg satInc hl), hd.device.cause, hd.device.kind, hd.on,
      hd.device.engHold⟩
  · have hr := applyRecord_applied romRecord 2 3 none (unread true s)
    have hx := (loadLimit_rom (v := false) h h3).trans (applyRecord_verified romRecord 2 3 none false (unread true s))
    rw [if_neg Bool.false_ne_true, loaderFail_stops (congrArg Loader.byLimit hr.loader)] at hx
    exact ⟨_, congrArg Host.Outcome.next hx, rfl, rfl, hr.applied, memSame_of_mem hr.mem⟩
  · have hx := repairDone_same h
    have hl := copyBytes_length s (!toB)
    generalize copyBytes s (!toB) = bs at *
    have ha := applyRecord_applied (applied bs) (if toB then 0 else 1) 1 (some 0x20) { s with
      rst := { s.rst with repaired := true }, mem := s.mem.writeAll (copyAddr toB) bs }
    refine ⟨_, congrArg Host.Outcome.next hx, ha.applied, ha.optState, by rw [ha.rst], by rw [ha.loader],
      by rw [ha.loader], ?_, fun a hna => ?_⟩
    · rw [copyBytes, ha.mem, ← hl]
      exact Mem.readAll_writeAll hsnd
    · rw [memByte, ha.mem]
      exact Mem.read_writeAll_other (by rw [hl]; exact hna)
  · have ha := applyRom_applied 3 none (unread true s)
    exact ⟨_, congrArg Host.Outcome.next (loadLimit_rom h h3), ha.applied, ha.optState, by rw [ha.loader]; rfl,
      by rw [ha.loader], memSame_of_mem ha.mem⟩
  · have hx : envAck s = _ := (if_pos h).trans (loaderDone_plain ho)
    rw [hl, if_neg Bool.false_ne_true] at hx
    obtain ⟨rails, e⟩ := startRun_frame { s with
      hdie := { s.hdie with env := s.envg.shadow, lock := true, loaded := true }
      envg := { s.envg with loaded := true, locked := true }
      rst := { s.rst with step := .rom, loadFails := if s.loader.byLimit then s.rst.loadFails else 0 }
      loader := { s.loader with st := .done } }
    exact ⟨_, congrArg Host.Outcome.next (hx.trans e), rfl, rfl, rfl, rfl, rfl, rfl, memSame_of_mem rfl⟩
  · have hr := raiseFault_mild (f := 0x94) (by decide) hm
    have ho' : (raiseFault 0x94 s).loader.outcome = none := by
      rw [hr.hubOnly]
      exact ho
    have hx : envTimeout s = _ := (if_pos h).trans (loaderDone_plain ho')
    have hs := hr.stands
    have hf := hr.hubOnly
    generalize raiseFault 0x94 s = y at *
    obtain ⟨rails, e⟩ := startRun_frame { y with
      rst := { y.rst with step := .rom, loadFails := if y.loader.byLimit then y.rst.loadFails else 0 }
      loader := { y.loader with st := .done } }
    exact ⟨_, congrArg Host.Outcome.next (hx.trans e), hs, by rw [hf], by rw [hf], rfl, rfl,
      memSame_of_mem (by rw [hf])⟩

end Sys2Proof.Machine
end

section
/-! Barrow requests: bytes moved, compares and error responses (R426, R429, R433), and the settling of O47. -/

namespace Sys2Proof.Machine

/-! ## One channel -/

theorem chanMod_frame (app : Bool) (ch : Fin 16) (f : BwChan → BwChan) (s : State) :
    chanMod app ch f s = { s with bwApp := (chanMod app ch f s).bwApp, bwKeep := (chanMod app ch f s).bwKeep } := by
  cases app <;> rfl

theorem chunkLen_le (c : BwChan) : chunkLen c ≤ c.remain.toNat := Nat.min_le_left ..

theorem remain_sub {r : BitVec 31} {n : Nat} (h : n ≤ r.toNat) : (r - BitVec.ofNat 31 n).toNat = r.toNat - n := by
  have hr := r.isLt
  have hn : (BitVec.ofNat 31 n).toNat = n := by
    rw [BitVec.toNat_ofNat]
    exact Nat.mod_eq_of_lt (by omega)
  rw [BitVec.toNat_sub_of_le (by rw [BitVec.le_def, hn]; exact h), hn]

/-! ## Compares -/

/-- The first differing byte of a request of channel c. -/
def chunkDiff (app : Bool) (c : BwChan) (s : State) : Option Nat :=
  firstDiff (fun i => bwByte app s (c.src.toNat + bwDone c + i)) (fun i => bwByte app s (c.dst.toNat + bwDone c + i))
    (chunkLen c)

/-- What a compare makes of its channel. -/
def compareEnd (ofs n : Nat) (d : Option Nat) (c : BwChan) : BwChan :=
  match d with
  | some i =>
    let c := { c with remain := c.remain - BitVec.ofNat 31 i, mism := true, misOk := true
                      misOfs := BitVec.ofNat 31 (ofs + i) }
    if c.stopDue then chanEnd .stopped 0 c else chanEnd .done 0 c
  | none =>
    let c := { c with remain := c.remain - BitVec.ofNat 31 n }
    if c.stopDue then chanEnd .stopped 0 c else if c.remain = 0 then chanEnd .done 0 c else c

/-- A request of a running channel whose operands answer, in mode COMPARE. -/
theorem chanRequest_compare {app : Bool} {ch : Fin 16} {s : State} (h1 : (bwGet app s).ch[ch].state = .run)
    (h2 : (bwGet app s).ch[ch].mode = 2)
    (hsrc : memUp s ((bwGet app s).ch[ch].src.toNat + bwDone (bwGet app s).ch[ch]) = true)
    (hdst : memUp s ((bwGet app s).ch[ch].dst.toNat + bwDone (bwGet app s).ch[ch]) = true) :
    chanRequest app ch s = chanMod app ch (compareEnd (bwDone (bwGet app s).ch[ch]) (chunkLen (bwGet app s).ch[ch])
      (chunkDiff app (bwGet app s).ch[ch] s)) s := by
  rw [chanRequest, if_neg (by rw [h1]; exact fun e => e rfl), if_neg (by rw [hsrc]; exact fun e => absurd e.2 (by decide)),
    if_neg (by rw [hdst]; decide), if_pos h2]
  unfold chunkDiff
  dsimp only
  split
  · next i hi =>
    rw [hi]
    rfl
  · next hi =>
    rw [hi]
    rfl

theorem firstDiff_none {f g : Nat → Byte} {n : Nat} (h : ∀ i, i < n → f i = g i) : firstDiff f g n = none := by
  refine List.find?_eq_none.mpr fun i hi => ?_
  rw [h i (List.mem_range.mp hi), bne_self_eq_false]
  exact Bool.false_ne_true

theorem firstDiff_some {f g : Nat → Byte} {n i : Nat} (hi : i < n) (h : f i ≠ g i) (hj : ∀ j, j < i → f j = g j) :
    firstDiff f g n = some i := by
  refine (List.find?_range_eq_some).mpr ⟨?_, ?_, ?_⟩
  · exact bne_iff_ne.mpr h
  · exact List.mem_range.mpr hi
  · intro j hji
    rw [hj j hji, bne_self_eq_false]
    rfl

theorem compareEnd_none {ofs n : Nat} {c : BwChan} (h : n ≤ c.remain.toNat) : (compareEnd ofs n none c).mism = c.mism ∧
    (compareEnd ofs n none c).remain.toNat = c.remain.toNat - n := by
  unfold compareEnd
  dsimp only
  split_ifs
  · exact ⟨rfl, remain_sub h⟩
  · exact ⟨rfl, remain_sub h⟩
  · exact ⟨rfl, remain_sub h⟩

theorem compareEnd_some (ofs n i : Nat) (c : BwChan) : (compareEnd ofs n (some i) c).mism = true ∧
    (compareEnd ofs n (some i) c).misOk = true ∧ (compareEnd ofs n (some i) c).ended = true ∧
    (compareEnd ofs n (some i) c).misOfs = BitVec.ofNat 31 (ofs + i) := by
  unfold compareEnd
  dsimp only
  split
  · exact ⟨rfl, rfl, rfl, rfl⟩
  · exact ⟨rfl, rfl, rfl, rfl⟩

/-! ## Bytes that move -/

/-- The bytes of a request. -/
def chunkBytes (c : BwChan) (s : State) : List Byte := (List.range (chunkLen c)).map fun i => bwNew false c s (bwDone c + i)

theorem chunkBytes_length (c : BwChan) (s : State) : (chunkBytes c s).length = chunkLen c := by
  rw [chunkBytes, List.length_map, List.length_range]

/-- What a request that has moved its bytes makes of its channel. -/
def moveEnd (n : Nat) (c : BwChan) : BwChan :=
  let c := { c with remain := c.remain - BitVec.ofNat 31 n }
  if c.remain = 0 then chanEnd .done 0 c else c

theorem chanMod_chanMod (app : Bool) (ch : Fin 16) (f g : BwChan → BwChan) (s : State) :
    chanMod app ch g (chanMod app ch f s) = chanMod app ch (g ∘ f) s := by
  unfold chanMod
  simp only [bwGet_bwSet, vmod_vmod]
  cases app <;> rfl

/-- A change of a channel is what it makes of that channel. -/
theorem chanMod_congr {app : Bool} {ch : Fin 16} {f g : BwChan → BwChan} {s : State}
    (h : f (bwGet app s).ch[ch] = g (bwGet app s).ch[ch]) : chanMod app ch f s = chanMod app ch g s := by
  unfold chanMod vmod
  dsimp only
  rw [h]

/-- The count of a channel whose bytes have moved, and the end that follows. -/
theorem moveStep_eq {ch : Fin 16} {n : Nat} {s : State} (h : (bwGet false s).ch[ch].stopDue = false) :
    (let t := chanMod false ch (fun c => { c with remain := c.remain - BitVec.ofNat 31 n }) s
      let c := (bwGet false t).ch[ch]
      if c.stopDue then chanMod false ch (chanEnd .stopped 0) (bwSpill false c t)
      else if c.remain = 0 then chanMod false ch (chanEnd .done 0) t
      else t) = chanMod false ch (moveEnd n) s := by
  dsimp only
  rw [bwGet_chanMod, if_neg (by rw [h]; exact Bool.false_ne_true), chanMod_chanMod]
  by_cases hr : (bwGet false s).ch[ch].remain - BitVec.ofNat 31 n = 0
  · rw [if_pos hr]
    exact chanMod_congr ((if_pos hr).symm)
  · rw [if_neg hr]
    exact chanMod_congr ((if_neg hr).symm)

/-- A request of BARROW_KEEP that moves bytes. -/
theorem chanRequest_moves {ch : Fin 16} {s : State} (h1 : s.bwKeep.ch[ch].state = .run) (h2 : s.bwKeep.ch[ch].mode ≠ 2)
    (h3 : s.bwKeep.ch[ch].stopDue = false)
    (hsrc : s.bwKeep.ch[ch].mode ≠ 1 → memUp s (s.bwKeep.ch[ch].src.toNat + bwDone s.bwKeep.ch[ch]) = true)
    (hdst : memUp s (s.bwKeep.ch[ch].dst.toNat + bwDone s.bwKeep.ch[ch]) = true) :
    chanRequest false ch s = chanMod false ch (moveEnd (chunkLen s.bwKeep.ch[ch]))
      (memPut s (s.bwKeep.ch[ch].dst.toNat + bwDone s.bwKeep.ch[ch]) (chunkBytes s.bwKeep.ch[ch] s)) := by
  have hg : bwGet false s = s.bwKeep := rfl
  rw [chanRequest, hg, if_neg (by rw [h1]; exact fun e => e rfl),
    if_neg (fun e => Bool.false_ne_true (e.2.symm.trans (hsrc e.1))), if_neg (by rw [hdst]; decide), if_neg h2, bwPut,
    if_pos hdst, if_neg Bool.false_ne_true]
  exact moveStep_eq (s := memPut s _ _) h3

theorem moveEnd_facts {n : Nat} {c : BwChan} (h : n ≤ c.remain.toNat) (hr : c.state = .run) :
    (moveEnd n c).remain.toNat = c.remain.toNat - n ∧
      (moveEnd n c).state = if (moveEnd n c).remain = 0 then .done else .run := by
  unfold moveEnd
  dsimp only
  by_cases h0 : c.remain - BitVec.ofNat 31 n = 0
  · rw [if_pos h0]
    exact ⟨remain_sub h, (if_pos h0).symm⟩
  · rw [if_neg h0]
    exact ⟨remain_sub h, hr.trans (if_neg h0).symm⟩

/-! ## Error responses (R429, R433) -/

/-- The address and the kind that an error response of channel c is captured with. -/
theorem chanFail_eq (app : Bool) (ch : Fin 16) (onWrite : Bool) (s : State) : ∃ a : Access, a.master = bwMaster app ∧
    chanFail app ch onWrite s = errorResponse a .target (chanMod app ch
      (chanEnd .error (if (if (bwGet app s).ch[ch].mode = 1 then true
        else if (bwGet app s).ch[ch].mode = 2 then false else onWrite) = true then 5 else 4))
      (bwSpill app (bwGet app s).ch[ch] s)) := ⟨_, rfl, rfl⟩

/-- The code of an error response: BUS_WRITE for a write, BUS_READ otherwise. -/
theorem failCode_eq (mode : BitVec 2) (onWrite : Bool) :
    ((if mode = 1 then true else if mode = 2 then false else onWrite) = true) =
      (mode = 1 ∨ (mode ≠ 2 ∧ onWrite = true)) := by
  by_cases h1 : mode = 1
  · simp [h1]
  · by_cases h2 : mode = 2
    · rw [if_neg h1, if_pos h2]
      simp [h2]
    · rw [if_neg h1, if_neg h2]
      exact propext ⟨fun h => .inr ⟨h2, h⟩, fun h => (h.resolve_left h1).2⟩

theorem bwGet_memOnly {s t : State} (app : Bool) (h : MemOnly s t) : bwGet app t = bwGet app s := by
  obtain ⟨m, c, f, rfl⟩ := h
  rfl

theorem bwGet_hubOnly {s t : State} (app : Bool) (h : HubOnly s t) : bwGet app t = bwGet app s := by
  rw [h]
  rfl

/-- Settles O47: bytes moved, compares, error responses, and channels that do not run. -/
theorem channelsMoveBytes : Obligations.ChannelsMoveBytes := by
  refine ⟨fun ch s hsnd h1 h2 h3 hsrc hdst => ?_, fun app ch s h1 h2 hsrc hdst => ?_, fun app onWrite ch s h hm => ?_,
    fun app onWrite ch s h => ⟨congrArg Host.Outcome.next (if_neg h), congrArg Host.Outcome.next (if_pos h)⟩⟩
  · have hx := chanRequest_moves h1 h2 h3 hsrc hdst
    have hl := chunkBytes_length s.bwKeep.ch[ch] s
    have hf := moveEnd_facts (chunkLen_le s.bwKeep.ch[ch]) h1
    have hself : (chanMod false ch (moveEnd (chunkLen s.bwKeep.ch[ch])) (memPut s (s.bwKeep.ch[ch].dst.toNat +
        bwDone s.bwKeep.ch[ch]) (chunkBytes s.bwKeep.ch[ch] s))).bwKeep.ch[ch] =
          moveEnd (chunkLen s.bwKeep.ch[ch]) s.bwKeep.ch[ch] := bwGet_chanMod false ch _ _
    refine ⟨_, congrArg Host.Outcome.next hx, rfl, ?_, fun i hi => ?_, ?_, ?_, fun k hk => vmod_other _ _ k _ hk⟩
    · exact hl ▸ memSameBut_memPut s _ (chunkBytes s.bwKeep.ch[ch] s)
    · refine (Mem.read_writeAll_at hsnd (by rw [hl]; exact hi)).trans ?_
      rw [chunkBytes, List.getD_eq_getElem _ _ (by rw [List.length_map, List.length_range]; exact hi), List.getElem_map,
        List.getElem_range]
    · exact (congrArg (fun c : BwChan => c.remain.toNat) hself).trans hf.1
    · rw [hself]
      exact hf.2
  · have hx := chanRequest_compare h1 h2 hsrc hdst
    have hself := bwGet_chanMod app ch (compareEnd (bwDone (bwGet app s).ch[ch]) (chunkLen (bwGet app s).ch[ch])
      (chunkDiff app (bwGet app s).ch[ch] s)) s
    refine ⟨_, congrArg Host.Outcome.next hx, chanMod_frame .., fun he => ?_, fun i hi hne hj => ?_⟩
    · rw [hself, chunkDiff, firstDiff_none he]
      exact compareEnd_none (chunkLen_le _)
    · rw [hself, chunkDiff, firstDiff_some hi hne hj]
      obtain ⟨c1, c2, c3, c4⟩ := compareEnd_some (bwDone (bwGet app s).ch[ch]) (chunkLen (bwGet app s).ch[ch]) i
        (bwGet app s).ch[ch]
      exact ⟨c1, c2, c3, c4⟩
  · obtain ⟨a, ha, hx⟩ := chanFail_eq app ch onWrite s
    have hsp := bwSpill_only app (bwGet app s).ch[ch] s
    have hg := bwGet_memOnly app hsp
    have hmem : ∀ x, bwSpill app (bwGet app s).ch[ch] s = x → Mild 0x60 x ∧ x.hub = s.hub ∧ x.counters = s.counters := by
      obtain ⟨m, c, f, e⟩ := hsp
      rintro x rfl
      rw [e]
      exact ⟨hm, rfl, rfl⟩
    obtain ⟨hm', hh, hc⟩ := hmem _ rfl
    generalize bwSpill app (bwGet app s).ch[ch] s = x at *
    have hself := bwGet_chanMod app ch (chanEnd .error (if (if (bwGet app s).ch[ch].mode = 1 then true
        else if (bwGet app s).ch[ch].mode = 2 then false else onWrite) = true then 5 else 4)) x
    have hfr := chanMod_frame app ch (chanEnd .error (if (if (bwGet app s).ch[ch].mode = 1 then true
        else if (bwGet app s).ch[ch].mode = 2 then false else onWrite) = true then 5 else 4)) x
    generalize chanMod app ch (chanEnd .error (if (if (bwGet app s).ch[ch].mode = 1 then true
        else if (bwGet app s).ch[ch].mode = 2 then false else onWrite) = true then 5 else 4)) x = y at *
    have hmy : Mild 0x60 y := by
      rw [hfr]
      exact hm'
    have ho := errorResponse_hubOnly (a := a) (src := .target) hmy
    have hcap := errorResponse_captured (a := a) (src := .target) hmy
    have hst := errorResponse_stands a .target y
    generalize errorResponse a .target y = t at *
    have hgt : (bwGet app t).ch[ch] = _ := (congrArg (fun b : Barrow => b.ch[ch]) (bwGet_hubOnly app ho)).trans hself
    refine ⟨t, ?_, ?_, ?_, ?_, hst, hcap.valid, fun hv => ?_, ?_⟩
    · exact congrArg Host.Outcome.next ((if_pos h).trans hx)
    · rw [hgt]
      rfl
    · rw [hgt]
      rfl
    · rw [hgt]
      show (if _ then (5 : BitVec 4) else 4) = _
      simp only [failCode_eq]
    · have hv' : y.hub.feValid = false := by
        rw [hfr]
        exact (congrArg FaultHub.feValid hh).trans hv
      rw [(hcap.first hv').2.1, ha]
    · rw [ho.counters, hfr]
      exact hc

end Sys2Proof.Machine
end

section
/-! The copies of a line in the cluster's caches (R387-R391): what each cache operation makes of them. -/

namespace Sys2Proof.Machine

/-! ## Frames -/

/-- Memory and the cluster alone change. -/
def LineOnly (s t : State) : Prop := t = { s with mem := t.mem, cluster := t.cluster }

theorem LineOnly.refl (s : State) : LineOnly s s := rfl

theorem LineOnly.trans {s t u : State} (h : LineOnly s t) (k : LineOnly t u) : LineOnly s u := by
  unfold LineOnly at *
  rw [k, h]

theorem LineOnly.foldl {f : State → Nat → State} (hf : ∀ x l, LineOnly x (f x l)) (ls : List Nat) (s : State) :
    LineOnly s (ls.foldl f s) := by
  induction ls generalizing s with
  | nil => exact .refl s
  | cons l ls ih => exact LineOnly.trans (hf s l) (ih (f s l))

theorem LineOnly.memUp {s t : State} (h : LineOnly s t) (a : Nat) : Machine.memUp t a = Machine.memUp s a := by
  rw [h]
  rfl

/-- The copies of every line stand. -/
structure SameLines (s t : State) : Prop where
  l1d : t.cluster.l1d = s.cluster.l1d
  l2 : t.cluster.l2 = s.cluster.l2

theorem SameLines.l1Find {s t : State} (h : SameLines s t) (c : Fin 4) (line : Nat) :
    Machine.l1Find t c line = Machine.l1Find s c line := by
  rw [Machine.l1Find, h.l1d]
  rfl

theorem SameLines.l2Find {s t : State} (h : SameLines s t) (line : Nat) :
    Machine.l2Find t line = Machine.l2Find s line := by
  rw [Machine.l2Find, h.l2]
  rfl

theorem l1Find_line {s : State} {c : Fin 4} {line : Nat} {x : L1Line} (h : l1Find s c line = some x) : x.line = line := by
  have hx := List.find?_some h
  exact of_decide_eq_true hx

theorem l2Find_line {s : State} {line : Nat} {x : L2Line} (h : l2Find s line = some x) : x.line = line := by
  have hx := List.find?_some h
  exact of_decide_eq_true hx

/-! ## The dirty copy -/

/-- The copies of one line decide whether it is dirty. -/
theorem l1Dirty_congr {s t : State} {line : Nat} (h : ∀ c, l1Find t c line = l1Find s c line) :
    l1Dirty t line = l1Dirty s line := by
  unfold l1Dirty
  simp only [h]

theorem lineDirty_congr {s t : State} {line : Nat} (h1 : ∀ c, l1Find t c line = l1Find s c line)
    (h2 : l2Find t line = l2Find s line) : lineDirty t line = lineDirty s line := by
  rw [lineDirty, l1Dirty_congr h1, h2]
  rfl

theorem SameLines.lineDirty {s t : State} (h : SameLines s t) (line : Nat) :
    Machine.lineDirty t line = Machine.lineDirty s line :=
  lineDirty_congr (fun c => h.l1Find c line) (h.l2Find line)

theorem lineData_congr {s t : State} {line : Nat} (h1 : ∀ c, l1Find t c line = l1Find s c line)
    (h2 : l2Find t line = l2Find s line) (hm : t.mem = s.mem) : lineData t line = lineData s line := by
  rw [lineData, l1Dirty_congr h1, h2, lineMem, hm]
  rfl

/-- No core holds a line in M: no L1 copy is dirty. -/
theorem l1Dirty_none {s : State} {line : Nat} (h : ∀ c x, l1Find s c line = some x → x.state ≠ .m) :
    l1Dirty s line = none := by
  refine List.findSome?_eq_none_iff.mpr fun c _ => ?_
  split
  · next x hx => exact if_neg (h c x hx)
  · rfl

theorem lineDirty_false {s : State} {line : Nat} (h1 : ∀ c x, l1Find s c line = some x → x.state ≠ .m)
    (h2 : ∀ x, l2Find s line = some x → x.dirty = false) : lineDirty s line = false := by
  rw [lineDirty, l1Dirty_none h1]
  cases hx : l2Find s line with
  | none => rfl
  | some x => exact h2 x hx

/-- A dirty line is one of those that the caches hold. -/
theorem mem_cachedLines {s : State} {line : Nat} (h : lineDirty s line = true) : line ∈ cachedLines s := by
  by_cases h1 : ∀ c x, l1Find s c line = some x → x.state ≠ .m
  · rw [lineDirty, l1Dirty_none h1] at h
    cases hx : l2Find s line with
    | none =>
      rw [hx] at h
      exact absurd h (by decide)
    | some x =>
      exact List.mem_append_left _ (List.mem_map.mpr ⟨x, List.mem_of_find?_eq_some hx, l2Find_line hx⟩)
  · obtain ⟨c, h1⟩ := not_forall.mp h1
    obtain ⟨x, h1⟩ := not_forall.mp h1
    have hx : l1Find s c line = some x := (Classical.not_imp.mp h1).1
    refine List.mem_append_right _ (List.mem_flatMap.mpr ⟨s.cluster.l1d[c], ?_, List.mem_map.mpr
      ⟨x, List.mem_of_find?_eq_some hx, l1Find_line hx⟩⟩)
    exact Vector.mem_toList_iff.mpr (Vector.getElem_mem c.isLt)

/-! ## Write-back -/

/-- A line written back and counted. -/
def written (line : Nat) (s : State) : State := writeBack line (countWb line s)

theorem countWb_frame (line : Nat) (s : State) : SameLines s (countWb line s) ∧ (countWb line s).mem = s.mem ∧
    LineOnly s (countWb line s) := by
  unfold countWb
  split
  · exact ⟨⟨rfl, rfl⟩, rfl, rfl⟩
  · exact ⟨⟨rfl, rfl⟩, rfl, rfl⟩

theorem writeBack_frame (line : Nat) (s : State) : SameLines s (writeBack line s) ∧ LineOnly s (writeBack line s) := by
  unfold writeBack
  split
  · exact ⟨⟨rfl, rfl⟩, rfl⟩
  · exact ⟨⟨rfl, rfl⟩, rfl⟩

theorem SameLines.trans {s t u : State} (h : SameLines s t) (k : SameLines t u) : SameLines s u :=
  ⟨k.l1d.trans h.l1d, k.l2.trans h.l2⟩

theorem written_sameLines (line : Nat) (s : State) : SameLines s (written line s) :=
  (countWb_frame line s).1.trans (writeBack_frame line _).1

theorem written_lineOnly (line : Nat) (s : State) : LineOnly s (written line s) :=
  LineOnly.trans (countWb_frame line s).2.2 (writeBack_frame line _).2

/-- A dirty line's latest copy goes to memory; a clean one's does not. -/
theorem written_mem (line : Nat) (s : State) : (written line s).mem =
    if lineDirty s line then s.mem.writeAll (64 * line) (lineData s line) else s.mem := by
  obtain ⟨hs, hm, -⟩ := countWb_frame line s
  have hd := hs.lineDirty line
  have hl := lineData_congr (fun c => hs.l1Find c line) (hs.l2Find line) hm
  rw [written, writeBack, hd]
  split
  · rw [memPut, hl, hm]
  · exact hm

theorem written_memSameBut (line : Nat) (s : State) :
    MemSameBut (64 * line) (lineData s line).length s (written line s) := by
  intro a ha
  rw [memByte, written_mem]
  split
  · exact Mem.read_writeAll_other ha
  · rfl

/-! ## Copies that become clean -/

theorem find?_map_line {α : Type} {f : α → α} {g : α → Nat} (h : ∀ x, g (f x) = g x) (l : List α) (line : Nat) :
    (l.map f).find? (fun x => g x = line) = (l.find? fun x => g x = line).map f := by
  rw [List.find?_map]
  congr 1
  refine congrArg (fun p => List.find? p l) (funext fun x => ?_)
  rw [Function.comp, h]

/-- An L1 copy after its line became clean. -/
def cleanL1 (line : Nat) (l : L1Line) : L1Line := if l.line = line ∧ l.state = .m then { l with state := .e } else l

/-- An L2 copy after its line became clean. -/
def cleanL2 (line : Nat) (d : List Byte) (l : L2Line) : L2Line :=
  if l.line = line then { l with dirty := false, data := d } else l

theorem l1Find_markClean (line : Nat) (s : State) (c : Fin 4) (l : Nat) :
    l1Find (markClean line s) c l = (l1Find s c l).map (cleanL1 line) := by
  have hv : (markClean line s).cluster.l1d[c] = s.cluster.l1d[c].map (cleanL1 line) := Vector.getElem_map _ _
  rw [l1Find, hv]
  refine find?_map_line (g := L1Line.line) (fun x => ?_) _ _
  unfold cleanL1
  split
  · rfl
  · rfl

theorem l2Find_markClean (line : Nat) (s : State) (l : Nat) :
    l2Find (markClean line s) l = (l2Find s l).map (cleanL2 line (lineData s line)) := by
  refine find?_map_line (g := L2Line.line) (fun x => ?_) _ _
  show (if x.line = line then { x with dirty := false, data := lineData s line } else x).line = x.line
  split
  · rfl
  · rfl

/-- The line is clean. -/
theorem lineDirty_markClean_self (line : Nat) (s : State) : lineDirty (markClean line s) line = false := by
  refine lineDirty_false (fun c x hx => ?_) (fun x hx => ?_)
  · rw [l1Find_markClean] at hx
    obtain ⟨y, hy, rfl⟩ := Option.map_eq_some_iff.mp hx
    have hl := l1Find_line hy
    unfold cleanL1
    split
    · exact fun e => Mesi.noConfusion e
    · next h => exact fun e => h ⟨hl, e⟩
  · rw [l2Find_markClean] at hx
    obtain ⟨y, hy, rfl⟩ := Option.map_eq_some_iff.mp hx
    have hl := l2Find_line hy
    rw [cleanL2, if_pos hl]

theorem Option.map_eq_self {α : Type} {f : α → α} {o : Option α} (h : ∀ x, o = some x → f x = x) : o.map f = o := by
  cases o with
  | none => rfl
  | some x => exact congrArg some (h x rfl)

/-- Every other line is as it was. -/
theorem lineDirty_markClean_other {line l : Nat} (h : l ≠ line) (s : State) :
    lineDirty (markClean line s) l = lineDirty s l := by
  refine lineDirty_congr (fun c => ?_) ?_
  · rw [l1Find_markClean]
    refine Option.map_eq_self fun x hx => if_neg fun e => h ?_
    exact (l1Find_line hx).symm.trans e.1
  · rw [l2Find_markClean]
    refine Option.map_eq_self fun x hx => if_neg fun e => h ?_
    exact (l2Find_line hx).symm.trans e

/-! ## Copies that go -/

theorem find?_filter_self {α : Type} {g : α → Nat} (l : List α) (line : Nat) :
    (l.filter fun x => g x ≠ line).find? (fun x => g x = line) = none := by
  rw [List.find?_eq_none]
  intro x hx
  have := of_decide_eq_true (List.mem_filter.mp hx).2
  simpa using this

theorem find?_filter_other {α : Type} {g : α → Nat} (l : List α) {line k : Nat} (h : k ≠ line) :
    (l.filter fun x => g x ≠ line).find? (fun x => g x = k) = l.find? fun x => g x = k := by
  rw [List.find?_filter]
  refine congrArg (fun p => List.find? p l) (funext fun x => ?_)
  by_cases hx : g x = k
  · simp [hx, h]
  · simp [hx]

theorem l1Find_dropLine_self (line : Nat) (s : State) (c : Fin 4) : l1Find (dropLine line s) c line = none := by
  have hv : (dropLine line s).cluster.l1d[c] = s.cluster.l1d[c].filter fun l => l.line ≠ line := Vector.getElem_map _ _
  rw [l1Find, hv]
  exact find?_filter_self (g := L1Line.line) _ _

theorem l2Find_dropLine_self (line : Nat) (s : State) : l2Find (dropLine line s) line = none :=
  find?_filter_self (g := L2Line.line) _ _

theorem l1Find_dropLine_other {line l : Nat} (h : l ≠ line) (s : State) (c : Fin 4) :
    l1Find (dropLine line s) c l = l1Find s c l := by
  have hv : (dropLine line s).cluster.l1d[c] = s.cluster.l1d[c].filter fun l => l.line ≠ line := Vector.getElem_map _ _
  rw [l1Find, hv]
  exact find?_filter_other (g := L1Line.line) _ h

theorem l2Find_dropLine_other {line l : Nat} (h : l ≠ line) (s : State) : l2Find (dropLine line s) l = l2Find s l :=
  find?_filter_other (g := L2Line.line) _ h

theorem lineDirty_dropLine_self (line : Nat) (s : State) : lineDirty (dropLine line s) line = false := by
  refine lineDirty_false (fun c x hx => ?_) (fun x hx => ?_)
  · exact absurd ((l1Find_dropLine_self line s c).symm.trans hx) (by simp)
  · exact absurd ((l2Find_dropLine_self line s).symm.trans hx) (by simp)

theorem lineDirty_dropLine_other {line l : Nat} (h : l ≠ line) (s : State) :
    lineDirty (dropLine line s) l = lineDirty s l :=
  lineDirty_congr (l1Find_dropLine_other h s) (l2Find_dropLine_other h s)

end Sys2Proof.Machine
end

section
/-! Cache-block operations and L2_MAINT (R391, R396, R407), and the settling of O40. -/

namespace Sys2Proof.Machine

theorem exec_of_l2dir {i : Instr} {m : Master} {off : Nat} {v : Word} {s : State}
    (hi : exec i s = .next (regWrite m 0x0E off v s)) (h : Granted m 0x0E off v s) :
    exec i s = .next (writeL2dir off v s) :=
  exec_of_granted hi h (by decide)

/-! ## Cache-block operations (R391) -/

theorem cboAccess_granted {h : Fin 4} {a : BitVec 40} {f : State → State} {s : State}
    (h1 : cachedRegion (a.toNat / 64) = true) (h2 : memUp s a.toNat = true) : cboAccess h a f s = f s :=
  (if_pos h1).trans (if_pos h2)

/-- The line is written back and its copies are clean. -/
def cleaned (line : Nat) (s : State) : State := markClean line (written line s)

/-- The line is written back and its copies go. -/
def flushed (line : Nat) (s : State) : State := dropLine line (written line s)

theorem cboClean_eq (a : BitVec 40) (s : State) : cboClean a s = cleaned (a.toNat / 64) s := rfl

theorem cboFlush_eq (a : BitVec 40) (s : State) : cboFlush a s = flushed (a.toNat / 64) s := rfl

theorem cleaned_lineOnly (line : Nat) (s : State) : LineOnly s (cleaned line s) :=
  LineOnly.trans (written_lineOnly line s) rfl

theorem flushed_lineOnly (line : Nat) (s : State) : LineOnly s (flushed line s) :=
  LineOnly.trans (written_lineOnly line s) rfl

theorem markClean_mem (line : Nat) (s : State) : (markClean line s).mem = s.mem := rfl

theorem dropLine_mem (line : Nat) (s : State) : (dropLine line s).mem = s.mem := rfl

theorem cleaned_mem (line : Nat) (s : State) : (cleaned line s).mem = (written line s).mem := markClean_mem line _

theorem flushed_mem (line : Nat) (s : State) : (flushed line s).mem = (written line s).mem := dropLine_mem line _

section

variable {line : Nat} {s t : State} (hm : t.mem = (written line s).mem)

include hm

/-- Beside the line no byte of memory changes. -/
theorem memSameBut_of_written : MemSameBut (64 * line) (lineData s line).length s t := fun a ha => by
  rw [memByte, hm]
  exact written_memSameBut line s a ha

/-- A dirty line's latest copy reads back from memory. -/
theorem readAll_of_written (h : Sound s) (hd : lineDirty s line = true) :
    t.mem.readAll (64 * line) (lineData s line).length = lineData s line := by
  rw [hm, written_mem, if_pos hd]
  exact Mem.readAll_writeAll h

theorem memSame_of_written (hd : lineDirty s line = false) : MemSame s t :=
  memSame_of_mem (hm.trans ((written_mem line s).trans (if_neg (by rw [hd]; exact Bool.false_ne_true))))

end

/-! ## The lines in turn (R407) -/

/-- A dirty copy stays dirty, or not, with the copies of its line. -/
theorem lineDirty_cleaned_other {line l : Nat} (h : l ≠ line) (s : State) :
    lineDirty (cleaned line s) l = lineDirty s l :=
  (lineDirty_markClean_other h _).trans ((written_sameLines line s).lineDirty l)

theorem lineDirty_flushed_other {line l : Nat} (h : l ≠ line) (s : State) :
    lineDirty (flushed line s) l = lineDirty s l :=
  (lineDirty_dropLine_other h _).trans ((written_sameLines line s).lineDirty l)

/-- One line of CLEAN_ALL. -/
def cleanStep (s : State) (l : Nat) : State := if stuckLine s l then s else cleaned l s

/-- One line of FLUSH_ALL. -/
def flushStep (s : State) (l : Nat) : State := if stuckLine s l then s else flushed l s

theorem cleanStep_lineOnly (s : State) (l : Nat) : LineOnly s (cleanStep s l) := by
  unfold cleanStep
  split
  · rfl
  · exact cleaned_lineOnly l s

theorem flushStep_lineOnly (s : State) (l : Nat) : LineOnly s (flushStep s l) := by
  unfold flushStep
  split
  · rfl
  · exact flushed_lineOnly l s

/-- A line that is dirty after a step was dirty before, and stuck where the step was its own. -/
theorem cleanStep_dirty {s : State} {l line : Nat} (h : lineDirty (cleanStep s l) line = true) :
    lineDirty s line = true ∧ (line = l → memUp s (64 * line) = false) := by
  unfold cleanStep at h
  by_cases hs : stuckLine s l = true
  · rw [if_pos hs] at h
    refine ⟨h, fun e => ?_⟩
    rw [e]
    rw [stuckLine, Bool.and_eq_true, Bool.not_eq_true'] at hs
    exact hs.2
  · rw [if_neg hs] at h
    by_cases e : line = l
    · rw [e, cleaned, lineDirty_markClean_self] at h
      exact absurd h Bool.false_ne_true
    · exact ⟨(lineDirty_cleaned_other e s).symm.trans h, fun e' => absurd e' e⟩

/-- A line that is dirty after CLEAN_ALL's lines was dirty before, and its memory takes no access where it was one of them. -/
theorem cleanSteps_dirty {ls : List Nat} {s : State} {line : Nat} (h : lineDirty (ls.foldl cleanStep s) line = true) :
    lineDirty s line = true ∧ (line ∈ ls → memUp s (64 * line) = false) := by
  induction ls generalizing s with
  | nil => exact ⟨h, fun e => absurd e List.not_mem_nil⟩
  | cons l ls ih =>
    obtain ⟨h1, h2⟩ := ih h
    obtain ⟨h3, h4⟩ := cleanStep_dirty h1
    refine ⟨h3, fun e => ?_⟩
    rcases List.mem_cons.mp e with e | e
    · exact h4 e
    · rw [← LineOnly.memUp (cleanStep_lineOnly s l)]
      exact h2 e

/-- No line is stuck. -/
def NoneStuck (s : State) : Prop := ∀ line, stuckLine s line = false

theorem NoneStuck.flushed {s : State} (h : NoneStuck s) (l : Nat) : NoneStuck (flushed l s) := by
  intro line
  have hl := h line
  rw [stuckLine, LineOnly.memUp (flushed_lineOnly l s)]
  by_cases e : line = l
  · rw [e, Machine.flushed, lineDirty_dropLine_self, Bool.false_and]
  · rw [lineDirty_flushed_other e]
    exact hl

/-- The copies that are left when some lines go. -/
structure LinesGone (ls : List Nat) (s t : State) : Prop where
  l2 : ∀ x ∈ t.cluster.l2, x ∈ s.cluster.l2 ∧ x.line ∉ ls
  l1d : ∀ (c : Fin 4), ∀ x ∈ t.cluster.l1d[c], x ∈ s.cluster.l1d[c] ∧ x.line ∉ ls

theorem dropLine_gone (l : Nat) (s : State) : LinesGone [l] s (dropLine l s) := by
  refine ⟨fun x hx => ?_, fun c x hx => ?_⟩
  · obtain ⟨h1, h2⟩ := List.mem_filter.mp hx
    exact ⟨h1, fun e => of_decide_eq_true h2 (List.mem_singleton.mp e)⟩
  · have hv : (dropLine l s).cluster.l1d[c] = s.cluster.l1d[c].filter fun x => x.line ≠ l := Vector.getElem_map _ _
    rw [hv] at hx
    obtain ⟨h1, h2⟩ := List.mem_filter.mp hx
    exact ⟨h1, fun e => of_decide_eq_true h2 (List.mem_singleton.mp e)⟩

theorem LinesGone.of_same {ls : List Nat} {s t u : State} (h : SameLines s t) (k : LinesGone ls t u) : LinesGone ls s u := by
  obtain ⟨k2, k1⟩ := k
  rw [h.l2] at k2
  rw [h.l1d] at k1
  exact ⟨k2, k1⟩

theorem LinesGone.cons {l : Nat} {ls : List Nat} {s t u : State} (h : LinesGone [l] s t) (k : LinesGone ls t u) :
    LinesGone (l :: ls) s u := by
  refine ⟨fun x hx => ?_, fun c x hx => ?_⟩
  · obtain ⟨h1, h2⟩ := k.l2 x hx
    obtain ⟨h3, h4⟩ := h.l2 x h1
    exact ⟨h3, fun e => (List.mem_cons.mp e).elim (fun e => h4 (List.mem_singleton.mpr e)) h2⟩
  · obtain ⟨h1, h2⟩ := k.l1d c x hx
    obtain ⟨h3, h4⟩ := h.l1d c x h1
    exact ⟨h3, fun e => (List.mem_cons.mp e).elim (fun e => h4 (List.mem_singleton.mpr e)) h2⟩

theorem LinesGone.nil (s : State) : LinesGone [] s s :=
  ⟨fun _ h => ⟨h, List.not_mem_nil⟩, fun _ _ h => ⟨h, List.not_mem_nil⟩⟩

theorem flushSteps_gone {ls : List Nat} {s : State} (h : NoneStuck s) : LinesGone ls s (ls.foldl flushStep s) := by
  induction ls generalizing s with
  | nil => exact .nil s
  | cons l ls ih =>
    have hs : flushStep s l = flushed l s := if_neg (by rw [h l]; exact Bool.false_ne_true)
    rw [List.foldl_cons, hs]
    exact ((dropLine_gone l _).of_same (written_sameLines l s)).cons (ih (h.flushed l))

theorem dropSteps_gone (ls : List Nat) (s : State) : LinesGone ls s (ls.foldl (fun s l => dropLine l s) s) := by
  induction ls generalizing s with
  | nil => exact .nil s
  | cons l ls ih => exact (dropLine_gone l s).cons (ih _)

/-- Where every cached line goes, no copy is left. -/
theorem LinesGone.empty {s t : State} (h : LinesGone (cachedLines s) s t) :
    t.cluster.l2 = [] ∧ ∀ c : Fin 4, t.cluster.l1d[c] = [] := by
  refine ⟨List.eq_nil_iff_forall_not_mem.mpr fun x hx => ?_, fun c => List.eq_nil_iff_forall_not_mem.mpr fun x hx => ?_⟩
  · obtain ⟨h1, h2⟩ := h.l2 x hx
    exact h2 (List.mem_append_left _ (List.mem_map.mpr ⟨x, h1, rfl⟩))
  · obtain ⟨h1, h2⟩ := h.l1d c x hx
    refine h2 (List.mem_append_right _ (List.mem_flatMap.mpr ⟨s.cluster.l1d[c], ?_, List.mem_map.mpr ⟨x, h1, rfl⟩⟩))
    exact Vector.mem_toList_iff.mpr (Vector.getElem_mem c.isLt)

/-- The dropped lines change the cluster alone. -/
theorem dropSteps_frame (ls : List Nat) (s : State) :
    ls.foldl (fun s l => dropLine l s) s = { s with cluster := (ls.foldl (fun s l => dropLine l s) s).cluster } := by
  induction ls generalizing s with
  | nil => rfl
  | cons l ls ih =>
    rw [List.foldl_cons, ih (dropLine l s)]
    rfl

/-- The end of a maintenance operation. -/
def maintEnd (s : State) : State := { s with cluster := { s.cluster with busy := false, op := 0 } }

theorem l2Done_op {s : State} (h : s.cluster.busy = true) : l2Done s = maintEnd (match s.cluster.op.toNat with
    | 1 => (cachedLines s).foldl cleanStep s
    | 2 => (cachedLines s).foldl flushStep s
    | _ => (cachedLines s).foldl (fun s l => dropLine l s) s) := by
  rw [l2Done, if_pos h]
  rfl

theorem l2Done_clean {s : State} (h : s.cluster.busy = true) (ho : s.cluster.op = 1) :
    l2Done s = maintEnd ((cachedLines s).foldl cleanStep s) := by
  rw [l2Done_op h, ho]
  rfl

theorem l2Done_flush {s : State} (h : s.cluster.busy = true) (ho : s.cluster.op = 2) :
    l2Done s = maintEnd ((cachedLines s).foldl flushStep s) := by
  rw [l2Done_op h, ho]
  rfl

theorem l2Done_inval {s : State} (h : s.cluster.busy = true) (ho : s.cluster.op = 3) :
    l2Done s = maintEnd ((cachedLines s).foldl (fun s l => dropLine l s) s) := by
  rw [l2Done_op h, ho]
  rfl

theorem maintEnd_lineOnly {s t : State} (h : LineOnly s t) : LineOnly s (maintEnd t) := LineOnly.trans h rfl

/-- L2_MAINT starts an operation. -/
theorem l2Maint_starts {op : BitVec 2} {s : State} (h : s.cluster.busy = false) (h0 : op ≠ 0) :
    l2Maint op s = { s with cluster := { s.cluster with busy := true, op := op } } :=
  if_neg fun e => e.elim (fun e => Bool.false_ne_true (h.symm.trans e)) h0

/-- Settles O40: the cache-block operations, and the whole-L2 operations from their start to their end. -/
theorem cachesAreMaintained : Obligations.CachesAreMaintained := by
  refine ⟨⟨fun h a s hs hc hu => ?_, fun h a s hs hc hu => ?_, fun h a s hc hu => ?_, fun h a s hc hm => ?_⟩,
    fun m s h hb => ?_, fun m s h hb => ?_, fun m s h hb => ?_, fun m s h hb => ?_, fun s hb ho => ?_,
    fun s hb ho hn => ?_, fun s hb ho => ?_, fun m v s h hv => ?_, fun m v s h hv => ?_⟩
  · have hx := (cboAccess_granted (h := h) (f := cboClean a) hc hu).trans (cboClean_eq a s)
    exact ⟨_, congrArg Host.Outcome.next hx, cleaned_lineOnly _ s, lineDirty_markClean_self _ _,
      memSameBut_of_written (cleaned_mem _ s), readAll_of_written (cleaned_mem _ s) hs, memSame_of_written (cleaned_mem _ s)⟩
  · have hx := (cboAccess_granted (h := h) (f := cboFlush a) hc hu).trans (cboFlush_eq a s)
    exact ⟨_, congrArg Host.Outcome.next hx, flushed_lineOnly _ s, l2Find_dropLine_self _ _, l1Find_dropLine_self _ _,
      readAll_of_written (flushed_mem _ s) hs, memSameBut_of_written (flushed_mem _ s)⟩
  · have hx := cboAccess_granted (h := h) (f := cboInval a) hc hu
    exact ⟨_, congrArg Host.Outcome.next hx, rfl, l2Find_dropLine_self _ _, l1Find_dropLine_self _ _⟩
  · have hx : cboAccess h a (cboFlush a) s =
        errorResponse { master := .acore h, addr := a, kind := 1, size := 6 } .firewall s :=
      if_neg (by rw [hc]; exact Bool.false_ne_true)
    have ho := errorResponse_hubOnly (a := { master := .acore h, addr := a, kind := 1, size := 6 }) (src := .firewall) hm
    have hcap := errorResponse_captured (a := { master := .acore h, addr := a, kind := 1, size := 6 }) (src := .firewall) hm
    refine ⟨_, congrArg Host.Outcome.next hx, errorResponse_stands _ _ s, by rw [ho], hcap.valid, fun hv => ?_, ho.counters,
      ho.memSame⟩
    obtain ⟨h1, -, -, -, -, h2, -⟩ := hcap.first hv
    exact ⟨h1, h2⟩
  · exact (exec_of_l2dir (i := .l2CleanAll m) rfl h).trans (congrArg Host.Outcome.next (l2Maint_starts hb (by decide)))
  · exact (exec_of_l2dir (i := .l2FlushAll m) rfl h).trans (congrArg Host.Outcome.next (l2Maint_starts hb (by decide)))
  · exact (exec_of_l2dir (i := .l2InvalAll m) rfl h).trans (congrArg Host.Outcome.next (l2Maint_starts hb (by decide)))
  · exact (exec_of_l2dir (i := .l2FlushAll m) rfl h).trans (congrArg Host.Outcome.next (if_pos (.inl hb)))
  · have hl := LineOnly.foldl cleanStep_lineOnly (cachedLines s) s
    have hd := fun line => cleanSteps_dirty (ls := cachedLines s) (s := s) (line := line)
    have hx := l2Done_clean hb ho
    generalize (cachedLines s).foldl cleanStep s = t at *
    refine ⟨_, congrArg Host.Outcome.next hx, maintEnd_lineOnly hl, rfl, rfl, fun line hdt => ?_⟩
    obtain ⟨h1, h2⟩ := hd line hdt
    rw [stuckLine, h1, h2 (mem_cachedLines h1)]
    rfl
  · have hl := LineOnly.foldl flushStep_lineOnly (cachedLines s) s
    obtain ⟨h2, h1⟩ := (flushSteps_gone (ls := cachedLines s) hn).empty
    have hx := l2Done_flush hb ho
    generalize (cachedLines s).foldl flushStep s = t at *
    exact ⟨_, congrArg Host.Outcome.next hx, maintEnd_lineOnly hl, rfl, h2, h1⟩
  · have hf := dropSteps_frame (cachedLines s) s
    obtain ⟨h2, h1⟩ := (dropSteps_gone (cachedLines s) s).empty
    have hx := l2Done_inval hb ho
    generalize (cachedLines s).foldl (fun s l => dropLine l s) s = t at *
    refine ⟨_, congrArg Host.Outcome.next hx, ?_, rfl, h2, h1⟩
    rw [hf]
    rfl
  · exact (exec_of_l2dir (i := .l2CntClr m v) rfl h).trans (congrArg Host.Outcome.next (if_pos hv))
  · exact (exec_of_l2dir (i := .l2CntClr m v) rfl h).trans
      (congrArg Host.Outcome.next (if_neg (by rw [hv]; exact Bool.false_ne_true)))

end Sys2Proof.Machine
end

section
/-! A turn of an L2 bank with one core's request (R388-R390), and the settling of O41. -/

namespace Sys2Proof.Machine

/-! ## One request in a turn -/

/-- A turn that has served its requests. -/
def turnEnd (s : State) : State := { s with cluster := { s.cluster with turnQ := [] } }

/-- A bank serves the one request of its turn. -/
theorem coherenceTurn_one {r : CohReq} {s : State} (h : s.cluster.turnQ = []) :
    coherenceTurn (bankOf (reqLine r)) [r] s = turnEnd (serveReq r s) := by
  have hb : bestOf s.cluster.ptr[bankOf (reqLine r)] [(0, r)] (reqLine r) = some (0, r) := by
    simp [bestOf]
  simp only [coherenceTurn, h, List.nil_append, decide_true, List.filter_cons_of_pos, List.filter_nil, List.map_cons,
    List.map_nil, List.eraseDups_cons, List.eraseDups_nil, List.take, List.filterMap_cons, List.filterMap_nil, hb,
    List.foldl_cons, List.foldl_nil, List.erase_cons_head]
  rfl

theorem coherenceTurn_none {b : Fin 4} {s : State} (h : s.cluster.turnQ = []) : coherenceTurn b [] s = s := by
  have e : coherenceTurn b [] s = turnEnd s := by
    simp only [coherenceTurn, h, List.filter_nil, List.map_nil, List.append_nil, List.eraseDups_nil, List.take_nil,
      List.filterMap_nil, List.foldl_nil]
    rfl
  rw [e, turnEnd, ← h]

/-! ## What a request makes of its line's copies -/

/-- The cluster alone changes. -/
def ClusterOnly (s t : State) : Prop := t = { s with cluster := t.cluster }

theorem ClusterOnly.trans {s t u : State} (h : ClusterOnly s t) (k : ClusterOnly t u) : ClusterOnly s u := by
  unfold ClusterOnly at *
  rw [k, h]

/-- The L2 holds the line, with its latest data. -/
structure Filled (line : Nat) (s t : State) : Prop where
  only : ClusterOnly s t
  l1d : t.cluster.l1d = s.cluster.l1d
  found : (l2Find t line).isSome = true
  data : lineData t line = lineData s line

theorem l1Find_congr {s t : State} (h : t.cluster.l1d = s.cluster.l1d) (c : Fin 4) (line : Nat) :
    l1Find t c line = l1Find s c line := by
  rw [l1Find, h]
  rfl

/-- The L2 after a miss. -/
def missFill (line : Nat) (s : State) : State :=
  { s with cluster := { s.cluster with
    miss := vmod s.cluster.miss (bankOf line) (· + 1)
    l2 := { line := line, dirty := false, data := lineMem s line, owner := none, sharers := 0 } :: s.cluster.l2 } }

theorem l2Find_missFill (line : Nat) (s : State) : l2Find (missFill line s) line =
    some { line := line, dirty := false, data := lineMem s line, owner := none, sharers := 0 } :=
  List.find?_cons_of_pos (decide_eq_true rfl)

theorem lineData_missFill {line : Nat} {s : State} (h : l2Find s line = none) :
    lineData (missFill line s) line = lineData s line := by
  rw [lineData, l1Dirty_congr (s := s) (t := missFill line s) (fun c => l1Find_congr rfl c line), l2Find_missFill,
    lineData, h]

theorem l2Fill_filled (line : Nat) (s : State) : Filled line s (l2Fill line s) := by
  cases hx : l2Find s line with
  | some x =>
    have e : l2Fill line s = { s with cluster := { s.cluster with hit := vmod s.cluster.hit (bankOf line) (· + 1) } } := by
      rw [l2Fill, hx]
    rw [e]
    exact ⟨rfl, rfl, Option.isSome_of_eq_some hx, lineData_congr (fun _ => rfl) rfl rfl⟩
  | none =>
    have e : l2Fill line s = missFill line s := by
      rw [l2Fill, hx]
      rfl
    rw [e]
    exact ⟨rfl, rfl, Option.isSome_of_eq_some (l2Find_missFill line s), lineData_missFill hx⟩

/-- An L2 copy with the line's latest data. -/
def latestL2 (line : Nat) (f : L2Line → L2Line) (l : L2Line) : L2Line := if l.line = line then f l else l

/-- The L2's copy changes as its entry does. -/
theorem l2Find_latest {line : Nat} {f : L2Line → L2Line} {s t : State} (hf : ∀ l, (f l).line = l.line)
    (h : t.cluster.l2 = s.cluster.l2.map (latestL2 line f)) : l2Find t line = (l2Find s line).map f := by
  have hl : ∀ x, (latestL2 line f x).line = x.line := fun x => by
    unfold latestL2
    split
    · exact hf x
    · rfl
  have e : l2Find t line = (l2Find s line).map (latestL2 line f) := by
    rw [l2Find, h]
    exact find?_map_line (g := L2Line.line) hl _ _
  rw [e]
  cases hx : l2Find s line with
  | none => rfl
  | some x => exact congrArg some (if_pos (l2Find_line hx))

/-- No core holds a recalled line. -/
theorem l1Find_recallLine (line : Nat) (s : State) (c : Fin 4) : l1Find (recallLine line s) c line = none := by
  have hv : (recallLine line s).cluster.l1d[c] = s.cluster.l1d[c].filter fun l => l.line ≠ line := Vector.getElem_map _ _
  rw [l1Find, hv]
  exact find?_filter_self (g := L1Line.line) _ _

/-- A recalled line's latest data stands in the L2. -/
theorem lineData_recallLine {line : Nat} {s : State} (h : (l2Find s line).isSome = true) :
    lineData (recallLine line s) line = lineData s line := by
  obtain ⟨x, hx⟩ := Option.isSome_iff_exists.mp h
  have hn : l1Dirty (recallLine line s) line = none :=
    l1Dirty_none fun c y hy => absurd ((l1Find_recallLine line s c).symm.trans hy) (by simp)
  have h2 := l2Find_latest (line := line) (s := s) (t := recallLine line s) (f := fun l =>
    { l with data := lineData s line, dirty := l.dirty || (l1Dirty s line).isSome, owner := none, sharers := 0 })
    (fun _ => rfl) rfl
  rw [lineData, hn, h2, hx]
  rfl

theorem l1Find_l1Put_self (c : Fin 4) (l : L1Line) (s : State) : l1Find (l1Put c l s) c l.line = some l := by
  have hv : (l1Put c l s).cluster.l1d[c] = l :: s.cluster.l1d[c].filter fun x => x.line ≠ l.line := vmod_same ..
  rw [l1Find, hv]
  exact List.find?_cons_of_pos (decide_eq_true rfl)

theorem l1Find_l1Put_other {c o : Fin 4} (h : o ≠ c) (l : L1Line) (s : State) (line : Nat) :
    l1Find (l1Put c l s) o line = l1Find s o line := by
  have hv : (l1Put c l s).cluster.l1d[o] = s.cluster.l1d[o] := vmod_other _ _ _ _ h
  rw [l1Find, hv]
  rfl

/-! ## Ownership (R388) -/

/-- The copy that the owner takes. -/
def ownLine (line ofs : Nat) (d : List Byte) (s : State) : L1Line :=
  { line := line, state := if d.isEmpty then .e else .m, data := patchLine (lineData s line) ofs d }

theorem serveReq_own {c : Fin 4} {line ofs : Nat} {d : List Byte} {s : State} (h : fillRefused true line s = none) :
    ClusterOnly s (serveReq (.own c line ofs d) s) ∧ (serveReq (.own c line ofs d) s).cluster.l1d =
      (l1Put c (ownLine line ofs d s) (recallLine line (l2Fill line s))).cluster.l1d := by
  have hf := l2Fill_filled line s
  have hd := lineData_recallLine hf.found
  have hc : ClusterOnly (l2Fill line s) (recallLine line (l2Fill line s)) := rfl
  unfold serveReq
  dsimp only
  rw [h]
  dsimp only
  rw [hd, hf.data]
  generalize recallLine line (l2Fill line s) = z at *
  exact ⟨ClusterOnly.trans hf.only (ClusterOnly.trans hc rfl), rfl⟩

/-! ## Reads (R388) -/

/-- An L1 copy of a line that is shared. -/
def shareL1 (line : Nat) (l : L1Line) : L1Line := if l.line = line then { l with state := .s } else l

theorem shareL1_line (line : Nat) (l : L1Line) : (shareL1 line l).line = l.line := by
  unfold shareL1
  split
  · rfl
  · rfl

/-- The copy that the reader takes. -/
def readLine (c : Fin 4) (line : Nat) (s : State) : L1Line :=
  { line := line, data := lineData s line
    state := if ([0, 1, 2, 3] : List (Fin 4)).any fun o => decide (o ≠ c) && (l1Find s o line).isSome then .s else .e }

theorem serveReq_read {c : Fin 4} {line : Nat} {s : State} (h : fillRefused false line s = none) :
    ClusterOnly s (serveReq (.read c line) s) ∧ ∃ z, z.cluster.l1d =
      (l2Fill line s).cluster.l1d.map (fun ls => ls.map (shareL1 line)) ∧ (serveReq (.read c line) s).cluster.l1d =
        (l1Put c (readLine c line (l2Fill line s)) z).cluster.l1d := by
  have hf := l2Fill_filled line s
  unfold serveReq
  dsimp only
  rw [h]
  dsimp only
  generalize l2Fill line s = y at *
  exact ⟨ClusterOnly.trans hf.only rfl, _, rfl, rfl⟩

/-- Settles O41: a turn with an ownership request, with a read, and with nothing to serve. -/
theorem linesAreCoherent : Obligations.LinesAreCoherent := by
  refine ⟨fun c line ofs d s hq h => ?_, fun c line s hq h => ?_, fun b s hq =>
    congrArg Host.Outcome.next (coherenceTurn_none hq)⟩
  · have hx := coherenceTurn_one (r := .own c line ofs d) hq
    obtain ⟨ho, hl⟩ := serveReq_own (c := c) (ofs := ofs) (d := d) h
    generalize serveReq (.own c line ofs d) s = t at *
    refine ⟨_, congrArg Host.Outcome.next hx, ClusterOnly.trans ho rfl, rfl, ?_, fun o hne => ?_⟩
    · exact (l1Find_congr (t := turnEnd t) hl c line).trans (l1Find_l1Put_self c (ownLine line ofs d s) _)
    · exact (l1Find_congr (t := turnEnd t) hl o line).trans
        ((l1Find_l1Put_other hne _ _ line).trans (l1Find_recallLine line _ o))
  · have hx := coherenceTurn_one (r := .read c line) hq
    obtain ⟨ho, z, hz, hl⟩ := serveReq_read (c := c) h
    have hd := (l2Fill_filled line s).data
    generalize serveReq (.read c line) s = t at *
    refine ⟨_, readLine c line (l2Fill line s), congrArg Host.Outcome.next hx, ClusterOnly.trans ho rfl, ?_, hd, ?_,
      fun o x hne hf => ?_⟩
    · exact (l1Find_congr (t := turnEnd t) hl c line).trans (l1Find_l1Put_self c (readLine c line (l2Fill line s)) _)
    · unfold readLine
      dsimp only
      split
      · exact fun e => Mesi.noConfusion e
      · exact fun e => Mesi.noConfusion e
    · have hx' : l1Find z o line = some x :=
        ((l1Find_l1Put_other hne _ z line).symm.trans (l1Find_congr (t := turnEnd t) hl o line).symm).trans hf
      have hv : z.cluster.l1d[o] = (l2Fill line s).cluster.l1d[o].map (shareL1 line) := by
        rw [hz]
        exact Vector.getElem_map _ _
      rw [l1Find, hv, find?_map_line (g := L1Line.line) (shareL1_line line)] at hx'
      obtain ⟨y, hy, rfl⟩ := Option.map_eq_some_iff.mp hx'
      rw [shareL1, if_pos (l1Find_line (s := l2Fill line s) (c := o) hy)]

end Sys2Proof.Machine
end

section
/-! The engine link's frames, the safe state and its exit (R21, R150-R152), and the settling of O22. -/

namespace Sys2Proof.Machine

/-! ## Control and status frames (R21) -/

theorem controlOp_good (s : State) : controlOp true s.hdie.rxSeq s = { s with
    hdie := { s.hdie with rxSeq := s.hdie.rxSeq + 1, validRun := min 1000 (s.hdie.validRun + 1) } } :=
  if_pos (decide_eq_true rfl)

theorem controlOp_bad {ok : Bool} {q : BitVec 16} {s : State} (h : frameGood ok q s.hdie.rxSeq = false) :
    controlOp ok q s = raiseFault 0xC1 { s with
      hdie := { s.hdie with rxSeq := nextSeq ok q s.hdie.rxSeq, validRun := 0 } } :=
  if_neg (by rw [h]; exact Bool.false_ne_true)

/-- The ADC values of a status frame change what mirrors them. -/
theorem statusAdc_frame (vals : List (Fin 36 × Word × Bool)) (s : State) :
    ∃ x y f v, statusAdc vals s = { s with adc := { s.adc with val := x, valid := y }, fuser := f, hv := v } := by
  induction vals generalizing s with
  | nil => exact ⟨s.adc.val, s.adc.valid, s.fuser, s.hv, rfl⟩
  | cons x vals ih =>
    have hone : ∃ y z f v, statusAdc [x] s =
        { s with adc := { s.adc with val := y, valid := z }, fuser := f, hv := v } := by
      unfold statusAdc
      rw [List.foldl_cons, List.foldl_nil]
      dsimp only
      split
      · exact ⟨_, _, _, _, rfl⟩
      · split
        · exact ⟨_, _, _, _, rfl⟩
        · exact ⟨_, _, _, _, rfl⟩
    obtain ⟨a1, b1, f1, v1, e1⟩ := hone
    have hcons : statusAdc (x :: vals) s = statusAdc vals (statusAdc [x] s) := rfl
    obtain ⟨a2, b2, f2, v2, e2⟩ := ih (statusAdc [x] s)
    rw [hcons, e2, e1]
    exact ⟨_, _, _, _, rfl⟩

/-- One value. -/
theorem statusAdc_one (i : Fin 36) (x : Word) (ok : Bool) (s : State) :
    (statusAdc [(i, x, ok)] s).adc.val = s.adc.val.set i x ∧
      (statusAdc [(i, x, ok)] s).adc.valid = setBit s.adc.valid i.val ok ∧
      (i.val < 26 ∨ 29 < i.val → (statusAdc [(i, x, ok)] s).fuser = s.fuser ∧ (statusAdc [(i, x, ok)] s).hv = s.hv) := by
  unfold statusAdc
  rw [List.foldl_cons, List.foldl_nil]
  dsimp only
  split
  · exact ⟨rfl, rfl, fun h => absurd h (by omega)⟩
  · split
    · exact ⟨rfl, rfl, fun h => absurd h (by omega)⟩
    · exact ⟨rfl, rfl, fun _ => ⟨rfl, rfl⟩⟩

/-! ## The conditions that a status frame reports (R160) -/

/-- The level sources among 0x80-0x8F, with what a status frame says of them. -/
def reportedConds (present : BitVec 16) : List (Byte × Bool) :=
  ((List.range 16).filter fun j => ((faultRow (0x80 + j) 0).map (·.level)).getD false).map fun j =>
    (BitVec.ofNat 8 (0x80 + j), present.getLsbD j)

/-- The conditions taken over. -/
def withReported (present : BitVec 16) (s : State) : State :=
  { s with hub := { s.hub with present := (reportedConds present).foldl (fun p c => setBit p c.1.toNat c.2) s.hub.present } }

/-- The sources that come up. -/
def comesUp (present : BitVec 16) (s : State) : List Byte :=
  (reportedConds present).filterMap fun c => if c.2 && !s.hub.present.getLsbD c.1.toNat then some c.1 else none

theorem statusConds_eq (present : BitVec 16) (s : State) :
    statusConds present s = raiseAll (comesUp present s) (withReported present s) := rfl

theorem mem_comesUp {present : BitVec 16} {s : State} {f : Byte} : f ∈ comesUp present s ↔ ∃ j, j < 16 ∧
    ((faultRow (0x80 + j) 0).map (·.level)).getD false = true ∧ f = BitVec.ofNat 8 (0x80 + j) ∧
      present.getLsbD j = true ∧ s.hub.present.getLsbD f.toNat = false := by
  unfold comesUp reportedConds
  rw [List.mem_filterMap]
  constructor
  · rintro ⟨c, hc, hf⟩
    obtain ⟨j, hj, rfl⟩ := List.mem_map.mp hc
    obtain ⟨hr, hl⟩ := List.mem_filter.mp hj
    dsimp only at hf
    split at hf
    · next hb =>
      rw [Bool.and_eq_true, Bool.not_eq_true'] at hb
      obtain rfl := Option.some.inj hf
      exact ⟨j, List.mem_range.mp hr, hl, rfl, hb.1, hb.2⟩
    · exact absurd hf (by simp)
  · rintro ⟨j, hj, hl, rfl, hp, hs⟩
    refine ⟨(BitVec.ofNat 8 (0x80 + j), present.getLsbD j), List.mem_map.mpr ⟨j, List.mem_filter.mpr
      ⟨List.mem_range.mpr hj, hl⟩, rfl⟩, ?_⟩
    dsimp only
    rw [hp, hs]
    rfl

theorem statusConds_none (s : State) : ∃ p, statusConds 0 s = { s with hub := { s.hub with present := p } } := by
  have hn : comesUp 0 s = [] := List.eq_nil_iff_forall_not_mem.mpr fun f hf => by
    obtain ⟨j, -, -, -, hp, -⟩ := mem_comesUp.mp hf
    rw [show (0 : BitVec 16).getLsbD j = false from BitVec.getLsbD_zero] at hp
    exact absurd hp Bool.false_ne_true
  rw [statusConds_eq, hn]
  exact ⟨_, rfl⟩

theorem isSome_of_level {r : Option FaultRow} (h : (r.map (·.level)).getD false = true) : r.isSome = true := by
  cases r with
  | none => exact absurd h (by decide)
  | some r => rfl

/-- A trip condition reported alone raises its fault. -/
theorem statusConds_one {j : Fin 16} {s : State} (hr : (faultRow (0x80 + j.val) 0).map (·.level) = some true)
    (hp : s.hub.present.getLsbD (0x80 + j.val) = false) (hm : Mild (BitVec.ofNat 8 (0x80 + j.val)) s) :
    Stands (BitVec.ofNat 8 (0x80 + j.val)) (statusConds (BitVec.twoPow 16 j.val) s) ∧
      HubOnly s (statusConds (BitVec.twoPow 16 j.val) s) := by
  have hj : (BitVec.ofNat 8 (0x80 + j.val)).toNat = 0x80 + j.val := by
    rw [BitVec.toNat_ofNat]
    omega
  have hone : ∀ f ∈ comesUp (BitVec.twoPow 16 j.val) s, f = BitVec.ofNat 8 (0x80 + j.val) := fun f hf => by
    obtain ⟨k, hk, -, rfl, hb, -⟩ := mem_comesUp.mp hf
    rw [BitVec.getLsbD_twoPow, Bool.and_eq_true, decide_eq_true_eq, decide_eq_true_eq] at hb
    rw [hb.2]
  have hin : BitVec.ofNat 8 (0x80 + j.val) ∈ comesUp (BitVec.twoPow 16 j.val) s :=
    mem_comesUp.mpr ⟨j.val, j.isLt, by rw [hr]; rfl, rfl, by rw [BitVec.getLsbD_twoPow]; simp, by rw [hj]; exact hp⟩
  have h := raiseAll_mild (s := withReported (BitVec.twoPow 16 j.val) s) (fs := comesUp (BitVec.twoPow 16 j.val) s)
    (fun f hf => by
      rw [hone f hf, hj]
      exact isSome_of_level (by rw [hr]; rfl))
    (fun f hf => by
      rw [hone f hf]
      exact hm)
  have hw : HubOnly s (withReported (BitVec.twoPow 16 j.val) s) := by
    unfold HubOnly
    rfl
  rw [statusConds_eq]
  exact ⟨h.stands _ hin, HubOnly.trans hw h.hubOnly⟩

/-- The D-die after a good status frame, before its conditions are taken over. -/
def statusTaken (body : StatusBody) (s : State) : State :=
  { s with
    link := { s.link with
      rxSeq := s.link.rxSeq + 1, validRun := min 1000 (s.link.validRun + 1), estimate := body.estimate
      estSum := s.link.estSum + body.estimate, estN := s.link.estN + 1 }
    envg := { s.envg with loaded := s.hdie.loaded, locked := s.hdie.lock, safe := s.hdie.safe
                          limit := body.limit.setWidth 32 }
    adc := { s.adc with sweep := s.adc.sweep + (if body.adc.isEmpty then 0 else 1) } }

/-- A good status frame that reports no loss. -/
theorem statusOp_good {body : StatusBody} {s : State}
    (h : s.hdie.safe = true → s.envg.safe = true ∨ s.rst.engHold = true ∨ s.hdie.underHold = true) :
    statusOp true s.link.rxSeq body s = statusAdc body.adc (statusConds body.present (statusTaken body s)) := by
  have hl : (s.hdie.safe && !s.envg.safe && !s.rst.engHold && !s.hdie.underHold) = false := by
    cases h1 : s.hdie.safe with
    | false => rfl
    | true => rcases h h1 with h | h | h <;> rw [h] <;> simp
  have hg : frameGood true s.link.rxSeq s.link.rxSeq = true := decide_eq_true rfl
  rw [statusOp, if_pos hg]
  exact if_neg (by rw [hl]; exact Bool.false_ne_true)

theorem statusOp_bad {q : BitVec 16} {body : StatusBody} {s : State} : statusOp false q body s =
    raiseFault 0xC1 { s with link := { s.link with rxSeq := s.link.rxSeq + 1, validRun := 0 } } := rfl

/-! ## The loss of the link (R152) -/

theorem warmReset_link (o : Outcome5) (f : Option Byte) (code : Byte) (s : State) :
    (warmReset o f code s).link = s.link := by
  obtain ⟨m, n, d, k, b, v, mo, h, fu, w, oh, si, e, -, -⟩ := atReset_frame o f code 2 s
  have hx : (reloadFhCfg (warmGpd (resetLogic (atReset o f code 2 s)))).link = s.link := by
    rw [e]
    rfl
  unfold warmReset
  dsimp only
  rw [← atReset]
  generalize reloadFhCfg (warmGpd (resetLogic (atReset o f code 2 s))) = x at hx
  split
  · unfold railsUp warmRails
    split
    · exact hx
    · exact hx
  · exact hx

theorem latchSpoil_link (o : Outcome5) (f : Option Byte) (fl : Byte) (s : State) :
    (latchSpoil o f fl s).link = s.link := by
  obtain ⟨d, b, v, e⟩ := latchSpoil_frame o f fl s
  rw [e]

theorem closeDocket_link (s : State) : (closeDocket s).link = s.link := by
  obtain ⟨d, k, e⟩ := closeDocket_frame s
  rw [e]

theorem commitDocket_link (s : State) : (commitDocket s).link = s.link := by
  obtain ⟨k, w, e⟩ := commitDocket_frame s
  rw [e]

theorem escRecord_link (f : Byte) (a : BitVec 2) (s : State) : (escRecord f a s).link = s.link := by
  obtain ⟨w, e⟩ := escRecord_frame f a s
  rw [e]

theorem lapseAdmission_link (s : State) : (lapseAdmission s).link = s.link := by
  rw [lapseAdmission_frame]

theorem stopMotors_link (s : State) : (stopMotors s).link = s.link := rfl

theorem safeStop_link (s : State) : (safeStop s).link = s.link := stopMotors_link _

theorem stopCause_link (f : Byte) (s : State) : (stopCause f s).link = s.link := rfl

theorem cutOutputs_link (s : State) : (cutOutputs s).link = s.link := rfl

theorem spoilByFault_link (f : Byte) (s : State) : (spoilByFault f s).link = s.link := by
  unfold spoilByFault
  split_ifs
  · rw [stopCause_link, safeStop_link, latchSpoil_link]
  · rw [commitDocket_link, closeDocket_link, latchSpoil_link]
  · rw [latchSpoil_link]
  · rw [stopCause_link, safeStop_link, latchSpoil_link]
  · rfl

theorem raiseTimer_link (f : Byte) (c : Option (BitVec 2)) (s : State) : (raiseTimer f c s).link = s.link := by
  obtain ⟨hb, adm, wait, rsv, e⟩ := raiseTimer_frame f c s
  rw [e]

theorem assertReset_warm_link (o : Outcome5) (f : Option Byte) (code : Byte) (s : State) :
    (assertReset 2 o f code s).link = s.link := by
  unfold assertReset
  split_ifs
  · rfl
  · rfl
  · contradiction
  · exact warmReset_link o f code s
  · rfl

/-- No action of a fault without a block of its own changes the link. -/
theorem escalate_link {f : Byte} (hf : ∀ k, (faultRow f.toNat k).bind (·.block) = none) (act : BitVec 2) (s : State) :
    (escalate f act s).link = s.link := by
  unfold escalate escalateBy
  dsimp only
  split
  · rw [escRecord_link, lapseAdmission_link, stopCause_link, safeStop_link, actSpoil, if_pos rfl, latchSpoil_link]
  · rw [hf, escRecord_link, stopCause_link, safeStop_link, actSpoil, if_pos rfl, latchSpoil_link]
  · rw [assertReset_warm_link]
  · split
    · rw [commitDocket_link, closeDocket_link, cutOutputs_link, actSpoil, if_pos rfl, latchSpoil_link]
    · dsimp only
      rw [commitDocket_link, closeDocket_link, cutOutputs_link, actSpoil, if_pos rfl, latchSpoil_link]

/-- ENGLINK_LOSS's raise leaves the link, whatever its action. -/
theorem raiseFault_link {f : Byte} (hf : ∀ k, (faultRow f.toNat k).bind (·.block) = none) (s : State) :
    (raiseFault f s).link = s.link := by
  unfold raiseFault raiseWith
  split
  · rfl
  · dsimp only
    have hb : ∀ x : State, (raiseTimer f (raiseClass f s) (if spoilsAtOnce f true = true then spoilByFault f x else x)).link =
        x.link := fun x => by
      rw [raiseTimer_link]
      split
      · exact spoilByFault_link f x
      · rfl
    split
    · rw [escalate_link hf, hb]
      rfl
    · rw [hb]
      rfl

theorem linkLoss_rises {s : State} (h : s.hub.present.getLsbD 0xC0 = false) : linkLoss s = raiseFault 0xC0 { s with
    link := { s.link with validRun := 0, lost := true }
    hub := { s.hub with present := setBit s.hub.present 0xC0 true } } := by
  unfold linkLoss setCond
  rw [if_pos rfl]
  exact if_neg fun e => Bool.false_ne_true (h.symm.trans e)

/-! ## The safe state (R150) and its exit (R151) -/

theorem enterSafe_done (s : State) : (enterSafe s).hdie.safe = true ∧ (enterSafe s).hdie.validRun = 0 ∧
    OutputsCut (enterSafe s) ∧ enterSafe s = { s with
      beam := (enterSafe s).beam, fuser := (enterSafe s).fuser, hv := (enterSafe s).hv, outHold := (enterSafe s).outHold
      motors := (enterSafe s).motors
      hdie := { s.hdie with
        safe := true, validRun := 0, dump := false, underHold := s.hdie.underHold || s.rst.engHold }
      sinov := { s.sinov with diag := Vector.replicate 16 none } } := by
  have hc : OutputsCut (cutOutputs s) := cutOutputs_cut s
  exact ⟨rfl, rfl, hc, rfl⟩

/-- The H-die after its own reset, before the fault is raised. -/
def hdieGone (s : State) : State :=
  { enterSafe s with
    hdie := { HDie.reset with
      powered := s.hdie.powered, hot := s.hdie.hot, tempMdeg := s.hdie.tempMdeg, underHold := s.rst.engHold }
    envg := { s.envg with loaded := false, locked := false } }

theorem hdieReset_eq (s : State) : hdieReset s = raiseFault 0x94 (hdieGone s) := rfl

theorem hdieGone_cut (s : State) : OutputsCut (hdieGone s) := by
  obtain ⟨h1, h2, -, h4⟩ : OutputsCut (cutOutputs s) := cutOutputs_cut s
  exact ⟨h1, h2, rfl, h4⟩

theorem OutputsCut.hubOnly {s t : State} (h : OutputsCut s) (k : HubOnly s t) : OutputsCut t := by
  rw [k]
  exact h

theorem safeExitOp_exits {s : State} (h1 : s.hdie.safe = true) (h2 : 1000 ≤ s.hdie.validRun) (h3 : s.rst.engHold = false)
    (h4 : s.clk.fb.getLsbD 1 = false) :
    safeExitOp s = { s with hdie := { s.hdie with safe := false, underHold := false } } := if_pos ⟨h1, h2, h3, h4⟩

theorem safeExitOp_stays {s : State} (h : s.rst.engHold = true ∨ s.hdie.validRun < 1000 ∨ s.clk.fb.getLsbD 1 = true) :
    safeExitOp s = s := by
  refine if_neg fun ⟨_, h2, h3, h4⟩ => ?_
  rcases h with h | h | h
  · exact Bool.false_ne_true (h3.symm.trans h)
  · exact absurd h2 (Nat.not_le.mpr h)
  · exact Bool.false_ne_true (h4.symm.trans h)

/-- A H-die that has not left its safe state has nothing applied again. -/
theorem safeExitApply_of_stay {s : State}
    (h : (if s.hub.raised.getLsbD 0xC0 || s.hub.raised.getLsbD 0x94 then s else safeExitOp s) = s) : safeExitApply s = s := by
  unfold safeExitApply
  dsimp only
  rw [h, Bool.and_not_self, Bool.false_and, Bool.false_and, if_neg Bool.false_ne_true]

/-- The state that has left the safe state. -/
def safeExited (s : State) : State := { s with hdie := { s.hdie with safe := false, underHold := false } }

theorem safeExitApply_exits {s : State} (h1 : s.hdie.safe = true) (h2 : 1000 ≤ s.hdie.validRun)
    (h3 : s.rst.engHold = false) (h4 : s.clk.fb.getLsbD 1 = false) (h5 : s.hub.raised.getLsbD 0xC0 = false)
    (h6 : s.hub.raised.getLsbD 0x94 = false) : safeExitApply s =
      if decide (s.sys.mode = 2) && sinovRuns s then
        applyAll true { safeExited s with outHold := { s.outHold with faults := s.outHold.faults &&& s.hub.raised } }
      else safeExited s := by
  unfold safeExitApply
  dsimp only
  rw [h5, h6, Bool.or_false, if_neg Bool.false_ne_true, safeExitOp_exits h1 h2 h3 h4, h1]
  rfl

/-- Settles O22: the link's frames, the safe state, its causes and its exit. -/
theorem linkIsGuarded : Obligations.LinkIsGuarded := by
  refine ⟨⟨fun s => congrArg Host.Outcome.next (controlOp_good s), fun s q hq hm => ?_, fun s q hm => ?_,
    fun s q body hm => ?_, fun s body hl h0 => ?_, fun s body j hr hl h1 hp hm => ?_⟩, fun s => ?_, fun s => ?_, fun s hm => ?_,
    fun s hp => ?_, fun s => rfl, fun s => rfl, fun s h1 h2 h3 h4 h5 h6 h7 => ?_, fun s h1 h2 h3 h4 h5 h6 h7 h8 => ?_,
    fun s h => ?_, fun s h => ?_⟩
  · have hg : frameGood true q s.hdie.rxSeq = false := decide_eq_false hq
    exact ⟨_, congrArg Host.Outcome.next (controlOp_bad hg), raiseFault_mild (by decide) hm⟩
  · exact ⟨_, congrArg Host.Outcome.next (controlOp_bad rfl), raiseFault_mild (by decide) hm⟩
  · exact ⟨_, congrArg Host.Outcome.next statusOp_bad, raiseFault_mild (by decide) hm⟩
  · have hx := statusOp_good (body := body) hl
    obtain ⟨p, e⟩ := statusConds_none (statusTaken body s)
    rw [h0, e] at hx
    obtain ⟨a, b, f, v, ea⟩ := statusAdc_frame body.adc
      { statusTaken body s with hub := { (statusTaken body s).hub with present := p } }
    refine ⟨_, congrArg Host.Outcome.next hx, ?_, ?_, ?_, fun i x ok hb => ?_⟩
    · rw [ea]
      rfl
    · rw [ea]
      rfl
    · rw [ea]
      rfl
    · have ho := statusAdc_one i x ok { statusTaken body s with hub := { (statusTaken body s).hub with present := p } }
      rw [← hb] at ho
      obtain ⟨o1, o2, o3⟩ := ho
      refine ⟨o1, o2, ?_, o3⟩
      rw [ea]
      show s.adc.sweep + (if body.adc.isEmpty then 0 else 1) = _
      rw [hb]
      rfl
  · have hx := statusOp_good (body := body) hl
    rw [h1] at hx
    obtain ⟨hs, ho⟩ := statusConds_one (s := statusTaken body s) hr hp hm
    generalize statusConds (BitVec.twoPow 16 j.val) (statusTaken body s) = y at *
    obtain ⟨a, b, f, v, ea⟩ := statusAdc_frame body.adc y
    rw [ea] at hx
    refine ⟨_, congrArg Host.Outcome.next hx, hs, ?_, ?_, memSame_of_mem ?_⟩
    · rw [ho]
      rfl
    · exact ho.counters
    · rw [ho]
      rfl
  · obtain ⟨e1, e2, e3, e4⟩ := enterSafe_done s
    exact ⟨_, rfl, e1, e2, e3, e4⟩
  · obtain ⟨e1, e2, e3, e4⟩ := enterSafe_done s
    exact ⟨_, rfl, e1, e2, e3, e4⟩
  · have hr := raiseFault_mild (f := 0x94) (by decide) (hm.same (t := hdieGone s) ⟨s.hub.present, rfl⟩ rfl)
    have hc := (hdieGone_cut s).hubOnly hr.hubOnly
    have hx := hdieReset_eq s
    have hs := hr.stands
    have ho := hr.hubOnly
    generalize raiseFault 0x94 (hdieGone s) = t at *
    have hd : t.hdie = (hdieGone s).hdie := by rw [ho]
    refine ⟨t, congrArg Host.Outcome.next hx, hs, ?_, ?_, ?_, ?_, hc, ?_, ho.counters.trans rfl, memSame_of_mem ?_, ?_⟩
    · rw [hd]
      rfl
    · rw [hd]
      rfl
    · rw [hd]
      rfl
    · rw [hd]
      rfl
    · rw [ho]
      rfl
    · rw [ho]
      rfl
    · rw [ho]
      rfl
  · have hx := linkLoss_rises hp
    refine ⟨_, congrArg Host.Outcome.next hx, raiseFault_stands (by decide) _, ?_, fun hm => ?_⟩
    · exact raiseFault_link (fun _ => rfl) _
    · exact raiseFault_mild (by decide) hm
  · have hn : (decide (s.sys.mode = 2) && sinovRuns s) = false := by
      rcases h7 with h | h
      · rw [decide_eq_false h, Bool.false_and]
      · rw [h, Bool.and_false]
    have hx := safeExitApply_exits h1 h2 h3 h4 h5 h6
    rw [hn, if_neg Bool.false_ne_true] at hx
    exact congrArg Host.Outcome.next hx
  · have hx := safeExitApply_exits h1 h2 h3 h4 h5 h6
    rw [h7, h8, if_pos (by decide)] at hx
    exact congrArg Host.Outcome.next hx
  · have hr : (s.hub.raised.getLsbD 0xC0 || s.hub.raised.getLsbD 0x94) = true := Bool.or_eq_true_iff.mpr h
    exact congrArg Host.Outcome.next (safeExitApply_of_stay (if_pos hr))
  · refine congrArg Host.Outcome.next (safeExitApply_of_stay ?_)
    split
    · rfl
    · exact safeExitOp_stays h

end Sys2Proof.Machine
end

section
/-! What the actions of a fault leave of the H-die's latches (R147, R149, R155). -/

namespace Sys2Proof.Machine

/-- The guards' latches stand, dark lasers stay dark, and heaters that are off stay off. -/
structure GuardKept (s t : State) : Prop where
  trip : t.envg.trip = s.envg.trip
  hvTrip : t.hv.trip = s.hv.trip
  ldOff : t.hdie.ldOff = s.hdie.ldOff
  ldOnOff : t.hdie.ldOnOff = s.hdie.ldOnOff
  hvOff : t.hdie.hvOff = s.hdie.hvOff
  htrOff : t.hdie.htrOff = s.hdie.htrOff
  mOff : t.hdie.mOff = s.hdie.mOff
  mFast : t.hdie.mFast = s.hdie.mFast
  dark : ∀ c : Fin 4, s.beam.ld[c].lit = false → t.beam.ld[c].lit = false
  cold : ∀ h : Fin 2, s.fuser.htr[h].on = false → t.fuser.htr[h].on = false

namespace GuardKept

theorem refl (s : State) : GuardKept s s := ⟨rfl, rfl, rfl, rfl, rfl, rfl, rfl, rfl, fun _ => id, fun _ => id⟩

theorem trans {s t u : State} (h : GuardKept s t) (k : GuardKept t u) : GuardKept s u :=
  ⟨k.trip.trans h.trip, k.hvTrip.trans h.hvTrip, k.ldOff.trans h.ldOff, k.ldOnOff.trans h.ldOnOff,
    k.hvOff.trans h.hvOff, k.htrOff.trans h.htrOff, k.mOff.trans h.mOff, k.mFast.trans h.mFast,
    fun c x => k.dark c (h.dark c x), fun c x => k.cold c (h.cold c x)⟩

theorem ite {s a b : State} {p : Prop} [Decidable p] (h : GuardKept s a) (k : GuardKept s b) :
    GuardKept s (if p then a else b) := by
  split
  · exact h
  · exact k

theorem foldl {α : Type} {f : State → α → State} (hf : ∀ x a, GuardKept x (f x a)) (l : List α) (s : State) :
    GuardKept s (l.foldl f s) := by
  induction l generalizing s with
  | nil => exact refl s
  | cons a l ih => exact (hf s a).trans (ih (f s a))

/-- A change elsewhere. -/
theorem of_eq {s t : State} (h1 : t.envg = s.envg) (h2 : t.hv = s.hv) (h3 : t.hdie = s.hdie) (h4 : t.beam = s.beam)
    (h5 : t.fuser = s.fuser) : GuardKept s t := by
  refine ⟨?_, ?_, ?_, ?_, ?_, ?_, ?_, ?_, fun c hc => ?_, fun c hc => ?_⟩
  · rw [h1]
  · rw [h2]
  · rw [h3]
  · rw [h3]
  · rw [h3]
  · rw [h3]
  · rw [h3]
  · rw [h3]
  · rw [h4]
    exact hc
  · rw [h5]
    exact hc

/-- A change elsewhere comes first. -/
theorem before {s x t : State} (k : GuardKept x t) (h1 : x.envg = s.envg) (h2 : x.hv = s.hv) (h3 : x.hdie = s.hdie)
    (h4 : x.beam = s.beam) (h5 : x.fuser = s.fuser) : GuardKept s t := trans (of_eq h1 h2 h3 h4 h5) k

end GuardKept

theorem blankBeams_guard (s : State) : GuardKept s (blankBeams s) :=
  ⟨rfl, rfl, rfl, rfl, rfl, rfl, rfl, rfl, fun _ _ => congrArg LaserBeam.lit (Vector.getElem_map ..), fun _ => id⟩

theorem drivesOff_guard (s : State) : GuardKept s (drivesOff s) :=
  ⟨rfl, rfl, rfl, rfl, rfl, rfl, rfl, rfl, fun _ _ => congrArg LaserBeam.lit (Vector.getElem_map ..),
    fun _ _ => congrArg Heater.on (Vector.getElem_map ..)⟩

theorem latchSpoil_guard (o : Outcome5) (f : Option Byte) (fl : Byte) (s : State) : GuardKept s (latchSpoil o f fl s) := by
  unfold latchSpoil
  dsimp only
  split
  · exact .before (blankBeams_guard _) rfl rfl rfl rfl rfl
  · exact .ite (.refl s) (.ite (.ite (.of_eq rfl rfl rfl rfl rfl) (.refl s)) (.of_eq rfl rfl rfl rfl rfl))
  · exact .refl s

theorem stopMotors_guard (s : State) : GuardKept s (stopMotors s) := .of_eq rfl rfl rfl rfl rfl

theorem safeStop_guard (s : State) : GuardKept s (safeStop s) :=
  ((blankBeams_guard s).trans (drivesOff_guard _)).trans ((stopMotors_guard _).trans (.of_eq rfl rfl rfl rfl rfl))

theorem stopCause_guard (f : Byte) (s : State) : GuardKept s (stopCause f s) := .of_eq rfl rfl rfl rfl rfl

theorem cutOutputs_guard (s : State) : GuardKept s (cutOutputs s) :=
  (drivesOff_guard s).trans ⟨rfl, rfl, rfl, rfl, rfl, rfl, rfl, rfl, fun _ => id, fun _ => id⟩

theorem enterSafe_guard (s : State) : GuardKept s (enterSafe s) :=
  (cutOutputs_guard s).trans ⟨rfl, rfl, rfl, rfl, rfl, rfl, rfl, rfl, fun _ => id, fun _ => id⟩

theorem closeDocket_guard (s : State) : GuardKept s (closeDocket s) := by
  obtain ⟨d, k, e⟩ := closeDocket_frame s
  rw [e]
  exact .of_eq rfl rfl rfl rfl rfl

theorem stageDocket_guard (c : Byte) (s : State) : GuardKept s (stageDocket c s) := by
  obtain ⟨k, e⟩ := stageDocket_frame c s
  rw [e]
  exact .of_eq rfl rfl rfl rfl rfl

theorem commitDocket_guard (s : State) : GuardKept s (commitDocket s) := by
  obtain ⟨k, w, e⟩ := commitDocket_frame s
  rw [e]
  exact .of_eq rfl rfl rfl rfl rfl

theorem lapseAdmission_guard (s : State) : GuardKept s (lapseAdmission s) := by
  rw [lapseAdmission_frame]
  exact .of_eq rfl rfl rfl rfl rfl

theorem escRecord_guard (f : Byte) (a : BitVec 2) (s : State) : GuardKept s (escRecord f a s) := by
  obtain ⟨w, e⟩ := escRecord_frame f a s
  rw [e]
  exact .of_eq rfl rfl rfl rfl rfl

theorem raiseTimer_guard (f : Byte) (c : Option (BitVec 2)) (s : State) : GuardKept s (raiseTimer f c s) := by
  obtain ⟨hb, adm, wait, rsv, e⟩ := raiseTimer_frame f c s
  rw [e]
  exact .of_eq rfl rfl rfl rfl rfl

theorem actSpoil_guard (fresh : Bool) (f : Byte) (s : State) : GuardKept s (actSpoil fresh f s) :=
  .ite (latchSpoil_guard ..) (.refl s)

/-- A safe stop whose cause is noted. -/
theorem stopFor_guard (f g : Byte) (o : Outcome5) (fl : Byte) (s : State) :
    GuardKept s (stopCause f (safeStop (latchSpoil o (some g) fl s))) :=
  (latchSpoil_guard ..).trans ((safeStop_guard _).trans (stopCause_guard ..))

theorem spoilByFault_guard (f : Byte) (s : State) : GuardKept s (spoilByFault f s) :=
  .ite (.ite (stopFor_guard ..) (.ite ((latchSpoil_guard ..).trans ((closeDocket_guard _).trans (commitDocket_guard _)))
    (.ite (latchSpoil_guard ..) (stopFor_guard ..)))) (.refl s)

/-! ## A BLOCK reset's start -/

theorem fenceOutputs_guard (b : Nat) (s : State) : GuardKept s (fenceOutputs b s) := by
  unfold fenceOutputs
  split
  case h_1 => exact blankBeams_guard s
  case h_2 => exact blankBeams_guard s
  case h_9 => exact ⟨rfl, rfl, rfl, rfl, rfl, rfl, rfl, rfl, fun _ => id,
    fun _ _ => congrArg Heater.on (Vector.getElem_map ..)⟩
  case h_11 => exact ⟨rfl, rfl, rfl, rfl, rfl, rfl, rfl, rfl, fun _ => id,
    fun _ _ => congrArg Heater.on (Vector.getElem_map ..)⟩
  case h_10 => exact ⟨rfl, rfl, rfl, rfl, rfl, rfl, rfl, rfl, fun _ => id, fun _ => id⟩
  all_goals exact .of_eq rfl rfl rfl rfl rfl

theorem bwSpillAll_guard (app : Bool) (b : Barrow) (s : State) : GuardKept s (bwSpillAll app b s) := by
  obtain ⟨m, c, n, e⟩ := bwSpillAll_only app b s
  rw [e]
  exact .of_eq rfl rfl rfl rfl rfl

theorem blockFence_guard (b : Fin 24) (f : Option Byte) (s : State) : GuardKept s (blockFence b f s) := by
  unfold blockFence
  refine .ite (.refl s) ?_
  have hrst : GuardKept s (fenceOutputs b.val { s with rst := { s.rst with
      blk := s.rst.blk.set b .draining, lastBlk := BitVec.ofNat 5 b.val, blkTimeout := false } }) :=
    .before (fenceOutputs_guard _ _) rfl rfl rfl rfl rfl
  dsimp only
  generalize fenceOutputs b.val _ = x at *
  have hbw : GuardKept s (if b.val = 1 then bwSpillAll true x.bwApp { x with bwApp := { ch := x.bwApp.ch.map bwFence } }
      else if b.val = 2 then bwSpillAll false x.bwKeep { x with bwKeep := { ch := x.bwKeep.ch.map bwFence } } else x) :=
    .ite (hrst.trans (.before (bwSpillAll_guard ..) rfl rfl rfl rfl rfl))
      (.ite (hrst.trans (.before (bwSpillAll_guard ..) rfl rfl rfl rfl rfl)) hrst)
  generalize (if b.val = 1 then _ else _ : State) = y at *
  exact hbw.trans (.ite ((latchSpoil_guard ..).trans (safeStop_guard _)) (.refl y))

theorem blockStart_guard (b : Fin 24) (f : Option Byte) (s : State) : GuardKept s (blockStart b f s) :=
  .ite (.refl s) ((blockFence_guard b f s).trans (.ite (.of_eq rfl rfl rfl rfl rfl) (.refl _)))

theorem endOuts_guard (b : Fin 24) (s : State) : GuardKept s (endOuts b s) := by
  unfold endOuts
  split
  · exact .refl s
  · have hd : GuardKept s (dropOuts b s) := .of_eq rfl rfl rfl rfl rfl
    exact (hd.trans (.foldl (f := fun x a => captureError a .target x) (fun x a => .of_eq rfl rfl rfl rfl rfl) _ _)).trans
      (.before (raiseTimer_guard _ _ _) rfl rfl rfl rfl rfl)

/-! ## A WARM reset -/

theorem preAssert_guard (o : Outcome5) (f : Option Byte) (code : Byte) (s : State) :
    GuardKept s (preAssert o f code s) := by
  have he : GuardKept s (enterSafe { s with rst := { s.rst with engHold := true } }) :=
    .before (enterSafe_guard _) rfl rfl rfl rfl rfl
  exact he.trans (.ite ((latchSpoil_guard ..).trans ((closeDocket_guard _).trans (stageDocket_guard ..)))
    (stageDocket_guard ..))

theorem atReset_guard (o : Outcome5) (f : Option Byte) (code : Byte) (kind : BitVec 2) (s : State) :
    GuardKept s (atReset o f code kind s) := by
  have hn : ∀ x, GuardKept x (noteCause code (some kind) x) := fun x => .of_eq rfl rfl rfl rfl rfl
  have hl : ∀ x, GuardKept x (loseMemories x) := fun x => .of_eq rfl rfl rfl rfl rfl
  have ht : ∀ x, GuardKept x (tearWrites x) := fun x => by
    obtain ⟨m, n, e⟩ := tearWrites_frame x
    rw [e]
    exact .of_eq rfl rfl rfl rfl rfl
  exact (preAssert_guard o f code s).trans ((hn _).trans ((ht _).trans (hl _)))

theorem beamReset_dark (c : Fin 4) : BeamUnit.reset.ld[c].lit = false := by
  revert c
  decide

theorem fuserReset_cold (h : Fin 2) : Fuser.reset.htr[h].on = false := by
  revert h
  decide

theorem reloadFhCfg_frame (s : State) :
    ∃ cfg imm, reloadFhCfg s = { s with hub := { s.hub with cfg := cfg, optImm := imm } } := by
  unfold reloadFhCfg
  exact ⟨_, _, rfl⟩

theorem resetLogic_guard (s : State) : GuardKept s (reloadFhCfg (warmGpd (resetLogic s))) := by
  have hg : ∀ x : State, GuardKept x (warmGpd x) := fun x => .of_eq rfl rfl rfl rfl rfl
  have hc : ∀ x : State, GuardKept x (reloadFhCfg x) := fun x => by
    obtain ⟨cfg, imm, e⟩ := reloadFhCfg_frame x
    rw [e]
    exact .of_eq rfl rfl rfl rfl rfl
  have hr : GuardKept s (resetLogic s) :=
    ⟨rfl, rfl, rfl, rfl, rfl, rfl, rfl, rfl, fun c _ => beamReset_dark c, fun c _ => fuserReset_cold c⟩
  exact hr.trans ((hg _).trans (hc _))

theorem warmReset_guard (o : Outcome5) (f : Option Byte) (code : Byte) (s : State) :
    GuardKept s (warmReset o f code s) := by
  have hx := (atReset_guard o f code 2 s).trans (resetLogic_guard _)
  unfold warmReset
  dsimp only
  rw [← atReset]
  generalize reloadFhCfg (warmGpd (resetLogic (atReset o f code 2 s))) = x at *
  have hw : ∀ b, GuardKept x (warmRails b x) := fun b => .ite (.of_eq rfl rfl rfl rfl rfl) (.of_eq rfl rfl rfl rfl rfl)
  have hu : ∀ y, GuardKept y (railsUp y) := fun y => .of_eq rfl rfl rfl rfl rfl
  have hi : ∀ (p : Bool) (b : Bool), GuardKept x (if p = true then railsUp (warmRails b x) else x) :=
    fun p b => .ite ((hw b).trans (hu _)) (.refl x)
  exact (hx.trans (hi _ _)).trans (.of_eq rfl rfl rfl rfl rfl)

theorem assertReset_warm_guard (o : Outcome5) (f : Option Byte) (code : Byte) (s : State) :
    GuardKept s (assertReset 2 o f code s) := by
  unfold assertReset
  split_ifs
  · exact .of_eq rfl rfl rfl rfl rfl
  · exact .refl s
  · contradiction
  · exact warmReset_guard o f code s
  · exact .refl s

/-! ## Every action (R155) -/

theorem escalate_guard (f : Byte) (act : BitVec 2) (s : State) : GuardKept s (escalate f act s) := by
  unfold escalate escalateBy
  extract_lets h x
  have hx : GuardKept s x := .of_eq rfl rfl rfl rfl rfl
  clear_value x h
  have hstop : GuardKept x (stopCause f (safeStop (actSpoil true f x))) :=
    (actSpoil_guard ..).trans ((safeStop_guard _).trans (stopCause_guard ..))
  refine hx.trans ?_
  split
  · exact hstop.trans ((lapseAdmission_guard _).trans (escRecord_guard ..))
  · split
    · next b _ =>
      refine GuardKept.trans ?_ (escRecord_guard ..)
      have hb : GuardKept x (blockStart (Fin.ofNat 24 b) (some f)
          (if pageInFlight x then stopCause f (safeStop (actSpoil true f x)) else x)) :=
        GuardKept.trans (.ite hstop (.refl x)) (blockStart_guard ..)
      exact hb.trans (.ite (endOuts_guard ..) (.refl _))
    · exact hstop.trans (escRecord_guard ..)
  · exact assertReset_warm_guard ..
  · have hcut : GuardKept x (commitDocket (closeDocket (cutOutputs (actSpoil true f x)))) :=
      (actSpoil_guard ..).trans ((cutOutputs_guard _).trans ((closeDocket_guard _).trans (commitDocket_guard _)))
    exact hcut.trans (.ite (.refl _) (.of_eq rfl rfl rfl rfl rfl))

/-- A raise, whatever its action, leaves the H-die's latches. -/
theorem raiseFault_guard (f : Byte) (s : State) : GuardKept s (raiseFault f s) := by
  unfold raiseFault raiseWith
  split
  · exact .refl s
  · have hb : GuardKept s (raiseTimer f (raiseClass f s)
        (if spoilsAtOnce f true then spoilByFault f (raiseBits f s) else raiseBits f s)) := by
      have h0 : GuardKept s (raiseBits f s) := .of_eq rfl rfl rfl rfl rfl
      exact h0.trans (.trans (.ite (spoilByFault_guard ..) (.refl _)) (raiseTimer_guard ..))
    dsimp only
    split
    · exact hb.trans (escalate_guard ..)
    · exact hb

/-- A condition that comes up raises its fault. -/
theorem setCond_up {f : Byte} {s : State} (h : s.hub.present.getLsbD f.toNat = false) : setCond f true s =
    raiseFault f { s with hub := { s.hub with present := setBit s.hub.present f.toNat true } } := by
  unfold setCond
  rw [if_pos rfl, if_neg (by rw [h]; exact Bool.false_ne_true)]

end Sys2Proof.Machine
end

section
/-! The guards of the H-die (R147, R271, R285-R286, R309, R327-R329), and the settling of O23. -/

namespace Sys2Proof.Machine

theorem getLsbD_or_twoPow_self {n : Nat} (v : BitVec n) {i : Nat} (h : i < n) :
    (v ||| BitVec.twoPow n i).getLsbD i = true := by
  rw [BitVec.getLsbD_or, BitVec.getLsbD_twoPow, decide_eq_true h, decide_eq_true rfl, Bool.and_true, Bool.or_true]

/-! ## Laser and HV guards -/

/-- Laser b dark and latched off. -/
def laserOff (b : Fin 4) (s : State) : State :=
  markTrip b.val (darkBeams (BitVec.twoPow 4 b.val) { s with
    hdie := { s.hdie with ldOff := s.hdie.ldOff ||| BitVec.twoPow 4 b.val }
    outHold := { s.outHold with ld := s.outHold.ld ||| BitVec.twoPow 4 b.val } })

theorem ldTrip_eq (b : Fin 4) (s : State) : ldTrip b s = setCond (BitVec.ofNat 8 (0x80 + b.val)) true (laserOff b s) := rfl

theorem darkBeams_ld (mask : BitVec 4) (s : State) (c : Fin 4) : (darkBeams mask s).beam.ld[c] =
    if mask.getLsbD c.val then { s.beam.ld[c] with lit := false, diagLevel := none } else s.beam.ld[c] :=
  Vector.getElem_ofFn _

theorem laserOff_self (b : Fin 4) (s : State) : (laserOff b s).beam.ld[b].lit = false ∧
    (laserOff b s).hdie.ldOff.getLsbD b.val = true ∧ (laserOff b s).envg.trip.getLsbD b.val = true := by
  refine ⟨?_, getLsbD_or_twoPow_self _ b.isLt, setBit_true_self (by omega)⟩
  show (darkBeams _ _).beam.ld[b].lit = false
  rw [darkBeams_ld, if_pos (by rw [BitVec.getLsbD_twoPow]; simp)]

theorem laserOff_other {b c : Fin 4} (h : c ≠ b) (s : State) : (laserOff b s).beam.ld[c] = s.beam.ld[c] := by
  have hb : (BitVec.twoPow 4 b.val).getLsbD c.val = false := by
    rw [BitVec.getLsbD_twoPow, decide_eq_false fun e => h (Fin.ext e).symm, Bool.and_false]
  show (darkBeams _ _).beam.ld[c] = _
  rw [darkBeams_ld, if_neg (by rw [hb]; exact Bool.false_ne_true)]

/-- Every laser dark after too long a lit time. -/
def lasersOut (s : State) : State :=
  markTrip 4 (darkBeams 0xF { s with
    hdie := { s.hdie with ldOnOff := true }, outHold := { s.outHold with ld := 0xF } })

theorem onTimeTrip_eq (s : State) : onTimeTrip s = raiseFault 0x84 (lasersOut s) := rfl

theorem lasersOut_dark (s : State) (c : Fin 4) : (lasersOut s).beam.ld[c].lit = false := by
  have hc : (0xF : BitVec 4).getLsbD c.val = true := by
    revert c
    decide
  show (darkBeams _ _).beam.ld[c].lit = false
  rw [darkBeams_ld, if_pos hc]

/-- HV channel c latched off. -/
def hvLatched (c : Fin 3) (s : State) : State :=
  markTrip (14 + c.val) { s with
    hdie := { s.hdie with hvOff := setBit s.hdie.hvOff c.val true }
    hv := { s.hv with trip := setBit s.hv.trip c.val true, diagLimit := s.hv.diagLimit.set c none }
    outHold := { s.outHold with hv := setBit s.outHold.hv c.val true } }

theorem hvTrip_eq (c : Fin 3) (s : State) : hvTrip c s = setCond 0x8E true (hvLatched c s) := rfl

/-! ## Heater guards -/

theorem heatersOff_cold (s : State) (j : Fin 2) : (heatersOff s).fuser.htr[j].on = false :=
  congrArg Heater.on (Vector.getElem_map ..)

/-- Both heaters latched off by trip i. -/
def heatersLatched (i : Nat) (s : State) : State := markTrip i (heatersOff s)

theorem tsfOp_in {mv : BitVec 12} {s : State} (h1 : s.hdie.env.tsf.toNat ≤ mv.toNat) (h2 : mv.toNat ≤ 3200) :
    tsfOp mv s = { s with fuser := { s.fuser with tsf := mv, tsfOk := true } } := by
  have hb : (decide (mv.toNat < s.hdie.env.tsf.toNat) || decide (3200 < mv.toNat)) = false := by
    rw [decide_eq_false (Nat.not_lt.mpr h1), decide_eq_false (Nat.not_lt.mpr h2)]
    rfl
  unfold tsfOp
  dsimp only
  rw [hb]
  rfl

theorem tsfOp_out {mv : BitVec 12} {s : State} (h : mv.toNat < s.hdie.env.tsf.toNat ∨ 3200 < mv.toNat) :
    tsfOp mv s = setCond 0x87 true (heatersLatched 7 { s with fuser := { s.fuser with tsf := mv, tsfOk := false } }) := by
  have hb : (decide (mv.toNat < s.hdie.env.tsf.toNat) || decide (3200 < mv.toNat)) = true := by
    rcases h with h | h
    · rw [decide_eq_true h, Bool.true_or]
    · rw [decide_eq_true h, Bool.or_true]
  unfold tsfOp
  dsimp only
  rw [hb]
  rfl

/-! ## Motor guards -/

/-- A channel whose phase current has tripped it. -/
def phaseTripped (m : Motor) : Motor :=
  gatesOff { m with state := .tripped, diagSet := none, cprValid := false, events := m.events ||| 1 }

/-- Channel k latched off by a phase current. -/
def phaseLatched (k : Fin 6) (s : State) : State :=
  markTrip (8 + k.val) { s with
    motors := vmod s.motors k phaseTripped, hdie := { s.hdie with mOff := setBit s.hdie.mOff k.val true } }

theorem phaseTrip_seen {k : Fin 6} {s : State} (h : shuntSeen s.motors[k] = true) :
    phaseTrip k s = raiseFault (BitVec.ofNat 8 (0x88 + k.val)) (phaseLatched k s) := if_pos h

/-- What too high a speed makes of a channel. -/
def speedTripped (off : Bool) (m : Motor) : Motor :=
  if off then coast { m with diagSet := none, events := m.events ||| 2 }
  else shortBrake { m with diagSet := none, events := m.events ||| 2 }

/-- Channel k latched off by its speed. -/
def speedLatched (k : Fin 6) (s : State) : State :=
  markTrip (17 + k.val) { s with
    motors := vmod s.motors k (speedTripped (gatesBlocked s k || !s.motors[k].en))
    hdie := { s.hdie with mFast := setBit s.hdie.mFast k.val true }
    hub := { s.hub with speedCh := k } }

theorem speedTrip_eq (k : Fin 6) (s : State) : speedTrip k s = setCond 0x8F true (speedLatched k s) := rfl

theorem coast_events (m : Motor) : (coast m).events = m.events := by
  unfold coast
  split
  · rfl
  · rfl
  · rfl

theorem coast_state (m : Motor) : (coast m).state ≠ .brake := by
  unfold coast
  split
  · next h => exact fun e => MotState.noConfusion (h.symm.trans e)
  · next h => exact fun e => MotState.noConfusion (h.symm.trans e)
  · exact fun e => MotState.noConfusion e

theorem shortBrake_legs (m : Motor) (x : Fin 3) : (shortBrake m).legs[x].hi = false := by
  have h : (shortBrake m).legs[x] = legBrake (deadTime m) m.legs[x] := Vector.getElem_map ..
  rw [h]
  rfl

theorem speedTripped_events (off : Bool) (m : Motor) : (speedTripped off m).events = m.events ||| 2 := by
  unfold speedTripped
  split
  · exact coast_events _
  · rfl

theorem speedTripped_hi (off : Bool) (m : Motor) (x : Fin 3) : (speedTripped off m).legs[x].hi = false := by
  unfold speedTripped
  split
  · exact (coast_legs _ x).1
  · exact shortBrake_legs _ x

/-! ## O23 -/

theorem laserFault_row (b : Fin 4) : (faultRow (BitVec.ofNat 8 (0x80 + b.val)).toNat 0).isSome = true := by
  revert b
  decide

theorem heaterFault_row (h : Fin 2) : (faultRow (BitVec.ofNat 8 (0x85 + h.val)).toNat 0).isSome = true := by
  revert h
  decide

theorem phaseFault_row (k : Fin 6) : (faultRow (BitVec.ofNat 8 (0x88 + k.val)).toNat 0).isSome = true := by
  revert k
  decide

/-- A guard's condition that comes up: the fault stands, the guard's latches stay, and a mild raise changes the hub alone. -/
theorem guard_raises {f : Byte} {x : State} (hr : (faultRow f.toNat 0).isSome = true)
    (hp : x.hub.present.getLsbD f.toNat = false) : Stands f (setCond f true x) ∧ GuardKept x (setCond f true x) ∧
      (Mild f x → HubOnly x (setCond f true x)) := by
  have hk : GuardKept x (setCond f true x) := by
    rw [setCond_up hp]
    exact .before (raiseFault_guard f _) rfl rfl rfl rfl rfl
  refine ⟨?_, hk, fun hm => (RisesOnly.facts (setCond_rises hr hp hm)).1⟩
  rw [setCond_up hp]
  exact raiseFault_stands hr _

theorem toNat_ofNat_byte {n : Nat} (h : n < 256) : (BitVec.ofNat 8 n).toNat = n := by
  rw [BitVec.toNat_ofNat]
  exact Nat.mod_eq_of_lt h

/-- Settles O23: the laser, HV, heater and motor guards. -/
theorem guardsTrip : Obligations.GuardsTrip := by
  refine ⟨⟨fun b s hp => ?_, fun b s => ?_, fun c s hp => ?_, fun c on s => rfl⟩,
    ⟨fun h s => ?_, fun h s hp => ?_, fun mv s h1 h2 => congrArg Host.Outcome.next (tsfOp_in h1 h2), fun mv s h hp => ?_⟩,
    fun k s h => ?_, fun k s h => ?_, fun k s hp => ?_⟩
  · have hn : (BitVec.ofNat 8 (0x80 + b.val)).toNat = 0x80 + b.val := toNat_ofNat_byte (by omega)
    obtain ⟨hs, hk, ho⟩ := guard_raises (x := laserOff b s) (laserFault_row b) (by rw [hn]; exact hp)
    obtain ⟨h1, h2, h3⟩ := laserOff_self b s
    have hoth := fun c (hc : c ≠ b) => laserOff_other hc s
    have hx := ldTrip_eq b s
    have hm0 : Mild (BitVec.ofNat 8 (0x80 + b.val)) s → Mild (BitVec.ofNat 8 (0x80 + b.val)) (laserOff b s) := fun hm => hm
    have hf : (laserOff b s).motors = s.motors ∧ (laserOff b s).fuser = s.fuser ∧ (laserOff b s).counters = s.counters ∧
        (laserOff b s).mem = s.mem := ⟨rfl, rfl, rfl, rfl⟩
    obtain ⟨f1, f2, f3, f4⟩ := hf
    generalize setCond (BitVec.ofNat 8 (0x80 + b.val)) true (laserOff b s) = t at *
    generalize laserOff b s = x at *
    refine ⟨t, congrArg Host.Outcome.next hx, hs, hk.dark b h1, by rw [hk.ldOff]; exact h2, by rw [hk.trip]; exact h3,
      fun hm => ?_⟩
    have ho := ho (hm0 hm)
    refine ⟨fun c hc => ?_, ?_, ?_, ho.counters.trans f3, memSame_of_mem ?_⟩
    · rw [ho]
      exact hoth c hc
    · rw [ho]
      exact f1
    · rw [ho]
      exact f2
    · rw [ho]
      exact f4
  · have hk := raiseFault_guard 0x84 (lasersOut s)
    refine ⟨_, congrArg Host.Outcome.next (onTimeTrip_eq s), raiseFault_stands (by decide) _,
      fun c => hk.dark c (lasersOut_dark s c), hk.ldOnOff, by rw [hk.trip]; exact setBit_true_self (by decide), fun hm => ?_⟩
    have ho := (raiseFault_mild (f := 0x84) (s := lasersOut s) (by decide) hm).hubOnly
    generalize raiseFault 0x84 (lasersOut s) = t at *
    refine ⟨?_, ?_, ho.counters, memSame_of_mem ?_⟩
    · rw [ho]
      rfl
    · rw [ho]
      rfl
    · rw [ho]
      rfl
  · obtain ⟨hs, hk, ho⟩ := guard_raises (f := 0x8E) (x := hvLatched c s) (by decide) hp
    have hx := hvTrip_eq c s
    generalize setCond 0x8E true (hvLatched c s) = t at *
    refine ⟨t, congrArg Host.Outcome.next hx, hs, by rw [hk.hvOff]; exact setBit_true_self c.isLt,
      by rw [hk.hvTrip]; exact setBit_true_self c.isLt, by rw [hk.trip]; exact setBit_true_self (by omega), fun hm => ?_⟩
    have ho := ho hm
    refine ⟨?_, ?_, ho.counters, memSame_of_mem ?_⟩
    · rw [ho]
      rfl
    · rw [ho]
      rfl
    · rw [ho]
      rfl
  · exact ⟨_, _, rfl, rfl, rfl, rfl, rfl⟩
  · have hn : (BitVec.ofNat 8 (0x85 + h.val)).toNat = 0x85 + h.val := toNat_ofNat_byte (by omega)
    obtain ⟨hs, hk, ho⟩ := guard_raises (x := heatersLatched (5 + h.val) s) (heaterFault_row h) (by rw [hn]; exact hp)
    have hx : stuckTrip h s = setCond (BitVec.ofNat 8 (0x85 + h.val)) true (heatersLatched (5 + h.val) s) := rfl
    generalize setCond (BitVec.ofNat 8 (0x85 + h.val)) true (heatersLatched (5 + h.val) s) = t at *
    refine ⟨t, congrArg Host.Outcome.next hx, hs, fun j => hk.cold j (heatersOff_cold s j), hk.htrOff,
      by rw [hk.trip]; exact setBit_true_self (by omega), fun hm => ?_⟩
    have ho := ho hm
    refine ⟨?_, ?_, ho.counters, memSame_of_mem ?_⟩
    · rw [ho]
      rfl
    · rw [ho]
      rfl
    · rw [ho]
      rfl
  · have hx := tsfOp_out h
    obtain ⟨hs, hk, ho⟩ := guard_raises (f := 0x87) (x := heatersLatched 7 { s with
      fuser := { s.fuser with tsf := mv, tsfOk := false } }) (by decide) hp
    generalize setCond 0x87 true (heatersLatched 7 { s with fuser := { s.fuser with tsf := mv, tsfOk := false } }) = t at *
    refine ⟨t, congrArg Host.Outcome.next hx, hs, fun j => hk.cold j (heatersOff_cold _ j), hk.htrOff,
      by rw [hk.trip]; exact setBit_true_self (by decide), fun hm => ?_⟩
    have ho := ho hm
    refine ⟨?_, ?_, ?_, ?_, ho.counters, memSame_of_mem ?_⟩
    · rw [ho]
      rfl
    · rw [ho]
      rfl
    · rw [ho]
      rfl
    · rw [ho]
      rfl
    · rw [ho]
      rfl
  · exact congrArg Host.Outcome.next (if_neg (by rw [h]; exact Bool.false_ne_true))
  · have hk := raiseFault_guard (BitVec.ofNat 8 (0x88 + k.val)) (phaseLatched k s)
    have hself : (phaseLatched k s).motors[k] = phaseTripped s.motors[k] := vmod_same ..
    have hoth : ∀ j : Fin 6, j ≠ k → (phaseLatched k s).motors[j] = s.motors[j] := fun j hj => vmod_other _ _ _ _ hj
    have hlegs := gatesOff_legs { s.motors[k] with
      state := .tripped, diagSet := none, cprValid := false, events := s.motors[k].events ||| 1 }
    refine ⟨_, congrArg Host.Outcome.next (phaseTrip_seen h), raiseFault_stands (phaseFault_row k) _,
      by rw [hk.mOff]; exact setBit_true_self k.isLt, by rw [hk.trip]; exact setBit_true_self (by omega), fun hm => ?_⟩
    have ho := (raiseFault_mild (s := phaseLatched k s) (phaseFault_row k) hm).hubOnly
    generalize raiseFault (BitVec.ofNat 8 (0x88 + k.val)) (phaseLatched k s) = t at *
    have hmot : t.motors = (phaseLatched k s).motors := by rw [ho]
    refine ⟨?_, ?_, fun x => ?_, fun j hj => ?_, ?_, ho.counters, memSame_of_mem ?_⟩
    · rw [hmot, hself]
      rfl
    · rw [hmot, hself]
      rfl
    · rw [hmot, hself]
      exact hlegs x
    · rw [hmot]
      exact hoth j hj
    · rw [ho]
      rfl
    · rw [ho]
      rfl
  · obtain ⟨hs, hk, ho⟩ := guard_raises (f := 0x8F) (x := speedLatched k s) (by decide) hp
    have hx := speedTrip_eq k s
    have hself : (speedLatched k s).motors[k] = speedTripped (gatesBlocked s k || !s.motors[k].en) s.motors[k] :=
      vmod_same ..
    have hoth : ∀ j : Fin 6, j ≠ k → (speedLatched k s).motors[j] = s.motors[j] := fun j hj => vmod_other _ _ _ _ hj
    generalize setCond 0x8F true (speedLatched k s) = t at *
    refine ⟨t, congrArg Host.Outcome.next hx, hs, by rw [hk.trip]; exact setBit_true_self (by omega),
      by rw [hk.mFast]; exact setBit_true_self k.isLt, fun hm => ?_⟩
    have ho := ho hm
    have hmot : t.motors = (speedLatched k s).motors := by rw [ho]
    rw [hmot, hself]
    refine ⟨speedTripped_events _ _, speedTripped_hi _ _, fun h1 h2 => ?_, fun hoff => ?_, hoth, ?_, ho.counters,
      memSame_of_mem ?_⟩
    · rw [h1, h2]
      rfl
    · have hb : (gatesBlocked s k || !s.motors[k].en) = true := by
        rcases hoff with h | h
        · rw [h, Bool.true_or]
        · rw [h]
          exact Bool.or_true _
      rw [hb]
      exact ⟨coast_state _, fun x => (coast_legs _ x).2⟩
    · rw [ho]
      rfl
    · rw [ho]
      rfl

end Sys2Proof.Machine
end

section
/-! Video fetch, the beam unit's enables, the interlock and the diagnostic pulse (R258-R261, R272-R276), and the settling of
O29. -/

namespace Sys2Proof.Machine

theorem exec_of_vfCtrl {i : Instr} {m : Master} {v : Word} {s : State}
    (hi : exec i s = .next (regWrite m 0x10 0x00 v s)) (h : Granted m 0x10 0x00 v s) : exec i s = .next (vfCtrl v s) :=
  exec_of_granted hi h (by decide)

theorem exec_of_bmCtrl {i : Instr} {m : Master} {v : Word} {s : State}
    (hi : exec i s = .next (regWrite m 0x11 0x00 v s)) (h : Granted m 0x11 0x00 v s) : exec i s = .next (bmCtrl v s) :=
  exec_of_granted hi h (by decide)

/-! ## VF_CTRL (R275) -/

theorem vfCtrl_stops {v : Word} {s : State} (hv : v.getLsbD 0 = false) (he : s.video.en = true) : vfCtrl v s = { s with
    video := { s.video with en := false, running := false, granted := 0, fifo := [] } } := by
  unfold vfCtrl
  dsimp only
  rw [hv, he]
  rfl

theorem vfCtrl_runs {v : Word} {s : State} (hv : v.getLsbD 0 = true) (he : s.video.en = true) : vfCtrl v s = s := by
  have hs : { s with video := { s.video with en := true } } = s := by rw [← he]
  unfold vfCtrl
  dsimp only
  rw [hv, he]
  exact hs

theorem vfCtrl_starts {v : Word} {s : State} (hv : v.getLsbD 0 = true) (he : s.video.en = false) : vfCtrl v s = { s with
    video := { s.video with en := true, beams := bits v 4 3, bpp := v.getLsbD 8 } } := by
  unfold vfCtrl
  dsimp only
  rw [hv, he]
  rfl

/-! ## Bursts (R258, R261) -/

theorem burst_good {s : State} {l : LineSlot} (h : burstReady s = true) (hl : fetchSlot s.video = some l)
    (hr : regionOf (burstAddr s.video l) = .dram) (hd : dramUp s = true) : burst s = { useGrant s with
      video := slotPut (useGrant s).video l (s.mem.readAll (burstAddr s.video l) 64) false } := by
  have hl' : fetchSlot (useGrant s).video = some l := hl
  rw [burst, if_pos h]
  dsimp only
  rw [hl']
  exact if_pos ⟨hr, hd⟩

theorem burstError_fails {s : State} {l : LineSlot} (h : burstReady s = true) (hl : fetchSlot s.video = some l) :
    burstError s = burstFail l (useGrant s) := by
  have hl' : fetchSlot (useGrant s).video = some l := hl
  rw [burstError, if_pos h]
  dsimp only
  rw [hl']

/-- The slot of a burst comes last. -/
theorem slotPut_last (v : Video) (l : LineSlot) (bs : List Byte) (bad : Bool) : (slotPut v l bs bad).fifo.getLast? =
    some { l with bytes := l.bytes ++ bs, bad := l.bad || bad
                  full := decide (v.lineBytes.toNat ≤ l.bytes.length + bs.length) } :=
  List.getLast?_concat

theorem slotPut_frame (v : Video) (l : LineSlot) (bs : List Byte) (bad : Bool) :
    slotPut v l bs bad = { v with fifo := (slotPut v l bs bad).fifo, fetched := (slotPut v l bs bad).fetched } := rfl

/-- The access of a burst that fails. -/
def burstAccess (s : State) (l : LineSlot) : Access :=
  { master := .vfetch, addr := BitVec.ofNat 40 (burstAddr s.video l), kind := 0, size := 6 }

/-- The video unit after a burst that fails. -/
def burstLost (l : LineSlot) (s : State) : State :=
  { s with video := { slotPut s.video l (List.replicate 64 0) true with
    evFetch := true
    errLine := if s.video.errLine = 0xFFFF_FFFF then BitVec.ofNat 32 l.line else s.video.errLine } }

theorem burstFail_eq (l : LineSlot) (s : State) : burstFail l s = errorResponse (burstAccess s l)
    (if regionOf (burstAddr s.video l) = .dram then .target else .firewall) (burstLost l s) := rfl

/-! ## BM_CTRL (R276) -/

theorem bmCtrl_stops {v : Word} {s : State} (hv : v.getLsbD 0 = false) (he : s.beam.en = true) : bmCtrl v s = { s with
    beam := { s.beam with
      en := false, sync := .idle, gate := false, pulse := false, linesDue := false, pulses := []
      ld := s.beam.ld.map fun l => { l with lit := false } } } := by
  unfold bmCtrl
  dsimp only
  rw [hv, he]
  rfl

theorem bmCtrl_runs {v : Word} {s : State} (hv : v.getLsbD 0 = true) (he : s.beam.en = true) : bmCtrl v s = s := by
  have hs : { s with beam := { s.beam with en := true } } = s := by rw [← he]
  unfold bmCtrl
  dsimp only
  rw [hv, he]
  exact hs

theorem bmCtrl_starts {v : Word} {s : State} (hv : v.getLsbD 0 = true) (he : s.beam.en = false) : bmCtrl v s = { s with
    beam := { s.beam with
      en := true, beams := bits v 4 3, bpp := v.getLsbD 8, inv := v.getLsbD 9
      bdBeam := Fin.ofNat 4 (v >>> 12).toNat, diag := v.getLsbD 16 } } := by
  unfold bmCtrl
  dsimp only
  rw [hv, he]
  rfl

/-! ## The interlock (R272) -/

/-- LDIL is open: every beam is dark. -/
def darkened (s : State) : State :=
  { s with beam := { s.beam with intlk := false, ld := s.beam.ld.map fun l => { l with lit := false } } }

theorem ldilLow_idle {s : State} (h : syncNow s = .idle ∨ pageInFlight s = false) : ldilLow s = darkened s := by
  refine if_neg fun e => ?_
  obtain ⟨e1, e2⟩ := (Bool.and_eq_true _ _).mp e
  rcases h with h | h
  · exact of_decide_eq_true e1 h
  · exact Bool.false_ne_true (h.symm.trans e2)

theorem ldilLow_page {s : State} (h1 : syncNow s ≠ .idle) (h2 : pageInFlight s = true) :
    ldilLow s = interlockOpen (darkened s) := if_pos ((Bool.and_eq_true _ _).mpr ⟨decide_eq_true h1, h2⟩)

/-- The interlock and its event read as they did. -/
structure SameIntlk (s t : State) : Prop where
  intlk : t.beam.intlk = s.beam.intlk
  evIntlk : t.beam.evIntlk = s.beam.evIntlk

theorem SameIntlk.trans {s t u : State} (h : SameIntlk s t) (k : SameIntlk t u) : SameIntlk s u :=
  ⟨k.intlk.trans h.intlk, k.evIntlk.trans h.evIntlk⟩

theorem latchSpoil_intlk (o : Outcome5) (f : Option Byte) (fl : Byte) (s : State) : SameIntlk s (latchSpoil o f fl s) := by
  unfold latchSpoil
  dsimp only
  split
  · exact ⟨rfl, rfl⟩
  · split_ifs
    · exact ⟨rfl, rfl⟩
    · exact ⟨rfl, rfl⟩
    · exact ⟨rfl, rfl⟩
    · exact ⟨rfl, rfl⟩
  · exact ⟨rfl, rfl⟩

theorem safeStop_intlk (f : Byte) (s : State) : SameIntlk s (stopCause f (safeStop s)) := ⟨rfl, rfl⟩

theorem endDocket_intlk (s : State) : SameIntlk s (commitDocket (closeDocket s)) := by
  obtain ⟨d, k, e1⟩ := closeDocket_frame s
  obtain ⟨k', w, e2⟩ := commitDocket_frame (closeDocket s)
  rw [e2, e1]
  exact ⟨rfl, rfl⟩

theorem spoilByFault_intlk (f : Byte) (s : State) : SameIntlk s (spoilByFault f s) := by
  unfold spoilByFault
  split_ifs
  · exact (latchSpoil_intlk ..).trans (safeStop_intlk ..)
  · exact (latchSpoil_intlk ..).trans (endDocket_intlk _)
  · exact latchSpoil_intlk ..
  · exact (latchSpoil_intlk ..).trans (safeStop_intlk ..)
  · exact ⟨rfl, rfl⟩

/-- A spoil by BD_MISSING leaves the interlock as it reads. -/
theorem raiseFault_intlk {s : State} (h : NoAction 0x90 s) : SameIntlk s (raiseFault 0x90 s) := by
  have hb : SameIntlk s (raiseBits 0x90 s) := ⟨rfl, rfl⟩
  have ht : ∀ c x, SameIntlk x (raiseTimer 0x90 c x) := fun c x => by
    obtain ⟨hub, adm, wait, rsv, e⟩ := raiseTimer_frame 0x90 c x
    rw [e]
    exact ⟨rfl, rfl⟩
  rw [raiseFault_noAction (by decide) (by decide) h]
  exact hb.trans ((spoilByFault_intlk ..).trans (ht _ _))

/-! ## The diagnostic pulse (R273) -/

theorem diagPulse_drives {b : Fin 4} {d : BitVec 11} {s : State} (hd : s.beam.ld[b].diagLevel = some d)
    (h : s.beam.diag = true ∧ s.beam.sync = .idle ∧ canLight s b = true) : diagPulse b s = { s with
      beam := { s.beam with ld := s.beam.ld.set b { s.beam.ld[b] with
        diagDrive := if ceilOf s b < d then ceilOf s b else d, lit := false } } } := by
  rw [diagPulse, hd]
  exact if_pos h

theorem diagPulse_none {b : Fin 4} {s : State} (h : s.beam.ld[b].diagLevel = none) : diagPulse b s = s := by
  rw [diagPulse, h]

/-- Settles O29: the enables of VIDEO and BEAM, the bursts, the interlock and the diagnostic pulse. -/
theorem videoAndBeamsObeyTheirEnables : Obligations.VideoAndBeamsObeyTheirEnables := by
  refine ⟨⟨fun m v s h hv he => ?_, fun m v s h hv he => ?_, fun m v s h hv he => ?_, fun s l h hl hr hd => ?_,
    fun s h => ⟨?_, ?_⟩, fun s l h hl hm => ?_⟩, fun m v s h hv he => ?_, fun m v s h hv he => ?_,
    fun m v s h hv he => ?_, fun s h => congrArg Host.Outcome.next (ldilLow_idle h), fun s hs ha hn => ?_, fun s => rfl,
    fun b s d hd h1 h2 h3 => congrArg Host.Outcome.next (diagPulse_drives hd ⟨h1, h2, h3⟩),
    fun b s h => congrArg Host.Outcome.next (diagPulse_none h)⟩
  · exact (exec_of_vfCtrl (i := .videoEnWrite m v) rfl h).trans (congrArg Host.Outcome.next (vfCtrl_stops hv he))
  · exact (exec_of_vfCtrl (i := .videoEnWrite m v) rfl h).trans (congrArg Host.Outcome.next (vfCtrl_runs hv he))
  · exact (exec_of_vfCtrl (i := .videoEnWrite m v) rfl h).trans (congrArg Host.Outcome.next (vfCtrl_starts hv he))
  · have hlast := slotPut_last (useGrant s).video l (s.mem.readAll (burstAddr s.video l) 64) false
    rw [Bool.or_false, Mem.length_readAll] at hlast
    refine ⟨_, congrArg Host.Outcome.next (burst_good h hl hr hd), ?_, hlast⟩
    rw [slotPut_frame]
    rfl
  · exact congrArg Host.Outcome.next (if_neg (by rw [h]; exact Bool.false_ne_true))
  · exact congrArg Host.Outcome.next (if_neg (by rw [h]; exact Bool.false_ne_true))
  · have hx := (burstError_fails h hl).trans (burstFail_eq l (useGrant s))
    have hmx : Mild 0x60 (burstLost l (useGrant s)) := hm
    have hlast := slotPut_last (useGrant s).video l (List.replicate 64 0) true
    generalize (if regionOf (burstAddr (useGrant s).video l) = .dram then ErrSource.target else .firewall) = src at *
    have ho := errorResponse_hubOnly (a := burstAccess (useGrant s) l) (src := src) hmx
    have hcap := errorResponse_captured (a := burstAccess (useGrant s) l) (src := src) hmx
    have hst := errorResponse_stands (burstAccess (useGrant s) l) src (burstLost l (useGrant s))
    generalize errorResponse (burstAccess (useGrant s) l) src (burstLost l (useGrant s)) = t at *
    have hvid : t.video = (burstLost l (useGrant s)).video := by rw [ho]
    refine ⟨t, congrArg Host.Outcome.next hx, hst, ?_, ?_, hcap.valid, fun hv => ?_, fun he => ?_, ho.counters, ?_, ?_,
      memSame_of_mem ?_⟩
    · rw [hvid]
      rfl
    · rw [hvid]
      have hb := congrArg (Option.map LineSlot.bad) hlast
      rw [Bool.or_true] at hb
      exact hb
    · obtain ⟨h1, -, h2, -⟩ := hcap.first hv
      exact ⟨h1, h2⟩
    · rw [hvid]
      exact if_pos he
    · rw [ho]
      rfl
    · rw [ho]
      rfl
    · rw [ho]
      rfl
  · refine ⟨_, (exec_of_bmCtrl (i := .beamEnWrite m v) rfl h).trans (congrArg Host.Outcome.next (bmCtrl_stops hv he)),
      rfl, rfl, rfl, rfl, rfl, fun b => ?_⟩
    exact Vector.getElem_map ..
  · exact (exec_of_bmCtrl (i := .beamEnWrite m v) rfl h).trans (congrArg Host.Outcome.next (bmCtrl_runs hv he))
  · exact ⟨_, (exec_of_bmCtrl (i := .beamEnWrite m v) rfl h).trans (congrArg Host.Outcome.next (bmCtrl_starts hv he)),
      rfl, rfl, rfl, rfl, rfl, rfl⟩
  · have hsn : syncNow s ≠ .idle := by
      rw [syncNow, if_neg fun e => hs e.1]
      exact hs
    have hx := ldilLow_page hsn (pageInFlight_armed ha)
    have hsp := raiseFault_spoils (f := 0x90) (s := { darkened s with beam := { (darkened s).beam with evIntlk := true } })
      (by decide) (by decide) ha hn (by decide) (by decide)
    obtain ⟨h1, h2⟩ := raiseFault_intlk (s := { darkened s with beam := { (darkened s).beam with evIntlk := true } }) hn
    have hst := raiseFault_stands (f := 0x90) (by decide)
      { darkened s with beam := { (darkened s).beam with evIntlk := true } }
    exact ⟨_, congrArg Host.Outcome.next hx, hst, h2, h1, hsp⟩

end Sys2Proof.Machine
end

section
/-! Start, alignment and the position faults of a motor channel (R289-R293, R307, R310), and the settling of O31. -/

namespace Sys2Proof.Machine

/-- A granted write of a motor channel's bank has the register's effect. -/
theorem exec_of_motor {i : Instr} {m : Master} {k : Fin 6} {o : Nat} {v : Word} {s : State}
    (hi : exec i s = .next (regWrite m (0x12 + k.val) o v s)) (h : Granted m (0x12 + k.val) o v s) :
    exec i s = .next (writeMotor k o v s) := by
  have hb : bankWrite m (0x12 + k.val) o v [] s = writeMotor k o v s := by
    match k with
    | 0 | 1 | 2 | 3 | 4 | 5 => rfl
  have := k.isLt
  rw [exec_of_granted hi h (by omega), hb]

theorem motMod_to {k : Fin 6} {f : Motor → Motor} {s : State} {m : Motor} (h : f s.motors[k] = m) :
    motMod k f s = { s with motors := s.motors.set k m } := by
  rw [motMod, vmod_eq_set h]

/-- What a motor channel holds after a change of one. -/
theorem motors_set_other {s : State} {k j : Fin 6} (m : Motor) (h : j ≠ k) : (s.motors.set k m)[j] = s.motors[j] :=
  vmod_other s.motors k j (fun _ => m) h

/-! ## MOT_CMD (R307) -/

theorem motCmd_start (k : Fin 6) (s : State) : motCmd k 1 s = motStartOp k s := by
  unfold motCmd
  dsimp only
  rw [if_neg (by decide), if_pos (by decide)]

theorem motCmd_stop (k : Fin 6) (mode : BitVec 2) (s : State) :
    motCmd k ((2 : Word) ||| (mode.setWidth 32 <<< 2)) s = motStopOp k mode s := by
  have h0 : ((2 : Word) ||| (mode.setWidth 32 <<< 2)).getLsbD 0 = false := by revert mode; decide
  have h1 : ((2 : Word) ||| (mode.setWidth 32 <<< 2)).getLsbD 1 = true := by revert mode; decide
  have hm : bits ((2 : Word) ||| (mode.setWidth 32 <<< 2)) 2 2 = mode := by revert mode; decide
  rw [motCmd, h0, h1, hm]
  rfl

theorem motStartOp_starts {k : Fin 6} {s : State} (h : motMayStart s k = true) (hs : motStill s.motors[k] = true) :
    motStartOp k s = { s with motors := s.motors.set k (if s.motors[k].cprValid then { s.motors[k] with state := .run }
      else { s.motors[k] with state := .align, icmd := (iClim s k / 2 : Nat) }) } := by
  unfold motStartOp
  dsimp only
  rw [if_pos ⟨h, hs⟩]
  by_cases hc : s.motors[k].cprValid = true
  · rw [if_pos hc, if_pos hc]
    rfl
  · rw [if_neg hc, if_neg hc]
    rfl

theorem motStartOp_stays {k : Fin 6} {s : State} (h : motMayStart s k = false) : motStartOp k s = s :=
  if_neg fun hc => Bool.false_ne_true (h.symm.trans hc.1)

theorem motMayStart_iff (s : State) (k : Fin 6) : motMayStart s k = true ↔ s.motors[k].en = true ∧
    10 ≤ deadTime s.motors[k] ∧ gatesBlocked s k = false ∧ s.hdie.mFast.getLsbD k.val = false := by
  simp [motMayStart, and_assoc]

/-! ## Alignment (R290) -/

theorem aligned_runs {m : Motor} (b : Bool) (h : m.alignOnly = false) :
    aligned b m = { m with state := .run, cprValid := true } :=
  if_neg fun e => Bool.false_ne_true (h.symm.trans e)

theorem alignEnd_learns {k : Fin 6} {s : State} (ha : s.motors[k].state = .align) (hp : s.motors[k].pos = 0) :
    alignEnd k s = { s with motors := s.motors.set k { s.motors[k] with
      state := .learn, offset := s.motors[k].encPos, learnAt := s.devtime } } := by
  refine motMod_to ?_
  rw [if_pos ha]
  dsimp only
  rw [if_pos hp, motPosition, if_pos hp]

theorem alignEnd_runs {k : Fin 6} {s : State} (ha : s.motors[k].state = .align) (hp : s.motors[k].pos ≠ 0)
    (ho : s.motors[k].alignOnly = false) : alignEnd k s = { s with motors := s.motors.set k { s.motors[k] with
      state := .run, cprValid := true, cpr := 0x1_0000, offset := (s.rdc.angle[rdcOf s.motors[k]].toNat : Int) } } := by
  refine motMod_to ?_
  rw [if_pos ha]
  dsimp only
  rw [if_neg hp, motPosition, if_neg hp]
  exact aligned_runs _ ho

theorem learnEnd_runs {k : Fin 6} {cpr : Nat} {s : State} (hl : s.motors[k].state = .learn)
    (ho : s.motors[k].alignOnly = false)
    (hc : 64 ≤ cpr ∧ cpr ≤ 65536 ∧ s.motors[k].pp ≠ 0 ∧ cpr % s.motors[k].pp.toNat = 0) :
    learnEnd k cpr s = { s with motors := s.motors.set k { s.motors[k] with
      state := .run, cprValid := true, cpr := BitVec.ofNat 17 cpr
      encPos := s.motors[k].encPos % (cpr : Int), offset := s.motors[k].offset % (cpr : Int) } } := by
  unfold learnEnd
  dsimp only
  rw [if_pos hl, if_pos hc]
  exact motMod_to (aligned_runs _ ho)

theorem learnEnd_fails {k : Fin 6} {cpr : Nat} {s : State} (hl : s.motors[k].state = .learn)
    (hc : cpr < 64 ∨ 65536 < cpr ∨ s.motors[k].pp = 0 ∨ cpr % s.motors[k].pp.toNat ≠ 0) :
    learnEnd k cpr s = posFault k s := by
  unfold learnEnd
  dsimp only
  rw [if_pos hl, if_neg]
  rintro ⟨h1, h2, h3, h4⟩
  rcases hc with h | h | h | h
  · exact absurd h1 (Nat.not_le.mpr h)
  · exact absurd h2 (Nat.not_le.mpr h)
  · exact h3 h
  · exact h h4

/-! ## POS_SENSOR (R292, R310) -/

/-- A channel whose position sensor has failed. -/
def posLost (m : Motor) : Motor := coast { m with events := m.events ||| 4, posErr := true, cprValid := false }

theorem coast_sensor (m : Motor) : (coast m).posErr = m.posErr ∧ (coast m).cprValid = m.cprValid := by
  unfold coast
  split
  · exact ⟨rfl, rfl⟩
  · exact ⟨rfl, rfl⟩
  · exact ⟨rfl, rfl⟩

theorem coast_coasts {m : Motor} (h0 : m.state ≠ .off) (h1 : m.state ≠ .tripped) : (coast m).state = .coast := by
  unfold coast
  split
  · next h => exact absurd h h0
  · next h => exact absurd h h1
  · rfl

theorem posLost_facts (m : Motor) : (posLost m).posErr = true ∧ (posLost m).cprValid = false ∧
    (posLost m).events = m.events ||| 4 :=
  ⟨(coast_sensor _).1, (coast_sensor _).2, coast_events _⟩

/-- The channel that the fault hub names is no part of what a raise is measured by. -/
theorem RaisedOnly.of_posCh {f : Byte} {x y : State} {k : Fin 6}
    (h : RaisedOnly f { x with hub := { x.hub with posCh := k } } y) : RaisedOnly f x y := h

theorem Mild.of_motors {f : Byte} {s : State} (v : Vector Motor 6) (k : Fin 6) (h : Mild f s) :
    Mild f { s with motors := v, hub := { s.hub with posCh := k } } := h

/-- A sensor fault is the channel's loss of position and the raise of POS_SENSOR. -/
theorem posFault_raises {k : Fin 6} {s : State} (h : Mild 0x93 s) :
    RaisedOnly 0x93 { s with motors := s.motors.set k (posLost s.motors[k]) } (posFault k s) :=
  (raiseFault_mild (by decide) (h.of_motors (s.motors.set k (posLost s.motors[k])) k)).of_posCh

theorem RaisedOnly.motors {f : Byte} {s t : State} (h : RaisedOnly f s t) : t.motors = s.motors := by
  obtain ⟨-, -, -, -, -, e⟩ := h
  rw [e]

/-- The channel after the fault, with the state seen from it. -/
theorem posFault_lost {k : Fin 6} {s x : State} (hx : x.motors = s.motors) (h : Mild 0x93 x) :
    RaisedOnly 0x93 { x with motors := s.motors.set k (posFault k x).motors[k] } (posFault k x) ∧
      (posFault k x).motors[k] = posLost s.motors[k] := by
  have hr := posFault_raises (k := k) h
  have hm : (posFault k x).motors[k] = posLost s.motors[k] := by
    rw [hr.motors, getElem_set_fin, hx]
  refine ⟨?_, hm⟩
  rw [hm, ← hx]
  exact hr

theorem resolverFault_raises {k : Fin 6} {s : State} (he : s.motors[k].en = true)
    (hp : s.motors[k].pos = 1 ∨ s.motors[k].pos = 2) (hf : s.motors[k].posErr = false) :
    resolverFault k s = posFault k { s with rdc := { s.rdc with
      valid := setBit s.rdc.valid (s.motors[k].pos.toNat - 1) false
      bad := setBit s.rdc.bad (s.motors[k].pos.toNat - 1) true } } := by
  have hn : (rdcOf s.motors[k]).val = s.motors[k].pos.toNat - 1 := by
    rcases hp with h | h
    · simp only [rdcOf, h]; rfl
    · simp only [rdcOf, h]; rfl
  unfold resolverFault
  dsimp only
  rw [if_pos hp, he, hf, Bool.and_false, if_pos (by decide), rdcMark, hn]
  rfl

/-! ## The settling of O31 -/

/-- Settles O31: MOT_CMD starts and stops a channel (`motStartOp_starts`, `motCmd_stop`), its alignment ends as R290 says, and each
sensor fault is a loss of position with POS_SENSOR raised (`posFault_lost`). -/
theorem motorsStartAndCoast : Obligations.MotorsStartAndCoast := by
  unfold Obligations.MotorsStartAndCoast
  refine ⟨⟨fun m k s hg he hs hd hb hf => ?_, fun m k s hg h => ?_, fun m k mode s hg => ?_, fun k s ha hp => ?_,
      fun k s ha hp ho => ?_, fun k cpr s hl ho h1 h2 h3 h4 => ?_, fun k cpr s hl hc hm => ?_⟩,
    fun k s he hc hm => ?_, fun k s he hm => ?_, fun k s he hp hf hm => ?_, fun k s hst hm => ?_, fun k s hst => ?_⟩
  · rw [exec_of_motor (i := .motStart m k) rfl hg]
    exact congrArg Host.Outcome.next
      ((motCmd_start k s).trans (motStartOp_starts ((motMayStart_iff s k).mpr ⟨he, hd, hb, hf⟩) hs))
  · rw [exec_of_motor (i := .motStart m k) rfl hg]
    refine congrArg Host.Outcome.next ((motCmd_start k s).trans (motStartOp_stays ?_))
    refine Bool.eq_false_iff.mpr fun e => ?_
    obtain ⟨h1, -, h2, h3⟩ := (motMayStart_iff s k).mp e
    rcases h with h | h | h
    · exact Bool.false_ne_true (h.symm.trans h1)
    · exact Bool.false_ne_true (h2.symm.trans h)
    · exact Bool.false_ne_true (h3.symm.trans h)
  · rw [exec_of_motor (i := .motStop m k mode) rfl hg]
    exact congrArg Host.Outcome.next (motCmd_stop k mode s)
  · exact congrArg Host.Outcome.next (alignEnd_learns ha hp)
  · exact congrArg Host.Outcome.next (alignEnd_runs ha hp ho)
  · exact congrArg Host.Outcome.next (learnEnd_runs hl ho ⟨h1, h2, h3, h4⟩)
  · obtain ⟨hr, hk⟩ := posFault_lost (k := k) (s := s) rfl hm
    refine ⟨_, congrArg Host.Outcome.next (learnEnd_fails hl hc), hr.1, ?_, ?_, fun j hj => ?_, ?_⟩
    · rw [hk]
      exact coast_coasts (fun e => MotState.noConfusion (hl.symm.trans e)) (fun e => MotState.noConfusion (hl.symm.trans e))
    · rw [hk]
      exact (posLost_facts _).1
    · rw [hr.motors]
      exact motors_set_other _ hj
    · exact memSame_of_mem hr.mem
  · obtain ⟨hr, hk⟩ := posFault_lost (k := k) (s := s) rfl hm
    obtain ⟨h1, h2, h3⟩ := posLost_facts s.motors[k]
    have hx : exec (.zEdgeMisplaced k) s = .next (posFault k s) := congrArg Host.Outcome.next (if_pos ⟨he, hc⟩)
    exact ⟨_, hx, hr, hk ▸ h1, hk ▸ h2, hk ▸ h3, fun x => hk ▸ coast_legs _ x⟩
  · obtain ⟨hr, hk⟩ := posFault_lost (k := k) (s := s) rfl hm
    obtain ⟨h1, h2, h3⟩ := posLost_facts s.motors[k]
    have hx : exec (.encoderAbError k) s = .next (posFault k s) := congrArg Host.Outcome.next (if_pos he)
    exact ⟨_, hx, hr, hk ▸ h1, hk ▸ h2, hk ▸ h3, fun x => hk ▸ coast_legs _ x⟩
  · obtain ⟨hr, hk⟩ := posFault_lost (k := k) (s := s) (x := { s with rdc := { s.rdc with
      valid := setBit s.rdc.valid (s.motors[k].pos.toNat - 1) false
      bad := setBit s.rdc.bad (s.motors[k].pos.toNat - 1) true } }) rfl hm
    obtain ⟨h1, h2, h3⟩ := posLost_facts s.motors[k]
    exact ⟨_, congrArg Host.Outcome.next (resolverFault_raises he hp hf), hr, hk ▸ h1, hk ▸ h2, hk ▸ h3⟩
  · obtain ⟨hr, hk⟩ := posFault_lost (k := k) (s := s) rfl hm
    obtain ⟨h1, h2, h3⟩ := posLost_facts s.motors[k]
    have hx : exec (.stallDetected k) s = .next (posFault k s) := congrArg Host.Outcome.next (if_pos hst)
    have hrun : motRunning s.motors[k] = true := by
      unfold stalled at hst
      simp only [Bool.and_eq_true] at hst
      exact hst.1.1
    refine ⟨_, hx, hr, ?_, hk ▸ h1, hk ▸ h2, hk ▸ h3⟩
    rw [hk]
    refine coast_coasts (fun e => ?_) (fun e => ?_)
    · exact Bool.false_ne_true ((show motRunning s.motors[k] = false by rw [motRunning, e]).symm.trans hrun)
    · exact Bool.false_ne_true ((show motRunning s.motors[k] = false by rw [motRunning, e]).symm.trans hrun)
  · exact congrArg Host.Outcome.next (if_neg fun e => Bool.false_ne_true (hst.symm.trans e))

end Sys2Proof.Machine
end

section
/-! The speed regulator's tick (R291-R297, R301, R314) and MEDIA_JAM (R302). -/

namespace Sys2Proof.Machine

/-! ## The regulator (R294) -/

/-- The regulator's current is clamped to I_CLIM, and not negative in the back-off. -/
theorem regulate_bounds (m : Motor) (set w lim : Nat) (b : Bool) :
    regulate m set w lim b ≤ lim ∧ -(lim : Int) ≤ regulate m set w lim b ∧ (b = true → 0 ≤ regulate m set w lim b) := by
  unfold regulate
  dsimp only
  generalize (if (_ : Nat) ≤ _ then m.icmd else _) = i
  cases b with
  | false =>
    rw [if_neg (by decide)]
    exact ⟨by omega, by omega, fun h => absurd h (by decide)⟩
  | true =>
    rw [if_pos rfl]
    exact ⟨by omega, by omega, fun _ => by omega⟩

theorem autoArm_frame (m : Motor) : ∃ c e a, autoArm m = { m with cmp0 := c, cmpEn := e, auto0 := a } := by
  unfold autoArm
  split
  · exact ⟨_, _, _, rfl⟩
  · exact ⟨_, _, _, rfl⟩

/-- What a regulating channel holds after a step. -/
structure Regulated (s : State) (k : Fin 6) (rpm : BitVec 16) (m m' : Motor) : Prop where
  speed : m'.speed = rpm
  count : m'.count = m.count
  state : m'.state = m.state
  legs : m'.legs = m.legs
  upper : m'.icmd ≤ iClim s k
  lower : -(iClim s k : Int) ≤ m'.icmd
  backoff : backoffOn s = true → 0 ≤ m'.icmd

theorem regStep_regulates {k : Fin 6} (rpm : BitVec 16) {s : State}
    (h : s.motors[k].state = .run ∨ s.motors[k].state = .decel) :
    ∃ m, regStep k rpm s = { s with motors := s.motors.set k m } ∧ Regulated s k rpm s.motors[k] m := by
  have hb := regulate_bounds s.motors[k] (omegaSet s k) rpm.toNat (iClim s k) (backoffOn s)
  refine ⟨_, motMod_to rfl, ?_⟩
  generalize s.motors[k] = m at *
  have hreg : ∀ m1 : Motor, m1.speed = rpm → m1.count = m.count → m1.state = m.state → m1.legs = m.legs →
      m1.icmd = regulate m (omegaSet s k) rpm.toNat (iClim s k) (backoffOn s) → Regulated s k rpm m (autoArm m1) := by
    intro m1 h1 h2 h3 h4 h5
    obtain ⟨c, e, a, ha⟩ := autoArm_frame m1
    rw [← h5] at hb
    rw [ha]
    exact ⟨h1, h2, h3, h4, hb.1, hb.2.1, hb.2.2⟩
  rcases h with h | h
  · rw [h]
    exact hreg _ rfl rfl h.symm rfl rfl
  · rw [h]
    exact hreg _ rfl rfl h.symm rfl rfl

theorem regStep_rests {k : Fin 6} (rpm : BitVec 16) {s : State} (h : s.motors[k].state = .off) :
    regStep k rpm s = { s with motors := s.motors.set k { s.motors[k] with speed := rpm, slow := false } } := by
  refine motMod_to ?_
  split
  · next e => exact MotState.noConfusion (h.symm.trans e)
  · next e => exact MotState.noConfusion (h.symm.trans e)
  · rfl

/-! ## Compares (R301, R314) -/

/-- Compare 0 reached. -/
def hit0 (m : Motor) : Motor :=
  if m.cmpEn.getLsbD 0 ∧ m.diagSet = none then
    { m with events := m.events ||| 0x10, cmpEn := setBit m.cmpEn 0 false }
  else m

/-- Compare 1 reached. -/
def hit1 (m : Motor) : Motor :=
  if m.cmpEn.getLsbD 1 then { m with events := m.events ||| 0x20, cmpEn := setBit m.cmpEn 1 false } else m

/-- The compares that a position passes on its way from `old`. -/
def passMark (old : Word) (m : Motor) : Motor :=
  let n := if passed old m.count m.cmp0 then hit0 m else m
  if passed old m.count m.cmp1 then hit1 n else n

theorem hit0_frame (m : Motor) : ∃ e c, hit0 m = { m with events := e, cmpEn := c } := by
  unfold hit0
  split
  · exact ⟨_, _, rfl⟩
  · exact ⟨_, _, rfl⟩

theorem hit1_frame (m : Motor) : ∃ e c, hit1 m = { m with events := e, cmpEn := c } := by
  unfold hit1
  split
  · exact ⟨_, _, rfl⟩
  · exact ⟨_, _, rfl⟩

theorem passMark_frame (old : Word) (m : Motor) : ∃ e c, passMark old m = { m with events := e, cmpEn := c } := by
  obtain ⟨e0, c0, h0⟩ := hit0_frame m
  obtain ⟨e1, c1, h1⟩ := hit1_frame m
  obtain ⟨e2, c2, h2⟩ := hit1_frame (hit0 m)
  unfold passMark
  dsimp only
  split_ifs
  · exact ⟨e2, c2, h2.trans (by rw [h0])⟩
  · exact ⟨e1, c1, h1⟩
  · exact ⟨e0, c0, h0⟩
  · exact ⟨_, _, rfl⟩

/-- A compare 0 that is passed sets its event and disarms; compare 1 leaves it so. -/
theorem passMark_hit {old : Word} {m : Motor} (h : passed old m.count m.cmp0 = true) (he : m.cmpEn.getLsbD 0 = true)
    (hd : m.diagSet = none) :
    (passMark old m).events.getLsbD 4 = true ∧ (passMark old m).cmpEn.getLsbD 0 = false := by
  have h0 : hit0 m = { m with events := m.events ||| 0x10, cmpEn := setBit m.cmpEn 0 false } := if_pos ⟨he, hd⟩
  have he0 : (hit0 m).events.getLsbD 4 = true := by
    rw [h0]
    have hb := getLsbD_or_twoPow_self m.events (show 4 < 6 by decide)
    exact hb
  have hc0 : (hit0 m).cmpEn.getLsbD 0 = false := by
    rw [h0]
    exact getLsbD_setBit_false _ _
  have h1 : (hit1 (hit0 m)).events.getLsbD 4 = true ∧ (hit1 (hit0 m)).cmpEn.getLsbD 0 = false := by
    unfold hit1
    split
    · exact ⟨by rw [BitVec.getLsbD_or, he0, Bool.true_or], (getLsbD_setBit_ne (by decide) (by decide)).trans hc0⟩
    · exact ⟨he0, hc0⟩
  unfold passMark
  dsimp only
  rw [if_pos h]
  split
  · exact h1
  · exact ⟨he0, hc0⟩

/-- No page is in flight, or the channel has no compare armed. -/
def NoCompare (k : Fin 6) (s : State) : Prop := pageInFlight s = false ∨ s.motors[k].cmpEn = 0

theorem compare0_quiet {k : Fin 6} {s : State} (h : NoCompare k s) : compare0 k s = motMod k hit0 s := by
  unfold compare0
  by_cases hc : s.motors[k].cmpEn.getLsbD 0 = true ∧ s.motors[k].diagSet = none
  · rw [if_pos hc]
    have hp : pageInFlight s = false := h.resolve_right fun e => absurd hc.1 (by rw [e]; decide)
    refine (if_neg fun x => Bool.false_ne_true (hp.symm.trans x.1)).trans ?_
    rw [motMod_to rfl, motMod_to (f := hit0) (if_pos hc)]
  · rw [if_neg hc, motMod_to (f := hit0) (if_neg hc), Fin.getElem_fin, Vector.set_getElem_self]

theorem compare1_quiet {k : Fin 6} {s : State} (h : NoCompare k s) : compare1 k s = motMod k hit1 s := by
  unfold compare1
  by_cases hc : s.motors[k].cmpEn.getLsbD 1 = true
  · rw [if_pos hc]
    have hp : pageInFlight s = false := h.resolve_right fun e => absurd hc (by rw [e]; decide)
    refine (if_neg fun x => Bool.false_ne_true (hp.symm.trans x.1)).trans ?_
    rw [motMod_to rfl, motMod_to (f := hit1) (if_pos hc)]
  · rw [if_neg hc, motMod_to (f := hit1) (if_neg hc), Fin.getElem_fin, Vector.set_getElem_self]

theorem NoCompare.hit {k : Fin 6} {s : State} (h : NoCompare k s) : NoCompare k (motMod k hit0 s) := by
  refine h.imp id fun e => ?_
  rw [motMod_motors, vmod_same, hit0, if_neg fun x => absurd x.1 (by rw [e]; decide)]
  exact e

theorem comparesPassed_quiet {k : Fin 6} {s : State} (old : Word) (h : NoCompare k s) :
    comparesPassed k old s = { s with motors := s.motors.set k (passMark old s.motors[k]) } := by
  have hone : ∀ f : Motor → Motor, motMod k f s = { s with motors := s.motors.set k (f s.motors[k]) } :=
    fun _ => motMod_to rfl
  have htwo : motMod k hit1 (motMod k hit0 s) = motMod k (fun m => hit1 (hit0 m)) s := by
    rw [motMod, motMod, vmod_vmod, motMod]
  have hid : s = { s with motors := s.motors.set k s.motors[k] } := by
    rw [Fin.getElem_fin, Vector.set_getElem_self]
  unfold comparesPassed passMark
  dsimp only
  split_ifs
  · rw [compare0_quiet h, compare1_quiet h.hit, htwo, hone]
  · rw [compare1_quiet h, hone]
  · rw [compare0_quiet h, hone]
  · exact hid

/-! ## The measurement (R291, R293, R296) -/

theorem pinTake_frame (p : Option PinSample) (m : Motor) :
    ∃ n d v, pinTake p m = { m with pinNum := n, pinDen := d, cmdValid := v } := by
  unfold pinTake
  split
  · split
    · exact ⟨_, _, _, rfl⟩
    · exact ⟨_, _, _, rfl⟩
  · split
    · exact ⟨_, _, _, rfl⟩
    · exact ⟨_, _, _, rfl⟩
  · split_ifs
    · exact ⟨_, _, _, rfl⟩
    · exact ⟨_, _, _, rfl⟩
    · exact ⟨_, _, _, rfl⟩
  · exact ⟨_, _, _, rfl⟩

theorem regMeasure_frame (k : Fin 6) (d : Word) (p : Option PinSample) {r : ResSample} (s : State)
    (h : resGood r = true) : ∃ e n q v rdc fc, regMeasure k d p r s = { s with
      motors := s.motors.set k { s.motors[k] with
        count := s.motors[k].count + d, encPos := e, pinNum := n, pinDen := q, cmdValid := v }
      rdc := rdc, freeCtr := fc } := by
  obtain ⟨n, q, v, e⟩ := pinTake_frame p { s.motors[k] with
    count := s.motors[k].count + d, encPos := encMove d s.motors[k] }
  have hm : motMod k (fun m => pinTake p { m with count := m.count + d, encPos := encMove d m }) s = { s with
      motors := s.motors.set k { s.motors[k] with
        count := s.motors[k].count + d, encPos := encMove d s.motors[k], pinNum := n, pinDen := q, cmdValid := v } } :=
    motMod_to e
  unfold regMeasure
  rw [hm, h]
  dsimp only
  split
  · exact ⟨_, _, _, _, _, _, rfl⟩
  · exact ⟨_, _, _, _, _, _, rfl⟩

/-! ## The tick -/

/-- A channel as its regulator takes it: measured, its compares judged. -/
def Measured (d : Word) (m m' : Motor) : Prop :=
  ∃ e n q v ev ce, m' = { m with
    count := m.count + d, encPos := e, pinNum := n, pinDen := q, cmdValid := v, events := ev, cmpEn := ce }

/-- The state that the regulator's step finds. -/
theorem regTick_measured {k : Fin 6} {rpm : BitVec 16} {d : Word} {io : MotInputs} {s : State}
    (hr : resGood io.res = true) (hq : pageInFlight s = false ∨ s.motors[k].cmpEn = 0) : ∃ m1 rdc fc,
      m1.count = s.motors[k].count + d ∧ m1.cmp0 = s.motors[k].cmp0 ∧ m1.cmpEn = s.motors[k].cmpEn ∧
      m1.diagSet = s.motors[k].diagSet ∧ Measured d s.motors[k] (passMark s.motors[k].count m1) ∧
      regTick k rpm d io s = regStep k rpm { s with
        motors := s.motors.set k (passMark s.motors[k].count m1), rdc := rdc, freeCtr := fc } := by
  obtain ⟨e, n, q, v, rdc, fc, hm⟩ := regMeasure_frame k d io.pin s hr
  refine ⟨{ s.motors[k] with
    count := s.motors[k].count + d, encPos := e, pinNum := n, pinDen := q, cmdValid := v }, rdc, fc, rfl, rfl, rfl, rfl, ?_, ?_⟩
  · obtain ⟨ev, ce, hp⟩ := passMark_frame s.motors[k].count { s.motors[k] with
      count := s.motors[k].count + d, encPos := e, pinNum := n, pinDen := q, cmdValid := v }
    exact ⟨e, n, q, v, ev, ce, hp⟩
  · have hq' : NoCompare k (regMeasure k d io.pin io.res s) := by
      rw [hm]
      refine hq.imp id fun x => ?_
      rw [getElem_set_fin]
      exact x
    unfold regTick
    dsimp only
    rw [comparesPassed_quiet _ hq', hm]
    dsimp only
    rw [getElem_set_fin, Vector.set_set]

theorem regTick_regulates {k : Fin 6} {rpm : BitVec 16} {d : Word} {io : MotInputs} {s : State}
    (h : s.motors[k].state = .run ∨ s.motors[k].state = .decel) (hr : resGood io.res = true)
    (hq : pageInFlight s = false ∨ s.motors[k].cmpEn = 0) : ∃ m rdc fc,
      regTick k rpm d io s = { s with motors := s.motors.set k m, rdc := rdc, freeCtr := fc } ∧
      Regulated s k rpm { s.motors[k] with count := s.motors[k].count + d } m := by
  obtain ⟨m1, rdc, fc, -, -, -, -, hm, e⟩ := regTick_measured (rpm := rpm) hr hq
  generalize passMark s.motors[k].count m1 = m2 at *
  obtain ⟨e0, n, q, v, ev, ce, hm⟩ := hm
  have hk : ({ s with motors := s.motors.set k m2, rdc := rdc, freeCtr := fc } : State).motors[k] = m2 :=
    getElem_set_fin ..
  have hs : ({ s with motors := s.motors.set k m2, rdc := rdc, freeCtr := fc } : State).motors[k].state = .run ∨
      ({ s with motors := s.motors.set k m2, rdc := rdc, freeCtr := fc } : State).motors[k].state = .decel := by
    rw [hk, hm]
    exact h
  have hc : iClim { s with motors := s.motors.set k m2, rdc := rdc, freeCtr := fc } k = iClim s k := by
    unfold iClim
    rw [hk, hm]
  obtain ⟨m, hx, hreg⟩ := regStep_regulates rpm hs
  rw [hk, hm] at hreg
  obtain ⟨h1, h2, h3, h4, h5, h6, h7⟩ := hreg
  rw [← hm, hc] at h5 h6
  refine ⟨m, rdc, fc, ?_, h1, h2, h3, h4, h5, h6, h7⟩
  rw [e, hx]
  dsimp only
  rw [Vector.set_set]

theorem regTick_rests {k : Fin 6} {rpm : BitVec 16} {d : Word} {io : MotInputs} {s : State}
    (h : s.motors[k].state = .off) (hr : resGood io.res = true) (hp : pageInFlight s = false) : ∃ m rdc fc,
      regTick k rpm d io s = { s with motors := s.motors.set k m, rdc := rdc, freeCtr := fc } ∧
      m.speed = rpm ∧ m.count = s.motors[k].count + d ∧ m.icmd = s.motors[k].icmd ∧
      (s.motors[k].cmpEn.getLsbD 0 = true → s.motors[k].diagSet = none →
        passed s.motors[k].count (s.motors[k].count + d) s.motors[k].cmp0 = true →
        m.events.getLsbD 4 = true ∧ m.cmpEn.getLsbD 0 = false) := by
  obtain ⟨m1, rdc, fc, h1, h2, h3, h4, hm, e⟩ := regTick_measured (rpm := rpm) hr (.inl hp)
  have hhit : s.motors[k].cmpEn.getLsbD 0 = true → s.motors[k].diagSet = none →
      passed s.motors[k].count (s.motors[k].count + d) s.motors[k].cmp0 = true →
      (passMark s.motors[k].count m1).events.getLsbD 4 = true ∧
        (passMark s.motors[k].count m1).cmpEn.getLsbD 0 = false := by
    intro x1 x2 x3
    refine passMark_hit ?_ ?_ ?_
    · rw [h1, h2]
      exact x3
    · rw [h3]
      exact x1
    · rw [h4]
      exact x2
  generalize passMark s.motors[k].count m1 = m2 at *
  have hk : ({ s with motors := s.motors.set k m2, rdc := rdc, freeCtr := fc } : State).motors[k] = m2 :=
    getElem_set_fin ..
  obtain ⟨e0, n, q, v, ev, ce, hm⟩ := hm
  have hs : ({ s with motors := s.motors.set k m2, rdc := rdc, freeCtr := fc } : State).motors[k].state = .off := by
    rw [hk, hm]
    exact h
  refine ⟨{ m2 with speed := rpm, slow := false }, rdc, fc, ?_, rfl, ?_, ?_, hhit⟩
  · rw [e, regStep_rests rpm hs, hk]
    dsimp only
    rw [Vector.set_set]
  · rw [hm]
  · rw [hm]

/-! ## MEDIA_JAM (R302) -/

theorem shortBrake_events (m : Motor) : (shortBrake m).events = m.events := rfl

theorem beginStop_events (b : Bool) (mode : BitVec 2) (m : Motor) : (beginStop b mode m).events = m.events := by
  unfold beginStop
  dsimp only
  generalize (if mode = 2 then true else _) = decel
  split_ifs
  · exact coast_events m
  · rfl
  · rfl
  · rfl

theorem safeStop_events (k : Fin 6) (s : State) : (safeStop s).motors[k].events = s.motors[k].events := by
  have h : (safeStop s).motors[k] = beginStop (gatesBlocked (drivesOff (blankBeams s)) k) 0 s.motors[k] :=
    Vector.getElem_ofFn ..
  rw [h, beginStop_events]

/-- A jam spoils the page, and leaves the events of the channels. -/
theorem raiseFault_jam {k : Fin 6} {s : State} (hn : NoAction 0x92 s) :
    (raiseFault 0x92 s).motors[k].events = s.motors[k].events := by
  have hs : (spoilByFault 0x92 (raiseBits 0x92 s)).motors[k].events = s.motors[k].events := by
    unfold spoilByFault
    split
    · rw [if_pos rfl]
      obtain ⟨d, b, v, e⟩ := latchSpoil_frame .jammed (some 0x92) 0 (raiseBits 0x92 s)
      have hl : (latchSpoil .jammed (some 0x92) 0 (raiseBits 0x92 s)).motors = s.motors := by
        rw [e]
        rfl
      generalize latchSpoil .jammed (some 0x92) 0 (raiseBits 0x92 s) = x at *
      exact (safeStop_events k x).trans (by rw [hl])
    · rfl
  rw [raiseFault_noAction (by decide) (by decide) hn]
  generalize spoilByFault 0x92 (raiseBits 0x92 s) = x at *
  obtain ⟨hb, adm, wait, rsv, e⟩ := raiseTimer_frame 0x92 (raiseClass 0x92 s) x
  rw [e]
  exact hs

end Sys2Proof.Machine
end

section
/-! The gates of a motor channel (R282-R287, R303), DUMP (R305), and the settling of O32. -/

namespace Sys2Proof.Machine

/-! ## Braking (R303) -/

theorem toBrake_brakes {k : Fin 6} {s : State} (h : s.motors[k].state = .decel) (hb : gatesBlocked s k = false) :
    toBrake k s = { s with motors := s.motors.set k (shortBrake s.motors[k]) } := by
  refine motMod_to ?_
  rw [if_pos h, hb]
  rfl

theorem brakeEnd_ends {k : Fin 6} {s : State} (h : s.motors[k].state = .brake) :
    brakeEnd k s = { s with motors := s.motors.set k (gatesOff { s.motors[k] with state := .off }) } :=
  motMod_to (if_pos h)

theorem brakeRest_rests {k : Fin 6} {s : State} (h : s.motors[k].state = .brake)
    (hd : s.sinov.motor[k].any (fun c => c.startDue) = false) :
    brakeRest k s = { s with motors := s.motors.set k (gatesOff { s.motors[k] with state := .off }) } := by
  unfold brakeRest
  dsimp only
  rw [brakeEnd_ends h]
  dsimp only
  split
  · next c hc =>
    rw [hc] at hd
    exact if_neg fun x => Bool.false_ne_true (hd.symm.trans x.1)
  · rfl

theorem brakeRest_applies {k : Fin 6} {c : MotorCfg} {s : State} (h : s.motors[k].state = .brake)
    (hc : s.sinov.motor[k] = some c) (hd : c.startDue = true) (hm : s.sys.mode = 2) :
    brakeRest k s = applyMotor k c { s with motors := s.motors.set k (gatesOff { s.motors[k] with state := .off }) } := by
  have hoff : (s.motors.set k (gatesOff { s.motors[k] with state := .off }))[k].state = .off := by
    rw [getElem_set_fin]
    rfl
  unfold brakeRest
  dsimp only
  rw [brakeEnd_ends h]
  dsimp only
  rw [hc]
  dsimp only
  rw [if_pos ⟨hd, hoff⟩, if_pos hm]

/-! ## Bootstrap refresh (R283) -/

theorem legRefresh_starts {k : Fin 6} (x : Fin 3) {s : State} (h : motRunning s.motors[k] = true)
    (hb : gatesBlocked s k = false) : legRefresh k x s = { s with motors := s.motors.set k { s.motors[k] with
      legs := s.motors[k].legs.set x { s.motors[k].legs[x] with
        bsLow := true, hi := false
        dead := if s.motors[k].legs[x].hi then deadTime s.motors[k] else s.motors[k].legs[x].dead } } } := by
  rw [legRefresh, if_pos ⟨h, hb⟩]
  rfl

theorem legRefreshEnd_ends {k : Fin 6} {x : Fin 3} {s : State} (h : s.motors[k].legs[x].bsLow = true) :
    legRefreshEnd k x s = { s with motors := s.motors.set k { s.motors[k] with
      legs := s.motors[k].legs.set x { s.motors[k].legs[x] with
        bsLow := false, lo := false, dead := deadTime s.motors[k] } } } :=
  motMod_to (congrArg (fun l => { s.motors[k] with legs := l }) (vmod_eq_set (if_pos h)))

/-! ## The CK_PWM cycle (R282, R287, R303) -/

/-- Both sides of a leg are off. -/
def LegOff (l : Leg) : Prop := l.hi = false ∧ l.lo = false

/-- A channel whose gates are off in a cycle drives no side. -/
theorem restCycle_off (m : Motor) (x : Fin 3) : LegOff (restCycle m).legs[x] := by
  have h : (restCycle m).legs[x] = { (gatesOff m).legs[x] with dead := (gatesOff m).legs[x].dead - 1 } :=
    Vector.getElem_map ..
  rw [h]
  exact gatesOff_legs m x

/-- A leg waits its dead time with both sides off, else drives the sides given. -/
theorem sides_exclusive (l : Leg) (hi lo : Bool) (h : (hi && lo) = false) :
    ((if 0 < l.dead then { l with dead := l.dead - 1, hi := false, lo := false }
      else { l with hi := hi, lo := lo }).hi &&
      (if 0 < l.dead then { l with dead := l.dead - 1, hi := false, lo := false }
      else { l with hi := hi, lo := lo }).lo) = false := by
  split
  · rfl
  · exact h

/-- The high side of a leg never conducts with its low side. -/
theorem legCycle_never_both (m : Motor) (l : Leg) (want : Bool) :
    ((legCycle m l want).hi && (legCycle m l want).lo) = false := by
  unfold legCycle
  dsimp only
  split
  · split
    · rfl
    · rfl
  · exact sides_exclusive _ _ _ (Bool.and_not_self _)

theorem legCycle_dead {m : Motor} {l : Leg} (want : Bool) (hd : 0 < deadTime m) (h : l.dead ≠ 0) :
    LegOff (legCycle m l want) := by
  have hl : 0 < l.dead := Nat.pos_of_ne_zero h
  unfold legCycle
  dsimp only
  split
  · exact ⟨rfl, rfl⟩
  · have hy : ∀ y : Leg, 0 < y.dead → LegOff (if 0 < y.dead then { y with dead := y.dead - 1, hi := false, lo := false }
        else { y with hi := y.wantHi, lo := !y.wantHi }) := fun y h => by
      rw [if_pos h]
      exact ⟨rfl, rfl⟩
    refine hy _ ?_
    split
    · exact hd
    · exact hl

theorem brakeLeg_low (m : Motor) (lim : Int) (l : Leg) (cur : Option Int) :
    (brakeLeg m lim l cur).hi = false ∧ (l.dead ≠ 0 → (brakeLeg m lim l cur).lo = false) := by
  have hy : ∀ y : Leg, y.dead = l.dead →
      (if 0 < y.dead then { y with dead := y.dead - 1, hi := false, lo := false }
        else { y with hi := false, lo := !y.cutLow } : Leg).hi = false ∧
      (l.dead ≠ 0 → (if 0 < y.dead then { y with dead := y.dead - 1, hi := false, lo := false }
        else { y with hi := false, lo := !y.cutLow } : Leg).lo = false) := fun y e => by
    split
    · exact ⟨rfl, fun _ => rfl⟩
    · next hd => exact ⟨rfl, fun hn => absurd (Nat.pos_of_ne_zero fun z => hn (e.symm.trans z)) hd⟩
  refine hy _ ?_
  have hc : ∀ (p : Prop) [Decidable p] (a b : Leg), a.dead = l.dead → b.dead = l.dead →
      (if p then a else b).dead = l.dead := fun p _ a b ha hb => by
    split
    · exact ha
    · exact hb
  exact hc _ _ _ rfl rfl

theorem pwmCycle_blocked {k : Fin 6} (sh : List Int) {s : State} (h : gatesBlocked s k = true) :
    pwmCycle k sh s = { s with motors := s.motors.set k (restCycle s.motors[k]) } := by
  unfold pwmCycle
  dsimp only
  rw [if_pos (.inl h)]
  exact motMod_to rfl

/-- A cycle of a channel that runs: its legs rest, or follow the law. -/
theorem pwmCycle_running {k : Fin 6} (sh : List Int) {s : State} (h : motRunning s.motors[k] = true) :
    ∃ m fc, pwmCycle k sh s = { s with motors := s.motors.set k m, freeCtr := fc } ∧
      ∀ x : Fin 3, LegOff m.legs[x] ∨ ∃ want, m.legs[x] = legCycle s.motors[k] s.motors[k].legs[x] want := by
  unfold pwmCycle
  dsimp only
  split
  · exact ⟨_, _, motMod_to rfl, fun x => .inl (restCycle_off _ x)⟩
  · exact ⟨_, _, rfl, fun x => .inr ⟨_, Vector.getElem_ofFn ..⟩⟩

theorem pwmCycle_brake {k : Fin 6} (sh : List Int) {s : State} (h : s.motors[k].state = .brake)
    (hb : gatesBlocked s k = false) : ∃ m, pwmCycle k sh s = { s with motors := s.motors.set k m } ∧
      ∀ x : Fin 3, ∃ lim cur, m.legs[x] = brakeLeg s.motors[k] lim s.motors[k].legs[x] cur := by
  have hr : motRunning s.motors[k] = false := by rw [motRunning, h]
  unfold pwmCycle
  dsimp only
  rw [if_neg, if_neg fun x => Bool.false_ne_true (hr.symm.trans x), if_pos h]
  · exact ⟨_, motMod_to rfl, fun x => ⟨_, _, Vector.getElem_ofFn ..⟩⟩
  · rintro (x | x)
    · exact Bool.false_ne_true (hb.symm.trans x)
    · exact MotState.noConfusion (h.symm.trans x.1)

/-! ## DUMP (R305) -/

theorem vinSample_eq {mv : Nat} {s : State} (h : s.sinov.diag[(15 : Fin 16)] = none) :
    vinSample mv s = { s with hdie := { s.hdie with dump := if dumpBlocked s || !dumpEnabled s then false
      else if s.vregen.toNat * 100 ≤ mv + 1500 then true
      else if mv + 2500 ≤ s.vregen.toNat * 100 then false else s.hdie.dump } } := by
  refine if_neg fun x => ?_
  have hn : (s.sinov.diag[(15 : Fin 16)]).isSome = false := by rw [h]; rfl
  exact Bool.false_ne_true (hn.symm.trans x)

theorem vinSample_diag {mv : Nat} {s : State} (h : s.sinov.diag[(15 : Fin 16)] ≠ none) : vinSample mv s = s :=
  if_pos (Option.isSome_iff_ne_none.mpr h)

/-! ## The settling of O32 -/

/-- Settles O32: a tick moves and regulates its channel alone (`regTick_regulates`, `regTick_rests`), a jam spoils the page
(`raiseFault_spoils`), the sides of a leg never conduct together (`legCycle_never_both`, `brakeLeg_low`), and DUMP follows its
hysteresis (`vinSample_eq`). -/
theorem motorsRegulateAndGatesAreSafe : Obligations.MotorsRegulateAndGatesAreSafe := by
  unfold Obligations.MotorsRegulateAndGatesAreSafe
  refine ⟨⟨fun k rpm d io s hs hr hq => ?_, fun k rpm d io s hs hr hp => ?_, fun k s => ?_, fun k s h => ?_,
      fun k s h hb => ?_, fun k s h hd => ?_, fun k c s h hc hd hm => ?_, fun k s ha hk hs hr hw hl hn => ?_,
      fun k s hp => ?_⟩,
    fun k x s h hb => ?_, fun k x s hh h hb => ?_, fun k x s hh => ?_, fun k x s h => ?_, fun k sh s h => ?_,
    fun k sh s h => ?_, fun k sh s h hb => ?_, fun mv s h => ?_, fun mv s h hb => ?_, fun mv s h hb he => ?_⟩
  · obtain ⟨m, rdc, fc, e, hm⟩ := regTick_regulates (rpm := rpm) hs hr hq
    refine ⟨_, congrArg Host.Outcome.next e, ?_⟩
    dsimp only
    rw [getElem_set_fin]
    exact ⟨rfl, hm.speed, hm.count, hm.upper, hm.lower, hm.state, hm.legs, hm.backoff⟩
  · obtain ⟨m, rdc, fc, e, h1, h2, h3, h4⟩ := regTick_rests (rpm := rpm) hs hr hp
    refine ⟨_, congrArg Host.Outcome.next e, ?_⟩
    dsimp only
    rw [getElem_set_fin]
    exact ⟨rfl, h1, h2, h3, h4⟩
  · rfl
  · exact congrArg Host.Outcome.next (motMod_to (if_pos h))
  · exact congrArg Host.Outcome.next (toBrake_brakes h hb)
  · exact congrArg Host.Outcome.next (brakeRest_rests h hd)
  · exact congrArg Host.Outcome.next (brakeRest_applies h hc hd hm)
  · have hp : pageInFlight s = true := by
      rw [pageInFlight, ha]
      rfl
    have hx : mediaJam k s = raiseFault 0x92 { s with
        motors := s.motors.set k { s.motors[k] with events := s.motors[k].events ||| 8, slow := true } } :=
      if_pos ⟨hp, hk, hs, hr, hw, hl⟩
    refine ⟨_, congrArg Host.Outcome.next hx, raiseFault_stands (by decide) _, ?_, ?_⟩
    · exact raiseFault_spoils (s := { s with
        motors := s.motors.set k { s.motors[k] with events := s.motors[k].events ||| 8, slow := true } })
        (by decide) (by decide) ha hn (by decide) (by decide)
    · exact (raiseFault_jam (k := k) (s := { s with
        motors := s.motors.set k { s.motors[k] with events := s.motors[k].events ||| 8, slow := true } }) hn).trans
          (congrArg Motor.events (getElem_set_fin ..))
  · exact congrArg Host.Outcome.next (if_neg fun x => Bool.false_ne_true (hp.symm.trans x.1))
  · exact congrArg Host.Outcome.next (legRefresh_starts x h hb)
  · refine congrArg Host.Outcome.next ((if_pos hh).trans ((legRefresh_starts x h hb).trans ?_))
    rw [hh]
    rfl
  · exact congrArg Host.Outcome.next (if_neg fun e => Bool.false_ne_true (hh.symm.trans e))
  · exact congrArg Host.Outcome.next (legRefreshEnd_ends h)
  · refine ⟨_, congrArg Host.Outcome.next (pwmCycle_blocked sh h), ?_⟩
    dsimp only
    rw [getElem_set_fin]
    exact ⟨rfl, rfl, rfl, fun x => restCycle_off _ x⟩
  · obtain ⟨m, fc, e, hl⟩ := pwmCycle_running sh h
    refine ⟨_, congrArg Host.Outcome.next e, ?_⟩
    dsimp only
    rw [getElem_set_fin]
    refine ⟨rfl, fun x => ?_, fun hd x hx => ?_⟩
    · rcases hl x with ⟨h1, -⟩ | ⟨want, hw⟩
      · rw [h1, Bool.false_and]
      · rw [hw]
        exact legCycle_never_both ..
    · rcases hl x with ho | ⟨want, hw⟩
      · exact ho
      · rw [hw]
        exact legCycle_dead want hd hx
  · obtain ⟨m, e, hl⟩ := pwmCycle_brake sh h hb
    refine ⟨_, congrArg Host.Outcome.next e, ?_⟩
    dsimp only
    rw [getElem_set_fin]
    refine ⟨rfl, fun x => ?_⟩
    obtain ⟨lim, cur, hx⟩ := hl x
    rw [hx]
    exact brakeLeg_low ..
  · exact congrArg Host.Outcome.next (vinSample_diag h)
  · refine congrArg Host.Outcome.next ((vinSample_eq h).trans ?_)
    have hx : (dumpBlocked s || !dumpEnabled s) = true := by
      rcases hb with hb | hb
      · rw [hb, Bool.true_or]
      · rw [hb, Bool.not_false, Bool.or_true]
    rw [hx]
    rfl
  · refine congrArg Host.Outcome.next ((vinSample_eq h).trans ?_)
    rw [hb, he]
    rfl

end Sys2Proof.Machine
end

section
/-! The SPI masters (R462-R465), and the settling of O49. -/

namespace Sys2Proof.Machine

/-- A granted write of an SPI port's bank has the register's effect. -/
theorem exec_of_spim {j : Instr} {m : Master} {i : Fin 4} {o : Nat} {v : Word} {s : State}
    (hj : exec j s = .next (regWrite m (0x27 + i.val) o v s)) (h : Granted m (0x27 + i.val) o v s) :
    exec j s = .next (writeSpim i o v s) := by
  have hb : bankWrite m (0x27 + i.val) o v [] s = writeSpim i o v s := by
    match i with
    | 0 | 1 | 2 | 3 => rfl
  have := i.isLt
  rw [exec_of_granted hj h (by omega), hb]

theorem exec_of_spiCtrl {j : Instr} {m : Master} {i : Fin 4} {v : Word} {s : State}
    (hj : exec j s = .next (regWrite m (0x27 + i.val) 0x00 v s)) (h : Granted m (0x27 + i.val) 0x00 v s) :
    exec j s = .next (spiCtrl i v s) := exec_of_spim hj h

/-! ## A port's change (R442, R448) -/

/-- A port that keeps its value makes no edge. -/
theorem spiMod_same {i : Fin 4} {f : Spim → Spim} {s : State} (h : f s.spim[i] = s.spim[i]) : spiMod i f s = s := if_pos h

/-- A port changes, and with it at most the edge events of bank 0. -/
theorem spiMod_changes {i : Fin 4} {f : Spim → Spim} {s : State} {p : Spim} (h : f s.spim[i] = p) :
    PortOnly s (spiMod i f s) ∧ (spiMod i f s).spim = s.spim.set i p := by
  by_cases hc : f s.spim[i] = s.spim[i]
  · rw [spiMod_same hc, ← h, hc, Fin.getElem_fin, Vector.set_getElem_self]
    have hg : s.gpio.set 0 { s.gpio[0] with evt := s.gpio[0].evt } = s.gpio := Vector.set_getElem_self _
    refine ⟨?_, rfl⟩
    unfold PortOnly
    rw [hg]
  · have e : spiMod i f s = withEdges 0 (fun s => { s with spim := vmod s.spim i f, freeCtr := s.freeCtr + 1 }) s :=
      if_neg hc
    rw [e]
    exact ⟨withEdges_frame 0 _ s, vmod_eq_set h⟩

theorem exec_of_spiMod {j : Instr} {i : Fin 4} {f : Spim → Spim} {s : State} {p : Spim}
    (hj : exec j s = .next (spiMod i f s)) (h : f s.spim[i] = p) :
    ∃ t, exec j s = .next t ∧ PortOnly s t ∧ t.spim = s.spim.set i p :=
  ⟨_, hj, spiMod_changes h⟩

/-! ## Words of a RAW transfer (R463) -/

/-- The bits of a word of the port's width. -/
def rawWord (p : Spim) (w : Word) : Word := w &&& BitVec.ofNat 32 (2 ^ ((bits p.ctrl 8 5 : BitVec 5).toNat + 1) - 1)

theorem spiRecv_fits {p : Spim} (w : Word) (h : p.rx.length < 16) : spiRecv p w = { p with rx := p.rx ++ [rawWord p w] } :=
  if_pos h

theorem spiRecv_foldl {p : Spim} {ws : List Word} (h : p.rx.length + ws.length ≤ 16) :
    ws.foldl spiRecv p = { p with rx := p.rx ++ ws.map (rawWord p) } := by
  induction ws generalizing p with
  | nil => simp
  | cons w ws ih =>
    rw [List.length_cons] at h
    rw [List.foldl_cons, spiRecv_fits w (by omega), ih (by rw [List.length_append, List.length_singleton]; omega)]
    have hw : (p.rx ++ [rawWord p w]) ++ ws.map (rawWord p) = p.rx ++ (w :: ws).map (rawWord p) := by
      rw [List.append_assoc, List.map_cons, List.singleton_append]
    rw [← hw]
    rfl

/-- As many words come in as went out. -/
theorem slice32_all {ws : List Word} {n : Nat} (h : ws.length = n) : spiRawEnd.slice32 ws n = ws := by
  rw [spiRawEnd.slice32, ← h, List.take_length, Nat.sub_self, List.replicate_zero, List.append_nil]

/-- The port at the end of a RAW transfer. -/
def rawEnded (p : Spim) (ws : List Word) : Spim :=
  if p.ctrl.getLsbD 6 then { p with tx := [], rx := p.rx ++ ws.map (rawWord p) }
  else { p with tx := [], rx := p.rx ++ ws.map (rawWord p), busy := false, events := p.events ||| 1 }

theorem rawEnded_frame (p : Spim) (ws : List Word) : rawEnded p ws = { p with
    tx := [], rx := p.rx ++ ws.map (rawWord p), busy := (rawEnded p ws).busy, events := (rawEnded p ws).events } := by
  unfold rawEnded
  split
  · rfl
  · rfl

/-! ## Safe frames (R460, R464) -/

/-- The port after a frame that fails its checks. -/
def frameIgnored (p : Spim) : Spim :=
  { p with busy := false, events := p.events ||| 5, sendBad := true, sendSkip := false }

/-- The port after a frame that it takes. -/
def frameTaken (p : Spim) (rx : List Byte) : Spim :=
  { p with
    busy := false
    events := (p.events ||| 1) ||| (if frameSkip p.lastAlive ((rx.getD 0 0).setWidth 4) then 8 else 0) |||
      (if (rx.getD 0 0).getLsbD 4 then 16 else 0)
    sfrx := Vector.ofFn fun n => if 4 * n.val < rx.length then BitVec.ofNat 32 (fieldLe rx (4 * n.val) 4) else p.sfrx[n]
    lastAlive := some ((rx.getD 0 0).setWidth 4)
    sendBad := false
    sendSkip := frameSkip p.lastAlive ((rx.getD 0 0).setWidth 4) }

theorem frameTaken_done (p : Spim) (rx : List Byte) : (frameTaken p rx).events.getLsbD 0 = true := by
  have h : ((p.events ||| 1) : BitVec 5).getLsbD 0 = true := by
    have hb := getLsbD_or_twoPow_self p.events (show 0 < 5 by decide)
    exact hb
  unfold frameTaken
  rw [BitVec.getLsbD_or, BitVec.getLsbD_or, h, Bool.true_or, Bool.true_or]

theorem frameTaken_word (p : Spim) {rx : List Byte} {w : Fin 16} (h : 4 * w.val + 4 ≤ rx.length) :
    (frameTaken p rx).sfrx[w] = BitVec.ofNat 32 (fieldLe rx (4 * w.val) 4) := by
  have hw : (frameTaken p rx).sfrx[w] =
      if 4 * w.val < rx.length then BitVec.ofNat 32 (fieldLe rx (4 * w.val) 4) else p.sfrx[w] := Vector.getElem_ofFn ..
  rw [hw, if_pos (by omega)]

/-! ## The settling of O49 -/

/-- Settles O49: a port's register or the end of its transfer changes the port, and beside it only edge events
(`spiMod_changes`). -/
theorem portsTransfer : Obligations.PortsTransfer := by
  unfold Obligations.PortsTransfer
  refine ⟨fun m i v s hg hb => ?_, fun m i v s hg hb hv => ?_, fun m i v s hg he hs hl => ?_, fun m i v s hg h => ?_,
    fun m i s hg => ?_, fun m i v s hg hv he hs hb => ?_, fun m i v s hg hb => ?_, fun i rx s hb hs ht hl hr => ?_,
    fun i rx n s hb hs hf => ?_, fun i rx n s hb hs hf => ?_⟩
  · refine exec_of_spiMod (exec_of_spiCtrl (j := .spiCtrlWrite m i v) rfl hg) ?_
    exact if_neg fun x => Bool.false_ne_true (hb.symm.trans x)
  · refine (exec_of_spiCtrl (j := .spiCtrlWrite m i v) rfl hg).trans (congrArg Host.Outcome.next (spiMod_same ?_))
    rw [hb, hv]
    rfl
  · refine exec_of_spiMod (exec_of_spim (j := .spiTxWrite m i v) rfl hg) ?_
    rw [he, hs, decide_eq_true hl]
    rfl
  · refine (exec_of_spim (j := .spiTxWrite m i v) rfl hg).trans (congrArg Host.Outcome.next (spiMod_same ?_))
    rcases h with h | h
    · rw [h]
      rfl
    · rw [h, Bool.not_true, Bool.and_false]
      rfl
  · refine (exec_of_readGranted (i := .spiRxRead m i) rfl hg).trans ?_
    have hp : pairWith (0x27 + i.val) 0x18 = [] := by
      match i with
      | 0 | 1 | 2 | 3 => rfl
    rw [holdPair_single hp]
    match i with
    | 0 | 1 | 2 | 3 => rfl
  · refine exec_of_spiMod (exec_of_spim (j := .spiGo m i v) rfl hg) ?_
    rw [hv, he, hs, hb]
    rfl
  · refine (exec_of_spim (j := .spiGo m i v) rfl hg).trans (congrArg Host.Outcome.next (spiMod_same ?_))
    rw [hb, Bool.not_true, Bool.and_false]
    rfl
  · have ht' : s.spim[i].tx.isEmpty = false := List.isEmpty_eq_false_iff.mpr ht
    obtain ⟨t, hx, hp, e⟩ := exec_of_spiMod (j := .spiRawDone i rx) (p := rawEnded s.spim[i] rx) rfl (by
      dsimp only
      rw [hb, hs, ht', slice32_all hl, spiRecv_foldl hr]
      rfl)
    have hi : t.spim[i] = rawEnded s.spim[i] rx := by
      rw [e]
      exact getElem_set_fin ..
    have hf := rawEnded_frame s.spim[i] rx
    refine ⟨t, hx, hp, ?_, ?_, fun hc => ?_, fun hc => ?_⟩
    · rw [hi, e, hf]
    · rw [hi, hf]
      rfl
    · rw [hi, rawEnded, if_neg fun x => Bool.false_ne_true (hc.symm.trans x)]
      exact ⟨rfl, rfl⟩
    · rw [hi, rawEnded, if_pos hc]
      exact ⟨hb, rfl⟩
  · refine exec_of_spiMod (p := frameIgnored s.spim[i]) rfl ?_
    dsimp only
    rw [hb, hs]
    refine (if_pos hf).trans ?_
    rw [frameIgnored, BitVec.or_assoc]
    rfl
  · obtain ⟨t, hx, hp, e⟩ := exec_of_spiMod (j := .spiSafeFrameDone i rx n) (p := frameTaken s.spim[i] rx) rfl (by
      dsimp only
      rw [hb, hs]
      exact if_neg fun x => Bool.false_ne_true (hf.symm.trans x))
    have hi : t.spim[i] = frameTaken s.spim[i] rx := by
      rw [e]
      exact getElem_set_fin ..
    refine ⟨t, hx, hp, fun k hk => ?_, ?_⟩
    · rw [e]
      exact vmod_other s.spim i k (fun _ => frameTaken s.spim[i] rx) hk
    · rw [hi]
      exact ⟨rfl, rfl, rfl, frameTaken_done .., rfl, fun w hw => frameTaken_word _ hw⟩

end Sys2Proof.Machine
end

section
/-! Accepted safe frames of the host link (R458-R461, R467-R470), and the settling of O50. -/

namespace Sys2Proof.Machine

/-! ## The bytes of a safe frame (R458, R459) -/

theorem natBe_word (c : BitVec 16) : natBe [byteOf c 1, byteOf c 0] = c.toNat := by
  have h : natBe [byteOf c 1, byteOf c 0] = natLe (toLe c 2) := rfl
  rw [h, natLe_toLe]
  exact Nat.mod_eq_of_lt c.isLt

theorem slice_cons (b : Byte) (l : List Byte) (n : Nat) : slice (b :: l) 0 (n + 1) = b :: slice l 0 n := by
  simp [slice]

/-- A slice's bytes, absent ones 0. -/
theorem slice_getElem? (l : List Byte) (n j : Nat) : (slice l 0 n)[j]? = if j < n then some (l.getD j 0) else none := by
  unfold slice
  rw [List.drop_zero, List.getElem?_append, List.length_take]
  by_cases hn : j < n
  · rw [if_pos hn]
    by_cases hl : j < l.length
    · rw [if_pos (by omega), List.getElem?_take_of_lt hn, List.getElem?_eq_getElem hl, List.getD_eq_getElem _ _ hl]
    · rw [if_neg (by omega), List.getElem?_replicate_of_lt (by omega), List.getD_eq_default _ _ (by omega)]
  · rw [if_neg hn, if_neg (by omega)]
    exact List.getElem?_eq_none (by rw [List.length_replicate]; omega)

/-- A frame whose payload begins with three bytes. -/
theorem safeFrame_three {len : Nat} (st a b c : Byte) (d : List Byte) (h : 6 ≤ len) : ∃ w : BitVec 16,
    w = crc16 (st :: a :: b :: c :: slice d 0 (len - 6)) ∧
    safeFrame len st ([a, b, c] ++ d) = (st :: a :: b :: c :: slice d 0 (len - 6)) ++ [byteOf w 1, byteOf w 0] := by
  obtain ⟨n, rfl⟩ : ∃ n, len = n + 6 := ⟨len - 6, by omega⟩
  have hs : slice ([a, b, c] ++ d) 0 (n + 6 - 3) = a :: b :: c :: slice d 0 n := by
    rw [show n + 6 - 3 = n + 1 + 1 + 1 by omega, List.cons_append, List.cons_append, List.cons_append, List.nil_append,
      slice_cons, slice_cons, slice_cons]
  refine ⟨_, rfl, ?_⟩
  unfold safeFrame
  rw [hs, Nat.add_sub_cancel]

theorem safeFrame_length {len : Nat} (st a b c : Byte) (d : List Byte) (h : 6 ≤ len) :
    (safeFrame len st ([a, b, c] ++ d)).length = len := by
  obtain ⟨w, -, e⟩ := safeFrame_three st a b c d h
  rw [e]
  simp only [List.length_append, List.length_cons, List.length_nil, slice_length]
  omega

/-- A frame sent whole passes the checks, unless it repeats ALIVE. -/
theorem safeFrame_good {len : Nat} {st : Byte} {last : Option (BitVec 4)} (a b c : Byte) (d : List Byte) (h : 6 ≤ len)
    (hl : last ≠ some (st.setWidth 4)) :
    frameBad len last (8 * (safeFrame len st ([a, b, c] ++ d)).length) (safeFrame len st ([a, b, c] ++ d)) = false := by
  have hlen := safeFrame_length st a b c d h
  obtain ⟨w, hw, e⟩ := safeFrame_three st a b c d h
  have hb : (st :: a :: b :: c :: slice d 0 (len - 6)).length = len - 2 := by
    simp only [List.length_cons, slice_length]
    omega
  have h1 : decide (8 * (safeFrame len st ([a, b, c] ++ d)).length ≠ 8 * len) = false := by rw [hlen]; simp
  have h2 : decide ((safeFrame len st ([a, b, c] ++ d)).length ≠ len) = false := by rw [hlen]; simp
  unfold frameBad
  rw [h1, h2, e, List.take_left' hb, List.drop_left' hb, natBe_word, ← hw]
  simpa using hl

/-! ## A frame of the host (R468) -/

theorem setWidth_alive (a : BitVec 4) : (a.setWidth 8 : Byte).setWidth 4 = a := by
  revert a
  decide

/-- The chip-select's link after an accepted frame. -/
def acceptedCs (s : State) (c : Fin 2) (a : BitVec 4) (op ofs : Byte) : HspiCs :=
  { s.hspi.cs[c] with
    miso := deviceFrame s c, alive := s.hspi.cs[c].alive + 1, refused := false
    lastAlive := some a, sendBad := false, sendSkip := frameSkip s.hspi.cs[c].lastAlive a, echoOfs := ofs
    readOfs := if op = 2 then some ofs else none }

/-- The state after an accepted frame, before what the frame asks for. -/
def accepted (c : Fin 2) (a : BitVec 4) (op ofs : Byte) (s : State) : State :=
  { s with hspi := { s.hspi with cs := s.hspi.cs.set c (acceptedCs s c a op ofs) }, freeCtr := s.freeCtr + 64 }

/-- A whole frame of the host is taken, and does what its opcode says. -/
theorem transact_host {c : Fin 2} {a : BitVec 4} {s : State} (op ofs bell : Byte) (data : List Byte)
    (hu : hspiUp s = true) (hs : csSafe s c = true) (h8 : 8 ≤ s.hspi.len.toNat) (ha : s.hspi.cs[c].lastAlive ≠ some a) :
    transact c (hostFrame s a op ofs bell data) s =
      if op = 1 then hostWrite c ofs (slice data 0 (s.hspi.len.toNat - 6)) (accepted c a op ofs s)
      else if op = 3 then hostBell c bell (accepted c a op ofs s)
      else accepted c a op ofs s := by
  have hg : frameBad s.hspi.len.toNat s.hspi.cs[c].lastAlive (8 * (hostFrame s a op ofs bell data).length)
      (hostFrame s a op ofs bell data) = false :=
    safeFrame_good op ofs bell data (by omega) (by rw [setWidth_alive]; exact ha)
  obtain ⟨w, -, e⟩ := safeFrame_three (a.setWidth 8) op ofs bell data (show 6 ≤ s.hspi.len.toNat by omega)
  have he : hostFrame s a op ofs bell data = a.setWidth 8 :: op :: ofs :: bell ::
      (slice data 0 (s.hspi.len.toNat - 6) ++ [byteOf w 1, byteOf w 0]) := e
  have hd : slice (hostFrame s a op ofs bell data) 4 (s.hspi.len.toNat - 6) =
      slice data 0 (s.hspi.len.toNat - 6) := by
    rw [he]
    exact slice_append_self (slice_length ..)
  have hc : csMod c (fun h => { h with
      lastAlive := some a, sendBad := false, sendSkip := frameSkip h.lastAlive a, echoOfs := ofs,
      readOfs := if op = 2 then some ofs else none }) (sendFrame c s) = accepted c a op ofs s := by
    unfold sendFrame takeFree csMod
    dsimp only
    rw [vmod_vmod, vmod_eq_set rfl]
    rfl
  have hgood : goodFrame c (hostFrame s a op ofs bell data) (sendFrame c s) =
      if op = 1 then hostWrite c ofs (slice (hostFrame s a op ofs bell data) 4 (s.hspi.len.toNat - 6)) (accepted c a op ofs s)
      else if op = 3 then hostBell c bell (accepted c a op ofs s) else accepted c a op ofs s := by
    rw [he]
    unfold goodFrame
    simp only [List.getD_cons_zero, List.getD_cons_succ, setWidth_alive]
    rw [hc]
    rfl
  rw [transact, if_pos hu, if_pos hs, safeExchange, if_neg fun x => Bool.false_ne_true (hg.symm.trans x), hgood, hd]

/-! ## The port into the counter (R467, R470) -/

/-- The counter's request after bytes from an offset on. -/
def reqWritten (ofs : Nat) (data : List Byte) (k : Counter) : Vector Byte 256 :=
  Vector.ofFn fun i => if ofs ≤ i.val then (data[i.val - ofs]?).getD k.req[i] else k.req[i]

theorem reqWritten_slice (ofs : Nat) (d : List Byte) (n : Nat) (k : Counter) (i : Fin 256) :
    (reqWritten ofs (slice d 0 n) k)[i] =
      if ofs ≤ i.val ∧ i.val < ofs + n then d.getD (i.val - ofs) 0 else k.req[i] := by
  have h : (reqWritten ofs (slice d 0 n) k)[i] =
      if ofs ≤ i.val then ((slice d 0 n)[i.val - ofs]?).getD k.req[i] else k.req[i] := Vector.getElem_ofFn ..
  rw [h, slice_getElem?]
  by_cases h1 : ofs ≤ i.val
  · by_cases h2 : i.val < ofs + n
    · rw [if_pos h1, if_pos (by omega), if_pos ⟨h1, h2⟩]
      rfl
    · rw [if_pos h1, if_neg (by omega), if_neg fun x => h2 x.2]
      rfl
  · rw [if_neg h1, if_neg fun x => h1 x.1]

/-- The counter with that request. -/
def cntWritten (ofs : Nat) (data : List Byte) (k : Counter) : Counter := { k with req := reqWritten ofs data k }

theorem portWrite_open {c : Fin 2} (ofs : Nat) (d : List Byte) {s : State}
    (h : s.counters[csCounter c].stage = .idle ∨ s.counters[csCounter c].stage = .done) :
    portWrite c ofs d s =
      { s with counters := s.counters.set (csCounter c) (cntWritten ofs d s.counters[csCounter c]) } :=
  congrArg (fun v => { s with counters := v }) (vmod_eq_set (if_pos h))

theorem portWrite_shut {c : Fin 2} (ofs : Nat) (d : List Byte) {s : State}
    (h : s.counters[csCounter c].stage = .posted ∨ s.counters[csCounter c].stage = .taken) :
    portWrite c ofs d s = s := by
  refine congrArg (fun v => { s with counters := v }) (vmod_id (if_neg ?_))
  rintro (x | x)
  · rcases h with h | h
    · exact CntStage.noConfusion (h.symm.trans x)
    · exact CntStage.noConfusion (h.symm.trans x)
  · rcases h with h | h
    · exact CntStage.noConfusion (h.symm.trans x)
    · exact CntStage.noConfusion (h.symm.trans x)

/-- OFFSET 0 mends BROKEN. -/
def mended (ofs : Byte) (h : HspiCs) : HspiCs := if ofs = 0 then { h with broken := false } else h

theorem mended_frame (ofs : Byte) (h : HspiCs) :
    mended ofs h = { h with broken := if ofs = 0 then false else h.broken } := by
  unfold mended
  split
  · rfl
  · rfl

theorem hostWrite_frame (c : Fin 2) (ofs : Byte) (d : List Byte) (s : State) : hostWrite c ofs d s =
    { portWrite c ofs.toNat d s with hspi := { s.hspi with cs := s.hspi.cs.set c (mended ofs s.hspi.cs[c]) } } := rfl

/-- The frame the device has sent in a transaction (R461, R468). -/
theorem deviceFrame_bytes {c : Fin 2} {s : State} (h8 : 8 ≤ s.hspi.len.toNat) :
    (deviceFrame s c).length = s.hspi.len.toNat ∧
    (deviceFrame s c)[1]? = some (cntStatusByte s.counters[csCounter c]) ∧
    ∀ o, s.hspi.cs[c].readOfs = some o → ((deviceFrame s c).drop 4).take (s.hspi.len.toNat - 6) =
      rplBytes s.counters[csCounter c] o.toNat (s.hspi.len.toNat - 6) := by
  have h6 : 6 ≤ s.hspi.len.toNat := by omega
  refine ⟨safeFrame_length _ _ _ _ _ h6, ?_, fun o ho => ?_⟩
  · obtain ⟨w, -, e⟩ := safeFrame_three (statByte s.hspi.cs[c].alive s.hspi.cs[c].sendBad s.hspi.cs[c].sendSkip
      s.hspi.cs[c].refused s.counters[csCounter c].rst) (cntStatusByte s.counters[csCounter c]) s.hspi.cs[c].echoOfs
      (if s.hspi.cs[c].readOfs.isSome then 1 else 0) (match s.hspi.cs[c].readOfs with
        | some o => rplBytes s.counters[csCounter c] o.toNat (s.hspi.len.toNat - 6)
        | none => freeBytes s.freeCtr (s.hspi.len.toNat - 6)) h6
    exact (congrArg (fun l : List Byte => l[1]?) e).trans rfl
  · obtain ⟨w, -, e⟩ := safeFrame_three (statByte s.hspi.cs[c].alive s.hspi.cs[c].sendBad s.hspi.cs[c].sendSkip
      s.hspi.cs[c].refused s.counters[csCounter c].rst) (cntStatusByte s.counters[csCounter c]) s.hspi.cs[c].echoOfs
      (if s.hspi.cs[c].readOfs.isSome then 1 else 0)
      (rplBytes s.counters[csCounter c] o.toNat (s.hspi.len.toNat - 6)) h6
    have hl : (rplBytes s.counters[csCounter c] o.toNat (s.hspi.len.toNat - 6)).length = s.hspi.len.toNat - 6 :=
      slice_length ..
    rw [slice_whole hl] at e
    have hf : deviceFrame s c = safeFrame s.hspi.len.toNat (statByte s.hspi.cs[c].alive s.hspi.cs[c].sendBad
        s.hspi.cs[c].sendSkip s.hspi.cs[c].refused s.counters[csCounter c].rst)
        ([cntStatusByte s.counters[csCounter c], s.hspi.cs[c].echoOfs, if s.hspi.cs[c].readOfs.isSome then 1 else 0] ++
          rplBytes s.counters[csCounter c] o.toNat (s.hspi.len.toNat - 6)) := by
      unfold deviceFrame
      dsimp only
      rw [ho]
    rw [hf, e]
    exact List.take_left' hl

/-! ## The settling of O50 -/

/-- Settles O50: a whole safe frame of the host is taken (`transact_host`), and its opcode writes the counter's request, rings its
doorbell or asks for its reply (`portWrite_open`, `ringOp_free`, `deviceFrame_bytes`). -/
theorem hostFramesAreServed : Obligations.HostFramesAreServed := by
  unfold Obligations.HostFramesAreServed
  refine ⟨fun c a ofs d s hu hs h8 _ ha hst => ?_, fun c a ofs d s hu hs h8 _ ha hst => ?_,
    fun c a s hu hs h8 _ ha hb hst => ?_, fun c a s hu hs h8 _ ha hb => ?_, fun c a ofs n s hu hs h8 _ ha => ?_,
    fun c a s hu hs h8 _ ha => ?_⟩
  · have hx := transact_host 1 ofs 0 d hu hs h8 ha
    rw [if_pos rfl, hostWrite_frame, portWrite_open _ _ (s := accepted c a 1 ofs s) hst, mended_frame] at hx
    refine ⟨_, congrArg Host.Outcome.next hx, rfl, fun k hk => ?_, ?_, fun i => ?_, ?_, ?_, ?_⟩
    · exact vmod_other s.counters _ k (fun _ => _) hk
    · dsimp only [accepted]
      rw [getElem_set_fin]
      rfl
    · dsimp only [accepted]
      rw [getElem_set_fin]
      exact reqWritten_slice ..
    · dsimp only [accepted]
      rw [getElem_set_fin, getElem_set_fin]
      rfl
    · dsimp only [accepted]
      rw [getElem_set_fin, getElem_set_fin]
      rfl
    · dsimp only [accepted]
      rw [getElem_set_fin, getElem_set_fin]
      rfl
  · have hx := transact_host 1 ofs 0 d hu hs h8 ha
    rw [if_pos rfl, hostWrite_frame, portWrite_shut _ _ (s := accepted c a 1 ofs s) hst, mended_frame] at hx
    refine ⟨_, congrArg Host.Outcome.next hx, rfl, ?_⟩
    dsimp only [accepted]
    rw [getElem_set_fin, getElem_set_fin]
    rfl
  · have hx := transact_host 3 0 1 [] hu hs h8 ha
    have hbell : hostBell c 1 (accepted c a 3 0 s) = ringOp (csCounter c) (accepted c a 3 0 s) := by
      refine (if_neg fun x => ?_).trans (doorbell_ring (v := 0) (by decide))
      have hacc : (accepted c a 3 0 s).hspi.cs[c].broken = s.hspi.cs[c].broken := by
        dsimp only [accepted]
        rw [getElem_set_fin]
        rfl
      exact Bool.false_ne_true (hb.symm.trans (hacc.symm.trans x.2))
    rw [if_neg (by decide), if_pos rfl, hbell, ringOp_free (s := accepted c a 3 0 s) hst] at hx
    exact ⟨_, congrArg Host.Outcome.next hx, rfl, rfl⟩
  · have hx := transact_host 3 0 1 [] hu hs h8 ha
    have hbell : hostBell c 1 (accepted c a 3 0 s) = csMod c (fun h => { h with refused := true }) (accepted c a 3 0 s) := by
      refine if_pos ⟨by decide, ?_⟩
      dsimp only [accepted]
      rw [getElem_set_fin]
      exact hb
    rw [if_neg (by decide), if_pos rfl, hbell] at hx
    refine ⟨_, congrArg Host.Outcome.next hx, rfl, ?_, ?_⟩
    · dsimp only [csMod]
      rw [vmod_same]
    · dsimp only [csMod, accepted]
      rw [vmod_same, getElem_set_fin]
      exact hb
  · have hx := transact_host 2 ofs 0 [] hu hs h8 ha
    rw [if_neg (by decide), if_neg (by decide)] at hx
    refine ⟨_, congrArg Host.Outcome.next hx, rfl, ?_⟩
    dsimp only [accepted]
    rw [getElem_set_fin]
    exact ⟨rfl, rfl⟩
  · have hx := transact_host 0 0 0 [] hu hs h8 ha
    rw [if_neg (by decide), if_neg (by decide)] at hx
    refine ⟨_, congrArg Host.Outcome.next hx, rfl, ?_⟩
    dsimp only [accepted]
    rw [getElem_set_fin]
    exact ⟨rfl, deviceFrame_bytes h8⟩

end Sys2Proof.Machine
end

section
/-! RAW transactions, bad frames, clashes and HS_CFG on the host link (R466-R471, R484), and the settling of O51. -/

namespace Sys2Proof.Machine

/-! ## RAW transactions (R467) -/

/-- The status byte of a RAW transaction. -/
def rawStatus (s : State) : Byte :=
  cntStatusByte s.counters[csCounter 0] ||| (if s.counters[csCounter 0].rst then 0x80 else 0)

/-- What the chip-select 0 shifts out is kept. -/
def rawShifted (st : Byte) (l : List Byte) (s : State) : State :=
  csMod 0 (fun h => { h with miso := st :: l, readOfs := none }) s

theorem transact_raw {rx l : List Byte} {s x : State} (hu : hspiUp s = true) (hs : csSafe s 0 = false)
    (h : rawOp rx s = (l, x)) : transact 0 rx s = rawShifted (rawStatus s) l x := by
  rw [transact, if_pos hu, if_neg fun e => Bool.false_ne_true (hs.symm.trans e)]
  unfold rawExchange
  dsimp only
  rw [h]
  rfl

theorem rawShifted_miso (st : Byte) (l : List Byte) (s : State) :
    (rawShifted st l s).hspi.cs[(0 : Fin 2)].miso = st :: l := by
  have h : (rawShifted st l s).hspi.cs[(0 : Fin 2)] = { s.hspi.cs[(0 : Fin 2)] with miso := st :: l, readOfs := none } :=
    vmod_same ..
  rw [h]

theorem rawShifted_cfg (st : Byte) (l : List Byte) (s : State) : (rawShifted st l s).hspi.cfgDue = s.hspi.cfgDue := rfl

/-- The bytes shifted in for a register access name its offset. -/
theorem fieldLe_offset (op : Byte) (ofs : BitVec 16) (l : List Byte) : fieldLe (op :: (toLe ofs 2 ++ l)) 1 2 = ofs.toNat := by
  rw [fieldLe_cons_succ, fieldLe_append_left (by rw [toLe_length]), fieldLe_toLe_of_le _ (by decide)]

theorem fieldLe_data (op : Byte) (ofs : BitVec 16) (v : Word) : fieldLe (op :: (toLe ofs 2 ++ toLe v 4)) 3 4 = v.toNat := by
  rw [fieldLe_cons_succ, fieldLe_append_right (by rw [toLe_length]), toLe_length, fieldLe_toLe_of_le _ (by decide)]

theorem freeBytes_length (i n : Nat) : (freeBytes i n).length = n := by
  rw [freeBytes, List.length_map, List.length_range]

theorem drop_shifted {a b : List Byte} {n : Nat} (st : Byte) (h : a.length = n) : (st :: (a ++ b)).drop (n + 1) = b := by
  rw [List.drop_succ_cons, List.drop_left' h]

/-! ### Reply bytes -/

theorem rawOp_reply (ofs : Byte) (n : Nat) (s : State) : rawOp ([2, ofs, 0] ++ List.replicate n 0) s =
    (freeBytes s.freeCtr 2 ++ rplBytes s.counters[csCounter 0] ofs.toNat n, takeFree 2 s) := by
  have hn : ([2, ofs, 0] ++ List.replicate n (0 : Byte)).length - 1 = n + 2 := by
    rw [List.length_append, List.length_replicate]
    show 3 + n - 1 = n + 2
    omega
  have hl : (freeBytes s.freeCtr 2 ++ rplBytes s.counters[csCounter 0] ofs.toNat n).length = n + 2 := by
    rw [List.length_append, freeBytes_length, rplBytes, slice_length, Nat.add_comm]
  have h : rawOp ([2, ofs, 0] ++ List.replicate n 0) s =
      ((freeBytes s.freeCtr 2 ++ rplBytes s.counters[csCounter 0] ofs.toNat
        (([2, ofs, 0] ++ List.replicate n (0 : Byte)).length - 1 - 2)).take
          (([2, ofs, 0] ++ List.replicate n (0 : Byte)).length - 1), takeFree 2 s) := rfl
  rw [h, hn, Nat.add_sub_cancel, List.take_of_length_le (Nat.le_of_eq hl)]

/-! ### Register reads -/

/-- A granted read of HSPI changes nothing. -/
theorem regRead_hspi {o : Nat} {s : State} (h : ReadGranted .hspi 0x2B o s) :
    regRead .hspi 0x2B o s = (some (regVal 0x2B o s), s) := by
  obtain ⟨hv, hc⟩ := h
  have hp : holdPair .hspi 0x2B o (fun o => regVal 0x2B o s) s = s := rfl
  have he : readEffect 0x2B o s = s := by
    unfold readEffect
    rw [if_neg fun x => absurd x.1 (by decide), if_neg fun x => absurd x.2.1 (by decide),
      if_neg fun x => absurd x (by decide)]
  simp only [regRead, hv, readThrough, hc, hp, he]

/-- What a register read answers with. -/
def rawValue (s : State) (r : Option Word) : List Byte :=
  match r with
  | some w => toLe w 4
  | none => (freeBytes s.freeCtr 7).drop 3

theorem rawOp_read {l : List Byte} {n : Nat} (hn : l.length = n) (h2 : 2 ≤ n) (s : State) {r : Option Word × State}
    (hr : (if fieldLe ((4 : Byte) :: l) 1 2 % 4 = 0 then regRead .hspi 0x2B (fieldLe ((4 : Byte) :: l) 1 2) s
      else (none, portMisaligned (fieldLe ((4 : Byte) :: l) 1 2) 0 s)) = r) :
    rawOp ((4 : Byte) :: l) s = ((freeBytes s.freeCtr 3 ++ rawValue s r.1 ++ List.replicate n 0).take n, takeFree 7 r.2) := by
  have h : rawOp ((4 : Byte) :: l) s = if l.length < 2 then (freeBytes s.freeCtr l.length, takeFree l.length s)
      else ((freeBytes s.freeCtr 3 ++ rawValue s (if fieldLe ((4 : Byte) :: l) 1 2 % 4 = 0 then
          regRead .hspi 0x2B (fieldLe ((4 : Byte) :: l) 1 2) s
        else (none, portMisaligned (fieldLe ((4 : Byte) :: l) 1 2) 0 s)).1 ++
          List.replicate l.length 0).take l.length, takeFree 7 (if fieldLe ((4 : Byte) :: l) 1 2 % 4 = 0 then
          regRead .hspi 0x2B (fieldLe ((4 : Byte) :: l) 1 2) s
        else (none, portMisaligned (fieldLe ((4 : Byte) :: l) 1 2) 0 s)).2) := rfl
  rw [h, hn, if_neg (by omega), hr]

theorem rawOp_write {l : List Byte} (hn : 6 ≤ l.length) (s : State) : rawOp ((5 : Byte) :: l) s =
    (List.replicate l.length 0, if fieldLe ((5 : Byte) :: l) 1 2 % 4 ≠ 0 then
        portMisaligned (fieldLe ((5 : Byte) :: l) 1 2) 1 s
      else regWrite .hspi 0x2B (fieldLe ((5 : Byte) :: l) 1 2) (BitVec.ofNat 32 (fieldLe ((5 : Byte) :: l) 3 4)) s) := by
  have h : rawOp ((5 : Byte) :: l) s = (List.replicate l.length 0, if l.length < 6 then s
      else if fieldLe ((5 : Byte) :: l) 1 2 % 4 ≠ 0 then portMisaligned (fieldLe ((5 : Byte) :: l) 1 2) 1 s
      else regWrite .hspi 0x2B (fieldLe ((5 : Byte) :: l) 1 2) (BitVec.ofNat 32 (fieldLe ((5 : Byte) :: l) 3 4)) s) := rfl
  rw [h, if_neg (by omega)]

/-- A RAW register read. -/
theorem exec_regRead {ofs : BitVec 16} {s : State} {r : Option Word × State} (hu : hspiUp s = true)
    (hs : csSafe s 0 = false) (hr : (if ofs.toNat % 4 = 0 then regRead .hspi 0x2B ofs.toNat s
      else (none, portMisaligned ofs.toNat 0 s)) = r) : exec (.hspiRegRead ofs) s = .next (rawShifted (rawStatus s)
        ((freeBytes s.freeCtr 3 ++ rawValue s r.1 ++ List.replicate 7 0).take 7) (takeFree 7 r.2)) := by
  have hl : (toLe ofs 2 ++ List.replicate 5 (0 : Byte)).length = 7 := by
    rw [List.length_append, toLe_length, List.length_replicate]
  refine congrArg Host.Outcome.next (transact_raw hu hs (rawOp_read (l := toLe ofs 2 ++ List.replicate 5 0) hl (by decide) s ?_))
  rw [fieldLe_offset]
  exact hr

/-- A RAW register write. -/
theorem exec_regWrite {ofs : BitVec 16} {v : Word} {s x : State} (hu : hspiUp s = true) (hs : csSafe s 0 = false)
    (hx : (if ofs.toNat % 4 ≠ 0 then portMisaligned ofs.toNat 1 s else regWrite .hspi 0x2B ofs.toNat v s) = x) :
    exec (.hspiRegWrite ofs v) s = .next (rawShifted (rawStatus s) (List.replicate 6 0) x) := by
  have hl : (toLe ofs 2 ++ toLe v 4).length = 6 := by
    rw [List.length_append, toLe_length, toLe_length]
  have h := rawOp_write (l := toLe ofs 2 ++ toLe v 4) (Nat.le_of_eq hl.symm) s
  rw [fieldLe_offset, fieldLe_data, BitVec.ofNat_toNat, BitVec.setWidth_eq, hx, hl] at h
  exact congrArg Host.Outcome.next (transact_raw hu hs h)

/-- Outside SERVICE a write of HS_CFG is an error response. -/
theorem hsCfg_refused {v : Word} {s : State} (hu : hspiUp s = true) (hs : s.sys.mode ≠ 1) :
    ∃ src, regWrite .hspi 0x2B 0 v s =
      errorResponse { master := .hspi, addr := regAddr 0x2B 0, kind := 1, size := 2 } src s := by
  unfold hspiUp at hu
  rw [Bool.and_eq_true, decide_eq_true_iff] at hu
  obtain ⟨src, e⟩ := sealed_refused (m := .hspi) (bank := 0x2B) (off := 0) (v := v) (by decide) hs hu.2
  exact ⟨src, (addrWrite_regAddr (by decide) (by decide) (by decide) (by decide)).symm.trans e⟩

/-- An access of no word's offset: an error response, seen beside the port's own bytes. -/
theorem portMisaligned_facts {ofs : Nat} {kind : BitVec 2} {s : State} (h : Mild 0x60 s) :
    HubOnly s (portMisaligned ofs kind s) ∧ Stands 0x60 (portMisaligned ofs kind s) ∧
    (portMisaligned ofs kind s).hub.feValid = true ∧
    (s.hub.feValid = false → (portMisaligned ofs kind s).hub.feSource = 2 ∧
      (portMisaligned ofs kind s).hub.feMaster = masterId .hspi ∧
      (portMisaligned ofs kind s).hub.feAddr = regAddr 0x2B ofs) := by
  have hc := errorResponse_captured (a := { master := .hspi, addr := regAddr 0x2B ofs, kind := kind, size := 2 })
    (src := .misaligned) h
  refine ⟨errorResponse_hubOnly h, errorResponse_stands _ _ _, hc.valid, fun hv => ?_⟩
  obtain ⟨h1, h2, -, -, -, h6, -⟩ := hc.first hv
  exact ⟨h6, h2, h1⟩

/-! ## Bad frames and clashes (R460, R470, R484) -/

/-- A chip-select's link after a bad frame. -/
def badCs (h : HspiCs) : HspiCs :=
  { h with broken := true, badCnt := h.badCnt + 1, sendBad := true, sendSkip := false, readOfs := none }

theorem badFrame_raises {c : Fin 2} {s : State} (h : Mild 0xC4 s) : RaisedOnly 0xC4 { s with hspi := { s.hspi with
    cs := s.hspi.cs.set c (badCs s.hspi.cs[c]), events := s.hspi.events ||| BitVec.twoPow 3 c.val } } (badFrame c s) :=
  raiseFault_mild (by decide) h

theorem RaisedOnly.hspi {f : Byte} {s t : State} (h : RaisedOnly f s t) : t.hspi = s.hspi := by
  obtain ⟨-, -, -, -, -, e⟩ := h
  rw [e]

/-- A clash's marks on the port. -/
def clashed (s : State) : State :=
  csMod 0 (fun h => { h with miso := [] }) (csMod 1 (fun h => { h with miso := [] })
    { s with hspi := { s.hspi with events := s.hspi.events ||| 4 } })

theorem getLsbD_or_left {n : Nat} {v : BitVec n} (w : BitVec n) {i : Nat} (h : v.getLsbD i = true) :
    (v ||| w).getLsbD i = true := by
  rw [BitVec.getLsbD_or, h, Bool.true_or]

/-! ## HS_CFG (R471) -/

/-- Both chip-selects take a change. -/
theorem vmod_both {α : Type} (v : Vector α 2) (f : α → α) : vmod (vmod v 1 f) 0 f = v.map f := by
  refine Vector.ext fun i hi => ?_
  match i, hi with
  | 0, _ => simp [vmod]
  | 1, _ => simp [vmod]

/-! ## The settling of O51 -/

/-- Settles O51: RAW bytes in and out (`rawOp_reply`, `exec_regRead`, `exec_regWrite`), bad frames and clashes
(`badFrame_raises`), and HS_CFG's moment. -/
theorem hostLinksRecover : Obligations.HostLinksRecover := by
  unfold Obligations.HostLinksRecover
  refine ⟨fun ofs n s hu hs hn => ?_, fun ofs s hu hs ho hg => ?_, fun v s hu hs hg => ?_, fun ofs v s hu hs ho hm => ?_,
    fun v s hu hs hmode hm => ?_, fun c s hu hs hm => ?_, fun s hu hm => ?_, fun v s hv => ?_, fun s hv => ?_⟩
  · have hb : readRplBytes s none ofs n = [2, ofs, 0] ++ List.replicate n 0 := by
      unfold readRplBytes
      dsimp only
      rw [Nat.min_eq_left hn]
    have hx := transact_raw hu hs (rawOp_reply ofs n s)
    rw [← hb] at hx
    refine ⟨_, congrArg Host.Outcome.next hx, rfl, ?_⟩
    rw [rawShifted_miso]
    exact drop_shifted _ (freeBytes_length s.freeCtr 2)
  · have hx := exec_regRead (r := (some (regVal 0x2B ofs.toNat s), s)) hu hs ((if_pos ho).trans (regRead_hspi hg))
    refine ⟨_, hx, rfl, ?_⟩
    rw [rawShifted_miso]
    have hl : (freeBytes s.freeCtr 3 ++ rawValue s (some (regVal 0x2B ofs.toNat s))).length = 7 := by
      rw [List.length_append, freeBytes_length, rawValue, toLe_length]
    rw [List.take_left' hl]
    exact drop_shifted _ (freeBytes_length s.freeCtr 3)
  · have hx := exec_regWrite (ofs := 0) (v := v) (x := { s with hspi := { s.hspi with cfgDue := some v } }) hu hs
      ((if_neg (by decide)).trans (regWrite_granted hg (by decide)))
    exact ⟨_, hx, rfl, rfl, rfl, rfl⟩
  · obtain ⟨r1, r2, r3, r4⟩ := portMisaligned_facts (ofs := ofs.toNat) (kind := 0) hm
    obtain ⟨w1, w2, w3, w4⟩ := portMisaligned_facts (ofs := ofs.toNat) (kind := 1) hm
    have hr := exec_regRead (r := (none, portMisaligned ofs.toNat 0 s)) hu hs (if_neg ho)
    have hw := exec_regWrite (v := v) (x := portMisaligned ofs.toNat 1 s) hu hs (if_pos ho)
    have hh : (portMisaligned ofs.toNat 1 s).hspi = s.hspi := by rw [w1]
    dsimp only at hr
    generalize portMisaligned ofs.toNat 0 s = x at *
    generalize portMisaligned ofs.toNat 1 s = y at *
    exact ⟨⟨_, hr, r2, r3, r4, r1.counters, r1.memSame⟩, _, hw, w2, w3, w4, (rawShifted_cfg ..).trans (congrArg Hspi.cfgDue hh), w1.counters,
      w1.memSame⟩
  · obtain ⟨src, e⟩ := hsCfg_refused (v := v) hu hmode
    have hw := exec_regWrite (ofs := 0) (v := v) hu hs ((if_neg (by decide)).trans e)
    have hh := errorResponse_hubOnly (a := { master := .hspi, addr := regAddr 0x2B 0, kind := 1, size := 2 })
      (src := src) hm
    have hst := errorResponse_stands { master := .hspi, addr := regAddr 0x2B 0, kind := 1, size := 2 } src s
    generalize errorResponse { master := .hspi, addr := regAddr 0x2B 0, kind := 1, size := 2 } src s = x at *
    have he : x.hspi = s.hspi := by rw [hh]
    exact ⟨_, hw, (rawShifted_cfg ..).trans (congrArg Hspi.cfgDue he), hst, hh.counters⟩
  · have hx : exec (.hspiBadFrame c) s = .next (badFrame c (sendFrame c s)) :=
      congrArg Host.Outcome.next ((if_pos hu).trans (if_pos hs))
    have hr := badFrame_raises (c := c) (s := sendFrame c s) hm
    have hcs : (sendFrame c s).hspi.cs[c] =
        { s.hspi.cs[c] with miso := deviceFrame s c, alive := s.hspi.cs[c].alive + 1, refused := false } := vmod_same ..
    refine ⟨_, hx, hr.stands, hr.counters, memSame_of_mem hr.mem, ?_⟩
    rw [hr.hspi]
    dsimp only
    rw [getElem_set_fin, hcs]
    exact ⟨rfl, rfl, rfl, rfl⟩
  · have hm' : Mild 0xC4 (clashed s) := hm
    have h4 : (s.hspi.events ||| 4).getLsbD 2 = true := by
      have hb := getLsbD_or_twoPow_self s.hspi.events (show 2 < 3 by decide)
      exact hb
    have hone : ∀ x : State, Mild 0xC4 x → x.hspi.events.getLsbD 2 = true → Stands 0xC4 (badFrame 1 x) ∧
        (badFrame 1 x).counters = x.counters ∧ (badFrame 1 x).mem = x.mem ∧ (badFrame 1 x).hspi.events.getLsbD 2 = true ∧
        (badFrame 1 x).hspi.cs[(1 : Fin 2)].broken = true ∧
        (badFrame 1 x).hspi.cs[(0 : Fin 2)].broken = x.hspi.cs[(0 : Fin 2)].broken := fun x hx he => by
      have hr := badFrame_raises (c := 1) hx
      refine ⟨hr.stands, hr.counters, hr.mem, ?_⟩
      rw [hr.hspi]
      dsimp only
      rw [getElem_set_fin]
      exact ⟨getLsbD_or_left _ he, rfl, congrArg HspiCs.broken (vmod_other x.hspi.cs 1 0 (fun _ => _) (by decide))⟩
    have h0 : (clashed s).hspi.cs[(0 : Fin 2)].broken = s.hspi.cs[(0 : Fin 2)].broken := by
      simp [clashed, csMod, vmod]
    cases hmode : s.hspi.mode0 with
    | true =>
      have hx : exec .hspiClash s = .next (badFrame 1 (badFrame 0 (clashed s))) := by
        refine congrArg Host.Outcome.next ((if_pos hu).trans (congrArg (badFrame 1) (if_pos ?_)))
        exact hmode
      have hr := badFrame_raises (c := 0) hm'
      have he : (badFrame 0 (clashed s)).hspi.events.getLsbD 2 = true := by
        rw [hr.hspi]
        exact getLsbD_or_left _ h4
      have hk := fun h => Mild.after_raise (f := 0xC4) h hr
      obtain ⟨k1, k2, k3, k4, k5, k6⟩ := hone _ (hk hm') he
      refine ⟨_, hx, k1, k2.trans hr.counters, memSame_of_mem (k3.trans hr.mem), k4, k5, ?_⟩
      rw [k6, hr.hspi, Bool.or_true]
      dsimp only
      rw [getElem_set_fin]
      rfl
    | false =>
      have hx : exec .hspiClash s = .next (badFrame 1 (clashed s)) := by
        refine congrArg Host.Outcome.next ((if_pos hu).trans (congrArg (badFrame 1) (if_neg fun e => ?_)))
        exact Bool.false_ne_true (hmode.symm.trans e)
      obtain ⟨k1, k2, k3, k4, k5, k6⟩ := hone _ hm' h4
      exact ⟨_, hx, k1, k2, memSame_of_mem k3, k4, k5, by rw [k6, h0, Bool.or_false]⟩
  · refine congrArg Host.Outcome.next ?_
    unfold cfgApply
    rw [hv]
    unfold csMod
    dsimp only
    rw [vmod_both]
    rfl
  · refine congrArg Host.Outcome.next ?_
    rw [cfgApply, hv]

end Sys2Proof.Machine
end

section
/-! The descriptor rings of the Ethernet MACs (R472-R475, R485), and the settling of O52. -/

namespace Sys2Proof.Machine

/-! ## Patches of a descriptor (R474) -/

theorem patch_eq {bs p : List Byte} {ofs : Nat} (h : ofs + p.length ≤ bs.length) :
    patch bs ofs p = bs.take ofs ++ p ++ bs.drop (ofs + p.length) := by
  refine List.take_of_length_le ?_
  simp only [List.length_append, List.length_take, List.length_drop]
  omega

theorem patch_length {bs p : List Byte} {ofs : Nat} (h : ofs + p.length ≤ bs.length) :
    (patch bs ofs p).length = bs.length := by
  rw [patch_eq h]
  simp only [List.length_append, List.length_take, List.length_drop]
  omega

/-- The patched bytes. -/
theorem fieldLe_patch_same {bs p : List Byte} {ofs : Nat} (h : ofs + p.length ≤ bs.length) :
    fieldLe (patch bs ofs p) ofs p.length = fieldLe p 0 p.length := by
  have hl : (bs.take ofs).length = ofs := by
    rw [List.length_take]
    omega
  rw [patch_eq h, fieldLe_append_left (by rw [List.length_append, hl]), fieldLe_append_right (by rw [hl]), hl,
    Nat.sub_self]

/-- A field before the patched bytes. -/
theorem fieldLe_patch_before {bs p : List Byte} {ofs o n : Nat} (h : ofs + p.length ≤ bs.length) (hb : o + n ≤ ofs) :
    fieldLe (patch bs ofs p) o n = fieldLe bs o n := by
  have hl : (bs.take ofs).length = ofs := by
    rw [List.length_take]
    omega
  have hs : fieldLe bs o n = fieldLe (bs.take ofs ++ bs.drop ofs) o n := by rw [List.take_append_drop]
  rw [patch_eq h, List.append_assoc, fieldLe_append_left (by rw [hl]; exact hb), hs,
    fieldLe_append_left (by rw [hl]; exact hb)]

/-- The flags that a descriptor comes back with. -/
def flagsBack (d : List Byte) (err ts : Bool) : BitVec 16 :=
  setBit (setBit (setBit (BitVec.ofNat 16 (fieldLe d 10 2)) 0 false) 8 err) 9 ts

theorem flagsBack_own (d : List Byte) (err ts : Bool) : (flagsBack d err ts).getLsbD 0 = false := by
  unfold flagsBack
  rw [getLsbD_setBit _ _ _ (by decide), if_neg (by decide), getLsbD_setBit _ _ _ (by decide), if_neg (by decide),
    getLsbD_setBit _ _ _ (by decide), if_pos rfl]

/-- A descriptor that comes back has its length, LEN as told, and OWN clear. -/
theorem descBack_fields {e : Eth} {d : List Byte} {len : Nat} (err ts : Bool) (hd : d.length = 32) (hl : len < 65536) :
    (descBack e d len err ts).length = 32 ∧ fieldLe (descBack e d len err ts) 8 2 = len ∧
      (BitVec.ofNat 16 (fieldLe (descBack e d len err ts) 10 2)).getLsbD 0 = false := by
  have h8 : (toLe (BitVec.ofNat 16 len) 2).length = 2 := toLe_length ..
  have hf : (toLe (flagsBack d err ts) 2).length = 2 := toLe_length ..
  have hs : (toLe e.ptpSec 6).length = 6 := toLe_length ..
  have hn : (toLe (BitVec.ofNat 32 e.ptpNs) 4).length = 4 := toLe_length ..
  have a1 : (patch d 8 (toLe (BitVec.ofNat 16 len) 2)).length = 32 := (patch_length (by omega)).trans hd
  have a2 : (patch (patch d 8 (toLe (BitVec.ofNat 16 len) 2)) 10 (toLe (flagsBack d err ts) 2)).length = 32 :=
    (patch_length (by omega)).trans a1
  have b1 : fieldLe (patch (patch d 8 (toLe (BitVec.ofNat 16 len) 2)) 10 (toLe (flagsBack d err ts) 2)) 8 2 = len := by
    have hp := fieldLe_patch_same (bs := d) (p := toLe (BitVec.ofNat 16 len) 2) (ofs := 8) (by omega)
    rw [h8] at hp
    rw [fieldLe_patch_before (by omega) (by omega), hp, fieldLe_toLe_of_le _ (by decide), BitVec.toNat_ofNat,
      Nat.mod_eq_of_lt hl]
  have b2 : (BitVec.ofNat 16 (fieldLe (patch (patch d 8 (toLe (BitVec.ofNat 16 len) 2)) 10
      (toLe (flagsBack d err ts) 2)) 10 2)).getLsbD 0 = false := by
    have hp := fieldLe_patch_same (bs := patch d 8 (toLe (BitVec.ofNat 16 len) 2)) (p := toLe (flagsBack d err ts) 2)
      (ofs := 10) (by omega)
    rw [hf] at hp
    rw [hp, fieldLe_toLe_of_le _ (by decide), BitVec.ofNat_toNat, BitVec.setWidth_eq]
    exact flagsBack_own d err ts
  have hd : descBack e d len err ts = if ts then
      patch (patch (patch (patch d 8 (toLe (BitVec.ofNat 16 len) 2)) 10 (toLe (flagsBack d err ts) 2)) 16
        (toLe e.ptpSec 6)) 22 (toLe (BitVec.ofNat 32 e.ptpNs) 4)
      else patch (patch d 8 (toLe (BitVec.ofNat 16 len) 2)) 10 (toLe (flagsBack d err ts) 2) := rfl
  rw [hd]
  generalize patch (patch d 8 (toLe (BitVec.ofNat 16 len) 2)) 10 (toLe (flagsBack d err ts) 2) = x at *
  have a3 : (patch x 16 (toLe e.ptpSec 6)).length = 32 := (patch_length (by omega)).trans a2
  split
  · refine ⟨(patch_length (by omega)).trans a3, ?_, ?_⟩
    · rw [fieldLe_patch_before (by omega) (by omega), fieldLe_patch_before (by omega) (by omega), b1]
    · rw [fieldLe_patch_before (by omega) (by omega), fieldLe_patch_before (by omega) (by omega), b2]
  · exact ⟨a2, b1, b2⟩

/-! ## I/O-coherent writes where no line is dirty (R388) -/

theorem Mem.writeAll_append (m : Mem) (a : Nat) (xs ys : List Byte) :
    m.writeAll a (xs ++ ys) = (m.writeAll a xs).writeAll (a + xs.length) ys := by
  induction xs generalizing m a with
  | nil => rfl
  | cons x xs ih =>
    rw [List.cons_append, Mem.writeAll, Mem.writeAll, ih, List.length_cons]
    congr 1
    omega

theorem Mem.readAll_writeAll_other {m : Mem} {a b n : Nat} {bs : List Byte} (h : b + n ≤ a ∨ a + bs.length ≤ b) :
    (m.writeAll a bs).readAll b n = m.readAll b n := by
  induction n generalizing b with
  | zero => rfl
  | succ n ih => rw [Mem.readAll, Mem.readAll, ih (by omega), Mem.read_writeAll_other (by omega)]

/-- No line is newer in a cache than in memory. -/
def AllClean (s : State) : Prop := ∀ line, lineDirty s line = false

/-- From s to t the bytes `bs` have gone into memory at `a`, and caches have lost lines at most. -/
def WrittenClean (a : Nat) (bs : List Byte) (s t : State) : Prop :=
  t.mem = s.mem.writeAll a bs ∧ AllClean t ∧ LineOnly s t

theorem AllClean.dropLine {s : State} (h : AllClean s) (line : Nat) : AllClean (dropLine line s) := by
  intro l
  by_cases e : l = line
  · rw [e]
    exact lineDirty_dropLine_self line s
  · exact (lineDirty_dropLine_other e s).trans (h l)

theorem ioWriteLine_clean {s : State} (h : AllClean s) (a : Nat) (bs : List Byte) :
    WrittenClean a bs s (ioWriteLine a bs s) := by
  have hw : writeBack (a / 64) s = s := if_neg fun e => Bool.false_ne_true ((h _).symm.trans e)
  unfold ioWriteLine
  rw [hw]
  exact ⟨rfl, h.dropLine (a / 64), rfl⟩

theorem ioWriteFuel_clean {k a : Nat} {bs : List Byte} {s : State} (h : AllClean s) (hk : bs.length < k) :
    WrittenClean a bs s (ioWriteFuel k a bs s) := by
  induction k generalizing a bs s with
  | zero => exact absurd hk (Nat.not_lt_zero _)
  | succ k ih =>
    unfold ioWriteFuel
    cases bs with
    | nil => exact ⟨rfl, h, LineOnly.refl s⟩
    | cons b bs =>
      have h64 := Nat.mod_lt a (show 64 > 0 by decide)
      obtain ⟨hm, hc, ho⟩ := ioWriteLine_clean h a ((b :: bs).take (64 - a % 64))
      obtain ⟨im, ic, io⟩ := ih (a := a + (64 - a % 64)) (bs := (b :: bs).drop (64 - a % 64)) hc (by
        rw [List.length_drop, List.length_cons]
        rw [List.length_cons] at hk
        omega)
      refine ⟨?_, ic, LineOnly.trans ho io⟩
      have hall : s.mem.writeAll a (b :: bs) = (s.mem.writeAll a ((b :: bs).take (64 - a % 64))).writeAll
          (a + (64 - a % 64)) ((b :: bs).drop (64 - a % 64)) := by
        by_cases hl : 64 - a % 64 ≤ (b :: bs).length
        · have hlen : ((b :: bs).take (64 - a % 64)).length = 64 - a % 64 := by
            rw [List.length_take, Nat.min_eq_left hl]
          have hp := Mem.writeAll_append s.mem a ((b :: bs).take (64 - a % 64)) ((b :: bs).drop (64 - a % 64))
          rw [List.take_append_drop, hlen] at hp
          exact hp
        · rw [List.take_of_length_le (by omega), List.drop_eq_nil_of_le (by omega)]
          rfl
      rw [hall, ← hm]
      exact im

theorem ioWrite_clean {s : State} (h : AllClean s) (a : Nat) (bs : List Byte) : WrittenClean a bs s (ioWrite a bs s) :=
  ioWriteFuel_clean h (Nat.lt_succ_self _)

theorem ioRead_length (s : State) (a n : Nat) : (ioRead s a n).length = n := by
  rw [ioRead, List.length_map, List.length_range]

/-! ## The transmit ring (R474) -/

theorem ethTx_waits {i : Fin 2} {s : State} (h : s.eth[i].txRun = false ∨ s.eth[i].txHead = s.eth[i].txTail ∨
    ethUp s i = false ∨ etxRuns s = false ∨ paused s s.eth[i] = true) : ethTx i s = s := by
  refine if_pos ?_
  rcases h with h | h | h | h | h
  · rw [h]
    rfl
  · rw [decide_eq_true h, Bool.or_true]
  · rw [h, Bool.and_false]
    rfl
  · rw [h, Bool.and_false]
    rfl
  · rw [h, Bool.or_true]
    rfl

/-- The MAC once the frame of its descriptor at HEAD is sent. -/
def txSent (i : Fin 2) (s : State) (fl : BitVec 16) (d bs : List Byte) (e : Eth) : Eth :=
  { e with
    txHead := ringNext e.txSize e.txHead, events := e.events ||| 2
    sent := txFrame s.eth[i] (s.eth[i].ptpValid && ptpRuns s i) fl (fieldLe d 12 2) bs }

theorem ethTx_sends {i : Fin 2} {a buf len : Nat} {fl : BitVec 16} {s : State} (hr : s.eth[i].txRun = true)
    (hu : ethUp s i = true) (he : etxRuns s = true) (hp : paused s s.eth[i] = false) (ht : s.eth[i].txHead ≠ s.eth[i].txTail)
    (ha : a = s.eth[i].txBase.toNat + 32 * s.eth[i].txHead.toNat) (hra : ethReach s a 32 = true)
    (hfl : fl = BitVec.ofNat 16 (fieldLe (ioRead s a 32) 10 2)) (hlen : len = fieldLe (ioRead s a 32) 8 2)
    (hbuf : buf = fieldLe (ioRead s a 32) 0 5) (ho : fl.getLsbD 0 = true) (h1 : 14 ≤ len) (h2 : len ≤ 1518)
    (hrb : ethReach s buf len = true) : ∃ ts, ethTx i s = ethMod i (txSent i s fl (ioRead s a 32) (ioRead s buf len))
      (ioWrite a (descBack s.eth[i] (ioRead s a 32) len false ts) s) := by
  have hg : (!(s.eth[i].txRun && ethUp s i && etxRuns s) || paused s s.eth[i] ||
      decide (s.eth[i].txHead = s.eth[i].txTail)) = false := by
    rw [hr, hu, he, hp, decide_eq_false ht]
    rfl
  refine ⟨fl.getLsbD 1 && (s.eth[i].ptpValid && ptpRuns s i), ?_⟩
  unfold ethTx
  dsimp only
  rw [if_neg fun x => Bool.false_ne_true (hg.symm.trans x), ← ha,
    if_neg fun x => Bool.false_ne_true (x.symm.trans hra), ← hfl, ← hlen, ← hbuf,
    if_neg fun x => Bool.false_ne_true (x.symm.trans ho), if_neg (by omega),
    if_neg fun x => Bool.false_ne_true (x.symm.trans hrb)]
  rfl

/-! ## The receive ring (R472, R474) -/

section
variable {i : Fin 2} {f : List Byte} {s : State}

theorem ethRx_shut {ok : Bool} (h : (s.eth[i].rxRun && ethUp s i) = false) : ethRx i f ok s = s :=
  if_pos (by rw [h]; rfl)

variable (hr : s.eth[i].rxRun = true) (hu : ethUp s i = true)
include hr hu

theorem ethRx_open (ok : Bool) : (!(s.eth[i].rxRun && ethUp s i)) ≠ true := by
  rw [hr, hu]
  decide

theorem ethRx_bad : ethRx i f false s = ethMod i (fun e => { e with fcsErr := e.fcsErr + 1 }) s := by
  unfold ethRx
  dsimp only
  rw [if_neg (ethRx_open hr hu false), if_pos (by decide)]

theorem ethRx_long (h : 1518 < f.length) : ethRx i f true s = ethMod i (fun e => { e with rxDrop := e.rxDrop + 1 }) s := by
  unfold ethRx
  dsimp only
  rw [if_neg (ethRx_open hr hu true), if_neg (by decide), if_pos (by omega)]

theorem ethRx_pause (h : f.length ≤ 1518) (hp : (s.eth[i].ctrl.getLsbD 7 && pauseFrame f) = true) :
    ethRx i f true s = ethMod i (pauseStart s.devtime f) s := by
  unfold ethRx
  dsimp only
  rw [if_neg (ethRx_open hr hu true), if_neg (by decide), if_neg (by omega), if_pos hp]

variable (h : f.length ≤ 1518) (hp : (s.eth[i].ctrl.getLsbD 7 && pauseFrame f) = false) (ha : addrPass s.eth[i] f = true)
include h hp ha

theorem ethRx_full (ht : s.eth[i].rxHead = s.eth[i].rxTail) :
    ethRx i f true s = ethMod i (fun e => { e with events := e.events ||| 4 }) s := by
  have ha' : (!addrPass s.eth[i] f) ≠ true := by
    rw [ha]
    decide
  unfold ethRx
  dsimp only
  rw [if_neg (ethRx_open hr hu true), if_neg (by decide), if_neg (by omega),
    if_neg fun x => Bool.false_ne_true (hp.symm.trans x), if_neg ha', if_pos ht]

theorem ethRx_stores {a buf : Nat} (ht : s.eth[i].rxHead ≠ s.eth[i].rxTail)
    (hd : a = s.eth[i].rxBase.toNat + 32 * s.eth[i].rxHead.toNat) (hra : ethReach s a 32 = true)
    (hbuf : buf = fieldLe (ioRead s a 32) 0 5) (ho : (BitVec.ofNat 16 (fieldLe (ioRead s a 32) 10 2)).getLsbD 0 = true)
    (hl : f.length ≤ fieldLe (ioRead s a 32) 8 2) (hrb : ethReach s buf f.length = true) :
    ∃ ts, ethRx i f true s =
      ethMod i (fun e => { e with rxHead := ringNext e.rxSize e.rxHead, events := e.events ||| 1 })
        (ioWrite a (descBack s.eth[i] (ioRead s a 32) f.length false ts) (ioWrite buf f s)) := by
  have ha' : (!addrPass s.eth[i] f) ≠ true := by
    rw [ha]
    decide
  refine ⟨s.eth[i].ptpValid && ptpRuns s i, ?_⟩
  unfold ethRx
  dsimp only
  rw [if_neg (ethRx_open hr hu true), if_neg (by decide), if_neg (by omega),
    if_neg fun x => Bool.false_ne_true (hp.symm.trans x), if_neg ha', if_neg ht, ← hd,
    if_neg fun x => Bool.false_ne_true (x.symm.trans hra), ← hbuf,
    if_neg fun x => Bool.false_ne_true (x.symm.trans ho), if_neg (by omega),
    if_neg fun x => Bool.false_ne_true (x.symm.trans hrb)]

end

/-! ## Bus errors (R485) -/

/-- A MAC whose ring has got an error response. -/
def busFailed (rx : Bool) (e e' : Eth) : Prop :=
  e'.events = e.events ||| 8 ∧ e'.txRun = (e.txRun && rx) ∧ e'.rxRun = (e.rxRun && !rx)

theorem ethBusFail_facts {i : Fin 2} {rx abort : Bool} {addr : Nat} {s : State} (h : Mild 0x60 s) :
    Stands 0x60 (ethBusFail i rx abort addr s) ∧ (ethBusFail i rx abort addr s).hub.feValid = true ∧
      (ethBusFail i rx abort addr s).counters = s.counters ∧ MemSame s (ethBusFail i rx abort addr s) ∧
      busFailed rx s.eth[i] (ethBusFail i rx abort addr s).eth[i] := by
  unfold ethBusFail
  dsimp only
  generalize hx : ethMod i _ s = x
  have hm : Mild 0x60 x := by
    rw [← hx]
    exact h
  have hc : x.counters = s.counters := by
    rw [← hx]
    rfl
  have hmem : x.mem = s.mem := by
    rw [← hx]
    rfl
  have he : busFailed rx s.eth[i] x.eth[i] := by
    rw [← hx, ethMod_eq rfl]
    dsimp only
    rw [getElem_set_fin]
    exact ⟨rfl, rfl, rfl⟩
  generalize ({ master := .eth i, addr := BitVec.ofNat 40 addr, kind := 0, size := 6 } : Access) = acc
  generalize (if cacheable (addr / 64) then ErrSource.target else ErrSource.firewall) = src
  have ho := errorResponse_hubOnly (a := acc) (src := src) hm
  have hv := (errorResponse_captured (a := acc) (src := src) hm).valid
  have hst := errorResponse_stands acc src x
  generalize errorResponse acc src x = y at *
  have hy : y.eth = x.eth := by rw [ho]
  refine ⟨hst, hv, ho.counters.trans hc, fun a => (ho.memSame a).trans (congrArg (Mem.read · a) hmem), ?_⟩
  rw [hy]
  exact he

/-! ## The settling of O52 -/

/-- Settles O52: ETH_CTRL, the rings at their HEAD (`ethTx_sends`, `ethRx_stores`, with `descBack_fields` and `ioWrite_clean`),
and bus errors (`ethBusFail_facts`). -/
theorem ringsCarryFrames : Obligations.RingsCarryFrames := by
  unfold Obligations.RingsCarryFrames
  refine ⟨fun m i v s hg => ?_, fun i s h => ?_, fun i a buf len fl s hs hc hr hu he hp ht ha hra hfl hlen hbuf ho h1 h2 hrb => ?_,
    fun i f s hr hu => ?_, fun i f s hr hu hl => ?_, fun i f s hr hu hl h7 hp => ?_, fun i f s hr hu hl hp ha ht => ?_,
    fun i f ok s h => ?_, fun i f a buf s hs hc hr hu hl1 hl hp hpass ht ha hra hbuf ho hd hrb hdis => ?_,
    fun i s hr hu hm => ?_, fun i s hr hu hm => ?_, fun i rx s h => ?_⟩
  · have hx := (exec_of_eth (r := .ethCtrlWrite m i v) rfl hg).trans (congrArg Host.Outcome.next (ethMod_eq rfl))
    refine ⟨_, hx, ?_⟩
    dsimp only
    rw [getElem_set_fin]
    refine ⟨rfl, fun hv hc => ?_, fun hv hc => ?_, fun hv => ?_, fun hv hc => ?_, fun hv hc => ?_, fun hv => ?_⟩
    · rw [hv, hc]
      exact ⟨Bool.or_true _, rfl⟩
    · rw [hv, hc]
      exact ⟨Bool.or_false _, rfl⟩
    · rw [hv]
      rfl
    · rw [hv, hc]
      exact ⟨Bool.or_true _, rfl⟩
    · rw [hv, hc]
      exact ⟨Bool.or_false _, rfl⟩
    · rw [hv]
      rfl
  · exact congrArg Host.Outcome.next (ethTx_waits h)
  · obtain ⟨ts, hx⟩ := ethTx_sends hr hu he hp ht ha hra hfl hlen hbuf ho h1 h2 hrb
    obtain ⟨dl, d8, d10⟩ := descBack_fields (e := s.eth[i]) (d := ioRead s a 32) (len := len) false ts (ioRead_length ..)
      (by omega)
    obtain ⟨hm, -, hon⟩ := ioWrite_clean hc a (descBack s.eth[i] (ioRead s a 32) len false ts)
    generalize descBack s.eth[i] (ioRead s a 32) len false ts = D at *
    generalize ioWrite a D s = y at *
    have hback : y.mem.readAll a 32 = D := by
      rw [hm, ← dl]
      exact Mem.readAll_writeAll hs
    have heth : y.eth = s.eth := by rw [hon]
    have hx' : ethTx i s = { y with eth := s.eth.set i (txSent i s fl (ioRead s a 32) (ioRead s buf len) s.eth[i]) } := by
      rw [hx, ethMod_eq rfl, heth]
    refine ⟨_, congrArg Host.Outcome.next hx', ?_, fun x hxa => ?_, ?_, ?_, rfl⟩
    · rw [hon]
    · exact (congrArg (Mem.read · x) hm).trans (Mem.read_writeAll_other (by rw [dl]; exact hxa))
    · dsimp only
      rw [hback]
      exact d10
    · dsimp only
      rw [hback]
      exact d8
  · exact congrArg Host.Outcome.next ((ethRx_bad hr hu).trans (ethMod_eq rfl))
  · exact congrArg Host.Outcome.next ((ethRx_long hr hu hl).trans (ethMod_eq rfl))
  · exact congrArg Host.Outcome.next
      ((ethRx_pause hr hu hl (by rw [h7, hp]; rfl)).trans (ethMod_eq rfl))
  · exact congrArg Host.Outcome.next ((ethRx_full hr hu hl hp ha ht).trans (ethMod_eq rfl))
  · refine congrArg Host.Outcome.next (ethRx_shut ?_)
    rcases h with h | h
    · rw [h, Bool.false_and]
    · rw [h, Bool.and_false]
  · obtain ⟨ts, hx⟩ := ethRx_stores hr hu hl hp hpass ht ha hra hbuf ho hd hrb
    obtain ⟨dl, d8, d10⟩ := descBack_fields (e := s.eth[i]) (d := ioRead s a 32) (len := f.length) false ts
      (ioRead_length ..) (by omega)
    obtain ⟨hm, hc', hon⟩ := ioWrite_clean hc buf f
    generalize descBack s.eth[i] (ioRead s a 32) f.length false ts = D at *
    generalize ioWrite buf f s = y at *
    obtain ⟨hm2, -, hon2⟩ := ioWrite_clean hc' a D
    generalize ioWrite a D y = z at *
    have hwf : y.mem.wf = true := by
      rw [hm]
      exact Mem.writeAll_wf hs
    have hback : z.mem.readAll a 32 = D := by
      rw [hm2, ← dl]
      exact Mem.readAll_writeAll hwf
    have hall := LineOnly.trans hon hon2
    have heth : z.eth = s.eth := by rw [hall]
    have hx' : ethRx i f true s = { z with eth := s.eth.set i { s.eth[i] with
        rxHead := ringNext s.eth[i].rxSize s.eth[i].rxHead, events := s.eth[i].events ||| 1 } } := by
      rw [hx, ethMod_eq rfl, heth]
    refine ⟨_, congrArg Host.Outcome.next hx', ?_, ?_, ?_, ?_, fun x h1 h2 => ?_, rfl⟩
    · rw [hall]
    · dsimp only
      rw [hm2, Mem.readAll_writeAll_other (by rw [dl]; exact hdis), hm]
      exact Mem.readAll_writeAll hs
    · dsimp only
      rw [hback]
      exact d8
    · dsimp only
      rw [hback]
      exact d10
    · have hz : z.mem.read x = y.mem.read x := by
        rw [hm2]
        exact Mem.read_writeAll_other (by rw [dl]; exact h1)
      exact hz.trans ((congrArg (Mem.read · x) hm).trans (Mem.read_writeAll_other h2))
  · have hx : exec (.ethBusError i false) s = .next (ethBusFail i false (takeBit s).1
        (s.eth[i].txBase.toNat + 32 * s.eth[i].txHead.toNat) (takeBit s).2) :=
      if_pos (by rw [hu, Bool.and_true]; exact hr)
    obtain ⟨f1, f2, f3, f4, g1, g2, g3⟩ := ethBusFail_facts (i := i) (rx := false) (abort := (takeBit s).1)
      (addr := s.eth[i].txBase.toNat + 32 * s.eth[i].txHead.toNat) (s := (takeBit s).2) hm
    exact ⟨_, hx, f1, g2.trans (Bool.and_false _), g3.trans (Bool.and_true _), g1, f2, f3, f4⟩
  · have hx : exec (.ethBusError i true) s = .next (ethBusFail i true (takeBit s).1
        (s.eth[i].rxBase.toNat + 32 * s.eth[i].rxHead.toNat) (takeBit s).2) :=
      if_pos (by rw [hu, Bool.and_true]; exact hr)
    obtain ⟨f1, -, f3, f4, g1, g2, g3⟩ := ethBusFail_facts (i := i) (rx := true) (abort := (takeBit s).1)
      (addr := s.eth[i].rxBase.toNat + 32 * s.eth[i].rxHead.toNat) (s := (takeBit s).2) hm
    exact ⟨_, hx, f1, g3.trans (Bool.and_false _), g2.trans (Bool.and_true _), g1, f3, f4⟩
  · exact if_neg fun e => Bool.false_ne_true (h.symm.trans e)

end Sys2Proof.Machine
end

section
/-! The loop engine's schedule and laws, and the heaters' periods (R270, R315-R328), and the settling of O33. -/

namespace Sys2Proof.Machine

/-- A granted write of the loop engine's bank has the register's effect. -/
theorem exec_of_loopeng {i : Instr} {m : Master} {o : Nat} {v : Word} {s : State}
    (hi : exec i s = .next (regWrite m 0x19 o v s)) (h : Granted m 0x19 o v s) : exec i s = .next (writeLoopeng o v s) :=
  exec_of_granted hi h (by decide)

/-! ## The schedule (R315-R317) -/

theorem leCommit_refuses {s : State} (h : 1024 < loopUtil s.loops.loops) :
    leCommit s = { s with loops := { s.loops with reject := true } } := if_pos h

theorem leCommit_commits {s : State} (h : loopUtil s.loops.loops ≤ 1024) : ∃ ls : Vector Loop 32,
    leCommit s = { s with loops := { s.loops with
      util := BitVec.ofNat 11 (loopUtil s.loops.loops), applyDue := true, loops := ls } } ∧
    ∀ n : Fin 32, ∃ ph, ls[n] = { s.loops.loops[n] with
      comEn := s.loops.loops[n].en, comPlog := s.loops.loops[n].plog, phase := ph } :=
  ⟨_, if_neg (Nat.not_lt.mpr h), fun _ => ⟨_, Vector.getElem_ofFn ..⟩⟩

/-- A loop as the committed schedule takes effect. -/
def schedTaken (l : Loop) : Loop :=
  if l.actEn = l.comEn then { l with actEn := l.comEn, actPlog := l.comPlog }
  else loopFresh { l with actEn := l.comEn, actPlog := l.comPlog }

theorem schedTaken_facts (l : Loop) : (schedTaken l).actEn = l.comEn ∧ (schedTaken l).actPlog = l.comPlog ∧
    (l.actEn ≠ l.comEn → (schedTaken l).out = false) ∧ (l.actEn = l.comEn → (schedTaken l).out = l.out) := by
  unfold schedTaken
  split
  · next h => exact ⟨rfl, rfl, fun x => absurd h x, fun _ => rfl⟩
  · next h => exact ⟨rfl, rfl, fun _ => rfl, fun x => absurd x h⟩

theorem schedApply_applies {s : State} (h : s.loops.applyDue = true) : ∃ g f c, schedApply s = { s with
    loops := { s.loops with applyDue := false, loops := s.loops.loops.map schedTaken }
    gpio := g, fuser := f, freeCtr := c } := by
  unfold schedApply
  rw [if_pos h]
  dsimp only
  have hw := withEdges_frame 1 (fun s => { s with loops := { s.loops with
    applyDue := false, loops := s.loops.loops.map schedTaken } }) s
  have hx : withEdges 1 (fun s => { s with loops := { s.loops with
    applyDue := false, loops := s.loops.loops.map fun l =>
      if l.actEn = l.comEn then { l with actEn := l.comEn, actPlog := l.comPlog }
      else loopFresh { l with actEn := l.comEn, actPlog := l.comPlog } } }) s = _ := hw
  rw [hx]
  obtain ⟨f1, c1, e1, -⟩ := heaterFollow_frame 1 { s with
    loops := { s.loops with applyDue := false, loops := s.loops.loops.map schedTaken }
    gpio := s.gpio.set 1 { s.gpio[1] with evt := (withEdges 1 (fun s => { s with loops := { s.loops with
      applyDue := false, loops := s.loops.loops.map schedTaken } }) s).gpio[1].evt } }
  obtain ⟨f0, c0, e0, -⟩ := heaterFollow_frame 0 (heaterFollow 1 { s with
    loops := { s.loops with applyDue := false, loops := s.loops.loops.map schedTaken }
    gpio := s.gpio.set 1 { s.gpio[1] with evt := (withEdges 1 (fun s => { s with loops := { s.loops with
      applyDue := false, loops := s.loops.loops.map schedTaken } }) s).gpio[1].evt } })
  exact ⟨_, _, _, e0.trans (by rw [e1])⟩

/-! ## The law of an on/off loop (R318, R319, R322) -/

/-- A sample of a general loop with a valid value. -/
theorem onOffSample_valid (t : BitVec 64) (v : Word) (l : Loop) :
    (onOffSample t true true v l).stale = false ∧ (onOffSample t true true v l).value = v ∧
    (onOffSample t true true v l).out = (if l.dwellRun then l.out else lawWants true (zoneOf v l) l) ∧
    ((onOffSample t true true v l).out ≠ l.out → (onOffSample t true true v l).dwellRun = (l.dwell != 0)) := by
  unfold onOffSample
  rw [if_pos rfl]
  dsimp only
  by_cases hd : l.dwellRun = true
  · rw [if_neg fun x => Bool.false_ne_true (x.2.symm.trans hd), if_pos hd]
    exact ⟨rfl, rfl, rfl, fun x => absurd rfl x⟩
  · rw [if_neg hd]
    by_cases hw : lawWants true (zoneOf v l) l = l.out
    · rw [if_neg fun x => x.1 hw]
      exact ⟨rfl, rfl, hw.symm, fun x => absurd rfl x⟩
    · rw [if_pos ⟨hw, Bool.eq_false_iff.mpr hd⟩]
      exact ⟨rfl, rfl, rfl, fun _ => rfl⟩

/-- A sample with a value that is not valid. -/
theorem onOffSample_invalid (t : BitVec 64) (g : Bool) (v : Word) (l : Loop) :
    (onOffSample t g false v l).stale = true ∧ (onOffSample t g false v l).out = false ∧
    (onOffSample t g false v l).value = l.value := by
  unfold onOffSample
  rw [if_neg (by decide)]
  by_cases h : l.out = true
  · rw [if_pos h]
    exact ⟨rfl, rfl, rfl⟩
  · rw [if_neg h]
    exact ⟨rfl, Bool.eq_false_iff.mpr h, rfl⟩

theorem loopSample_off {n : Fin 32} {s : State}
    (h : s.loops.en = false ∨ s.loops.loops[n].actEn = false ∨ domOn s 30 = false) : loopSample n s = s := by
  refine if_neg fun e => ?_
  rw [Bool.and_eq_true, Bool.and_eq_true] at e
  obtain ⟨⟨h1, h2⟩, h3⟩ := e
  rcases h with h | h | h
  · exact Bool.false_ne_true (h.symm.trans h1)
  · exact Bool.false_ne_true (h.symm.trans h2)
  · exact Bool.false_ne_true (h.symm.trans h3)

/-- A general loop's sample changes the loop, and with it edge events of bank 1. -/
theorem loopSample_general {n : Fin 32} {b : Bool} {s : State} (hn : 9 ≤ n.val) (he : s.loops.en = true)
    (ha : s.loops.loops[n].actEn = true) (hd : domOn s 30 = true) (hi : s.loops.loops[n].insel.toNat < 36)
    (hv : s.adc.valid.getLsbD s.loops.loops[n].insel.toNat = b) : ∃ g, loopSample n s = { s with
      loops := { s.loops with loops := s.loops.loops.set n (onOffSample s.devtime true b
        (s.adc.val[s.loops.loops[n].insel.toNat]?.getD 0) s.loops.loops[n]) }
      gpio := g } := by
  have hg : (s.loops.en && s.loops.loops[n].actEn && domOn s 30) = true := by
    rw [he, ha, hd]
    rfl
  unfold loopSample
  dsimp only
  rw [if_pos hg, Nat.mod_eq_of_lt hi, hv, if_neg (by omega), if_neg (by omega), if_neg (by omega), decide_eq_true hn]
  exact ⟨_, withEdges_frame 1 (loopMod n (onOffSample s.devtime true b
    (s.adc.val[s.loops.loops[n].insel.toNat]?.getD 0))) s⟩

/-! ## The law of an APC loop (R270, R318) -/

theorem driveNow_le (s : State) (b : Fin 4) : driveNow s b ≤ (ceilOf s b).toNat := Nat.min_le_right _ _

theorem driveNow_within {s : State} {b : Fin 4} (h : s.beam.ld[b].drive.toNat ≤ (ceilOf s b).toNat) :
    driveNow s b = s.beam.ld[b].drive.toNat := Nat.min_eq_left h

/-- What an APC sample may do to its beam: drive and the mark of a new monitor sample, the drive within the ceiling. -/
def ApcDone (b : Fin 4) (s t : State) : Prop :=
  t = { s with loops := t.loops, beam := { s.beam with ld := s.beam.ld.set b { s.beam.ld[b] with
    drive := t.beam.ld[b].drive, monNew := t.beam.ld[b].monNew } } } ∧
  t.beam.ld[b].drive.toNat ≤ (ceilOf s b).toNat

theorem ApcDone.of_loops {b : Fin 4} {s t : State} (l : LoopEng) (h : s.beam.ld[b].drive.toNat ≤ (ceilOf s b).toNat)
    (e : t = { s with loops := l }) : ApcDone b s t := by
  have hb : s.beam.ld.set b s.beam.ld[b] = s.beam.ld := Vector.set_getElem_self _
  rw [e]
  refine ⟨?_, h⟩
  dsimp only
  rw [hb]

/-- The drive that an APC step gives. -/
def apcDrive (z : BitVec 2) (now step ceil : Nat) : Nat :=
  if z = 1 then min (now + step) ceil else if z = 2 then now - step else now

theorem apcDrive_le {z : BitVec 2} {now step ceil : Nat} (h : now ≤ ceil) : apcDrive z now step ceil ≤ ceil := by
  unfold apcDrive
  split
  · exact Nat.min_le_right _ _
  · split
    · exact (Nat.sub_le _ _).trans h
    · exact h

theorem toNat_drive {d : Nat} {c : BitVec 11} (h : d ≤ c.toNat) : (BitVec.ofNat 11 d).toNat = d := by
  rw [BitVec.toNat_ofNat, Nat.mod_eq_of_lt (lt_of_le_of_lt h c.isLt)]

/-- An APC step on a new monitor sample. -/
theorem apcSample_steps {b : Fin 4} {s : State} (hm : s.beam.ld[b].monNew = true) (hs : s.beam.sync ≠ .idle) :
    ∃ l, apcSample b true s = { s with
      loops := l
      beam := { s.beam with ld := s.beam.ld.set b { s.beam.ld[b] with
        drive := BitVec.ofNat 11 (apcDrive (zoneOf (s.beam.ld[b].mon.setWidth 32) s.loops.loops[Fin.ofNat 32 (5 + b.val)])
          (driveNow s b) s.beam.ld[b].step.toNat (ceilOf s b).toNat)
        monNew := false } } } := by
  have hg : (s.beam.ld[b].monNew && decide (s.beam.sync ≠ .idle)) = true := by
    rw [hm, decide_eq_true hs]
    rfl
  unfold apcSample
  dsimp only
  rw [if_neg (by decide), if_pos hg]
  exact ⟨_, rfl⟩

theorem apcSample_rests {b : Fin 4} {v : Bool} {s : State}
    (h : v = false ∨ s.beam.ld[b].monNew = false ∨ s.beam.sync = .idle) :
    ∃ l, apcSample b v s = { s with loops := l } := by
  unfold apcSample
  dsimp only
  split
  · exact ⟨_, rfl⟩
  · next hv =>
    have hg : (s.beam.ld[b].monNew && decide (s.beam.sync ≠ .idle)) = false := by
      rcases h with h | h | h
      · rw [h] at hv
        exact absurd rfl hv
      · rw [h, Bool.false_and]
      · rw [decide_eq_false (not_not_intro h), Bool.and_false]
    rw [if_neg fun x => Bool.false_ne_true (hg.symm.trans x)]
    exact ⟨_, rfl⟩

theorem beamOf_slot (b : Fin 4) : Fin.ofNat 4 ((Fin.ofNat 32 (5 + b.val)).val - 5) = b := by
  revert b
  decide

/-- The slot of beam b's loop. -/
theorem loopSample_apc {b : Fin 4} {s : State} (he : s.loops.en = true)
    (ha : s.loops.loops[Fin.ofNat 32 (5 + b.val)].actEn = true) (hd : domOn s 30 = true) :
    loopSample (Fin.ofNat 32 (5 + b.val)) s =
      apcSample b (s.adc.valid.getLsbD (s.loops.loops[Fin.ofNat 32 (5 + b.val)].insel.toNat % 36)) s := by
  have hn : (Fin.ofNat 32 (5 + b.val)).val = 5 + b.val := by
    have := b.isLt
    exact Nat.mod_eq_of_lt (by omega)
  have hg : (s.loops.en && s.loops.loops[Fin.ofNat 32 (5 + b.val)].actEn && domOn s 30) = true := by
    rw [he, ha, hd]
    rfl
  have := b.isLt
  unfold loopSample
  dsimp only
  rw [if_pos hg, if_pos (by omega), beamOf_slot]

/-! ## The heaters (R325-R328) -/

theorem heaterEnd_ends {h : Fin 2} {mean : BitVec 16} {s : State} (ho : s.fuser.htr[h].on = true) :
    heaterEnd h mean s = { s with fuser := { s.fuser with
      htr := s.fuser.htr.set h { s.fuser.htr[h] with on := false, ilast := mean } } } := if_pos ho

/-! ## The settling of O33 -/

/-- Settles O33: the schedule is committed and takes effect at the frame (`leCommit_commits`, `schedApply_applies`), the loops
follow their laws (`onOffSample_valid`, `apcDrive_le`), and the heaters their periods. -/
theorem loopsAndHeatersRun : Obligations.LoopsAndHeatersRun := by
  unfold Obligations.LoopsAndHeatersRun
  refine ⟨⟨fun m s hg h => ?_, fun m s hg h => ?_, fun s h => ?_, fun s h => ?_, fun n s => rfl⟩,
    ⟨fun n s hn he ha hd hi hv => ?_, fun n s hn he ha hd hi hv => ?_, fun b s hc => ?_, fun n s h => ?_⟩,
    fun h s => ?_, fun h mean s ho => ?_, fun h mean s ho => ?_⟩
  · exact (exec_of_loopeng (i := .leCommitGo m) rfl hg).trans (congrArg Host.Outcome.next (leCommit_refuses h))
  · obtain ⟨ls, e, hl⟩ := leCommit_commits h
    refine ⟨_, (exec_of_loopeng (i := .leCommitGo m) rfl hg).trans (congrArg Host.Outcome.next e), rfl, rfl, ?_, rfl,
      fun n => ?_⟩
    · exact (BitVec.toNat_ofNat ..).trans (Nat.mod_eq_of_lt (by omega))
    · obtain ⟨ph, hn⟩ := hl n
      dsimp only
      rw [hn]
      exact ⟨rfl, rfl, rfl, rfl⟩
  · exact congrArg Host.Outcome.next (if_neg fun e => Bool.false_ne_true (h.symm.trans e))
  · obtain ⟨g, f, c, e⟩ := schedApply_applies h
    refine ⟨_, congrArg Host.Outcome.next e, rfl, rfl, fun n => ?_⟩
    have hn : (s.loops.loops.map schedTaken)[n] = schedTaken s.loops.loops[n] := Vector.getElem_map ..
    dsimp only
    rw [hn]
    exact schedTaken_facts _
  · obtain ⟨g, e⟩ := loopSample_general hn he ha hd hi hv
    refine ⟨_, congrArg Host.Outcome.next e, rfl, fun k hk => ?_, ?_⟩
    · exact vmod_other s.loops.loops n k (fun _ => _) hk
    · dsimp only
      rw [getElem_set_fin]
      exact onOffSample_valid _ _ _
  · obtain ⟨g, e⟩ := loopSample_general hn he ha hd hi hv
    refine ⟨_, congrArg Host.Outcome.next e, rfl, ?_⟩
    dsimp only
    rw [getElem_set_fin]
    exact onOffSample_invalid _ _ _ _
  · by_cases hrun : s.loops.en = true ∧ s.loops.loops[Fin.ofNat 32 (5 + b.val)].actEn = true ∧ domOn s 30 = true
    · obtain ⟨he, ha, hd⟩ := hrun
      have hx := loopSample_apc he ha hd
      by_cases hstep : s.adc.valid.getLsbD (s.loops.loops[Fin.ofNat 32 (5 + b.val)].insel.toNat % 36) = true ∧
          s.beam.ld[b].monNew = true ∧ s.beam.sync ≠ .idle
      · obtain ⟨hv, hm, hs⟩ := hstep
        obtain ⟨l, e⟩ := apcSample_steps hm hs
        rw [hv, e] at hx
        have hle := apcDrive_le (z := zoneOf (s.beam.ld[b].mon.setWidth 32) s.loops.loops[Fin.ofNat 32 (5 + b.val)])
          (step := s.beam.ld[b].step.toNat) (driveNow_le s b)
        refine ⟨_, congrArg Host.Outcome.next hx, ?_⟩
        dsimp only
        rw [getElem_set_fin]
        refine ⟨rfl, ?_, fun _ _ _ _ _ _ hz => ?_⟩
        · dsimp only
          rw [toNat_drive hle]
          exact hle
        · dsimp only
          rw [toNat_drive hle, apcDrive, if_pos hz, driveNow_within hc]
      · obtain ⟨l, e⟩ := apcSample_rests (b := b)
          (v := s.adc.valid.getLsbD (s.loops.loops[Fin.ofNat 32 (5 + b.val)].insel.toNat % 36)) (s := s) (by
          rw [not_and_or, not_and_or, Bool.not_eq_true, Bool.not_eq_true, not_not] at hstep
          exact hstep)
        have hdone := ApcDone.of_loops l hc (hx.trans e)
        exact ⟨_, rfl, hdone.1, hdone.2, fun _ _ _ hv hm hs => absurd ⟨hv, hm, hs⟩ hstep⟩
    · have hx : loopSample (Fin.ofNat 32 (5 + b.val)) s = s := loopSample_off (by
        rw [not_and_or, not_and_or, Bool.not_eq_true, Bool.not_eq_true, Bool.not_eq_true] at hrun
        exact hrun)
      have hdone := ApcDone.of_loops s.loops hc hx
      exact ⟨_, rfl, hdone.1, hdone.2, fun he ha hd => absurd ⟨he, ha, hd⟩ hrun⟩
  · exact congrArg Host.Outcome.next (loopSample_off h)
  · refine ⟨_, _, rfl, rfl, ?_, rfl, rfl, rfl⟩
    cases hd : s.fuser.htr[h].diagDuty with
    | none => rfl
    | some d => rfl
  · exact congrArg Host.Outcome.next (heaterEnd_ends ho)
  · exact congrArg Host.Outcome.next (if_neg fun e => Bool.false_ne_true (ho.symm.trans e))

end Sys2Proof.Machine
end

section
/-! The Steelyard's enable, forecast command, sensors and H-die comparator (R342-R347, R354, R357). -/

namespace Sys2Proof.Machine

/-- A granted write of the Steelyard's bank has the register's effect. -/
theorem exec_of_steelyard {i : Instr} {m : Master} {o : Nat} {v : Word} {s : State}
    (hi : exec i s = .next (regWrite m 0x1C o v s)) (h : Granted m 0x1C o v s) :
    exec i s = .next (writeSteelyard o v s) := exec_of_granted hi h (by decide)

/-- A condition that is set follows its source, and the hub alone changes. -/
theorem setCond_follows {f : Byte} {s : State} (b : Bool) (hf : (faultRow f.toNat 0).isSome = true) (he : f.toNat ≠ 0xE2)
    (h : Mild f s) : HubOnly s (setCond f b s) ∧ (setCond f b s).hub.present.getLsbD f.toNat = b := by
  cases b with
  | false => exact ⟨rfl, getLsbD_setBit_false _ _⟩
  | true =>
    by_cases hp : s.hub.present.getLsbD f.toNat = true
    · have e : setCond f true s = s := (if_pos rfl).trans (if_pos hp)
      rw [e]
      exact ⟨rfl, hp⟩
    · have hr : RaisedOnly f _ (setCond f true s) := setCond_rises hf (Bool.eq_false_iff.mpr hp) h
      exact ⟨hr.hubOnly, (hr.present he).trans (setBit_true_self f.isLt)⟩

/-! ## SY_CTRL and SY_FC_CMD (R342, R343, R354, R357) -/

theorem syCtrl_runs {v : Word} {s : State} (hv : v.getLsbD 0 = true) (hr : s.sy.run = true) : syCtrl v s = s := by
  rw [syCtrl, if_neg fun x => Bool.false_ne_true (x.symm.trans hv), if_pos hr]

theorem syCtrl_refuses {v : Word} {n : Fin 16} {s : State} (hv : v.getLsbD 0 = true) (hr : s.sy.run = false)
    (hn : unstableNode s.sy = some n) :
    syCtrl v s = { s with sy := { s.sy with unstable := true, failNode := BitVec.ofNat 4 n.val } } := by
  rw [syCtrl, if_neg fun x => Bool.false_ne_true (x.symm.trans hv), if_neg fun x => Bool.false_ne_true (hr.symm.trans x), hn]

/-- A stable model starts from its sensors, with the ceilings that stand. -/
theorem syCtrl_starts {v : Word} {s : State} (hv : v.getLsbD 0 = true) (hr : s.sy.run = false)
    (hn : unstableNode s.sy = none) : ∃ y, syCtrl v s = { s with sy := y } ∧ y.run = true ∧ y.unstable = false ∧
      (∀ i : Fin 16, y.nodes[i] = { s.sy.nodes[i] with temp := (startNode s i).1 }) ∧
      (∀ i : Fin 8, y.ts[i].disagree = false) ∧ ∀ i : Fin 12, y.thr[i].ceil = s.thrCopy[i] := by
  rw [syCtrl, if_neg fun x => Bool.false_ne_true (x.symm.trans hv), if_neg fun x => Bool.false_ne_true (hr.symm.trans x), hn]
  refine ⟨_, rfl, rfl, rfl, fun i => (Vector.getElem_ofFn ..).trans ?_, fun i => ?_, fun i => ?_⟩
  · have hs : (Vector.ofFn fun n : Fin 16 => startNode s n)[i] = startNode s i := Vector.getElem_ofFn ..
    exact congrArg (fun p : Int × Bool => { s.sy.nodes[i] with temp := p.1 }) hs
  · exact congrArg TsIn.disagree (Vector.getElem_map ..)
  · exact congrArg Throttle.ceil (Vector.getElem_ofFn ..)

theorem fcGo_arms {s : State} (hb : s.sy.fc.busy = false) (ht : fcTotal s.sy.fc ≤ 65535) :
    fcGo s = { s with sy := { s.sy with fc := { s.sy.fc with armed := true, done := false } } } := by
  refine if_neg ?_
  rintro (h | h)
  · exact Bool.false_ne_true (hb.symm.trans h)
  · exact absurd ht (Nat.not_le.mpr h)

/-! ## Sensors (R344-R346) -/

/-- A sensor after its sample, with the free rounding at `k`. -/
def tsTaken (t : TsIn) (v : Nat × Nat) (k : Nat) : TsIn :=
  match tsReading t v with
  | some r => { t with temp := r + (if Config.freeBit k then 1 else 0), valid := true }
  | none => { t with valid := false }

theorem tsTaken_facts (t : TsIn) (v : Nat × Nat) (k : Nat) : (tsTaken t v k).valid = (tsReading t v).isSome ∧
    ((tsTaken t v k).valid = false → (tsTaken t v k).temp = t.temp) := by
  unfold tsTaken
  cases tsReading t v with
  | none => exact ⟨rfl, fun _ => rfl⟩
  | some r => exact ⟨rfl, fun h => Bool.noConfusion h⟩

/-- The validity bits of the eight sensors beside the others. -/
theorem valid_bits (v : BitVec 36) (b : Nat → Bool) (i : Nat) (hi : i < 8) :
    ((List.range 8).foldl (fun v i => setBit v (18 + i) (b i)) v).getLsbD (18 + i) = b i := by
  have hmap : (List.range 8).foldl (fun v i => setBit v (18 + i) (b i)) v =
      ((List.range 8).map (18 + ·)).foldl (fun v j => setBit v j (b (j - 18))) v := by
    rw [List.foldl_map]
    simp only [Nat.add_sub_cancel_left]
  rw [hmap, getLsbD_foldl_setBit (fun j => b (j - 18)) (by decide),
    if_pos (List.mem_map.mpr ⟨i, List.mem_range.mpr hi, rfl⟩), Nat.add_sub_cancel_left]

/-- A sample of the sensors, before TS_OPEN follows. -/
theorem tsRead_takes (rs : List (Nat × Nat)) (s : State) : ∃ (new : Vector TsIn 8) (val : Vector Word 36),
    tsRead rs s = setCond 0xA2 (new.toList.any fun t => decide (tsType t ≠ 0) && !t.valid) { s with
      sy := { s.sy with ts := new }
      adc := { s.adc with
        val := val
        valid := (List.range 8).foldl (fun v i => setBit v (18 + i) (new[Fin.ofNat 8 i].valid)) s.adc.valid }
      freeCtr := s.freeCtr + 8 } ∧
    (∀ i : Fin 8, new[i] = tsTaken s.sy.ts[i] (rs.getD i.val (0, 0)) (s.freeCtr + i.val)) ∧
    ∀ j : Fin 36, (j.val < 18 ∨ 26 ≤ j.val) → val[j] = s.adc.val[j] := by
  refine ⟨_, _, rfl, fun i => Vector.getElem_ofFn .., fun j hj => ?_⟩
  exact (Vector.getElem_ofFn ..).trans (dif_neg fun ⟨h1, h2⟩ => by
    change 18 ≤ j.val at h1
    change j.val < 26 at h2
    omega)

theorem disagreeSet_sets {i : Fin 8} {s : State} (hr : s.sy.run = true) (h : 100 ≤ s.sy.ts[i].outRun) :
    disagreeSet i s = setCond 0xA1 true { s with sy := { s.sy with
      ts := s.sy.ts.set i { s.sy.ts[i] with disagree := true } } } := by
  have hany : (s.sy.ts.set i { s.sy.ts[i] with disagree := true }).toList.any (·.disagree) = true := by
    rw [List.any_eq_true]
    refine ⟨(s.sy.ts.set i { s.sy.ts[i] with disagree := true })[i], ?_, ?_⟩
    · exact Vector.mem_toList_iff.mpr (Vector.getElem_mem _)
    · rw [getElem_set_fin]
  unfold disagreeSet disagreeCond
  rw [if_pos ⟨hr, h⟩, vmod_eq_set rfl]
  dsimp only
  rw [hr, hany]
  rfl

theorem disagreeClear_clears {i : Fin 8} {s : State} (hr : s.sy.run = true) (h : 100 ≤ s.sy.ts[i].inRun)
    (hj : ∀ j : Fin 8, j ≠ i → s.sy.ts[j].disagree = false) :
    disagreeClear i s = setCond 0xA1 false { s with sy := { s.sy with
      ts := s.sy.ts.set i { s.sy.ts[i] with disagree := false } } } := by
  have hany : (s.sy.ts.set i { s.sy.ts[i] with disagree := false }).toList.any (·.disagree) = false := by
    rw [List.any_eq_false]
    intro x hx
    obtain ⟨k, hk, rfl⟩ := Vector.mem_iff_getElem.mp (Vector.mem_toList_iff.mp hx)
    by_cases e : i.val = k
    · subst e
      rw [Vector.getElem_set_self]
      exact Bool.false_ne_true
    · rw [Vector.getElem_set_ne _ _ e]
      exact Bool.eq_false_iff.mp (hj ⟨k, hk⟩ fun x => e (congrArg Fin.val x).symm)
  unfold disagreeClear disagreeCond
  rw [if_pos ⟨hr, h⟩, vmod_eq_set rfl]
  dsimp only
  rw [hany, Bool.and_false]

end Sys2Proof.Machine
end

section
/-! The Steelyard's evaluation (R339-R341, R347, R350, R354), and the settling of O34. -/

namespace Sys2Proof.Machine

/-! ## Throttling (R350, R351, R359) -/

/-- Nothing has changed but throttle targets, the docket's flags, the hub and the end of an admission, and a fault that took no
action takes none. -/
structure ThrOnly (s t : State) : Prop where
  frame : t = { s with
    sy := { s.sy with thr := t.sy.thr }
    docket := { s.docket with flags := t.docket.flags }
    hub := t.hub
    sinov := { s.sinov with admission := t.sinov.admission, admitWait := t.sinov.admitWait }
    till := { s.till with rsv := t.till.rsv } }
  mild : ∀ f, Mild f s → Mild f t

theorem ThrOnly.refl (s : State) : ThrOnly s s := ⟨rfl, fun _ => id⟩

theorem ThrOnly.trans {s t u : State} (h : ThrOnly s t) (k : ThrOnly t u) : ThrOnly s u := by
  refine ⟨?_, fun f x => k.mild f (h.mild f x)⟩
  rw [k.frame, h.frame]

/-- A change of the targets and the docket's flags. -/
theorem ThrOnly.of_eq {s : State} (th : Vector Throttle 12) (fl : BitVec 8) :
    ThrOnly s { s with sy := { s.sy with thr := th }, docket := { s.docket with flags := fl } } := ⟨rfl, fun _ => id⟩

theorem ThrOnly.of_raise {f : Byte} {s t : State} (h : RaisedOnly f s t) : ThrOnly s t := by
  refine ⟨?_, fun g x => Mild.after_raise x h⟩
  have e : t = { s with
    hub := t.hub
    sinov := { s.sinov with admission := t.sinov.admission, admitWait := t.sinov.admitWait }
    till := { s.till with rsv := t.till.rsv } } := h.hubOnly
  rw [e]

theorem thrEval_only {t : Fin 12} {s : State} (h : Mild 0xA4 s) : ThrOnly s (thrEval t s) := by
  unfold thrEval
  dsimp only
  split
  · split
    · split
      · exact ThrOnly.trans (.of_eq _ _) (.of_raise (raiseFault_mild (by decide) h))
      · exact ThrOnly.trans (.of_eq _ s.docket.flags) (.of_raise (raiseFault_mild (by decide) h))
    · exact .of_eq _ s.docket.flags
  · exact .refl s

theorem thrEvals_only (l : List (Fin 12)) {s : State} (h : Mild 0xA4 s) :
    ThrOnly s (l.foldl (fun s t => thrEval t s) s) := by
  induction l generalizing s with
  | nil => exact .refl s
  | cons t l ih => exact ThrOnly.trans (thrEval_only h) (ih ((thrEval_only h).mild _ h))

/-! ## The network (R339-R341) -/

theorem satTemp_bounds (t : Int) : -21474836 ≤ satTemp t ∧ satTemp t ≤ 21474181 := by
  unfold satTemp
  omega

/-- A node that is in use and not fixed stays within the format after a step. -/
theorem stepAll_bounds {y : Steelyard} {temps : Vector Int 16} {p : List Nat} {k : Nat} {n : Fin 16}
    (hu : nodeUsed y.nodes[n] = true) (hf : nodeFix y.nodes[n] = false) :
    -21474836 ≤ (stepAll y temps p k)[n] ∧ (stepAll y temps p k)[n] ≤ 21474181 := by
  have e : (stepAll y temps p k)[n] = stepNode y temps p k n := Vector.getElem_ofFn ..
  rw [e, stepNode, if_pos (by rw [hu, hf]; rfl)]
  exact satTemp_bounds _

/-- The powers of an evaluation. -/
def evalPowers (meas : List Nat) (s : State) : List Nat := (List.range 13).map fun i => srcPower s i (meas.getD i 0)

theorem evalPowers_get (meas : List Nat) (s : State) (i : Fin 13) :
    (evalPowers meas s).getD i.val 0 = srcPower s i.val (meas.getD i.val 0) := by
  have h : (evalPowers meas s)[i.val]? = some (srcPower s i.val (meas.getD i.val 0)) := by
    rw [evalPowers, List.getElem?_map, List.getElem?_range i.isLt]
    rfl
  rw [List.getD_eq_getElem?_getD, h]
  rfl

/-- What an evaluation makes of the model before the targets are judged. -/
structure Evaluated (meas : List Nat) (s : State) (y : Steelyard) : Prop where
  count : y.count = s.sy.count + 1
  run : y.run = s.sy.run
  fc : y.fc = s.sy.fc
  pnow : ∀ i : Fin 13, y.pnow[i] = BitVec.ofNat 32 (srcPower s i.val (meas.getD i.val 0))
  temps : ∀ n : Fin 16, nodeUsed s.sy.nodes[n] = true → nodeFix s.sy.nodes[n] = false →
    -21474836 ≤ y.nodes[n].temp ∧ y.nodes[n].temp ≤ 21474181

/-- A node's temperature after an evaluation: its sensor's, or the network's. -/
def evalNode (y : Steelyard) (temps : Vector Int 16) (n : Fin 16) : Node :=
  if nodeUsed y.nodes[n] && nodeFix y.nodes[n] then
    if y.ts[nodeTs y.nodes[n]].valid then
      { y.nodes[n] with temp := satTemp (toNode y.ts[nodeTs y.nodes[n]].temp) }
    else y.nodes[n]
  else { y.nodes[n] with temp := temps[n] }

theorem evaluate_steps (meas : List Nat) {s : State} (hr : s.sy.run = true) (hd : domOn s 30 = true) : ∃ y snap,
    Evaluated meas s y ∧ ∀ x, x = (List.finRange 12).foldl (fun s t => thrEval t s) { s with
      sy := y, sySnap := snap, link := { s.link with estSum := 0, estN := 0 }, freeCtr := s.freeCtr + 16 } →
    evaluate meas s =
      setCond 0xA0 ((forecastStart (thrPublish x)).sy.nodes.toList.any nodeOver) (forecastStart (thrPublish x)) := by
  have hg : (s.sy.run && domOn s 30) = true := by
    rw [hr, hd]
    rfl
  refine ⟨_, _, ?_, fun x hx => (if_pos hg).trans (by rw [hx])⟩
  refine ⟨rfl, rfl, rfl, fun i => ?_, fun n hu hf => ?_⟩
  · rw [← evalPowers_get]
    exact Vector.getElem_ofFn ..
  · have hn : (Vector.ofFn (evalNode s.sy (stepAll s.sy (s.sy.nodes.map (·.temp)) (evalPowers meas s) s.freeCtr)))[n] =
        evalNode s.sy (stepAll s.sy (s.sy.nodes.map (·.temp)) (evalPowers meas s) s.freeCtr) n := Vector.getElem_ofFn ..
    have ht : (evalNode s.sy (stepAll s.sy (s.sy.nodes.map (·.temp)) (evalPowers meas s) s.freeCtr) n).temp =
        (stepAll s.sy (s.sy.nodes.map (·.temp)) (evalPowers meas s) s.freeCtr)[n] := by
      rw [evalNode, if_neg (by rw [hu, hf]; exact Bool.false_ne_true)]
    have hb := stepAll_bounds (temps := s.sy.nodes.map (·.temp)) (p := evalPowers meas s) (k := s.freeCtr) hu hf
    rw [← ht, ← hn] at hb
    exact hb

/-! ## The end of an evaluation (R350, R354) -/

theorem forecastStart_frame (s : State) : ∃ f, forecastStart s = { s with sy := { s.sy with fc := f } } ∧
    (s.sy.fc.armed = true → f.busy = true ∧ f.armed = false) := by
  unfold forecastStart
  split
  · exact ⟨_, rfl, fun _ => ⟨rfl, rfl⟩⟩
  · next h => exact ⟨s.sy.fc, rfl, fun x => absurd x h⟩

theorem thrPublish_copies (s : State) : ∃ cp : Vector (BitVec 16) 12, thrPublish s = { s with thrCopy := cp } ∧
    ∀ i : Fin 12, cp[i] = if s.sy.thr[i].treq < s.sy.thr[i].ceil then s.sy.thr[i].treq else s.sy.thr[i].ceil :=
  ⟨_, rfl, fun _ => Vector.getElem_ofFn ..⟩

/-! ## The settling of O34 -/

/-- Settles O34: SY_CTRL and the forecast command (`syCtrl_starts`, `fcGo_arms`), an evaluation (`evaluate_steps`,
`thrEvals_only`), and the sensors (`tsRead_takes`, `disagreeSet_sets`, `setCond_follows`). -/
theorem steelyardEvaluatesAndSensorsAreChecked : Obligations.SteelyardEvaluatesAndSensorsAreChecked := by
  unfold Obligations.SteelyardEvaluatesAndSensorsAreChecked
  refine ⟨⟨fun m v s hg hv => ?_, fun m v s hg hv hr => ?_, fun m v n s hg hv hr hn => ?_, fun m v s hg hv hr hn => ?_,
      fun m s hg hb ht => ?_, fun m s hg h => ?_⟩,
    ⟨fun meas s hr hd hm0 hm4 => ?_, fun meas s h => ?_, fun i s => rfl⟩,
    fun rs s hm => ?_, fun i s hr h hp hm => ?_, fun i s h => ?_, fun i s hr h hj => ?_, fun s => rfl, fun s hp hm => ?_⟩
  · exact (exec_of_steelyard (i := .syEnable m v) rfl hg).trans (congrArg Host.Outcome.next (if_pos hv))
  · exact (exec_of_steelyard (i := .syEnable m v) rfl hg).trans (congrArg Host.Outcome.next (syCtrl_runs hv hr))
  · exact (exec_of_steelyard (i := .syEnable m v) rfl hg).trans (congrArg Host.Outcome.next (syCtrl_refuses hv hr hn))
  · obtain ⟨y, e, h1, h2, h3, h4, h5⟩ := syCtrl_starts hv hr hn
    refine ⟨_, (exec_of_steelyard (i := .syEnable m v) rfl hg).trans (congrArg Host.Outcome.next e), rfl, h1, h2,
      fun i => ?_, h4, h5⟩
    dsimp only
    rw [h3 i]
    exact ⟨rfl, rfl, rfl⟩
  · exact (exec_of_steelyard (i := .forecastGo m) rfl hg).trans (congrArg Host.Outcome.next (fcGo_arms hb ht))
  · exact (exec_of_steelyard (i := .forecastGo m) rfl hg).trans (congrArg Host.Outcome.next (if_pos h))
  · obtain ⟨y, snap, hy, hx⟩ := evaluate_steps meas hr hd
    have hthr := thrEvals_only (List.finRange 12) (s := { s with
      sy := y, sySnap := snap, link := { s.link with estSum := 0, estN := 0 }, freeCtr := s.freeCtr + 16 }) hm4
    have hx := hx _ rfl
    generalize (List.finRange 12).foldl (fun s t => thrEval t s) _ = a at *
    have hma : Mild 0xA0 a := hthr.mild _ hm0
    have ha := hthr.frame
    obtain ⟨cp, hc, hcopy⟩ := thrPublish_copies a
    obtain ⟨f, hf, harm⟩ := forecastStart_frame (thrPublish a)
    rw [hf, hc] at hx
    rw [hc] at harm
    obtain ⟨hon, hpres⟩ := setCond_follows (f := 0xA0) (s := { a with
      sy := { a.sy with fc := f }, thrCopy := cp }) (a.sy.nodes.toList.any nodeOver) (by decide) (by decide) hma
    generalize setCond 0xA0 (a.sy.nodes.toList.any nodeOver) _ = t at *
    have hsy : t.sy = { y with thr := a.sy.thr, fc := f } := by
      rw [hon, ha]
    have hnodes : a.sy.nodes = y.nodes := by rw [ha]
    have hfc : a.sy.fc = s.sy.fc := by
      rw [ha]
      exact hy.fc
    refine ⟨t, congrArg Host.Outcome.next hx, ?_, ?_, ?_, ?_, fun i => ?_, fun h => ?_, ?_, ?_, ?_, ?_, ?_, ?_⟩
    · rw [hsy]
      exact hy.count
    · rw [hsy]
      exact hy.run.trans hr
    · rw [hsy]
      exact hy.pnow
    · rw [hsy]
      exact hy.temps
    · have ht : t.thrCopy = cp := by rw [hon]
      rw [ht, hsy]
      exact hcopy i
    · rw [hsy]
      exact harm (by dsimp only; rw [hfc]; exact h)
    · rw [hon, ha]
    · rw [hsy]
      exact hpres.trans (by rw [hnodes])
    · rw [hon, ha]
    · rw [hon, ha]
    · rw [hon, ha]
    · exact memSame_of_mem (by rw [hon, ha])
  · refine congrArg Host.Outcome.next (if_neg fun e => ?_)
    rw [Bool.and_eq_true] at e
    rcases h with h | h
    · exact Bool.false_ne_true (h.symm.trans e.1)
    · exact Bool.false_ne_true (h.symm.trans e.2)
  · obtain ⟨new, val, e, hnew, hval⟩ := tsRead_takes rs s
    obtain ⟨hon, hpres⟩ := setCond_follows (f := 0xA2) (s := { s with
      sy := { s.sy with ts := new }
      adc := { s.adc with
        val := val
        valid := (List.range 8).foldl (fun v i => setBit v (18 + i) (new[Fin.ofNat 8 i].valid)) s.adc.valid }
      freeCtr := s.freeCtr + 8 }) (new.toList.any fun t => decide (tsType t ≠ 0) && !t.valid) (by decide) (by decide) hm
    rw [← e] at hon hpres
    have hx : exec (.tsSample rs) s = .next (tsRead rs s) := rfl
    generalize tsRead rs s = t at *
    have hts : t.sy.ts = new := by rw [hon]
    have hadc : t.adc.valid = (List.range 8).foldl (fun v i => setBit v (18 + i) (new[Fin.ofNat 8 i].valid)) s.adc.valid := by
      rw [hon]
    have hv : t.adc.val = val := by rw [hon]
    refine ⟨t, hx, fun i => ?_, ?_, fun j hj => ?_, ?_, ?_, ?_, ?_⟩
    · have hi := tsTaken_facts s.sy.ts[i] (rs.getD i.val (0, 0)) (s.freeCtr + i.val)
      rw [← hnew i, ← hts] at hi
      refine ⟨hi.1, ?_, hi.2⟩
      have hfin : Fin.ofNat 8 i.val = i := Fin.ext (Nat.mod_eq_of_lt i.isLt)
      rw [hadc, valid_bits _ (fun i => new[Fin.ofNat 8 i].valid) i.val i.isLt, hts]
      exact congrArg (fun j : Fin 8 => new[j].valid) hfin
    · rw [hts]
      exact hpres
    · rw [hv]
      exact hval j hj
    · rw [hon]
    · rw [hon]
    · rw [hon]
    · exact memSame_of_mem (by rw [hon])
  · exact ⟨_, congrArg Host.Outcome.next (disagreeSet_sets hr h), setCond_rises (by decide) hp hm⟩
  · refine congrArg Host.Outcome.next (if_neg fun e => ?_)
    rcases h with h | h
    · exact Bool.false_ne_true (h.symm.trans e.1)
    · exact absurd e.2 (Nat.not_le.mpr h)
  · exact congrArg Host.Outcome.next (disagreeClear_clears hr h hj)
  · exact ⟨_, rfl, setCond_rises (by decide) hp hm⟩

end Sys2Proof.Machine
end
